-- ==== Sys2Proof/Word.lean ====
section
/-! DEFINITION. The plain word arithmetic the manual's value formats rest on (spec/00_scope.md R6 to R14): bytes,
least-significant-byte-first packing, two's-complement readings of a width, saturation, and rounding divisions.
Instants and register values are held as `Nat` or `Int`; a value that lives in a register of w bits is reduced
modulo 2^w where the manual says it wraps. -/

namespace Sys2Proof

/-- One byte. -/
abbrev Byte := BitVec 8

/-- A run of bytes, in the order the medium carries them. -/
abbrev Bytes := List Byte

/-- A byte from a number, modulo 256. -/
def byte (n : Nat) : Byte := BitVec.ofNat 8 n

/-- The number a run of bytes holds, least significant byte first (R14). -/
def leNat : Bytes → Nat
  | [] => 0
  | b :: bs => b.toNat + 256 * leNat bs

/-- `n` bytes of a number, least significant first (R14). -/
def leBytes : Nat → Nat → Bytes
  | 0, _ => []
  | n + 1, v => byte v :: leBytes n (v / 256)

/-- The number a run of bytes holds, most significant byte first (network order). -/
def beNat (bs : Bytes) : Nat := bs.foldl (fun a b => a * 256 + b.toNat) 0

/-- `n` bytes of a number, most significant first. -/
def beBytes (n v : Nat) : Bytes := (leBytes n v).reverse

/-- A number read as two's complement of `w` bits. -/
def signed (w n : Nat) : Int :=
  if n % 2 ^ w < 2 ^ (w - 1) then (n % 2 ^ w : Nat) else (n % 2 ^ w : Nat) - (2 ^ w : Nat)

/-- The `w` low bits of an integer as a number. -/
def unsigned (w : Nat) (i : Int) : Nat := (i % (2 ^ w : Nat)).toNat

/-- Saturation at the limits of signed 64-bit (R9). -/
def sat64 (i : Int) : Int :=
  if i < -(2 ^ 63 : Nat) then -(2 ^ 63 : Nat) else if i > (2 ^ 63 - 1 : Nat) then (2 ^ 63 - 1 : Nat) else i

/-- Clamp into `[lo, hi]`. -/
def clampInt (lo hi i : Int) : Int := if i < lo then lo else if i > hi then hi else i

/-- The signed 64-bit difference of two short times (R8, R60). -/
def stDiff (a b : Nat) : Int := signed 64 (a + 2 ^ 64 - b % 2 ^ 64)

/-- `a` is at or after `b` (R60). -/
def stGe (a b : Nat) : Bool := 0 ≤ stDiff a b

/-- Floor division of an integer by a positive number. -/
def floorDiv (i : Int) (n : Nat) : Int := i.fdiv n

/-- Ceiling division of naturals (0 when the divisor is 0). -/
def ceilDiv (a b : Nat) : Nat := (a + b - 1) / b

/-- Rounding to the nearest, ties upward. -/
def roundDiv (i : Int) (n : Nat) : Int := (2 * i + n).fdiv (2 * n)

/-- Units of 2^-16 ns in one second (R55). -/
def unitsPerSec : Nat := 65536000000000

/-- Units of 2^-16 ns in `n` nanoseconds. -/
def ns16 (n : Nat) : Nat := n * 65536

/-- Bit `i` of a number. -/
def bitOf (n i : Nat) : Bool := n.testBit i

/-- 1 or 0. -/
def boolNat (b : Bool) : Nat := if b then 1 else 0

/-- Number of one bits among the low `w` bits. -/
def popcount : Nat → Nat → Nat
  | 0, _ => 0
  | w + 1, n => n % 2 + popcount w (n / 2)

/-- Clear the bits of `m` in `n`. -/
def clearBits (n m : Nat) : Nat := n ^^^ (n &&& m)

/-- The integer square root, by binary descent over `k` bits. -/
def isqrtBits : Nat → Nat → Nat → Nat
  | 0, _, r => r
  | k + 1, n, r => if (r + 2 ^ k) * (r + 2 ^ k) ≤ n then isqrtBits k n (r + 2 ^ k) else isqrtBits k n r

/-- The integer square root of a number below 2^256. -/
def isqrt (n : Nat) : Nat := isqrtBits 128 n 0

/-- Element `i` of a list, or a default. -/
def nth {α : Type} (l : List α) (i : Nat) (d : α) : α := l.getD i d

/-- Replace element `i` of a list (no change past its end). -/
def setNth {α : Type} (l : List α) (i : Nat) (a : α) : List α := l.set i a

/-- Change element `i` of a list. -/
def modNth {α : Type} (l : List α) (i : Nat) (f : α → α) : List α := l.modify i f

/-- Build a list of `n` elements from their indices. -/
def tabulate {α : Type} (n : Nat) (f : Nat → α) : List α := (List.range n).map f

/-- Text as bytes, one per character below 256. -/
def strBytes (s : String) : Bytes := s.toList.map (fun c => byte c.toNat)

end Sys2Proof
end

