-- ==== Sys2Proof/Syntax.lean ====
section
/-! DEFINITION. The commands of the IDY-7840 (spec/opcode_table.json) and their operands. A unit number is a `Fin`, so
no command names a unit the device does not have. A `roles` operand is the role mask of the credential that makes an
access (bit 0 Observer, 1 Operator, 2 Timekeeper, 3 Keyholder; R348). What a command measures or receives from
outside (a capture, a frame, a sample) is its operand. -/

namespace Sys2Proof

/-- How a moon's three copies disagree in one tick (R51): one copy differs from the others, or no two of those in use
agree. -/
inductive UpsetKind where
  | one (copy : Fin 3)
  | split
  deriving DecidableEq, Repr

/-- A disagreement of the copies of one moon. -/
structure CopyUpset where
  moon : Fin 32
  kind : UpsetKind
  deriving DecidableEq, Repr

/-- A checker that answers wrongly or not at all in a self-check pass (R406): its block and the cause rows it serves. -/
structure CheckerFail where
  block : Fin 24
  rows : List Nat
  deriving DecidableEq, Repr

/-- What a frame in packet memory or a transfer of the interconnect belongs to (Table 20-2, block 19): a request waiting in an answer
pipeline, or a reservation of a port, each by its place. -/
inductive PacketOwner where
  | request (pipe : Fin 16) (place : Nat)
  | timed (port : Fin 32) (place : Nat)
  deriving DecidableEq, Repr

/-- The memories a scrubber reads (R407). -/
inductive EccMemory where
  | state
  | schedule
  | calendar
  | keyStore
  | reference
  | gnss
  | selector
  | steering
  | operand
  | host
  | front
  | packet
  deriving DecidableEq, Repr

/-- What an ECC word holds (R70, R106, R163, R188, R196, R219, R237, R276, R294, R322, R342, Table 6-7, Table 20-2). -/
inductive EccCell where
  | schedEntry (entry : Fin 1024)
  | rule (rule : Fin 1024)
  | service (v6 : Bool) (entry : Fin 256)
  | answerRule (rule : Fin 256)
  | rateProfile (profile : Fin 16)
  | bucket (bucket : Fin 2097152)
  | latch (moon : Fin 32)
  | reservation (port : Fin 32) (place : Nat)
  | slotKey (slot : Fin 16)
  | seed
  | grant (client : Nat)
  | refConfig
  | orbit (system : Fin 4) (prn : Nat)
  | gnssConfig
  | matrix
  | slotHistory (slot : Fin 64)
  | selMoon (moon : Fin 32)
  | steering
  | operand (word : Nat)
  | operandSlot (slot : Fin 1024)
  | ringCache (tx : Bool) (ring : Fin 128)
  | txFrame (ring : Fin 128) (first : Nat)
  | rxFrame (port : Fin 32) (place : Nat)
  | tailEntry (port : Fin 32) (place : Nat)
  | writeQueue (place : Nat)
  | packet (owner : PacketOwner)
  deriving DecidableEq, Repr

/-- What else the hardware detects within a tick: a parity error of a fault block's registers (R408), of the tick bus or of the fuse
shadow (Table 20-2), a disagreement of the boundary sequencer's copies, a parity error of a counter (R390: an event number, 0x1000 + w
for window counter w, 0x1100 + o for occupancy counter o), a mismatch of the supervisor pair, an error read from DDR, an interconnect
parity error, an uncorrectable flash read, a self-check pass that overruns, and an error the ECC of an on-die memory finds on a
read. -/
inductive TickHit where
  | register (block : Fin 24)
  | tickBus
  | fuseShadow
  | sequencer
  | counter (which : Nat)
  | lockstep
  | ddr (uncorrectable : Bool)
  | interconnect (owner : PacketOwner)
  | flashRead
  | selfcheckOverrun
  | memory (cell : EccCell) (uncorrectable : Bool)
  deriving DecidableEq, Repr

/-- A write of a leap entry: one member, or the whole record (R54). -/
inductive LeapWrite where
  | instant (v : Nat)
  | offset (v : Int)
  | valid (v : Nat)
  | whole (instant : Nat) (offset : Int) (valid : Nat)
  deriving DecidableEq, Repr

/-- A write that names a schedule entry (R70): the whole record's members 1 to 6, or one of its members 1 to 6 or
8 to 12. -/
inductive SchedWrite where
  | whole (target moon action arg : Nat) (period : Int) (repeat_ : Nat)
  | single (member : Nat)
  deriving DecidableEq, Repr

/-- What the copies compared at a closing tick (R276, R294): whether the selector's copies, a moon's loop copies and the
model's copies disagree. -/
structure ClosingInputs where
  selectorDisagree : Bool
  loopDisagree : List (Fin 32)
  modelDisagree : Bool
  deriving DecidableEq, Repr

/-- The equalizer of a lane at a boundary (R117): the settings it steps to, and the table terms of those settings. -/
structure EqStep where
  lane : Fin 32
  ctle : Nat
  ffe : Nat
  anaRx : Int
  drvTx : Int
  deriving DecidableEq, Repr

/-- What a SINE input's peak detectors measured over a boundary, in mV (R213). -/
structure SlicePeaks where
  input : Fin 8
  high : Int
  low : Int
  deriving DecidableEq, Repr

/-- What a SyncE comparator captured at a boundary: its phase against moon 0, unwrapped, in 2^-16 ns (R224). -/
structure SyncePhase where
  lane : Fin 32
  phase : Int
  deriving DecidableEq, Repr

/-- What the units measured for a boundary: equalizer steps (R117), slicer peaks, SyncE phases, how far each measurement
unit's test edge lay from its place in ps (REFIN n at n, comparator c at 8 + c; R219), and the thermistor's resistance in ohms with the die sensors in
1/128 °C (R292). -/
structure BoundaryInputs where
  eq : List EqStep
  peaks : List SlicePeaks
  synce : List SyncePhase
  testEdges : List (Nat × Int)
  therm : Nat
  dies : List Int
  deriving DecidableEq, Repr

/-- A frame as a port's receiver has it: the port, its bytes from the destination address through the FCS, whether an
uncorrectable codeword touched it, the codewords corrected and not corrected and the symbols corrected with it (R88),
the capture c as a moon 0 linear count (R113), the lane of its reference symbol, and the per-frame terms dsk and fec_rx
(Table 5-2). -/
structure RxFrame where
  port : Fin 32
  bytes : Bytes
  fecFail : Bool
  corrected : Nat
  uncorrected : Nat
  symbols : Nat
  capture : Nat
  lane : Fin 32
  dsk : Int
  fecRx : Int
  deriving DecidableEq, Repr

/-- A grid instant of a port's transmit stream (R149): the instant in 2^-16 ns, the stream block, the lane that carries
it and the pos_tx term there, the block's index in its calendar window and the blocks of that window (R156), and the
block period. -/
structure GridPoint where
  at_ : Nat
  block : Nat
  lane : Fin 32
  pos : Int
  index : Nat
  blocks : Nat
  period : Nat
  deriving DecidableEq, Repr

/-- A write of a record: one member, or every writable member at once (R345). -/
inductive RecWrite where
  | member (m : Nat) (v : Int)
  | whole (vs : List Int)
  deriving DecidableEq, Repr

/-- Why a link is lost (R86, R87): alignment-marker lock, FEC lock, or a partner that offers only other modes. -/
inductive LinkLoss where
  | marker
  | fec
  | otherModes
  deriving DecidableEq, Repr

/-- A descriptor with what the device reads of host memory for it (Table 16-6): the buffer's bytes, or a read that fails
(R342). -/
structure TxDesc where
  addr : Nat
  lt : Nat
  bufLen : Nat
  slack : Nat
  tag : Nat
  word3 : Nat
  data : Bytes
  deriving DecidableEq, Repr

/-- A calibration item (Table 5-4); a GNSS delay is named by 2f + b, an oscillator coefficient by its place. -/
inductive CalItem where
  | laneRx (lane : Fin 32)
  | laneTx (lane : Fin 32)
  | refin (n : Fin 8)
  | antenna (u : Fin 4)
  | cable (u : Fin 4)
  | seed (i : Fin 6)
  deriving DecidableEq, Repr

/-- What is due of the PTP engine (R197): a grant's message, by the client's place in the grant table and the
messageType, or a multicast Sync or Announce of an instance on a port. -/
inductive PtpDue where
  | grant (client type : Nat)
  | multicast (inst : Fin 32) (port : Fin 32) (announce : Bool)
  deriving DecidableEq, Repr

/-- A stream pair of one GNSS band over a sample block (R230): 16-bin histograms of I and Q, and whether I and Q are
identical sample for sample. -/
structure BandStats where
  iHist : List Nat
  qHist : List Nat
  same : Bool
  deriving DecidableEq, Repr

/-- What a channel's loops show at an integration (R232, R235): lock, C/N0 in 0.01 dB-Hz, and the satellite's elevation and
azimuth in 0.1 degree. -/
structure ChanObs where
  channel : Fin 128
  locked : Bool
  cn0 : Nat
  elevation : Int
  azimuth : Nat
  deriving DecidableEq, Repr

/-- A sample block of a front end: both bands' statistics, the tap 6 noise floors in 0.01 dB, and the channels' loops. -/
structure SampleBlock where
  upper : BandStats
  lower : BandStats
  floorUpper : Int
  floorLower : Int
  chans : List ChanObs
  deriving DecidableEq, Repr

/-- A detection of the search (R235, R236): the band (true for the lower), satellite, whether a second dwell confirmed it, its
C/N0, predicted elevation where orbit data exists, and its code phase in 2^-16 ns and Doppler in Hz from their
predictions. -/
structure SearchHit where
  lower : Bool
  system : Fin 4
  prn : Nat
  confirmed : Bool
  cn0 : Nat
  elevation : Option Int
  code : Int
  doppler : Int
  deriving DecidableEq, Repr

/-- A solution of the solver without some satellites (R247), each as 256 × system + PRN: the largest residual, moon 0's
reading less the system time of time_ref before the hardware delay, the frequency offset (R240), the 1σ time uncertainty,
all times in 2^-16 ns, and the shares in 2^-16 of the estimate that rest on single-band satellites of the upper and the
lower band (R242). -/
structure GnssTrial where
  excluded : List Nat
  worst : Nat
  clock : Int
  ff : Int
  sigma : Nat
  shareUpper : Nat
  shareLower : Nat
  deriving DecidableEq, Repr

/-- Navigation data decoded (R237, R243, R244): an ephemeris with its validity in TAI seconds and whether the satellite's week
is fixed, an almanac, or the broadcast TAI − UTC with the next leap's UTC instant and change. -/
inductive NavItem where
  | ephemeris (system : Fin 4) (prn from_ until_ : Nat) (week : Bool)
  | almanac (system : Fin 4) (prn : Nat)
  | leap (system : Fin 4) (taiUtc : Int) (instant : Nat) (delta : Int)
  deriving DecidableEq, Repr

/-- A solution epoch of a front end (R240): whether the two datapaths agree (R253), the TAI second it decodes, the systems whose
broadcast time offset is known (bit per system), system time less UTC by the broadcast model where one is held, the
trials, the same from authenticated Galileo satellites alone (R249), the position with its uncertainties and those of the
survey's average in mm, how far the implied position lies from the held one in mm (R246), the PDOP × 100 and the
navigation data decoded since the last epoch. -/
structure GnssEpoch where
  agree : Bool
  now : Nat
  broadcast : Nat
  utc : Option Int
  trials : List GnssTrial
  auth : Option GnssTrial
  lat : Int
  lon : Int
  height : Int
  sigmaH : Nat
  sigmaV : Nat
  avgSigmaH : Nat
  avgSigmaV : Nat
  posDev : Nat
  pdop : Nat
  nav : List NavItem
  deriving DecidableEq, Repr

/-- What the OSNMA verifier found (R248): the public key against the Merkle root with the key's type, a DSM-KROOT
signature, a TESLA key, or the tags of a satellite's data, with whether every item it uses has now passed. -/
inductive OsnmaResult where
  | publicKey (good : Bool) (keyType : Nat)
  | kroot (good : Bool)
  | teslaKey (good : Bool)
  | tag (prn : Nat) (good complete : Bool)
  deriving DecidableEq, Repr

/-- A public-key command record without its operation (Table 15-1): tag, destination slots, source slots 0 to 6 (0xFFFF names
none), key handle (0xFF for none) and message length. -/
structure PkCmd where
  tag : Nat
  dst0 : Nat
  dst1 : Nat
  src : List Nat
  key : Nat
  msgLen : Nat
  deriving DecidableEq, Repr

/-- How a running public-key command ends (R317, R322): in full, or stopped at a number of cycles from dispatch by an
uncorrectable word it read or by the residue check. -/
inductive PkEnd where
  | full
  | ecc (word cycles : Nat)
  | fault (cycles : Nat)
  deriving DecidableEq, Repr

/-- What an NTS-KE client's TLS hello offers (R182): what the device supports, none of it, or no ALPN. -/
inductive KeHello where
  | ok
  | none
  | noAlpn
  deriving DecidableEq, Repr

/-- A write of a window context's registers (Table 16-13): its req_len, or bytes of its request buffer at an offset. -/
inductive WindowWrite where
  | reqLen (n : Nat)
  | request (offset : Nat) (bytes : Bytes)
  deriving DecidableEq, Repr

/-- The commands: one constructor for each row of spec/opcode_table.json, in its order. -/
inductive Instr where
  /-- The time clock advances the tick counter by one, and every enabled moon adds its active increment to its accumulator (R22). -/
  | tick (upsets : List CopyUpset) (hits : List TickHit)
  /-- Staging for the coming boundary closes 65,536 ticks before it, and the next epoch records and that boundary's decisions are sealed (R24). -/
  | closingTick (inp : ClosingInputs)
  /-- The boundary sequencer performs the actions of Table 1-3 for all moons in one tick (R25). -/
  | steerBoundary (inp : BoundaryInputs)
  /-- Every 1,024 ticks the monitor compares the time clock with the core clock and the ring oscillator, and two failures raise FATAL (R21). -/
  | timeClockMonitor (coreDev ringDev : Int)
  /-- The time-clock PLL reports loss of lock, and a FATAL fault is raised in the timeline block (R21). -/
  | timeClockPllUnlock
  /-- The core PLL loses lock, and a FATAL fault is raised in block 20 (R396). -/
  | corePllUnlock
  /-- The DDR PLL loses lock, the control cores are held, and a CONTAINED fault is raised (R396). -/
  | ddrPllUnlock
  /-- A SerDes group PLL loses lock, and the group's ports go down (R396). -/
  | serdesPllUnlock (group : Fin 8)
  /-- Jump consent expires 10 s of moon 0 time after its write was accepted (R47). -/
  | consentExpiry (moon : Fin 32)
  /-- An armed compare cell fires when its moon's short time reaches the target, sets reached and raises its event (R61). -/
  | compareCellFire (moon : Fin 32) (cell : Fin 4)
  /-- A write of MOON_CONFIG.enable schedules enabling or disabling of the moon at the next boundary (R39). -/
  | moonConfigEnableWrite (moon : Fin 32) (value roles : Nat)
  /-- A Timekeeper write stages an increment for an OPEN moon, or is refused with MODE (R41). -/
  | moonIncStagedWrite (moon : Fin 32) (value roles : Nat)
  /-- A write stages or cancels a phase step for evaluation at the next closing tick (R45). -/
  | moonStepStagedWrite (moon : Fin 32) (value : Int) (roles : Nat)
  /-- A write of a nonzero bound arms jump consent for 10 s, and a write of zero disarms it (R47). -/
  | moonConsentWrite (moon : Fin 32) (bound : Int) (roles : Nat)
  /-- A write of MOON_SET.value stores the value and arms the set (R68). -/
  | moonSetValueWrite (moon : Fin 32) (value roles : Nat)
  /-- A write of 0 to MOON_SET.armed cancels the set, and a write of 1 alone is refused (R68). -/
  | moonSetArmedWrite (moon : Fin 32) (value roles : Nat)
  /-- A whole-record write of MOON_SET stores the value, and either arms the set or leaves it unarmed (R68). -/
  | moonSetRecordWrite (moon : Fin 32) (armed value roles : Nat)
  /-- A write of the leap table base offset is judged against the table as it would stand after the write (R54). -/
  | leapBaseWrite (value : Int) (roles : Nat)
  /-- A write of a leap entry member or record is checked under Table 2-3, and the leap trackers are recomputed (R54). -/
  | leapEntryWrite (entry : Fin 32) (w : LeapWrite) (roles : Nat)
  /-- A write of a target short time arms a compare cell, or is refused when it lies more than 2^46 ns ahead (R61). -/
  | moonCmpTargetWrite (moon : Fin 32) (cell : Fin 4) (target roles : Nat)
  /-- A whole write of a schedule entry records its writer's roles and arms it as ARMED or LATE, or refuses it (R75). -/
  | schedEntryWrite (entry : Fin 1024) (w : SchedWrite) (roles : Nat)
  /-- A write of 0 to member 7 empties an entry that is not QUEUED (R70). -/
  | schedEntryEmpty (entry : Fin 1024) (value roles : Nat)
  /-- Every 1,024 ticks a pass converts the targets of ARMED entries due in the window to moon 0 instants and queues them (R76). -/
  | schedEvaluationPass
  /-- A firing PULSE entry passes its moon 0 instant to the output engine, which places an edge (R82). -/
  | pulse (entry : Fin 1024)
  /-- A firing SNAPSHOT captures the selected counter pages and all moon short times into SCHED_SNAP (R71). -/
  | snapshot (entry : Fin 1024)
  /-- A firing WINDOW closes and reopens each selected window counter and applies pending event changes (R386). -/
  | window (entry : Fin 1024)
  /-- A firing CAL_WINDOW opens or closes a board-delay measurement window on the masked ports (R126). -/
  | calWindow (entry : Fin 1024)
  /-- A firing KEY_ROTATE makes the named master key slot CURRENT, or is refused with EMPTY_SLOT (R173). -/
  | keyRotate (entry : Fin 1024)
  /-- A firing SWITCH sends a planned switch request to the selector for the next boundary (R272). -/
  | switch (entry : Fin 1024)
  /-- A firing DICT_WRITE applies its dictionary write at the firing tick, ahead of the queue and under the recorded roles (R72). -/
  | dictWrite (entry : Fin 1024)
  /-- A firing EVENT raises the schedule event source (R71). -/
  | event (entry : Fin 1024)
  /-- A leap tracker entry fires, raises its moon's leap event source and re-arms to the following point (R74). -/
  | leapPoint (moon : Fin 32)
  /-- A mode write takes the group's ports down, discards their reservations, reallocates cells and retrains them (R85). -/
  | laneGroupModeWrite (group : Fin 8) (value roles : Nat)
  /-- A write of PORT_CONFIG.enable holds the port's link down, or starts negotiation and training (R87). -/
  | portEnableWrite (port : Fin 32) (value roles : Nat)
  /-- A write of a lane's interface takes its port down and retrains it with the new tables (R118). -/
  | laneIfWrite (lane : Fin 32) (value roles : Nat)
  /-- A port's PCS reports alignment-marker lock on all lanes and its FEC locks, so link becomes 1 (R87). -/
  | linkUp (port : Fin 32)
  /-- A port loses alignment or FEC lock: link and ts_valid fall, and every reservation is discarded with MISS_LINK (R87). -/
  | linkDown (port : Fin 32) (cause : LinkLoss)
  /-- A received frame passes FEC, FCS and length checks, consumption, tag parsing and classification, and goes to its engine or ring (R99). -/
  | frameReceive (frame : RxFrame)
  /-- The MAC repeats the XOFF each time half its quanta have elapsed (R94). -/
  | pauseXoffRepeat (port : Fin 32)
  /-- A received pause's quanta elapse, and transmission of the stopped priorities resumes (R93). -/
  | pauseEnd (port : Fin 32)
  /-- No ESMC frame for 5 s clears ql_rx_valid, counts esmc_timeout and sets QL-FAILED (R97). -/
  | esmcTimeout (port : Fin 32)
  /-- A port with esmc_enable sends its information ESMC PDU once each second (R98). -/
  | esmcInfoPdu (port : Fin 32)
  /-- A commit checks every valid edit-bank rule and sets commit_tick to t + 4,096, or is refused (R105). -/
  | ruleCommit (value roles : Nat)
  /-- At commit_tick the new bank classifies frames and is copied into the edit bank (R105). -/
  | ruleCommitTakeEffect
  /-- The copy of the active bank into the edit bank ends, and edits and commits are accepted again (R105). -/
  | ruleBankCopyDone
  /-- A write of a service address entry is checked for duplicates and range and applied (R100). -/
  | serviceEntryWrite (v6 : Bool) (entry : Fin 256) (w : RecWrite) (roles : Nat)
  /-- A received alignment marker closes the receive model, updates ser_rx and res_rx, and pairs loopback samples (R119). -/
  | alignmentMarkerRx (lane : Fin 32) (serRx closure : Int) (loopback : Option Int)
  /-- The wire-echo comparator measures a launched marker or timed frame and records its echo error (R120). -/
  | echoResult (lane : Fin 32) (timed : Bool) (serTx error : Int)
  /-- A released timed frame with no echo within 512 ticks raises a CONTAINED fault for the port (R120). -/
  | echoMissing (port : Fin 32)
  /-- A Timekeeper write of a calibration item sets its origin USER and takes effect at the next boundary (R124). -/
  | calItemWrite (item : CalItem) (value : Int) (roles : Nat)
  /-- Within 1 s the changed calibration item replaces the stored value in both copies (R124). -/
  | calStoreWrite
  /-- A write of a port mask opens board-delay measurement windows and resets CAL_MEAS (R126). -/
  | calCtrlOpen (mask roles : Nat)
  /-- A write of a port mask closes measurement windows and freezes CAL_MEAS (R126). -/
  | calCtrlClose (mask roles : Nat)
  /-- A pipeline accepts a request and takes it through the checks of Table 6-3 to one outcome (R133). -/
  | answerRequest (pipe : Fin 16) (grid : List GridPoint) (crcFail : Bool)
  /-- The independent checker recomputes a sampled response and compares it, and on mismatch takes the pipeline out of service (R145). -/
  | checkerCompare (pipe : Fin 16) (agrees : Bool)
  /-- A pipeline that releases no sampled response for 2^18 ticks is given a synthetic probe request (R145). -/
  | checkerProbe (pipe : Fin 16) (agrees : Bool)
  /-- A write of 1 returns a pipeline to service, and it takes a probe before its first request (R146). -/
  | pipeReenable (pipe : Fin 16) (value roles : Nat)
  /-- A write of 1 draws a new bucket hash key, and every bucket is reset over the next 2^21 core cycles (R143). -/
  | ansRekey (value roles : Nat)
  /-- A sweep refills each rate-limit bucket once every 2^39 ticks without subtracting (R141). -/
  | bucketSweep (bucket : Fin 2097152) (profile : Fin 16)
  /-- A write of an answer rule member applies to requests received from 4,096 ticks after acceptance, keeping the old values meanwhile (R132). -/
  | ansRuleWrite (rule : Fin 256) (w : RecWrite) (roles : Nat)
  /-- A write of version, address or profile computes the bucket index and contents at that tick (R148). -/
  | ansPeekWrite (w : RecWrite) (roles : Nat)
  /-- A launch-time descriptor at a ring's head is taken once LT lies within 64 µs, and placed or discarded (R159). -/
  | hostLaunchTake (ring : Fin 128) (grid : List GridPoint)
  /-- A host timed frame still waiting for room is placed again every 1,024 ticks (R159). -/
  | hostLaunchRetry (ring : Fin 128) (grid : List GridPoint)
  /-- At the release point less margin_live, the MAC starts fetching a timed frame into its FIFO and measures the fetch latency (R162). -/
  | timedFetchStart (port : Fin 32) (latency : Nat)
  /-- At its release point a reservation's start block is released to the PCS, or discarded with a miss cause (R160). -/
  | frameRelease (port : Fin 32) (short : Bool)
  /-- An untimed frame starts once it and a 12-byte gap fit before the next reservation (R157). -/
  | untimedTxStart (port : Fin 32) (block : Nat)
  /-- The command loads an EMPTY slot with a key drawn from the DRBG and sets it ACCEPT (R172). -/
  | ntsSlotLoadLocal (slot : Fin 16) (roles : Nat)
  /-- The command derives the slot key from the station seed and generation and sets it ACCEPT (R176). -/
  | ntsSlotLoadStation (slot : Fin 16) (roles : Nat)
  /-- The command loads the slot with the key last written to NTS_SLOT.key and sets it ACCEPT (R172). -/
  | ntsSlotLoadImport (slot : Fin 16) (roles : Nat)
  /-- The command makes the slot CURRENT for requests from the accepted tick plus 4,096 ticks (R173). -/
  | ntsSlotMakeCurrent (slot : Fin 16) (roles : Nat)
  /-- The command zeroises an ACCEPT slot and makes it EMPTY (R174). -/
  | ntsSlotRetire (slot : Fin 16) (roles : Nat)
  /-- Once each moon 0 second, ACCEPT slots older than retire_after are retired (R174). -/
  | slotRetireCheck
  /-- A Keyholder write sets the station seed and updates seed_check (R176). -/
  | ntsStationSeedWrite (seed roles : Nat)
  /-- Within 1 s of a change, the key store is written to flash as two copies with CRC (R175). -/
  | keyStoreWrite (good : Bool)
  /-- The DRBG reseeds from the entropy source every 2^20 generate calls, and stops on a health-test failure (R178). -/
  | drbgReseed (healthy : Bool)
  /-- A stopped DRBG retries seeding once each second and resumes after 1,024 good samples (R178). -/
  | drbgRetry (good : Nat)
  /-- Firmware accepts an NTS-KE TCP SYN, or answers it with RST for rate, sessions or shedding (R184). -/
  | ntsKeSyn (port : Fin 32) (frame : Bytes)
  /-- Firmware answers an NTS-KE request with protocol, AEAD, cookies and End of Message, or an error (R183). -/
  | ntsKeRequest (session : Nat) (hello : KeHello) (request : Bytes) (c2s s2c : Nat)
  /-- An NTS-KE session not ended within 10 s of its SYN is reset (R184). -/
  | ntsKeSessionTimeout (session : Nat)
  /-- The command generates the NTS-KE server key in the key store, replacing any key held (R182). -/
  | ntsKeKeyGenerate (roles : Nat)
  /-- A frame delivered to a PTP instance or upstream unit is checked and handled by message type (R192). -/
  | ptpReceive (grid : List GridPoint)
  /-- A grant reaches its expiry tick, and the client's entry is freed when it was the last grant (R195). -/
  | grantExpiry (client type : Nat)
  /-- A grant or multicast stream reaches its due tick, and its message is issued and placed (R197). -/
  | ptpMessageDue (due : PtpDue) (grid : List GridPoint)
  /-- An upstream unit renews a grant when 75 % of its duration has passed (R207). -/
  | upstreamRenew (unit_ : Fin 16) (grid : List GridPoint)
  /-- A Sync with no Follow_Up within 1 s is discarded (R207). -/
  | followUpTimeout (unit_ : Fin 16)
  /-- An upstream unit whose grant was denied retries after 60 s (R208). -/
  | upstreamRetry (unit_ : Fin 16)
  /-- A compare edge is captured, corrected, checked and delivered as a phase and frequency measurement to the selector slot (R214). -/
  | refinCompareEdge (input : Fin 8) (capture : Nat) (shortLevel : Bool) (width : Nat)
  /-- No compare edge by its deadline sets STUCK and fails the input (R216). -/
  | refinStuck (input : Fin 8)
  /-- A write of REFIN_CFG or REFIN_QUAL sends the input to QUALIFYING at the next boundary (R212). -/
  | refinConfigWrite (input : Fin 8) (qual : Bool) (w : RecWrite) (roles : Nat)
  /-- A received time-of-day message labels a PPS edge, or is discarded as late, bad or mismatched (R225). -/
  | todInMessage (text : Bytes) (framingError : Bool)
  /-- No publication from the sibling member for 3 s sets SIBLING_STALE (R222). -/
  | siblingStale (input : Fin 8)
  /-- Every 62,500 samples the baseband forms sample statistics and tests FROZEN and NOISE (R230). -/
  | gnssSampleBlock (fe : Fin 2) (block : SampleBlock)
  /-- The check channel ends its 12 ms shadow of a channel, and sets UNIT on a disagreement (R234). -/
  | checkChannelPass (channel : Fin 128) (run : Nat)
  /-- An 8 ms dwell of the search cells ends, and detections are confirmed and assigned channels (R235). -/
  | acquisitionDwell (fe : Fin 2) (hits : List SearchHit)
  /-- At each epoch the solver forms, checks and delivers the time offset, frequency and position (R240). -/
  | gnssSolutionEpoch (fe : Fin 2) (epoch : GnssEpoch)
  /-- A channel whose satellite stays below cn0_min for 10 s, or sets below the mask, is released (R232). -/
  | channelRelease (channel : Fin 128)
  /-- A satellite excluded by RAIM rejoins after 60 s (R247). -/
  | raimRejoin (channel : Fin 128)
  /-- The OSNMA verifier checks keys and tags of received navigation data, and marks satellites AUTHENTICATED or FAILED (R248). -/
  | osnmaVerify (result : OsnmaResult)
  /-- A satellite's FAILED mark ends after 300 s (R248). -/
  | osnmaFailExpiry (prn : Nat)
  /-- GNSS_ANT_FLT_N going low sets ANTENNA when antenna_fault is 1 (R250). -/
  | antennaFaultPin (fe : Fin 2) (low : Bool)
  /-- Firmware copies the orbits to the GNSS store every hour or on a write of save (R237). -/
  | gnssStoreSave (write : Option (Int × Nat))
  /-- A write of the held position sets origin USER and valid 1 from the next epoch (R246). -/
  | gnssHeldWrite (w : RecWrite) (roles : Nat)
  /-- A write of a GNSS_FE member or global system setting sends each enabled front end to SEARCHING (R251). -/
  | gnssConfigWrite (fe : Option (Fin 2)) (w : RecWrite) (roles : Nat)
  /-- Once per second the selector samples each TIME slot and updates its TDEV and MTIE figures (R260). -/
  | stabilityUpdate
  /-- A slot with no measurement for its silence time is disqualified with SILENT (R264). -/
  | slotSilent (slot : Fin 64)
  /-- After asym_time against an independent slot, the asymmetry is rewritten, and PATH_CHANGE clears (R268). -/
  | asymEstimate (slot : Fin 64)
  /-- A slot's wait-to-restore passes with no cause, and the slot becomes ELIGIBLE (R269). -/
  | waitToRestoreEnd (slot : Fin 64)
  /-- The command clears PHASE_JUMP and PATH_CHANGE and rebases the slot's prediction (R265). -/
  | acceptJump (slot : Fin 64) (roles : Nat)
  /-- The command ends a slot's wait-to-restore at once (R269). -/
  | clearWtr (slot : Fin 64) (roles : Nat)
  /-- The command restarts a slot's stability history (R260). -/
  | resetStability (slot : Fin 64) (roles : Nat)
  /-- A write of row or col computes one pair of the comparison matrix at that tick (R277). -/
  | selPeekWrite (w : RecWrite) (roles : Nat)
  /-- A write of force names a slot to select for a moon, or ends forcing (R272). -/
  | selForceWrite (moon : Fin 32) (value roles : Nat)
  /-- A change between CLOSED and OPEN at the next boundary stops the loop, or loads it from the active increment (R279). -/
  | steerModeWrite (moon : Fin 32) (value roles : Nat)
  /-- The command brings the moon to FREE RUN and resets its filter, replica and lock history (R285). -/
  | restart (moon : Fin 32) (value roles : Nat)
  /-- The command restarts the oscillator model fit from OSC_SEED (R293). -/
  | restartModel (value roles : Nat)
  /-- Once per second the model takes an observation and updates its fit, or restarts it on persistent disagreement (R293). -/
  | modelObservation
  /-- A synthesizer reports lock, and its held outputs restart (R297). -/
  | synthLock (synth : Fin 4)
  /-- A synthesizer that loses lock squelches its outputs and raises a CONTAINED fault (R306). -/
  | synthUnlock (synth : Fin 4)
  /-- A placed pulse edge is launched at the ball and captured by its comparator, and excessive errors squelch the output (R302). -/
  | ppsoutEdge (output : Fin 4) (error : Int)
  /-- start_ms after a PPSOUT edge, the time-of-day message labelling it is sent (R305). -/
  | todOutMessage
  /-- A write of PPSOUT rebuilds its device schedule entry at the next boundary (R300). -/
  | ppsoutConfigWrite (output : Fin 4) (w : RecWrite) (roles : Nat)
  /-- Public-key command code 1: modular addition (R313). -/
  | modadd (queue : Fin 4) (cmd : PkCmd) (roles : Nat)
  /-- Public-key command code 2: modular subtraction (R313). -/
  | modsub (queue : Fin 4) (cmd : PkCmd) (roles : Nat)
  /-- Public-key command code 3: modular multiplication (R313). -/
  | modmul (queue : Fin 4) (cmd : PkCmd) (roles : Nat)
  /-- Public-key command code 4: modular exponentiation with a secret exponent (R313). -/
  | modexp (queue : Fin 4) (cmd : PkCmd) (roles : Nat)
  /-- Public-key command code 5: modular exponentiation with a public exponent (R313). -/
  | modexpPub (queue : Fin 4) (cmd : PkCmd) (roles : Nat)
  /-- Public-key command code 6: modular inverse modulo a prime (R313). -/
  | modinv (queue : Fin 4) (cmd : PkCmd) (roles : Nat)
  /-- Public-key command code 7: RSA private operation by CRT (R313). -/
  | rsaCrt (queue : Fin 4) (cmd : PkCmd) (roles : Nat)
  /-- Public-key command code 8: X25519 scalar multiplication (R313). -/
  | x25519 (queue : Fin 4) (cmd : PkCmd) (roles : Nat)
  /-- Public-key command code 9: Ed25519 signature (R313). -/
  | ed25519Sign (queue : Fin 4) (cmd : PkCmd) (roles : Nat)
  /-- Public-key command code 10: Ed25519 verification (R313). -/
  | ed25519Verify (queue : Fin 4) (cmd : PkCmd) (roles : Nat)
  /-- Public-key command code 11: ECDSA P-256 signature (R313). -/
  | ecdsaSignP256 (queue : Fin 4) (cmd : PkCmd) (roles : Nat)
  /-- Public-key command code 12: ECDSA P-256 verification (R313). -/
  | ecdsaVerifyP256 (queue : Fin 4) (cmd : PkCmd) (roles : Nat)
  /-- Public-key command code 13: ECDSA P-384 verification (R313). -/
  | ecdsaVerifyP384 (queue : Fin 4) (cmd : PkCmd) (roles : Nat)
  /-- Public-key command code 14: ECDSA P-521 verification (R313). -/
  | ecdsaVerifyP521 (queue : Fin 4) (cmd : PkCmd) (roles : Nat)
  /-- Public-key command code 15: P-256 key generation into an EMPTY handle (R313). -/
  | keygenP256 (queue : Fin 4) (cmd : PkCmd) (roles : Nat)
  /-- Public-key command code 16: Ed25519 key generation into an EMPTY handle (R313). -/
  | keygenEd25519 (queue : Fin 4) (cmd : PkCmd) (roles : Nat)
  /-- Public-key command code 17: X25519 key generation into an EMPTY handle (R313). -/
  | keygenX25519 (queue : Fin 4) (cmd : PkCmd) (roles : Nat)
  /-- Public-key command code 32: zeroes one slot and clears its DIRTY flag (R313). -/
  | clear (queue : Fin 4) (cmd : PkCmd) (roles : Nat)
  /-- Public-key command code 33: copies one slot to another of the same length (R313). -/
  | copy (queue : Fin 4) (cmd : PkCmd) (roles : Nat)
  /-- Public-key command code 34: zeroes every slot of the queue's region (R313). -/
  | clearRegion (queue : Fin 4) (cmd : PkCmd) (roles : Nat)
  /-- A free unit takes the next dispatchable head command by weighted round robin and starts validation (R312). -/
  | pkDispatch
  /-- At V cycles the unit reports the first failing value check, or starts execution (R316). -/
  | pkValidationEnd (unit_ : Fin 8)
  /-- At T cycles the command ends, writes its destinations and posts its completion record (R317). -/
  | pkComplete (unit_ : Fin 8) (how : PkEnd)
  /-- A write of a tag aborts the oldest matching queued or running command, or counts abort_missed (R319). -/
  | pkAbort (queue : Fin 4) (tag roles : Nat)
  /-- A write of 1 to pop discards the oldest completion record (R323). -/
  | pkPop (value roles : Nat)
  /-- The command empties a host-open key handle (R318). -/
  | erase (handle : Fin 16) (roles : Nat)
  /-- A write of a slot's base or length defines it, or is refused for range, overlap or use (R307). -/
  | pkSlotDefine (owner : Bool) (slot : Fin 1024) (w : RecWrite) (roles : Nat)
  /-- A write of slot data fills the slot and clears its DIRTY flag (R323). -/
  | pkDataWrite (owner : Bool) (slot : Fin 1024) (value roles : Nat)
  /-- An FLR disables host rings, empties Tail queues, idles window contexts and resets the MSI-X table (R326). -/
  | functionLevelReset (posted : List (Nat × List Nat))
  /-- The PCIe link goes down or PERST_N is held low, so host rings stop with LINK and Tail queues empty (R326). -/
  | pcieLinkDown
  /-- The PCIe link trains to the widest width and rate offered (R324). -/
  | pcieLinkUp (width rate : Nat)
  /-- A write of enable 1 takes a ring to RUNNING with its counts at zero (R330). -/
  | ringEnable (tx : Bool) (ring : Fin 128) (roles : Nat)
  /-- A write of enable 0 takes a ring to DISABLED, flushing untaken descriptors (R330). -/
  | ringDisable (tx : Bool) (ring : Fin 128) (posted : List Nat) (roles : Nat)
  /-- A write of PROD posts descriptors, or is ignored and counted in doorbell_err (R328). -/
  | doorbellProd (tx : Bool) (ring : Fin 128) (value : Nat)
  /-- A write of ACK records the descriptors host software has processed for interrupt purposes (R335). -/
  | doorbellAck (tx : Bool) (ring : Fin 128) (value : Nat)
  /-- A held host-bound frame is written into available buffers and its descriptors are written back (R332). -/
  | rxFrameDeliver (port : Fin 32) (bufs : List Nat)
  /-- The device reads a transmit frame's descriptors and rejects it, queues it untimed or places it (R334). -/
  | txDescTake (ring : Fin 128) (descs : List TxDesc) (fail : Bool)
  /-- A write arms MSI-X vectors, which send a message when a routed source is pending (R336). -/
  | vecArmWrite (mask : Nat)
  /-- A vector's holdoff after its previous message ends, and a deferred message is sent (R336). -/
  | vecHoldoffEnd (vector : Fin 64)
  /-- A write of 1 clears latched interrupt sources unless a new event falls in the same tick (R335). -/
  | irqPendingClear (mask roles : Nat)
  /-- A write discards up to the given number of entries from the head of a Tail queue (R339). -/
  | tailPop (port : Fin 32) (value : Nat)
  /-- A snap write captures all counters and wrap bits of a page at one tick and increments its sequence (R340). -/
  | counterPageSnap (page : Fin 64)
  /-- A write of 1 clears live wrap bits unless a wrap falls in the same tick (R340). -/
  | wrapClear (page : Fin 64) (mask : Nat)
  /-- A write of 1 submits a window context's request PDU to the dictionary front (R341). -/
  | windowDoorbell (ctx : Fin 8) (value : Nat)
  /-- A DMA read with no completion in 5 ms stops the ring with DMA_ERR (R342). -/
  | dmaTimeout (tx : Bool) (ring : Fin 128)
  /-- A REQUEST PDU is checked for format, tag and counter and its operations are carried out, or it is discarded (R367). -/
  | lanithRequest
  /-- Lanith operation 1 reads an object at the request's common snapshot tick (R372). -/
  | read (area im offset length roles : Nat)
  /-- Lanith operation 2 checks a write through step 7 and enters it into the write queue, or refuses it with BUSY (R353). -/
  | write (area im offset : Nat) (bytes : Bytes) (roles : Nat)
  /-- Lanith operation 3 writes a DICT_WRITE schedule entry with the request credential's roles (R375). -/
  | timedWrite (area im : Nat) (bytes : Bytes) (roles : Nat)
  /-- A multi-part value staging is dropped when its next part does not arrive within 10 s (R374). -/
  | partStagingTimeout (area im : Nat)
  /-- A held response is dropped 2 s of moon 0 time after it was sent (R370). -/
  | responseHoldExpiry (cred : Fin 32)
  /-- The control cores take the head write, apply step 8 and accept it, or refuse it (R353). -/
  | writeQueueDrain
  /-- Device firmware produces the value of a queued FW read and the response is sent (R352). -/
  | fwReadDone
  /-- An accepted write to an object without a row of its own is applied to that object (R344). -/
  | dictObjectWrite (area im : Nat) (bytes : Bytes) (roles : Nat)
  /-- A write to a credential changes its enable, key_id, roles or key, checked for duplicates and the last Keyholder (R348). -/
  | credWrite (cred : Fin 32) (w : RecWrite) (roles : Nat)
  /-- The command snapshots every persistent object for writing to the unused configuration store copy (R357). -/
  | save (roles : Nat)
  /-- The configuration store flash write completes or fails, and last_result is set (R357). -/
  | storeSaveDone (good : Bool)
  /-- The command marks both configuration store copies invalid within 2 s (R359). -/
  | factoryDefaults (roles : Nat)
  /-- A write of chunk_index selects the 1,024-byte chunk of the description to read (R360). -/
  | descChunkSelect (index roles : Nat)
  /-- Every 10 ms the control cores measure utilisation and move between shedding stages (R356). -/
  | loadWindow (util : Nat)
  /-- A management segment frame is passed to the front when addressed to the device, or discarded as foreign (R366). -/
  | segmentFrameRx (frame : Bytes)
  /-- A received PUBLISH or NOTIFY is checked and, when accepted, feeds the sibling inputs (R377). -/
  | publishRx
  /-- At the first boundary after each moon 0 second, the front sends a PUBLISH to the station address (R376). -/
  | publishSend
  /-- A collision on the segment makes the MAC back off, or discards the frame after 16 attempts or on a late collision (R364). -/
  | collision
  /-- The backoff after a collision ends, and the frame is sent again (R364). -/
  | backoffEnd
  /-- The node's PLCA transmit opportunity arrives, and one frame may be sent (R365). -/
  | plcaTxOpportunity
  /-- The 10BASE-T1S PHY loses link, or excess collisions persist, and a CONTAINED fault is raised (R380). -/
  | segmentLinkLoss
  /-- A write of a page mask snapshots every named counter page at one tick (R385). -/
  | snapMaskWrite (mask roles : Nat)
  /-- A write of 1 closes a window counter's window and opens the next (R386). -/
  | cntWinClose (window : Fin 64) (value roles : Nat)
  /-- A write sets a window counter's pending event for its next window boundary (R387). -/
  | cntWinEventWrite (window : Fin 64) (value roles : Nat)
  /-- A write of source, instance or threshold takes effect at once and restarts crossing detection (R388). -/
  | cntOccWrite (occ : Fin 16) (w : RecWrite) (roles : Nat)
  /-- A write of 1 clears an occupancy counter's peak (R388). -/
  | peakClear (occ : Fin 16) (value roles : Nat)
  /-- A snap write to a user view captures the viewed page into the view only (R392). -/
  | userViewSnap (page : Fin 50)
  /-- A write of the user mask enables user views and zeroes the views whose bits clear (R392). -/
  | cntUserMaskWrite (mask roles : Nat)
  /-- A write of force raises a FORCED detection of the given class on the named sources (R404). -/
  | faultForce (block : Fin 24) (value roles : Nat)
  /-- A write of 1 empties the block's first-fault record (R402). -/
  | faultRearm (block : Fin 24) (value roles : Nat)
  /-- A write of 1 clears latch bits unless a detection falls in the same tick (R400). -/
  | faultLatchClear (block : Fin 24) (mask roles : Nat)
  /-- A write of open_s opens the fault test window for n seconds (R405). -/
  | testWindowOpen (seconds roles : Nat)
  /-- A write of 1 to close closes the test window (R405). -/
  | testWindowClose (value roles : Nat)
  /-- The fault test window closes when its seconds run out (R405). -/
  | testWindowExpiry
  /-- At each path's period the sequencer exercises its checkers, and a wrong response raises CHECKER (R406). -/
  | selfcheckPass (wrong : List CheckerFail)
  /-- A scrubber reads one ECC word, writes back corrections, and acts on uncorrectable errors (R407). -/
  | scrubRead (memory : EccMemory) (last : Bool) (found : Option (EccCell × Bool))
  /-- A scrub cycle not complete 8 s after it began raises row 1 of block 23 (R407). -/
  | scrubOverrun (memory : EccMemory)
  /-- A FATAL detection or a rail pair fault changes an Eclipse rail, fixing the detection tick (R409). -/
  | eclipseRailChange
  /-- Eight ticks after detection, the device enters Eclipse, takes every action of Table 20-6 and writes the Eclipse record (R410). -/
  | eclipseEntry
  /-- The Eclipse linger ends, and NTP answering stops (R412). -/
  | lingerEnd
  /-- POR_N low resets everything and empties both Eclipse records (R421). -/
  | powerOnReset
  /-- RST_N low resets everything but flash, and moves the Eclipse record to FLT_ECLIPSE_PREV (R421). -/
  | warmReset
  /-- The command WARM starts a WARM reset, also in Eclipse (R422). -/
  | resetCommandWarm (value roles : Nat)
  /-- auto_reset_s after Eclipse entry a WARM reset starts, waiting up to 10 s for a dump in progress (R422). -/
  | autoReset
  /-- A control core that has not serviced its watchdog for 2^26 ticks is reset (CORES scope) and a CONTAINED fault raised (R35). -/
  | watchdogExpiry
  /-- The time-clock PLL locks, tick 0 begins and the moons start in FREE RUN (R22). -/
  | pllLock (fuseGood : Bool)
  /-- A time-clock PLL not locked within 10 ms of sampling keeps the device in reset (R423). -/
  | pllLockTimeout
  /-- DDR5 training completes, or its failure sends the device to RECOVERY (R446). -/
  | ddrTrained (good : Bool)
  /-- The boot ROM restores credentials and counter marks, and the dictionary front starts accepting requests (R449). -/
  | credentialsRestored (keyA keyB : Bool)
  /-- The boot ROM checks the image slots and starts the first that passes, or enters RECOVERY (R425). -/
  | imageVerified
  /-- The calibration, key and GNSS stores are restored, and a bad copy is rewritten or the items marked INVALID (R125). -/
  | storesRestored (calA calB : Bool)
  /-- The checked configuration store values take effect together, ECLIPSE_N is released and the write queue starts draining (R358). -/
  | restoreTick
  /-- Every 1,024 ticks the supply and temperature monitors sample, raising FATAL or WARN as limits are passed (R418). -/
  | monitorSample (rails : List Nat) (temps : List Int)
  /-- THERM_TRIP_N is released after every sensor has been below the trip threshold for 1 ms (R418). -/
  | thermTripRelease
  /-- Every 2^24 ticks the AVS loop reads timing margins and moves the core voltage target by 5 mV (R419). -/
  | avsLoop (margins : List Int) (acknowledged : Bool)
  /-- A part of a firmware image is written into the selected slot (R427). -/
  | fwImageDataWrite (offset : Nat) (bytes : Bytes) (roles : Nat)
  /-- The commit checks the written image and marks its slot preferred, or is refused (R427). -/
  | fwImageCommit (value roles : Nat)
  /-- A write blows rollback fuse bits up to the running image's security version (R427). -/
  | advanceRollback (value roles : Nat)
  /-- The command makes firmware capture and write a fatal dump (R429). -/
  | dumpNow (value roles : Nat)
  /-- Firmware captures the dump sections at Eclipse entry or on command and writes them to an erased slot (R429). -/
  | dumpCapture (log cores : Bytes) (unreadable : List Nat)
  /-- The fatal dump finishes writing to its slot, which reads COMPLETE (R430). -/
  | dumpComplete
  /-- A write of a slot mask erases those dump slots within 2 s, or is refused while a dump is being written (R431). -/
  | dumpClear (mask roles : Nat)
  /-- A write of chunk_index selects the 1,024-byte chunk of the selected dump slot to read (R431). -/
  | dumpChunkSelect (index roles : Nat)
  /-- A temperature sensor exceeding the trip threshold drives THERM_TRIP_N low, independently of the time clock (R418). -/
  | thermTrip
  /-- The DDR PLL regains lock, the condition of block 20 row 2 ends, and the held control cores are released (R396). -/
  | ddrPllLock
  /-- A SerDes group PLL regains lock, its fault condition clears, and the group's ports train again (R396). -/
  | serdesPllLock (group : Fin 8)
  /-- The 10BASE-T1S PHY regains link, and the segment-lost condition of block 16 clears (R380). -/
  | segmentLinkUp
  /-- The control cores restart after a CORES reset, and draining of the held write queue resumes (R353). -/
  | coresRestart
  /-- A write of a vector's mask bit in the MSI-X table masks the vector, or unmasks it and sends a pending armed message (R336). -/
  | msixMaskWrite (vector : Fin 64) (masked : Bool)
  /-- A write of 1 to a Tail window's OVERFLOW bit clears it, unless a loss falls in the same tick (R339). -/
  | tailOverflowClear (port : Fin 32)
  /-- A write of req_len or the request buffer of a window context is stored, or is ignored and counted in window_err while the context is PENDING (R341). -/
  | windowRequestWrite (ctx : Fin 8) (w : WindowWrite)
  /-- At its configured delay period an upstream client unit issues a Delay_Req, placed through the calendar with correctionField 0 (R207). -/
  | upstreamDelayReq (unit_ : Fin 16) (grid : List GridPoint)
  /-- POR_N or RST_N rises, the straps are sampled, the fuse shadow is loaded and the PLLs start toward lock (R423). -/
  | resetRelease (osc : Fin 4) (forceB : Bool)
  deriving DecidableEq, Repr

end Sys2Proof
end

