-- ==== Sys2Proof/Decode.lean ====
section
/-! DEFINITION. The words of a command. The command table (spec/opcode_table.json) gives no row any bits: a command reaches the device
through the pins, the PCIe window, the management segment or an event of an engine, and its operands are those of its constructor. So no
word spells a command. -/

namespace Sys2Proof

/-- The command a word of the table's bits spells: none, as the table gives no row any bits. -/
def decodeTableWord (_nbits _w : Nat) : Option Instr := none

end Sys2Proof
end

