-- ==== Sys2Proof/Machine/Sha.lean ====
section
/-! DEFINITION. The hash and message-authentication functions the manual names: SHA-256 and HMAC-SHA256 (Lanith tags,
PTP AUTHENTICATION), SHA-512 (Ed25519) and SHA-384 (image signatures), per FIPS 180-4 and RFC 2104, and CRC-32C (the
stores and the fatal dump). Words are numbers below 2^32 or 2^64; every recursion is structural. -/

namespace Sys2Proof.Machine

/-- Rotate a `w`-bit word right by `r`. -/
def rotr (w r x : Nat) : Nat := (x / 2 ^ r) ||| (x * 2 ^ (w - r) % 2 ^ w)

/-- The parameters of a SHA-2 function: word width, rotation amounts of the two schedule and two round functions (the
last amount of a schedule function is a shift), round constants. -/
structure ShaParams where
  w : Nat
  s0 : Nat × Nat × Nat
  s1 : Nat × Nat × Nat
  b0 : Nat × Nat × Nat
  b1 : Nat × Nat × Nat
  k : List Nat
  deriving DecidableEq, Repr

/-- The SHA-256 round constants, first half. -/
def sha256Ka : List Nat := [
  0x428a2f98, 0x71374491, 0xb5c0fbcf, 0xe9b5dba5, 0x3956c25b, 0x59f111f1, 0x923f82a4, 0xab1c5ed5,
  0xd807aa98, 0x12835b01, 0x243185be, 0x550c7dc3, 0x72be5d74, 0x80deb1fe, 0x9bdc06a7, 0xc19bf174,
  0xe49b69c1, 0xefbe4786, 0x0fc19dc6, 0x240ca1cc, 0x2de92c6f, 0x4a7484aa, 0x5cb0a9dc, 0x76f988da,
  0x983e5152, 0xa831c66d, 0xb00327c8, 0xbf597fc7, 0xc6e00bf3, 0xd5a79147, 0x06ca6351, 0x14292967]

/-- The SHA-256 round constants, second half. -/
def sha256Kb : List Nat := [
  0x27b70a85, 0x2e1b2138, 0x4d2c6dfc, 0x53380d13, 0x650a7354, 0x766a0abb, 0x81c2c92e, 0x92722c85,
  0xa2bfe8a1, 0xa81a664b, 0xc24b8b70, 0xc76c51a3, 0xd192e819, 0xd6990624, 0xf40e3585, 0x106aa070,
  0x19a4c116, 0x1e376c08, 0x2748774c, 0x34b0bcb5, 0x391c0cb3, 0x4ed8aa4a, 0x5b9cca4f, 0x682e6ff3,
  0x748f82ee, 0x78a5636f, 0x84c87814, 0x8cc70208, 0x90befffa, 0xa4506ceb, 0xbef9a3f7, 0xc67178f2]

/-- The SHA-512 round constants, first half. -/
def sha512Ka : List Nat := [
  0x428a2f98d728ae22, 0x7137449123ef65cd, 0xb5c0fbcfec4d3b2f, 0xe9b5dba58189dbbc, 0x3956c25bf348b538,
  0x59f111f1b605d019, 0x923f82a4af194f9b, 0xab1c5ed5da6d8118, 0xd807aa98a3030242, 0x12835b0145706fbe,
  0x243185be4ee4b28c, 0x550c7dc3d5ffb4e2, 0x72be5d74f27b896f, 0x80deb1fe3b1696b1, 0x9bdc06a725c71235,
  0xc19bf174cf692694, 0xe49b69c19ef14ad2, 0xefbe4786384f25e3, 0x0fc19dc68b8cd5b5, 0x240ca1cc77ac9c65,
  0x2de92c6f592b0275, 0x4a7484aa6ea6e483, 0x5cb0a9dcbd41fbd4, 0x76f988da831153b5, 0x983e5152ee66dfab,
  0xa831c66d2db43210, 0xb00327c898fb213f, 0xbf597fc7beef0ee4, 0xc6e00bf33da88fc2, 0xd5a79147930aa725,
  0x06ca6351e003826f, 0x142929670a0e6e70, 0x27b70a8546d22ffc, 0x2e1b21385c26c926, 0x4d2c6dfc5ac42aed,
  0x53380d139d95b3df, 0x650a73548baf63de, 0x766a0abb3c77b2a8, 0x81c2c92e47edaee6, 0x92722c851482353b]

/-- The SHA-512 round constants, second half. -/
def sha512Kb : List Nat := [
  0xa2bfe8a14cf10364, 0xa81a664bbc423001, 0xc24b8b70d0f89791, 0xc76c51a30654be30, 0xd192e819d6ef5218,
  0xd69906245565a910, 0xf40e35855771202a, 0x106aa07032bbd1b8, 0x19a4c116b8d2d0c8, 0x1e376c085141ab53,
  0x2748774cdf8eeb99, 0x34b0bcb5e19b48a8, 0x391c0cb3c5c95a63, 0x4ed8aa4ae3418acb, 0x5b9cca4f7763e373,
  0x682e6ff3d6b2b8a3, 0x748f82ee5defb2fc, 0x78a5636f43172f60, 0x84c87814a1f0ab72, 0x8cc702081a6439ec,
  0x90befffa23631e28, 0xa4506cebde82bde9, 0xbef9a3f7b2c67915, 0xc67178f2e372532b, 0xca273eceea26619c,
  0xd186b8c721c0c207, 0xeada7dd6cde0eb1e, 0xf57d4f7fee6ed178, 0x06f067aa72176fba, 0x0a637dc5a2c898a6,
  0x113f9804bef90dae, 0x1b710b35131c471b, 0x28db77f523047d84, 0x32caab7b40c72493, 0x3c9ebe0a15c9bebc,
  0x431d67c49c100d4c, 0x4cc5d4becb3e42b6, 0x597f299cfc657e2a, 0x5fcb6fab3ad6faec, 0x6c44198c4a475817]

/-- SHA-256. -/
def sha256P : ShaParams where
  w := 32
  s0 := (7, 18, 3)
  s1 := (17, 19, 10)
  b0 := (2, 13, 22)
  b1 := (6, 11, 25)
  k := sha256Ka ++ sha256Kb

/-- SHA-512 and SHA-384. -/
def sha512P : ShaParams where
  w := 64
  s0 := (1, 8, 7)
  s1 := (19, 61, 6)
  b0 := (28, 34, 39)
  b1 := (14, 18, 41)
  k := sha512Ka ++ sha512Kb

/-- The initial hash value of SHA-256. -/
def sha256H : List Nat := [
  0x6a09e667, 0xbb67ae85, 0x3c6ef372, 0xa54ff53a, 0x510e527f, 0x9b05688c, 0x1f83d9ab, 0x5be0cd19]

/-- The initial hash value of SHA-512. -/
def sha512H : List Nat := [
  0x6a09e667f3bcc908, 0xbb67ae8584caa73b, 0x3c6ef372fe94f82b, 0xa54ff53a5f1d36f1,
  0x510e527fade682d1, 0x9b05688c2b3e6c1f, 0x1f83d9abfb41bd6b, 0x5be0cd19137e2179]

/-- The initial hash value of SHA-384. -/
def sha384H : List Nat := [
  0xcbbb9d5dc1059ed8, 0x629a292a367cd507, 0x9159015a3070dd17, 0x152fecd8f70e5939,
  0x67332667ffc00b31, 0x8eb44a8768581511, 0xdb0c2e0d64f98fa7, 0x47b5481dbefa4fa4]

/-- A schedule function: two rotations and a shift. -/
def shaSmall (w : Nat) (a : Nat × Nat × Nat) (x : Nat) : Nat := (rotr w a.1 x) ^^^ (rotr w a.2.1 x) ^^^ (x / 2 ^ a.2.2)

/-- A round function: three rotations. -/
def shaBig (w : Nat) (a : Nat × Nat × Nat) (x : Nat) : Nat := (rotr w a.1 x) ^^^ (rotr w a.2.1 x) ^^^ (rotr w a.2.2 x)

/-- One compression: the round constants drive the rounds, `win` holds the next 16 schedule words. -/
def shaRounds (p : ShaParams) : List Nat → List Nat → List Nat → List Nat
  | [], _, v => v
  | k :: ks, win, v =>
    let w0 := win.headD 0
    let wn := (shaSmall p.w p.s1 (nth win 14 0) + nth win 9 0 + shaSmall p.w p.s0 (nth win 1 0) + w0) % 2 ^ p.w
    let e := nth v 4 0
    let ch := (e &&& nth v 5 0) ^^^ ((2 ^ p.w - 1 - e) &&& nth v 6 0)
    let t1 := nth v 7 0 + shaBig p.w p.b1 e + ch + k + w0
    let a := nth v 0 0
    let maj := (a &&& nth v 1 0) ^^^ (a &&& nth v 2 0) ^^^ (nth v 1 0 &&& nth v 2 0)
    let t2 := shaBig p.w p.b0 a + maj
    shaRounds p ks (win.tail ++ [wn])
      [(t1 + t2) % 2 ^ p.w, a, nth v 1 0, nth v 2 0, (nth v 3 0 + t1) % 2 ^ p.w, e, nth v 5 0, nth v 6 0]

/-- The next `n` big-endian words of `len` bytes, and the bytes left. -/
def takeWords (len : Nat) : Nat → Bytes → List Nat × Bytes
  | 0, bs => ([], bs)
  | n + 1, bs =>
    let r := takeWords len n (bs.drop len)
    (beNat (bs.take len) :: r.1, r.2)

/-- The compressions of `n` blocks. -/
def shaBlocks (p : ShaParams) : Nat → List Nat → Bytes → List Nat
  | 0, h, _ => h
  | n + 1, h, bs =>
    let r := takeWords (p.w / 8) 16 bs
    let v := shaRounds p p.k r.1 h
    shaBlocks p n ((h.zip v).map (fun q => (q.1 + q.2) % 2 ^ p.w)) r.2

/-- The padded message: 0x80, zeros, and the bit length in two words. -/
def shaPad (p : ShaParams) (m : Bytes) : Bytes :=
  let blk := 2 * p.w
  let used := m.length + 1 + p.w / 4
  let z := (blk - used % blk) % blk
  m ++ [byte 0x80] ++ List.replicate z 0 ++ beBytes (p.w / 4) (8 * m.length)

/-- A SHA-2 hash of `words` words. -/
def sha2 (p : ShaParams) (h0 : List Nat) (words : Nat) (m : Bytes) : Bytes :=
  let bs := shaPad p m
  let h := shaBlocks p (bs.length / (2 * p.w)) h0 bs
  (h.take words).flatMap (beBytes (p.w / 8))

/-- SHA-256 of a message. -/
def sha256 (m : Bytes) : Bytes := sha2 sha256P sha256H 8 m

/-- SHA-512 of a message. -/
def sha512 (m : Bytes) : Bytes := sha2 sha512P sha512H 8 m

/-- SHA-384 of a message. -/
def sha384 (m : Bytes) : Bytes := sha2 sha512P sha384H 6 m

/-- HMAC-SHA256 (RFC 2104) under a key of at most 64 bytes. -/
def hmacSha256 (key m : Bytes) : Bytes :=
  let k := key ++ List.replicate (64 - key.length) 0
  let pad (b : Nat) : Bytes := k.map (fun x => x ^^^ byte b)
  sha256 (pad 0x5c ++ sha256 (pad 0x36 ++ m))

/-- One bit step of the reflected CRC-32C. -/
def crcBit (c : Nat) : Nat := if c % 2 = 1 then (c / 2) ^^^ 0x82F63B78 else c / 2

/-- Eight bit steps of the reflected CRC-32C. -/
def crcByte (c : Nat) (b : Byte) : Nat :=
  let x := c ^^^ b.toNat
  crcBit (crcBit (crcBit (crcBit (crcBit (crcBit (crcBit (crcBit x)))))))

/-- CRC-32C (Castagnoli) of a run of bytes. -/
def crc32c (bs : Bytes) : Nat := (bs.foldl crcByte 0xFFFFFFFF) ^^^ 0xFFFFFFFF

end Sys2Proof.Machine
end

