-- ==== Sys2Proof/Machine/Curves.lean ====
section
/-! DEFINITION. The arithmetic of the public-key engine's operations (spec/15_public_key_engine.md Table 15-2): modular powers,
the NIST curves with ECDSA (FIPS 186-5), X25519 (RFC 7748) and Ed25519 (RFC 8032). Every recursion is structural on a number
of bits. -/

namespace Sys2Proof.Machine

/-! ## Modular arithmetic -/

/-- `b ^ e mod m` over the low `n` bits of `e`. -/
def powMod (m b : Nat) : Nat → Nat → Nat
  | 0, _ => 1 % m
  | n + 1, e =>
    let h := powMod m b n (e / 2)
    if e % 2 = 1 then h * h % m * b % m else h * h % m

/-- The inverse modulo a prime. -/
def invMod (p a : Nat) : Nat := powMod p a 528 (p - 2)

/-- a − b modulo m. -/
def subMod (m a b : Nat) : Nat := (a % m + (m - b % m)) % m

/-- The bits of a number: the position of the highest set bit plus one, within `n` bits. -/
def bitLen : Nat → Nat → Nat
  | 0, _ => 0
  | n + 1, v => if v = 0 then 0 else 1 + bitLen n (v / 2)

/-! ## The curves y² = x³ − 3x + b -/

/-- A NIST curve: its width in words, field, coefficient b, group order and base point. -/
structure Curve where
  w : Nat
  p : Nat
  b : Nat
  n : Nat
  gx : Nat
  gy : Nat
  deriving DecidableEq, Repr

/-- P-256. -/
def curveP256 : Curve where
  w := 4
  p := 0xffffffff00000001000000000000000000000000ffffffffffffffffffffffff
  b := 0x5ac635d8aa3a93e7b3ebbd55769886bc651d06b0cc53b0f63bce3c3e27d2604b
  n := 0xffffffff00000000ffffffffffffffffbce6faada7179e84f3b9cac2fc632551
  gx := 0x6b17d1f2e12c4247f8bce6e563a440f277037d812deb33a0f4a13945d898c296
  gy := 0x4fe342e2fe1a7f9b8ee7eb4a7c0f9e162bce33576b315ececbb6406837bf51f5

/-- P-384. -/
def curveP384 : Curve where
  w := 6
  p := 2 ^ 384 - 2 ^ 128 - 2 ^ 96 + 2 ^ 32 - 1
  b := 0xb3312fa7e23ee7e4988e056be3f82d19181d9c6efe8141120314088f5013875ac656398d8a2ed19d2a85c8edd3ec2aef
  n := 0xffffffffffffffffffffffffffffffffffffffffffffffffc7634d81f4372ddf581a0db248b0a77aecec196accc52973
  gx := 0xaa87ca22be8b05378eb1c71ef320ad746e1d3b628ba79b9859f741e082542a385502f25dbf55296c3a545e3872760ab7
  gy := 0x3617de4a96262c6f5d9e98bf9292dc29f8f41dbd289a147ce9da3113b5f0b8c00a60b1ce1d7e819d7a431d7c90ea0e5f

/-- P-521. -/
def curveP521 : Curve where
  w := 9
  p := 2 ^ 521 - 1
  b := 0x0051953eb9618e1c9a1f929a21a0b68540eea2da725b99b315f3b8b489918ef109e156193951ec7e937b1652c0bd3bb1bf073573df883d2c34f1ef451fd46b503f00
  n := 0x01fffffffffffffffffffffffffffffffffffffffffffffffffffffffffffffffffa51868783bf2f966b7fcc0148f709a5d03bb5c9b8899c47aebb6fb71e91386409
  gx := 0x00c6858e06b70404e9cd9e3ecb662395b4429c648139053fb521f828af606b4d3dbaa14b5e77efe75928fe1dc127a2ffa8de3348b3c1856a429bf97e7e31c2e5bd66
  gy := 0x011839296a789a3bc0045c8a5fb42c7d1bd998f54449579b446817afbd17273e662c97ee72995ef42640c550b9013fad0761353c7086a272c24088be94769fd16650

/-- A point of a curve: none is the point at infinity. -/
abbrev Point := Option (Nat × Nat)

/-- A pair of coordinates lies on the curve. -/
def Curve.on (c : Curve) (x y : Nat) : Bool := y * y % c.p == (x * x * x + (c.p - 3) * x + c.b) % c.p

/-- The third point of the line of slope `l` through `a`, negated. -/
def Curve.chord (c : Curve) (l : Nat) (a b : Nat × Nat) : Point :=
  let x := subMod c.p (l * l) (a.1 + b.1)
  some (x, subMod c.p (l * subMod c.p a.1 x) a.2)

/-- Twice a point. -/
def Curve.dbl (c : Curve) (a : Point) : Point :=
  match a with
  | none => none
  | some q =>
    if q.2 = 0 then none
    else c.chord ((3 * q.1 * q.1 + (c.p - 3)) * invMod c.p (2 * q.2) % c.p) q q

/-- The sum of two points. -/
def Curve.add (c : Curve) (a b : Point) : Point :=
  match a, b with
  | none, b => b
  | a, none => a
  | some q, some r =>
    if q.1 = r.1 then (if q.2 = r.2 then c.dbl (some q) else none)
    else c.chord (subMod c.p r.2 q.2 * invMod c.p (subMod c.p r.1 q.1) % c.p) q r

/-- A multiple of a point, over the low `n` bits of the factor. -/
def Curve.mul (c : Curve) (a : Point) : Nat → Nat → Point
  | 0, _ => none
  | n + 1, k =>
    let h := c.dbl (c.mul a n (k / 2))
    if k % 2 = 1 then c.add h a else h

/-- A multiple of the base point. -/
def Curve.base (c : Curve) (k : Nat) : Point := c.mul (some (c.gx, c.gy)) 528 k

/-- An ECDSA signature of hash `e` by key `d` with nonce `k`: (r, s). -/
def Curve.sign (c : Curve) (d e k : Nat) : Nat × Nat :=
  match c.base k with
  | none => (0, 0)
  | some q => (q.1 % c.n, invMod c.n k * (e + q.1 % c.n * d) % c.n)

/-- An ECDSA verification. -/
def Curve.verify (c : Curve) (qx qy e r s : Nat) : Bool :=
  let w := invMod c.n s
  match c.add (c.base (e * w % c.n)) (c.mul (some (qx, qy)) 528 (r * w % c.n)) with
  | none => false
  | some q => q.1 % c.n == r

/-! ## X25519 (RFC 7748) -/

/-- The field of curve25519. -/
def p25519 : Nat := 2 ^ 255 - 19

/-- The scalar of RFC 7748 section 5. -/
def clampScalar (k : Nat) : Nat := k % 2 ^ 254 / 8 * 8 + 2 ^ 254

/-- The state of the ladder: (x2, z2, x3, z3). -/
structure Ladder where
  x2 : Nat
  z2 : Nat
  x3 : Nat
  z3 : Nat
  deriving DecidableEq, Repr

/-- One step of the ladder of RFC 7748, after the conditional swap. -/
def Ladder.step (l : Ladder) (u : Nat) : Ladder :=
  let p := p25519
  let a := (l.x2 + l.z2) % p
  let aa := a * a % p
  let b := subMod p l.x2 l.z2
  let bb := b * b % p
  let e := subMod p aa bb
  let da := subMod p l.x3 l.z3 * a % p
  let cb := (l.x3 + l.z3) * b % p
  let d := subMod p da cb
  ⟨aa * bb % p, e * (aa + 121665 * e) % p, (da + cb) * (da + cb) % p, u * (d * d % p) % p⟩

/-- The ladder swapped when a bit is set. -/
def Ladder.swap (l : Ladder) (b : Bool) : Ladder := if b then ⟨l.x3, l.z3, l.x2, l.z2⟩ else l

/-- The ladder over bits n−1 down to 0. -/
def ladder (u k : Nat) : Nat → Ladder → Ladder
  | 0, l => l
  | n + 1, l => ladder u k n (((l.swap (bitOf k n)).step u).swap (bitOf k n))

/-- X25519. -/
def x25519 (scalar point : Nat) : Nat :=
  let u := point % 2 ^ 255 % p25519
  let l := ladder u (clampScalar scalar) 255 ⟨1, 0, u, 1⟩
  l.x2 * invMod p25519 l.z2 % p25519

/-! ## Ed25519 (RFC 8032) -/

/-- The order L of the base point. -/
def edL : Nat := 2 ^ 252 + 27742317777372353535851937790883648493

/-- The constant d of the curve. -/
def edD : Nat := (p25519 - 121665) * invMod p25519 121666 % p25519

/-- A point in extended coordinates. -/
structure EdPoint where
  x : Nat
  y : Nat
  z : Nat
  t : Nat
  deriving DecidableEq, Repr

/-- The neutral point. -/
def EdPoint.zero : EdPoint := ⟨0, 1, 1, 0⟩

/-- The sum of two points (RFC 8032 section 5.1.4). -/
def EdPoint.add (a b : EdPoint) : EdPoint :=
  let p := p25519
  let s := subMod p a.y a.x * subMod p b.y b.x % p
  let r := (a.y + a.x) * (b.y + b.x) % p
  let c := 2 * a.t * b.t % p * edD % p
  let d := 2 * a.z * b.z % p
  let e := subMod p r s
  let f := subMod p d c
  let g := (d + c) % p
  let h := (r + s) % p
  ⟨e * f % p, g * h % p, f * g % p, e * h % p⟩

/-- A multiple of a point, over the low `n` bits of the factor. -/
def EdPoint.mul (a : EdPoint) : Nat → Nat → EdPoint
  | 0, _ => EdPoint.zero
  | n + 1, k =>
    let h := EdPoint.mul a n (k / 2)
    if k % 2 = 1 then (h.add h).add a else h.add h

/-- Two points are the same. -/
def EdPoint.same (a b : EdPoint) : Bool :=
  a.x * b.z % p25519 == b.x * a.z % p25519 && a.y * b.z % p25519 == b.y * a.z % p25519

/-- The encoding of a point as a number of 256 bits. -/
def EdPoint.encode (a : EdPoint) : Nat :=
  let i := invMod p25519 a.z
  a.y * i % p25519 + a.x * i % p25519 % 2 * 2 ^ 255

/-- The square root of u/v that RFC 8032 section 5.1.3 finds. -/
def edSqrt (u v : Nat) : Option Nat :=
  let p := p25519
  let v3 := v * v % p * v % p
  let x := u * v3 % p * powMod p (u * v3 % p * v3 % p * v % p) 256 ((p - 5) / 8) % p
  if v * x % p * x % p = u % p then some x
  else if v * x % p * x % p = subMod p 0 u then some (x * powMod p 2 256 ((p - 1) / 4) % p)
  else none

/-- The point an encoding decodes to, its y being below p. -/
def edDecode (v : Nat) : Option EdPoint :=
  let p := p25519
  let y := v % 2 ^ 255
  let sign := v / 2 ^ 255 % 2
  match edSqrt (subMod p (y * y) 1) ((edD * (y * y % p) + 1) % p) with
  | none => none
  | some x =>
    if x = 0 ∧ sign = 1 then none
    else
      let x := if x % 2 = sign then x else (p - x) % p
      some ⟨x, y % p, 1, x * y % p⟩

/-- The base point. -/
def edBase : EdPoint := (edDecode (4 * invMod p25519 5 % p25519)).getD EdPoint.zero

/-- The encoded public key of a seed. -/
def edPublic (seed : Nat) : Nat :=
  let h := leNat ((sha512 (leBytes 32 seed)).take 32)
  ((edBase.mul 255 (clampScalar h))).encode

/-- An Ed25519 signature of a message by a seed: (R, S). -/
def edSign (seed : Nat) (msg : Bytes) : Nat × Nat :=
  let h := sha512 (leBytes 32 seed)
  let a := clampScalar (leNat (h.take 32))
  let pub := (edBase.mul 255 a).encode
  let r := leNat (sha512 (h.drop 32 ++ msg)) % edL
  let rEnc := (edBase.mul 255 r).encode
  let k := leNat (sha512 (leBytes 32 rEnc ++ leBytes 32 pub ++ msg)) % edL
  (rEnc, (r + k * a) % edL)

/-- An Ed25519 verification of decoded points, by the equation of RFC 8032 section 5.1.7 with the cofactor. -/
def edVerify (aEnc rEnc s : Nat) (msg : Bytes) : Bool :=
  match edDecode aEnc, edDecode rEnc with
  | some a, some r =>
    let k := leNat (sha512 (leBytes 32 rEnc ++ leBytes 32 aEnc ++ msg)) % edL
    ((edBase.mul 256 s).mul 4 8).same ((r.add (a.mul 256 k)).mul 4 8)
  | _, _ => false

end Sys2Proof.Machine
end

