-- ==== Sys2Proof/Machine/Packet.lean ====
section
/-! DEFINITION. Frames as bytes: the Ethernet FCS and the Internet checksum, the parsing of tags, IPv4, IPv6 and UDP the
classifier and the engines rest on (spec/04_ethernet_ports.md R89, R91, R102), and the forms of answers (R134). Frames are
held without their FCS once they have been checked. -/

namespace Sys2Proof.Machine

/-! ## Bytes -/

/-- Byte `i`, or 0 past the end. -/
def byteAt (bs : Bytes) (i : Nat) : Nat := (bs.getD i 0).toNat

/-- `n` bytes from `i` as a number in network order. -/
def beAt (bs : Bytes) (i n : Nat) : Nat := beNat ((bs.drop i).take n)

/-- `n` bytes from `i`. -/
def slice (bs : Bytes) (i n : Nat) : Bytes := (bs.drop i).take n

/-- Zero bytes up to a length. -/
def padTo (n : Nat) (bs : Bytes) : Bytes := bs ++ List.replicate (n - bs.length) 0

/-! ## Checks over bytes -/

/-- One bit step of the CRC-32 of IEEE 802.3, reflected. -/
def crc32Bit (c : Nat) : Nat := if c % 2 = 1 then (c / 2) ^^^ 0xEDB88320 else c / 2

/-- The CRC-32 of IEEE 802.3 over a frame: its FCS, least significant byte first on the wire. -/
def crc32 (bs : Bytes) : Nat :=
  (bs.foldl (fun c b =>
    crc32Bit (crc32Bit (crc32Bit (crc32Bit (crc32Bit (crc32Bit (crc32Bit (crc32Bit (c ^^^ b.toNat))))))))) 0xFFFFFFFF)
    ^^^ 0xFFFFFFFF

/-- The FCS of a received frame is good. -/
def fcsOk (bs : Bytes) : Bool := leNat (bs.drop (bs.length - 4)) == crc32 (bs.take (bs.length - 4))

/-- The sum of 16-bit network-order words, an odd last byte padded with zero. -/
def wordSum : Bytes → Nat
  | [] => 0
  | [a] => a.toNat * 256
  | a :: b :: t => a.toNat * 256 + b.toNat + wordSum t

/-- Fold carries into 16 bits. -/
def fold16 (n : Nat) : Nat :=
  let a := n % 65536 + n / 65536
  let b := a % 65536 + a / 65536
  b % 65536 + b / 65536

/-- The one's-complement checksum. -/
def inetSum (bs : Bytes) : Nat := 65535 - fold16 (wordSum bs)

/-! ## Parsing -/

/-- A frame as the classifier sees it. `tags` holds up to two (TPID, TCI); `etype` follows them; `l3` is the offset of
the layer 3 header; `ver` is 4, 6 or 0; `proto` is the upper-layer protocol unless the extension chain is too long;
`l4` is the offset of an unfragmented upper-layer header. -/
structure Parsed where
  dst : Nat
  src : Nat
  tags : List (Nat × Nat)
  excess : Bool
  etype : Nat
  l3 : Nat
  ver : Nat
  hdrOk : Bool
  frag : Bool
  ext : Bool
  proto : Option Nat
  l4 : Option Nat
  ipSrc : Bytes
  ipDst : Bytes
  ipLen : Nat
  deriving DecidableEq, Repr

/-- The tags from an offset: at most three are looked for (R91). -/
def tagsFrom (isTpid : Nat → Bool) (bs : Bytes) : Nat → Nat → List (Nat × Nat)
  | 0, _ => []
  | f + 1, i => if isTpid (beAt bs i 2) && i + 4 ≤ bs.length then
      (beAt bs i 2, beAt bs (i + 2) 2) :: tagsFrom isTpid bs f (i + 4) else []

/-- The extension headers the classifier walks (R102). -/
def isExtHdr (n : Nat) : Bool := n == 0 || n == 43 || n == 44 || n == 60

/-- The walk of an IPv6 extension chain: next header, offset, headers left, end of the first 256 bytes; the upper-layer
protocol and offset, whether the packet is a fragment, or none when the chain is too long. -/
def walkExt (bs : Bytes) : Nat → Nat → Nat → Nat → Bool → Option (Nat × Nat × Bool)
  | 0, nh, off, _, fr => if isExtHdr nh then none else some (nh, off, fr)
  | f + 1, nh, off, lim, fr =>
    if isExtHdr nh then
      let len := if nh = 44 then 8 else 8 * (byteAt bs (off + 1) + 1)
      if lim < off + len ∨ bs.length < off + len then none
      else
        let fo := beAt bs (off + 2) 2
        walkExt bs f (byteAt bs off) (off + len) lim (fr || (nh == 44 && (fo / 8 != 0 || fo % 2 == 1)))
    else some (nh, off, fr)

/-- A frame parsed (R91, R102). -/
def parseFrame (isTpid : Nat → Bool) (bs : Bytes) : Parsed :=
  let ts := tagsFrom isTpid bs 3 12
  let excess := ts.length == 3
  let tags := ts.take 2
  let o := 12 + 4 * tags.length
  let et := if excess then 0 else beAt bs o 2
  let p : Parsed :=
    { dst := beAt bs 0 6, src := beAt bs 6 6, tags := tags, excess := excess, etype := et, l3 := o + 2, ver := 0,
      hdrOk := true, frag := false, ext := false, proto := none, l4 := none, ipSrc := [], ipDst := [], ipLen := 0 }
  let b := o + 2
  if et = 0x0800 ∧ byteAt bs b / 16 = 4 ∧ 5 ≤ byteAt bs b % 16 ∧ b + 4 * (byteAt bs b % 16) ≤ bs.length then
    let ihl := 4 * (byteAt bs b % 16)
    let fo := beAt bs (b + 6) 2
    let fr := fo % 16384 != 0
    { p with ver := 4, hdrOk := fold16 (wordSum (slice bs b ihl)) == 65535, frag := fr,
             proto := some (byteAt bs (b + 9)), l4 := if fr then none else some (b + ihl),
             ipSrc := slice bs (b + 12) 4, ipDst := slice bs (b + 16) 4, ipLen := beAt bs (b + 2) 2 - ihl }
  else if et = 0x86DD ∧ byteAt bs b / 16 = 6 ∧ b + 40 ≤ bs.length then
    let q := { p with ver := 6, ipSrc := slice bs (b + 8) 16, ipDst := slice bs (b + 24) 16,
                      ext := isExtHdr (byteAt bs (b + 6)) }
    match walkExt bs 8 (byteAt bs (b + 6)) (b + 40) (b + 296) false with
    | some (nh, off, fr) => { q with proto := some nh, frag := fr, l4 := if fr then none else some off,
                                     ipLen := beAt bs (b + 4) 2 - (off - (b + 40)) }
    | none => q
  else p

/-- The outer VID, 0 for an untagged frame. -/
def Parsed.vid (p : Parsed) : Nat := match p.tags with | t :: _ => t.2 % 4096 | [] => 0

/-- The UDP payload of a parsed frame with a UDP header: its offset and length by the UDP length field. -/
def udpLenOf (bs : Bytes) (l4 : Nat) : Nat := beAt bs (l4 + 4) 2

/-- The pseudo-header's bytes (IPv4 or IPv6). -/
def pseudo (ver : Nat) (src dst : Bytes) (len : Nat) : Bytes :=
  if ver = 6 then src ++ dst ++ beBytes 4 len ++ [0, 0, 0, 17] else src ++ dst ++ [0, 17] ++ beBytes 2 len

/-- The UDP checksum of a datagram whose checksum field is zero, as sent (R134). -/
def udpSum (ver : Nat) (src dst : Bytes) (udp : Bytes) : Nat :=
  let s := inetSum (pseudo ver src dst udp.length ++ udp)
  if s = 0 then 65535 else s

/-- A received UDP datagram's checksum is correct; over IPv4 a checksum of 0 means none was made. -/
def udpSumOk (ver : Nat) (src dst : Bytes) (udp : Bytes) : Bool :=
  if beAt udp 6 2 = 0 then ver == 4 else fold16 (wordSum (pseudo ver src dst udp.length ++ udp)) == 65535

/-! ## Building (R134) -/

/-- A UDP datagram with its checksum. -/
def buildUdp (ver : Nat) (src dst : Bytes) (sport dport : Nat) (payload : Bytes) : Bytes :=
  let ports := beBytes 2 sport ++ beBytes 2 dport ++ beBytes 2 (payload.length + 8)
  ports ++ beBytes 2 (udpSum ver src dst (ports ++ [0, 0] ++ payload)) ++ payload

/-- An IPv4 packet of a UDP datagram: IHL 5, ECN 0, identification 0, DF 1 (R134). -/
def buildIp4 (dscp ttl : Nat) (src dst : Bytes) (udp : Bytes) : Bytes :=
  let h1 := [byte 0x45, byte (dscp * 4)] ++ beBytes 2 (20 + udp.length) ++ [0, 0, 0x40, 0, byte ttl, 17]
  h1 ++ beBytes 2 (inetSum (h1 ++ [0, 0] ++ src ++ dst)) ++ src ++ dst ++ udp

/-- An IPv6 packet of a UDP datagram: ECN 0, the flow label given (R134). -/
def buildIp6 (dscp flow hops : Nat) (src dst : Bytes) (udp : Bytes) : Bytes :=
  beBytes 4 (6 * 2 ^ 28 + dscp * 4 * 2 ^ 20 + flow % 2 ^ 20) ++ beBytes 2 udp.length ++ [17, byte hops] ++ src ++ dst ++
    udp

/-- The tags of a frame as bytes. -/
def tagBytes (tags : List (Nat × Nat)) : Bytes := tags.flatMap (fun t => beBytes 2 t.1 ++ beBytes 2 t.2)

/-- An Ethernet frame without FCS, padded to 60 bytes (R89). -/
def buildEth (dst src : Nat) (tags : List (Nat × Nat)) (etype : Nat) (payload : Bytes) : Bytes :=
  padTo 60 (beBytes 6 dst ++ beBytes 6 src ++ tagBytes tags ++ beBytes 2 etype ++ payload)

/-- A frame as it leaves, with its FCS. -/
def withFcs (bs : Bytes) : Bytes := padTo 60 bs ++ leBytes 4 (crc32 (padTo 60 bs))

/-- The length of a frame on the wire, with padding and FCS. -/
def wireLen (bs : Bytes) : Nat := max 60 bs.length + 4

/-- A MAC address is a group address. -/
def isGroupMac (m : Nat) : Bool := m / 2 ^ 40 % 2 == 1

end Sys2Proof.Machine
end

