-- ==== Sys2Proof/Machine/Aes.lean ====
section
/-! DEFINITION. AES-128 (FIPS 197), CMAC (RFC 4493) and AES-SIV-CMAC-256 (RFC 5297), the AEAD of the NTS cookies and
authenticators (spec/08_nts.md R166, R170, R179). -/

namespace Sys2Proof.Machine

/-- The AES S-box: entry `i` is byte `i` of this number. -/
def aesSboxWord : Nat :=
  0x16BB54B00F2D99416842E6BF0D89A18CDF2855CEE9871E9B948ED9691198F8E19E1DC186B95735610EF6034866B53E708A8BBD4B1F74DDE8C6B4A61C2E2578BA08AE7A65EAF4566CA94ED58D6D37C8E779E4959162ACD3C25C2406490A3A32E0DB0B5EDE14B8EE4688902A22DC4F816073195D643D7EA7C41744975FEC130CCDD2F3FF1021DAB6BCF5389D928F40A351A89F3C507F02F94585334D43FBAAEFD0CF584C4A39BECB6A5BB1FC20ED00D153842FE329B3D63B52A05A6E1B1A2C830975B227EBE28012079A059618C323C7041531D871F1E5A534CCF73F362693FDB7C072A49CAFA2D4ADF04759FA7DC982CA76ABD7FE2B670130C56F6BF27B777C63

/-- The AES S-box. -/
def aesSbox (i : Nat) : Nat := aesSboxWord >>> (8 * i) % 256

/-- Multiplication by x in the AES field. -/
def xtime (a : Nat) : Nat := if a < 128 then 2 * a else (2 * a - 256) ^^^ 0x1B

/-- Exclusive or of two runs of bytes. -/
def xorL (a b : List Nat) : List Nat := List.zipWith (fun x y => x ^^^ y) a b

/-- The round keys of AES-128: words of four bytes, the newest first, from `i` on. -/
def aesExpand : Nat → Nat → Nat → List (List Nat) → List (List Nat)
  | 0, _, _, ws => ws
  | f + 1, i, rcon, ws =>
    let w1 := ws.headD []
    let w4 := nth ws 3 []
    let t := if i % 4 = 0 then
        match w1 with
        | a :: r => match (r ++ [a]).map aesSbox with
          | b :: q => (b ^^^ rcon) :: q
          | [] => []
        | [] => []
      else w1
    aesExpand f (i + 1) (if i % 4 = 0 then xtime rcon else rcon) (xorL w4 t :: ws)

/-- The 11 round keys of a 16-byte key. -/
def aesKeys (key : List Nat) : List (List Nat) :=
  let ws := (aesExpand 40 4 1 [slice' key 12, slice' key 8, slice' key 4, slice' key 0]).reverse
  tabulate 11 (fun r => (List.range 4).flatMap (fun j => nth ws (4 * r + j) []))
where
  /-- Four bytes from an offset. -/
  slice' (k : List Nat) (i : Nat) : List Nat := (k.drop i).take 4

/-- ShiftRows of a state held column by column. -/
def shiftRows (s : List Nat) : List Nat :=
  tabulate 16 (fun i => nth s ((i + 4 * (i % 4)) % 16) 0)

/-- MixColumns of one column. -/
def mixColumn : List Nat → List Nat
  | [a, b, c, d] =>
    let t := a ^^^ b ^^^ c ^^^ d
    [a ^^^ t ^^^ xtime (a ^^^ b), b ^^^ t ^^^ xtime (b ^^^ c), c ^^^ t ^^^ xtime (c ^^^ d), d ^^^ t ^^^ xtime (d ^^^ a)]
  | l => l

/-- MixColumns. -/
def mixColumns (s : List Nat) : List Nat :=
  mixColumn (s.take 4) ++ mixColumn ((s.drop 4).take 4) ++ mixColumn ((s.drop 8).take 4) ++ mixColumn (s.drop 12)

/-- The rounds after the first key addition. -/
def aesRounds : List (List Nat) → List Nat → List Nat
  | [], s => s
  | [k], s => xorL (shiftRows (s.map aesSbox)) k
  | k :: ks, s => aesRounds ks (xorL (mixColumns (shiftRows (s.map aesSbox))) k)

/-- AES-128 of one block under expanded keys. -/
def aesBlock (keys : List (List Nat)) (b : List Nat) : List Nat :=
  match keys with
  | [] => b
  | k :: ks => aesRounds ks (xorL b k)

/-- Doubling in the field of CMAC. -/
def cmacDbl (b : List Nat) : List Nat :=
  let n := b.foldl (fun a x => a * 256 + x) 0
  let d := if n < 2 ^ 127 then 2 * n else (2 * n - 2 ^ 128) ^^^ 0x87
  ((leBytes 16 d).reverse).map (fun x => x.toNat)

/-- The CBC chain of CMAC over whole blocks. -/
def cmacChain (keys : List (List Nat)) : Nat → List Nat → List Nat → List Nat
  | 0, c, _ => c
  | f + 1, c, m => if m.length ≤ 16 then c else cmacChain keys f (aesBlock keys (xorL c (m.take 16))) (m.drop 16)

/-- What the chain leaves: the last block, padded when it is short. -/
def cmacLast (m : List Nat) : List Nat := m.drop (16 * ((m.length - 1) / 16))

/-- AES-CMAC of a message. -/
def cmac (keys : List (List Nat)) (m : List Nat) : List Nat :=
  let l := aesBlock keys (List.replicate 16 0)
  let k1 := cmacDbl l
  let last := cmacLast m
  let c := cmacChain keys (m.length + 1) (List.replicate 16 0) m
  let x := if last.length = 16 then xorL last k1
    else xorL (last ++ 0x80 :: List.replicate (15 - last.length) 0) (cmacDbl k1)
  aesBlock keys (xorL c x)

/-- S2V over components, the last of them the plaintext. -/
def s2v (keys : List (List Nat)) (comps : List (List Nat)) (plain : List Nat) : List Nat :=
  let d := comps.foldl (fun d s => xorL (cmacDbl d) (cmac keys s)) (cmac keys (List.replicate 16 0))
  if 16 ≤ plain.length then
    let n := plain.length - 16
    cmac keys (plain.take n ++ xorL (plain.drop n) d)
  else cmac keys (xorL (cmacDbl d) (plain ++ 0x80 :: List.replicate (15 - plain.length) 0))

/-- The key stream of CTR from a counter block. -/
def ctrStream (keys : List (List Nat)) : Nat → Nat → List Nat
  | 0, _ => []
  | n + 1, c => aesBlock keys (((leBytes 16 c).reverse).map (fun x => x.toNat)) ++ ctrStream keys n ((c + 1) % 2 ^ 128)

/-- CTR of SIV: the counter is the synthetic IV with two bits cleared. -/
def sivCtr (keys : List (List Nat)) (siv m : List Nat) : List Nat :=
  let c := siv.foldl (fun a x => a * 256 + x) 0
  xorL m (ctrStream keys ((m.length + 15) / 16) (clearBits c (2 ^ 63 + 2 ^ 31)))

/-- Bytes as numbers. -/
def nats (bs : Bytes) : List Nat := bs.map (fun b => b.toNat)

/-- Numbers as bytes. -/
def bytesOf (l : List Nat) : Bytes := l.map byte

/-- AES-SIV-CMAC-256: the synthetic IV and the ciphertext. -/
def sivSeal (key : Bytes) (comps : List Bytes) (plain : Bytes) : Bytes × Bytes :=
  let k := nats key
  let siv := s2v (aesKeys (k.take 16)) (comps.map nats) (nats plain)
  (bytesOf siv, bytesOf (sivCtr (aesKeys (k.drop 16)) siv (nats plain)))

/-- Open a sealing: the plaintext, when the synthetic IV is that of it. -/
def sivOpen (key : Bytes) (comps : List Bytes) (siv cipher : Bytes) : Option Bytes :=
  let k := nats key
  let plain := sivCtr (aesKeys (k.drop 16)) (nats siv) (nats cipher)
  if s2v (aesKeys (k.take 16)) (comps.map nats) plain = nats siv then some (bytesOf plain) else none

end Sys2Proof.Machine
end

