-- ==== Sys2Proof/Config.lean ====
section
/-! DEFINITION. The free values: what the manual leaves open and the hardware nevertheless produces. Each is an opaque
constant, so nothing can be proved of its value; where one is drawn more than once it is applied to the state's counter
of draws (notes/assumptions/3.md). -/

namespace Sys2Proof.Config

/-- The value of draw `n` of a generator whose output the manual does not fix. -/
opaque freeDraw : Nat → Nat

/-- The key provisioned for credential 0 (R349), 256 bits before reduction. -/
opaque provisionedKey : Nat

/-- The phase of the core clock against the time clock at the reset that made draw `n` (R383): even for φ below one
half. -/
opaque corePhase : Nat → Nat

/-- The size in bytes of a port's host-bound receive buffer (R94, R333), which the manual does not give. -/
opaque rxBufferBytes : Nat

/-- The keyed hash that places a client prefix in a rate-limit bucket (R139): key, and version, prefix and profile in one
number. The manual does not give the function. -/
opaque bucketHash : Nat → Nat → Nat

/-- The second hash, whose low 8 bits are a bucket's tag (Table 6-6). -/
opaque bucketTag : Nat → Nat → Nat

/-- The prior variance of coefficient `i` of the oscillator model's fit, 1 to 5, in FF² units times 2^96 (R293 gives that of f0
alone). -/
opaque fitPrior : Nat → Nat

/-- The variance the fit gives one observation, in FF² units times 2^96, which the manual does not state (R293). -/
opaque fitNoise : Nat

/-- The constant k_f of front end `f`, in ticks below 16, fixed per device at manufacture (R228). -/
opaque sampleOffset : Nat → Nat

/-- The largest step between successive grid instants of a port mode, in 2^-16 ns (R149), for a mode code; the manual does not give
it. -/
opaque gridMaxStep : Nat → Nat

/-- The Lanithays description of the image of a firmware version (R360): its version, its SHA-256 and its size in bytes. -/
opaque descVersion : Nat → Nat

/-- The SHA-256 of the description. -/
opaque descDigest : Nat → Nat

/-- The size of the description in bytes. -/
opaque descSize : Nat → Nat

/-- Chunk `i` of the description of a firmware version, as the number its bytes hold. -/
opaque descChunk : Nat → Nat → Nat

/-- Field `i` of an image with given bytes (R425), whose layout the manual does not give: 1 firmware version, 2 security version,
3 the public key's x and y as one 768-bit number, 4 and 5 the signature's r and s, 6 the number of bytes the signature covers, 7 its length. -/
opaque imageField : List (BitVec 8) → Nat → Nat

/-- Which boot flash is fitted: of 64, 128 or 256 MiB (R445). -/
opaque flashKind : Fin 3

/-- The log as device firmware keeps it (Table 17-6), whose contents the manual does not give: how many entries it has made by a
tick. -/
opaque logCount : Nat → Nat

/-- How many log entries are lost by a tick. -/
opaque logLost : Nat → Nat

/-- The log entry of an index at a tick, as the number its 64 bytes hold. -/
opaque logEntry : Nat → Nat → Nat

end Sys2Proof.Config
end

