-- ==== Sys2Proof/Machine/Objects.lean ====
section
/-! DEFINITION. The numbers of the dictionary objects (spec/00_scope.md R12, R13), one name for each object and member
of the area tables of spec/. An object number packs area, item and member; `n` is the instance (R13). -/

namespace Sys2Proof.Machine

/-- A dictionary object number: area, item and member packed as aaiiim in hex (R12). -/
abbrev Key := Nat

/-- The number of OD area.item/member (R12). -/
def odKey (area item member : Nat) : Key := area * 65536 + item * 16 + member

/-- The area of an object number. -/
def Key.area (k : Key) : Nat := k / 65536
/-- The item of an object number. -/
def Key.item (k : Key) : Nat := k / 16 % 4096
/-- The member of an object number. -/
def Key.member (k : Key) : Nat := k % 16

/-! ## Area 00: spec/17_dictionary.md Table 17-5 (R361) -/
def Od.ID.vendor_id : Key := odKey 0x00 0x001 1
def Od.ID.device_id : Key := odKey 0x00 0x001 2
def Od.ID.revision : Key := odKey 0x00 0x001 3
def Od.ID.ordering_code : Key := odKey 0x00 0x001 4
def Od.ID.serial : Key := odKey 0x00 0x001 5
def Od.ID.eui64 : Key := odKey 0x00 0x001 6
def Od.ID.base_mac : Key := odKey 0x00 0x001 7
def Od.ID.fw_version : Key := odKey 0x00 0x001 8
def Od.DESC.version : Key := odKey 0x00 0x002 1
def Od.DESC.digest : Key := odKey 0x00 0x002 2
def Od.DESC.size : Key := odKey 0x00 0x002 3
def Od.DESC.chunk_index : Key := odKey 0x00 0x002 4
def Od.DESC.chunk : Key := odKey 0x00 0x002 5
def Od.LABEL.name : Key := odKey 0x00 0x003 1
def Od.LABEL.location : Key := odKey 0x00 0x003 2

/-! ## Area 10: spec/02_moons.md Table 2-7 (R68) -/
def Od.LEAP_BASE : Key := odKey 0x10 0x001 0
def Od.LEAP_ENTRY.instant (n : Nat) : Key := odKey 0x10 (0x010 + n) 1
def Od.LEAP_ENTRY.offset (n : Nat) : Key := odKey 0x10 (0x010 + n) 2
def Od.LEAP_ENTRY.valid (n : Nat) : Key := odKey 0x10 (0x010 + n) 3
def Od.MOON_CONFIG.enable (n : Nat) : Key := odKey 0x10 (0x100 + 16 * n) 1
def Od.MOON_CONFIG.scale (n : Nat) : Key := odKey 0x10 (0x100 + 16 * n) 2
def Od.MOON_CONFIG.steer_source (n : Nat) : Key := odKey 0x10 (0x100 + 16 * n) 3
def Od.MOON_CONFIG.jump_limit (n : Nat) : Key := odKey 0x10 (0x100 + 16 * n) 4
def Od.MOON_CONFIG.slew_ceiling_ppb (n : Nat) : Key := odKey 0x10 (0x100 + 16 * n) 5
def Od.MOON_CONFIG.rate_ceiling_ppb (n : Nat) : Key := odKey 0x10 (0x100 + 16 * n) 6
def Od.MOON_CONFIG.stratum_locked (n : Nat) : Key := odKey 0x10 (0x100 + 16 * n) 7
def Od.MOON_CONFIG.refid (n : Nat) : Key := odKey 0x10 (0x100 + 16 * n) 8
def Od.MOON_INC_STAGED (n : Nat) : Key := odKey 0x10 (0x101 + 16 * n) 0
def Od.MOON_INC_ACTIVE (n : Nat) : Key := odKey 0x10 (0x102 + 16 * n) 0
def Od.MOON_STEP_STAGED (n : Nat) : Key := odKey 0x10 (0x103 + 16 * n) 0
def Od.MOON_SET.armed (n : Nat) : Key := odKey 0x10 (0x104 + 16 * n) 1
def Od.MOON_SET.value (n : Nat) : Key := odKey 0x10 (0x104 + 16 * n) 2
def Od.MOON_CONSENT.bound (n : Nat) : Key := odKey 0x10 (0x105 + 16 * n) 1
def Od.MOON_CONSENT.armed (n : Nat) : Key := odKey 0x10 (0x105 + 16 * n) 2
def Od.MOON_CONSENT.expires (n : Nat) : Key := odKey 0x10 (0x105 + 16 * n) 3
def Od.MOON_EPOCH_CUR.boundary (n : Nat) : Key := odKey 0x10 (0x106 + 16 * n) 1
def Od.MOON_EPOCH_CUR.count (n : Nat) : Key := odKey 0x10 (0x106 + 16 * n) 2
def Od.MOON_EPOCH_CUR.inc (n : Nat) : Key := odKey 0x10 (0x106 + 16 * n) 3
def Od.MOON_EPOCH_CUR.state (n : Nat) : Key := odKey 0x10 (0x106 + 16 * n) 4
def Od.MOON_EPOCH_CUR.flags (n : Nat) : Key := odKey 0x10 (0x106 + 16 * n) 5
def Od.MOON_EPOCH_CUR.li (n : Nat) : Key := odKey 0x10 (0x106 + 16 * n) 6
def Od.MOON_EPOCH_CUR.stratum (n : Nat) : Key := odKey 0x10 (0x106 + 16 * n) 7
def Od.MOON_EPOCH_CUR.tai_utc (n : Nat) : Key := odKey 0x10 (0x106 + 16 * n) 8
def Od.MOON_EPOCH_CUR.leap_instant (n : Nat) : Key := odKey 0x10 (0x106 + 16 * n) 9
def Od.MOON_EPOCH_CUR.leap_delta (n : Nat) : Key := odKey 0x10 (0x106 + 16 * n) 10
def Od.MOON_EPOCH_CUR.error_bound (n : Nat) : Key := odKey 0x10 (0x106 + 16 * n) 11
def Od.MOON_EPOCH_CUR.root_dispersion (n : Nat) : Key := odKey 0x10 (0x106 + 16 * n) 12
def Od.MOON_EPOCH_CUR.refid (n : Nat) : Key := odKey 0x10 (0x106 + 16 * n) 13
def Od.MOON_EPOCH_CUR.step_count (n : Nat) : Key := odKey 0x10 (0x106 + 16 * n) 14
def Od.MOON_EPOCH_CUR.last_step (n : Nat) : Key := odKey 0x10 (0x106 + 16 * n) 15
def Od.MOON_EPOCH_NEXT.boundary (n : Nat) : Key := odKey 0x10 (0x107 + 16 * n) 1
def Od.MOON_EPOCH_NEXT.count (n : Nat) : Key := odKey 0x10 (0x107 + 16 * n) 2
def Od.MOON_EPOCH_NEXT.inc (n : Nat) : Key := odKey 0x10 (0x107 + 16 * n) 3
def Od.MOON_EPOCH_NEXT.state (n : Nat) : Key := odKey 0x10 (0x107 + 16 * n) 4
def Od.MOON_EPOCH_NEXT.flags (n : Nat) : Key := odKey 0x10 (0x107 + 16 * n) 5
def Od.MOON_EPOCH_NEXT.li (n : Nat) : Key := odKey 0x10 (0x107 + 16 * n) 6
def Od.MOON_EPOCH_NEXT.stratum (n : Nat) : Key := odKey 0x10 (0x107 + 16 * n) 7
def Od.MOON_EPOCH_NEXT.tai_utc (n : Nat) : Key := odKey 0x10 (0x107 + 16 * n) 8
def Od.MOON_EPOCH_NEXT.leap_instant (n : Nat) : Key := odKey 0x10 (0x107 + 16 * n) 9
def Od.MOON_EPOCH_NEXT.leap_delta (n : Nat) : Key := odKey 0x10 (0x107 + 16 * n) 10
def Od.MOON_EPOCH_NEXT.error_bound (n : Nat) : Key := odKey 0x10 (0x107 + 16 * n) 11
def Od.MOON_EPOCH_NEXT.root_dispersion (n : Nat) : Key := odKey 0x10 (0x107 + 16 * n) 12
def Od.MOON_EPOCH_NEXT.refid (n : Nat) : Key := odKey 0x10 (0x107 + 16 * n) 13
def Od.MOON_EPOCH_NEXT.step_count (n : Nat) : Key := odKey 0x10 (0x107 + 16 * n) 14
def Od.MOON_EPOCH_NEXT.last_step (n : Nat) : Key := odKey 0x10 (0x107 + 16 * n) 15
def Od.MOON_STATUS.refused (n : Nat) : Key := odKey 0x10 (0x108 + 16 * n) 1
def Od.MOON_STATUS.ceiling (n : Nat) : Key := odKey 0x10 (0x108 + 16 * n) 2
def Od.MOON_STATUS.clamped (n : Nat) : Key := odKey 0x10 (0x108 + 16 * n) 3
def Od.MOON_STATUS.sticky (n : Nat) : Key := odKey 0x10 (0x108 + 16 * n) 4
def Od.MOON_STATUS.copies (n : Nat) : Key := odKey 0x10 (0x108 + 16 * n) 5
def Od.MOON_STATUS.votes_corrected (n : Nat) : Key := odKey 0x10 (0x108 + 16 * n) 6
def Od.MOON_STATUS.last_step_boundary (n : Nat) : Key := odKey 0x10 (0x108 + 16 * n) 7
def Od.MOON_NOW.tick (n : Nat) : Key := odKey 0x10 (0x109 + 16 * n) 1
def Od.MOON_NOW.linear (n : Nat) : Key := odKey 0x10 (0x109 + 16 * n) 2
def Od.MOON_NOW.label (n : Nat) : Key := odKey 0x10 (0x109 + 16 * n) 3
def Od.MOON_NOW.short (n : Nat) : Key := odKey 0x10 (0x109 + 16 * n) 4
def Od.MOON_NOW.ntp (n : Nat) : Key := odKey 0x10 (0x109 + 16 * n) 5
def Od.MOON_NOW.ntp_era (n : Nat) : Key := odKey 0x10 (0x109 + 16 * n) 6
def Od.MOON_NOW.in_leap (n : Nat) : Key := odKey 0x10 (0x109 + 16 * n) 7
def Od.MOON_CMP0.target (n : Nat) : Key := odKey 0x10 (0x10C + 16 * n) 1
def Od.MOON_CMP1.target (n : Nat) : Key := odKey 0x10 (0x10D + 16 * n) 1
def Od.MOON_CMP2.target (n : Nat) : Key := odKey 0x10 (0x10E + 16 * n) 1
def Od.MOON_CMP3.target (n : Nat) : Key := odKey 0x10 (0x10F + 16 * n) 1
def Od.MOON_CMP0.armed (n : Nat) : Key := odKey 0x10 (0x10C + 16 * n) 2
def Od.MOON_CMP1.armed (n : Nat) : Key := odKey 0x10 (0x10D + 16 * n) 2
def Od.MOON_CMP2.armed (n : Nat) : Key := odKey 0x10 (0x10E + 16 * n) 2
def Od.MOON_CMP3.armed (n : Nat) : Key := odKey 0x10 (0x10F + 16 * n) 2
def Od.MOON_CMP0.reached (n : Nat) : Key := odKey 0x10 (0x10C + 16 * n) 3
def Od.MOON_CMP1.reached (n : Nat) : Key := odKey 0x10 (0x10D + 16 * n) 3
def Od.MOON_CMP2.reached (n : Nat) : Key := odKey 0x10 (0x10E + 16 * n) 3
def Od.MOON_CMP3.reached (n : Nat) : Key := odKey 0x10 (0x10F + 16 * n) 3

/-! ## Area 14: spec/03_schedule.md Table 3-4 -/
def Od.SCHED_STATUS.fired : Key := odKey 0x14 0x001 1
def Od.SCHED_STATUS.late : Key := odKey 0x14 0x001 2
def Od.SCHED_STATUS.stepped : Key := odKey 0x14 0x001 3
def Od.SCHED_STATUS.refused : Key := odKey 0x14 0x001 4
def Od.SCHED_STATUS.overrun : Key := odKey 0x14 0x001 5
def Od.SCHED_STATUS.voided : Key := odKey 0x14 0x001 6
def Od.SCHED_STATUS.sticky : Key := odKey 0x14 0x001 7
def Od.SCHED_STATUS.last_entry : Key := odKey 0x14 0x001 8
def Od.SCHED_STATUS.last_tick : Key := odKey 0x14 0x001 9
def Od.SCHED_SNAP.tick : Key := odKey 0x14 0x002 1
def Od.SCHED_SNAP.sequence : Key := odKey 0x14 0x002 2
def Od.SCHED_SNAP.entry : Key := odKey 0x14 0x002 3
def Od.SCHED_SNAP_MOON (n : Nat) : Key := odKey 0x14 (0x040 + n) 0
def Od.SCHED_ENTRY.target (n : Nat) : Key := odKey 0x14 (0x400 + n) 1
def Od.SCHED_ENTRY.moon (n : Nat) : Key := odKey 0x14 (0x400 + n) 2
def Od.SCHED_ENTRY.action (n : Nat) : Key := odKey 0x14 (0x400 + n) 3
def Od.SCHED_ENTRY.arg (n : Nat) : Key := odKey 0x14 (0x400 + n) 4
def Od.SCHED_ENTRY.period (n : Nat) : Key := odKey 0x14 (0x400 + n) 5
def Od.SCHED_ENTRY.repeat (n : Nat) : Key := odKey 0x14 (0x400 + n) 6
def Od.SCHED_ENTRY.state (n : Nat) : Key := odKey 0x14 (0x400 + n) 7
def Od.SCHED_ENTRY.flags (n : Nat) : Key := odKey 0x14 (0x400 + n) 8
def Od.SCHED_ENTRY.fire_tick (n : Nat) : Key := odKey 0x14 (0x400 + n) 9
def Od.SCHED_ENTRY.fire_count (n : Nat) : Key := odKey 0x14 (0x400 + n) 10
def Od.SCHED_ENTRY.roles (n : Nat) : Key := odKey 0x14 (0x400 + n) 11
def Od.SCHED_ENTRY.result (n : Nat) : Key := odKey 0x14 (0x400 + n) 12

/-! ## Area 18: spec/14_outputs.md Table 14-2 -/
def Od.OUT_STATUS.sticky : Key := odKey 0x18 0x001 1
def Od.OUT_STATUS.time_ok : Key := odKey 0x18 0x001 2
def Od.SYNTH.enable (n : Nat) : Key := odKey 0x18 (0x010 + n) 1
def Od.SYNTH.vco_hz (n : Nat) : Key := odKey 0x18 (0x010 + n) 2
def Od.SYNTH.locked (n : Nat) : Key := odKey 0x18 (0x010 + n) 3
def Od.SYNTH.ratio (n : Nat) : Key := odKey 0x18 (0x010 + n) 4
def Od.CLKOUT.enable (n : Nat) : Key := odKey 0x18 (0x020 + n) 1
def Od.CLKOUT.divider (n : Nat) : Key := odKey 0x18 (0x020 + n) 2
def Od.CLKOUT.format (n : Nat) : Key := odKey 0x18 (0x020 + n) 3
def Od.CLKOUT.squelch (n : Nat) : Key := odKey 0x18 (0x020 + n) 4
def Od.CLKOUT.align (n : Nat) : Key := odKey 0x18 (0x020 + n) 5
def Od.CLKOUT.squelched (n : Nat) : Key := odKey 0x18 (0x020 + n) 6
def Od.PPSOUT.enable (n : Nat) : Key := odKey 0x18 (0x040 + n) 1
def Od.PPSOUT.moon (n : Nat) : Key := odKey 0x18 (0x040 + n) 2
def Od.PPSOUT.period (n : Nat) : Key := odKey 0x18 (0x040 + n) 3
def Od.PPSOUT.phase (n : Nat) : Key := odKey 0x18 (0x040 + n) 4
def Od.PPSOUT.width (n : Nat) : Key := odKey 0x18 (0x040 + n) 5
def Od.PPSOUT.advance (n : Nat) : Key := odKey 0x18 (0x040 + n) 6
def Od.PPSOUT.cal_offset (n : Nat) : Key := odKey 0x18 (0x040 + n) 7
def Od.PPSOUT.squelch (n : Nat) : Key := odKey 0x18 (0x040 + n) 8
def Od.PPSOUT.edges (n : Nat) : Key := odKey 0x18 (0x040 + n) 9
def Od.PPSOUT.skipped (n : Nat) : Key := odKey 0x18 (0x040 + n) 10
def Od.PPSOUT.echo_last (n : Nat) : Key := odKey 0x18 (0x040 + n) 11
def Od.PPSOUT.squelched (n : Nat) : Key := odKey 0x18 (0x040 + n) 12
def Od.TOD_OUT.enable : Key := odKey 0x18 0x060 1
def Od.TOD_OUT.format : Key := odKey 0x18 0x060 2
def Od.TOD_OUT.baud : Key := odKey 0x18 0x060 3
def Od.TOD_OUT.ppsout : Key := odKey 0x18 0x060 4
def Od.TOD_OUT.start_ms : Key := odKey 0x18 0x060 5
def Od.TOD_OUT_STATUS.sent : Key := odKey 0x18 0x061 1
def Od.TOD_OUT_STATUS.invalid : Key := odKey 0x18 0x061 2

/-! ## Area 20: spec/10_reference_inputs.md Table 10-5 -/
def Od.REFIN_CFG.enable (n : Nat) : Key := odKey 0x20 (0x100 + n) 1
def Od.REFIN_CFG.mode (n : Nat) : Key := odKey 0x20 (0x100 + n) 2
def Od.REFIN_CFG.waveform (n : Nat) : Key := odKey 0x20 (0x100 + n) 3
def Od.REFIN_CFG.signalling (n : Nat) : Key := odKey 0x20 (0x100 + n) 4
def Od.REFIN_CFG.edge (n : Nat) : Key := odKey 0x20 (0x100 + n) 5
def Od.REFIN_CFG.f_nom (n : Nat) : Key := odKey 0x20 (0x100 + n) 6
def Od.REFIN_CFG.compare_hz (n : Nat) : Key := odKey 0x20 (0x100 + n) 7
def Od.REFIN_CFG.threshold_mv (n : Nat) : Key := odKey 0x20 (0x100 + n) 8
def Od.REFIN_CFG.slot (n : Nat) : Key := odKey 0x20 (0x100 + n) 9
def Od.REFIN_CFG.source (n : Nat) : Key := odKey 0x20 (0x100 + n) 10
def Od.REFIN_CFG.sibling (n : Nat) : Key := odKey 0x20 (0x100 + n) 11
def Od.REFIN_QUAL.window (n : Nat) : Key := odKey 0x20 (0x110 + n) 1
def Od.REFIN_QUAL.window_fine (n : Nat) : Key := odKey 0x20 (0x110 + n) 2
def Od.REFIN_QUAL.min_width (n : Nat) : Key := odKey 0x20 (0x110 + n) 3
def Od.REFIN_QUAL.freq_limit_ppb (n : Nat) : Key := odKey 0x20 (0x110 + n) 4
def Od.REFIN_QUAL.amp_min_mv (n : Nat) : Key := odKey 0x20 (0x110 + n) 5
def Od.REFIN_QUAL.qual_time (n : Nat) : Key := odKey 0x20 (0x110 + n) 6
def Od.REFIN_QUAL.gate (n : Nat) : Key := odKey 0x20 (0x110 + n) 7
def Od.REFIN_STATUS.state (n : Nat) : Key := odKey 0x20 (0x120 + n) 1
def Od.REFIN_STATUS.causes (n : Nat) : Key := odKey 0x20 (0x120 + n) 2
def Od.REFIN_STATUS.sticky (n : Nat) : Key := odKey 0x20 (0x120 + n) 3
def Od.REFIN_STATUS.fail_count (n : Nat) : Key := odKey 0x20 (0x120 + n) 4
def Od.REFIN_STATUS.last_fail_tick (n : Nat) : Key := odKey 0x20 (0x120 + n) 5
def Od.REFIN_STATUS.qualified_tick (n : Nat) : Key := odKey 0x20 (0x120 + n) 6
def Od.REFIN_STATUS.edges (n : Nat) : Key := odKey 0x20 (0x120 + n) 7
def Od.REFIN_STATUS.vth_mv (n : Nat) : Key := odKey 0x20 (0x120 + n) 8
def Od.REFIN_STATUS.amplitude_mv (n : Nat) : Key := odKey 0x20 (0x120 + n) 9
def Od.REFIN_STATUS.walk (n : Nat) : Key := odKey 0x20 (0x120 + n) 10
def Od.REFIN_MEAS.tick (n : Nat) : Key := odKey 0x20 (0x130 + n) 1
def Od.REFIN_MEAS.phase (n : Nat) : Key := odKey 0x20 (0x130 + n) 2
def Od.REFIN_MEAS.ff (n : Nat) : Key := odKey 0x20 (0x130 + n) 3
def Od.REFIN_MEAS.state (n : Nat) : Key := odKey 0x20 (0x130 + n) 4
def Od.REFIN_MEAS.flags (n : Nat) : Key := odKey 0x20 (0x130 + n) 5
def Od.REFIN_MEAS.sibling_bound (n : Nat) : Key := odKey 0x20 (0x130 + n) 6
def Od.SYNCE_CFG.enable (n : Nat) : Key := odKey 0x20 (0x200 + n) 1
def Od.SYNCE_CFG.slot (n : Nat) : Key := odKey 0x20 (0x200 + n) 2
def Od.SYNCE_CFG.freq_limit_ppb (n : Nat) : Key := odKey 0x20 (0x200 + n) 3
def Od.SYNCE_CFG.qual_time (n : Nat) : Key := odKey 0x20 (0x200 + n) 4
def Od.SYNCE_CFG.gate (n : Nat) : Key := odKey 0x20 (0x200 + n) 5
def Od.SYNCE_STATUS.state (n : Nat) : Key := odKey 0x20 (0x240 + n) 1
def Od.SYNCE_STATUS.causes (n : Nat) : Key := odKey 0x20 (0x240 + n) 2
def Od.SYNCE_STATUS.sticky (n : Nat) : Key := odKey 0x20 (0x240 + n) 3
def Od.SYNCE_STATUS.ff (n : Nat) : Key := odKey 0x20 (0x240 + n) 4
def Od.SYNCE_STATUS.ql (n : Nat) : Key := odKey 0x20 (0x240 + n) 5
def Od.SYNCE_STATUS.ql_valid (n : Nat) : Key := odKey 0x20 (0x240 + n) 6
def Od.TOD_IN.enable : Key := odKey 0x20 0x300 1
def Od.TOD_IN.format : Key := odKey 0x20 0x300 2
def Od.TOD_IN.baud : Key := odKey 0x20 0x300 3
def Od.TOD_IN.refin : Key := odKey 0x20 0x300 4
def Od.TOD_IN.edge_rule : Key := odKey 0x20 0x300 5
def Od.TOD_STATUS.last_label : Key := odKey 0x20 0x301 1
def Od.TOD_STATUS.seconds_offset : Key := odKey 0x20 0x301 2
def Od.TOD_STATUS.good : Key := odKey 0x20 0x301 3
def Od.TOD_STATUS.bad : Key := odKey 0x20 0x301 4
def Od.TOD_STATUS.late : Key := odKey 0x20 0x301 5
def Od.TOD_STATUS.mismatch : Key := odKey 0x20 0x301 6
def Od.TOD_STATUS.sticky : Key := odKey 0x20 0x301 7

/-! ## Area 24: spec/11_gnss.md Table 11-8 -/
def Od.GNSS_GLOBAL.systems : Key := odKey 0x24 0x001 1
def Od.GNSS_GLOBAL.time_ref : Key := odKey 0x24 0x001 2
def Od.GNSS_GLOBAL.realisation : Key := odKey 0x24 0x001 3
def Od.GNSS_GLOBAL.solve_hz : Key := odKey 0x24 0x001 4
def Od.GNSS_GLOBAL.elevation_mask : Key := odKey 0x24 0x001 5
def Od.GNSS_GLOBAL.cn0_min : Key := odKey 0x24 0x001 6
def Od.GNSS_GLOBAL.cn0_max : Key := odKey 0x24 0x001 7
def Od.GNSS_GLOBAL.jam_db : Key := odKey 0x24 0x001 8
def Od.GNSS_GLOBAL.raim_limit : Key := odKey 0x24 0x001 9
def Od.GNSS_GLOBAL.consistency_limit : Key := odKey 0x24 0x001 10
def Od.GNSS_GLOBAL.delay_uncert : Key := odKey 0x24 0x001 11
def Od.GNSS_GLOBAL.osnma_policy : Key := odKey 0x24 0x001 12
def Od.GNSS_GLOBAL.anchor_limit : Key := odKey 0x24 0x001 13
def Od.GNSS_POS.mode : Key := odKey 0x24 0x002 1
def Od.GNSS_POS.survey_time : Key := odKey 0x24 0x002 2
def Od.GNSS_POS.survey_sigma_mm : Key := odKey 0x24 0x002 3
def Od.GNSS_POS.pos_limit_m : Key := odKey 0x24 0x002 4
def Od.GNSS_POS.auto_resurvey : Key := odKey 0x24 0x002 5
def Od.GNSS_HELD.lat : Key := odKey 0x24 0x003 1
def Od.GNSS_HELD.lon : Key := odKey 0x24 0x003 2
def Od.GNSS_HELD.height : Key := odKey 0x24 0x003 3
def Od.GNSS_HELD.sigma_h : Key := odKey 0x24 0x003 4
def Od.GNSS_HELD.sigma_v : Key := odKey 0x24 0x003 5
def Od.GNSS_HELD.origin : Key := odKey 0x24 0x003 6
def Od.GNSS_HELD.valid : Key := odKey 0x24 0x003 7
def Od.GNSS_OSNMA.merkle_root : Key := odKey 0x24 0x004 1
def Od.GNSS_OSNMA.state : Key := odKey 0x24 0x004 2
def Od.GNSS_OSNMA.key_type : Key := odKey 0x24 0x004 3
def Od.GNSS_OSNMA.tags_ok : Key := odKey 0x24 0x004 4
def Od.GNSS_OSNMA.tags_failed : Key := odKey 0x24 0x004 5
def Od.GNSS_OSNMA.last_auth_tick : Key := odKey 0x24 0x004 6
def Od.GNSS_STORE.save : Key := odKey 0x24 0x005 1
def Od.GNSS_STORE.ephemerides : Key := odKey 0x24 0x005 2
def Od.GNSS_STORE.almanac_age : Key := odKey 0x24 0x005 3
def Od.GNSS_STORE.last_save_tick : Key := odKey 0x24 0x005 4
def Od.GNSS_LEAP.tai_utc : Key := odKey 0x24 0x006 1
def Od.GNSS_LEAP.next_instant : Key := odKey 0x24 0x006 2
def Od.GNSS_LEAP.next_delta : Key := odKey 0x24 0x006 3
def Od.GNSS_LEAP.mismatch : Key := odKey 0x24 0x006 4
def Od.GNSS_FE.enable (n : Nat) : Key := odKey 0x24 (0x010 + n) 1
def Od.GNSS_FE.bands (n : Nat) : Key := odKey 0x24 (0x010 + n) 2
def Od.GNSS_FE.slot (n : Nat) : Key := odKey 0x24 (0x010 + n) 3
def Od.GNSS_FE.if_upper_hz (n : Nat) : Key := odKey 0x24 (0x010 + n) 4
def Od.GNSS_FE.if_lower_hz (n : Nat) : Key := odKey 0x24 (0x010 + n) 5
def Od.GNSS_FE.channels_max (n : Nat) : Key := odKey 0x24 (0x010 + n) 6
def Od.GNSS_FE.qual_time (n : Nat) : Key := odKey 0x24 (0x010 + n) 7
def Od.GNSS_FE.antenna_fault (n : Nat) : Key := odKey 0x24 (0x010 + n) 8
def Od.GNSS_FE.lever_mm (n : Nat) : Key := odKey 0x24 (0x010 + n) 9
def Od.GNSS_FE_STATUS.state (n : Nat) : Key := odKey 0x24 (0x020 + n) 1
def Od.GNSS_FE_STATUS.causes (n : Nat) : Key := odKey 0x24 (0x020 + n) 2
def Od.GNSS_FE_STATUS.sticky (n : Nat) : Key := odKey 0x24 (0x020 + n) 3
def Od.GNSS_FE_STATUS.fail_count (n : Nat) : Key := odKey 0x24 (0x020 + n) 4
def Od.GNSS_FE_STATUS.qualified_tick (n : Nat) : Key := odKey 0x24 (0x020 + n) 5
def Od.GNSS_FE_STATUS.noise_floor (n : Nat) : Key := odKey 0x24 (0x020 + n) 6
def Od.GNSS_SOL.tick (n : Nat) : Key := odKey 0x24 (0x030 + n) 1
def Od.GNSS_SOL.seconds (n : Nat) : Key := odKey 0x24 (0x030 + n) 2
def Od.GNSS_SOL.phase (n : Nat) : Key := odKey 0x24 (0x030 + n) 3
def Od.GNSS_SOL.ff (n : Nat) : Key := odKey 0x24 (0x030 + n) 4
def Od.GNSS_SOL.state (n : Nat) : Key := odKey 0x24 (0x030 + n) 5
def Od.GNSS_SOL.flags (n : Nat) : Key := odKey 0x24 (0x030 + n) 6
def Od.GNSS_SOL.bound (n : Nat) : Key := odKey 0x24 (0x030 + n) 7
def Od.GNSS_SOL.used (n : Nat) : Key := odKey 0x24 (0x030 + n) 8
def Od.GNSS_SOL.authenticated (n : Nat) : Key := odKey 0x24 (0x030 + n) 9
def Od.GNSS_SOL.pdop (n : Nat) : Key := odKey 0x24 (0x030 + n) 10
def Od.GNSS_SOL.causes (n : Nat) : Key := odKey 0x24 (0x030 + n) 11
def Od.GNSS_POSITION.lat (n : Nat) : Key := odKey 0x24 (0x040 + n) 1
def Od.GNSS_POSITION.lon (n : Nat) : Key := odKey 0x24 (0x040 + n) 2
def Od.GNSS_POSITION.height (n : Nat) : Key := odKey 0x24 (0x040 + n) 3
def Od.GNSS_POSITION.sigma_h (n : Nat) : Key := odKey 0x24 (0x040 + n) 4
def Od.GNSS_POSITION.sigma_v (n : Nat) : Key := odKey 0x24 (0x040 + n) 5
def Od.GNSS_POSITION.survey_pct (n : Nat) : Key := odKey 0x24 (0x040 + n) 6
def Od.GNSS_CHAN.fe (n : Nat) : Key := odKey 0x24 (0x100 + n) 1
def Od.GNSS_CHAN.band (n : Nat) : Key := odKey 0x24 (0x100 + n) 2
def Od.GNSS_CHAN.system (n : Nat) : Key := odKey 0x24 (0x100 + n) 3
def Od.GNSS_CHAN.prn (n : Nat) : Key := odKey 0x24 (0x100 + n) 4
def Od.GNSS_CHAN.state (n : Nat) : Key := odKey 0x24 (0x100 + n) 5
def Od.GNSS_CHAN.cn0 (n : Nat) : Key := odKey 0x24 (0x100 + n) 6
def Od.GNSS_CHAN.elevation (n : Nat) : Key := odKey 0x24 (0x100 + n) 7
def Od.GNSS_CHAN.azimuth (n : Nat) : Key := odKey 0x24 (0x100 + n) 8
def Od.GNSS_CHAN.used (n : Nat) : Key := odKey 0x24 (0x100 + n) 9
def Od.GNSS_CHAN.auth (n : Nat) : Key := odKey 0x24 (0x100 + n) 10

/-! ## Area 28: spec/12_selection.md Table 12-6 -/
def Od.SEL_STATUS.switches : Key := odKey 0x28 0x001 1
def Od.SEL_STATUS.disqualified : Key := odKey 0x28 0x001 2
def Od.SEL_STATUS.asym_updates : Key := odKey 0x28 0x001 3
def Od.SEL_STATUS.mismatches : Key := odKey 0x28 0x001 4
def Od.SEL_STATUS.sticky : Key := odKey 0x28 0x001 5
def Od.SEL_PEEK.row : Key := odKey 0x28 0x002 1
def Od.SEL_PEEK.col : Key := odKey 0x28 0x002 2
def Od.SEL_PEEK.phase : Key := odKey 0x28 0x002 3
def Od.SEL_PEEK.ff : Key := odKey 0x28 0x002 4
def Od.SEL_PEEK.tick : Key := odKey 0x28 0x002 5
def Od.SEL_SLOT.home_moon (n : Nat) : Key := odKey 0x28 (0x100 + n) 1
def Od.SEL_SLOT.rank_override (n : Nat) : Key := odKey 0x28 (0x100 + n) 2
def Od.SEL_SLOT.rank_limit (n : Nat) : Key := odKey 0x28 (0x100 + n) 3
def Od.SEL_SLOT.jump_detect (n : Nat) : Key := odKey 0x28 (0x100 + n) 4
def Od.SEL_SLOT.majority_mask (n : Nat) : Key := odKey 0x28 (0x100 + n) 5
def Od.SEL_SLOT.shadow_mask (n : Nat) : Key := odKey 0x28 (0x100 + n) 6
def Od.SEL_SLOT.freq_mask (n : Nat) : Key := odKey 0x28 (0x100 + n) 7
def Od.SEL_SLOT.drift_dwell (n : Nat) : Key := odKey 0x28 (0x100 + n) 8
def Od.SEL_SLOT.path_detect (n : Nat) : Key := odKey 0x28 (0x100 + n) 9
def Od.SEL_SLOT.path_confirm (n : Nat) : Key := odKey 0x28 (0x100 + n) 10
def Od.SEL_SLOT.asym_time (n : Nat) : Key := odKey 0x28 (0x100 + n) 11
def Od.SEL_SLOT.asymmetry (n : Nat) : Key := odKey 0x28 (0x100 + n) 12
def Od.SEL_SLOT.asym_origin (n : Nat) : Key := odKey 0x28 (0x100 + n) 13
def Od.SEL_TDEV_MASK.t1 (n : Nat) : Key := odKey 0x28 (0x140 + n) 1
def Od.SEL_TDEV_MASK.t10 (n : Nat) : Key := odKey 0x28 (0x140 + n) 2
def Od.SEL_TDEV_MASK.t100 (n : Nat) : Key := odKey 0x28 (0x140 + n) 3
def Od.SEL_TDEV_MASK.t1000 (n : Nat) : Key := odKey 0x28 (0x140 + n) 4
def Od.SEL_TDEV_MASK.t10000 (n : Nat) : Key := odKey 0x28 (0x140 + n) 5
def Od.SEL_MTIE_MASK.t1 (n : Nat) : Key := odKey 0x28 (0x180 + n) 1
def Od.SEL_MTIE_MASK.t10 (n : Nat) : Key := odKey 0x28 (0x180 + n) 2
def Od.SEL_MTIE_MASK.t100 (n : Nat) : Key := odKey 0x28 (0x180 + n) 3
def Od.SEL_MTIE_MASK.t1000 (n : Nat) : Key := odKey 0x28 (0x180 + n) 4
def Od.SEL_MTIE_MASK.t10000 (n : Nat) : Key := odKey 0x28 (0x180 + n) 5
def Od.SEL_SLOT_STATUS.source (n : Nat) : Key := odKey 0x28 (0x1C0 + n) 1
def Od.SEL_SLOT_STATUS.state (n : Nat) : Key := odKey 0x28 (0x1C0 + n) 2
def Od.SEL_SLOT_STATUS.causes (n : Nat) : Key := odKey 0x28 (0x1C0 + n) 3
def Od.SEL_SLOT_STATUS.sticky (n : Nat) : Key := odKey 0x28 (0x1C0 + n) 4
def Od.SEL_SLOT_STATUS.use (n : Nat) : Key := odKey 0x28 (0x1C0 + n) 5
def Od.SEL_SLOT_STATUS.rank (n : Nat) : Key := odKey 0x28 (0x1C0 + n) 6
def Od.SEL_SLOT_STATUS.rate_mhz (n : Nat) : Key := odKey 0x28 (0x1C0 + n) 7
def Od.SEL_SLOT_STATUS.wtr_remaining (n : Nat) : Key := odKey 0x28 (0x1C0 + n) 8
def Od.SEL_SLOT_STATUS.raw_offset (n : Nat) : Key := odKey 0x28 (0x1C0 + n) 9
def Od.SEL_SLOT_STATUS.raw_ff (n : Nat) : Key := odKey 0x28 (0x1C0 + n) 10
def Od.SEL_SLOT_STATUS.majority_dev (n : Nat) : Key := odKey 0x28 (0x1C0 + n) 11
def Od.SEL_SLOT_STATUS.shadow_dev (n : Nat) : Key := odKey 0x28 (0x1C0 + n) 12
def Od.SEL_SLOT_STATUS.path_delay (n : Nat) : Key := odKey 0x28 (0x1C0 + n) 13
def Od.SEL_SLOT_STATUS.last_tick (n : Nat) : Key := odKey 0x28 (0x1C0 + n) 14
def Od.SEL_SLOT_STATUS.disq_count (n : Nat) : Key := odKey 0x28 (0x1C0 + n) 15
def Od.SEL_STAB.tdev1 (n : Nat) : Key := odKey 0x28 (0x200 + n) 1
def Od.SEL_STAB.tdev10 (n : Nat) : Key := odKey 0x28 (0x200 + n) 2
def Od.SEL_STAB.tdev100 (n : Nat) : Key := odKey 0x28 (0x200 + n) 3
def Od.SEL_STAB.tdev1000 (n : Nat) : Key := odKey 0x28 (0x200 + n) 4
def Od.SEL_STAB.tdev10000 (n : Nat) : Key := odKey 0x28 (0x200 + n) 5
def Od.SEL_STAB.mtie1 (n : Nat) : Key := odKey 0x28 (0x200 + n) 6
def Od.SEL_STAB.mtie10 (n : Nat) : Key := odKey 0x28 (0x200 + n) 7
def Od.SEL_STAB.mtie100 (n : Nat) : Key := odKey 0x28 (0x200 + n) 8
def Od.SEL_STAB.mtie1000 (n : Nat) : Key := odKey 0x28 (0x200 + n) 9
def Od.SEL_STAB.mtie10000 (n : Nat) : Key := odKey 0x28 (0x200 + n) 10
def Od.SEL_SLOT_CMD (n : Nat) : Key := odKey 0x28 (0x240 + n) 0
def Od.SEL_MOON.mode (n : Nat) : Key := odKey 0x28 (0x400 + n) 1
def Od.SEL_MOON.revertive (n : Nat) : Key := odKey 0x28 (0x400 + n) 2
def Od.SEL_MOON.wtr (n : Nat) : Key := odKey 0x28 (0x400 + n) 3
def Od.SEL_MOON.wtr_alone (n : Nat) : Key := odKey 0x28 (0x400 + n) 4
def Od.SEL_MOON.hold_off_ms (n : Nat) : Key := odKey 0x28 (0x400 + n) 5
def Od.SEL_MOON.lookback (n : Nat) : Key := odKey 0x28 (0x400 + n) 6
def Od.SEL_MOON.force (n : Nat) : Key := odKey 0x28 (0x400 + n) 7
def Od.SEL_MOON.step_on_jump (n : Nat) : Key := odKey 0x28 (0x400 + n) 8
def Od.SEL_MOON.acquire (n : Nat) : Key := odKey 0x28 (0x400 + n) 9
def Od.SEL_PRIO (n : Nat) : Key := odKey 0x28 (0x420 + n) 0
def Od.SEL_MOON_STATUS.selected (n : Nat) : Key := odKey 0x28 (0x440 + n) 1
def Od.SEL_MOON_STATUS.previous (n : Nat) : Key := odKey 0x28 (0x440 + n) 2
def Od.SEL_MOON_STATUS.use (n : Nat) : Key := odKey 0x28 (0x440 + n) 3
def Od.SEL_MOON_STATUS.reason (n : Nat) : Key := odKey 0x28 (0x440 + n) 4
def Od.SEL_MOON_STATUS.last_switch_boundary (n : Nat) : Key := odKey 0x28 (0x440 + n) 5
def Od.SEL_MOON_STATUS.switches (n : Nat) : Key := odKey 0x28 (0x440 + n) 6
def Od.SEL_MOON_STATUS.shadow_valid (n : Nat) : Key := odKey 0x28 (0x440 + n) 7
def Od.SEL_MOON_STATUS.shadow_dev (n : Nat) : Key := odKey 0x28 (0x440 + n) 8
def Od.SEL_MOON_STATUS.shadow_bound (n : Nat) : Key := odKey 0x28 (0x440 + n) 9
def Od.SEL_MOON_STATUS.eligible (n : Nat) : Key := odKey 0x28 (0x440 + n) 10
def Od.SEL_MOON_STATUS.hold_off_left (n : Nat) : Key := odKey 0x28 (0x440 + n) 11
def Od.SEL_MOON_STATUS.force_state (n : Nat) : Key := odKey 0x28 (0x440 + n) 12

/-! ## Area 2C: spec/13_steering_holdover.md Table 13-5 -/
def Od.STEER_OSC.temp_source : Key := odKey 0x2C 0x001 1
def Od.STEER_OSC.t0 : Key := odKey 0x2C 0x001 2
def Od.STEER_OSC.therm_nominal : Key := odKey 0x2C 0x001 3
def Od.STEER_OSC.therm_beta : Key := odKey 0x2C 0x001 4
def Od.STEER_OSC.fit_tau : Key := odKey 0x2C 0x001 5
def Od.STEER_OSC.fit_min : Key := odKey 0x2C 0x001 6
def Od.STEER_OSC.seed_uncert : Key := odKey 0x2C 0x001 7
def Od.STEER_OSC.model_limit : Key := odKey 0x2C 0x001 8
def Od.STEER_OSC.age_epoch : Key := odKey 0x2C 0x001 9
def Od.STEER_OSC.command : Key := odKey 0x2C 0x001 10
def Od.STEER_MODEL.f0 : Key := odKey 0x2C 0x002 1
def Od.STEER_MODEL.t1 : Key := odKey 0x2C 0x002 2
def Od.STEER_MODEL.t2 : Key := odKey 0x2C 0x002 3
def Od.STEER_MODEL.tr : Key := odKey 0x2C 0x002 4
def Od.STEER_MODEL.age_log : Key := odKey 0x2C 0x002 5
def Od.STEER_MODEL.age_lin : Key := odKey 0x2C 0x002 6
def Od.STEER_MODEL.y_pred : Key := odKey 0x2C 0x002 7
def Od.STEER_MODEL.u_y : Key := odKey 0x2C 0x002 8
def Od.STEER_MODEL.u_a : Key := odKey 0x2C 0x002 9
def Od.STEER_MODEL.u_t : Key := odKey 0x2C 0x002 10
def Od.STEER_MODEL.residual_rms : Key := odKey 0x2C 0x002 11
def Od.STEER_MODEL.observations : Key := odKey 0x2C 0x002 12
def Od.STEER_MODEL.valid : Key := odKey 0x2C 0x002 13
def Od.STEER_MODEL.temperature : Key := odKey 0x2C 0x002 14
def Od.STEER_MODEL.temp_rate : Key := odKey 0x2C 0x002 15
def Od.STEER_GLOBAL.sticky : Key := odKey 0x2C 0x003 0
def Od.STEER_TEMP (n : Nat) : Key := odKey 0x2C (0x010 + n) 0
def Od.STEER_MOON.mode (n : Nat) : Key := odKey 0x2C (0x100 + n) 1
def Od.STEER_MOON.bandwidth (n : Nat) : Key := odKey 0x2C (0x100 + n) 2
def Od.STEER_MOON.damping (n : Nat) : Key := odKey 0x2C (0x100 + n) 3
def Od.STEER_MOON.lock_phase (n : Nat) : Key := odKey 0x2C (0x100 + n) 4
def Od.STEER_MOON.lock_ff (n : Nat) : Key := odKey 0x2C (0x100 + n) 5
def Od.STEER_MOON.lock_dwell (n : Nat) : Key := odKey 0x2C (0x100 + n) 6
def Od.STEER_MOON.unlock_phase (n : Nat) : Key := odKey 0x2C (0x100 + n) 7
def Od.STEER_MOON.unlock_dwell (n : Nat) : Key := odKey 0x2C (0x100 + n) 8
def Od.STEER_MOON.holdover_budget (n : Nat) : Key := odKey 0x2C (0x100 + n) 9
def Od.STEER_STATUS.state (n : Nat) : Key := odKey 0x2C (0x140 + n) 1
def Od.STEER_STATUS.bw_eff (n : Nat) : Key := odKey 0x2C (0x140 + n) 2
def Od.STEER_STATUS.phase_error (n : Nat) : Key := odKey 0x2C (0x140 + n) 3
def Od.STEER_STATUS.freq (n : Nat) : Key := odKey 0x2C (0x140 + n) 4
def Od.STEER_STATUS.error_bound (n : Nat) : Key := odKey 0x2C (0x140 + n) 5
def Od.STEER_STATUS.holdover_s (n : Nat) : Key := odKey 0x2C (0x140 + n) 6
def Od.STEER_STATUS.last_change_boundary (n : Nat) : Key := odKey 0x2C (0x140 + n) 7
def Od.STEER_STATUS.flags (n : Nat) : Key := odKey 0x2C (0x140 + n) 8
def Od.STEER_STATUS.sticky (n : Nat) : Key := odKey 0x2C (0x140 + n) 9
def Od.STEER_STATUS.changes (n : Nat) : Key := odKey 0x2C (0x140 + n) 10
def Od.STEER_STATUS.open_drift (n : Nat) : Key := odKey 0x2C (0x140 + n) 11
def Od.STEER_CMD (n : Nat) : Key := odKey 0x2C (0x180 + n) 0
def Od.STEER_SLOT.ref_uncert (n : Nat) : Key := odKey 0x2C (0x200 + n) 1
def Od.STEER_SLOT.freq_uncert (n : Nat) : Key := odKey 0x2C (0x200 + n) 2

/-! ## Area 30: spec/04_ethernet_ports.md Table 4-6 -/
def Od.PORT_GLOBAL.tpid_s : Key := odKey 0x30 0x001 1
def Od.PORT_GLOBAL.tpid_extra : Key := odKey 0x30 0x001 2
def Od.PORT_GLOBAL.esmc_option : Key := odKey 0x30 0x001 3
def Od.PORT_GLOBAL.ql_locked : Key := odKey 0x30 0x001 4
def Od.PORT_GLOBAL.ql_holdover : Key := odKey 0x30 0x001 5
def Od.RULE_COMMIT.commit : Key := odKey 0x30 0x002 1
def Od.RULE_COMMIT.active_bank : Key := odKey 0x30 0x002 2
def Od.RULE_COMMIT.commit_tick : Key := odKey 0x30 0x002 3
def Od.RULE_COMMIT.commit_count : Key := odKey 0x30 0x002 4
def Od.RULE_COMMIT.bad_rule : Key := odKey 0x30 0x002 5
def Od.LANE_GROUP.mode (n : Nat) : Key := odKey 0x30 (0x010 + n) 0
def Od.PORT_CONFIG.enable (n : Nat) : Key := odKey 0x30 (0x100 + 16 * n) 1
def Od.PORT_CONFIG.max_frame (n : Nat) : Key := odKey 0x30 (0x100 + 16 * n) 2
def Od.PORT_CONFIG.flow_mode (n : Nat) : Key := odKey 0x30 (0x100 + 16 * n) 3
def Od.PORT_CONFIG.pfc_rx_mask (n : Nat) : Key := odKey 0x30 (0x100 + 16 * n) 4
def Od.PORT_CONFIG.pause_tx (n : Nat) : Key := odKey 0x30 (0x100 + 16 * n) 5
def Od.PORT_CONFIG.pfc_tx_mask (n : Nat) : Key := odKey 0x30 (0x100 + 16 * n) 6
def Od.PORT_CONFIG.untagged_priority (n : Nat) : Key := odKey 0x30 (0x100 + 16 * n) 7
def Od.PORT_CONFIG.strip_outer (n : Nat) : Key := odKey 0x30 (0x100 + 16 * n) 8
def Od.PORT_CONFIG.default_action (n : Nat) : Key := odKey 0x30 (0x100 + 16 * n) 9
def Od.PORT_CONFIG.default_ring (n : Nat) : Key := odKey 0x30 (0x100 + 16 * n) 10
def Od.PORT_CONFIG.mac (n : Nat) : Key := odKey 0x30 (0x100 + 16 * n) 11
def Od.PORT_CONFIG.fcs_err_to_host (n : Nat) : Key := odKey 0x30 (0x100 + 16 * n) 12
def Od.PORT_CONFIG.synce_lane (n : Nat) : Key := odKey 0x30 (0x100 + 16 * n) 13
def Od.PORT_CONFIG.esmc_enable (n : Nat) : Key := odKey 0x30 (0x100 + 16 * n) 14
def Od.PORT_STATUS.link (n : Nat) : Key := odKey 0x30 (0x101 + 16 * n) 1
def Od.PORT_STATUS.lanes (n : Nat) : Key := odKey 0x30 (0x101 + 16 * n) 2
def Od.PORT_STATUS.rate_gbps (n : Nat) : Key := odKey 0x30 (0x101 + 16 * n) 3
def Od.PORT_STATUS.ts_valid (n : Nat) : Key := odKey 0x30 (0x101 + 16 * n) 4
def Od.PORT_STATUS.link_changes (n : Nat) : Key := odKey 0x30 (0x101 + 16 * n) 5
def Od.PORT_STATUS.last_change_tick (n : Nat) : Key := odKey 0x30 (0x101 + 16 * n) 6
def Od.PORT_STATUS.sticky (n : Nat) : Key := odKey 0x30 (0x101 + 16 * n) 7
def Od.PORT_ESMC.ql_rx (n : Nat) : Key := odKey 0x30 (0x102 + 16 * n) 1
def Od.PORT_ESMC.ql_rx_valid (n : Nat) : Key := odKey 0x30 (0x102 + 16 * n) 2
def Od.PORT_ESMC.ql_tx (n : Nat) : Key := odKey 0x30 (0x102 + 16 * n) 3
def Od.PORT_ESMC.ql_tx_override (n : Nat) : Key := odKey 0x30 (0x102 + 16 * n) 4
def Od.SVC4.enable (n : Nat) : Key := odKey 0x30 (0x400 + n) 1
def Od.SVC4.address (n : Nat) : Key := odKey 0x30 (0x400 + n) 2
def Od.SVC4.vid (n : Nat) : Key := odKey 0x30 (0x400 + n) 3
def Od.SVC4.port_mask (n : Nat) : Key := odKey 0x30 (0x400 + n) 4
def Od.SVC4.mac (n : Nat) : Key := odKey 0x30 (0x400 + n) 5
def Od.SVC4.neighbour (n : Nat) : Key := odKey 0x30 (0x400 + n) 6
def Od.SVC6.enable (n : Nat) : Key := odKey 0x30 (0x500 + n) 1
def Od.SVC6.address (n : Nat) : Key := odKey 0x30 (0x500 + n) 2
def Od.SVC6.vid (n : Nat) : Key := odKey 0x30 (0x500 + n) 3
def Od.SVC6.port_mask (n : Nat) : Key := odKey 0x30 (0x500 + n) 4
def Od.SVC6.mac (n : Nat) : Key := odKey 0x30 (0x500 + n) 5
def Od.SVC6.neighbour (n : Nat) : Key := odKey 0x30 (0x500 + n) 6
def Od.RULE_ACTIVE.valid (n : Nat) : Key := odKey 0x30 (0x800 + n) 1
def Od.RULE_ACTIVE.port_mask (n : Nat) : Key := odKey 0x30 (0x800 + n) 2
def Od.RULE_ACTIVE.vlan (n : Nat) : Key := odKey 0x30 (0x800 + n) 3
def Od.RULE_ACTIVE.ethertype (n : Nat) : Key := odKey 0x30 (0x800 + n) 4
def Od.RULE_ACTIVE.l3 (n : Nat) : Key := odKey 0x30 (0x800 + n) 5
def Od.RULE_ACTIVE.dst (n : Nat) : Key := odKey 0x30 (0x800 + n) 6
def Od.RULE_ACTIVE.ip_proto (n : Nat) : Key := odKey 0x30 (0x800 + n) 7
def Od.RULE_ACTIVE.dport_lo (n : Nat) : Key := odKey 0x30 (0x800 + n) 8
def Od.RULE_ACTIVE.dport_hi (n : Nat) : Key := odKey 0x30 (0x800 + n) 9
def Od.RULE_ACTIVE.action (n : Nat) : Key := odKey 0x30 (0x800 + n) 10
def Od.RULE_ACTIVE.arg (n : Nat) : Key := odKey 0x30 (0x800 + n) 11
def Od.RULE_ACTIVE.mirror (n : Nat) : Key := odKey 0x30 (0x800 + n) 12
def Od.RULE_EDIT.valid (n : Nat) : Key := odKey 0x30 (0xC00 + n) 1
def Od.RULE_EDIT.port_mask (n : Nat) : Key := odKey 0x30 (0xC00 + n) 2
def Od.RULE_EDIT.vlan (n : Nat) : Key := odKey 0x30 (0xC00 + n) 3
def Od.RULE_EDIT.ethertype (n : Nat) : Key := odKey 0x30 (0xC00 + n) 4
def Od.RULE_EDIT.l3 (n : Nat) : Key := odKey 0x30 (0xC00 + n) 5
def Od.RULE_EDIT.dst (n : Nat) : Key := odKey 0x30 (0xC00 + n) 6
def Od.RULE_EDIT.ip_proto (n : Nat) : Key := odKey 0x30 (0xC00 + n) 7
def Od.RULE_EDIT.dport_lo (n : Nat) : Key := odKey 0x30 (0xC00 + n) 8
def Od.RULE_EDIT.dport_hi (n : Nat) : Key := odKey 0x30 (0xC00 + n) 9
def Od.RULE_EDIT.action (n : Nat) : Key := odKey 0x30 (0xC00 + n) 10
def Od.RULE_EDIT.arg (n : Nat) : Key := odKey 0x30 (0xC00 + n) 11
def Od.RULE_EDIT.mirror (n : Nat) : Key := odKey 0x30 (0xC00 + n) 12

/-! ## Area 38: spec/05_wire_timestamps.md Table 5-5 -/
def Od.TS_GLOBAL.echo_limit_fast : Key := odKey 0x38 0x001 1
def Od.TS_GLOBAL.echo_limit_slow : Key := odKey 0x38 0x001 2
def Od.TS_GLOBAL.closure_limit : Key := odKey 0x38 0x001 3
def Od.TS_GLOBAL.echo_fault_count : Key := odKey 0x38 0x001 4
def Od.CAL_CTRL.open_ : Key := odKey 0x38 0x002 1
def Od.CAL_CTRL.close : Key := odKey 0x38 0x002 2
def Od.CAL_CTRL.open_mask : Key := odKey 0x38 0x002 3
def Od.CAL_STORE.copies_valid : Key := odKey 0x38 0x003 1
def Od.CAL_STORE.writes : Key := odKey 0x38 0x003 2
def Od.CAL_STORE.last_write_tick : Key := odKey 0x38 0x003 3
def Od.LANE_CAL.rx_offset (n : Nat) : Key := odKey 0x38 (0x100 + n) 1
def Od.LANE_CAL.rx_origin (n : Nat) : Key := odKey 0x38 (0x100 + n) 2
def Od.LANE_CAL.tx_offset (n : Nat) : Key := odKey 0x38 (0x100 + n) 3
def Od.LANE_CAL.tx_origin (n : Nat) : Key := odKey 0x38 (0x100 + n) 4
def Od.LANE_IF (n : Nat) : Key := odKey 0x38 (0x140 + n) 0
def Od.LANE_LIVE.ana_rx (n : Nat) : Key := odKey 0x38 (0x180 + n) 1
def Od.LANE_LIVE.ser_rx (n : Nat) : Key := odKey 0x38 (0x180 + n) 2
def Od.LANE_LIVE.res_rx (n : Nat) : Key := odKey 0x38 (0x180 + n) 3
def Od.LANE_LIVE.drv_tx (n : Nat) : Key := odKey 0x38 (0x180 + n) 4
def Od.LANE_LIVE.ser_tx (n : Nat) : Key := odKey 0x38 (0x180 + n) 5
def Od.LANE_LIVE.res_tx (n : Nat) : Key := odKey 0x38 (0x180 + n) 6
def Od.LANE_LIVE.ctle_code (n : Nat) : Key := odKey 0x38 (0x180 + n) 7
def Od.LANE_LIVE.ffe_main (n : Nat) : Key := odKey 0x38 (0x180 + n) 8
def Od.LANE_LIVE.markers (n : Nat) : Key := odKey 0x38 (0x180 + n) 9
def Od.LANE_LIVE.boundary (n : Nat) : Key := odKey 0x38 (0x180 + n) 10
def Od.LANE_LIVE.eq_steps (n : Nat) : Key := odKey 0x38 (0x180 + n) 11
def Od.CAL_MEAS.open_ (n : Nat) : Key := odKey 0x38 (0x1C0 + n) 1
def Od.CAL_MEAS.count (n : Nat) : Key := odKey 0x38 (0x1C0 + n) 2
def Od.CAL_MEAS.unmatched (n : Nat) : Key := odKey 0x38 (0x1C0 + n) 3
def Od.CAL_MEAS.rtt_min (n : Nat) : Key := odKey 0x38 (0x1C0 + n) 4
def Od.CAL_MEAS.rtt_mean (n : Nat) : Key := odKey 0x38 (0x1C0 + n) 5
def Od.CAL_MEAS.rtt_max (n : Nat) : Key := odKey 0x38 (0x1C0 + n) 6
def Od.CAL_MEAS.open_tick (n : Nat) : Key := odKey 0x38 (0x1C0 + n) 7
def Od.CAL_MEAS.close_tick (n : Nat) : Key := odKey 0x38 (0x1C0 + n) 8
def Od.REFIN_CAL.delay (n : Nat) : Key := odKey 0x38 (0x200 + n) 1
def Od.REFIN_CAL.origin (n : Nat) : Key := odKey 0x38 (0x200 + n) 2
def Od.GNSS_CAL.antenna (n : Nat) : Key := odKey 0x38 (0x210 + n) 1
def Od.GNSS_CAL.antenna_origin (n : Nat) : Key := odKey 0x38 (0x210 + n) 2
def Od.GNSS_CAL.cable (n : Nat) : Key := odKey 0x38 (0x210 + n) 3
def Od.GNSS_CAL.cable_origin (n : Nat) : Key := odKey 0x38 (0x210 + n) 4
def Od.OSC_SEED.f0 : Key := odKey 0x38 0x220 1
def Od.OSC_SEED.t1 : Key := odKey 0x38 0x220 2
def Od.OSC_SEED.t2 : Key := odKey 0x38 0x220 3
def Od.OSC_SEED.tr : Key := odKey 0x38 0x220 4
def Od.OSC_SEED.age_log : Key := odKey 0x38 0x220 5
def Od.OSC_SEED.age_lin : Key := odKey 0x38 0x220 6
def Od.OSC_SEED.origin : Key := odKey 0x38 0x220 7
def Od.TS_PORT.echo_count (n : Nat) : Key := odKey 0x38 (0x400 + n) 1
def Od.TS_PORT.echo_err (n : Nat) : Key := odKey 0x38 (0x400 + n) 2
def Od.TS_PORT.echo_last (n : Nat) : Key := odKey 0x38 (0x400 + n) 3
def Od.TS_PORT.echo_worst (n : Nat) : Key := odKey 0x38 (0x400 + n) 4
def Od.TS_PORT.closure_err (n : Nat) : Key := odKey 0x38 (0x400 + n) 5
def Od.TS_PORT.faults (n : Nat) : Key := odKey 0x38 (0x400 + n) 6
def Od.TS_PORT.sticky (n : Nat) : Key := odKey 0x38 (0x400 + n) 7
def Od.TS_PORT.valid_boundary (n : Nat) : Key := odKey 0x38 (0x400 + n) 8

/-! ## Area 40: spec/06_answer_engine.md Table 6-10 -/
def Od.ANS_GLOBAL.kod_interval_ms : Key := odKey 0x40 0x001 1
def Od.ANS_GLOBAL.rekey : Key := odKey 0x40 0x001 2
def Od.ANS_STATUS.dispatch_full : Key := odKey 0x40 0x002 1
def Od.ANS_STATUS.answered : Key := odKey 0x40 0x002 2
def Od.ANS_STATUS.kod : Key := odKey 0x40 0x002 3
def Od.ANS_STATUS.dropped : Key := odKey 0x40 0x002 4
def Od.ANS_STATUS.punted : Key := odKey 0x40 0x002 5
def Od.ANS_STATUS.pipes_in_service : Key := odKey 0x40 0x002 6
def Od.ANS_STATUS.bucket_collisions : Key := odKey 0x40 0x002 7
def Od.ANS_STATUS.rekeys : Key := odKey 0x40 0x002 8
def Od.ANS_STATUS.sticky : Key := odKey 0x40 0x002 9
def Od.ANS_PEEK.version : Key := odKey 0x40 0x003 1
def Od.ANS_PEEK.address : Key := odKey 0x40 0x003 2
def Od.ANS_PEEK.profile : Key := odKey 0x40 0x003 3
def Od.ANS_PEEK.index : Key := odKey 0x40 0x003 4
def Od.ANS_PEEK.bucket : Key := odKey 0x40 0x003 5
def Od.ANS_RATE.rate (n : Nat) : Key := odKey 0x40 (0x040 + n) 1
def Od.ANS_RATE.burst (n : Nat) : Key := odKey 0x40 (0x040 + n) 2
def Od.ANS_RATE.prefix4 (n : Nat) : Key := odKey 0x40 (0x040 + n) 3
def Od.ANS_RATE.prefix6 (n : Nat) : Key := odKey 0x40 (0x040 + n) 4
def Od.ANS_RATE.over_action (n : Nat) : Key := odKey 0x40 (0x040 + n) 5
def Od.ANS_RATE.kod_poll (n : Nat) : Key := odKey 0x40 (0x040 + n) 6
def Od.ANS_REFTS (n : Nat) : Key := odKey 0x40 (0x060 + n) 0
def Od.ANS_RULE.enable (n : Nat) : Key := odKey 0x40 (0x100 + n) 1
def Od.ANS_RULE.moon (n : Nat) : Key := odKey 0x40 (0x100 + n) 2
def Od.ANS_RULE.protocol (n : Nat) : Key := odKey 0x40 (0x100 + n) 3
def Od.ANS_RULE.rate_profile (n : Nat) : Key := odKey 0x40 (0x100 + n) 4
def Od.ANS_RULE.unsync_action (n : Nat) : Key := odKey 0x40 (0x100 + n) 5
def Od.ANS_RULE.ext_action (n : Nat) : Key := odKey 0x40 (0x100 + n) 6
def Od.ANS_RULE.other_action (n : Nat) : Key := odKey 0x40 (0x100 + n) 7
def Od.ANS_RULE.host_ring (n : Nat) : Key := odKey 0x40 (0x100 + n) 8
def Od.ANS_RULE.min_poll (n : Nat) : Key := odKey 0x40 (0x100 + n) 9
def Od.ANS_RULE.precision (n : Nat) : Key := odKey 0x40 (0x100 + n) 10
def Od.ANS_RULE.root_delay (n : Nat) : Key := odKey 0x40 (0x100 + n) 11
def Od.ANS_RULE.hop_limit (n : Nat) : Key := odKey 0x40 (0x100 + n) 12
def Od.ANS_RULE.dscp (n : Nat) : Key := odKey 0x40 (0x100 + n) 13
def Od.PIPE.in_service (n : Nat) : Key := odKey 0x40 (0x200 + n) 1
def Od.PIPE.reenable (n : Nat) : Key := odKey 0x40 (0x200 + n) 2
def Od.PIPE.checks (n : Nat) : Key := odKey 0x40 (0x200 + n) 3
def Od.PIPE.check_fail (n : Nat) : Key := odKey 0x40 (0x200 + n) 4
def Od.PIPE.crc_err (n : Nat) : Key := odKey 0x40 (0x200 + n) 5
def Od.PIPE.last_fail_tick (n : Nat) : Key := odKey 0x40 (0x200 + n) 6
def Od.ANS_RULE_STATS.answered (n : Nat) : Key := odKey 0x40 (0x300 + n) 1
def Od.ANS_RULE_STATS.kod (n : Nat) : Key := odKey 0x40 (0x300 + n) 2
def Od.ANS_RULE_STATS.dropped (n : Nat) : Key := odKey 0x40 (0x300 + n) 3
def Od.ANS_RULE_STATS.punted (n : Nat) : Key := odKey 0x40 (0x300 + n) 4

/-! ## Area 44: spec/07_scheduled_departure.md Table 7-3 -/
def Od.DEP_GLOBAL.cells_total : Key := odKey 0x44 0x001 1
def Od.DEP_GLOBAL.cells_used : Key := odKey 0x44 0x001 2
def Od.DEP_PORT.horizon (n : Nat) : Key := odKey 0x44 (0x100 + n) 1
def Od.DEP_PORT.search (n : Nat) : Key := odKey 0x44 (0x100 + n) 2
def Od.DEP_PORT.host_share_pct (n : Nat) : Key := odKey 0x44 (0x100 + n) 3
def Od.DEP_PORT.host_timed_pct (n : Nat) : Key := odKey 0x44 (0x100 + n) 4
def Od.DEP_PORT.margin_min (n : Nat) : Key := odKey 0x44 (0x100 + n) 5
def Od.DEP_PORT.margin_max (n : Nat) : Key := odKey 0x44 (0x100 + n) 6
def Od.DEP_PORT.margin_guard (n : Nat) : Key := odKey 0x44 (0x100 + n) 7
def Od.DEP_LIVE.margin_live (n : Nat) : Key := odKey 0x44 (0x140 + n) 1
def Od.DEP_LIVE.fetch_max (n : Nat) : Key := odKey 0x44 (0x140 + n) 2
def Od.DEP_LIVE.cells_total (n : Nat) : Key := odKey 0x44 (0x140 + n) 3
def Od.DEP_LIVE.cells_used (n : Nat) : Key := odKey 0x44 (0x140 + n) 4
def Od.DEP_LIVE.cells_peak (n : Nat) : Key := odKey 0x44 (0x140 + n) 5
def Od.DEP_LIVE.grid_max_step (n : Nat) : Key := odKey 0x44 (0x140 + n) 6
def Od.DEP_LIVE.boundary (n : Nat) : Key := odKey 0x44 (0x140 + n) 7
def Od.DEP_LIVE.last_miss_cause (n : Nat) : Key := odKey 0x44 (0x140 + n) 8
def Od.DEP_LIVE.last_miss_tick (n : Nat) : Key := odKey 0x44 (0x140 + n) 9
def Od.DEP_STATUS.misses (n : Nat) : Key := odKey 0x44 (0x180 + n) 1
def Od.DEP_STATUS.sticky (n : Nat) : Key := odKey 0x44 (0x180 + n) 2

/-! ## Area 48: spec/08_nts.md Table 8-7 -/
def Od.NTS_GLOBAL.enable : Key := odKey 0x48 0x001 1
def Od.NTS_GLOBAL.nak_enable : Key := odKey 0x48 0x001 2
def Od.NTS_GLOBAL.max_cookies : Key := odKey 0x48 0x001 3
def Od.NTS_GLOBAL.retire_after : Key := odKey 0x48 0x001 4
def Od.NTS_STATUS.verified : Key := odKey 0x48 0x002 1
def Od.NTS_STATUS.nak : Key := odKey 0x48 0x002 2
def Od.NTS_STATUS.malformed : Key := odKey 0x48 0x002 3
def Od.NTS_STATUS.cookie_key : Key := odKey 0x48 0x002 4
def Od.NTS_STATUS.cookie_auth : Key := odKey 0x48 0x002 5
def Od.NTS_STATUS.req_auth : Key := odKey 0x48 0x002 6
def Od.NTS_STATUS.no_key : Key := odKey 0x48 0x002 7
def Od.NTS_STATUS.overload : Key := odKey 0x48 0x002 8
def Od.NTS_STATUS.enc_ext : Key := odKey 0x48 0x002 9
def Od.NTS_STATUS.current_slot : Key := odKey 0x48 0x002 10
def Od.NTS_STATUS.drbg_ok : Key := odKey 0x48 0x002 11
def Od.NTS_STATUS.sticky : Key := odKey 0x48 0x002 12
def Od.NTS_STATION.seed : Key := odKey 0x48 0x003 1
def Od.NTS_STATION.seed_set : Key := odKey 0x48 0x003 2
def Od.NTS_STATION.seed_check : Key := odKey 0x48 0x003 3
def Od.NTS_SLOT.state (n : Nat) : Key := odKey 0x48 (0x010 + n) 1
def Od.NTS_SLOT.generation (n : Nat) : Key := odKey 0x48 (0x010 + n) 2
def Od.NTS_SLOT.key (n : Nat) : Key := odKey 0x48 (0x010 + n) 3
def Od.NTS_SLOT.command (n : Nat) : Key := odKey 0x48 (0x010 + n) 4
def Od.NTS_SLOT.origin (n : Nat) : Key := odKey 0x48 (0x010 + n) 5
def Od.NTS_SLOT.left_current (n : Nat) : Key := odKey 0x48 (0x010 + n) 6
def Od.NTS_SLOT.issued (n : Nat) : Key := odKey 0x48 (0x010 + n) 7
def Od.NTS_SLOT.accepted (n : Nat) : Key := odKey 0x48 (0x010 + n) 8
def Od.NTS_KE.enable : Key := odKey 0x48 0x040 1
def Od.NTS_KE.ring : Key := odKey 0x48 0x040 2
def Od.NTS_KE.tcp_port : Key := odKey 0x48 0x040 3
def Od.NTS_KE.max_rate : Key := odKey 0x48 0x040 4
def Od.NTS_KE.max_sessions : Key := odKey 0x48 0x040 5
def Od.NTS_KE.cookies : Key := odKey 0x48 0x040 6
def Od.NTS_KE.server_v4 : Key := odKey 0x48 0x040 7
def Od.NTS_KE.server_v6 : Key := odKey 0x48 0x040 8
def Od.NTS_KE_CERT : Key := odKey 0x48 0x041 0
def Od.NTS_KE_KEY.command : Key := odKey 0x48 0x042 1
def Od.NTS_KE_KEY.public_ : Key := odKey 0x48 0x042 2
def Od.NTS_KE_KEY.present : Key := odKey 0x48 0x042 3
def Od.NTS_KE_STATUS.handshakes : Key := odKey 0x48 0x043 1
def Od.NTS_KE_STATUS.refused_rate : Key := odKey 0x48 0x043 2
def Od.NTS_KE_STATUS.refused_shed : Key := odKey 0x48 0x043 3
def Od.NTS_KE_STATUS.alerts : Key := odKey 0x48 0x043 4
def Od.NTS_KE_STATUS.errors : Key := odKey 0x48 0x043 5
def Od.NTS_KE_STATUS.sessions : Key := odKey 0x48 0x043 6
def Od.NTS_KE_STATUS.shedding : Key := odKey 0x48 0x043 7

/-! ## Area 4C: spec/09_ptp_service.md Table 9-4 -/
def Od.PTP_GLOBAL.clock_identity : Key := odKey 0x4C 0x001 1
def Od.PTP_STATUS.clients : Key := odKey 0x4C 0x002 1
def Od.PTP_STATUS.committed_rate : Key := odKey 0x4C 0x002 2
def Od.PTP_STATUS.granted : Key := odKey 0x4C 0x002 3
def Od.PTP_STATUS.denied : Key := odKey 0x4C 0x002 4
def Od.PTP_STATUS.expired : Key := odKey 0x4C 0x002 5
def Od.PTP_STATUS.sticky : Key := odKey 0x4C 0x002 6
def Od.PTP_SA.spp (n : Nat) : Key := odKey 0x4C (0x040 + n) 1
def Od.PTP_SA.key_id (n : Nat) : Key := odKey 0x4C (0x040 + n) 2
def Od.PTP_SA.key (n : Nat) : Key := odKey 0x4C (0x040 + n) 3
def Od.PTP_SA.valid (n : Nat) : Key := odKey 0x4C (0x040 + n) 4
def Od.PTP_INST.enable (n : Nat) : Key := odKey 0x4C (0x100 + n) 1
def Od.PTP_INST.moon (n : Nat) : Key := odKey 0x4C (0x100 + n) 2
def Od.PTP_INST.profile (n : Nat) : Key := odKey 0x4C (0x100 + n) 3
def Od.PTP_INST.domain (n : Nat) : Key := odKey 0x4C (0x100 + n) 4
def Od.PTP_INST.transports (n : Nat) : Key := odKey 0x4C (0x100 + n) 5
def Od.PTP_INST.two_step (n : Nat) : Key := odKey 0x4C (0x100 + n) 6
def Od.PTP_INST.priority1 (n : Nat) : Key := odKey 0x4C (0x100 + n) 7
def Od.PTP_INST.priority2 (n : Nat) : Key := odKey 0x4C (0x100 + n) 8
def Od.PTP_INST.time_source (n : Nat) : Key := odKey 0x4C (0x100 + n) 9
def Od.PTP_INST.lost_class (n : Nat) : Key := odKey 0x4C (0x100 + n) 10
def Od.PTP_INST.mc_port_mask (n : Nat) : Key := odKey 0x4C (0x100 + n) 11
def Od.PTP_INST.mc_log_sync (n : Nat) : Key := odKey 0x4C (0x100 + n) 12
def Od.PTP_INST.mc_log_announce (n : Nat) : Key := odKey 0x4C (0x100 + n) 13
def Od.PTP_INST.auth_spp (n : Nat) : Key := odKey 0x4C (0x100 + n) 14
def Od.PTP_INST.other_ring (n : Nat) : Key := odKey 0x4C (0x100 + n) 15
def Od.PTP_NEG.unicast_enable (n : Nat) : Key := odKey 0x4C (0x140 + n) 1
def Od.PTP_NEG.min_log_sync (n : Nat) : Key := odKey 0x4C (0x140 + n) 2
def Od.PTP_NEG.min_log_delay (n : Nat) : Key := odKey 0x4C (0x140 + n) 3
def Od.PTP_NEG.min_log_announce (n : Nat) : Key := odKey 0x4C (0x140 + n) 4
def Od.PTP_NEG.dur_min (n : Nat) : Key := odKey 0x4C (0x140 + n) 5
def Od.PTP_NEG.dur_max (n : Nat) : Key := odKey 0x4C (0x140 + n) 6
def Od.PTP_NEG.max_grants (n : Nat) : Key := odKey 0x4C (0x140 + n) 7
def Od.PTP_NEG.auth_required (n : Nat) : Key := odKey 0x4C (0x140 + n) 8
def Od.PTP_NEG.dscp (n : Nat) : Key := odKey 0x4C (0x140 + n) 9
def Od.PTP_NEG.hop_limit (n : Nat) : Key := odKey 0x4C (0x140 + n) 10
def Od.PTP_INST_STATS.sent (n : Nat) : Key := odKey 0x4C (0x180 + n) 1
def Od.PTP_INST_STATS.delay_req (n : Nat) : Key := odKey 0x4C (0x180 + n) 2
def Od.PTP_INST_STATS.dropped (n : Nat) : Key := odKey 0x4C (0x180 + n) 3
def Od.PTP_INST_STATS.missed (n : Nat) : Key := odKey 0x4C (0x180 + n) 4
def Od.PTP_INST_STATS.auth_fail (n : Nat) : Key := odKey 0x4C (0x180 + n) 5
def Od.PTP_INST_STATS.clients (n : Nat) : Key := odKey 0x4C (0x180 + n) 6
def Od.PTP_UP.enable (n : Nat) : Key := odKey 0x4C (0x200 + n) 1
def Od.PTP_UP.port (n : Nat) : Key := odKey 0x4C (0x200 + n) 2
def Od.PTP_UP.transport (n : Nat) : Key := odKey 0x4C (0x200 + n) 3
def Od.PTP_UP.address (n : Nat) : Key := odKey 0x4C (0x200 + n) 4
def Od.PTP_UP.service (n : Nat) : Key := odKey 0x4C (0x200 + n) 5
def Od.PTP_UP.domain (n : Nat) : Key := odKey 0x4C (0x200 + n) 6
def Od.PTP_UP.profile (n : Nat) : Key := odKey 0x4C (0x200 + n) 7
def Od.PTP_UP.log_sync (n : Nat) : Key := odKey 0x4C (0x200 + n) 8
def Od.PTP_UP.log_delay (n : Nat) : Key := odKey 0x4C (0x200 + n) 9
def Od.PTP_UP.log_announce (n : Nat) : Key := odKey 0x4C (0x200 + n) 10
def Od.PTP_UP.duration (n : Nat) : Key := odKey 0x4C (0x200 + n) 11
def Od.PTP_UP.auth_spp (n : Nat) : Key := odKey 0x4C (0x200 + n) 12
def Od.PTP_UP.slot (n : Nat) : Key := odKey 0x4C (0x200 + n) 13
def Od.PTP_UP_STATUS.state (n : Nat) : Key := odKey 0x4C (0x240 + n) 1
def Od.PTP_UP_STATUS.offset (n : Nat) : Key := odKey 0x4C (0x240 + n) 2
def Od.PTP_UP_STATUS.mean_path_delay (n : Nat) : Key := odKey 0x4C (0x240 + n) 3
def Od.PTP_UP_STATUS.last_tick (n : Nat) : Key := odKey 0x4C (0x240 + n) 4
def Od.PTP_UP_STATUS.gm_identity (n : Nat) : Key := odKey 0x4C (0x240 + n) 5
def Od.PTP_UP_STATUS.clock_class (n : Nat) : Key := odKey 0x4C (0x240 + n) 6
def Od.PTP_UP_STATUS.exchanges (n : Nat) : Key := odKey 0x4C (0x240 + n) 7
def Od.PTP_UP_STATUS.discarded (n : Nat) : Key := odKey 0x4C (0x240 + n) 8

/-! ## Area 50: spec/15_public_key_engine.md Table 15-5 -/
def Od.PK_STATUS.units_in_service : Key := odKey 0x50 0x001 1
def Od.PK_STATUS.sticky : Key := odKey 0x50 0x001 2
def Od.PK_Q.weight (n : Nat) : Key := odKey 0x50 (0x010 + n) 1
def Od.PK_Q.pending (n : Nat) : Key := odKey 0x50 (0x010 + n) 2
def Od.PK_Q.completed (n : Nat) : Key := odKey 0x50 (0x010 + n) 3
def Od.PK_Q.refused (n : Nat) : Key := odKey 0x50 (0x010 + n) 4
def Od.PK_Q.aborted (n : Nat) : Key := odKey 0x50 (0x010 + n) 5
def Od.PK_Q.abort_missed (n : Nat) : Key := odKey 0x50 (0x010 + n) 6
def Od.PK_HOST_CMD.op : Key := odKey 0x50 0x020 1
def Od.PK_HOST_CMD.tag : Key := odKey 0x50 0x020 2
def Od.PK_HOST_CMD.dst0 : Key := odKey 0x50 0x020 3
def Od.PK_HOST_CMD.dst1 : Key := odKey 0x50 0x020 4
def Od.PK_HOST_CMD.src0 : Key := odKey 0x50 0x020 5
def Od.PK_HOST_CMD.src1 : Key := odKey 0x50 0x020 6
def Od.PK_HOST_CMD.src2 : Key := odKey 0x50 0x020 7
def Od.PK_HOST_CMD.src3 : Key := odKey 0x50 0x020 8
def Od.PK_HOST_CMD.src4 : Key := odKey 0x50 0x020 9
def Od.PK_HOST_CMD.src5 : Key := odKey 0x50 0x020 10
def Od.PK_HOST_CMD.src6 : Key := odKey 0x50 0x020 11
def Od.PK_HOST_CMD.key : Key := odKey 0x50 0x020 12
def Od.PK_HOST_CMD.msg_len : Key := odKey 0x50 0x020 13
def Od.PK_HOST_DONE.tag : Key := odKey 0x50 0x021 1
def Od.PK_HOST_DONE.op : Key := odKey 0x50 0x021 2
def Od.PK_HOST_DONE.status : Key := odKey 0x50 0x021 3
def Od.PK_HOST_DONE.cycles : Key := odKey 0x50 0x021 4
def Od.PK_HOST_DONE.submit_tick : Key := odKey 0x50 0x021 5
def Od.PK_HOST_DONE.done_tick : Key := odKey 0x50 0x021 6
def Od.PK_HOST_CTRL.pop : Key := odKey 0x50 0x022 1
def Od.PK_HOST_CTRL.abort : Key := odKey 0x50 0x022 2
def Od.PK_HOST_CTRL.done_count : Key := odKey 0x50 0x022 3
def Od.PK_KEY.type (n : Nat) : Key := odKey 0x50 (0x030 + n) 1
def Od.PK_KEY.public_ (n : Nat) : Key := odKey 0x50 (0x030 + n) 2
def Od.PK_KEY.command (n : Nat) : Key := odKey 0x50 (0x030 + n) 3
def Od.PK_SLOT.base (n : Nat) : Key := odKey 0x50 (0x400 + n) 1
def Od.PK_SLOT.length (n : Nat) : Key := odKey 0x50 (0x400 + n) 2
def Od.PK_SLOT.dirty (n : Nat) : Key := odKey 0x50 (0x400 + n) 3
def Od.PK_SLOT.in_use (n : Nat) : Key := odKey 0x50 (0x400 + n) 4
def Od.PK_DATA (n : Nat) : Key := odKey 0x50 (0x800 + n) 0

/-! ## Area 58: spec/16_host_interface.md Table 16-15 -/
def Od.HOST_STATUS.link_width : Key := odKey 0x58 0x001 1
def Od.HOST_STATUS.link_rate_gts : Key := odKey 0x58 0x001 2
def Od.HOST_STATUS.flr_count : Key := odKey 0x58 0x001 3
def Od.HOST_STATUS.window_err : Key := odKey 0x58 0x001 4
def Od.HOST_STATUS.sticky : Key := odKey 0x58 0x001 5
def Od.HOST_DICT.enable : Key := odKey 0x58 0x002 0
def Od.HOST_IRQ_PENDING : Key := odKey 0x58 0x010 0
def Od.IRQ_ROUTE.vector (n : Nat) : Key := odKey 0x58 (0x100 + n) 1
def Od.IRQ_ROUTE.pins (n : Nat) : Key := odKey 0x58 (0x100 + n) 2
def Od.VEC_CFG.holdoff_ns (n : Nat) : Key := odKey 0x58 (0x200 + n) 0
def Od.RX_RING_CFG.enable (n : Nat) : Key := odKey 0x58 (0x300 + n) 1
def Od.RX_RING_CFG.base (n : Nat) : Key := odKey 0x58 (0x300 + n) 2
def Od.RX_RING_CFG.size_log2 (n : Nat) : Key := odKey 0x58 (0x300 + n) 3
def Od.RX_RING_CFG.buf_size (n : Nat) : Key := odKey 0x58 (0x300 + n) 4
def Od.RX_RING_CFG.owner (n : Nat) : Key := odKey 0x58 (0x300 + n) 5
def Od.RX_RING_STATUS.frames (n : Nat) : Key := odKey 0x58 (0x380 + n) 1
def Od.RX_RING_STATUS.no_buffer (n : Nat) : Key := odKey 0x58 (0x380 + n) 2
def Od.RX_RING_STATUS.trunc_frames (n : Nat) : Key := odKey 0x58 (0x380 + n) 3
def Od.RX_RING_STATUS.trunc_bytes (n : Nat) : Key := odKey 0x58 (0x380 + n) 4
def Od.RX_RING_STATUS.overrun (n : Nat) : Key := odKey 0x58 (0x380 + n) 5
def Od.RX_RING_STATUS.doorbell_err (n : Nat) : Key := odKey 0x58 (0x380 + n) 6
def Od.RX_RING_STATUS.sticky (n : Nat) : Key := odKey 0x58 (0x380 + n) 7
def Od.TX_RING_CFG.enable (n : Nat) : Key := odKey 0x58 (0x400 + n) 1
def Od.TX_RING_CFG.base (n : Nat) : Key := odKey 0x58 (0x400 + n) 2
def Od.TX_RING_CFG.size_log2 (n : Nat) : Key := odKey 0x58 (0x400 + n) 3
def Od.TX_RING_CFG.owner (n : Nat) : Key := odKey 0x58 (0x400 + n) 4
def Od.TX_RING_STATUS.frames (n : Nat) : Key := odKey 0x58 (0x480 + n) 1
def Od.TX_RING_STATUS.timed (n : Nat) : Key := odKey 0x58 (0x480 + n) 2
def Od.TX_RING_STATUS.rejected (n : Nat) : Key := odKey 0x58 (0x480 + n) 3
def Od.TX_RING_STATUS.flushed (n : Nat) : Key := odKey 0x58 (0x480 + n) 4
def Od.TX_RING_STATUS.doorbell_err (n : Nat) : Key := odKey 0x58 (0x480 + n) 5
def Od.TX_RING_STATUS.sticky (n : Nat) : Key := odKey 0x58 (0x480 + n) 6
def Od.TAIL_STATUS.count (n : Nat) : Key := odKey 0x58 (0x500 + n) 1
def Od.TAIL_STATUS.lost (n : Nat) : Key := odKey 0x58 (0x500 + n) 2
def Od.TAIL_STATUS.made (n : Nat) : Key := odKey 0x58 (0x500 + n) 3

/-! ## Area 60: spec/17_dictionary.md Table 17-6 (R362) -/
def Od.DICT_STATUS.queue_depth : Key := odKey 0x60 0x001 1
def Od.DICT_STATUS.queue_peak : Key := odKey 0x60 0x001 2
def Od.DICT_STATUS.accepted : Key := odKey 0x60 0x001 3
def Od.DICT_STATUS.refused : Key := odKey 0x60 0x001 4
def Od.DICT_STATUS.busy : Key := odKey 0x60 0x001 5
def Od.DICT_STATUS.denied : Key := odKey 0x60 0x001 6
def Od.DICT_STATUS.retry_hint_ms : Key := odKey 0x60 0x001 7
def Od.DICT_STATUS.inband_off : Key := odKey 0x60 0x001 8
def Od.DICT_STATUS.sticky : Key := odKey 0x60 0x001 9
def Od.MGMT_LOAD.stage : Key := odKey 0x60 0x002 1
def Od.MGMT_LOAD.util_pct : Key := odKey 0x60 0x002 2
def Od.MGMT_LOAD.shed_enter_pct : Key := odKey 0x60 0x002 3
def Od.MGMT_LOAD.shed_exit_pct : Key := odKey 0x60 0x002 4
def Od.MGMT_LOAD.log_delay_pct : Key := odKey 0x60 0x002 5
def Od.STORE.command : Key := odKey 0x60 0x003 1
def Od.STORE.generation : Key := odKey 0x60 0x003 2
def Od.STORE.copies_valid : Key := odKey 0x60 0x003 3
def Od.STORE.boot_copy : Key := odKey 0x60 0x003 4
def Od.STORE.unsaved : Key := odKey 0x60 0x003 5
def Od.STORE.last_save_tick : Key := odKey 0x60 0x003 6
def Od.STORE.last_result : Key := odKey 0x60 0x003 7
def Od.STORE.restore_refused : Key := odKey 0x60 0x003 8
def Od.DICT_INBAND.enable : Key := odKey 0x60 0x004 1
def Od.DICT_INBAND.udp_port : Key := odKey 0x60 0x004 2
def Od.LOG.count : Key := odKey 0x60 0x005 1
def Od.LOG.lost : Key := odKey 0x60 0x005 2
def Od.LOG.index : Key := odKey 0x60 0x005 3
def Od.LOG.entry : Key := odKey 0x60 0x005 4
def Od.CRED.enable (n : Nat) : Key := odKey 0x60 (0x010 + n) 1
def Od.CRED.key_id (n : Nat) : Key := odKey 0x60 (0x010 + n) 2
def Od.CRED.roles (n : Nat) : Key := odKey 0x60 (0x010 + n) 3
def Od.CRED.key (n : Nat) : Key := odKey 0x60 (0x010 + n) 4
def Od.CRED.last_use_tick (n : Nat) : Key := odKey 0x60 (0x010 + n) 5
def Od.CRED.denied (n : Nat) : Key := odKey 0x60 (0x010 + n) 6
def Od.SEG.ethertype : Key := odKey 0x60 0x100 1
def Od.SEG.member : Key := odKey 0x60 0x100 2
def Od.SEG.plca_enable : Key := odKey 0x60 0x100 3
def Od.SEG.plca_node_id : Key := odKey 0x60 0x100 4
def Od.SEG.plca_node_count : Key := odKey 0x60 0x100 5
def Od.SEG.publish : Key := odKey 0x60 0x100 6

/-! ## Area 68: spec/19_counters.md Table 19-5 -/
def Od.CNT_CTRL.snap_mask : Key := odKey 0x68 0x001 1
def Od.CNT_CTRL.last_snap_tick : Key := odKey 0x68 0x001 2
def Od.CNT_USER.mask : Key := odKey 0x68 0x002 0
def Od.CNT_STATUS.parity_errors : Key := odKey 0x68 0x003 1
def Od.CNT_STATUS.last_bad : Key := odKey 0x68 0x003 2
def Od.CNT_STATUS.sticky : Key := odKey 0x68 0x003 3
def Od.CNT_WIN.event (n : Nat) : Key := odKey 0x68 (0x100 + n) 1
def Od.CNT_WIN.active_event (n : Nat) : Key := odKey 0x68 (0x100 + n) 2
def Od.CNT_WIN.current (n : Nat) : Key := odKey 0x68 (0x100 + n) 3
def Od.CNT_WIN.last (n : Nat) : Key := odKey 0x68 (0x100 + n) 4
def Od.CNT_WIN.last_open (n : Nat) : Key := odKey 0x68 (0x100 + n) 5
def Od.CNT_WIN.open_tick (n : Nat) : Key := odKey 0x68 (0x100 + n) 6
def Od.CNT_WIN.close_tick (n : Nat) : Key := odKey 0x68 (0x100 + n) 7
def Od.CNT_WIN.windows (n : Nat) : Key := odKey 0x68 (0x100 + n) 8
def Od.CNT_WIN.close (n : Nat) : Key := odKey 0x68 (0x100 + n) 9
def Od.CNT_OCC.enable (n : Nat) : Key := odKey 0x68 (0x140 + n) 1
def Od.CNT_OCC.source (n : Nat) : Key := odKey 0x68 (0x140 + n) 2
def Od.CNT_OCC.instance_ (n : Nat) : Key := odKey 0x68 (0x140 + n) 3
def Od.CNT_OCC.threshold (n : Nat) : Key := odKey 0x68 (0x140 + n) 4
def Od.CNT_OCC.above_ticks (n : Nat) : Key := odKey 0x68 (0x140 + n) 5
def Od.CNT_OCC.crossings (n : Nat) : Key := odKey 0x68 (0x140 + n) 6
def Od.CNT_OCC.peak (n : Nat) : Key := odKey 0x68 (0x140 + n) 7
def Od.CNT_OCC.peak_clear (n : Nat) : Key := odKey 0x68 (0x140 + n) 8
def Od.CNT_EVENT (n : Nat) : Key := odKey 0x68 (0x400 + n) 0

/-! ## Area 70: spec/20_faults_eclipse.md Table 20-8 (R416) -/
def Od.FLT_GLOBAL.eclipse : Key := odKey 0x70 0x001 1
def Od.FLT_GLOBAL.linger_s : Key := odKey 0x70 0x001 2
def Od.FLT_GLOBAL.scrub_enable : Key := odKey 0x70 0x001 3
def Od.FLT_GLOBAL.selfcheck_enable : Key := odKey 0x70 0x001 4
def Od.FLT_GLOBAL.conditions : Key := odKey 0x70 0x001 5
def Od.FLT_GLOBAL.scrub_cycle_ticks : Key := odKey 0x70 0x001 6
def Od.FLT_GLOBAL.sticky : Key := odKey 0x70 0x001 7
def Od.FLT_TEST.open_s : Key := odKey 0x70 0x002 1
def Od.FLT_TEST.close : Key := odKey 0x70 0x002 2
def Od.FLT_TEST.remaining_s : Key := odKey 0x70 0x002 3
def Od.FLT_ECLIPSE.valid : Key := odKey 0x70 0x003 1
def Od.FLT_ECLIPSE.reason : Key := odKey 0x70 0x003 2
def Od.FLT_ECLIPSE.detect_tick : Key := odKey 0x70 0x003 3
def Od.FLT_ECLIPSE.detect_st : Key := odKey 0x70 0x003 4
def Od.FLT_ECLIPSE.entry_tick : Key := odKey 0x70 0x003 5
def Od.FLT_ECLIPSE.blocks : Key := odKey 0x70 0x003 6
def Od.FLT_ECLIPSE.first_block : Key := odKey 0x70 0x003 7
def Od.FLT_ECLIPSE.first_source : Key := odKey 0x70 0x003 8
def Od.FLT_ECLIPSE.cause : Key := odKey 0x70 0x003 9
def Od.FLT_ECLIPSE.linger_end_tick : Key := odKey 0x70 0x003 10
def Od.FLT_ECLIPSE.fw_running : Key := odKey 0x70 0x003 11
def Od.FLT_ECLIPSE_PREV.valid : Key := odKey 0x70 0x004 1
def Od.FLT_ECLIPSE_PREV.reason : Key := odKey 0x70 0x004 2
def Od.FLT_ECLIPSE_PREV.detect_tick : Key := odKey 0x70 0x004 3
def Od.FLT_ECLIPSE_PREV.detect_st : Key := odKey 0x70 0x004 4
def Od.FLT_ECLIPSE_PREV.entry_tick : Key := odKey 0x70 0x004 5
def Od.FLT_ECLIPSE_PREV.blocks : Key := odKey 0x70 0x004 6
def Od.FLT_ECLIPSE_PREV.first_block : Key := odKey 0x70 0x004 7
def Od.FLT_ECLIPSE_PREV.first_source : Key := odKey 0x70 0x004 8
def Od.FLT_ECLIPSE_PREV.cause : Key := odKey 0x70 0x004 9
def Od.FLT_ECLIPSE_PREV.linger_end_tick : Key := odKey 0x70 0x004 10
def Od.FLT_ECLIPSE_PREV.fw_running : Key := odKey 0x70 0x004 11
def Od.FLT_BLOCK.current (n : Nat) : Key := odKey 0x70 (0x100 + n) 1
def Od.FLT_BLOCK.latch (n : Nat) : Key := odKey 0x70 (0x100 + n) 2
def Od.FLT_BLOCK.mask (n : Nat) : Key := odKey 0x70 (0x100 + n) 3
def Od.FLT_BLOCK.force (n : Nat) : Key := odKey 0x70 (0x100 + n) 4
def Od.FLT_BLOCK.rearm (n : Nat) : Key := odKey 0x70 (0x100 + n) 5
def Od.FLT_BLOCK.corrected (n : Nat) : Key := odKey 0x70 (0x100 + n) 6
def Od.FLT_BLOCK.contained (n : Nat) : Key := odKey 0x70 (0x100 + n) 7
def Od.FLT_BLOCK.forced (n : Nat) : Key := odKey 0x70 (0x100 + n) 8
def Od.FLT_BLOCK.checker_fail (n : Nat) : Key := odKey 0x70 (0x100 + n) 9
def Od.FLT_FIRST.valid (n : Nat) : Key := odKey 0x70 (0x140 + n) 1
def Od.FLT_FIRST.source (n : Nat) : Key := odKey 0x70 (0x140 + n) 2
def Od.FLT_FIRST.class_ (n : Nat) : Key := odKey 0x70 (0x140 + n) 3
def Od.FLT_FIRST.cause (n : Nat) : Key := odKey 0x70 (0x140 + n) 4
def Od.FLT_FIRST.detect_tick (n : Nat) : Key := odKey 0x70 (0x140 + n) 5
def Od.FLT_FIRST.detect_st (n : Nat) : Key := odKey 0x70 (0x140 + n) 6
def Od.FLT_FIRST.clear_tick (n : Nat) : Key := odKey 0x70 (0x140 + n) 7
def Od.FLT_FIRST.same_tick (n : Nat) : Key := odKey 0x70 (0x140 + n) 8
def Od.FLT_FIRST.flags (n : Nat) : Key := odKey 0x70 (0x140 + n) 9
def Od.FLT_FIRST.prior_class (n : Nat) : Key := odKey 0x70 (0x140 + n) 10
def Od.FLT_FIRST.later (n : Nat) : Key := odKey 0x70 (0x140 + n) 11

/-! ## Area 78: spec/21_boot_power_dump.md Table 21-8 (R432) -/
def Od.RESET_CTRL.command : Key := odKey 0x78 0x001 1
def Od.RESET_CTRL.auto_reset_s : Key := odKey 0x78 0x001 2
def Od.RESET_CTRL.last_cause : Key := odKey 0x78 0x001 3
def Od.RESET_CTRL.count : Key := odKey 0x78 0x001 4
def Od.BOOT_STATUS.state : Key := odKey 0x78 0x002 1
def Od.BOOT_STATUS.slot : Key := odKey 0x78 0x002 2
def Od.BOOT_STATUS.security_version : Key := odKey 0x78 0x002 3
def Od.BOOT_STATUS.refused_a : Key := odKey 0x78 0x002 4
def Od.BOOT_STATUS.refused_b : Key := odKey 0x78 0x002 5
def Od.BOOT_STATUS.restore_tick : Key := odKey 0x78 0x002 6
def Od.FW_IMAGE.slot : Key := odKey 0x78 0x003 1
def Od.FW_IMAGE.data : Key := odKey 0x78 0x003 2
def Od.FW_IMAGE.commit : Key := odKey 0x78 0x003 3
def Od.FUSE.key_hash : Key := odKey 0x78 0x004 1
def Od.FUSE.rollback : Key := odKey 0x78 0x004 2
def Od.FUSE.ceilings : Key := odKey 0x78 0x004 3
def Od.FUSE.advance_rollback : Key := odKey 0x78 0x004 4
def Od.PWR_STATUS.vcore_mv : Key := odKey 0x78 0x005 1
def Od.PWR_STATUS.margin : Key := odKey 0x78 0x005 2
def Od.PWR_STATUS.avs_errors : Key := odKey 0x78 0x005 3
def Od.PWR_STATUS.sticky : Key := odKey 0x78 0x005 4
def Od.THERM_CFG.warn_c : Key := odKey 0x78 0x006 1
def Od.THERM_CFG.shutdown_c : Key := odKey 0x78 0x006 2
def Od.THERM.now (n : Nat) : Key := odKey 0x78 (0x010 + n) 1
def Od.THERM.peak (n : Nat) : Key := odKey 0x78 (0x010 + n) 2
def Od.DUMP_CTRL.dump_now : Key := odKey 0x78 0x020 1
def Od.DUMP_CTRL.clear : Key := odKey 0x78 0x020 2
def Od.DUMP_READ.slot : Key := odKey 0x78 0x021 1
def Od.DUMP_READ.chunk_index : Key := odKey 0x78 0x021 2
def Od.DUMP_READ.chunk : Key := odKey 0x78 0x021 3
def Od.DUMP_SLOT.state (n : Nat) : Key := odKey 0x78 (0x030 + n) 1
def Od.DUMP_SLOT.sequence (n : Nat) : Key := odKey 0x78 (0x030 + n) 2
def Od.DUMP_SLOT.trigger (n : Nat) : Key := odKey 0x78 (0x030 + n) 3
def Od.DUMP_SLOT.total_len (n : Nat) : Key := odKey 0x78 (0x030 + n) 4
def Od.DUMP_SLOT.capture_tick (n : Nat) : Key := odKey 0x78 (0x030 + n) 5

end Sys2Proof.Machine
end

