-- ==== Sys2Proof/Machine/ObjectTable.lean ====
section
/-! DEFINITION. The dictionary's object table: for every object and member of the area tables of spec/ its type,
access code, roles, default, persistence, read class (R352) and the range its chapter states. A write is judged by
these columns in the order of R344; a check that relates several values stands in its chapter's family file. -/

namespace Sys2Proof.Machine

/-- The dictionary types (Table 0-6). `u n` and `s n` are unsigned and two's-complement integers of n bytes: ST is
`u 8`, TI and FF are `s 8`, TEMP is `s 2`. -/
inductive OdType where
  | bool
  | u (bytes : Nat)
  | s (bytes : Nat)
  | wt
  | str (bytes : Nat)
  | blob (bytes : Nat)
  deriving DecidableEq, Repr

/-- The access codes (R15). -/
inductive Access where
  | ro
  | rw
  | wo
  | w1c
  deriving DecidableEq, Repr

/-- What keeps an object over a reset: nothing, the configuration store (R17), the key store (R175) or the
calibration store (R124). -/
inductive Persist where
  | no
  | store
  | key
  | cal
  deriving DecidableEq, Repr

/-- The range of one value, where its chapter gives one: `rng` an interval, `mask` the bits that are not reserved
(R344 step 7), `oneOf` a list, and `own` a check of the chapter's own, in its family file. -/
inductive Chk where
  | any
  | rng (lo hi : Int)
  | mask (m : Nat)
  | oneOf (vs : List Int)
  | own
  deriving DecidableEq, Repr

/-- One row of an area table. `roles` is the mask of Table 17-2 roles listed (bit 0 Observer, 1 Operator,
2 Timekeeper, 3 Keyholder), `fw` the read class FW of R352. -/
structure ObjRow where
  area : Nat
  base : Nat
  count : Nat
  stride : Nat
  member : Nat
  ty : OdType
  access : Access
  roles : Nat
  dflt : Int
  persist : Persist
  fw : Bool
  chk : Chk
  name : String
  deriving DecidableEq, Repr


/-- Rows of spec/17_dictionary.md Table 17-5 (R361) (part 1). -/
def rowsArea00_1 : List ObjRow := [
  ⟨0x00, 0x001, 1, 1, 1, .u 2, .ro, 1, 8058, .no, false, .any, "ID.vendor_id"⟩,
  ⟨0x00, 0x001, 1, 1, 2, .u 2, .ro, 1, 30784, .no, false, .any, "ID.device_id"⟩,
  ⟨0x00, 0x001, 1, 1, 3, .u 1, .ro, 1, 161, .no, false, .any, "ID.revision"⟩,
  ⟨0x00, 0x001, 1, 1, 4, .str 16, .ro, 1, 0, .no, false, .any, "ID.ordering_code"⟩,
  ⟨0x00, 0x001, 1, 1, 5, .str 16, .ro, 1, 0, .no, false, .any, "ID.serial"⟩,
  ⟨0x00, 0x001, 1, 1, 6, .blob 8, .ro, 1, 0, .no, false, .any, "ID.eui64"⟩,
  ⟨0x00, 0x001, 1, 1, 7, .blob 6, .ro, 1, 0, .no, false, .any, "ID.base_mac"⟩,
  ⟨0x00, 0x001, 1, 1, 8, .u 4, .ro, 1, 0, .no, false, .any, "ID.fw_version"⟩,
  ⟨0x00, 0x002, 1, 1, 1, .u 4, .ro, 1, 0, .no, true, .any, "DESC.version"⟩,
  ⟨0x00, 0x002, 1, 1, 2, .blob 32, .ro, 1, 0, .no, true, .any, "DESC.digest"⟩,
  ⟨0x00, 0x002, 1, 1, 3, .u 4, .ro, 1, 0, .no, true, .any, "DESC.size"⟩,
  ⟨0x00, 0x002, 1, 1, 4, .u 4, .rw, 1, 0, .no, true, .own, "DESC.chunk_index"⟩,
  ⟨0x00, 0x002, 1, 1, 5, .blob 1024, .ro, 1, 0, .no, true, .any, "DESC.chunk"⟩,
  ⟨0x00, 0x003, 1, 1, 1, .str 32, .rw, 2, 0, .store, false, .any, "LABEL.name"⟩,
  ⟨0x00, 0x003, 1, 1, 2, .str 64, .rw, 2, 0, .store, false, .any, "LABEL.location"⟩]

/-- Every row of area 00. -/
def rowsArea00 : List ObjRow := rowsArea00_1

/-- Rows of spec/02_moons.md Table 2-7 (R68) (part 1). -/
def rowsArea10_1 : List ObjRow := [
  ⟨0x10, 0x001, 1, 1, 0, .s 2, .rw, 4, 37, .store, false, .any, "LEAP_BASE"⟩,
  ⟨0x10, 0x010, 32, 1, 1, .wt, .rw, 4, 0, .store, false, .any, "LEAP_ENTRY.instant"⟩,
  ⟨0x10, 0x010, 32, 1, 2, .s 2, .rw, 4, 0, .store, false, .any, "LEAP_ENTRY.offset"⟩,
  ⟨0x10, 0x010, 32, 1, 3, .bool, .rw, 4, 0, .store, false, .any, "LEAP_ENTRY.valid"⟩,
  ⟨0x10, 0x100, 32, 16, 1, .bool, .rw, 2, 0, .store, false, .any, "MOON_CONFIG.enable"⟩,
  ⟨0x10, 0x100, 32, 16, 2, .u 1, .rw, 4, 0, .store, false, .rng (0) 3, "MOON_CONFIG.scale"⟩,
  ⟨0x10, 0x100, 32, 16, 3, .u 1, .rw, 4, 0, .store, false, .rng (0) 1, "MOON_CONFIG.steer_source"⟩,
  ⟨0x10, 0x100, 32, 16, 4, .s 8, .rw, 4, 65536000, .store, false, .own, "MOON_CONFIG.jump_limit"⟩,
  ⟨0x10, 0x100, 32, 16, 5, .u 4, .rw, 4, 10000, .store, false, .rng (0) 500000, "MOON_CONFIG.slew_ceiling_ppb"⟩,
  ⟨0x10, 0x100, 32, 16, 6, .u 4, .rw, 4, 1000, .store, false, .rng (1) 1000, "MOON_CONFIG.rate_ceiling_ppb"⟩,
  ⟨0x10, 0x100, 32, 16, 7, .u 1, .rw, 4, 1, .store, false, .rng (1) 15, "MOON_CONFIG.stratum_locked"⟩,
  ⟨0x10, 0x100, 32, 16, 8, .u 4, .rw, 2, 0, .store, false, .any, "MOON_CONFIG.refid"⟩,
  ⟨0x10, 0x101, 32, 16, 0, .u 8, .rw, 4, 281474976710656, .no, false, .any, "MOON_INC_STAGED"⟩,
  ⟨0x10, 0x102, 32, 16, 0, .u 8, .ro, 1, 281474976710656, .no, false, .any, "MOON_INC_ACTIVE"⟩,
  ⟨0x10, 0x103, 32, 16, 0, .s 8, .rw, 4, 0, .no, false, .any, "MOON_STEP_STAGED"⟩,
  ⟨0x10, 0x104, 32, 16, 1, .bool, .rw, 4, 0, .no, false, .any, "MOON_SET.armed"⟩,
  ⟨0x10, 0x104, 32, 16, 2, .wt, .rw, 4, 0, .no, false, .any, "MOON_SET.value"⟩,
  ⟨0x10, 0x105, 32, 16, 1, .s 8, .rw, 4, 0, .no, false, .any, "MOON_CONSENT.bound"⟩,
  ⟨0x10, 0x105, 32, 16, 2, .bool, .ro, 1, 0, .no, false, .any, "MOON_CONSENT.armed"⟩,
  ⟨0x10, 0x105, 32, 16, 3, .u 8, .ro, 1, 0, .no, false, .any, "MOON_CONSENT.expires"⟩,
  ⟨0x10, 0x106, 32, 16, 1, .u 8, .ro, 1, 0, .no, false, .any, "MOON_EPOCH_CUR.boundary"⟩,
  ⟨0x10, 0x106, 32, 16, 2, .blob 16, .ro, 1, 0, .no, false, .any, "MOON_EPOCH_CUR.count"⟩,
  ⟨0x10, 0x106, 32, 16, 3, .u 8, .ro, 1, 281474976710656, .no, false, .any, "MOON_EPOCH_CUR.inc"⟩,
  ⟨0x10, 0x106, 32, 16, 4, .u 1, .ro, 1, 0, .no, false, .any, "MOON_EPOCH_CUR.state"⟩,
  ⟨0x10, 0x106, 32, 16, 5, .u 2, .ro, 1, 0, .no, false, .any, "MOON_EPOCH_CUR.flags"⟩,
  ⟨0x10, 0x106, 32, 16, 6, .u 1, .ro, 1, 3, .no, false, .any, "MOON_EPOCH_CUR.li"⟩,
  ⟨0x10, 0x106, 32, 16, 7, .u 1, .ro, 1, 16, .no, false, .any, "MOON_EPOCH_CUR.stratum"⟩,
  ⟨0x10, 0x106, 32, 16, 8, .s 2, .ro, 1, 0, .no, false, .any, "MOON_EPOCH_CUR.tai_utc"⟩,
  ⟨0x10, 0x106, 32, 16, 9, .wt, .ro, 1, 0, .no, false, .any, "MOON_EPOCH_CUR.leap_instant"⟩,
  ⟨0x10, 0x106, 32, 16, 10, .s 2, .ro, 1, 0, .no, false, .any, "MOON_EPOCH_CUR.leap_delta"⟩,
  ⟨0x10, 0x106, 32, 16, 11, .s 8, .ro, 1, 0, .no, false, .any, "MOON_EPOCH_CUR.error_bound"⟩,
  ⟨0x10, 0x106, 32, 16, 12, .u 4, .ro, 1, 0, .no, false, .any, "MOON_EPOCH_CUR.root_dispersion"⟩,
  ⟨0x10, 0x106, 32, 16, 13, .u 4, .ro, 1, 0, .no, false, .any, "MOON_EPOCH_CUR.refid"⟩,
  ⟨0x10, 0x106, 32, 16, 14, .u 4, .ro, 1, 0, .no, false, .any, "MOON_EPOCH_CUR.step_count"⟩,
  ⟨0x10, 0x106, 32, 16, 15, .s 8, .ro, 1, 0, .no, false, .any, "MOON_EPOCH_CUR.last_step"⟩,
  ⟨0x10, 0x107, 32, 16, 1, .u 8, .ro, 1, 0, .no, false, .any, "MOON_EPOCH_NEXT.boundary"⟩,
  ⟨0x10, 0x107, 32, 16, 2, .blob 16, .ro, 1, 0, .no, false, .any, "MOON_EPOCH_NEXT.count"⟩,
  ⟨0x10, 0x107, 32, 16, 3, .u 8, .ro, 1, 0, .no, false, .any, "MOON_EPOCH_NEXT.inc"⟩,
  ⟨0x10, 0x107, 32, 16, 4, .u 1, .ro, 1, 0, .no, false, .any, "MOON_EPOCH_NEXT.state"⟩,
  ⟨0x10, 0x107, 32, 16, 5, .u 2, .ro, 1, 0, .no, false, .any, "MOON_EPOCH_NEXT.flags"⟩]

/-- Rows of spec/02_moons.md Table 2-7 (R68) (part 2). -/
def rowsArea10_2 : List ObjRow := [
  ⟨0x10, 0x107, 32, 16, 6, .u 1, .ro, 1, 0, .no, false, .any, "MOON_EPOCH_NEXT.li"⟩,
  ⟨0x10, 0x107, 32, 16, 7, .u 1, .ro, 1, 0, .no, false, .any, "MOON_EPOCH_NEXT.stratum"⟩,
  ⟨0x10, 0x107, 32, 16, 8, .s 2, .ro, 1, 0, .no, false, .any, "MOON_EPOCH_NEXT.tai_utc"⟩,
  ⟨0x10, 0x107, 32, 16, 9, .wt, .ro, 1, 0, .no, false, .any, "MOON_EPOCH_NEXT.leap_instant"⟩,
  ⟨0x10, 0x107, 32, 16, 10, .s 2, .ro, 1, 0, .no, false, .any, "MOON_EPOCH_NEXT.leap_delta"⟩,
  ⟨0x10, 0x107, 32, 16, 11, .s 8, .ro, 1, 0, .no, false, .any, "MOON_EPOCH_NEXT.error_bound"⟩,
  ⟨0x10, 0x107, 32, 16, 12, .u 4, .ro, 1, 0, .no, false, .any, "MOON_EPOCH_NEXT.root_dispersion"⟩,
  ⟨0x10, 0x107, 32, 16, 13, .u 4, .ro, 1, 0, .no, false, .any, "MOON_EPOCH_NEXT.refid"⟩,
  ⟨0x10, 0x107, 32, 16, 14, .u 4, .ro, 1, 0, .no, false, .any, "MOON_EPOCH_NEXT.step_count"⟩,
  ⟨0x10, 0x107, 32, 16, 15, .s 8, .ro, 1, 0, .no, false, .any, "MOON_EPOCH_NEXT.last_step"⟩,
  ⟨0x10, 0x108, 32, 16, 1, .u 4, .ro, 1, 0, .no, false, .any, "MOON_STATUS.refused"⟩,
  ⟨0x10, 0x108, 32, 16, 2, .u 4, .ro, 1, 0, .no, false, .any, "MOON_STATUS.ceiling"⟩,
  ⟨0x10, 0x108, 32, 16, 3, .u 4, .ro, 1, 0, .no, false, .any, "MOON_STATUS.clamped"⟩,
  ⟨0x10, 0x108, 32, 16, 4, .u 2, .w1c, 2, 0, .no, false, .mask 0x7F, "MOON_STATUS.sticky"⟩,
  ⟨0x10, 0x108, 32, 16, 5, .u 1, .ro, 1, 3, .no, false, .any, "MOON_STATUS.copies"⟩,
  ⟨0x10, 0x108, 32, 16, 6, .u 4, .ro, 1, 0, .no, false, .any, "MOON_STATUS.votes_corrected"⟩,
  ⟨0x10, 0x108, 32, 16, 7, .u 8, .ro, 1, 0, .no, false, .any, "MOON_STATUS.last_step_boundary"⟩,
  ⟨0x10, 0x109, 32, 16, 1, .u 8, .ro, 1, 0, .no, false, .any, "MOON_NOW.tick"⟩,
  ⟨0x10, 0x109, 32, 16, 2, .wt, .ro, 1, 0, .no, false, .any, "MOON_NOW.linear"⟩,
  ⟨0x10, 0x109, 32, 16, 3, .wt, .ro, 1, 0, .no, false, .any, "MOON_NOW.label"⟩,
  ⟨0x10, 0x109, 32, 16, 4, .u 8, .ro, 1, 0, .no, false, .any, "MOON_NOW.short"⟩,
  ⟨0x10, 0x109, 32, 16, 5, .u 8, .ro, 1, 0, .no, false, .any, "MOON_NOW.ntp"⟩,
  ⟨0x10, 0x109, 32, 16, 6, .u 4, .ro, 1, 0, .no, false, .any, "MOON_NOW.ntp_era"⟩,
  ⟨0x10, 0x109, 32, 16, 7, .bool, .ro, 1, 0, .no, false, .any, "MOON_NOW.in_leap"⟩,
  ⟨0x10, 0x10C, 32, 16, 1, .u 8, .rw, 2, 0, .no, false, .any, "MOON_CMP0.target"⟩,
  ⟨0x10, 0x10D, 32, 16, 1, .u 8, .rw, 2, 0, .no, false, .any, "MOON_CMP1.target"⟩,
  ⟨0x10, 0x10E, 32, 16, 1, .u 8, .rw, 2, 0, .no, false, .any, "MOON_CMP2.target"⟩,
  ⟨0x10, 0x10F, 32, 16, 1, .u 8, .rw, 2, 0, .no, false, .any, "MOON_CMP3.target"⟩,
  ⟨0x10, 0x10C, 32, 16, 2, .bool, .ro, 1, 0, .no, false, .any, "MOON_CMP0.armed"⟩,
  ⟨0x10, 0x10D, 32, 16, 2, .bool, .ro, 1, 0, .no, false, .any, "MOON_CMP1.armed"⟩,
  ⟨0x10, 0x10E, 32, 16, 2, .bool, .ro, 1, 0, .no, false, .any, "MOON_CMP2.armed"⟩,
  ⟨0x10, 0x10F, 32, 16, 2, .bool, .ro, 1, 0, .no, false, .any, "MOON_CMP3.armed"⟩,
  ⟨0x10, 0x10C, 32, 16, 3, .bool, .w1c, 2, 0, .no, false, .any, "MOON_CMP0.reached"⟩,
  ⟨0x10, 0x10D, 32, 16, 3, .bool, .w1c, 2, 0, .no, false, .any, "MOON_CMP1.reached"⟩,
  ⟨0x10, 0x10E, 32, 16, 3, .bool, .w1c, 2, 0, .no, false, .any, "MOON_CMP2.reached"⟩,
  ⟨0x10, 0x10F, 32, 16, 3, .bool, .w1c, 2, 0, .no, false, .any, "MOON_CMP3.reached"⟩]

/-- Every row of area 10. -/
def rowsArea10 : List ObjRow := rowsArea10_1 ++ rowsArea10_2

/-- Rows of spec/03_schedule.md Table 3-4 (part 1). -/
def rowsArea14_1 : List ObjRow := [
  ⟨0x14, 0x001, 1, 1, 1, .u 4, .ro, 1, 0, .no, false, .any, "SCHED_STATUS.fired"⟩,
  ⟨0x14, 0x001, 1, 1, 2, .u 4, .ro, 1, 0, .no, false, .any, "SCHED_STATUS.late"⟩,
  ⟨0x14, 0x001, 1, 1, 3, .u 4, .ro, 1, 0, .no, false, .any, "SCHED_STATUS.stepped"⟩,
  ⟨0x14, 0x001, 1, 1, 4, .u 4, .ro, 1, 0, .no, false, .any, "SCHED_STATUS.refused"⟩,
  ⟨0x14, 0x001, 1, 1, 5, .u 4, .ro, 1, 0, .no, false, .any, "SCHED_STATUS.overrun"⟩,
  ⟨0x14, 0x001, 1, 1, 6, .u 4, .ro, 1, 0, .no, false, .any, "SCHED_STATUS.voided"⟩,
  ⟨0x14, 0x001, 1, 1, 7, .u 2, .w1c, 2, 0, .no, false, .mask 0x7F, "SCHED_STATUS.sticky"⟩,
  ⟨0x14, 0x001, 1, 1, 8, .u 2, .ro, 1, 0, .no, false, .any, "SCHED_STATUS.last_entry"⟩,
  ⟨0x14, 0x001, 1, 1, 9, .u 8, .ro, 1, 0, .no, false, .any, "SCHED_STATUS.last_tick"⟩,
  ⟨0x14, 0x002, 1, 1, 1, .u 8, .ro, 1, 0, .no, false, .any, "SCHED_SNAP.tick"⟩,
  ⟨0x14, 0x002, 1, 1, 2, .u 4, .ro, 1, 0, .no, false, .any, "SCHED_SNAP.sequence"⟩,
  ⟨0x14, 0x002, 1, 1, 3, .u 2, .ro, 1, 0, .no, false, .any, "SCHED_SNAP.entry"⟩,
  ⟨0x14, 0x040, 32, 1, 0, .u 8, .ro, 1, 0, .no, false, .any, "SCHED_SNAP_MOON"⟩,
  ⟨0x14, 0x400, 1024, 1, 1, .u 8, .rw, 2, 0, .no, false, .own, "SCHED_ENTRY.target"⟩,
  ⟨0x14, 0x400, 1024, 1, 2, .u 1, .rw, 2, 0, .no, false, .own, "SCHED_ENTRY.moon"⟩,
  ⟨0x14, 0x400, 1024, 1, 3, .u 1, .rw, 2, 0, .no, false, .own, "SCHED_ENTRY.action"⟩,
  ⟨0x14, 0x400, 1024, 1, 4, .blob 16, .rw, 2, 0, .no, false, .own, "SCHED_ENTRY.arg"⟩,
  ⟨0x14, 0x400, 1024, 1, 5, .s 8, .rw, 2, 0, .no, false, .own, "SCHED_ENTRY.period"⟩,
  ⟨0x14, 0x400, 1024, 1, 6, .u 4, .rw, 2, 0, .no, false, .own, "SCHED_ENTRY.repeat"⟩,
  ⟨0x14, 0x400, 1024, 1, 7, .u 1, .rw, 2, 0, .no, false, .own, "SCHED_ENTRY.state"⟩,
  ⟨0x14, 0x400, 1024, 1, 8, .u 2, .ro, 2, 0, .no, false, .any, "SCHED_ENTRY.flags"⟩,
  ⟨0x14, 0x400, 1024, 1, 9, .u 8, .ro, 2, 0, .no, false, .any, "SCHED_ENTRY.fire_tick"⟩,
  ⟨0x14, 0x400, 1024, 1, 10, .u 4, .ro, 2, 0, .no, false, .any, "SCHED_ENTRY.fire_count"⟩,
  ⟨0x14, 0x400, 1024, 1, 11, .u 1, .ro, 2, 0, .no, false, .any, "SCHED_ENTRY.roles"⟩,
  ⟨0x14, 0x400, 1024, 1, 12, .u 2, .ro, 2, 0, .no, false, .any, "SCHED_ENTRY.result"⟩]

/-- Every row of area 14. -/
def rowsArea14 : List ObjRow := rowsArea14_1

/-- Rows of spec/14_outputs.md Table 14-2 (part 1). -/
def rowsArea18_1 : List ObjRow := [
  ⟨0x18, 0x001, 1, 1, 1, .u 2, .w1c, 2, 0, .no, false, .mask 0x3F, "OUT_STATUS.sticky"⟩,
  ⟨0x18, 0x001, 1, 1, 2, .bool, .ro, 1, 0, .no, false, .any, "OUT_STATUS.time_ok"⟩,
  ⟨0x18, 0x010, 4, 1, 1, .bool, .rw, 2, 0, .store, false, .any, "SYNTH.enable"⟩,
  ⟨0x18, 0x010, 4, 1, 2, .u 8, .rw, 2, 6250000000, .store, false, .rng (5000000000) 6250000000, "SYNTH.vco_hz"⟩,
  ⟨0x18, 0x010, 4, 1, 3, .bool, .ro, 1, 0, .no, false, .any, "SYNTH.locked"⟩,
  ⟨0x18, 0x010, 4, 1, 4, .u 8, .ro, 1, 0, .no, false, .any, "SYNTH.ratio"⟩,
  ⟨0x18, 0x020, 12, 1, 1, .bool, .rw, 2, 0, .store, false, .any, "CLKOUT.enable"⟩,
  ⟨0x18, 0x020, 12, 1, 2, .u 8, .rw, 2, 40, .store, false, .rng (4) 8589934591, "CLKOUT.divider"⟩,
  ⟨0x18, 0x020, 12, 1, 3, .u 1, .rw, 2, 0, .store, false, .rng (0) 3, "CLKOUT.format"⟩,
  ⟨0x18, 0x020, 12, 1, 4, .u 1, .rw, 4, 0, .store, false, .rng (0) 3, "CLKOUT.squelch"⟩,
  ⟨0x18, 0x020, 12, 1, 5, .bool, .rw, 4, 0, .store, false, .own, "CLKOUT.align"⟩,
  ⟨0x18, 0x020, 12, 1, 6, .bool, .ro, 1, 1, .no, false, .any, "CLKOUT.squelched"⟩,
  ⟨0x18, 0x040, 4, 1, 1, .bool, .rw, 2, 0, .store, false, .any, "PPSOUT.enable"⟩,
  ⟨0x18, 0x040, 4, 1, 2, .u 1, .rw, 4, 0, .store, false, .rng (0) 31, "PPSOUT.moon"⟩,
  ⟨0x18, 0x040, 4, 1, 3, .s 8, .rw, 4, 65536000000000, .store, false, .rng (65536000000) 65536000000000000, "PPSOUT.period"⟩,
  ⟨0x18, 0x040, 4, 1, 4, .s 8, .rw, 4, 0, .store, false, .own, "PPSOUT.phase"⟩,
  ⟨0x18, 0x040, 4, 1, 5, .s 8, .rw, 2, 6553600000000, .store, false, .own, "PPSOUT.width"⟩,
  ⟨0x18, 0x040, 4, 1, 6, .s 8, .rw, 4, 0, .store, false, .rng (-65536000) 65536000, "PPSOUT.advance"⟩,
  ⟨0x18, 0x040, 4, 1, 7, .s 8, .ro, 1, 0, .no, false, .any, "PPSOUT.cal_offset"⟩,
  ⟨0x18, 0x040, 4, 1, 8, .u 1, .rw, 4, 0, .store, false, .rng (0) 2, "PPSOUT.squelch"⟩,
  ⟨0x18, 0x040, 4, 1, 9, .u 4, .ro, 1, 0, .no, false, .any, "PPSOUT.edges"⟩,
  ⟨0x18, 0x040, 4, 1, 10, .u 4, .ro, 1, 0, .no, false, .any, "PPSOUT.skipped"⟩,
  ⟨0x18, 0x040, 4, 1, 11, .s 8, .ro, 1, 0, .no, false, .any, "PPSOUT.echo_last"⟩,
  ⟨0x18, 0x040, 4, 1, 12, .bool, .ro, 1, 1, .no, false, .any, "PPSOUT.squelched"⟩,
  ⟨0x18, 0x060, 1, 1, 1, .bool, .rw, 4, 0, .store, false, .any, "TOD_OUT.enable"⟩,
  ⟨0x18, 0x060, 1, 1, 2, .u 1, .rw, 4, 0, .store, false, .rng (0) 1, "TOD_OUT.format"⟩,
  ⟨0x18, 0x060, 1, 1, 3, .u 4, .rw, 4, 9600, .store, false, .oneOf [4800, 9600, 19200, 38400, 115200], "TOD_OUT.baud"⟩,
  ⟨0x18, 0x060, 1, 1, 4, .u 1, .rw, 4, 0, .store, false, .rng (0) 3, "TOD_OUT.ppsout"⟩,
  ⟨0x18, 0x060, 1, 1, 5, .u 2, .rw, 4, 100, .store, false, .rng (0) 800, "TOD_OUT.start_ms"⟩,
  ⟨0x18, 0x061, 1, 1, 1, .u 4, .ro, 1, 0, .no, false, .any, "TOD_OUT_STATUS.sent"⟩,
  ⟨0x18, 0x061, 1, 1, 2, .u 4, .ro, 1, 0, .no, false, .any, "TOD_OUT_STATUS.invalid"⟩]

/-- Every row of area 18. -/
def rowsArea18 : List ObjRow := rowsArea18_1

/-- Rows of spec/10_reference_inputs.md Table 10-5 (part 1). -/
def rowsArea20_1 : List ObjRow := [
  ⟨0x20, 0x100, 8, 1, 1, .bool, .rw, 4, 0, .store, false, .any, "REFIN_CFG.enable"⟩,
  ⟨0x20, 0x100, 8, 1, 2, .u 1, .rw, 4, 0, .store, false, .rng (0) 1, "REFIN_CFG.mode"⟩,
  ⟨0x20, 0x100, 8, 1, 3, .u 1, .rw, 4, 0, .store, false, .rng (0) 1, "REFIN_CFG.waveform"⟩,
  ⟨0x20, 0x100, 8, 1, 4, .u 1, .rw, 4, 0, .store, false, .rng (0) 1, "REFIN_CFG.signalling"⟩,
  ⟨0x20, 0x100, 8, 1, 5, .u 1, .rw, 4, 0, .store, false, .rng (0) 1, "REFIN_CFG.edge"⟩,
  ⟨0x20, 0x100, 8, 1, 6, .u 4, .rw, 4, 10000000, .store, false, .any, "REFIN_CFG.f_nom"⟩,
  ⟨0x20, 0x100, 8, 1, 7, .u 4, .rw, 4, 1, .store, false, .oneOf [1, 10, 100, 1000, 10000, 100000], "REFIN_CFG.compare_hz"⟩,
  ⟨0x20, 0x100, 8, 1, 8, .s 2, .rw, 4, 1250, .store, false, .rng (-500) 2500, "REFIN_CFG.threshold_mv"⟩,
  ⟨0x20, 0x100, 8, 1, 9, .u 1, .rw, 4, 255, .store, false, .own, "REFIN_CFG.slot"⟩,
  ⟨0x20, 0x100, 8, 1, 10, .u 1, .rw, 4, 0, .store, false, .rng (0) 1, "REFIN_CFG.source"⟩,
  ⟨0x20, 0x100, 8, 1, 11, .u 1, .rw, 4, 0, .store, false, .rng (0) 15, "REFIN_CFG.sibling"⟩,
  ⟨0x20, 0x110, 8, 1, 1, .s 8, .rw, 4, 6553600000, .store, false, .rng (65536000) 6553600000000, "REFIN_QUAL.window"⟩,
  ⟨0x20, 0x110, 8, 1, 2, .s 8, .rw, 4, 65536000, .store, false, .rng (655) 6553600000000, "REFIN_QUAL.window_fine"⟩,
  ⟨0x20, 0x110, 8, 1, 3, .s 8, .rw, 4, 6553600, .store, false, .rng (0) 6553600000, "REFIN_QUAL.min_width"⟩,
  ⟨0x20, 0x110, 8, 1, 4, .u 4, .rw, 4, 100000, .store, false, .rng (1) 1000000, "REFIN_QUAL.freq_limit_ppb"⟩,
  ⟨0x20, 0x110, 8, 1, 5, .u 2, .rw, 4, 200, .store, false, .rng (50) 2000, "REFIN_QUAL.amp_min_mv"⟩,
  ⟨0x20, 0x110, 8, 1, 6, .u 4, .rw, 4, 10, .store, false, .rng (1) 3600, "REFIN_QUAL.qual_time"⟩,
  ⟨0x20, 0x110, 8, 1, 7, .u 4, .rw, 4, 0, .store, false, .rng (0) 65535, "REFIN_QUAL.gate"⟩,
  ⟨0x20, 0x120, 8, 1, 1, .u 1, .ro, 1, 0, .no, false, .any, "REFIN_STATUS.state"⟩,
  ⟨0x20, 0x120, 8, 1, 2, .u 2, .ro, 1, 0, .no, false, .any, "REFIN_STATUS.causes"⟩,
  ⟨0x20, 0x120, 8, 1, 3, .u 2, .w1c, 2, 0, .no, false, .mask 0x1FF, "REFIN_STATUS.sticky"⟩,
  ⟨0x20, 0x120, 8, 1, 4, .u 4, .ro, 1, 0, .no, false, .any, "REFIN_STATUS.fail_count"⟩,
  ⟨0x20, 0x120, 8, 1, 5, .u 8, .ro, 1, 0, .no, false, .any, "REFIN_STATUS.last_fail_tick"⟩,
  ⟨0x20, 0x120, 8, 1, 6, .u 8, .ro, 1, 0, .no, false, .any, "REFIN_STATUS.qualified_tick"⟩,
  ⟨0x20, 0x120, 8, 1, 7, .u 8, .ro, 1, 0, .no, false, .any, "REFIN_STATUS.edges"⟩,
  ⟨0x20, 0x120, 8, 1, 8, .s 2, .ro, 1, 1250, .no, false, .any, "REFIN_STATUS.vth_mv"⟩,
  ⟨0x20, 0x120, 8, 1, 9, .u 2, .ro, 1, 0, .no, false, .any, "REFIN_STATUS.amplitude_mv"⟩,
  ⟨0x20, 0x120, 8, 1, 10, .s 8, .ro, 1, 0, .no, false, .any, "REFIN_STATUS.walk"⟩,
  ⟨0x20, 0x130, 8, 1, 1, .u 8, .ro, 1, 0, .no, false, .any, "REFIN_MEAS.tick"⟩,
  ⟨0x20, 0x130, 8, 1, 2, .s 8, .ro, 1, 0, .no, false, .any, "REFIN_MEAS.phase"⟩,
  ⟨0x20, 0x130, 8, 1, 3, .s 8, .ro, 1, 0, .no, false, .any, "REFIN_MEAS.ff"⟩,
  ⟨0x20, 0x130, 8, 1, 4, .u 1, .ro, 1, 0, .no, false, .any, "REFIN_MEAS.state"⟩,
  ⟨0x20, 0x130, 8, 1, 5, .u 2, .ro, 1, 0, .no, false, .any, "REFIN_MEAS.flags"⟩,
  ⟨0x20, 0x130, 8, 1, 6, .s 8, .ro, 1, 0, .no, false, .any, "REFIN_MEAS.sibling_bound"⟩,
  ⟨0x20, 0x200, 32, 1, 1, .bool, .rw, 4, 0, .store, false, .any, "SYNCE_CFG.enable"⟩,
  ⟨0x20, 0x200, 32, 1, 2, .u 1, .rw, 4, 255, .store, false, .own, "SYNCE_CFG.slot"⟩,
  ⟨0x20, 0x200, 32, 1, 3, .u 4, .rw, 4, 4600, .store, false, .rng (1) 1000000, "SYNCE_CFG.freq_limit_ppb"⟩,
  ⟨0x20, 0x200, 32, 1, 4, .u 4, .rw, 4, 10, .store, false, .rng (1) 3600, "SYNCE_CFG.qual_time"⟩,
  ⟨0x20, 0x200, 32, 1, 5, .u 4, .rw, 4, 954, .store, false, .rng (1) 65535, "SYNCE_CFG.gate"⟩,
  ⟨0x20, 0x240, 32, 1, 1, .u 1, .ro, 1, 0, .no, false, .any, "SYNCE_STATUS.state"⟩]

/-- Rows of spec/10_reference_inputs.md Table 10-5 (part 2). -/
def rowsArea20_2 : List ObjRow := [
  ⟨0x20, 0x240, 32, 1, 2, .u 2, .ro, 1, 0, .no, false, .any, "SYNCE_STATUS.causes"⟩,
  ⟨0x20, 0x240, 32, 1, 3, .u 2, .w1c, 2, 0, .no, false, .mask 0x29, "SYNCE_STATUS.sticky"⟩,
  ⟨0x20, 0x240, 32, 1, 4, .s 8, .ro, 1, 0, .no, false, .any, "SYNCE_STATUS.ff"⟩,
  ⟨0x20, 0x240, 32, 1, 5, .u 1, .ro, 1, 0, .no, false, .any, "SYNCE_STATUS.ql"⟩,
  ⟨0x20, 0x240, 32, 1, 6, .bool, .ro, 1, 0, .no, false, .any, "SYNCE_STATUS.ql_valid"⟩,
  ⟨0x20, 0x300, 1, 1, 1, .bool, .rw, 4, 0, .store, false, .any, "TOD_IN.enable"⟩,
  ⟨0x20, 0x300, 1, 1, 2, .u 1, .rw, 4, 0, .store, false, .rng (0) 1, "TOD_IN.format"⟩,
  ⟨0x20, 0x300, 1, 1, 3, .u 4, .rw, 4, 9600, .store, false, .oneOf [4800, 9600, 19200, 38400, 115200], "TOD_IN.baud"⟩,
  ⟨0x20, 0x300, 1, 1, 4, .u 1, .rw, 4, 0, .store, false, .rng (0) 7, "TOD_IN.refin"⟩,
  ⟨0x20, 0x300, 1, 1, 5, .u 1, .rw, 4, 0, .store, false, .rng (0) 1, "TOD_IN.edge_rule"⟩,
  ⟨0x20, 0x301, 1, 1, 1, .wt, .ro, 1, 0, .no, false, .any, "TOD_STATUS.last_label"⟩,
  ⟨0x20, 0x301, 1, 1, 2, .s 8, .ro, 1, 0, .no, false, .any, "TOD_STATUS.seconds_offset"⟩,
  ⟨0x20, 0x301, 1, 1, 3, .u 4, .ro, 1, 0, .no, false, .any, "TOD_STATUS.good"⟩,
  ⟨0x20, 0x301, 1, 1, 4, .u 4, .ro, 1, 0, .no, false, .any, "TOD_STATUS.bad"⟩,
  ⟨0x20, 0x301, 1, 1, 5, .u 4, .ro, 1, 0, .no, false, .any, "TOD_STATUS.late"⟩,
  ⟨0x20, 0x301, 1, 1, 6, .u 4, .ro, 1, 0, .no, false, .any, "TOD_STATUS.mismatch"⟩,
  ⟨0x20, 0x301, 1, 1, 7, .u 2, .w1c, 2, 0, .no, false, .mask 0xF, "TOD_STATUS.sticky"⟩]

/-- Every row of area 20. -/
def rowsArea20 : List ObjRow := rowsArea20_1 ++ rowsArea20_2

/-- Rows of spec/11_gnss.md Table 11-8 (part 1). -/
def rowsArea24_1 : List ObjRow := [
  ⟨0x24, 0x001, 1, 1, 1, .u 1, .rw, 4, 15, .store, false, .rng (1) 15, "GNSS_GLOBAL.systems"⟩,
  ⟨0x24, 0x001, 1, 1, 2, .u 1, .rw, 4, 0, .store, false, .rng (0) 3, "GNSS_GLOBAL.time_ref"⟩,
  ⟨0x24, 0x001, 1, 1, 3, .u 1, .rw, 4, 0, .store, false, .rng (0) 1, "GNSS_GLOBAL.realisation"⟩,
  ⟨0x24, 0x001, 1, 1, 4, .u 1, .rw, 4, 1, .store, false, .oneOf [1, 2, 5, 10], "GNSS_GLOBAL.solve_hz"⟩,
  ⟨0x24, 0x001, 1, 1, 5, .s 2, .rw, 4, 100, .store, false, .rng (0) 450, "GNSS_GLOBAL.elevation_mask"⟩,
  ⟨0x24, 0x001, 1, 1, 6, .u 1, .rw, 4, 30, .store, false, .rng (20) 45, "GNSS_GLOBAL.cn0_min"⟩,
  ⟨0x24, 0x001, 1, 1, 7, .u 1, .rw, 4, 55, .store, false, .rng (0) 60, "GNSS_GLOBAL.cn0_max"⟩,
  ⟨0x24, 0x001, 1, 1, 8, .u 1, .rw, 4, 10, .store, false, .rng (3) 30, "GNSS_GLOBAL.jam_db"⟩,
  ⟨0x24, 0x001, 1, 1, 9, .s 8, .rw, 4, 3276800000, .store, false, .rng (65536000) 65536000000, "GNSS_GLOBAL.raim_limit"⟩,
  ⟨0x24, 0x001, 1, 1, 10, .s 8, .rw, 4, 6553600000, .store, false, .rng (65536000) 65536000000, "GNSS_GLOBAL.consistency_limit"⟩,
  ⟨0x24, 0x001, 1, 1, 11, .s 8, .rw, 4, 327680000, .store, false, .rng (0) 6553600000, "GNSS_GLOBAL.delay_uncert"⟩,
  ⟨0x24, 0x001, 1, 1, 12, .u 1, .rw, 4, 1, .store, false, .rng (0) 3, "GNSS_GLOBAL.osnma_policy"⟩,
  ⟨0x24, 0x001, 1, 1, 13, .s 8, .rw, 4, 3276800000, .store, false, .rng (65536000) 65536000000, "GNSS_GLOBAL.anchor_limit"⟩,
  ⟨0x24, 0x002, 1, 1, 1, .u 1, .rw, 4, 0, .store, false, .rng (0) 2, "GNSS_POS.mode"⟩,
  ⟨0x24, 0x002, 1, 1, 2, .u 4, .rw, 4, 7200, .store, false, .rng (600) 604800, "GNSS_POS.survey_time"⟩,
  ⟨0x24, 0x002, 1, 1, 3, .u 4, .rw, 4, 500, .store, false, .rng (10) 100000, "GNSS_POS.survey_sigma_mm"⟩,
  ⟨0x24, 0x002, 1, 1, 4, .u 2, .rw, 4, 10, .store, false, .rng (1) 1000, "GNSS_POS.pos_limit_m"⟩,
  ⟨0x24, 0x002, 1, 1, 5, .bool, .rw, 4, 0, .store, false, .any, "GNSS_POS.auto_resurvey"⟩,
  ⟨0x24, 0x003, 1, 1, 1, .s 4, .rw, 4, 0, .store, false, .rng (-900000000) 900000000, "GNSS_HELD.lat"⟩,
  ⟨0x24, 0x003, 1, 1, 2, .s 4, .rw, 4, 0, .store, false, .rng (-1800000000) 1800000000, "GNSS_HELD.lon"⟩,
  ⟨0x24, 0x003, 1, 1, 3, .s 4, .rw, 4, 0, .store, false, .rng (-1000000) 10000000, "GNSS_HELD.height"⟩,
  ⟨0x24, 0x003, 1, 1, 4, .u 4, .rw, 4, 0, .store, false, .any, "GNSS_HELD.sigma_h"⟩,
  ⟨0x24, 0x003, 1, 1, 5, .u 4, .rw, 4, 0, .store, false, .any, "GNSS_HELD.sigma_v"⟩,
  ⟨0x24, 0x003, 1, 1, 6, .u 1, .ro, 4, 0, .store, false, .any, "GNSS_HELD.origin"⟩,
  ⟨0x24, 0x003, 1, 1, 7, .bool, .rw, 4, 0, .store, false, .any, "GNSS_HELD.valid"⟩,
  ⟨0x24, 0x004, 1, 1, 1, .blob 32, .rw, 4, 0, .store, false, .any, "GNSS_OSNMA.merkle_root"⟩,
  ⟨0x24, 0x004, 1, 1, 2, .u 1, .ro, 1, 0, .no, false, .any, "GNSS_OSNMA.state"⟩,
  ⟨0x24, 0x004, 1, 1, 3, .u 1, .ro, 1, 0, .no, false, .any, "GNSS_OSNMA.key_type"⟩,
  ⟨0x24, 0x004, 1, 1, 4, .u 8, .ro, 1, 0, .no, false, .any, "GNSS_OSNMA.tags_ok"⟩,
  ⟨0x24, 0x004, 1, 1, 5, .u 4, .ro, 1, 0, .no, false, .any, "GNSS_OSNMA.tags_failed"⟩,
  ⟨0x24, 0x004, 1, 1, 6, .u 8, .ro, 1, 0, .no, false, .any, "GNSS_OSNMA.last_auth_tick"⟩,
  ⟨0x24, 0x005, 1, 1, 1, .bool, .wo, 2, 0, .no, true, .any, "GNSS_STORE.save"⟩,
  ⟨0x24, 0x005, 1, 1, 2, .u 2, .ro, 1, 0, .no, true, .any, "GNSS_STORE.ephemerides"⟩,
  ⟨0x24, 0x005, 1, 1, 3, .u 4, .ro, 1, 4294967295, .no, true, .any, "GNSS_STORE.almanac_age"⟩,
  ⟨0x24, 0x005, 1, 1, 4, .u 8, .ro, 1, 0, .no, true, .any, "GNSS_STORE.last_save_tick"⟩,
  ⟨0x24, 0x006, 1, 1, 1, .s 2, .ro, 1, 0, .no, false, .any, "GNSS_LEAP.tai_utc"⟩,
  ⟨0x24, 0x006, 1, 1, 2, .wt, .ro, 1, 0, .no, false, .any, "GNSS_LEAP.next_instant"⟩,
  ⟨0x24, 0x006, 1, 1, 3, .s 2, .ro, 1, 0, .no, false, .any, "GNSS_LEAP.next_delta"⟩,
  ⟨0x24, 0x006, 1, 1, 4, .bool, .ro, 1, 0, .no, false, .any, "GNSS_LEAP.mismatch"⟩,
  ⟨0x24, 0x010, 2, 1, 1, .bool, .rw, 4, 0, .store, false, .any, "GNSS_FE.enable"⟩]

/-- Rows of spec/11_gnss.md Table 11-8 (part 2). -/
def rowsArea24_2 : List ObjRow := [
  ⟨0x24, 0x010, 2, 1, 2, .u 1, .rw, 4, 3, .store, false, .rng (1) 3, "GNSS_FE.bands"⟩,
  ⟨0x24, 0x010, 2, 1, 3, .u 1, .rw, 4, 255, .store, false, .own, "GNSS_FE.slot"⟩,
  ⟨0x24, 0x010, 2, 1, 4, .s 4, .rw, 4, 0, .store, false, .rng (-15000000) 15000000, "GNSS_FE.if_upper_hz"⟩,
  ⟨0x24, 0x010, 2, 1, 5, .s 4, .rw, 4, 0, .store, false, .rng (-15000000) 15000000, "GNSS_FE.if_lower_hz"⟩,
  ⟨0x24, 0x010, 2, 1, 6, .u 1, .rw, 4, 64, .store, false, .rng (0) 128, "GNSS_FE.channels_max"⟩,
  ⟨0x24, 0x010, 2, 1, 7, .u 4, .rw, 4, 60, .store, false, .rng (1) 3600, "GNSS_FE.qual_time"⟩,
  ⟨0x24, 0x010, 2, 1, 8, .bool, .rw, 4, 0, .store, false, .any, "GNSS_FE.antenna_fault"⟩,
  ⟨0x24, 0x010, 2, 1, 9, .blob 12, .rw, 4, 0, .store, false, .own, "GNSS_FE.lever_mm"⟩,
  ⟨0x24, 0x020, 2, 1, 1, .u 1, .ro, 1, 0, .no, false, .any, "GNSS_FE_STATUS.state"⟩,
  ⟨0x24, 0x020, 2, 1, 2, .u 2, .ro, 1, 0, .no, false, .any, "GNSS_FE_STATUS.causes"⟩,
  ⟨0x24, 0x020, 2, 1, 3, .u 2, .w1c, 2, 0, .no, false, .mask 0x1FFF, "GNSS_FE_STATUS.sticky"⟩,
  ⟨0x24, 0x020, 2, 1, 4, .u 4, .ro, 1, 0, .no, false, .any, "GNSS_FE_STATUS.fail_count"⟩,
  ⟨0x24, 0x020, 2, 1, 5, .u 8, .ro, 1, 0, .no, false, .any, "GNSS_FE_STATUS.qualified_tick"⟩,
  ⟨0x24, 0x020, 2, 1, 6, .s 2, .ro, 1, 0, .no, false, .any, "GNSS_FE_STATUS.noise_floor"⟩,
  ⟨0x24, 0x030, 2, 1, 1, .u 8, .ro, 1, 0, .no, false, .any, "GNSS_SOL.tick"⟩,
  ⟨0x24, 0x030, 2, 1, 2, .s 8, .ro, 1, 0, .no, false, .any, "GNSS_SOL.seconds"⟩,
  ⟨0x24, 0x030, 2, 1, 3, .s 8, .ro, 1, 0, .no, false, .any, "GNSS_SOL.phase"⟩,
  ⟨0x24, 0x030, 2, 1, 4, .s 8, .ro, 1, 0, .no, false, .any, "GNSS_SOL.ff"⟩,
  ⟨0x24, 0x030, 2, 1, 5, .u 1, .ro, 1, 0, .no, false, .any, "GNSS_SOL.state"⟩,
  ⟨0x24, 0x030, 2, 1, 6, .u 2, .ro, 1, 0, .no, false, .any, "GNSS_SOL.flags"⟩,
  ⟨0x24, 0x030, 2, 1, 7, .s 8, .ro, 1, 0, .no, false, .any, "GNSS_SOL.bound"⟩,
  ⟨0x24, 0x030, 2, 1, 8, .u 4, .ro, 1, 0, .no, false, .any, "GNSS_SOL.used"⟩,
  ⟨0x24, 0x030, 2, 1, 9, .u 1, .ro, 1, 0, .no, false, .any, "GNSS_SOL.authenticated"⟩,
  ⟨0x24, 0x030, 2, 1, 10, .u 2, .ro, 1, 0, .no, false, .any, "GNSS_SOL.pdop"⟩,
  ⟨0x24, 0x030, 2, 1, 11, .u 2, .ro, 1, 0, .no, false, .any, "GNSS_SOL.causes"⟩,
  ⟨0x24, 0x040, 2, 1, 1, .s 4, .ro, 1, 0, .no, false, .any, "GNSS_POSITION.lat"⟩,
  ⟨0x24, 0x040, 2, 1, 2, .s 4, .ro, 1, 0, .no, false, .any, "GNSS_POSITION.lon"⟩,
  ⟨0x24, 0x040, 2, 1, 3, .s 4, .ro, 1, 0, .no, false, .any, "GNSS_POSITION.height"⟩,
  ⟨0x24, 0x040, 2, 1, 4, .u 4, .ro, 1, 0, .no, false, .any, "GNSS_POSITION.sigma_h"⟩,
  ⟨0x24, 0x040, 2, 1, 5, .u 4, .ro, 1, 0, .no, false, .any, "GNSS_POSITION.sigma_v"⟩,
  ⟨0x24, 0x040, 2, 1, 6, .u 1, .ro, 1, 0, .no, false, .any, "GNSS_POSITION.survey_pct"⟩,
  ⟨0x24, 0x100, 128, 1, 1, .u 1, .ro, 1, 0, .no, false, .any, "GNSS_CHAN.fe"⟩,
  ⟨0x24, 0x100, 128, 1, 2, .u 1, .ro, 1, 0, .no, false, .any, "GNSS_CHAN.band"⟩,
  ⟨0x24, 0x100, 128, 1, 3, .u 1, .ro, 1, 0, .no, false, .any, "GNSS_CHAN.system"⟩,
  ⟨0x24, 0x100, 128, 1, 4, .u 1, .ro, 1, 0, .no, false, .any, "GNSS_CHAN.prn"⟩,
  ⟨0x24, 0x100, 128, 1, 5, .u 1, .ro, 1, 0, .no, false, .any, "GNSS_CHAN.state"⟩,
  ⟨0x24, 0x100, 128, 1, 6, .u 2, .ro, 1, 0, .no, false, .any, "GNSS_CHAN.cn0"⟩,
  ⟨0x24, 0x100, 128, 1, 7, .s 2, .ro, 1, 0, .no, false, .any, "GNSS_CHAN.elevation"⟩,
  ⟨0x24, 0x100, 128, 1, 8, .u 2, .ro, 1, 0, .no, false, .any, "GNSS_CHAN.azimuth"⟩,
  ⟨0x24, 0x100, 128, 1, 9, .bool, .ro, 1, 0, .no, false, .any, "GNSS_CHAN.used"⟩]

/-- Rows of spec/11_gnss.md Table 11-8 (part 3). -/
def rowsArea24_3 : List ObjRow := [
  ⟨0x24, 0x100, 128, 1, 10, .u 1, .ro, 1, 0, .no, false, .any, "GNSS_CHAN.auth"⟩]

/-- Every row of area 24. -/
def rowsArea24 : List ObjRow := rowsArea24_1 ++ rowsArea24_2 ++ rowsArea24_3

/-- Rows of spec/12_selection.md Table 12-6 (part 1). -/
def rowsArea28_1 : List ObjRow := [
  ⟨0x28, 0x001, 1, 1, 1, .u 4, .ro, 1, 0, .no, false, .any, "SEL_STATUS.switches"⟩,
  ⟨0x28, 0x001, 1, 1, 2, .u 4, .ro, 1, 0, .no, false, .any, "SEL_STATUS.disqualified"⟩,
  ⟨0x28, 0x001, 1, 1, 3, .u 4, .ro, 1, 0, .no, false, .any, "SEL_STATUS.asym_updates"⟩,
  ⟨0x28, 0x001, 1, 1, 4, .u 4, .ro, 1, 0, .no, false, .any, "SEL_STATUS.mismatches"⟩,
  ⟨0x28, 0x001, 1, 1, 5, .u 2, .w1c, 2, 0, .no, false, .mask 0x3F, "SEL_STATUS.sticky"⟩,
  ⟨0x28, 0x002, 1, 1, 1, .u 1, .rw, 1, 0, .no, false, .any, "SEL_PEEK.row"⟩,
  ⟨0x28, 0x002, 1, 1, 2, .u 1, .rw, 1, 0, .no, false, .any, "SEL_PEEK.col"⟩,
  ⟨0x28, 0x002, 1, 1, 3, .s 8, .ro, 1, 0, .no, false, .any, "SEL_PEEK.phase"⟩,
  ⟨0x28, 0x002, 1, 1, 4, .s 8, .ro, 1, 0, .no, false, .any, "SEL_PEEK.ff"⟩,
  ⟨0x28, 0x002, 1, 1, 5, .u 8, .ro, 1, 0, .no, false, .any, "SEL_PEEK.tick"⟩,
  ⟨0x28, 0x100, 64, 1, 1, .u 1, .rw, 4, 0, .store, false, .rng (0) 31, "SEL_SLOT.home_moon"⟩,
  ⟨0x28, 0x100, 64, 1, 2, .u 1, .rw, 4, 255, .store, false, .any, "SEL_SLOT.rank_override"⟩,
  ⟨0x28, 0x100, 64, 1, 3, .u 1, .rw, 4, 100, .store, false, .rng (0) 254, "SEL_SLOT.rank_limit"⟩,
  ⟨0x28, 0x100, 64, 1, 4, .s 8, .rw, 4, 13107200, .store, false, .rng (655360) 65536000000, "SEL_SLOT.jump_detect"⟩,
  ⟨0x28, 0x100, 64, 1, 5, .s 8, .rw, 4, 16384000, .store, false, .rng (655360) 65536000000, "SEL_SLOT.majority_mask"⟩,
  ⟨0x28, 0x100, 64, 1, 6, .s 8, .rw, 4, 6553600, .store, false, .rng (0) 65536000000, "SEL_SLOT.shadow_mask"⟩,
  ⟨0x28, 0x100, 64, 1, 7, .s 8, .rw, 4, 184467440737, .store, false, .rng (18446744) 18446744073709552, "SEL_SLOT.freq_mask"⟩,
  ⟨0x28, 0x100, 64, 1, 8, .u 4, .rw, 4, 60, .store, false, .rng (1) 3600, "SEL_SLOT.drift_dwell"⟩,
  ⟨0x28, 0x100, 64, 1, 9, .s 8, .rw, 4, 3276800, .store, false, .rng (65536) 65536000, "SEL_SLOT.path_detect"⟩,
  ⟨0x28, 0x100, 64, 1, 10, .u 2, .rw, 4, 16, .store, false, .rng (2) 1024, "SEL_SLOT.path_confirm"⟩,
  ⟨0x28, 0x100, 64, 1, 11, .u 4, .rw, 4, 60, .store, false, .rng (10) 3600, "SEL_SLOT.asym_time"⟩,
  ⟨0x28, 0x100, 64, 1, 12, .s 8, .rw, 4, 0, .store, false, .rng (-65536000) 65536000, "SEL_SLOT.asymmetry"⟩,
  ⟨0x28, 0x100, 64, 1, 13, .u 1, .ro, 4, 0, .store, false, .any, "SEL_SLOT.asym_origin"⟩,
  ⟨0x28, 0x140, 64, 1, 1, .s 8, .rw, 4, 0, .store, false, .any, "SEL_TDEV_MASK.t1"⟩,
  ⟨0x28, 0x140, 64, 1, 2, .s 8, .rw, 4, 0, .store, false, .any, "SEL_TDEV_MASK.t10"⟩,
  ⟨0x28, 0x140, 64, 1, 3, .s 8, .rw, 4, 0, .store, false, .any, "SEL_TDEV_MASK.t100"⟩,
  ⟨0x28, 0x140, 64, 1, 4, .s 8, .rw, 4, 0, .store, false, .any, "SEL_TDEV_MASK.t1000"⟩,
  ⟨0x28, 0x140, 64, 1, 5, .s 8, .rw, 4, 0, .store, false, .any, "SEL_TDEV_MASK.t10000"⟩,
  ⟨0x28, 0x180, 64, 1, 1, .s 8, .rw, 4, 0, .store, false, .any, "SEL_MTIE_MASK.t1"⟩,
  ⟨0x28, 0x180, 64, 1, 2, .s 8, .rw, 4, 0, .store, false, .any, "SEL_MTIE_MASK.t10"⟩,
  ⟨0x28, 0x180, 64, 1, 3, .s 8, .rw, 4, 0, .store, false, .any, "SEL_MTIE_MASK.t100"⟩,
  ⟨0x28, 0x180, 64, 1, 4, .s 8, .rw, 4, 0, .store, false, .any, "SEL_MTIE_MASK.t1000"⟩,
  ⟨0x28, 0x180, 64, 1, 5, .s 8, .rw, 4, 0, .store, false, .any, "SEL_MTIE_MASK.t10000"⟩,
  ⟨0x28, 0x1C0, 64, 1, 1, .u 2, .ro, 1, 0, .no, false, .any, "SEL_SLOT_STATUS.source"⟩,
  ⟨0x28, 0x1C0, 64, 1, 2, .u 1, .ro, 1, 0, .no, false, .any, "SEL_SLOT_STATUS.state"⟩,
  ⟨0x28, 0x1C0, 64, 1, 3, .u 2, .ro, 1, 0, .no, false, .any, "SEL_SLOT_STATUS.causes"⟩,
  ⟨0x28, 0x1C0, 64, 1, 4, .u 2, .w1c, 2, 0, .no, false, .mask 0x7FF, "SEL_SLOT_STATUS.sticky"⟩,
  ⟨0x28, 0x1C0, 64, 1, 5, .u 1, .ro, 1, 0, .no, false, .any, "SEL_SLOT_STATUS.use"⟩,
  ⟨0x28, 0x1C0, 64, 1, 6, .u 1, .ro, 1, 0, .no, false, .any, "SEL_SLOT_STATUS.rank"⟩,
  ⟨0x28, 0x1C0, 64, 1, 7, .u 4, .ro, 1, 0, .no, false, .any, "SEL_SLOT_STATUS.rate_mhz"⟩]

/-- Rows of spec/12_selection.md Table 12-6 (part 2). -/
def rowsArea28_2 : List ObjRow := [
  ⟨0x28, 0x1C0, 64, 1, 8, .u 4, .ro, 1, 0, .no, false, .any, "SEL_SLOT_STATUS.wtr_remaining"⟩,
  ⟨0x28, 0x1C0, 64, 1, 9, .s 8, .ro, 1, 0, .no, false, .any, "SEL_SLOT_STATUS.raw_offset"⟩,
  ⟨0x28, 0x1C0, 64, 1, 10, .s 8, .ro, 1, 0, .no, false, .any, "SEL_SLOT_STATUS.raw_ff"⟩,
  ⟨0x28, 0x1C0, 64, 1, 11, .s 8, .ro, 1, 0, .no, false, .any, "SEL_SLOT_STATUS.majority_dev"⟩,
  ⟨0x28, 0x1C0, 64, 1, 12, .s 8, .ro, 1, 0, .no, false, .any, "SEL_SLOT_STATUS.shadow_dev"⟩,
  ⟨0x28, 0x1C0, 64, 1, 13, .s 8, .ro, 1, 0, .no, false, .any, "SEL_SLOT_STATUS.path_delay"⟩,
  ⟨0x28, 0x1C0, 64, 1, 14, .u 8, .ro, 1, 0, .no, false, .any, "SEL_SLOT_STATUS.last_tick"⟩,
  ⟨0x28, 0x1C0, 64, 1, 15, .u 4, .ro, 1, 0, .no, false, .any, "SEL_SLOT_STATUS.disq_count"⟩,
  ⟨0x28, 0x200, 64, 1, 1, .s 8, .ro, 1, 0, .no, false, .any, "SEL_STAB.tdev1"⟩,
  ⟨0x28, 0x200, 64, 1, 2, .s 8, .ro, 1, 0, .no, false, .any, "SEL_STAB.tdev10"⟩,
  ⟨0x28, 0x200, 64, 1, 3, .s 8, .ro, 1, 0, .no, false, .any, "SEL_STAB.tdev100"⟩,
  ⟨0x28, 0x200, 64, 1, 4, .s 8, .ro, 1, 0, .no, false, .any, "SEL_STAB.tdev1000"⟩,
  ⟨0x28, 0x200, 64, 1, 5, .s 8, .ro, 1, 0, .no, false, .any, "SEL_STAB.tdev10000"⟩,
  ⟨0x28, 0x200, 64, 1, 6, .s 8, .ro, 1, 0, .no, false, .any, "SEL_STAB.mtie1"⟩,
  ⟨0x28, 0x200, 64, 1, 7, .s 8, .ro, 1, 0, .no, false, .any, "SEL_STAB.mtie10"⟩,
  ⟨0x28, 0x200, 64, 1, 8, .s 8, .ro, 1, 0, .no, false, .any, "SEL_STAB.mtie100"⟩,
  ⟨0x28, 0x200, 64, 1, 9, .s 8, .ro, 1, 0, .no, false, .any, "SEL_STAB.mtie1000"⟩,
  ⟨0x28, 0x200, 64, 1, 10, .s 8, .ro, 1, 0, .no, false, .any, "SEL_STAB.mtie10000"⟩,
  ⟨0x28, 0x240, 64, 1, 0, .u 1, .wo, 4, 0, .no, false, .rng (1) 3, "SEL_SLOT_CMD"⟩,
  ⟨0x28, 0x400, 32, 1, 1, .u 1, .rw, 4, 0, .store, false, .rng (0) 1, "SEL_MOON.mode"⟩,
  ⟨0x28, 0x400, 32, 1, 2, .bool, .rw, 4, 1, .store, false, .any, "SEL_MOON.revertive"⟩,
  ⟨0x28, 0x400, 32, 1, 3, .u 4, .rw, 4, 300, .store, false, .rng (0) 3600, "SEL_MOON.wtr"⟩,
  ⟨0x28, 0x400, 32, 1, 4, .u 4, .rw, 4, 10, .store, false, .rng (0) 3600, "SEL_MOON.wtr_alone"⟩,
  ⟨0x28, 0x400, 32, 1, 5, .u 4, .rw, 4, 0, .store, false, .rng (0) 10000, "SEL_MOON.hold_off_ms"⟩,
  ⟨0x28, 0x400, 32, 1, 6, .u 4, .rw, 4, 14400, .store, false, .rng (1600) 86400, "SEL_MOON.lookback"⟩,
  ⟨0x28, 0x400, 32, 1, 7, .u 1, .rw, 4, 255, .store, false, .own, "SEL_MOON.force"⟩,
  ⟨0x28, 0x400, 32, 1, 8, .bool, .rw, 4, 0, .store, false, .any, "SEL_MOON.step_on_jump"⟩,
  ⟨0x28, 0x400, 32, 1, 9, .u 1, .rw, 4, 0, .store, false, .rng (0) 1, "SEL_MOON.acquire"⟩,
  ⟨0x28, 0x420, 32, 1, 0, .blob 64, .rw, 4, 0, .store, false, .any, "SEL_PRIO"⟩,
  ⟨0x28, 0x440, 32, 1, 1, .u 1, .ro, 1, 255, .no, false, .any, "SEL_MOON_STATUS.selected"⟩,
  ⟨0x28, 0x440, 32, 1, 2, .u 1, .ro, 1, 255, .no, false, .any, "SEL_MOON_STATUS.previous"⟩,
  ⟨0x28, 0x440, 32, 1, 3, .u 1, .ro, 1, 0, .no, false, .any, "SEL_MOON_STATUS.use"⟩,
  ⟨0x28, 0x440, 32, 1, 4, .u 1, .ro, 1, 0, .no, false, .any, "SEL_MOON_STATUS.reason"⟩,
  ⟨0x28, 0x440, 32, 1, 5, .u 8, .ro, 1, 0, .no, false, .any, "SEL_MOON_STATUS.last_switch_boundary"⟩,
  ⟨0x28, 0x440, 32, 1, 6, .u 4, .ro, 1, 0, .no, false, .any, "SEL_MOON_STATUS.switches"⟩,
  ⟨0x28, 0x440, 32, 1, 7, .bool, .ro, 1, 0, .no, false, .any, "SEL_MOON_STATUS.shadow_valid"⟩,
  ⟨0x28, 0x440, 32, 1, 8, .s 8, .ro, 1, 0, .no, false, .any, "SEL_MOON_STATUS.shadow_dev"⟩,
  ⟨0x28, 0x440, 32, 1, 9, .s 8, .ro, 1, 0, .no, false, .any, "SEL_MOON_STATUS.shadow_bound"⟩,
  ⟨0x28, 0x440, 32, 1, 10, .blob 8, .ro, 1, 0, .no, false, .any, "SEL_MOON_STATUS.eligible"⟩,
  ⟨0x28, 0x440, 32, 1, 11, .u 4, .ro, 1, 0, .no, false, .any, "SEL_MOON_STATUS.hold_off_left"⟩]

/-- Rows of spec/12_selection.md Table 12-6 (part 3). -/
def rowsArea28_3 : List ObjRow := [
  ⟨0x28, 0x440, 32, 1, 12, .u 1, .ro, 1, 0, .no, false, .any, "SEL_MOON_STATUS.force_state"⟩]

/-- Every row of area 28. -/
def rowsArea28 : List ObjRow := rowsArea28_1 ++ rowsArea28_2 ++ rowsArea28_3

/-- Rows of spec/13_steering_holdover.md Table 13-5 (part 1). -/
def rowsArea2C_1 : List ObjRow := [
  ⟨0x2C, 0x001, 1, 1, 1, .u 1, .rw, 4, 1, .store, false, .rng (0) 17, "STEER_OSC.temp_source"⟩,
  ⟨0x2C, 0x001, 1, 1, 2, .s 2, .rw, 4, 6400, .store, false, .rng (-5120) 16000, "STEER_OSC.t0"⟩,
  ⟨0x2C, 0x001, 1, 1, 3, .u 4, .rw, 4, 10000, .store, false, .rng (1000) 1000000, "STEER_OSC.therm_nominal"⟩,
  ⟨0x2C, 0x001, 1, 1, 4, .u 2, .rw, 4, 3950, .store, false, .rng (1000) 10000, "STEER_OSC.therm_beta"⟩,
  ⟨0x2C, 0x001, 1, 1, 5, .u 4, .rw, 4, 604800, .store, false, .rng (86400) 31536000, "STEER_OSC.fit_tau"⟩,
  ⟨0x2C, 0x001, 1, 1, 6, .u 4, .rw, 4, 3600, .store, false, .rng (600) 86400, "STEER_OSC.fit_min"⟩,
  ⟨0x2C, 0x001, 1, 1, 7, .s 8, .rw, 4, 18446744074, .store, false, .rng (18446744) 18446744073710, "STEER_OSC.seed_uncert"⟩,
  ⟨0x2C, 0x001, 1, 1, 8, .s 8, .rw, 4, 36893488147, .store, false, .rng (184467441) 18446744073710, "STEER_OSC.model_limit"⟩,
  ⟨0x2C, 0x001, 1, 1, 9, .wt, .rw, 4, 0, .store, false, .any, "STEER_OSC.age_epoch"⟩,
  ⟨0x2C, 0x001, 1, 1, 10, .u 1, .wo, 4, 0, .store, false, .rng (1) 1, "STEER_OSC.command"⟩,
  ⟨0x2C, 0x002, 1, 1, 1, .s 8, .ro, 1, 0, .no, false, .any, "STEER_MODEL.f0"⟩,
  ⟨0x2C, 0x002, 1, 1, 2, .s 8, .ro, 1, 0, .no, false, .any, "STEER_MODEL.t1"⟩,
  ⟨0x2C, 0x002, 1, 1, 3, .s 8, .ro, 1, 0, .no, false, .any, "STEER_MODEL.t2"⟩,
  ⟨0x2C, 0x002, 1, 1, 4, .s 8, .ro, 1, 0, .no, false, .any, "STEER_MODEL.tr"⟩,
  ⟨0x2C, 0x002, 1, 1, 5, .s 8, .ro, 1, 0, .no, false, .any, "STEER_MODEL.age_log"⟩,
  ⟨0x2C, 0x002, 1, 1, 6, .s 8, .ro, 1, 0, .no, false, .any, "STEER_MODEL.age_lin"⟩,
  ⟨0x2C, 0x002, 1, 1, 7, .s 8, .ro, 1, 0, .no, false, .any, "STEER_MODEL.y_pred"⟩,
  ⟨0x2C, 0x002, 1, 1, 8, .s 8, .ro, 1, 0, .no, false, .any, "STEER_MODEL.u_y"⟩,
  ⟨0x2C, 0x002, 1, 1, 9, .s 8, .ro, 1, 0, .no, false, .any, "STEER_MODEL.u_a"⟩,
  ⟨0x2C, 0x002, 1, 1, 10, .s 8, .ro, 1, 0, .no, false, .any, "STEER_MODEL.u_t"⟩,
  ⟨0x2C, 0x002, 1, 1, 11, .s 8, .ro, 1, 0, .no, false, .any, "STEER_MODEL.residual_rms"⟩,
  ⟨0x2C, 0x002, 1, 1, 12, .u 4, .ro, 1, 0, .no, false, .any, "STEER_MODEL.observations"⟩,
  ⟨0x2C, 0x002, 1, 1, 13, .bool, .ro, 1, 0, .no, false, .any, "STEER_MODEL.valid"⟩,
  ⟨0x2C, 0x002, 1, 1, 14, .s 2, .ro, 1, 0, .no, false, .any, "STEER_MODEL.temperature"⟩,
  ⟨0x2C, 0x002, 1, 1, 15, .s 4, .ro, 1, 0, .no, false, .any, "STEER_MODEL.temp_rate"⟩,
  ⟨0x2C, 0x003, 1, 1, 0, .u 2, .w1c, 2, 0, .no, false, .mask 0x1F, "STEER_GLOBAL.sticky"⟩,
  ⟨0x2C, 0x010, 17, 1, 0, .s 2, .ro, 1, 0, .no, false, .any, "STEER_TEMP"⟩,
  ⟨0x2C, 0x100, 32, 1, 1, .u 1, .rw, 4, 0, .store, false, .rng (0) 1, "STEER_MOON.mode"⟩,
  ⟨0x2C, 0x100, 32, 1, 2, .u 1, .rw, 4, 3, .store, false, .rng (0) 20, "STEER_MOON.bandwidth"⟩,
  ⟨0x2C, 0x100, 32, 1, 3, .u 1, .rw, 4, 0, .store, false, .rng (0) 3, "STEER_MOON.damping"⟩,
  ⟨0x2C, 0x100, 32, 1, 4, .s 8, .rw, 4, 6553600, .store, false, .rng (65536) 65536000, "STEER_MOON.lock_phase"⟩,
  ⟨0x2C, 0x100, 32, 1, 5, .s 8, .rw, 4, 18446744074, .store, false, .rng (18446744) 18446744073710, "STEER_MOON.lock_ff"⟩,
  ⟨0x2C, 0x100, 32, 1, 6, .u 4, .rw, 4, 60, .store, false, .rng (1) 3600, "STEER_MOON.lock_dwell"⟩,
  ⟨0x2C, 0x100, 32, 1, 7, .s 8, .rw, 4, 65536000, .store, false, .rng (65536) 65536000000, "STEER_MOON.unlock_phase"⟩,
  ⟨0x2C, 0x100, 32, 1, 8, .u 4, .rw, 4, 10, .store, false, .rng (1) 3600, "STEER_MOON.unlock_dwell"⟩,
  ⟨0x2C, 0x100, 32, 1, 9, .s 8, .rw, 4, 98304000, .store, false, .rng (655360) 65536000000000, "STEER_MOON.holdover_budget"⟩,
  ⟨0x2C, 0x140, 32, 1, 1, .u 1, .ro, 1, 0, .no, false, .any, "STEER_STATUS.state"⟩,
  ⟨0x2C, 0x140, 32, 1, 2, .u 1, .ro, 1, 0, .no, false, .any, "STEER_STATUS.bw_eff"⟩,
  ⟨0x2C, 0x140, 32, 1, 3, .s 8, .ro, 1, 0, .no, false, .any, "STEER_STATUS.phase_error"⟩,
  ⟨0x2C, 0x140, 32, 1, 4, .s 8, .ro, 1, 0, .no, false, .any, "STEER_STATUS.freq"⟩]

/-- Rows of spec/13_steering_holdover.md Table 13-5 (part 2). -/
def rowsArea2C_2 : List ObjRow := [
  ⟨0x2C, 0x140, 32, 1, 5, .s 8, .ro, 1, 0, .no, false, .any, "STEER_STATUS.error_bound"⟩,
  ⟨0x2C, 0x140, 32, 1, 6, .u 4, .ro, 1, 0, .no, false, .any, "STEER_STATUS.holdover_s"⟩,
  ⟨0x2C, 0x140, 32, 1, 7, .u 8, .ro, 1, 0, .no, false, .any, "STEER_STATUS.last_change_boundary"⟩,
  ⟨0x2C, 0x140, 32, 1, 8, .u 2, .ro, 1, 0, .no, false, .any, "STEER_STATUS.flags"⟩,
  ⟨0x2C, 0x140, 32, 1, 9, .u 2, .w1c, 2, 0, .no, false, .mask 0x3F, "STEER_STATUS.sticky"⟩,
  ⟨0x2C, 0x140, 32, 1, 10, .u 4, .ro, 1, 0, .no, false, .any, "STEER_STATUS.changes"⟩,
  ⟨0x2C, 0x140, 32, 1, 11, .s 8, .ro, 1, 0, .no, false, .any, "STEER_STATUS.open_drift"⟩,
  ⟨0x2C, 0x180, 32, 1, 0, .u 1, .wo, 4, 0, .no, false, .rng (1) 1, "STEER_CMD"⟩,
  ⟨0x2C, 0x200, 64, 1, 1, .s 8, .rw, 4, 3276800, .store, false, .any, "STEER_SLOT.ref_uncert"⟩,
  ⟨0x2C, 0x200, 64, 1, 2, .s 8, .rw, 4, 184467441, .store, false, .any, "STEER_SLOT.freq_uncert"⟩]

/-- Every row of area 2C. -/
def rowsArea2C : List ObjRow := rowsArea2C_1 ++ rowsArea2C_2

/-- Rows of spec/04_ethernet_ports.md Table 4-6 (part 1). -/
def rowsArea30_1 : List ObjRow := [
  ⟨0x30, 0x001, 1, 1, 1, .u 2, .rw, 2, 34984, .store, false, .any, "PORT_GLOBAL.tpid_s"⟩,
  ⟨0x30, 0x001, 1, 1, 2, .u 2, .rw, 2, 37120, .store, false, .any, "PORT_GLOBAL.tpid_extra"⟩,
  ⟨0x30, 0x001, 1, 1, 3, .u 1, .rw, 4, 1, .store, false, .rng (1) 2, "PORT_GLOBAL.esmc_option"⟩,
  ⟨0x30, 0x001, 1, 1, 4, .u 1, .rw, 4, 2, .store, false, .own, "PORT_GLOBAL.ql_locked"⟩,
  ⟨0x30, 0x001, 1, 1, 5, .u 1, .rw, 4, 4, .store, false, .own, "PORT_GLOBAL.ql_holdover"⟩,
  ⟨0x30, 0x002, 1, 1, 1, .bool, .wo, 2, 0, .no, false, .any, "RULE_COMMIT.commit"⟩,
  ⟨0x30, 0x002, 1, 1, 2, .u 1, .ro, 1, 0, .no, false, .any, "RULE_COMMIT.active_bank"⟩,
  ⟨0x30, 0x002, 1, 1, 3, .u 8, .ro, 1, 0, .no, false, .any, "RULE_COMMIT.commit_tick"⟩,
  ⟨0x30, 0x002, 1, 1, 4, .u 4, .ro, 1, 0, .no, false, .any, "RULE_COMMIT.commit_count"⟩,
  ⟨0x30, 0x002, 1, 1, 5, .u 2, .ro, 1, 65535, .no, false, .any, "RULE_COMMIT.bad_rule"⟩,
  ⟨0x30, 0x010, 8, 1, 0, .u 1, .rw, 2, 1, .store, false, .rng (0) 4, "LANE_GROUP.mode"⟩,
  ⟨0x30, 0x100, 32, 16, 1, .bool, .rw, 2, 1, .store, false, .any, "PORT_CONFIG.enable"⟩,
  ⟨0x30, 0x100, 32, 16, 2, .u 2, .rw, 2, 1522, .store, false, .rng (1518) 9216, "PORT_CONFIG.max_frame"⟩,
  ⟨0x30, 0x100, 32, 16, 3, .u 1, .rw, 2, 0, .store, false, .rng (0) 2, "PORT_CONFIG.flow_mode"⟩,
  ⟨0x30, 0x100, 32, 16, 4, .u 1, .rw, 2, 0, .store, false, .any, "PORT_CONFIG.pfc_rx_mask"⟩,
  ⟨0x30, 0x100, 32, 16, 5, .bool, .rw, 2, 0, .store, false, .any, "PORT_CONFIG.pause_tx"⟩,
  ⟨0x30, 0x100, 32, 16, 6, .u 1, .rw, 2, 0, .store, false, .any, "PORT_CONFIG.pfc_tx_mask"⟩,
  ⟨0x30, 0x100, 32, 16, 7, .u 1, .rw, 2, 0, .store, false, .rng (0) 7, "PORT_CONFIG.untagged_priority"⟩,
  ⟨0x30, 0x100, 32, 16, 8, .bool, .rw, 2, 0, .store, false, .any, "PORT_CONFIG.strip_outer"⟩,
  ⟨0x30, 0x100, 32, 16, 9, .u 1, .rw, 2, 0, .store, false, .oneOf [0, 3], "PORT_CONFIG.default_action"⟩,
  ⟨0x30, 0x100, 32, 16, 10, .u 1, .rw, 2, 0, .store, false, .rng (0) 127, "PORT_CONFIG.default_ring"⟩,
  ⟨0x30, 0x100, 32, 16, 11, .blob 6, .rw, 2, (-1), .store, false, .any, "PORT_CONFIG.mac"⟩,
  ⟨0x30, 0x100, 32, 16, 12, .bool, .rw, 2, 0, .store, false, .any, "PORT_CONFIG.fcs_err_to_host"⟩,
  ⟨0x30, 0x100, 32, 16, 13, .u 1, .rw, 4, 0, .store, false, .own, "PORT_CONFIG.synce_lane"⟩,
  ⟨0x30, 0x100, 32, 16, 14, .bool, .rw, 4, 0, .store, false, .any, "PORT_CONFIG.esmc_enable"⟩,
  ⟨0x30, 0x101, 32, 16, 1, .bool, .ro, 1, 0, .no, false, .any, "PORT_STATUS.link"⟩,
  ⟨0x30, 0x101, 32, 16, 2, .u 1, .ro, 1, 0, .no, false, .any, "PORT_STATUS.lanes"⟩,
  ⟨0x30, 0x101, 32, 16, 3, .u 2, .ro, 1, 0, .no, false, .any, "PORT_STATUS.rate_gbps"⟩,
  ⟨0x30, 0x101, 32, 16, 4, .bool, .ro, 1, 0, .no, false, .any, "PORT_STATUS.ts_valid"⟩,
  ⟨0x30, 0x101, 32, 16, 5, .u 4, .ro, 1, 0, .no, false, .any, "PORT_STATUS.link_changes"⟩,
  ⟨0x30, 0x101, 32, 16, 6, .u 8, .ro, 1, 0, .no, false, .any, "PORT_STATUS.last_change_tick"⟩,
  ⟨0x30, 0x101, 32, 16, 7, .u 2, .w1c, 2, 0, .no, false, .mask 0x7F, "PORT_STATUS.sticky"⟩,
  ⟨0x30, 0x102, 32, 16, 1, .u 1, .ro, 1, 15, .no, false, .any, "PORT_ESMC.ql_rx"⟩,
  ⟨0x30, 0x102, 32, 16, 2, .bool, .ro, 1, 0, .no, false, .any, "PORT_ESMC.ql_rx_valid"⟩,
  ⟨0x30, 0x102, 32, 16, 3, .u 1, .ro, 1, 15, .no, false, .any, "PORT_ESMC.ql_tx"⟩,
  ⟨0x30, 0x102, 32, 16, 4, .u 1, .rw, 4, 255, .store, false, .own, "PORT_ESMC.ql_tx_override"⟩,
  ⟨0x30, 0x400, 256, 1, 1, .bool, .rw, 2, 0, .store, false, .any, "SVC4.enable"⟩,
  ⟨0x30, 0x400, 256, 1, 2, .u 4, .rw, 2, 0, .store, false, .any, "SVC4.address"⟩,
  ⟨0x30, 0x400, 256, 1, 3, .u 2, .rw, 2, 65535, .store, false, .own, "SVC4.vid"⟩,
  ⟨0x30, 0x400, 256, 1, 4, .u 4, .rw, 2, 0, .store, false, .any, "SVC4.port_mask"⟩]

/-- Rows of spec/04_ethernet_ports.md Table 4-6 (part 2). -/
def rowsArea30_2 : List ObjRow := [
  ⟨0x30, 0x400, 256, 1, 5, .blob 6, .rw, 2, 0, .store, false, .any, "SVC4.mac"⟩,
  ⟨0x30, 0x400, 256, 1, 6, .bool, .rw, 2, 0, .store, false, .any, "SVC4.neighbour"⟩,
  ⟨0x30, 0x500, 256, 1, 1, .bool, .rw, 2, 0, .store, false, .any, "SVC6.enable"⟩,
  ⟨0x30, 0x500, 256, 1, 2, .blob 16, .rw, 2, 0, .store, false, .any, "SVC6.address"⟩,
  ⟨0x30, 0x500, 256, 1, 3, .u 2, .rw, 2, 65535, .store, false, .own, "SVC6.vid"⟩,
  ⟨0x30, 0x500, 256, 1, 4, .u 4, .rw, 2, 0, .store, false, .any, "SVC6.port_mask"⟩,
  ⟨0x30, 0x500, 256, 1, 5, .blob 6, .rw, 2, 0, .store, false, .any, "SVC6.mac"⟩,
  ⟨0x30, 0x500, 256, 1, 6, .bool, .rw, 2, 0, .store, false, .any, "SVC6.neighbour"⟩,
  ⟨0x30, 0x800, 1024, 1, 1, .bool, .ro, 1, 0, .store, false, .any, "RULE_ACTIVE.valid"⟩,
  ⟨0x30, 0x800, 1024, 1, 2, .u 4, .ro, 1, 0, .store, false, .any, "RULE_ACTIVE.port_mask"⟩,
  ⟨0x30, 0x800, 1024, 1, 3, .u 4, .ro, 1, 0, .store, false, .any, "RULE_ACTIVE.vlan"⟩,
  ⟨0x30, 0x800, 1024, 1, 4, .u 2, .ro, 1, 0, .store, false, .any, "RULE_ACTIVE.ethertype"⟩,
  ⟨0x30, 0x800, 1024, 1, 5, .u 1, .ro, 1, 0, .store, false, .any, "RULE_ACTIVE.l3"⟩,
  ⟨0x30, 0x800, 1024, 1, 6, .u 2, .ro, 1, 0, .store, false, .any, "RULE_ACTIVE.dst"⟩,
  ⟨0x30, 0x800, 1024, 1, 7, .u 1, .ro, 1, 0, .store, false, .any, "RULE_ACTIVE.ip_proto"⟩,
  ⟨0x30, 0x800, 1024, 1, 8, .u 2, .ro, 1, 0, .store, false, .any, "RULE_ACTIVE.dport_lo"⟩,
  ⟨0x30, 0x800, 1024, 1, 9, .u 2, .ro, 1, 0, .store, false, .any, "RULE_ACTIVE.dport_hi"⟩,
  ⟨0x30, 0x800, 1024, 1, 10, .u 1, .ro, 1, 0, .store, false, .any, "RULE_ACTIVE.action"⟩,
  ⟨0x30, 0x800, 1024, 1, 11, .u 2, .ro, 1, 0, .store, false, .any, "RULE_ACTIVE.arg"⟩,
  ⟨0x30, 0x800, 1024, 1, 12, .u 2, .ro, 1, 0, .store, false, .any, "RULE_ACTIVE.mirror"⟩,
  ⟨0x30, 0xC00, 1024, 1, 1, .bool, .rw, 2, 0, .no, false, .any, "RULE_EDIT.valid"⟩,
  ⟨0x30, 0xC00, 1024, 1, 2, .u 4, .rw, 2, 0, .no, false, .any, "RULE_EDIT.port_mask"⟩,
  ⟨0x30, 0xC00, 1024, 1, 3, .u 4, .rw, 2, 0, .no, false, .mask 0x3FFF3FFF, "RULE_EDIT.vlan"⟩,
  ⟨0x30, 0xC00, 1024, 1, 4, .u 2, .rw, 2, 0, .no, false, .any, "RULE_EDIT.ethertype"⟩,
  ⟨0x30, 0xC00, 1024, 1, 5, .u 1, .rw, 2, 0, .no, false, .any, "RULE_EDIT.l3"⟩,
  ⟨0x30, 0xC00, 1024, 1, 6, .u 2, .rw, 2, 0, .no, false, .any, "RULE_EDIT.dst"⟩,
  ⟨0x30, 0xC00, 1024, 1, 7, .u 1, .rw, 2, 0, .no, false, .any, "RULE_EDIT.ip_proto"⟩,
  ⟨0x30, 0xC00, 1024, 1, 8, .u 2, .rw, 2, 0, .no, false, .any, "RULE_EDIT.dport_lo"⟩,
  ⟨0x30, 0xC00, 1024, 1, 9, .u 2, .rw, 2, 0, .no, false, .any, "RULE_EDIT.dport_hi"⟩,
  ⟨0x30, 0xC00, 1024, 1, 10, .u 1, .rw, 2, 0, .no, false, .any, "RULE_EDIT.action"⟩,
  ⟨0x30, 0xC00, 1024, 1, 11, .u 2, .rw, 2, 0, .no, false, .any, "RULE_EDIT.arg"⟩,
  ⟨0x30, 0xC00, 1024, 1, 12, .u 2, .rw, 2, 0, .no, false, .mask 0xFF1F, "RULE_EDIT.mirror"⟩]

/-- Every row of area 30. -/
def rowsArea30 : List ObjRow := rowsArea30_1 ++ rowsArea30_2

/-- Rows of spec/05_wire_timestamps.md Table 5-5 (part 1). -/
def rowsArea38_1 : List ObjRow := [
  ⟨0x38, 0x001, 1, 1, 1, .s 8, .rw, 4, 1966, .store, false, .rng (655) 65536, "TS_GLOBAL.echo_limit_fast"⟩,
  ⟨0x38, 0x001, 1, 1, 2, .s 8, .rw, 4, 3932, .store, false, .rng (655) 65536, "TS_GLOBAL.echo_limit_slow"⟩,
  ⟨0x38, 0x001, 1, 1, 3, .s 8, .rw, 4, 3277, .store, false, .rng (655) 65536, "TS_GLOBAL.closure_limit"⟩,
  ⟨0x38, 0x001, 1, 1, 4, .u 2, .rw, 4, 8, .store, false, .rng (1) 1024, "TS_GLOBAL.echo_fault_count"⟩,
  ⟨0x38, 0x002, 1, 1, 1, .u 4, .wo, 2, 0, .no, false, .own, "CAL_CTRL.open"⟩,
  ⟨0x38, 0x002, 1, 1, 2, .u 4, .wo, 2, 0, .no, false, .own, "CAL_CTRL.close"⟩,
  ⟨0x38, 0x002, 1, 1, 3, .u 4, .ro, 1, 0, .no, false, .any, "CAL_CTRL.open_mask"⟩,
  ⟨0x38, 0x003, 1, 1, 1, .u 1, .ro, 1, 0, .no, false, .any, "CAL_STORE.copies_valid"⟩,
  ⟨0x38, 0x003, 1, 1, 2, .u 4, .ro, 1, 0, .no, false, .any, "CAL_STORE.writes"⟩,
  ⟨0x38, 0x003, 1, 1, 3, .u 8, .ro, 1, 0, .no, false, .any, "CAL_STORE.last_write_tick"⟩,
  ⟨0x38, 0x100, 32, 1, 1, .s 8, .rw, 4, 0, .cal, false, .rng (0) 6553600, "LANE_CAL.rx_offset"⟩,
  ⟨0x38, 0x100, 32, 1, 2, .u 1, .ro, 1, 0, .cal, false, .any, "LANE_CAL.rx_origin"⟩,
  ⟨0x38, 0x100, 32, 1, 3, .s 8, .rw, 4, 0, .cal, false, .rng (0) 6553600, "LANE_CAL.tx_offset"⟩,
  ⟨0x38, 0x100, 32, 1, 4, .u 1, .ro, 1, 0, .cal, false, .any, "LANE_CAL.tx_origin"⟩,
  ⟨0x38, 0x140, 32, 1, 0, .u 1, .rw, 2, 0, .store, false, .rng (0) 2, "LANE_IF"⟩,
  ⟨0x38, 0x180, 32, 1, 1, .s 8, .ro, 1, 0, .no, false, .any, "LANE_LIVE.ana_rx"⟩,
  ⟨0x38, 0x180, 32, 1, 2, .s 8, .ro, 1, 0, .no, false, .any, "LANE_LIVE.ser_rx"⟩,
  ⟨0x38, 0x180, 32, 1, 3, .s 8, .ro, 1, 0, .no, false, .any, "LANE_LIVE.res_rx"⟩,
  ⟨0x38, 0x180, 32, 1, 4, .s 8, .ro, 1, 0, .no, false, .any, "LANE_LIVE.drv_tx"⟩,
  ⟨0x38, 0x180, 32, 1, 5, .s 8, .ro, 1, 0, .no, false, .any, "LANE_LIVE.ser_tx"⟩,
  ⟨0x38, 0x180, 32, 1, 6, .s 8, .ro, 1, 0, .no, false, .any, "LANE_LIVE.res_tx"⟩,
  ⟨0x38, 0x180, 32, 1, 7, .u 1, .ro, 1, 0, .no, false, .any, "LANE_LIVE.ctle_code"⟩,
  ⟨0x38, 0x180, 32, 1, 8, .u 1, .ro, 1, 0, .no, false, .any, "LANE_LIVE.ffe_main"⟩,
  ⟨0x38, 0x180, 32, 1, 9, .u 4, .ro, 1, 0, .no, false, .any, "LANE_LIVE.markers"⟩,
  ⟨0x38, 0x180, 32, 1, 10, .u 8, .ro, 1, 0, .no, false, .any, "LANE_LIVE.boundary"⟩,
  ⟨0x38, 0x180, 32, 1, 11, .u 4, .ro, 1, 0, .no, false, .any, "LANE_LIVE.eq_steps"⟩,
  ⟨0x38, 0x1C0, 32, 1, 1, .bool, .ro, 1, 0, .no, false, .any, "CAL_MEAS.open"⟩,
  ⟨0x38, 0x1C0, 32, 1, 2, .u 4, .ro, 1, 0, .no, false, .any, "CAL_MEAS.count"⟩,
  ⟨0x38, 0x1C0, 32, 1, 3, .u 4, .ro, 1, 0, .no, false, .any, "CAL_MEAS.unmatched"⟩,
  ⟨0x38, 0x1C0, 32, 1, 4, .s 8, .ro, 1, 0, .no, false, .any, "CAL_MEAS.rtt_min"⟩,
  ⟨0x38, 0x1C0, 32, 1, 5, .s 8, .ro, 1, 0, .no, false, .any, "CAL_MEAS.rtt_mean"⟩,
  ⟨0x38, 0x1C0, 32, 1, 6, .s 8, .ro, 1, 0, .no, false, .any, "CAL_MEAS.rtt_max"⟩,
  ⟨0x38, 0x1C0, 32, 1, 7, .u 8, .ro, 1, 0, .no, false, .any, "CAL_MEAS.open_tick"⟩,
  ⟨0x38, 0x1C0, 32, 1, 8, .u 8, .ro, 1, 0, .no, false, .any, "CAL_MEAS.close_tick"⟩,
  ⟨0x38, 0x200, 8, 1, 1, .s 8, .rw, 4, 0, .cal, false, .rng (-65536000) 65536000, "REFIN_CAL.delay"⟩,
  ⟨0x38, 0x200, 8, 1, 2, .u 1, .ro, 1, 0, .cal, false, .any, "REFIN_CAL.origin"⟩,
  ⟨0x38, 0x210, 4, 1, 1, .s 8, .rw, 4, 0, .cal, false, .rng (0) 65536000, "GNSS_CAL.antenna"⟩,
  ⟨0x38, 0x210, 4, 1, 2, .u 1, .ro, 1, 0, .cal, false, .any, "GNSS_CAL.antenna_origin"⟩,
  ⟨0x38, 0x210, 4, 1, 3, .s 8, .rw, 4, 0, .cal, false, .rng (0) 1310720000, "GNSS_CAL.cable"⟩,
  ⟨0x38, 0x210, 4, 1, 4, .u 1, .ro, 1, 0, .cal, false, .any, "GNSS_CAL.cable_origin"⟩]

/-- Rows of spec/05_wire_timestamps.md Table 5-5 (part 2). -/
def rowsArea38_2 : List ObjRow := [
  ⟨0x38, 0x220, 1, 1, 1, .s 8, .rw, 4, 0, .cal, false, .rng (-9223372036854775) 9223372036854775, "OSC_SEED.f0"⟩,
  ⟨0x38, 0x220, 1, 1, 2, .s 8, .rw, 4, 0, .cal, false, .any, "OSC_SEED.t1"⟩,
  ⟨0x38, 0x220, 1, 1, 3, .s 8, .rw, 4, 0, .cal, false, .any, "OSC_SEED.t2"⟩,
  ⟨0x38, 0x220, 1, 1, 4, .s 8, .rw, 4, 0, .cal, false, .any, "OSC_SEED.tr"⟩,
  ⟨0x38, 0x220, 1, 1, 5, .s 8, .rw, 4, 0, .cal, false, .any, "OSC_SEED.age_log"⟩,
  ⟨0x38, 0x220, 1, 1, 6, .s 8, .rw, 4, 0, .cal, false, .any, "OSC_SEED.age_lin"⟩,
  ⟨0x38, 0x220, 1, 1, 7, .u 1, .ro, 1, 0, .cal, false, .any, "OSC_SEED.origin"⟩,
  ⟨0x38, 0x400, 32, 1, 1, .u 4, .ro, 1, 0, .no, false, .any, "TS_PORT.echo_count"⟩,
  ⟨0x38, 0x400, 32, 1, 2, .u 4, .ro, 1, 0, .no, false, .any, "TS_PORT.echo_err"⟩,
  ⟨0x38, 0x400, 32, 1, 3, .s 8, .ro, 1, 0, .no, false, .any, "TS_PORT.echo_last"⟩,
  ⟨0x38, 0x400, 32, 1, 4, .s 8, .ro, 1, 0, .no, false, .any, "TS_PORT.echo_worst"⟩,
  ⟨0x38, 0x400, 32, 1, 5, .u 4, .ro, 1, 0, .no, false, .any, "TS_PORT.closure_err"⟩,
  ⟨0x38, 0x400, 32, 1, 6, .u 4, .ro, 1, 0, .no, false, .any, "TS_PORT.faults"⟩,
  ⟨0x38, 0x400, 32, 1, 7, .u 2, .w1c, 2, 0, .no, false, .mask 0x3F, "TS_PORT.sticky"⟩,
  ⟨0x38, 0x400, 32, 1, 8, .u 8, .ro, 1, 0, .no, false, .any, "TS_PORT.valid_boundary"⟩]

/-- Every row of area 38. -/
def rowsArea38 : List ObjRow := rowsArea38_1 ++ rowsArea38_2

/-- Rows of spec/06_answer_engine.md Table 6-10 (part 1). -/
def rowsArea40_1 : List ObjRow := [
  ⟨0x40, 0x001, 1, 1, 1, .u 4, .rw, 2, 1000, .store, false, .rng (100) 60000, "ANS_GLOBAL.kod_interval_ms"⟩,
  ⟨0x40, 0x001, 1, 1, 2, .bool, .wo, 2, 0, .no, false, .any, "ANS_GLOBAL.rekey"⟩,
  ⟨0x40, 0x002, 1, 1, 1, .u 8, .ro, 1, 0, .no, false, .any, "ANS_STATUS.dispatch_full"⟩,
  ⟨0x40, 0x002, 1, 1, 2, .u 8, .ro, 1, 0, .no, false, .any, "ANS_STATUS.answered"⟩,
  ⟨0x40, 0x002, 1, 1, 3, .u 8, .ro, 1, 0, .no, false, .any, "ANS_STATUS.kod"⟩,
  ⟨0x40, 0x002, 1, 1, 4, .u 8, .ro, 1, 0, .no, false, .any, "ANS_STATUS.dropped"⟩,
  ⟨0x40, 0x002, 1, 1, 5, .u 8, .ro, 1, 0, .no, false, .any, "ANS_STATUS.punted"⟩,
  ⟨0x40, 0x002, 1, 1, 6, .u 2, .ro, 1, 65535, .no, false, .any, "ANS_STATUS.pipes_in_service"⟩,
  ⟨0x40, 0x002, 1, 1, 7, .u 4, .ro, 1, 0, .no, false, .any, "ANS_STATUS.bucket_collisions"⟩,
  ⟨0x40, 0x002, 1, 1, 8, .u 4, .ro, 1, 0, .no, false, .any, "ANS_STATUS.rekeys"⟩,
  ⟨0x40, 0x002, 1, 1, 9, .u 2, .w1c, 2, 0, .no, false, .mask 0x7F, "ANS_STATUS.sticky"⟩,
  ⟨0x40, 0x003, 1, 1, 1, .u 1, .rw, 1, 4, .no, false, .oneOf [4, 6], "ANS_PEEK.version"⟩,
  ⟨0x40, 0x003, 1, 1, 2, .blob 16, .rw, 1, 0, .no, false, .any, "ANS_PEEK.address"⟩,
  ⟨0x40, 0x003, 1, 1, 3, .u 1, .rw, 1, 0, .no, false, .rng (0) 15, "ANS_PEEK.profile"⟩,
  ⟨0x40, 0x003, 1, 1, 4, .u 4, .ro, 1, 0, .no, false, .any, "ANS_PEEK.index"⟩,
  ⟨0x40, 0x003, 1, 1, 5, .u 8, .ro, 1, 0, .no, false, .any, "ANS_PEEK.bucket"⟩,
  ⟨0x40, 0x040, 16, 1, 1, .u 4, .rw, 2, 16, .store, false, .rng (1) 1000000, "ANS_RATE.rate"⟩,
  ⟨0x40, 0x040, 16, 1, 2, .u 2, .rw, 2, 32, .store, false, .rng (1) 4095, "ANS_RATE.burst"⟩,
  ⟨0x40, 0x040, 16, 1, 3, .u 1, .rw, 2, 32, .store, false, .rng (8) 32, "ANS_RATE.prefix4"⟩,
  ⟨0x40, 0x040, 16, 1, 4, .u 1, .rw, 2, 64, .store, false, .rng (32) 128, "ANS_RATE.prefix6"⟩,
  ⟨0x40, 0x040, 16, 1, 5, .u 1, .rw, 2, 1, .store, false, .rng (0) 1, "ANS_RATE.over_action"⟩,
  ⟨0x40, 0x040, 16, 1, 6, .u 1, .rw, 2, 10, .store, false, .rng (0) 17, "ANS_RATE.kod_poll"⟩,
  ⟨0x40, 0x060, 32, 1, 0, .wt, .ro, 1, 0, .no, false, .any, "ANS_REFTS"⟩,
  ⟨0x40, 0x100, 256, 1, 1, .bool, .rw, 2, 0, .store, false, .any, "ANS_RULE.enable"⟩,
  ⟨0x40, 0x100, 256, 1, 2, .u 1, .rw, 2, 0, .store, false, .rng (0) 31, "ANS_RULE.moon"⟩,
  ⟨0x40, 0x100, 256, 1, 3, .u 1, .rw, 2, 0, .store, false, .rng (0) 2, "ANS_RULE.protocol"⟩,
  ⟨0x40, 0x100, 256, 1, 4, .u 1, .rw, 2, 255, .store, false, .oneOf [0, 1, 2, 3, 4, 5, 6, 7, 8, 9, 10, 11, 12, 13, 14, 15, 255], "ANS_RULE.rate_profile"⟩,
  ⟨0x40, 0x100, 256, 1, 5, .u 1, .rw, 2, 0, .store, false, .rng (0) 1, "ANS_RULE.unsync_action"⟩,
  ⟨0x40, 0x100, 256, 1, 6, .u 1, .rw, 2, 0, .store, false, .rng (0) 2, "ANS_RULE.ext_action"⟩,
  ⟨0x40, 0x100, 256, 1, 7, .u 1, .rw, 2, 0, .store, false, .rng (0) 1, "ANS_RULE.other_action"⟩,
  ⟨0x40, 0x100, 256, 1, 8, .u 1, .rw, 2, 0, .store, false, .rng (0) 127, "ANS_RULE.host_ring"⟩,
  ⟨0x40, 0x100, 256, 1, 9, .u 1, .rw, 2, 4, .store, false, .rng (0) 17, "ANS_RULE.min_poll"⟩,
  ⟨0x40, 0x100, 256, 1, 10, .s 2, .rw, 2, (-32), .store, false, .rng (-40) 0, "ANS_RULE.precision"⟩,
  ⟨0x40, 0x100, 256, 1, 11, .u 4, .rw, 2, 0, .store, false, .any, "ANS_RULE.root_delay"⟩,
  ⟨0x40, 0x100, 256, 1, 12, .u 1, .rw, 2, 64, .store, false, .rng (1) 255, "ANS_RULE.hop_limit"⟩,
  ⟨0x40, 0x100, 256, 1, 13, .u 1, .rw, 2, 255, .store, false, .own, "ANS_RULE.dscp"⟩,
  ⟨0x40, 0x200, 16, 1, 1, .bool, .ro, 1, 1, .no, false, .any, "PIPE.in_service"⟩,
  ⟨0x40, 0x200, 16, 1, 2, .bool, .wo, 2, 0, .no, false, .any, "PIPE.reenable"⟩,
  ⟨0x40, 0x200, 16, 1, 3, .u 4, .ro, 1, 0, .no, false, .any, "PIPE.checks"⟩,
  ⟨0x40, 0x200, 16, 1, 4, .u 4, .ro, 1, 0, .no, false, .any, "PIPE.check_fail"⟩]

/-- Rows of spec/06_answer_engine.md Table 6-10 (part 2). -/
def rowsArea40_2 : List ObjRow := [
  ⟨0x40, 0x200, 16, 1, 5, .u 4, .ro, 1, 0, .no, false, .any, "PIPE.crc_err"⟩,
  ⟨0x40, 0x200, 16, 1, 6, .u 8, .ro, 1, 0, .no, false, .any, "PIPE.last_fail_tick"⟩,
  ⟨0x40, 0x300, 256, 1, 1, .u 8, .ro, 1, 0, .no, false, .any, "ANS_RULE_STATS.answered"⟩,
  ⟨0x40, 0x300, 256, 1, 2, .u 8, .ro, 1, 0, .no, false, .any, "ANS_RULE_STATS.kod"⟩,
  ⟨0x40, 0x300, 256, 1, 3, .u 8, .ro, 1, 0, .no, false, .any, "ANS_RULE_STATS.dropped"⟩,
  ⟨0x40, 0x300, 256, 1, 4, .u 8, .ro, 1, 0, .no, false, .any, "ANS_RULE_STATS.punted"⟩]

/-- Every row of area 40. -/
def rowsArea40 : List ObjRow := rowsArea40_1 ++ rowsArea40_2

/-- Rows of spec/07_scheduled_departure.md Table 7-3 (part 1). -/
def rowsArea44_1 : List ObjRow := [
  ⟨0x44, 0x001, 1, 1, 1, .u 4, .ro, 1, 524288, .no, false, .any, "DEP_GLOBAL.cells_total"⟩,
  ⟨0x44, 0x001, 1, 1, 2, .u 4, .ro, 1, 0, .no, false, .any, "DEP_GLOBAL.cells_used"⟩,
  ⟨0x44, 0x100, 32, 1, 1, .s 8, .rw, 2, 131072000, .store, false, .rng (65536000) 4194304000, "DEP_PORT.horizon"⟩,
  ⟨0x44, 0x100, 32, 1, 2, .s 8, .rw, 2, 524288000, .store, false, .rng (0) 4128768000, "DEP_PORT.search"⟩,
  ⟨0x44, 0x100, 32, 1, 3, .u 1, .rw, 2, 0, .store, false, .rng (0) 50, "DEP_PORT.host_share_pct"⟩,
  ⟨0x44, 0x100, 32, 1, 4, .u 1, .rw, 2, 10, .store, false, .rng (0) 100, "DEP_PORT.host_timed_pct"⟩,
  ⟨0x44, 0x100, 32, 1, 5, .s 8, .rw, 2, 1310720, .store, false, .rng (327680) 65536000, "DEP_PORT.margin_min"⟩,
  ⟨0x44, 0x100, 32, 1, 6, .s 8, .rw, 2, 13107200, .store, false, .rng (327680) 65536000, "DEP_PORT.margin_max"⟩,
  ⟨0x44, 0x100, 32, 1, 7, .s 8, .rw, 2, 524288, .store, false, .rng (0) 6553600, "DEP_PORT.margin_guard"⟩,
  ⟨0x44, 0x140, 32, 1, 1, .s 8, .ro, 1, 1310720, .no, false, .any, "DEP_LIVE.margin_live"⟩,
  ⟨0x44, 0x140, 32, 1, 2, .s 8, .ro, 1, 0, .no, false, .any, "DEP_LIVE.fetch_max"⟩,
  ⟨0x44, 0x140, 32, 1, 3, .u 4, .ro, 1, 0, .no, false, .any, "DEP_LIVE.cells_total"⟩,
  ⟨0x44, 0x140, 32, 1, 4, .u 4, .ro, 1, 0, .no, false, .any, "DEP_LIVE.cells_used"⟩,
  ⟨0x44, 0x140, 32, 1, 5, .u 4, .ro, 1, 0, .no, false, .any, "DEP_LIVE.cells_peak"⟩,
  ⟨0x44, 0x140, 32, 1, 6, .s 8, .ro, 1, 0, .no, false, .any, "DEP_LIVE.grid_max_step"⟩,
  ⟨0x44, 0x140, 32, 1, 7, .u 8, .ro, 1, 0, .no, false, .any, "DEP_LIVE.boundary"⟩,
  ⟨0x44, 0x140, 32, 1, 8, .u 1, .ro, 1, 0, .no, false, .any, "DEP_LIVE.last_miss_cause"⟩,
  ⟨0x44, 0x140, 32, 1, 9, .u 8, .ro, 1, 0, .no, false, .any, "DEP_LIVE.last_miss_tick"⟩,
  ⟨0x44, 0x180, 32, 1, 1, .u 8, .ro, 1, 0, .no, false, .any, "DEP_STATUS.misses"⟩,
  ⟨0x44, 0x180, 32, 1, 2, .u 2, .w1c, 2, 0, .no, false, .mask 0x7FF, "DEP_STATUS.sticky"⟩]

/-- Every row of area 44. -/
def rowsArea44 : List ObjRow := rowsArea44_1

/-- Rows of spec/08_nts.md Table 8-7 (part 1). -/
def rowsArea48_1 : List ObjRow := [
  ⟨0x48, 0x001, 1, 1, 1, .bool, .rw, 2, 1, .store, false, .any, "NTS_GLOBAL.enable"⟩,
  ⟨0x48, 0x001, 1, 1, 2, .bool, .rw, 2, 1, .store, false, .any, "NTS_GLOBAL.nak_enable"⟩,
  ⟨0x48, 0x001, 1, 1, 3, .u 1, .rw, 2, 8, .store, false, .rng (1) 8, "NTS_GLOBAL.max_cookies"⟩,
  ⟨0x48, 0x001, 1, 1, 4, .u 4, .rw, 8, 86400, .store, false, .rng (0) 2592000, "NTS_GLOBAL.retire_after"⟩,
  ⟨0x48, 0x002, 1, 1, 1, .u 8, .ro, 1, 0, .no, false, .any, "NTS_STATUS.verified"⟩,
  ⟨0x48, 0x002, 1, 1, 2, .u 8, .ro, 1, 0, .no, false, .any, "NTS_STATUS.nak"⟩,
  ⟨0x48, 0x002, 1, 1, 3, .u 8, .ro, 1, 0, .no, false, .any, "NTS_STATUS.malformed"⟩,
  ⟨0x48, 0x002, 1, 1, 4, .u 8, .ro, 1, 0, .no, false, .any, "NTS_STATUS.cookie_key"⟩,
  ⟨0x48, 0x002, 1, 1, 5, .u 8, .ro, 1, 0, .no, false, .any, "NTS_STATUS.cookie_auth"⟩,
  ⟨0x48, 0x002, 1, 1, 6, .u 8, .ro, 1, 0, .no, false, .any, "NTS_STATUS.req_auth"⟩,
  ⟨0x48, 0x002, 1, 1, 7, .u 8, .ro, 1, 0, .no, false, .any, "NTS_STATUS.no_key"⟩,
  ⟨0x48, 0x002, 1, 1, 8, .u 8, .ro, 1, 0, .no, false, .any, "NTS_STATUS.overload"⟩,
  ⟨0x48, 0x002, 1, 1, 9, .u 8, .ro, 1, 0, .no, false, .any, "NTS_STATUS.enc_ext"⟩,
  ⟨0x48, 0x002, 1, 1, 10, .u 1, .ro, 1, 255, .no, false, .any, "NTS_STATUS.current_slot"⟩,
  ⟨0x48, 0x002, 1, 1, 11, .bool, .ro, 1, 1, .no, false, .any, "NTS_STATUS.drbg_ok"⟩,
  ⟨0x48, 0x002, 1, 1, 12, .u 2, .w1c, 2, 0, .no, false, .mask 0xFF, "NTS_STATUS.sticky"⟩,
  ⟨0x48, 0x003, 1, 1, 1, .blob 32, .wo, 8, 0, .key, false, .any, "NTS_STATION.seed"⟩,
  ⟨0x48, 0x003, 1, 1, 2, .bool, .ro, 1, 0, .key, false, .any, "NTS_STATION.seed_set"⟩,
  ⟨0x48, 0x003, 1, 1, 3, .u 4, .ro, 1, 0, .key, false, .any, "NTS_STATION.seed_check"⟩,
  ⟨0x48, 0x010, 16, 1, 1, .u 1, .ro, 1, 0, .key, false, .any, "NTS_SLOT.state"⟩,
  ⟨0x48, 0x010, 16, 1, 2, .u 4, .rw, 8, 0, .key, false, .any, "NTS_SLOT.generation"⟩,
  ⟨0x48, 0x010, 16, 1, 3, .blob 32, .wo, 8, 0, .key, false, .any, "NTS_SLOT.key"⟩,
  ⟨0x48, 0x010, 16, 1, 4, .u 1, .wo, 8, 0, .no, false, .rng (1) 5, "NTS_SLOT.command"⟩,
  ⟨0x48, 0x010, 16, 1, 5, .u 1, .ro, 1, 0, .key, false, .any, "NTS_SLOT.origin"⟩,
  ⟨0x48, 0x010, 16, 1, 6, .u 8, .ro, 1, 0, .key, false, .any, "NTS_SLOT.left_current"⟩,
  ⟨0x48, 0x010, 16, 1, 7, .u 8, .ro, 1, 0, .no, false, .any, "NTS_SLOT.issued"⟩,
  ⟨0x48, 0x010, 16, 1, 8, .u 8, .ro, 1, 0, .no, false, .any, "NTS_SLOT.accepted"⟩,
  ⟨0x48, 0x040, 1, 1, 1, .bool, .rw, 2, 0, .store, false, .any, "NTS_KE.enable"⟩,
  ⟨0x48, 0x040, 1, 1, 2, .u 1, .rw, 2, 127, .store, false, .rng (0) 127, "NTS_KE.ring"⟩,
  ⟨0x48, 0x040, 1, 1, 3, .u 2, .rw, 2, 4460, .store, false, .any, "NTS_KE.tcp_port"⟩,
  ⟨0x48, 0x040, 1, 1, 4, .u 4, .rw, 2, 100000, .store, false, .rng (1) 100000, "NTS_KE.max_rate"⟩,
  ⟨0x48, 0x040, 1, 1, 5, .u 4, .rw, 2, 65536, .store, false, .rng (1) 65536, "NTS_KE.max_sessions"⟩,
  ⟨0x48, 0x040, 1, 1, 6, .u 1, .rw, 2, 8, .store, false, .rng (1) 8, "NTS_KE.cookies"⟩,
  ⟨0x48, 0x040, 1, 1, 7, .u 2, .rw, 2, 65535, .store, false, .own, "NTS_KE.server_v4"⟩,
  ⟨0x48, 0x040, 1, 1, 8, .u 2, .rw, 2, 65535, .store, false, .own, "NTS_KE.server_v6"⟩,
  ⟨0x48, 0x041, 1, 1, 0, .blob 8192, .rw, 8, 0, .store, true, .any, "NTS_KE_CERT"⟩,
  ⟨0x48, 0x042, 1, 1, 1, .u 1, .wo, 8, 0, .no, false, .rng (1) 1, "NTS_KE_KEY.command"⟩,
  ⟨0x48, 0x042, 1, 1, 2, .blob 65, .ro, 1, 0, .key, false, .any, "NTS_KE_KEY.public"⟩,
  ⟨0x48, 0x042, 1, 1, 3, .bool, .ro, 1, 0, .key, false, .any, "NTS_KE_KEY.present"⟩,
  ⟨0x48, 0x043, 1, 1, 1, .u 8, .ro, 1, 0, .no, true, .any, "NTS_KE_STATUS.handshakes"⟩]

/-- Rows of spec/08_nts.md Table 8-7 (part 2). -/
def rowsArea48_2 : List ObjRow := [
  ⟨0x48, 0x043, 1, 1, 2, .u 8, .ro, 1, 0, .no, true, .any, "NTS_KE_STATUS.refused_rate"⟩,
  ⟨0x48, 0x043, 1, 1, 3, .u 8, .ro, 1, 0, .no, true, .any, "NTS_KE_STATUS.refused_shed"⟩,
  ⟨0x48, 0x043, 1, 1, 4, .u 8, .ro, 1, 0, .no, true, .any, "NTS_KE_STATUS.alerts"⟩,
  ⟨0x48, 0x043, 1, 1, 5, .u 8, .ro, 1, 0, .no, true, .any, "NTS_KE_STATUS.errors"⟩,
  ⟨0x48, 0x043, 1, 1, 6, .u 4, .ro, 1, 0, .no, true, .any, "NTS_KE_STATUS.sessions"⟩,
  ⟨0x48, 0x043, 1, 1, 7, .bool, .ro, 1, 0, .no, true, .any, "NTS_KE_STATUS.shedding"⟩]

/-- Every row of area 48. -/
def rowsArea48 : List ObjRow := rowsArea48_1 ++ rowsArea48_2

/-- Rows of spec/09_ptp_service.md Table 9-4 (part 1). -/
def rowsArea4C_1 : List ObjRow := [
  ⟨0x4C, 0x001, 1, 1, 1, .blob 8, .rw, 4, (-1), .store, false, .any, "PTP_GLOBAL.clock_identity"⟩,
  ⟨0x4C, 0x002, 1, 1, 1, .u 4, .ro, 1, 0, .no, false, .any, "PTP_STATUS.clients"⟩,
  ⟨0x4C, 0x002, 1, 1, 2, .u 4, .ro, 1, 0, .no, false, .any, "PTP_STATUS.committed_rate"⟩,
  ⟨0x4C, 0x002, 1, 1, 3, .u 8, .ro, 1, 0, .no, false, .any, "PTP_STATUS.granted"⟩,
  ⟨0x4C, 0x002, 1, 1, 4, .u 8, .ro, 1, 0, .no, false, .any, "PTP_STATUS.denied"⟩,
  ⟨0x4C, 0x002, 1, 1, 5, .u 8, .ro, 1, 0, .no, false, .any, "PTP_STATUS.expired"⟩,
  ⟨0x4C, 0x002, 1, 1, 6, .u 2, .w1c, 2, 0, .no, false, .mask 0x3F, "PTP_STATUS.sticky"⟩,
  ⟨0x4C, 0x040, 16, 1, 1, .u 1, .rw, 8, 0, .key, false, .any, "PTP_SA.spp"⟩,
  ⟨0x4C, 0x040, 16, 1, 2, .u 4, .rw, 8, 0, .key, false, .any, "PTP_SA.key_id"⟩,
  ⟨0x4C, 0x040, 16, 1, 3, .blob 32, .wo, 8, 0, .key, false, .any, "PTP_SA.key"⟩,
  ⟨0x4C, 0x040, 16, 1, 4, .bool, .rw, 8, 0, .key, false, .any, "PTP_SA.valid"⟩,
  ⟨0x4C, 0x100, 32, 1, 1, .bool, .rw, 2, 0, .store, false, .any, "PTP_INST.enable"⟩,
  ⟨0x4C, 0x100, 32, 1, 2, .u 1, .rw, 4, 0, .store, false, .rng (0) 31, "PTP_INST.moon"⟩,
  ⟨0x4C, 0x100, 32, 1, 3, .u 1, .rw, 4, 0, .store, false, .rng (0) 1, "PTP_INST.profile"⟩,
  ⟨0x4C, 0x100, 32, 1, 4, .u 1, .rw, 4, 0, .store, false, .own, "PTP_INST.domain"⟩,
  ⟨0x4C, 0x100, 32, 1, 5, .u 1, .rw, 2, 3, .store, false, .rng (1) 7, "PTP_INST.transports"⟩,
  ⟨0x4C, 0x100, 32, 1, 6, .bool, .rw, 2, 0, .store, false, .any, "PTP_INST.two_step"⟩,
  ⟨0x4C, 0x100, 32, 1, 7, .u 1, .rw, 4, 128, .store, false, .any, "PTP_INST.priority1"⟩,
  ⟨0x4C, 0x100, 32, 1, 8, .u 1, .rw, 4, 128, .store, false, .any, "PTP_INST.priority2"⟩,
  ⟨0x4C, 0x100, 32, 1, 9, .u 1, .rw, 4, 32, .store, false, .any, "PTP_INST.time_source"⟩,
  ⟨0x4C, 0x100, 32, 1, 10, .u 1, .rw, 4, 52, .store, false, .any, "PTP_INST.lost_class"⟩,
  ⟨0x4C, 0x100, 32, 1, 11, .u 4, .rw, 2, 0, .store, false, .own, "PTP_INST.mc_port_mask"⟩,
  ⟨0x4C, 0x100, 32, 1, 12, .s 2, .rw, 2, 0, .store, false, .rng (-7) 4, "PTP_INST.mc_log_sync"⟩,
  ⟨0x4C, 0x100, 32, 1, 13, .s 2, .rw, 2, 1, .store, false, .rng (-3) 4, "PTP_INST.mc_log_announce"⟩,
  ⟨0x4C, 0x100, 32, 1, 14, .u 1, .rw, 8, 255, .store, false, .any, "PTP_INST.auth_spp"⟩,
  ⟨0x4C, 0x100, 32, 1, 15, .u 1, .rw, 2, 255, .store, false, .own, "PTP_INST.other_ring"⟩,
  ⟨0x4C, 0x140, 32, 1, 1, .bool, .rw, 2, 1, .store, false, .any, "PTP_NEG.unicast_enable"⟩,
  ⟨0x4C, 0x140, 32, 1, 2, .s 2, .rw, 2, (-7), .store, false, .rng (-7) 4, "PTP_NEG.min_log_sync"⟩,
  ⟨0x4C, 0x140, 32, 1, 3, .s 2, .rw, 2, (-7), .store, false, .rng (-7) 4, "PTP_NEG.min_log_delay"⟩,
  ⟨0x4C, 0x140, 32, 1, 4, .s 2, .rw, 2, (-3), .store, false, .rng (-3) 4, "PTP_NEG.min_log_announce"⟩,
  ⟨0x4C, 0x140, 32, 1, 5, .u 4, .rw, 2, 60, .store, false, .rng (10) 10000, "PTP_NEG.dur_min"⟩,
  ⟨0x4C, 0x140, 32, 1, 6, .u 4, .rw, 2, 1000, .store, false, .rng (10) 10000, "PTP_NEG.dur_max"⟩,
  ⟨0x4C, 0x140, 32, 1, 7, .u 4, .rw, 2, 262144, .store, false, .rng (0) 262144, "PTP_NEG.max_grants"⟩,
  ⟨0x4C, 0x140, 32, 1, 8, .bool, .rw, 8, 0, .store, false, .any, "PTP_NEG.auth_required"⟩,
  ⟨0x4C, 0x140, 32, 1, 9, .u 1, .rw, 2, 46, .store, false, .rng (0) 63, "PTP_NEG.dscp"⟩,
  ⟨0x4C, 0x140, 32, 1, 10, .u 1, .rw, 2, 64, .store, false, .rng (1) 255, "PTP_NEG.hop_limit"⟩,
  ⟨0x4C, 0x180, 32, 1, 1, .u 8, .ro, 1, 0, .no, false, .any, "PTP_INST_STATS.sent"⟩,
  ⟨0x4C, 0x180, 32, 1, 2, .u 8, .ro, 1, 0, .no, false, .any, "PTP_INST_STATS.delay_req"⟩,
  ⟨0x4C, 0x180, 32, 1, 3, .u 8, .ro, 1, 0, .no, false, .any, "PTP_INST_STATS.dropped"⟩,
  ⟨0x4C, 0x180, 32, 1, 4, .u 8, .ro, 1, 0, .no, false, .any, "PTP_INST_STATS.missed"⟩]

/-- Rows of spec/09_ptp_service.md Table 9-4 (part 2). -/
def rowsArea4C_2 : List ObjRow := [
  ⟨0x4C, 0x180, 32, 1, 5, .u 8, .ro, 1, 0, .no, false, .any, "PTP_INST_STATS.auth_fail"⟩,
  ⟨0x4C, 0x180, 32, 1, 6, .u 4, .ro, 1, 0, .no, false, .any, "PTP_INST_STATS.clients"⟩,
  ⟨0x4C, 0x200, 16, 1, 1, .bool, .rw, 4, 0, .store, false, .any, "PTP_UP.enable"⟩,
  ⟨0x4C, 0x200, 16, 1, 2, .u 1, .rw, 4, 0, .store, false, .rng (0) 31, "PTP_UP.port"⟩,
  ⟨0x4C, 0x200, 16, 1, 3, .u 1, .rw, 4, 0, .store, false, .rng (0) 2, "PTP_UP.transport"⟩,
  ⟨0x4C, 0x200, 16, 1, 4, .blob 16, .rw, 4, 0, .store, false, .any, "PTP_UP.address"⟩,
  ⟨0x4C, 0x200, 16, 1, 5, .u 2, .rw, 4, 0, .store, false, .own, "PTP_UP.service"⟩,
  ⟨0x4C, 0x200, 16, 1, 6, .u 1, .rw, 4, 0, .store, false, .own, "PTP_UP.domain"⟩,
  ⟨0x4C, 0x200, 16, 1, 7, .u 1, .rw, 4, 0, .store, false, .rng (0) 1, "PTP_UP.profile"⟩,
  ⟨0x4C, 0x200, 16, 1, 8, .s 2, .rw, 4, (-4), .store, false, .rng (-7) 4, "PTP_UP.log_sync"⟩,
  ⟨0x4C, 0x200, 16, 1, 9, .s 2, .rw, 4, (-4), .store, false, .rng (-7) 4, "PTP_UP.log_delay"⟩,
  ⟨0x4C, 0x200, 16, 1, 10, .s 2, .rw, 4, 0, .store, false, .rng (-3) 4, "PTP_UP.log_announce"⟩,
  ⟨0x4C, 0x200, 16, 1, 11, .u 4, .rw, 4, 300, .store, false, .rng (60) 1000, "PTP_UP.duration"⟩,
  ⟨0x4C, 0x200, 16, 1, 12, .u 1, .rw, 4, 255, .store, false, .any, "PTP_UP.auth_spp"⟩,
  ⟨0x4C, 0x200, 16, 1, 13, .u 1, .rw, 4, 0, .store, false, .rng (0) 63, "PTP_UP.slot"⟩,
  ⟨0x4C, 0x240, 16, 1, 1, .u 1, .ro, 1, 0, .no, false, .any, "PTP_UP_STATUS.state"⟩,
  ⟨0x4C, 0x240, 16, 1, 2, .s 8, .ro, 1, 0, .no, false, .any, "PTP_UP_STATUS.offset"⟩,
  ⟨0x4C, 0x240, 16, 1, 3, .s 8, .ro, 1, 0, .no, false, .any, "PTP_UP_STATUS.mean_path_delay"⟩,
  ⟨0x4C, 0x240, 16, 1, 4, .u 8, .ro, 1, 0, .no, false, .any, "PTP_UP_STATUS.last_tick"⟩,
  ⟨0x4C, 0x240, 16, 1, 5, .blob 8, .ro, 1, 0, .no, false, .any, "PTP_UP_STATUS.gm_identity"⟩,
  ⟨0x4C, 0x240, 16, 1, 6, .u 1, .ro, 1, 0, .no, false, .any, "PTP_UP_STATUS.clock_class"⟩,
  ⟨0x4C, 0x240, 16, 1, 7, .u 8, .ro, 1, 0, .no, false, .any, "PTP_UP_STATUS.exchanges"⟩,
  ⟨0x4C, 0x240, 16, 1, 8, .u 8, .ro, 1, 0, .no, false, .any, "PTP_UP_STATUS.discarded"⟩]

/-- Every row of area 4C. -/
def rowsArea4C : List ObjRow := rowsArea4C_1 ++ rowsArea4C_2

/-- Rows of spec/15_public_key_engine.md Table 15-5 (part 1). -/
def rowsArea50_1 : List ObjRow := [
  ⟨0x50, 0x001, 1, 1, 1, .u 1, .ro, 1, 8, .no, false, .any, "PK_STATUS.units_in_service"⟩,
  ⟨0x50, 0x001, 1, 1, 2, .u 2, .w1c, 2, 0, .no, false, .mask 0x1F, "PK_STATUS.sticky"⟩,
  ⟨0x50, 0x010, 4, 1, 1, .u 1, .rw, 2, 0, .store, false, .rng (1) 16, "PK_Q.weight"⟩,
  ⟨0x50, 0x010, 4, 1, 2, .u 1, .ro, 1, 0, .no, false, .any, "PK_Q.pending"⟩,
  ⟨0x50, 0x010, 4, 1, 3, .u 8, .ro, 1, 0, .no, false, .any, "PK_Q.completed"⟩,
  ⟨0x50, 0x010, 4, 1, 4, .u 8, .ro, 1, 0, .no, false, .any, "PK_Q.refused"⟩,
  ⟨0x50, 0x010, 4, 1, 5, .u 8, .ro, 1, 0, .no, false, .any, "PK_Q.aborted"⟩,
  ⟨0x50, 0x010, 4, 1, 6, .u 4, .ro, 1, 0, .no, false, .any, "PK_Q.abort_missed"⟩,
  ⟨0x50, 0x020, 1, 1, 1, .u 1, .wo, 8, 0, .no, false, .own, "PK_HOST_CMD.op"⟩,
  ⟨0x50, 0x020, 1, 1, 2, .u 4, .wo, 8, 0, .no, false, .own, "PK_HOST_CMD.tag"⟩,
  ⟨0x50, 0x020, 1, 1, 3, .u 2, .wo, 8, 0, .no, false, .own, "PK_HOST_CMD.dst0"⟩,
  ⟨0x50, 0x020, 1, 1, 4, .u 2, .wo, 8, 0, .no, false, .own, "PK_HOST_CMD.dst1"⟩,
  ⟨0x50, 0x020, 1, 1, 5, .u 2, .wo, 8, 0, .no, false, .own, "PK_HOST_CMD.src0"⟩,
  ⟨0x50, 0x020, 1, 1, 6, .u 2, .wo, 8, 0, .no, false, .own, "PK_HOST_CMD.src1"⟩,
  ⟨0x50, 0x020, 1, 1, 7, .u 2, .wo, 8, 0, .no, false, .own, "PK_HOST_CMD.src2"⟩,
  ⟨0x50, 0x020, 1, 1, 8, .u 2, .wo, 8, 0, .no, false, .own, "PK_HOST_CMD.src3"⟩,
  ⟨0x50, 0x020, 1, 1, 9, .u 2, .wo, 8, 0, .no, false, .own, "PK_HOST_CMD.src4"⟩,
  ⟨0x50, 0x020, 1, 1, 10, .u 2, .wo, 8, 0, .no, false, .own, "PK_HOST_CMD.src5"⟩,
  ⟨0x50, 0x020, 1, 1, 11, .u 2, .wo, 8, 0, .no, false, .own, "PK_HOST_CMD.src6"⟩,
  ⟨0x50, 0x020, 1, 1, 12, .u 1, .wo, 8, 0, .no, false, .own, "PK_HOST_CMD.key"⟩,
  ⟨0x50, 0x020, 1, 1, 13, .u 2, .wo, 8, 0, .no, false, .own, "PK_HOST_CMD.msg_len"⟩,
  ⟨0x50, 0x021, 1, 1, 1, .u 4, .ro, 1, 0, .no, false, .any, "PK_HOST_DONE.tag"⟩,
  ⟨0x50, 0x021, 1, 1, 2, .u 1, .ro, 1, 0, .no, false, .any, "PK_HOST_DONE.op"⟩,
  ⟨0x50, 0x021, 1, 1, 3, .u 1, .ro, 1, 0, .no, false, .any, "PK_HOST_DONE.status"⟩,
  ⟨0x50, 0x021, 1, 1, 4, .u 4, .ro, 1, 0, .no, false, .any, "PK_HOST_DONE.cycles"⟩,
  ⟨0x50, 0x021, 1, 1, 5, .u 8, .ro, 1, 0, .no, false, .any, "PK_HOST_DONE.submit_tick"⟩,
  ⟨0x50, 0x021, 1, 1, 6, .u 8, .ro, 1, 0, .no, false, .any, "PK_HOST_DONE.done_tick"⟩,
  ⟨0x50, 0x022, 1, 1, 1, .bool, .wo, 8, 0, .no, false, .any, "PK_HOST_CTRL.pop"⟩,
  ⟨0x50, 0x022, 1, 1, 2, .u 4, .wo, 8, 0, .no, false, .any, "PK_HOST_CTRL.abort"⟩,
  ⟨0x50, 0x022, 1, 1, 3, .u 1, .ro, 1, 0, .no, false, .any, "PK_HOST_CTRL.done_count"⟩,
  ⟨0x50, 0x030, 16, 1, 1, .u 1, .ro, 1, 0, .key, false, .any, "PK_KEY.type"⟩,
  ⟨0x50, 0x030, 16, 1, 2, .blob 65, .ro, 1, 0, .key, false, .any, "PK_KEY.public"⟩,
  ⟨0x50, 0x030, 16, 1, 3, .u 1, .wo, 8, 0, .no, false, .rng (1) 1, "PK_KEY.command"⟩,
  ⟨0x50, 0x400, 1024, 1, 1, .u 2, .rw, 8, 0, .no, false, .own, "PK_SLOT.base"⟩,
  ⟨0x50, 0x400, 1024, 1, 2, .u 1, .rw, 8, 0, .no, false, .rng (0) 128, "PK_SLOT.length"⟩,
  ⟨0x50, 0x400, 1024, 1, 3, .bool, .ro, 1, 0, .no, false, .any, "PK_SLOT.dirty"⟩,
  ⟨0x50, 0x400, 1024, 1, 4, .bool, .ro, 1, 0, .no, false, .any, "PK_SLOT.in_use"⟩,
  ⟨0x50, 0x800, 1024, 1, 0, .blob 1024, .rw, 8, 0, .no, false, .any, "PK_DATA"⟩]

/-- Every row of area 50. -/
def rowsArea50 : List ObjRow := rowsArea50_1

/-- Rows of spec/16_host_interface.md Table 16-15 (part 1). -/
def rowsArea58_1 : List ObjRow := [
  ⟨0x58, 0x001, 1, 1, 1, .u 1, .ro, 1, 0, .no, false, .any, "HOST_STATUS.link_width"⟩,
  ⟨0x58, 0x001, 1, 1, 2, .u 1, .ro, 1, 0, .no, false, .any, "HOST_STATUS.link_rate_gts"⟩,
  ⟨0x58, 0x001, 1, 1, 3, .u 4, .ro, 1, 0, .no, false, .any, "HOST_STATUS.flr_count"⟩,
  ⟨0x58, 0x001, 1, 1, 4, .u 4, .ro, 1, 0, .no, false, .any, "HOST_STATUS.window_err"⟩,
  ⟨0x58, 0x001, 1, 1, 5, .u 2, .w1c, 2, 0, .no, false, .mask 0xF, "HOST_STATUS.sticky"⟩,
  ⟨0x58, 0x002, 1, 1, 0, .bool, .rw, 2, 1, .store, false, .any, "HOST_DICT.enable"⟩,
  ⟨0x58, 0x010, 1, 1, 0, .blob 32, .w1c, 2, 0, .no, false, .any, "HOST_IRQ_PENDING"⟩,
  ⟨0x58, 0x100, 256, 1, 1, .u 1, .rw, 2, 255, .no, false, .oneOf (255 :: (List.range 64).map (fun (i : Nat) => (i : Int))), "IRQ_ROUTE.vector"⟩,
  ⟨0x58, 0x100, 256, 1, 2, .u 1, .rw, 2, 0, .no, false, .rng (0) 15, "IRQ_ROUTE.pins"⟩,
  ⟨0x58, 0x200, 64, 1, 0, .u 4, .rw, 2, 0, .no, false, .rng (0) 1000000, "VEC_CFG.holdoff_ns"⟩,
  ⟨0x58, 0x300, 128, 1, 1, .bool, .rw, 2, 0, .no, false, .any, "RX_RING_CFG.enable"⟩,
  ⟨0x58, 0x300, 128, 1, 2, .u 8, .rw, 2, 0, .no, false, .own, "RX_RING_CFG.base"⟩,
  ⟨0x58, 0x300, 128, 1, 3, .u 1, .rw, 2, 10, .no, false, .rng (6) 16, "RX_RING_CFG.size_log2"⟩,
  ⟨0x58, 0x300, 128, 1, 4, .u 2, .rw, 2, 2048, .no, false, .rng (256) 16384, "RX_RING_CFG.buf_size"⟩,
  ⟨0x58, 0x300, 128, 1, 5, .u 1, .ro, 1, 0, .no, false, .any, "RX_RING_CFG.owner"⟩,
  ⟨0x58, 0x380, 128, 1, 1, .u 8, .ro, 1, 0, .no, false, .any, "RX_RING_STATUS.frames"⟩,
  ⟨0x58, 0x380, 128, 1, 2, .u 8, .ro, 1, 0, .no, false, .any, "RX_RING_STATUS.no_buffer"⟩,
  ⟨0x58, 0x380, 128, 1, 3, .u 8, .ro, 1, 0, .no, false, .any, "RX_RING_STATUS.trunc_frames"⟩,
  ⟨0x58, 0x380, 128, 1, 4, .u 8, .ro, 1, 0, .no, false, .any, "RX_RING_STATUS.trunc_bytes"⟩,
  ⟨0x58, 0x380, 128, 1, 5, .u 8, .ro, 1, 0, .no, false, .any, "RX_RING_STATUS.overrun"⟩,
  ⟨0x58, 0x380, 128, 1, 6, .u 4, .ro, 1, 0, .no, false, .any, "RX_RING_STATUS.doorbell_err"⟩,
  ⟨0x58, 0x380, 128, 1, 7, .u 2, .w1c, 2, 0, .no, false, .mask 0x1F, "RX_RING_STATUS.sticky"⟩,
  ⟨0x58, 0x400, 128, 1, 1, .bool, .rw, 2, 0, .no, false, .any, "TX_RING_CFG.enable"⟩,
  ⟨0x58, 0x400, 128, 1, 2, .u 8, .rw, 2, 0, .no, false, .own, "TX_RING_CFG.base"⟩,
  ⟨0x58, 0x400, 128, 1, 3, .u 1, .rw, 2, 10, .no, false, .rng (6) 16, "TX_RING_CFG.size_log2"⟩,
  ⟨0x58, 0x400, 128, 1, 4, .u 1, .ro, 1, 0, .no, false, .any, "TX_RING_CFG.owner"⟩,
  ⟨0x58, 0x480, 128, 1, 1, .u 8, .ro, 1, 0, .no, false, .any, "TX_RING_STATUS.frames"⟩,
  ⟨0x58, 0x480, 128, 1, 2, .u 8, .ro, 1, 0, .no, false, .any, "TX_RING_STATUS.timed"⟩,
  ⟨0x58, 0x480, 128, 1, 3, .u 8, .ro, 1, 0, .no, false, .any, "TX_RING_STATUS.rejected"⟩,
  ⟨0x58, 0x480, 128, 1, 4, .u 8, .ro, 1, 0, .no, false, .any, "TX_RING_STATUS.flushed"⟩,
  ⟨0x58, 0x480, 128, 1, 5, .u 4, .ro, 1, 0, .no, false, .any, "TX_RING_STATUS.doorbell_err"⟩,
  ⟨0x58, 0x480, 128, 1, 6, .u 2, .w1c, 2, 0, .no, false, .mask 0x1F, "TX_RING_STATUS.sticky"⟩,
  ⟨0x58, 0x500, 32, 1, 1, .u 1, .ro, 1, 0, .no, false, .any, "TAIL_STATUS.count"⟩,
  ⟨0x58, 0x500, 32, 1, 2, .u 4, .ro, 1, 0, .no, false, .any, "TAIL_STATUS.lost"⟩,
  ⟨0x58, 0x500, 32, 1, 3, .u 8, .ro, 1, 0, .no, false, .any, "TAIL_STATUS.made"⟩]

/-- Every row of area 58. -/
def rowsArea58 : List ObjRow := rowsArea58_1

/-- Rows of spec/17_dictionary.md Table 17-6 (R362) (part 1). -/
def rowsArea60_1 : List ObjRow := [
  ⟨0x60, 0x001, 1, 1, 1, .u 1, .ro, 1, 0, .no, false, .any, "DICT_STATUS.queue_depth"⟩,
  ⟨0x60, 0x001, 1, 1, 2, .u 1, .ro, 1, 0, .no, false, .any, "DICT_STATUS.queue_peak"⟩,
  ⟨0x60, 0x001, 1, 1, 3, .u 8, .ro, 1, 0, .no, false, .any, "DICT_STATUS.accepted"⟩,
  ⟨0x60, 0x001, 1, 1, 4, .u 8, .ro, 1, 0, .no, false, .any, "DICT_STATUS.refused"⟩,
  ⟨0x60, 0x001, 1, 1, 5, .u 8, .ro, 1, 0, .no, false, .any, "DICT_STATUS.busy"⟩,
  ⟨0x60, 0x001, 1, 1, 6, .u 8, .ro, 1, 0, .no, false, .any, "DICT_STATUS.denied"⟩,
  ⟨0x60, 0x001, 1, 1, 7, .u 2, .ro, 1, 1, .no, false, .any, "DICT_STATUS.retry_hint_ms"⟩,
  ⟨0x60, 0x001, 1, 1, 8, .u 4, .ro, 1, 0, .no, false, .any, "DICT_STATUS.inband_off"⟩,
  ⟨0x60, 0x001, 1, 1, 9, .u 2, .w1c, 2, 0, .no, false, .mask 0x7F, "DICT_STATUS.sticky"⟩,
  ⟨0x60, 0x002, 1, 1, 1, .u 1, .ro, 1, 0, .no, false, .any, "MGMT_LOAD.stage"⟩,
  ⟨0x60, 0x002, 1, 1, 2, .u 1, .ro, 1, 0, .no, false, .any, "MGMT_LOAD.util_pct"⟩,
  ⟨0x60, 0x002, 1, 1, 3, .u 1, .rw, 2, 85, .store, false, .rng (1) 100, "MGMT_LOAD.shed_enter_pct"⟩,
  ⟨0x60, 0x002, 1, 1, 4, .u 1, .rw, 2, 70, .store, false, .rng (1) 100, "MGMT_LOAD.shed_exit_pct"⟩,
  ⟨0x60, 0x002, 1, 1, 5, .u 1, .rw, 2, 95, .store, false, .rng (1) 100, "MGMT_LOAD.log_delay_pct"⟩,
  ⟨0x60, 0x003, 1, 1, 1, .u 1, .wo, 2, 0, .no, false, .rng (1) 2, "STORE.command"⟩,
  ⟨0x60, 0x003, 1, 1, 2, .u 4, .ro, 1, 0, .no, false, .any, "STORE.generation"⟩,
  ⟨0x60, 0x003, 1, 1, 3, .u 1, .ro, 1, 0, .no, false, .any, "STORE.copies_valid"⟩,
  ⟨0x60, 0x003, 1, 1, 4, .u 1, .ro, 1, 0, .no, false, .any, "STORE.boot_copy"⟩,
  ⟨0x60, 0x003, 1, 1, 5, .bool, .ro, 1, 0, .no, false, .any, "STORE.unsaved"⟩,
  ⟨0x60, 0x003, 1, 1, 6, .u 8, .ro, 1, 0, .no, false, .any, "STORE.last_save_tick"⟩,
  ⟨0x60, 0x003, 1, 1, 7, .u 1, .ro, 1, 0, .no, false, .any, "STORE.last_result"⟩,
  ⟨0x60, 0x003, 1, 1, 8, .u 4, .ro, 1, 0, .no, false, .any, "STORE.restore_refused"⟩,
  ⟨0x60, 0x004, 1, 1, 1, .bool, .rw, 8, 0, .store, false, .any, "DICT_INBAND.enable"⟩,
  ⟨0x60, 0x004, 1, 1, 2, .u 2, .rw, 8, 4870, .store, false, .rng (1) 65535, "DICT_INBAND.udp_port"⟩,
  ⟨0x60, 0x005, 1, 1, 1, .u 8, .ro, 1, 0, .no, true, .any, "LOG.count"⟩,
  ⟨0x60, 0x005, 1, 1, 2, .u 8, .ro, 1, 0, .no, true, .any, "LOG.lost"⟩,
  ⟨0x60, 0x005, 1, 1, 3, .u 8, .rw, 1, 0, .no, true, .any, "LOG.index"⟩,
  ⟨0x60, 0x005, 1, 1, 4, .blob 64, .ro, 1, 0, .no, true, .any, "LOG.entry"⟩,
  ⟨0x60, 0x010, 32, 1, 1, .bool, .rw, 8, 0, .key, false, .any, "CRED.enable"⟩,
  ⟨0x60, 0x010, 32, 1, 2, .u 4, .rw, 8, 0, .key, false, .any, "CRED.key_id"⟩,
  ⟨0x60, 0x010, 32, 1, 3, .u 1, .rw, 8, 0, .key, false, .rng (0) 15, "CRED.roles"⟩,
  ⟨0x60, 0x010, 32, 1, 4, .blob 32, .wo, 8, (-1), .key, false, .any, "CRED.key"⟩,
  ⟨0x60, 0x010, 32, 1, 5, .u 8, .ro, 1, 0, .no, false, .any, "CRED.last_use_tick"⟩,
  ⟨0x60, 0x010, 32, 1, 6, .u 4, .ro, 1, 0, .no, false, .any, "CRED.denied"⟩,
  ⟨0x60, 0x100, 1, 1, 1, .u 2, .rw, 2, 34997, .store, false, .any, "SEG.ethertype"⟩,
  ⟨0x60, 0x100, 1, 1, 2, .u 1, .rw, 2, 0, .store, false, .rng (0) 15, "SEG.member"⟩,
  ⟨0x60, 0x100, 1, 1, 3, .bool, .rw, 2, 0, .store, false, .any, "SEG.plca_enable"⟩,
  ⟨0x60, 0x100, 1, 1, 4, .u 1, .rw, 2, 0, .store, false, .own, "SEG.plca_node_id"⟩,
  ⟨0x60, 0x100, 1, 1, 5, .u 1, .rw, 2, 16, .store, false, .rng (1) 16, "SEG.plca_node_count"⟩,
  ⟨0x60, 0x100, 1, 1, 6, .bool, .rw, 4, 1, .store, false, .any, "SEG.publish"⟩]

/-- Every row of area 60. -/
def rowsArea60 : List ObjRow := rowsArea60_1

/-- Rows of spec/19_counters.md Table 19-5 (part 1). -/
def rowsArea68_1 : List ObjRow := [
  ⟨0x68, 0x001, 1, 1, 1, .blob 12, .wo, 1, 0, .no, false, .any, "CNT_CTRL.snap_mask"⟩,
  ⟨0x68, 0x001, 1, 1, 2, .u 8, .ro, 1, 0, .no, false, .any, "CNT_CTRL.last_snap_tick"⟩,
  ⟨0x68, 0x002, 1, 1, 0, .u 8, .rw, 2, 0, .store, false, .rng (0) 1125899906842623, "CNT_USER.mask"⟩,
  ⟨0x68, 0x003, 1, 1, 1, .u 4, .ro, 1, 0, .no, false, .any, "CNT_STATUS.parity_errors"⟩,
  ⟨0x68, 0x003, 1, 1, 2, .u 2, .ro, 1, 65535, .no, false, .any, "CNT_STATUS.last_bad"⟩,
  ⟨0x68, 0x003, 1, 1, 3, .u 2, .w1c, 2, 0, .no, false, .mask 0x7, "CNT_STATUS.sticky"⟩,
  ⟨0x68, 0x100, 64, 1, 1, .u 2, .rw, 2, 65535, .store, false, .own, "CNT_WIN.event"⟩,
  ⟨0x68, 0x100, 64, 1, 2, .u 2, .ro, 1, 65535, .no, false, .any, "CNT_WIN.active_event"⟩,
  ⟨0x68, 0x100, 64, 1, 3, .u 8, .ro, 1, 0, .no, false, .any, "CNT_WIN.current"⟩,
  ⟨0x68, 0x100, 64, 1, 4, .u 8, .ro, 1, 0, .no, false, .any, "CNT_WIN.last"⟩,
  ⟨0x68, 0x100, 64, 1, 5, .u 8, .ro, 1, 0, .no, false, .any, "CNT_WIN.last_open"⟩,
  ⟨0x68, 0x100, 64, 1, 6, .u 8, .ro, 1, 0, .no, false, .any, "CNT_WIN.open_tick"⟩,
  ⟨0x68, 0x100, 64, 1, 7, .u 8, .ro, 1, 0, .no, false, .any, "CNT_WIN.close_tick"⟩,
  ⟨0x68, 0x100, 64, 1, 8, .u 4, .ro, 1, 0, .no, false, .any, "CNT_WIN.windows"⟩,
  ⟨0x68, 0x100, 64, 1, 9, .bool, .wo, 2, 0, .no, false, .any, "CNT_WIN.close"⟩,
  ⟨0x68, 0x140, 16, 1, 1, .bool, .rw, 2, 0, .store, false, .any, "CNT_OCC.enable"⟩,
  ⟨0x68, 0x140, 16, 1, 2, .u 1, .rw, 2, 1, .store, false, .own, "CNT_OCC.source"⟩,
  ⟨0x68, 0x140, 16, 1, 3, .u 1, .rw, 2, 0, .store, false, .own, "CNT_OCC.instance"⟩,
  ⟨0x68, 0x140, 16, 1, 4, .u 4, .rw, 2, 48, .store, false, .own, "CNT_OCC.threshold"⟩,
  ⟨0x68, 0x140, 16, 1, 5, .u 8, .ro, 2, 0, .no, false, .any, "CNT_OCC.above_ticks"⟩,
  ⟨0x68, 0x140, 16, 1, 6, .u 8, .ro, 2, 0, .no, false, .any, "CNT_OCC.crossings"⟩,
  ⟨0x68, 0x140, 16, 1, 7, .u 4, .ro, 2, 0, .no, false, .any, "CNT_OCC.peak"⟩,
  ⟨0x68, 0x140, 16, 1, 8, .bool, .wo, 2, 0, .no, false, .any, "CNT_OCC.peak_clear"⟩,
  ⟨0x68, 0x400, 3072, 1, 0, .u 8, .ro, 1, 0, .no, false, .any, "CNT_EVENT"⟩]

/-- Every row of area 68. -/
def rowsArea68 : List ObjRow := rowsArea68_1

/-- Rows of spec/20_faults_eclipse.md Table 20-8 (R416) (part 1). -/
def rowsArea70_1 : List ObjRow := [
  ⟨0x70, 0x001, 1, 1, 1, .bool, .ro, 1, 0, .no, false, .any, "FLT_GLOBAL.eclipse"⟩,
  ⟨0x70, 0x001, 1, 1, 2, .u 1, .rw, 4, 0, .store, false, .rng (0) 60, "FLT_GLOBAL.linger_s"⟩,
  ⟨0x70, 0x001, 1, 1, 3, .bool, .rw, 2, 1, .store, false, .any, "FLT_GLOBAL.scrub_enable"⟩,
  ⟨0x70, 0x001, 1, 1, 4, .bool, .rw, 2, 1, .store, false, .any, "FLT_GLOBAL.selfcheck_enable"⟩,
  ⟨0x70, 0x001, 1, 1, 5, .u 1, .ro, 1, 0, .no, false, .any, "FLT_GLOBAL.conditions"⟩,
  ⟨0x70, 0x001, 1, 1, 6, .u 8, .ro, 1, 0, .no, false, .any, "FLT_GLOBAL.scrub_cycle_ticks"⟩,
  ⟨0x70, 0x001, 1, 1, 7, .u 2, .w1c, 2, 0, .no, false, .mask 0x3F, "FLT_GLOBAL.sticky"⟩,
  ⟨0x70, 0x002, 1, 1, 1, .u 2, .wo, 2, 0, .no, false, .rng (1) 600, "FLT_TEST.open_s"⟩,
  ⟨0x70, 0x002, 1, 1, 2, .bool, .wo, 2, 0, .no, false, .any, "FLT_TEST.close"⟩,
  ⟨0x70, 0x002, 1, 1, 3, .u 2, .ro, 1, 0, .no, false, .any, "FLT_TEST.remaining_s"⟩,
  ⟨0x70, 0x003, 1, 1, 1, .bool, .ro, 1, 0, .no, false, .any, "FLT_ECLIPSE.valid"⟩,
  ⟨0x70, 0x003, 1, 1, 2, .u 1, .ro, 1, 0, .no, false, .any, "FLT_ECLIPSE.reason"⟩,
  ⟨0x70, 0x003, 1, 1, 3, .u 8, .ro, 1, 0, .no, false, .any, "FLT_ECLIPSE.detect_tick"⟩,
  ⟨0x70, 0x003, 1, 1, 4, .u 8, .ro, 1, 0, .no, false, .any, "FLT_ECLIPSE.detect_st"⟩,
  ⟨0x70, 0x003, 1, 1, 5, .u 8, .ro, 1, 0, .no, false, .any, "FLT_ECLIPSE.entry_tick"⟩,
  ⟨0x70, 0x003, 1, 1, 6, .u 4, .ro, 1, 0, .no, false, .any, "FLT_ECLIPSE.blocks"⟩,
  ⟨0x70, 0x003, 1, 1, 7, .u 1, .ro, 1, 0, .no, false, .any, "FLT_ECLIPSE.first_block"⟩,
  ⟨0x70, 0x003, 1, 1, 8, .u 1, .ro, 1, 0, .no, false, .any, "FLT_ECLIPSE.first_source"⟩,
  ⟨0x70, 0x003, 1, 1, 9, .u 2, .ro, 1, 0, .no, false, .any, "FLT_ECLIPSE.cause"⟩,
  ⟨0x70, 0x003, 1, 1, 10, .u 8, .ro, 1, 0, .no, false, .any, "FLT_ECLIPSE.linger_end_tick"⟩,
  ⟨0x70, 0x003, 1, 1, 11, .bool, .ro, 1, 0, .no, false, .any, "FLT_ECLIPSE.fw_running"⟩,
  ⟨0x70, 0x004, 1, 1, 1, .bool, .ro, 1, 0, .no, false, .any, "FLT_ECLIPSE_PREV.valid"⟩,
  ⟨0x70, 0x004, 1, 1, 2, .u 1, .ro, 1, 0, .no, false, .any, "FLT_ECLIPSE_PREV.reason"⟩,
  ⟨0x70, 0x004, 1, 1, 3, .u 8, .ro, 1, 0, .no, false, .any, "FLT_ECLIPSE_PREV.detect_tick"⟩,
  ⟨0x70, 0x004, 1, 1, 4, .u 8, .ro, 1, 0, .no, false, .any, "FLT_ECLIPSE_PREV.detect_st"⟩,
  ⟨0x70, 0x004, 1, 1, 5, .u 8, .ro, 1, 0, .no, false, .any, "FLT_ECLIPSE_PREV.entry_tick"⟩,
  ⟨0x70, 0x004, 1, 1, 6, .u 4, .ro, 1, 0, .no, false, .any, "FLT_ECLIPSE_PREV.blocks"⟩,
  ⟨0x70, 0x004, 1, 1, 7, .u 1, .ro, 1, 0, .no, false, .any, "FLT_ECLIPSE_PREV.first_block"⟩,
  ⟨0x70, 0x004, 1, 1, 8, .u 1, .ro, 1, 0, .no, false, .any, "FLT_ECLIPSE_PREV.first_source"⟩,
  ⟨0x70, 0x004, 1, 1, 9, .u 2, .ro, 1, 0, .no, false, .any, "FLT_ECLIPSE_PREV.cause"⟩,
  ⟨0x70, 0x004, 1, 1, 10, .u 8, .ro, 1, 0, .no, false, .any, "FLT_ECLIPSE_PREV.linger_end_tick"⟩,
  ⟨0x70, 0x004, 1, 1, 11, .bool, .ro, 1, 0, .no, false, .any, "FLT_ECLIPSE_PREV.fw_running"⟩,
  ⟨0x70, 0x100, 24, 1, 1, .u 1, .ro, 1, 0, .no, false, .any, "FLT_BLOCK.current"⟩,
  ⟨0x70, 0x100, 24, 1, 2, .u 1, .w1c, 2, 0, .no, false, .mask 0xF, "FLT_BLOCK.latch"⟩,
  ⟨0x70, 0x100, 24, 1, 3, .u 1, .rw, 2, 0, .store, false, .mask 0xF, "FLT_BLOCK.mask"⟩,
  ⟨0x70, 0x100, 24, 1, 4, .u 2, .wo, 2, 0, .no, false, .mask 0x3F, "FLT_BLOCK.force"⟩,
  ⟨0x70, 0x100, 24, 1, 5, .bool, .wo, 2, 0, .no, false, .any, "FLT_BLOCK.rearm"⟩,
  ⟨0x70, 0x100, 24, 1, 6, .u 4, .ro, 1, 0, .no, false, .any, "FLT_BLOCK.corrected"⟩,
  ⟨0x70, 0x100, 24, 1, 7, .u 4, .ro, 1, 0, .no, false, .any, "FLT_BLOCK.contained"⟩,
  ⟨0x70, 0x100, 24, 1, 8, .u 4, .ro, 1, 0, .no, false, .any, "FLT_BLOCK.forced"⟩]

/-- Rows of spec/20_faults_eclipse.md Table 20-8 (R416) (part 2). -/
def rowsArea70_2 : List ObjRow := [
  ⟨0x70, 0x100, 24, 1, 9, .u 4, .ro, 1, 0, .no, false, .any, "FLT_BLOCK.checker_fail"⟩,
  ⟨0x70, 0x140, 24, 1, 1, .bool, .ro, 1, 0, .no, false, .any, "FLT_FIRST.valid"⟩,
  ⟨0x70, 0x140, 24, 1, 2, .u 1, .ro, 1, 0, .no, false, .any, "FLT_FIRST.source"⟩,
  ⟨0x70, 0x140, 24, 1, 3, .u 1, .ro, 1, 0, .no, false, .any, "FLT_FIRST.class"⟩,
  ⟨0x70, 0x140, 24, 1, 4, .u 2, .ro, 1, 0, .no, false, .any, "FLT_FIRST.cause"⟩,
  ⟨0x70, 0x140, 24, 1, 5, .u 8, .ro, 1, 0, .no, false, .any, "FLT_FIRST.detect_tick"⟩,
  ⟨0x70, 0x140, 24, 1, 6, .u 8, .ro, 1, 0, .no, false, .any, "FLT_FIRST.detect_st"⟩,
  ⟨0x70, 0x140, 24, 1, 7, .u 8, .ro, 1, 0, .no, false, .any, "FLT_FIRST.clear_tick"⟩,
  ⟨0x70, 0x140, 24, 1, 8, .u 1, .ro, 1, 0, .no, false, .any, "FLT_FIRST.same_tick"⟩,
  ⟨0x70, 0x140, 24, 1, 9, .u 1, .ro, 1, 0, .no, false, .any, "FLT_FIRST.flags"⟩,
  ⟨0x70, 0x140, 24, 1, 10, .u 1, .ro, 1, 0, .no, false, .any, "FLT_FIRST.prior_class"⟩,
  ⟨0x70, 0x140, 24, 1, 11, .u 4, .ro, 1, 0, .no, false, .any, "FLT_FIRST.later"⟩]

/-- Every row of area 70. -/
def rowsArea70 : List ObjRow := rowsArea70_1 ++ rowsArea70_2

/-- Rows of spec/21_boot_power_dump.md Table 21-8 (R432) (part 1). -/
def rowsArea78_1 : List ObjRow := [
  ⟨0x78, 0x001, 1, 1, 1, .u 1, .wo, 4, 0, .no, false, .rng (1) 1, "RESET_CTRL.command"⟩,
  ⟨0x78, 0x001, 1, 1, 2, .u 2, .rw, 4, 0, .store, false, .own, "RESET_CTRL.auto_reset_s"⟩,
  ⟨0x78, 0x001, 1, 1, 3, .u 1, .ro, 1, 0, .no, false, .any, "RESET_CTRL.last_cause"⟩,
  ⟨0x78, 0x001, 1, 1, 4, .u 4, .ro, 1, 0, .no, false, .any, "RESET_CTRL.count"⟩,
  ⟨0x78, 0x002, 1, 1, 1, .u 1, .ro, 1, 0, .no, false, .any, "BOOT_STATUS.state"⟩,
  ⟨0x78, 0x002, 1, 1, 2, .u 1, .ro, 1, 0, .no, false, .any, "BOOT_STATUS.slot"⟩,
  ⟨0x78, 0x002, 1, 1, 3, .u 1, .ro, 1, 0, .no, false, .any, "BOOT_STATUS.security_version"⟩,
  ⟨0x78, 0x002, 1, 1, 4, .u 1, .ro, 1, 0, .no, false, .any, "BOOT_STATUS.refused_a"⟩,
  ⟨0x78, 0x002, 1, 1, 5, .u 1, .ro, 1, 0, .no, false, .any, "BOOT_STATUS.refused_b"⟩,
  ⟨0x78, 0x002, 1, 1, 6, .u 8, .ro, 1, 0, .no, false, .any, "BOOT_STATUS.restore_tick"⟩,
  ⟨0x78, 0x003, 1, 1, 1, .u 1, .rw, 8, 0, .no, false, .rng (0) 1, "FW_IMAGE.slot"⟩,
  ⟨0x78, 0x003, 1, 1, 2, .blob 33554432, .wo, 8, 0, .no, false, .any, "FW_IMAGE.data"⟩,
  ⟨0x78, 0x003, 1, 1, 3, .bool, .wo, 8, 0, .no, false, .any, "FW_IMAGE.commit"⟩,
  ⟨0x78, 0x004, 1, 1, 1, .blob 32, .ro, 1, 0, .no, false, .any, "FUSE.key_hash"⟩,
  ⟨0x78, 0x004, 1, 1, 2, .u 1, .ro, 1, 0, .no, false, .any, "FUSE.rollback"⟩,
  ⟨0x78, 0x004, 1, 1, 3, .blob 20, .ro, 1, 0, .no, false, .any, "FUSE.ceilings"⟩,
  ⟨0x78, 0x004, 1, 1, 4, .bool, .wo, 8, 0, .no, false, .any, "FUSE.advance_rollback"⟩,
  ⟨0x78, 0x005, 1, 1, 1, .u 2, .ro, 1, 800, .no, false, .any, "PWR_STATUS.vcore_mv"⟩,
  ⟨0x78, 0x005, 1, 1, 2, .s 2, .ro, 1, 0, .no, false, .any, "PWR_STATUS.margin"⟩,
  ⟨0x78, 0x005, 1, 1, 3, .u 4, .ro, 1, 0, .no, false, .any, "PWR_STATUS.avs_errors"⟩,
  ⟨0x78, 0x005, 1, 1, 4, .u 2, .w1c, 2, 0, .no, false, .mask 0xF, "PWR_STATUS.sticky"⟩,
  ⟨0x78, 0x006, 1, 1, 1, .s 2, .rw, 2, 15360, .store, false, .own, "THERM_CFG.warn_c"⟩,
  ⟨0x78, 0x006, 1, 1, 2, .s 2, .ro, 1, 17280, .no, false, .any, "THERM_CFG.shutdown_c"⟩,
  ⟨0x78, 0x010, 16, 1, 1, .s 2, .ro, 1, 0, .no, false, .any, "THERM.now"⟩,
  ⟨0x78, 0x010, 16, 1, 2, .s 2, .ro, 1, 0, .no, false, .any, "THERM.peak"⟩,
  ⟨0x78, 0x020, 1, 1, 1, .bool, .wo, 2, 0, .no, false, .any, "DUMP_CTRL.dump_now"⟩,
  ⟨0x78, 0x020, 1, 1, 2, .u 1, .wo, 2, 0, .no, false, .rng (1) 3, "DUMP_CTRL.clear"⟩,
  ⟨0x78, 0x021, 1, 1, 1, .u 1, .rw, 1, 0, .no, true, .rng (0) 1, "DUMP_READ.slot"⟩,
  ⟨0x78, 0x021, 1, 1, 2, .u 4, .rw, 1, 0, .no, true, .own, "DUMP_READ.chunk_index"⟩,
  ⟨0x78, 0x021, 1, 1, 3, .blob 1024, .ro, 1, 0, .no, true, .any, "DUMP_READ.chunk"⟩,
  ⟨0x78, 0x030, 2, 1, 1, .u 1, .ro, 1, 0, .no, false, .any, "DUMP_SLOT.state"⟩,
  ⟨0x78, 0x030, 2, 1, 2, .u 4, .ro, 1, 0, .no, false, .any, "DUMP_SLOT.sequence"⟩,
  ⟨0x78, 0x030, 2, 1, 3, .u 1, .ro, 1, 0, .no, false, .any, "DUMP_SLOT.trigger"⟩,
  ⟨0x78, 0x030, 2, 1, 4, .u 4, .ro, 1, 0, .no, false, .any, "DUMP_SLOT.total_len"⟩,
  ⟨0x78, 0x030, 2, 1, 5, .u 8, .ro, 1, 0, .no, false, .any, "DUMP_SLOT.capture_tick"⟩]

/-- Every row of area 78. -/
def rowsArea78 : List ObjRow := rowsArea78_1

/-- The rows of one area (R13). -/
def rowsOf (area : Nat) : List ObjRow :=
  match area with
  | 0x00 => rowsArea00
  | 0x10 => rowsArea10
  | 0x14 => rowsArea14
  | 0x18 => rowsArea18
  | 0x20 => rowsArea20
  | 0x24 => rowsArea24
  | 0x28 => rowsArea28
  | 0x2C => rowsArea2C
  | 0x30 => rowsArea30
  | 0x38 => rowsArea38
  | 0x40 => rowsArea40
  | 0x44 => rowsArea44
  | 0x48 => rowsArea48
  | 0x4C => rowsArea4C
  | 0x50 => rowsArea50
  | 0x58 => rowsArea58
  | 0x60 => rowsArea60
  | 0x68 => rowsArea68
  | 0x70 => rowsArea70
  | 0x78 => rowsArea78
  | _ => []

/-- Every row of the dictionary. -/
def allRows : List ObjRow := rowsArea00 ++ rowsArea10 ++ rowsArea14 ++ rowsArea18 ++ rowsArea20 ++ rowsArea24 ++ rowsArea28 ++ rowsArea2C ++ rowsArea30 ++ rowsArea38 ++ rowsArea40 ++ rowsArea44 ++ rowsArea48 ++ rowsArea4C ++ rowsArea50 ++ rowsArea58 ++ rowsArea60 ++ rowsArea68 ++ rowsArea70 ++ rowsArea78

/-- The instance of a row that an item number names, when it names one (R13). -/
def ObjRow.instOf (r : ObjRow) (item : Nat) : Option Nat :=
  if r.base ≤ item ∧ (item - r.base) % r.stride = 0 ∧ (item - r.base) / r.stride < r.count
  then some ((item - r.base) / r.stride) else none

/-- The number of instance `n` of a row's object. -/
def ObjRow.key (r : ObjRow) (n : Nat) : Key := odKey r.area (r.base + n * r.stride) r.member

/-- The rows whose object an item of an area names: one for each member. -/
def rowsAt (area item : Nat) : List ObjRow := (rowsOf area).filter (fun r => (r.instOf item).isSome)

/-- The row of an object number, when it names an object and a member. -/
def rowOf (k : Key) : Option ObjRow :=
  (rowsOf k.area).find? (fun r => r.member == k.member && (r.instOf k.item).isSome)

/-- The instance an object number names in its row. -/
def instOfKey (r : ObjRow) (k : Key) : Nat := (r.instOf k.item).getD 0

/-- Defaults that differ from instance to instance: moon 0 is enabled (Table 2-7), the weights of the public-key
queues (Table 15-5), the routes of sources 0 to 95 (Table 16-15), credential 0 (Table 17-6, R349), and the cause of the last reset, POWER_ON
(Table 21-8). -/
def instDefault (r : ObjRow) (n : Nat) : Int :=
  match r.area, r.base, r.member with
  | 0x10, 0x100, 1 => if n = 0 then 1 else 0
  | 0x78, 0x001, 3 => 1
  | 0x50, 0x010, 1 => [8, 2, 2, 4].getD n 0
  | 0x58, 0x100, 1 => if n < 96 then 0 else 255
  | 0x58, 0x100, 2 => if n < 96 then 1 else 0
  | 0x60, 0x010, 1 => if n = 0 then 1 else 0
  | 0x60, 0x010, 2 => n
  | 0x60, 0x010, 3 => if n = 0 then 15 else 0
  | _, _, _ => r.dflt

/-- The value an object holds at reset before anything is restored: its table default, or 0 where the tables state
none (DESIGN CHOICE, notes/assumptions/2.md). -/
def odDefault (k : Key) : Int :=
  match rowOf k with
  | some r => instDefault r (instOfKey r k)
  | none => 0

/-- The size in bytes of a type (Table 0-6). -/
def OdType.size : OdType → Nat
  | .bool => 1
  | .u n => n
  | .s n => n
  | .wt => 12
  | .str n => n
  | .blob n => n

end Sys2Proof.Machine
end

