-- ==== Sys2Proof/Machine/State.lean ====
section
/-! DEFINITION. The state of the IDY-7840 as plain data: the queue of waiting commands, the time clock's tick counter and
the moon accumulators, the fuses, and the engines (the dictionary objects by number, and the state the manual gives
each engine beside them). State.reset is the device held in reset. -/

namespace Sys2Proof.Machine

/-- A sparse table: entries keyed by a number, keys strictly rising. -/
abbrev Tbl (α : Type) := List (Nat × α)

/-- The dictionary objects that differ from their default: (object number, value), numbers strictly rising. An INTEGER
object holds its value, a STR, BLOB or WT the number its bytes hold least significant first (R14). -/
abbrev Store := List (Nat × Int)

/-! ## Timeline (spec/01_architecture.md, spec/02_moons.md) -/

/-- Moon states (Table 2-5 member 4). -/
inductive MoonState where
  | freeRun
  | acquiring
  | locked
  | holdover
  | lost
  deriving DecidableEq, Repr

/-- An epoch record (Table 2-5). `count` is the accumulator in 2^-48 ns, `flags` Table 2-6; `adv` says whether the moon
advances from the boundary (R39) and `leapBefore` the offset before the leap of members 9 and 10, which no member shows. -/
structure EpochRec where
  boundary : Nat
  count : Nat
  inc : Nat
  state : MoonState
  flags : Nat
  li : Nat
  stratum : Nat
  taiUtc : Int
  leapInstant : Nat
  leapDelta : Int
  leapBefore : Int
  errorBound : Int
  rootDispersion : Nat
  refid : Nat
  stepCount : Nat
  lastStep : Int
  adv : Bool
  deriving DecidableEq, Repr

/-- One moon as the time clock sees it: the accumulator (R38), the active increment (R41) and whether it advances
(R39). -/
structure MoonCore where
  acc : BitVec 128
  inc : BitVec 64
  adv : Bool
  deriving DecidableEq, Repr

/-- The time-clock domain: the tick counter (R22) and the 32 moons. -/
structure TimeCore where
  tick : Nat
  moons : List MoonCore
  deriving DecidableEq, Repr

/-- What a closing tick decided for one moon at the coming boundary (R24, R43, R46, R49): the increment it takes, the
change of its accumulator in 2^-48 ns and the last_step it reports, the linear count a set loads, and what is flagged. -/
structure Decision where
  inc : Nat
  delta : Int
  lastStep : Int
  setTo : Option Nat
  adv : Bool
  stepped : Bool
  consented : Bool
  refused : Bool
  ceiling : Bool
  clamped : Bool
  deriving DecidableEq, Repr

/-- The engines' side of one moon: its epoch records (the record before the current one serves projections to earlier
instants, R67), the sealed decision, the outvote counts of the three copies within this boundary and the failed copy
(R51), and the leap tracker's next point and the last one fired, as (linear count, code) (R74, R80). -/
structure MoonTl where
  prev : EpochRec
  cur : EpochRec
  next : EpochRec
  decision : Option Decision
  outvoted : List Nat
  failedCopy : Option Nat
  leapPoint : Option (Nat × Nat)
  leapFired : Option (Nat × Nat)
  deriving DecidableEq, Repr

/-! ## Schedule (spec/03_schedule.md) -/

/-- Schedule entry states (Table 3-1 member 7). -/
inductive EntryState where
  | empty
  | armed
  | queued
  | done
  | void
  deriving DecidableEq, Repr

/-- A schedule entry (Table 3-1). `fireAt` is the firing tick of a QUEUED entry and `inst` its moon 0 instant in
2^-48 ns; `firings` counts firings and skipped occurrences against `repeat_`. -/
structure SchedEntry where
  target : Nat
  moon : Nat
  action : Nat
  arg : Nat
  period : Int
  repeat_ : Nat
  state : EntryState
  flags : Nat
  fireTick : Nat
  fireCount : Nat
  roles : Nat
  result : Nat
  fireAt : Nat
  inst : Nat
  late : Bool
  overrun : Bool
  firings : Nat
  deriving DecidableEq, Repr

/-! ## Faults (spec/20_faults_eclipse.md) -/

/-- A condition of kind state that is present (R400): its block, cause row, instance, source and class. -/
structure Cond where
  block : Nat
  row : Nat
  inst : Nat
  src : Nat
  cls : Nat
  deriving DecidableEq, Repr

/-- Why the Eclipse rails changed (Table 20-9 member 2). -/
inductive EclReason where
  | fault
  | forced
  | regParity
  | rail
  deriving DecidableEq, Repr

/-- The first change of the Eclipse rails, between its detection tick and the entry tick (R409). -/
structure RailChange where
  tick : Nat
  st : Nat
  reason : EclReason
  blocks : Nat
  firstBlock : Nat
  firstSource : Nat
  cause : Nat
  deriving DecidableEq, Repr

/-- A detection, as R400 and R402 see it: its block, source, class, cause code, whether its condition is of kind state, and whether it
is forced. -/
structure Detection where
  block : Nat
  src : Nat
  cls : Nat
  cause : Nat
  isState : Bool
  forced : Bool
  deriving DecidableEq, Repr

/-- A scrub cycle of one memory (R407): the tick and moon 0 short time at which it began, the words read, and whether its overrun has
been raised. -/
structure ScrubCycle where
  tick : Nat
  st : Nat
  words : Nat
  late : Bool
  deriving DecidableEq, Repr

/-- The fault system beside its dictionary objects: the state conditions present, the detections of the last tick that had any,
oldest first, the rails, Eclipse with its linger, the moon 0 short time of the automatic reset, the test window's end (moon 0 short
time), and the scrub cycles in progress by memory. -/
structure Faults where
  conds : List Cond
  evTick : Nat
  recent : List Detection
  rail : Option RailChange
  eclipse : Bool
  lingerEnd : Nat
  lingering : Bool
  autoAt : Option Nat
  testEnd : Option Nat
  scrubs : Tbl ScrubCycle
  deriving DecidableEq, Repr

/-! ## Reset and boot (spec/21_boot_power_dump.md) -/

/-- Where the device stands between a reset and tick 0 (R421, R423, R424). -/
inductive Phase where
  | held
  | locking
  | stuck
  | running
  deriving DecidableEq, Repr

/-- The boot's progress (Table 21-5), the sampled straps (R423), the control cores, the slot that runs, and what a write of this command
asked of the fuses and the time clock: a WARM reset (R422), rollback bits blown up to a version (R427). -/
structure Boot where
  phase : Phase
  ddr : Bool
  creds : Bool
  fw : Bool
  stores : Bool
  restored : Bool
  recovery : Bool
  forceB : Bool
  oscSel : Nat
  coresHeld : Bool
  coresDown : Bool
  slot : Nat
  warmAsked : Bool
  rollbackTo : Option Nat
  deriving DecidableEq, Repr

/-- The control and status pins the device drives (Table 22-8). -/
structure Pins where
  timeOk : Bool
  eclipseN : Bool
  thermTripN : Bool
  deriving DecidableEq, Repr

/-- A copy of the configuration store (R357). -/
structure StoreCopy where
  valid : Bool
  generation : Nat
  values : Store
  deriving DecidableEq, Repr

/-- A firmware image slot's contents (R425): its bytes, and whether the flash reads them without error. -/
structure Image where
  readable : Bool
  data : Bytes
  deriving DecidableEq, Repr

/-- A fatal dump slot (R430): its header's fields and its bytes. -/
structure DumpSlot where
  state : Nat
  sequence : Nat
  trigger : Nat
  captureTick : Nat
  bytes : Bytes
  deriving DecidableEq, Repr

/-! ## What leaves the device -/

/-- What left the pins during a command: a timed frame released at a moon 0 instant (2^-16 ns), an untimed frame, a
management segment frame, an MSI-X message, a pulse edge (output, tick, 4 ps step, rising),
a time-of-day message, bytes written to host memory, an AVSBus voltage write in mV, and what firmware
puts into the TLS stream of an NTS-KE session. -/
inductive Output where
  | timedFrame (port inst : Nat) (bytes : Bytes)
  | frame (port : Nat) (bytes : Bytes)
  | segment (bytes : Bytes)
  | msix (vector : Nat)
  | pulse (out tick step : Nat) (rising : Bool)
  | tod (bytes : Bytes)
  | hostMem (address : Nat) (bytes : Bytes)
  | avs (mv : Nat)
  | ntsKe (session : Nat) (records : Bytes)
  deriving DecidableEq, Repr

/-! ## Ports and classifier (spec/04_ethernet_ports.md) -/

/-- Where a held frame comes from (Table 16-3, origin). -/
inductive RxOrigin where
  | rule
  | default_
  | mirror
  | answer
  | ptp
  | fcsErr
  deriving DecidableEq, Repr

/-- A host-bound frame in a port's receive buffer (R333): its ring, receive short time, status bits (Table 16-4), cause
(Table 16-5), rule, and the outer tag stripped from it as (TPID, TCI). -/
structure HeldFrame where
  ring : Nat
  bytes : Bytes
  rxTs : Nat
  status : Nat
  cause : Nat
  rule : Nat
  origin : RxOrigin
  tag : Option (Nat × Nat)
  deriving DecidableEq, Repr

/-- An untimed frame waiting at a port (R157): its source (a transmit ring, or the device itself), its frame without FCS
and its priority. -/
structure UntimedFrame where
  ring : Option Nat
  bytes : Bytes
  prio : Nat
  fw : Bool
  deriving DecidableEq, Repr

/-- One port beside its objects: the instant each priority's received pause ends (R93), the instant at which the XOFF in
force is repeated (R94), the short times of the last ESMC frame received and sent (R97, R98), the host-bound receive
buffer (R333), the frames of the device's own that wait untimed, the source the transmitter last chose (R157), and the
lost and worst echoes' window (R120). -/
structure Port where
  pause : Tbl Nat
  xoff : Option Nat
  esmcHeard : Nat
  esmcSent : Nat
  rxHeld : List HeldFrame
  untimed : List UntimedFrame
  lastSource : Nat
  echoes : List Bool
  deriving DecidableEq, Repr

/-- The classifier's banks beside their objects (R105): the bank in force before the last commit and the moon 0 linear
count from which the present one classifies, the commit waiting for its tick, whether the copy into the edit bank still
runs, and the matches counted for each rule's mirror sampling (R104). -/
structure Classifier where
  oldBank : Store
  newFrom : Nat
  commitAt : Option Nat
  copyEnd : Option Nat
  mirrored : Tbl Nat
  badRules : List Nat
  badSvc : List Nat
  deriving DecidableEq, Repr

/-! ## Wire timestamps (spec/05_wire_timestamps.md) -/

/-- The terms of Table 5-2 that are applied at a boundary, in 2^-16 ns. -/
structure LaneTerms where
  offRx : Int
  anaRx : Int
  serRx : Int
  resRx : Int
  offTx : Int
  drvTx : Int
  serTx : Int
  resTx : Int
  deriving DecidableEq, Repr

/-- A mean in the making: the sum and the number of its samples. -/
structure Mean where
  sum : Int
  n : Nat
  deriving DecidableEq, Repr

/-- One lane's live calibration (R115 to R121): the set in force, the set of the boundary before it, the set sealed for
the coming boundary, the measurements since the last closing tick, the markers and echoes since ts_valid was last taken
away, the run of closure residuals beyond the limit (R119), and the loopback samples of an open window (R126). -/
structure LaneUnit where
  live : LaneTerms
  prev : LaneTerms
  sealed : Option LaneTerms
  serRx : Mean
  resRx : Mean
  serTx : Mean
  resTx : Mean
  markers : Nat
  echoes : Nat
  closureRun : Nat
  rtt : Mean
  deriving DecidableEq, Repr

/-- Changed calibration items wait for their store: the moon 0 short time of the oldest change. -/
structure StoreWait where
  since : Option Nat
  deriving DecidableEq, Repr

/-! ## Answer engine (spec/06_answer_engine.md) -/

/-- A request in a pipeline's input queue (R129): its port, answer rule, service entry (version and index), the frame
without FCS, and its receive wire timestamp as a moon 0 linear count. -/
structure AnsReq where
  port : Nat
  rule : Nat
  v6 : Bool
  entry : Nat
  bytes : Bytes
  rxLin : Nat
  deriving DecidableEq, Repr

/-- One answer pipeline: its input queue, whether the accept slot of the present two ticks is taken (R130), a probe due
before its first request (R146), responses released since the last one sampled (R145), the tick of the last sample, the
ticks of its end-to-end CRC failures (R144), the sampled responses waiting for the checker, and the AES blocks committed
in a window of 1,024 ticks, in 1/256 block (R181). -/
structure Pipe where
  queue : List AnsReq
  slotUsed : Bool
  probeFirst : Bool
  sampleCount : Nat
  lastSample : Nat
  crcTicks : List Nat
  toCheck : Nat
  aesWindow : Nat
  aesUsed : Nat
  deriving DecidableEq, Repr

/-- A rate-limit bucket (Table 6-6). -/
structure Bucket where
  level : Nat
  kod : Nat
  last : Nat
  tag : Nat
  deriving DecidableEq, Repr

/-- An answer rule's or a port's old values and the moon 0 linear count from which the new ones hold (R132, R155). -/
structure Deferred where
  key : Nat
  old : Int
  from_ : Nat
  deriving DecidableEq, Repr

/-- The answer engine: the pipelines and the one the dispatcher chose last, the buckets that differ from Table 6-6's
reset values, the epoch of those values and of the hash key, old values kept beside new ones, and what an uncorrectable
error has taken out of use. -/
structure Answer where
  pipes : List Pipe
  lastPipe : Nat
  buckets : Tbl Bucket
  bucketEpoch : Nat
  hashKey : Nat
  sweptTo : Nat
  deferred : List Deferred
  badRules : List Nat
  badProfiles : List Nat
  deriving DecidableEq, Repr

/-! ## Departure calendar (spec/07_scheduled_departure.md) -/

/-- What the answer engine sends: a response, an NTS response, a KoD (R142) or a Crypto-NAK (R168). -/
inductive AnsKind where
  | plain
  | nts
  | kod
  | nak
  deriving DecidableEq, Repr

/-- Who asked for a reservation: an answer of a pipeline under an answer rule, a PTP message of an
instance or an upstream unit, or a host frame with its ring, sequence number, tag and launch time. -/
inductive ResvOrigin where
  | answer (pipe rule : Nat) (kind : AnsKind)
  | ptp (inst : Nat)
  | upstream (unit_ seq : Nat)
  | host (ring seq tag lt : Nat)
  deriving DecidableEq, Repr

/-- A reservation (R150 to R152): its departure instant in 2^-16 ns, the stream block of that instant, the length with
FCS, its flow-control priority, its transmit latency and lane, the frame, and the instant its first 256 bytes are in the FIFO once its
fetch has started (R162). -/
structure Resv where
  at_ : Nat
  block : Nat
  len : Nat
  prio : Nat
  ltx : Int
  lane : Nat
  period : Nat
  window : Nat
  host : Bool
  origin : ResvOrigin
  frame : Bytes
  fetch : Option Nat
  deriving DecidableEq, Repr

/-- A timed frame released, whose echo is awaited (R120). -/
structure Sent where
  at_ : Nat
  tick : Nat
  lane : Nat
  origin : ResvOrigin
  deriving DecidableEq, Repr

/-- The calendar of a port: its reservations in order of stream position, the deficit idle count after the last one made
(R152), the transmit stream's block up to which an untimed frame occupies the wire, the largest fetch latency of the
boundary, the margin sealed for the coming one (R162), and the frames whose echo is awaited. -/
structure Calendar where
  resv : List Resv
  deficit : Nat
  lastEnd : Nat
  busyTo : Nat
  fetchMax : Nat
  sealedMargin : Option (Nat × Nat)
  awaiting : List Sent
  share : Nat
  timedPct : Nat
  deriving DecidableEq, Repr

/-! ## NTS (spec/08_nts.md) -/

/-- An NTS-KE session (R184): the short time of its SYN, its port and the SYN's frame. -/
structure KeSession where
  since : Nat
  port : Nat
  syn : Bytes
  deriving DecidableEq, Repr

/-- The key store's and NTS-KE's state beside their objects: the key last written to each slot and not yet loaded (R172),
the AES blocks the DRBG has given since its last seeding, the moon 0 short time at which it stopped or last retried
(R178), the open NTS-KE sessions by client address and port (R184), and the short times of the handshakes started within
the last second (R185). -/
structure Nts where
  imported : Tbl Nat
  drbgBlocks : Nat
  drbgStopped : Option Nat
  sessions : Tbl KeSession
  starts : List Nat
  retireChecked : Nat
  deriving DecidableEq, Repr

/-! ## PTP engine (spec/09_ptp_service.md) -/

/-- A grant (R193, R195): the messageType, log period, expiry and due ticks, the next sequenceId, and the moon 0 linear
count of the last Delay_Req accepted under it. -/
structure Grant where
  type : Nat
  log : Int
  expiry : Nat
  due : Nat
  seq : Nat
  lastReq : Option Nat
  deriving DecidableEq, Repr

/-- A client of the grant table, keyed by instance, port, transport address and sourcePortIdentity (R194): the IP version
(0 for Ethernet), addresses of both ends, MAC addresses and tags for its messages, and its grants. -/
structure PtpClient where
  inst : Nat
  port : Nat
  ver : Nat
  addr : Bytes
  ident : Bytes
  local_ : Bytes
  mac : Nat
  ownMac : Nat
  tags : List (Nat × Nat)
  grants : List Grant
  deriving DecidableEq, Repr

/-- A multicast stream: the tick its next message is due and its sequenceId, by instance, port and type. -/
structure McStream where
  due : Nat
  seq : Nat
  deriving DecidableEq, Repr

/-- The PTP engine: the grant table, the multicast streams, and the messages sent in the present 10^9 ticks (R197). -/
structure Ptp where
  clients : List PtpClient
  streams : Tbl McStream
  rateWindow : Nat
  rateUsed : Nat
  sigSeq : Nat
  deriving DecidableEq, Repr

/-- A Sync of an upstream master (R207): t2 as a moon 0 linear count, its tick, t1 in 2^-16 ns with corrections, its
sequenceId, and whether its Follow_Up is awaited since a moon 0 short time. -/
structure UpSync where
  t2 : Nat
  tick : Nat
  t1 : Int
  corr : Int
  seq : Nat
  waiting : Option Nat
  deriving DecidableEq, Repr

/-- An upstream client unit: grant expiries and asking times per type, the next Delay_Req tick and sequenceId, the
Delay_Req in flight (sequenceId, t3), the last complete Delay_Resp exchange (t3, t4), the Sync held, the short time
from which a denied request waits, and the master's MAC address once heard. -/
structure UpUnit where
  granted : Tbl Nat
  renewAt : Tbl Nat
  nextReq : Nat
  reqSeq : Nat
  sigSeq : Nat
  inFlight : Option (Nat × Option Nat)
  exchange : Option (Int × Int)
  sync : Option UpSync
  deniedAt : Option Nat
  mac : Option Nat
  deriving DecidableEq, Repr

/-! ## Reference inputs (spec/10_reference_inputs.md) -/

/-- A REFIN measurement unit: a restart due at the next boundary (R212), the moon 0 linear counts of the last compare edge
and of the restart, the corrected phase of the last edge and the unwrapped phases, newest first, over the gate (R214), the
delay in force, the peaks in mV sealed for the slicer (R213), the tick each cause's condition was last present, the moon 0
short time since which no cause has been set, and the run of test edges out of place (R219). -/
structure RefinUnit where
  restart : Bool
  prev : Option Nat
  begun : Nat
  phase : Option Int
  hist : List Int
  delay : Int
  peaks : Option (Int × Int)
  seen : Tbl Nat
  clean : Nat
  testBad : Nat
  deriving DecidableEq, Repr

/-- A SyncE comparator (R224): the unwrapped phases over its gate, newest first, the tick each cause's condition was last present,
the moon 0 short time since which no cause has been set, and the run of test edges out of place. -/
structure SynceUnit where
  hist : List Int
  seen : Tbl Nat
  clean : Nat
  testBad : Nat
  deriving DecidableEq, Repr

/-- The time-of-day input (R225): the number of PPS edges seen and the moon 0 linear count of the last, a label that waits
for the next edge with the count at its end, the last label as TAI seconds with its edge's number, the labels in a row that agree, and the
edges in a row without a label. -/
structure TodUnit where
  edges : Nat
  lastEdge : Option Nat
  waiting : Option (Int × Nat)
  label : Option (Int × Nat)
  agree : Nat
  missed : Nat
  deriving DecidableEq, Repr

/-- What another member of the station published last (R222, Table 18-4): its moon 0 state, error bound, the sibling its
selected reference is fed from, and the moon 0 short time of arrival. -/
structure SibPub where
  state : Nat
  bound : Int
  sibling : Nat
  at_ : Nat
  deriving DecidableEq, Repr

/-! ## GNSS (spec/11_gnss.md) -/

/-- The orbit data held of a satellite (R237, R243): its ephemeris's validity in TAI seconds, from and until, with whether the
satellite's week is fixed, and the TAI second its almanac was received. -/
structure Orbit where
  eph : Option (Nat × Nat)
  week : Bool
  alm : Option Nat
  deriving DecidableEq, Repr

/-- One front end (R230 to R253): a restart due at the next boundary (R251), what the last sample block showed (R230) and the
runs of noisy blocks of its four streams, the causes seen since the last epoch (R250), the moon 0 short times since which
no cause has been set, of the last solution and of the last tracking channel, the last epoch instant, the epochs with a
drift estimate in a row, the last solution (offset, frequency, tick), the step or set applied to moon 0 since (Table 11-4),
the runs of inconsistent and of misplaced epochs, the noise floors of the two bands now and at the epochs of the last 3,600 s, the antenna fault pin, the short
time a satellite in use last turned FAILED, the survey (its start, sums and number of positions, and whether it is
finished), and the delays in force. -/
structure GnssFe where
  restart : Bool
  frozen : Bool
  noisy : Bool
  noiseRuns : List Nat
  seen : Nat
  clean : Nat
  solAt : Nat
  trackAt : Nat
  lastEpoch : Nat
  ffRun : Nat
  last : Option (Int × Option Int × Nat)
  jump : Int
  incRun : Nat
  posRun : Nat
  floor : Int × Int
  floors : List (Nat × Int × Int)
  antLow : Bool
  osnmaAt : Option Nat
  survey : Option Nat
  sumLat : Int
  sumLon : Int
  sumHeight : Int
  fixes : Nat
  surveyed : Bool
  dlyUpper : Int
  dlyLower : Int
  deriving DecidableEq, Repr

/-- The GNSS baseband: front ends, the moon 0 short time from which each channel has been below cn0_min, that at which each
channel was excluded, that at which each Galileo satellite FAILED, the orbits by 256 × system + PRN, and the time of the
last save. -/
structure Gnss where
  fes : List GnssFe
  below : Tbl Nat
  excluded : Tbl Nat
  failed : Tbl Nat
  orbits : Tbl Orbit
  savedAt : Nat
  deriving DecidableEq, Repr

/-! ## Selector (spec/12_selection.md) -/

/-- A measurement handed to the selector (R215, R240, R207): its tick, the offset against moon 0 in 2^-16 ns, the
frequency offset in 2^-64 when it has one, the flags seconds_valid, PHASE_UNCAL and frequency_only, the source's own bound,
and for a PTP master the mean path delay. -/
structure Meas where
  tick : Nat
  off : Int
  ff : Option Int
  seconds : Bool
  uncal : Bool
  freqOnly : Bool
  bound : Int
  delay : Option Int
  deriving DecidableEq, Repr

/-- A measurement with moon 0's steering removed (R258): raw offset and raw frequency. -/
structure RawMeas where
  tick : Nat
  raw : Int
  ff : Int
  hasFf : Bool
  seconds : Bool
  bound : Int
  deriving DecidableEq, Repr

/-- A new asymmetry in the making (R268): the independent slot, the sum and number of its samples, the moon 0 short time at which
it began, its stage (0 averaging, 1 complete, 2 due at the coming boundary), and whether the integrator wrote it. -/
structure Asym where
  indep : Nat
  sum : Int
  n : Nat
  since : Nat
  stage : Nat
  user : Bool
  deriving DecidableEq, Repr

/-- A candidate slot beside its objects: the source in force (R256), the latest measurement, the prediction's base, the
residual of a first outlier and the jump (R265), the last 64 path delays and the run of exchanges away from their mean
(R267), the asymmetry estimate, the moon 0 short times from which the DRIFT and STABILITY tests have stood outside and
inside their masks, of the last measurement, and of the start of its wait-to-restore, the moon a step is staged for and
the moons that had the slot selected when the jump was confirmed (R275), and the stability history: the second in the making, its mean, and the samples, newest first
(R260). -/
structure SelSlot where
  source : Nat
  latest : Option RawMeas
  pred : Option RawMeas
  outlier : Option Int
  jump : Option Int
  stepFor : Option Nat
  jumpMoons : List Nat
  paths : List Int
  pathRun : List Int
  asym : Option Asym
  driftOut : Option Nat
  driftIn : Option Nat
  stabOut : Option Nat
  stabIn : Option Nat
  heard : Nat
  wait : Option Nat
  second : Nat
  mean : Mean
  samples : List Int
  deriving DecidableEq, Repr

/-- A prediction of error without a reference (R287), a holdover's or a shadow's: the moon 0 short times at which it began
and of the last closing tick, b_e in 2^-16 ns, the temperature then, the uncertainties then, the phase u_y has run to in
seconds, the ageing time in seconds and the sum of |T − T_e| over time, all in 2^-96, and the drift of an OPEN moon in
2^-48 ns. -/
structure HoldEntry where
  since : Nat
  last : Nat
  bound : Int
  temp : Int
  uY : Int
  uA : Int
  uT : Int
  yPhase : Int
  age : Int
  tempSum : Int
  drift : Int
  deriving DecidableEq, Repr

/-- An anchor of a shadow (R261): the moon's count in 2^-48 ns, its tick, the model's predicted phase then in ns (2^-96), and
the error predicted since. -/
structure Anchor where
  count : Nat
  tick : Nat
  phase : Int
  err : HoldEntry
  deriving DecidableEq, Repr

/-- The selection of one moon: the decision for the coming boundary as a slot and reason (R271), the moon 0 short time at
which the selected slot became ineligible, the short time since which the moon is LOCKED and of the next anchor, the
anchors, newest first (R261), the boundary from which the selected slot feeds the loop, the tick of the last measurement
that reached it, and the SWITCH to act at the next closing tick, as its slot and schedule entry (R272). -/
structure SelMoon where
  pending : Option (Nat × Nat)
  lostAt : Option Nat
  lockedAt : Option Nat
  anchors : List Anchor
  anchorNext : Nat
  feedFrom : Nat
  fedAt : Option Nat
  switchTo : Option (Nat × Nat)
  deriving DecidableEq, Repr

/-- The selector: slots, moons, the counts and increments of every moon at the boundaries of the last 2^30 ticks, newest first (a
stopped moon has increment 0), the run of closing ticks at which its copies disagreed, whether they disagreed at the last, whether it
is out of use, the moons whose selection is held (Table 12-5 row 3), and the configuration of areas 28 and 2C in force and sealed for the coming boundary (R277, R295). -/
structure Selector where
  slots : List SelSlot
  moons : List SelMoon
  past : List (Nat × List (Nat × Nat))
  badRun : Nat
  badNow : Bool
  dead : Bool
  held : List Nat
  cfg : Store
  cfgNext : Store
  deriving DecidableEq, Repr

/-! ## Steering (spec/13_steering_holdover.md) -/

/-- The steering unit of one moon: whether its loop is open (the mode in force, R279), the filter (R283): integrator, output
and replica in 2^-96 (of one, and of ns) with the replica's tick, whether a clamp acted at the last boundary, the latest
phase error in 2^-16 ns and the candidate's frequency offset against the moon, the phase errors of the closing ticks of
the last lock_dwell seconds, the moon 0 short times from which rows 6, 8 and 10 of Table 13-2 have held, EVER_LOCKED, the error
bound of the last LOCKED record (R287), the holdover entered, the loop outputs of the last 60 s and their mean kept for holdover (R289), RESTART accepted and sealed for
the coming boundary, the run of
disagreeing copies and whether it runs as if nothing were selected (R294). -/
structure SteerUnit where
  isOpen : Bool
  integ : Int
  out : Int
  replica : Int
  repTick : Nat
  clamped : Bool
  error : Int
  ffError : Int
  errors : List (Nat × Nat)
  lockFrom : Option Nat
  unlockFrom : Option Nat
  timeFrom : Option Nat
  everLocked : Bool
  lockedBound : Int
  hold : Option HoldEntry
  outs : List (Nat × Int)
  fallback : Int
  restart : Bool
  restartNow : Bool
  badRun : Nat
  alone : Bool
  deriving DecidableEq, Repr

/-- The oscillator model (R291 to R293): coefficients in FF units and covariance in FF² units, both times 2^96, whether it has started from OSC_SEED and is to
restart, the observations, the last 3,600
residuals, the run beyond model_limit, moon 0's integrator summed over the present second, the predicted frequency and
the phase it adds up to in ns (2^-96), the temperature samples of the last 64 s in 2^-96 °C, the temperature and its rate, the
excluded die sensors, the last tick at which a clamp acted on moon 0, and the run of disagreeing copies. -/
structure OscModel where
  coef : List Int
  cov : List (List Int)
  seeded : Bool
  restart : Bool
  obs : Nat
  residuals : List Int
  badRun : Nat
  second : Nat
  sum : Mean
  y : Int
  phase : Int
  temps : List (Nat × Int)
  temp : Int
  rate : Int
  excluded : List Nat
  clampAt : Option Nat
  badCopies : Nat
  dead : Bool
  deriving DecidableEq, Repr

/-! ## Outputs (spec/14_outputs.md) -/

/-- A clock output (R297, R299): held low until its synthesizer reports lock, and the moon 0 linear count at which an aligned
output restarts. -/
structure ClkUnit where
  held : Bool
  startAt : Option Nat
  deriving DecidableEq, Repr

/-- A pulse output (R300 to R302): the edges placed and not yet launched, as moon 0 instants in 2^-48 ns with their direction
(true for rising), in order of instant; the level driven, the tick of the last edge, the run of edges more than 50 ps off,
whether a comparator has squelched it, and whether its device entry is to be rebuilt. -/
structure PpsUnit where
  edges : List (Nat × Bool)
  level : Bool
  lastTick : Option Nat
  bad : Nat
  tripped : Bool
  rebuild : Bool
  deriving DecidableEq, Repr

/-- The output engine: the configuration of area 18 in force, the outputs, and a time-of-day message that waits (R305): the moon
0 linear count at which it starts, its bytes, and whether its status is V. -/
structure Outs where
  cfg : Store
  clks : List ClkUnit
  pps : List PpsUnit
  tod : Option (Nat × Bytes × Bool)
  deriving DecidableEq, Repr

/-! ## Public-key engine (spec/15_public_key_engine.md) -/

/-- A command accepted (R310): its operation code, queue, order of submission, tick of submission and record. -/
structure PkJob where
  op : Nat
  queue : Nat
  seq : Nat
  submitTick : Nat
  cmd : PkCmd
  deriving DecidableEq, Repr

/-- A command in a unit: its tick of dispatch, and whether validation is over. -/
structure PkRun where
  job : PkJob
  at_ : Nat
  executing : Bool
  deriving DecidableEq, Repr

/-- A unit: its command, the tick of its last FAULT, and whether it is out of service (R322). -/
structure PkUnit where
  run : Option PkRun
  faultAt : Option Nat
  out : Bool
  deriving DecidableEq, Repr

/-- A completion record (Table 15-6). -/
structure PkDone where
  tag : Nat
  op : Nat
  status : Nat
  cycles : Nat
  submitTick : Nat
  doneTick : Nat
  deriving DecidableEq, Repr

/-- The public-key engine: the operand memory's words that are not zero, the words that are uncorrectable, the private keys by
handle, the queues, the units, the host's completion records, the round robin's queue and what is left of its weight, and the
number of the next submission. -/
structure Pk where
  mem : Tbl Nat
  bad : List Nat
  priv : Tbl Nat
  queues : List (List PkJob)
  units : List PkUnit
  done : List PkDone
  turn : Nat
  credit : Nat
  seq : Nat
  deriving DecidableEq, Repr

/-! ## Interrupts (R335, R336) -/

/-- The interrupt logic: the latched sources with the tick of each one's last event, the vectors' armed, MSI-X mask and
pending bits, the moon 0 short time of each vector's last message, and whether the PCIe link is up. -/
structure Irq where
  latched : Nat
  latchTick : Tbl Nat
  armed : Nat
  masked : Nat
  pba : Nat
  lastMsg : Tbl Nat
  link : Bool
  deriving DecidableEq, Repr

/-! ## Rings, Tail queues and window contexts (spec/16_host_interface.md) -/

/-- Ring states (Table 16-2). -/
inductive RingState where
  | disabled
  | running
  | stopped
  deriving DecidableEq, Repr

/-- A receive ring's doorbell page (Table 16-2). -/
structure RxRing where
  state : RingState
  prod : Nat
  cons : Nat
  ack : Nat
  err : Nat
  deriving DecidableEq, Repr

/-- A transmit frame taken from its ring and not yet complete: the count of its first descriptor, the posted word 3 of
each, and its status once known (Table 16-7). -/
structure TxFlight where
  first : Nat
  word3 : List Nat
  status : Option Nat
  deriving DecidableEq, Repr

/-- A host frame with a launch time at the head of its ring (R159). -/
structure LaunchFrame where
  port : Nat
  bytes : Bytes
  lt : Nat
  slack : Nat
  tag : Nat
  first : Nat
  tried : Option Nat
  deriving DecidableEq, Repr

/-- A transmit ring: its doorbell page, the count of the next descriptor to take, the launch frame at its head, the
untimed frames that wait (port, first descriptor, frame), and the frames taken. -/
structure TxRing where
  state : RingState
  prod : Nat
  cons : Nat
  ack : Nat
  err : Nat
  taken : Nat
  launch : Option LaunchFrame
  waiting : List (Nat × Nat × UntimedFrame)
  flight : List TxFlight
  deriving DecidableEq, Repr

/-- A Tail queue entry (Table 16-10). -/
structure TailEntry where
  t : Nat
  seq : Nat
  tag : Nat
  ltDelta : Nat
  echo : Int
  number : Nat
  ring : Nat
  outcome : Nat
  beyond : Bool
  lossBefore : Bool
  deriving DecidableEq, Repr

/-- A Tail queue and its window (Table 16-11). -/
structure Tail where
  entries : List TailEntry
  lost : Nat
  made : Nat
  overflow : Bool
  overflowTick : Nat
  lossPending : Bool
  deriving DecidableEq, Repr

/-- A dictionary window context (Table 16-13): its state 0 IDLE, 1 PENDING, 2 DONE, 3 ERROR. -/
structure WinCtx where
  reqLen : Nat
  request : Bytes
  state : Nat
  cause : Nat
  response : Bytes
  deriving DecidableEq, Repr

/-! ## Dictionary front and PTP inputs (spec/17_dictionary.md, spec/09_ptp_service.md) -/

/-- The path of a Lanith PDU (R351): the segment with its source address, a window context, or in-band with the request
frame, its port and the service entry's MAC. -/
inductive InPath where
  | segment (src : Nat)
  | window (ctx : Nat)
  | inBand (port : Nat) (frame : Bytes) (mac : Nat)
  deriving DecidableEq, Repr

/-- A PDU that waits at the front: its tick of arrival, and the credential its key_id names then, with its roles and key
(R350). -/
structure Arrived where
  path : InPath
  tick : Nat
  bytes : Bytes
  who : Option (Nat × Nat × Bytes)
  deriving DecidableEq, Repr

/-- The result of one operation of a request (Table 18-3): whether it is there, the operation's op, area, item_member and offset, its
status, retry hint and tick, and the value read. -/
structure OpResult where
  ready : Bool
  op : Nat
  area : Nat
  im : Nat
  offset : Nat
  status : Nat
  hint : Nat
  tick : Nat
  value : Bytes
  deriving DecidableEq, Repr

/-- A request whose results are not all there: its path, credential, the key that tags the response, key_id, tid, counter, and
the results so far. -/
structure OpenReq where
  path : InPath
  cred : Nat
  key : Bytes
  keyId : Nat
  tid : Nat
  counter : Nat
  results : List OpResult
  deriving DecidableEq, Repr

/-- A write in the queue (R353): the request and operation that wait for its result, the object number and offset, the value's bytes, the roles it was checked with and their credential, and the moon 0 short time of its arrival. -/
structure QueuedWrite where
  req : Option (Nat × Nat)
  key : Nat
  offset : Nat
  bytes : Bytes
  roles : Nat
  cred : Option Nat
  arrived : Nat
  deriving DecidableEq, Repr

/-- A read of an FW object that waits for device firmware (R352). -/
structure FwRead where
  req : Option (Nat × Nat)
  key : Nat
  offset : Nat
  length : Nat
  cred : Option Nat
  deriving DecidableEq, Repr

/-- A response held for a duplicate (R370): its request's counter and tid, the moon 0 short time it was sent, and the PDU. -/
structure HeldResp where
  counter : Nat
  tid : Nat
  at_ : Nat
  bytes : Bytes
  deriving DecidableEq, Repr

/-- A credential's counters (R370, R371): H, the counters seen from H − 63 to H with bit i for H − i, the mark, and the
responses held, newest first. -/
structure CredUnit where
  h : Nat
  seen : Nat
  mark : Nat
  held : List HeldResp
  deriving DecidableEq, Repr

/-- A value written in parts (R374): where the next part begins, the bytes so far (an image's stand in its slot), and the moon 0 short
time at which the last part was accepted. -/
structure Staging where
  next : Nat
  bytes : Bytes
  at_ : Nat
  deriving DecidableEq, Repr

/-- A SAVE in progress (R357): its snapshot and tick, the copy being written, and its generation. -/
structure SaveRun where
  values : Store
  tick : Nat
  copy : Nat
  generation : Nat
  deriving DecidableEq, Repr

/-- The hardware dictionary front beside its objects: the credentials' counters, the credential objects as they stood before
the changes of a tick (R350), the requests not yet answered by number, the write queue with the tick its head reached the head, the drain
times of the last 1,024 drained writes and the tick of the last drain (R354), the firmware read queue, values staged in parts by object,
the SAVE in progress, the copy used at the last boot or save, and the run of windows below shed_exit_pct (R356). -/
structure Front where
  creds : List CredUnit
  credOld : Option (Nat × Store)
  reqs : Tbl OpenReq
  nextReq : Nat
  queue : List QueuedWrite
  headAt : Nat
  drains : List Nat
  lastDrain : Option Nat
  fwQueue : List FwRead
  stages : Tbl Staging
  save : Option SaveRun
  lastCopy : Option Nat
  calm : Nat
  deriving DecidableEq, Repr

/-- A frame delivered to the PTP engine (R103, R192): its target (an instance, or 32 + u for upstream unit u), port,
service entry, bytes without FCS, and receive wire timestamp as a moon 0 linear count. -/
structure PtpIn where
  target : Nat
  port : Nat
  mac : Nat
  bytes : Bytes
  rxLin : Nat
  deriving DecidableEq, Repr

/-! ## Management segment (spec/18_management_segment.md) -/

/-- The management port: link, the PDUs that wait to be sent (publications and notifications ahead of responses with their
destination, R366), the frame on the wire with the tick it started, the collisions of that frame and the tick its backoff
ends (R364), the run of excess collisions (R380), the publication sequence, the moon 0 second last published, and per member the
last counter accepted and its moon 0 short time (R377). -/
structure Segment where
  link : Bool
  txFirst : List Bytes
  tx : List (Nat × Bytes)
  sending : Option (Nat × Bytes)
  collisions : Nat
  backoff : Option Nat
  excessRun : Nat
  pubSeq : Nat
  pubSecond : Nat
  heard : Tbl (Nat × Nat)
  deriving DecidableEq, Repr

/-! ## Counters (spec/19_counters.md) -/

/-- A 48-bit counter: everything counted, and how much of it in which tick, so that the value at a tick holds only what
earlier ticks counted (R381). -/
structure Counter where
  total : Nat
  tick : Nat
  inTick : Nat
  deriving DecidableEq, Repr

/-- A captured counter page (Table 16-12). -/
structure PageSnap where
  sequence : Nat
  tick : Nat
  wrap : Nat
  values : List Nat
  deriving DecidableEq, Repr

/-- The counter engine: the fixed event counters that are not zero, the window counters' counts and active events, the
live wrap bits of each page, the captured pages and user views, each occupancy counter's
last comparison (R388), and which draw of the core clock's phase this reset made (R383). -/
structure Counters where
  ev : Tbl Counter
  win : Tbl Counter
  active : Tbl Nat
  wrap : Tbl Nat
  pages : Tbl PageSnap
  views : Tbl PageSnap
  occAbove : Tbl Bool
  phase : Nat
  deriving DecidableEq, Repr

/-- What the flash keeps over every reset (Table 22-7): the configuration store's copies A and B, the calibration, key
(with the private keys of the public-key engine) and GNSS stores with how many of their copies are good, the image slots with the preferred one, and the dump slots. -/
structure Flash where
  stores : List StoreCopy
  calValues : Store
  calBad : List Bool
  keyValues : Store
  pkPriv : Tbl Nat
  marks : List Nat
  keyBad : List Bool
  gnss : Tbl Orbit
  images : List Image
  preferred : Nat
  dumps : List DumpSlot
  deriving DecidableEq, Repr

/-- An image slot that holds nothing. -/
def Image.none : Image where
  readable := true
  data := []

/-- An erased dump slot (Table 21-8). -/
def DumpSlot.erased : DumpSlot where
  state := 0
  sequence := 0
  trigger := 0
  captureTick := 0
  bytes := []

/-- The flash as the model has it before anything is written (DESIGN CHOICE, notes/assumptions/2.md): no valid
configuration store, good calibration and key stores at their defaults, and no image. -/
def Flash.factory : Flash where
  stores := [⟨false, 0, []⟩, ⟨false, 0, []⟩]
  calValues := []
  calBad := [false, false]
  keyValues := []
  pkPriv := []
  marks := []
  keyBad := [false, false]
  gnss := []
  images := [Image.none, Image.none]
  preferred := 0
  dumps := [DumpSlot.erased, DumpSlot.erased]

/-- The power and clock monitors: whether a sample has been taken since reset, the rails outside their limits and the sensors above
shutdown at the last sample (R418), whether a rail was outside its recommended conditions or a sensor outside the part's range (R415),
whether the last comparisons of the time clock with the core clock and with the ring oscillator were out of tolerance, the deviation
the latter showed in ppb (R438), and an AVSBus voltage in mV that the regulator has not acknowledged (R420). -/
structure Monitors where
  sampled : Bool
  railOut : List Nat
  hot : List Nat
  supplyLow : Bool
  tempOut : Bool
  coreOut : Bool
  ringOut : Bool
  ringPpb : Int
  avsRetry : Option Nat
  deriving DecidableEq, Repr

/-- A fatal dump (R429, R430): asked for by Eclipse entry (1) or by command (2), and the slot it is being written to. -/
structure DumpRun where
  asked : Option Nat
  writing : Option Nat
  deriving DecidableEq, Repr


/-! ## Fuses (Table 21-4) -/

/-- The fuses. `ceil…` are the ceilings of Table 1-7: the largest phase step in 2^-16 ns, the largest frequency offset
and change per boundary in increment units, the firmware frame rate and the core voltage window in mV. -/
structure Fuses where
  keyHash : Nat
  rollback : Nat
  ceilStep : Nat
  ceilFreq : Nat
  ceilRate : Nat
  ceilFrames : Nat
  vMin : Nat
  vMax : Nat
  avsLow : Int
  avsHigh : Int
  serial : Nat
  eui64 : Nat
  baseMac : Nat
  gradeS : Bool
  pulseCal : Int
  deriving DecidableEq, Repr

/-- The production values (Table 1-7); the identity items and the characterisation tables, whose values the manual does
not give, are zero (DESIGN CHOICE, notes/assumptions/2.md). -/
def Fuses.production : Fuses where
  keyHash := 0
  rollback := 0
  ceilStep := 65536000000000
  ceilFreq := 140737488355
  ceilRate := 281474977
  ceilFrames := 4000000
  vMin := 700
  vMax := 880
  avsLow := 0
  avsHigh := 0
  serial := 0
  eui64 := 0
  baseMac := 0
  gradeS := false
  pulseCal := 0

/-! ## The whole state -/

/-- What the last dictionary access answered (R344): the status, the acceptance or snapshot tick, the retry hint and
the value read. -/
structure Resp where
  status : Nat
  tick : Nat
  hint : Nat
  data : Bytes
  deriving DecidableEq, Repr

/-- The engines: everything but the time-clock domain's counts and the fuses. `sealedFor` is the boundary whose decisions are sealed,
`cmpArmedAt` the tick each compare cell was armed, `fwTicks` the ticks of the firmware frames sent in the last 10^6 ticks (R34), `out` what left the pins during the command run last, and `draws` counts the free values used (notes/assumptions/3.md). -/
structure Eng where
  od : Store
  resp : Resp
  out : List Output
  draws : Nat
  pins : Pins
  boot : Boot
  flash : Flash
  flt : Faults
  tl : List MoonTl
  sealedFor : Option Nat
  lastBoundary : Nat
  cmpArmedAt : Tbl Nat
  sched : Tbl SchedEntry
  ports : List Port
  cls : Classifier
  lanes : List LaneUnit
  calWait : StoreWait
  keyWait : StoreWait
  ans : Answer
  fwTicks : List Nat
  cals : List Calendar
  nts : Nts
  ptp : Ptp
  ups : List UpUnit
  refins : List RefinUnit
  synces : List SynceUnit
  tod : TodUnit
  sibs : Tbl SibPub
  gnss : Gnss
  sel : Selector
  steer : List SteerUnit
  model : OscModel
  outs : Outs
  pk : Pk
  irq : Irq
  rxRings : Tbl RxRing
  txRings : Tbl TxRing
  tails : List Tail
  wins : List WinCtx
  inbox : List Arrived
  ptpIn : List PtpIn
  front : Front
  seg : Segment
  ctr : Counters
  mon : Monitors
  dump : DumpRun
  deriving DecidableEq, Repr

/-- The state of the device: the commands waiting, first in first out; the time-clock domain; the fuses; the engines. -/
structure State where
  pending : List Instr
  core : TimeCore
  fuses : Fuses
  eng : Eng
  deriving DecidableEq, Repr

/-- Why the machine stops with a fault. No command of this model does. -/
inductive Fault where
  /-- Raised by no command: the manual gives every command an effect. Safe. -/
  | none
  deriving DecidableEq, Repr

/-- Why a command is refused. -/
inductive Refusal where
  /-- Raised by an arm of exec whose command has no meaning yet. Safe: the machine stops where the device goes on. -/
  | notModelled (mnemonic : String)
  deriving DecidableEq, Repr

/-! ## Reset -/

/-- The epoch record of a moon after reset (R23, R40): boundary `b`, count zero, the nominal increment, FREE RUN with its error bound
(R286, Table 13-3). -/
def EpochRec.atReset (b count taiUtc : Nat) (adv : Bool) : EpochRec where
  boundary := b
  count := count
  inc := 2 ^ 48
  state := .freeRun
  flags := 0
  li := 3
  stratum := 16
  taiUtc := taiUtc
  leapInstant := 0
  leapDelta := 0
  leapBefore := 0
  errorBound := 2 ^ 63 - 1
  rootDispersion := 2 ^ 32 - 1
  refid := 0
  stepCount := 0
  lastStep := 0
  adv := adv

/-- A moon of the time clock after reset (R40): count zero, the nominal increment; only moon 0 advances. -/
def MoonCore.atReset (k : Nat) : MoonCore where
  acc := 0
  inc := BitVec.ofNat 64 (2 ^ 48)
  adv := k == 0

/-- The time-clock domain after reset (R22, R40). -/
def TimeCore.atReset : TimeCore where
  tick := 0
  moons := tabulate 32 MoonCore.atReset

/-- A moon's engine side after reset (R23, R40). -/
def MoonTl.atReset (k : Nat) : MoonTl where
  prev := EpochRec.atReset 0 0 37 (k == 0)
  cur := EpochRec.atReset 0 0 37 (k == 0)
  next := EpochRec.atReset 1 (if k = 0 then 2 ^ 68 else 0) 37 (k == 0)
  decision := none
  outvoted := [0, 0, 0]
  failedCopy := none
  leapPoint := none
  leapFired := none

/-- The fault system after reset (R402, R413). -/
def Faults.atReset : Faults where
  conds := []
  evTick := 0
  recent := []
  rail := none
  eclipse := false
  lingerEnd := 0
  lingering := false
  autoAt := none
  testEnd := none
  scrubs := []

/-- The boot's progress while the device is held in reset. -/
def Boot.held : Boot where
  phase := .held
  ddr := false
  creds := false
  fw := false
  stores := false
  restored := false
  recovery := false
  forceB := false
  oscSel := 0
  coresHeld := false
  coresDown := false
  slot := 0
  warmAsked := false
  rollbackTo := none

/-- The pins during reset (Table 22-8). -/
def Pins.atReset : Pins where
  timeOk := false
  eclipseN := false
  thermTripN := true

/-- A port after reset. -/
def Port.atReset : Port where
  pause := []
  xoff := none
  esmcHeard := 0
  esmcSent := 0
  rxHeld := []
  untimed := []
  lastSource := 0
  echoes := []

/-- The classifier after reset. -/
def Classifier.atReset : Classifier where
  oldBank := []
  newFrom := 0
  commitAt := none
  copyEnd := none
  mirrored := []
  badRules := []
  badSvc := []

/-- No terms measured. -/
def LaneTerms.zero : LaneTerms where
  offRx := 0
  anaRx := 0
  serRx := 0
  resRx := 0
  offTx := 0
  drvTx := 0
  serTx := 0
  resTx := 0

/-- A mean of no samples. -/
def Mean.zero : Mean where
  sum := 0
  n := 0

/-- A lane after reset. -/
def LaneUnit.atReset : LaneUnit where
  live := LaneTerms.zero
  prev := LaneTerms.zero
  sealed := none
  serRx := Mean.zero
  resRx := Mean.zero
  serTx := Mean.zero
  resTx := Mean.zero
  markers := 0
  echoes := 0
  closureRun := 0
  rtt := Mean.zero

/-- A pipeline after reset. -/
def Pipe.atReset : Pipe where
  queue := []
  slotUsed := false
  probeFirst := false
  sampleCount := 0
  lastSample := 0
  crcTicks := []
  toCheck := 0
  aesWindow := 0
  aesUsed := 0

/-- The answer engine after reset. -/
def Answer.atReset : Answer where
  pipes := List.replicate 16 Pipe.atReset
  lastPipe := 15
  buckets := []
  bucketEpoch := 0
  hashKey := 0
  sweptTo := 0
  deferred := []
  badRules := []
  badProfiles := []

/-- A calendar after reset. -/
def Calendar.atReset : Calendar where
  resv := []
  deficit := 0
  lastEnd := 0
  busyTo := 0
  fetchMax := 0
  sealedMargin := none
  awaiting := []
  share := 0
  timedPct := 10

/-- NTS after reset. -/
def Nts.atReset : Nts where
  imported := []
  drbgBlocks := 0
  drbgStopped := none
  sessions := []
  starts := []
  retireChecked := 0

/-- The PTP engine after reset. -/
def Ptp.atReset : Ptp where
  clients := []
  streams := []
  rateWindow := 0
  rateUsed := 0
  sigSeq := 0

/-- An upstream unit after reset. -/
def UpUnit.atReset : UpUnit where
  granted := []
  renewAt := []
  nextReq := 0
  reqSeq := 0
  sigSeq := 0
  inFlight := none
  exchange := none
  sync := none
  deniedAt := none
  mac := none

/-- A REFIN unit after reset. -/
def RefinUnit.atReset : RefinUnit where
  restart := true
  prev := none
  begun := 0
  phase := none
  hist := []
  delay := 0
  peaks := none
  seen := []
  clean := 0
  testBad := 0

/-- A SyncE comparator after reset. -/
def SynceUnit.atReset : SynceUnit where
  hist := []
  seen := []
  clean := 0
  testBad := 0

/-- The time-of-day input after reset. -/
def TodUnit.atReset : TodUnit where
  edges := 0
  lastEdge := none
  waiting := none
  label := none
  agree := 0
  missed := 0

/-- A front end after reset. -/
def GnssFe.atReset : GnssFe where
  restart := true
  frozen := false
  noisy := false
  noiseRuns := [0, 0, 0, 0]
  seen := 0
  clean := 0
  solAt := 0
  trackAt := 0
  lastEpoch := 0
  ffRun := 0
  last := none
  jump := 0
  incRun := 0
  posRun := 0
  floor := (0, 0)
  floors := []
  antLow := false
  osnmaAt := none
  survey := none
  sumLat := 0
  sumLon := 0
  sumHeight := 0
  fixes := 0
  surveyed := false
  dlyUpper := 0
  dlyLower := 0

/-- The baseband after reset. -/
def Gnss.atReset : Gnss where
  fes := [GnssFe.atReset, GnssFe.atReset]
  below := []
  excluded := []
  failed := []
  orbits := []
  savedAt := 0

/-- A slot after reset. -/
def SelSlot.atReset : SelSlot where
  source := 0
  latest := none
  pred := none
  outlier := none
  jump := none
  stepFor := none
  jumpMoons := []
  paths := []
  pathRun := []
  asym := none
  driftOut := none
  driftIn := none
  stabOut := none
  stabIn := none
  heard := 0
  wait := none
  second := 0
  mean := Mean.zero
  samples := []

/-- A moon's selection after reset. -/
def SelMoon.atReset : SelMoon where
  pending := none
  lostAt := none
  lockedAt := none
  anchors := []
  anchorNext := 0
  feedFrom := 0
  fedAt := none
  switchTo := none

/-- The selector after reset. -/
def Selector.atReset : Selector where
  slots := List.replicate 64 SelSlot.atReset
  moons := List.replicate 32 SelMoon.atReset
  past := [(0, (0, 2 ^ 48) :: List.replicate 31 (0, 0))]
  badRun := 0
  badNow := false
  dead := false
  held := []
  cfg := []
  cfgNext := []

/-- A steering unit after reset. -/
def SteerUnit.atReset : SteerUnit where
  isOpen := false
  integ := 0
  out := 0
  replica := 0
  repTick := 0
  clamped := false
  error := 0
  ffError := 0
  errors := []
  lockFrom := none
  unlockFrom := none
  timeFrom := none
  everLocked := false
  lockedBound := 0
  hold := none
  outs := []
  fallback := 0
  restart := false
  restartNow := false
  badRun := 0
  alone := false

/-- The oscillator model after reset: not yet started from OSC_SEED. -/
def OscModel.atReset : OscModel where
  coef := []
  cov := []
  seeded := false
  restart := false
  obs := 0
  residuals := []
  badRun := 0
  second := 0
  sum := Mean.zero
  y := 0
  phase := 0
  temps := []
  temp := 0
  rate := 0
  excluded := []
  clampAt := none
  badCopies := 0
  dead := false

/-- The output engine after reset: every output held. -/
def Outs.atReset : Outs where
  cfg := []
  clks := List.replicate 12 ⟨true, none⟩
  pps := List.replicate 4 ⟨[], false, none, 0, false, false⟩
  tod := none

/-- The public-key engine after reset (R309). -/
def Pk.atReset : Pk where
  mem := []
  bad := []
  priv := []
  queues := [[], [], [], []]
  units := List.replicate 8 ⟨none, none, false⟩
  done := []
  turn := 3
  credit := 0
  seq := 0

/-- The interrupt logic after reset (R336): every vector armed and, by the PCIe rules, masked. -/
def Irq.atReset : Irq where
  latched := 0
  latchTick := []
  armed := 2 ^ 64 - 1
  masked := 2 ^ 64 - 1
  pba := 0
  lastMsg := []
  link := false

/-- A receive ring after reset. -/
def RxRing.atReset : RxRing where
  state := .disabled
  prod := 0
  cons := 0
  ack := 0
  err := 0

/-- A transmit ring after reset. -/
def TxRing.atReset : TxRing where
  state := .disabled
  prod := 0
  cons := 0
  ack := 0
  err := 0
  taken := 0
  launch := none
  waiting := []
  flight := []

/-- A Tail queue after reset. -/
def Tail.atReset : Tail where
  entries := []
  lost := 0
  made := 0
  overflow := false
  overflowTick := 0
  lossPending := false

/-- A window context after reset. -/
def WinCtx.atReset : WinCtx where
  reqLen := 0
  request := []
  state := 0
  cause := 0
  response := []

/-- The front after reset. -/
def Front.atReset : Front where
  creds := List.replicate 32 ⟨0, 0, 0, []⟩
  credOld := none
  reqs := []
  nextReq := 0
  queue := []
  headAt := 0
  drains := []
  lastDrain := none
  fwQueue := []
  stages := []
  save := none
  lastCopy := none
  calm := 0

/-- The management port after reset. -/
def Segment.atReset : Segment where
  link := true
  txFirst := []
  tx := []
  sending := none
  collisions := 0
  backoff := none
  excessRun := 0
  pubSeq := 0
  pubSecond := 0
  heard := []

/-- The counter engine after reset (R383, R387). -/
def Counters.atReset : Counters where
  ev := []
  win := []
  active := []
  wrap := []
  pages := []
  views := []
  occAbove := []
  phase := 0

/-- The monitors after reset. -/
def Monitors.atReset : Monitors where
  sampled := false
  railOut := []
  hot := []
  supplyLow := false
  tempOut := false
  coreOut := false
  ringOut := false
  ringPpb := 0
  avsRetry := none

/-- The engines after a reset that keeps flash `fl` (R421): every object at its default, every engine idle. -/
def Eng.atReset (fl : Flash) (draws : Nat) : Eng where
  od := []
  resp := ⟨0, 0, 0, []⟩
  out := []
  draws := draws
  pins := Pins.atReset
  boot := Boot.held
  flash := fl
  flt := Faults.atReset
  tl := tabulate 32 MoonTl.atReset
  sealedFor := none
  lastBoundary := 0
  cmpArmedAt := []
  sched := []
  ports := List.replicate 32 Port.atReset
  cls := Classifier.atReset
  lanes := List.replicate 32 LaneUnit.atReset
  calWait := ⟨none⟩
  keyWait := ⟨none⟩
  ans := Answer.atReset
  fwTicks := []
  cals := List.replicate 32 Calendar.atReset
  nts := Nts.atReset
  ptp := Ptp.atReset
  ups := List.replicate 16 UpUnit.atReset
  refins := List.replicate 8 RefinUnit.atReset
  synces := List.replicate 32 SynceUnit.atReset
  tod := TodUnit.atReset
  sibs := []
  gnss := Gnss.atReset
  sel := Selector.atReset
  steer := List.replicate 32 SteerUnit.atReset
  model := OscModel.atReset
  outs := Outs.atReset
  pk := Pk.atReset
  irq := Irq.atReset
  rxRings := []
  txRings := []
  tails := List.replicate 32 Tail.atReset
  wins := List.replicate 8 WinCtx.atReset
  inbox := []
  ptpIn := []
  front := Front.atReset
  seg := Segment.atReset
  ctr := Counters.atReset
  mon := Monitors.atReset
  dump := ⟨none, none⟩

/-- The device held in a power-on reset with erased stores: nothing queued, every value at reset. -/
def State.reset : State where
  pending := []
  core := TimeCore.atReset
  fuses := Fuses.production
  eng := Eng.atReset Flash.factory 0

end Sys2Proof.Machine
end

