-- ==== Sys2Proof/Machine/Ops.lean ====
section
/-! DEFINITION. The named operations every family uses: sparse tables and the object store in their canonical form, the
clock and the moons as every engine reads them, event counting (R381), interrupt sources (R335) and the frame in which a
command's effect is applied. -/

namespace Sys2Proof.Machine

/-! ## Sparse tables -/

/-- The entry of a sparse table. -/
def tget {α : Type} : Tbl α → Nat → Option α
  | [], _ => none
  | (a, x) :: t, k => if a = k then some x else tget t k

/-- The entry of a sparse table, or a default. -/
def tgetD {α : Type} (t : Tbl α) (k : Nat) (d : α) : α := (tget t k).getD d

/-- Put an entry, keeping the keys rising. -/
def tput {α : Type} : Tbl α → Nat → α → Tbl α
  | [], k, v => [(k, v)]
  | (a, x) :: t, k, v => if k < a then (k, v) :: (a, x) :: t else if a = k then (k, v) :: t else (a, x) :: tput t k v

/-- Remove an entry. -/
def tdel {α : Type} (t : Tbl α) (k : Nat) : Tbl α := t.filter (fun p => p.1 != k)

/-- The keys of a table rise strictly. -/
def tsorted {α : Type} : Tbl α → Bool
  | [] => true
  | [_] => true
  | (a, _) :: (b, y) :: t => decide (a < b) && tsorted ((b, y) :: t)

/-! ## The object store -/

/-- The value of an object: what the store lists, or its default. -/
def sget (s : Store) (k : Key) : Int := (tget s k).getD (odDefault k)

/-- Write an object, keeping the store's canonical form: the default is not listed. -/
def sset (s : Store) (k : Key) (v : Int) : Store := if v = odDefault k then tdel s k else tput s k v

/-- The canonical form: keys rising, and no entry equal to the default. -/
def Store.wf (s : Store) : Bool := tsorted s && s.all (fun p => p.2 != odDefault p.1)

/-- An object as an integer. -/
def Eng.i (e : Eng) (k : Key) : Int := sget e.od k

/-- An object as a number. -/
def Eng.n (e : Eng) (k : Key) : Nat := (e.i k).toNat

/-- An object as a truth value. -/
def Eng.b (e : Eng) (k : Key) : Bool := e.i k != 0

/-- The instances of an object listed in a store: those whose value is not the default, in rising order. -/
def listed (s : Store) (area base count stride member : Nat) : List Nat :=
  s.filterMap (fun p =>
    let k := p.1
    if k / 65536 = area ∧ k % 16 = member ∧ base ≤ k / 16 % 4096 ∧ (k / 16 % 4096 - base) % stride = 0 ∧
        (k / 16 % 4096 - base) / stride < count
    then some ((k / 16 % 4096 - base) / stride) else none)

/-- Write an object. -/
def Eng.set (e : Eng) (k : Key) (v : Int) : Eng := { e with od := sset e.od k v }

/-- Add to a counter object of `w` bits, which wraps. -/
def Eng.add (e : Eng) (w : Nat) (k : Key) (n : Nat) : Eng := e.set k ((e.n k + n) % 2 ^ w : Nat)

/-- Count one in a U32 object. -/
def Eng.inc32 (e : Eng) (k : Key) : Eng := e.add 32 k 1

/-- Count one in a U64 object. -/
def Eng.inc64 (e : Eng) (k : Key) : Eng := e.add 64 k 1

/-- Set bits of a sticky or flag object. -/
def Eng.orb (e : Eng) (k : Key) (mask : Nat) : Eng := e.set k (e.n k ||| mask : Nat)

/-- Clear bits of a sticky or flag object. -/
def Eng.andc (e : Eng) (k : Key) (mask : Nat) : Eng := e.set k (clearBits (e.n k) mask : Nat)

/-- Emit something at the pins. -/
def Eng.emit (e : Eng) (o : Output) : Eng := { e with out := e.out ++ [o] }

/-- The next free value, below `m`. -/
def Eng.draw (e : Eng) (m : Nat) : Nat := Config.freeDraw e.draws % m

/-- A free value has been used. -/
def Eng.drawn (e : Eng) : Eng := { e with draws := e.draws + 1 }

/-! ## The clock and the moons -/

/-- What every engine reads of the time-clock domain and the fuses. -/
structure Ctx where
  core : TimeCore
  fuses : Fuses
  deriving DecidableEq, Repr

/-- The context of a state. -/
def State.ctx (s : State) : Ctx := ⟨s.core, s.fuses⟩

/-- The tick the tick bus shows (R20). -/
def Ctx.tick (x : Ctx) : Nat := x.core.tick

/-- Moon `k` of the time clock. -/
def TimeCore.moon (c : TimeCore) (k : Nat) : MoonCore := nth c.moons k (MoonCore.atReset 1)

/-- The accumulator of moon `k` in 2^-48 ns (R38). -/
def Ctx.acc (x : Ctx) (k : Nat) : Nat := (x.core.moon k).acc.toNat

/-- The linear count of moon `k` in 2^-16 ns (R6). -/
def Ctx.lin (x : Ctx) (k : Nat) : Nat := x.acc k / 2 ^ 32

/-- The short time of moon `k` (R8). -/
def Ctx.st (x : Ctx) (k : Nat) : Nat := x.lin k % 2 ^ 64

/-- The active increment of moon `k`. -/
def Ctx.inc (x : Ctx) (k : Nat) : Nat := (x.core.moon k).inc.toNat

/-- The boundary number of a tick (R23). -/
def boundaryOf (tick : Nat) : Nat := tick / 2 ^ 20

/-- The number of the next boundary after a tick. -/
def nextBoundary (tick : Nat) : Nat := tick / 2 ^ 20 + 1

/-- The timeline side of moon `k`. -/
def Eng.moon (e : Eng) (k : Nat) : MoonTl := nth e.tl k (MoonTl.atReset k)

/-- Change the timeline side of moon `k`. -/
def Eng.setMoon (e : Eng) (k : Nat) (m : MoonTl) : Eng := { e with tl := setNth e.tl k m }

/-- Whether `n` seconds of moon 0 time have passed since the short time `since` (R60). -/
def Ctx.passed (x : Ctx) (since units : Nat) : Bool := stGe (x.st 0) ((since + units) % 2 ^ 64)

/-! ## Event counters (R381 to R387) -/

/-- A counter that has counted nothing. -/
def Counter.zero : Counter := ⟨0, 0, 0⟩

/-- Count `n` at tick `t`, modulo 2^48 (R381). -/
def Counter.count (c : Counter) (t n : Nat) : Counter :=
  ⟨(c.total + n) % 2 ^ 48, t, (if c.tick = t then c.inTick else 0) + n⟩

/-- The value of a counter at tick `t`: the counts of the ticks before it (R381). -/
def Counter.value (c : Counter) (t : Nat) : Nat :=
  (c.total + 2 ^ 48 - (if c.tick = t then c.inTick else 0) % 2 ^ 48) % 2 ^ 48

/-- Set a live wrap bit of a page, and WRAP (R382, R393). -/
def Eng.wrapBit (e : Eng) (page i : Nat) : Eng :=
  { e with ctr := { e.ctr with wrap := tput e.ctr.wrap page (tgetD e.ctr.wrap page 0 ||| 2 ^ i) } }.orb
    Od.CNT_STATUS.sticky 2

/-- Count `n` in the window counters whose active event is `ev` (R386). -/
def Eng.countWindows (e : Eng) (t ev n : Nat) : Eng :=
  (e.ctr.active.filter (fun p => p.2 == ev)).foldl (fun e p =>
    let c := tgetD e.ctr.win p.1 Counter.zero
    let e := { e with ctr := { e.ctr with win := tput e.ctr.win p.1 (c.count t n) } }
    if c.total + n < 2 ^ 48 then e else e.wrapBit 48 p.1) e

/-- Count `n` occurrences of event `ev` at the current tick (R381, R382). -/
def Eng.countN (e : Eng) (x : Ctx) (ev n : Nat) : Eng :=
  let c := tgetD e.ctr.ev ev Counter.zero
  let e1 := { e with ctr := { e.ctr with ev := tput e.ctr.ev ev (c.count x.tick n) } }
  let e2 := if c.total + n < 2 ^ 48 then e1 else e1.wrapBit (ev / 64) (ev % 64)
  e2.countWindows x.tick ev n

/-- Count one occurrence of an event. -/
def Eng.count (e : Eng) (x : Ctx) (ev : Nat) : Eng := e.countN x ev 1

/-! ## Interrupt sources (R335, R336) -/

/-- Vector `v` may send now: armed, not held off since its last message, and the link is up. -/
def Eng.vecReady (e : Eng) (x : Ctx) (v : Nat) : Bool :=
  e.irq.link && bitOf e.irq.armed v &&
    (match tget e.irq.lastMsg v with
     | none => true
     | some t => x.passed t (ns16 (e.n (Od.VEC_CFG.holdoff_ns v))))

/-- A source routed to vector `v` is pending: an armed vector sends one message, or sets its pending bit while masked
(R336). -/
def Eng.vecPoke (e : Eng) (x : Ctx) (v : Nat) : Eng :=
  if e.vecReady x v then
    if bitOf e.irq.masked v then { e with irq := { e.irq with pba := e.irq.pba ||| 2 ^ v } }
    else
      { e with irq := { e.irq with
          armed := clearBits e.irq.armed (2 ^ v), pba := clearBits e.irq.pba (2 ^ v),
          lastMsg := tput e.irq.lastMsg v (x.st 0) } }.emit (.msix v)
  else e

/-- Interrupt source `src` is pending: its vector, when it is routed to one, is poked. -/
def Eng.irqPoke (e : Eng) (x : Ctx) (src : Nat) : Eng :=
  let v := e.n (Od.IRQ_ROUTE.vector src)
  if v < 64 then e.vecPoke x v else e

/-- The event of a latched source (Table 16-9a). -/
def Eng.irqLatch (e : Eng) (x : Ctx) (src : Nat) : Eng :=
  { e with irq := { e.irq with
      latched := e.irq.latched ||| 2 ^ src, latchTick := tput e.irq.latchTick src x.tick } }.irqPoke x src

/-! ## The frame of a command -/

/-- The device is out of reset and its time clock is locked (R421, R428). -/
def Eng.up (e : Eng) : Bool := e.boot.phase == .running

/-- The engines with what left the pins before forgotten. -/
def Eng.fresh (e : Eng) : Eng := { e with out := [] }

/-- The engines as a command finds them: nothing has left the pins yet. -/
def State.eng0 (s : State) : Eng := s.eng.fresh

/-- A command that changes only the engines. It acts while the device runs, and does nothing in reset
(notes/assumptions/4.md). -/
def lift (f : Ctx → Eng → Eng) (s : State) : Host.Outcome State Fault Refusal :=
  if s.eng.up then .next { s with eng := f s.ctx s.eng0 } else .next { s with eng := s.eng0 }

/-- A command that acts in reset too. -/
def liftAlways (f : Ctx → Eng → Eng) (s : State) : Host.Outcome State Fault Refusal :=
  .next { s with eng := f s.ctx s.eng0 }

/-- An event that is due only under a condition; otherwise it does nothing (notes/assumptions/5.md). -/
def whenDue (due : Bool) (f : Eng → Eng) (e : Eng) : Eng := if due then f e else e

end Sys2Proof.Machine
end

