-- ==== Sys2Proof/Machine/Notify.lean ====
section
/-! DEFINITION. Lanith PDUs (spec/18_management_segment.md, Table 18-1) and the notifications and publications the
front sends (R376). -/

namespace Sys2Proof.Machine

/-- The key of credential `c` in a store: written, provisioned for credential 0 (R349), or none (R348). -/
def credKeyIn (s : Store) (c : Nat) : Option Bytes :=
  let v := sget s (Od.CRED.key c)
  if 0 ≤ v then some (leBytes 32 v.toNat)
  else if c = 0 then some (leBytes 32 Config.provisionedKey) else none

/-- The key of credential `c`. -/
def Eng.credKey (e : Eng) (c : Nat) : Option Bytes := credKeyIn e.od c

/-- The credentials as a request that arrives now is judged by: a change applies from the following tick (R350). -/
def Eng.credStore (e : Eng) (x : Ctx) : Store :=
  match e.front.credOld with
  | some p => if p.1 = x.tick then p.2 else e.od
  | none => e.od

/-- The enabled credential a key identifier names, with its roles and key (R348). -/
def credOf (s : Store) (keyId : Nat) : Option (Nat × Nat × Bytes) :=
  ((List.range 32).find? (fun c => sget s (Od.CRED.enable c) == 1 && sget s (Od.CRED.key_id c) == keyId)).map
    (fun c => (c, (sget s (Od.CRED.roles c)).toNat, (credKeyIn s c).getD []))

/-- A PDU reaches the front (R351); before the credentials are restored it is discarded without a trace (R449). -/
def Eng.arrive (e : Eng) (x : Ctx) (path : InPath) (bytes : Bytes) : Eng :=
  if e.boot.creds then
    { e with inbox := e.inbox ++ [⟨path, x.tick, bytes, credOf (e.credStore x) (leNat ((bytes.drop 4).take 4))⟩] }
  else e

/-- A PDU with its tag (Table 18-1, R368). -/
def pdu (kind keyId tid counter : Nat) (body key : Bytes) : Bytes :=
  let head := [byte 1, byte kind] ++ leBytes 2 (body.length + 32) ++ leBytes 4 keyId ++ leBytes 2 tid ++ leBytes 2 0
    ++ leBytes 4 counter
  head ++ body ++ (hmacSha256 key (head ++ body)).take 16

/-- The credential that tags publications: the lowest enabled one that holds Timekeeper (R376). -/
def Eng.pubCred (e : Eng) : Option Nat :=
  (List.range 32).find? (fun c => e.b (Od.CRED.enable c) && bitOf (e.n (Od.CRED.roles c)) 2)

/-- A moon state's code (Table 2-5 member 4). -/
def MoonState.code : MoonState → Nat
  | .freeRun => 0
  | .acquiring => 1
  | .locked => 2
  | .holdover => 3
  | .lost => 4

/-- A PUBLISH body (Table 18-4) of a record of moon 0. -/
def Eng.pubBody (e : Eng) (r : EpochRec) : Bytes :=
  let s := e.n (Od.SEL_MOON_STATUS.selected 0)
  let source := if s < 64 then e.n (Od.SEL_SLOT_STATUS.source s) else 0
  let n := source % 256
  let sib := if s < 64 ∧ source / 256 = 1 ∧ e.n (Od.REFIN_CFG.source n) = 1 then e.n (Od.REFIN_CFG.sibling n) else 255
  [byte (e.n Od.SEG.member), byte r.state.code, byte (boolNat (bitOf r.flags 11) + 2 * boolNat e.flt.eclipse),
    byte sib] ++ leBytes 2 source ++ leBytes 2 0 ++ leBytes 8 (unsigned 64 r.errorBound) ++ leBytes 8 r.boundary

/-- Queue a publication or notification (R366, R376): none in RECOVERY or while SEG.publish is 0; without a credential
it is counted in publish_skip; a full transmit queue drops it. -/
def Eng.publish (e : Eng) (x : Ctx) (kind : Nat) (body : Bytes) : Eng :=
  if e.boot.recovery || !e.b Od.SEG.publish then e
  else
    match e.pubCred with
    | none => e.count x 0xB0D
    | some c =>
      let p := pdu kind (e.n (Od.CRED.key_id c)) 0 e.seg.pubSeq body ((e.credKey c).getD [])
      let e1 := { e with seg := { e.seg with pubSeq := (e.seg.pubSeq + 1) % 2 ^ 32 } }
      if e1.seg.txFirst.length + e1.seg.tx.length < 32 then
        { e1 with seg := { e1.seg with txFirst := e1.seg.txFirst ++ [p] } }.count x 0xB0B
      else e1.count x 0xB05

/-- Send a NOTIFY: event 1 STATE, 2 ECLIPSE or 3 FAULT, with the first-fault record for FAULT (R376). -/
def Eng.notify (e : Eng) (x : Ctx) (event : Nat) (extra : Bytes) : Eng :=
  e.publish x 3 (e.pubBody (e.moon 0).cur ++ [byte event] ++ extra)

end Sys2Proof.Machine
end

