-- ==== Sys2Proof/Machine/Faults.lean ====
section
/-! DEFINITION. Fault detection (spec/20_faults_eclipse.md): the cause rows, the one operation by which every engine
raises a fault (latch, counts, first-fault record, interrupt, notification, Eclipse rails), and the clearing of a
condition of kind state. -/

namespace Sys2Proof.Machine

/-- One cause row of Table 20-2: its block and number, its source (Table 20-2a) and its class (Table 20-1). -/
structure FaultRow where
  block : Nat
  row : Nat
  src : Nat
  cls : Nat
  deriving DecidableEq, Repr

/-- The cause rows of blocks 0 to 11. -/
def faultRowsA : List FaultRow := [
  ⟨0, 1, 1, 1⟩, ⟨0, 2, 1, 2⟩, ⟨0, 3, 1, 3⟩, ⟨0, 4, 2, 3⟩, ⟨0, 5, 1, 3⟩, ⟨0, 6, 3, 2⟩, ⟨1, 1, 0, 1⟩, ⟨1, 2, 0, 2⟩,
  ⟨2, 1, 0, 1⟩, ⟨2, 2, 0, 2⟩, ⟨2, 3, 0, 2⟩, ⟨2, 4, 3, 2⟩, ⟨3, 1, 1, 2⟩, ⟨3, 2, 1, 2⟩, ⟨3, 3, 1, 2⟩, ⟨3, 4, 2, 2⟩,
  ⟨4, 1, 3, 1⟩, ⟨4, 2, 3, 2⟩, ⟨5, 1, 0, 1⟩, ⟨5, 2, 0, 2⟩, ⟨5, 3, 0, 2⟩, ⟨5, 4, 1, 2⟩, ⟨5, 5, 1, 2⟩, ⟨5, 6, 2, 2⟩,
  ⟨6, 1, 0, 1⟩, ⟨6, 2, 0, 2⟩, ⟨6, 3, 2, 2⟩, ⟨7, 1, 0, 1⟩, ⟨7, 2, 0, 2⟩, ⟨7, 3, 0, 2⟩, ⟨7, 4, 1, 2⟩, ⟨7, 5, 3, 2⟩,
  ⟨8, 1, 0, 1⟩, ⟨8, 2, 0, 2⟩, ⟨9, 1, 1, 2⟩, ⟨9, 2, 0, 1⟩, ⟨10, 1, 1, 2⟩, ⟨10, 2, 1, 2⟩, ⟨10, 3, 0, 1⟩, ⟨10, 4, 0, 2⟩,
  ⟨11, 1, 0, 1⟩, ⟨11, 2, 0, 2⟩, ⟨11, 3, 0, 2⟩, ⟨11, 4, 1, 2⟩, ⟨11, 5, 1, 2⟩]

/-- The cause rows of blocks 12 to 23. -/
def faultRowsB : List FaultRow := [
  ⟨12, 1, 0, 1⟩, ⟨12, 2, 1, 2⟩, ⟨12, 3, 1, 2⟩, ⟨12, 4, 1, 2⟩, ⟨12, 5, 3, 2⟩, ⟨13, 1, 1, 2⟩, ⟨13, 2, 2, 2⟩, ⟨14, 1, 1, 2⟩,
  ⟨14, 2, 0, 1⟩, ⟨14, 3, 0, 2⟩, ⟨15, 1, 0, 1⟩, ⟨15, 2, 0, 2⟩, ⟨15, 3, 0, 2⟩, ⟨15, 4, 0, 2⟩, ⟨15, 5, 2, 2⟩, ⟨15, 6, 3, 2⟩,
  ⟨16, 1, 3, 2⟩, ⟨16, 2, 3, 2⟩, ⟨16, 3, 0, 1⟩, ⟨16, 4, 0, 2⟩, ⟨17, 1, 0, 2⟩, ⟨18, 1, 2, 2⟩, ⟨18, 2, 1, 2⟩, ⟨18, 3, 0, 1⟩,
  ⟨18, 4, 0, 2⟩, ⟨19, 1, 0, 1⟩, ⟨19, 2, 0, 2⟩, ⟨19, 3, 1, 2⟩, ⟨20, 1, 2, 3⟩, ⟨20, 2, 2, 2⟩, ⟨20, 3, 2, 2⟩, ⟨20, 4, 2, 3⟩,
  ⟨21, 1, 3, 3⟩, ⟨21, 2, 3, 3⟩, ⟨21, 3, 3, 2⟩, ⟨22, 1, 0, 3⟩, ⟨22, 2, 3, 2⟩, ⟨23, 1, 2, 2⟩, ⟨23, 2, 2, 2⟩]

/-- The cause rows of every block (Tables 20-2 and 20-2a). -/
def faultRows : List FaultRow := faultRowsA ++ faultRowsB

/-- The row of a block's cause row number. -/
def faultRow (b row : Nat) : FaultRow :=
  (faultRows.find? (fun r => r.block == b && r.row == row)).getD ⟨b, row, 0, 2⟩

/-- The test window is open (R405). -/
def Eng.testOpen (e : Eng) (x : Ctx) : Bool :=
  match e.flt.testEnd with
  | none => false
  | some t => !stGe (x.st 0) t

/-- The first-fault record of block `b` as its bytes in a NOTIFY (Table 20-4, R14). -/
def Eng.firstBytes (e : Eng) (b : Nat) : Bytes :=
  leBytes 1 (e.n (Od.FLT_FIRST.valid b)) ++ leBytes 1 (e.n (Od.FLT_FIRST.source b)) ++
  leBytes 1 (e.n (Od.FLT_FIRST.class_ b)) ++ leBytes 2 (e.n (Od.FLT_FIRST.cause b)) ++
  leBytes 8 (e.n (Od.FLT_FIRST.detect_tick b)) ++ leBytes 8 (e.n (Od.FLT_FIRST.detect_st b)) ++
  leBytes 8 (e.n (Od.FLT_FIRST.clear_tick b)) ++ leBytes 1 (e.n (Od.FLT_FIRST.same_tick b)) ++
  leBytes 1 (e.n (Od.FLT_FIRST.flags b)) ++ leBytes 1 (e.n (Od.FLT_FIRST.prior_class b)) ++
  leBytes 4 (e.n (Od.FLT_FIRST.later b))

/-- Write a detection into its block's first-fault record (R402), keeping `same` in same_tick and `esc` the class it
displaces. -/
def Eng.fillFirst (e : Eng) (x : Ctx) (d : Detection) (same extraFlags prior : Nat) : Eng :=
  let b := d.block
  let e := e.set (Od.FLT_FIRST.valid b) 1
  let e := e.set (Od.FLT_FIRST.source b) d.src
  let e := e.set (Od.FLT_FIRST.class_ b) d.cls
  let e := e.set (Od.FLT_FIRST.cause b) d.cause
  let e := e.set (Od.FLT_FIRST.detect_tick b) x.tick
  let e := e.set (Od.FLT_FIRST.detect_st b) (x.st 0)
  let e := e.set (Od.FLT_FIRST.clear_tick b) (if d.isState then 0 else x.tick + 1 : Nat)
  let e := e.set (Od.FLT_FIRST.same_tick b) same
  let e := e.set (Od.FLT_FIRST.prior_class b) prior
  e.set (Od.FLT_FIRST.flags b)
    (boolNat d.forced + extraFlags + 8 * boolNat (e.testOpen x) : Nat)

/-- Two detections of one tick: the one of higher class takes the record, then the lower source, then the lower cause
(R402). -/
def beats (cls src cause cls' src' cause' : Nat) : Bool :=
  cls' < cls || (cls = cls' && (src < src' || (src = src' && cause < cause')))

/-- The detections of the present tick, oldest first. -/
def Eng.recent (e : Eng) (x : Ctx) : List Detection := if e.flt.evTick = x.tick then e.flt.recent else []

/-- The first-fault record takes, escalates to, or counts a detection, the last of `recent` (R402). An escalation takes the earlier
detections of its tick into same_tick: they fall with it, not after the record was filled. -/
def Eng.recordFirst (e : Eng) (x : Ctx) (d : Detection) : Eng :=
  let b := d.block
  let rc := e.n (Od.FLT_FIRST.class_ b)
  let rs := e.n (Od.FLT_FIRST.source b)
  let same := e.n (Od.FLT_FIRST.same_tick b)
  let fl := e.n (Od.FLT_FIRST.flags b)
  if !e.b (Od.FLT_FIRST.valid b) then e.fillFirst x d 0 0 0
  else if e.n (Od.FLT_FIRST.detect_tick b) = x.tick then
    if beats d.cls d.src d.cause rc rs (e.n (Od.FLT_FIRST.cause b)) then
      let same' := if rs = d.src then same else clearBits (same ||| 2 ^ rs) (2 ^ d.src)
      e.fillFirst x d same' ((fl &&& 2) + (if rs = d.src ∨ bitOf same d.src then 4 else 0))
        (e.n (Od.FLT_FIRST.prior_class b))
    else if rs = d.src then e.orb (Od.FLT_FIRST.flags b) 4
    else e.orb (Od.FLT_FIRST.same_tick b) (2 ^ d.src)
  else if rc < d.cls then
    let early := ((e.recent x).filter (fun q => q.block == b)).dropLast
    let others := early.foldl (fun m q => m ||| 2 ^ q.src) 0
    (e.set (Od.FLT_FIRST.later b) ((e.n (Od.FLT_FIRST.later b) + 2 ^ 32 - early.length) % 2 ^ 32 : Nat)).fillFirst x d
      (clearBits others (2 ^ d.src)) (2 + (if bitOf others d.src then 4 else 0)) rc
  else e.inc32 (Od.FLT_FIRST.later b)

/-- A detection has filled or replaced the record: its cause stands there, detected at this tick. -/
def Eng.recordTook (e : Eng) (x : Ctx) (d : Detection) : Bool :=
  e.n (Od.FLT_FIRST.cause d.block) = d.cause && e.n (Od.FLT_FIRST.detect_tick d.block) = x.tick
    && e.n (Od.FLT_FIRST.class_ d.block) = d.cls

/-- A change of the Eclipse rails: the first fixes the detection tick, another block of the same tick joins it, and a
later one changes nothing (R409). -/
def Eng.railChange (e : Eng) (x : Ctx) (reason : EclReason) (blocks first src cause : Nat) : Eng :=
  if e.flt.eclipse then e
  else
    match e.flt.rail with
    | none => { e with flt := { e.flt with rail := some ⟨x.tick, x.st 0, reason, blocks, first, src, cause⟩ } }
    | some r =>
      if r.tick = x.tick then
        let r' : RailChange :=
          if first < r.firstBlock ∨ (first = r.firstBlock ∧ (src < r.firstSource ∨
              (src = r.firstSource ∧ cause < r.cause)))
          then { r with reason := reason, firstBlock := first, firstSource := src, cause := cause } else r
        { e with flt := { e.flt with rail := some { r' with blocks := r.blocks ||| blocks } } }
      else e

/-- A FATAL detection in block 0, 20 or 21 ends the linger in its tick (R412). -/
def Eng.endLinger (e : Eng) (b : Nat) : Eng :=
  if e.flt.lingering && (b = 0 || b = 20 || b = 21) then { e with flt := { e.flt with lingering := false } } else e

/-- Count a detection by its class (R404, R416): FATAL is counted only in the Eclipse record. -/
def Eng.countDetection (e : Eng) (x : Ctx) (d : Detection) : Eng :=
  let e := match d.cls with
    | 1 => (e.inc32 (Od.FLT_BLOCK.corrected d.block)).count x 0xB1E
    | 2 => (e.inc32 (Od.FLT_BLOCK.contained d.block)).count x 0xB1F
    | _ => e
  let e := if d.forced then (e.inc32 (Od.FLT_BLOCK.forced d.block)).orb Od.FLT_GLOBAL.sticky 2 else e
  if d.cause / 256 = 0xF0 then (e.inc32 (Od.FLT_BLOCK.checker_fail d.block)).orb Od.FLT_GLOBAL.sticky 32 else e

/-- The latch bit and the current sources of this tick (R400). -/
def Eng.latchDetection (e : Eng) (x : Ctx) (d : Detection) : Eng :=
  { e with flt := { e.flt with
      evTick := x.tick, recent := e.recent x ++ [d],
      conds := if d.isState then ⟨d.block, d.cause / 256, d.cause % 256, d.src, d.cls⟩ :: e.flt.conds
        else e.flt.conds } }.orb (Od.FLT_BLOCK.latch d.block) (2 ^ d.src)

/-- Raise a fault: latch, count, first-fault record, interrupt unless masked (R401), NOTIFY for a CONTAINED or FATAL
record (R376), and for FATAL the Eclipse rails (R409). -/
def Eng.raise (e : Eng) (x : Ctx) (d : Detection) : Eng :=
  let e := e.latchDetection x d
  let e := e.countDetection x d
  let had := e.recordTook x d
  let e := e.recordFirst x d
  let took := e.recordTook x d && !had
  let e := if bitOf (e.n (Od.FLT_BLOCK.mask d.block)) d.src then e else e.irqPoke x (4 * d.block + d.src)
  let e := if d.cls ≥ 2 && took then e.notify x 3 (e.firstBytes d.block) else e
  if d.cls = 3 then
    (e.railChange x (if d.forced then .forced else .fault) (2 ^ d.block) d.block d.src d.cause).endLinger d.block
  else e

/-- An event on cause row `row` of block `b`, instance `inst` (R396, R398). -/
def Eng.detect (e : Eng) (x : Ctx) (b row inst : Nat) : Eng :=
  let r := faultRow b row
  e.raise x ⟨b, r.src, r.cls, row * 256 + inst % 256, false, false⟩

/-- The state condition of a row and instance is present. -/
def Eng.hasCond (e : Eng) (b row inst : Nat) : Bool :=
  e.flt.conds.any (fun c => c.block == b && c.row == row && c.inst == inst)

/-- A condition of kind state begins (R400); one already present is not detected again. -/
def Eng.condOn (e : Eng) (x : Ctx) (b row inst : Nat) : Eng :=
  let r := faultRow b row
  if e.hasCond b row inst then e else e.raise x ⟨b, r.src, r.cls, row * 256 + inst % 256, true, false⟩

/-- A condition of kind state ends: its first tick of absence enters a record that holds it (R402). -/
def Eng.condOff (e : Eng) (x : Ctx) (b row inst : Nat) : Eng :=
  if e.hasCond b row inst then
    let e := { e with flt := { e.flt with
      conds := e.flt.conds.filter (fun c => !(c.block == b && c.row == row && c.inst == inst)) } }
    if e.b (Od.FLT_FIRST.valid b) && e.n (Od.FLT_FIRST.cause b) = row * 256 + inst % 256 &&
        e.n (Od.FLT_FIRST.clear_tick b) = 0
    then e.set (Od.FLT_FIRST.clear_tick b) x.tick else e
  else e

/-- FLT_BLOCK.current: bit s while any condition of source s is present (R400). -/
def Eng.fltCurrent (e : Eng) (x : Ctx) (b : Nat) : Nat :=
  let st := e.flt.conds.foldl (fun m c => if c.block = b then m ||| 2 ^ c.src else m) 0
  (e.recent x).foldl (fun m d => if d.block = b then m ||| 2 ^ d.src else m) st

end Sys2Proof.Machine
end

