-- ==== Sys2Proof/Machine/Operands.lean ====
section
/-! DEFINITION. The operand forms of a dictionary access (spec/17_dictionary.md R344 to R347, spec/00_scope.md Table 0-6):
status codes, the values a type admits and their bytes, roles and access codes, and the frame in which a write is judged,
applied and accounted for. -/

namespace Sys2Proof.Machine

/-! ## Status codes (Table 17-1) -/

/-- OK. -/ def stOk : Nat := 0
/-- NO_OBJECT. -/ def stNoObject : Nat := 1
/-- NO_MEMBER. -/ def stNoMember : Nat := 2
/-- READ_ONLY. -/ def stReadOnly : Nat := 3
/-- DENIED. -/ def stDenied : Nat := 4
/-- RANGE. -/ def stRange : Nat := 5
/-- SIZE. -/ def stSize : Nat := 6
/-- BUSY. -/ def stBusy : Nat := 7
/-- MODE. -/ def stMode : Nat := 8
/-- WHOLE. -/ def stWhole : Nat := 9
/-- QUEUED. -/ def stQueued : Nat := 10
/-- PAST. -/ def stPast : Nat := 11
/-- LEAD. -/ def stLead : Nat := 12
/-- ORDER. -/ def stOrder : Nat := 13
/-- DUPLICATE. -/ def stDuplicate : Nat := 14
/-- NOT_LISTED. -/ def stNotListed : Nat := 15
/-- NOT_EMPTY. -/ def stNotEmpty : Nat := 16
/-- EMPTY_SLOT. -/ def stEmptySlot : Nat := 17
/-- CURRENT. -/ def stCurrent : Nat := 18
/-- NO_SEED. -/ def stNoSeed : Nat := 19
/-- NO_KEY. -/ def stNoKey : Nat := 20
/-- IN_USE. -/ def stInUse : Nat := 21
/-- OVERLAP. -/ def stOverlap : Nat := 22
/-- FULL. -/ def stFull : Nat := 23
/-- ECC. -/ def stEcc : Nat := 24
/-- SAVING. -/ def stSaving : Nat := 25
/-- LAST_KEYHOLDER. -/ def stLastKeyholder : Nat := 26
/-- SLOT. -/ def stSlot : Nat := 27
/-- LENGTH. -/ def stLength : Nat := 28
/-- KEY. -/ def stKey : Nat := 29

/-! ## Values (Table 0-6) -/

/-- The value a type's bytes hold (R14); missing bytes of a STR or BLOB are zero. -/
def OdType.ofBytes (t : OdType) (bs : Bytes) : Int :=
  match t with
  | .s n => signed (8 * n) (leNat bs)
  | _ => leNat bs

/-- The bytes of a value (R14). -/
def OdType.toBytes (t : OdType) (v : Int) : Bytes := leBytes t.size (unsigned (8 * t.size) v)

/-- Value bytes of the right length (R344 step 6): a STR or BLOB may be shorter. -/
def OdType.lenOk (t : OdType) (n : Nat) : Bool :=
  match t with
  | .str k => n ≤ k
  | .blob k => n ≤ k
  | _ => n == t.size

/-- A number a type's bytes can hold: 0 always, else one below a power that the bytes give. -/
def OdType.holds (t : OdType) (v : Int) : Bool :=
  match t with
  | .s n => -(2 ^ (8 * n - 1) : Nat) ≤ v && v < (2 ^ (8 * n - 1) : Nat)
  | _ => v == 0 || (0 ≤ v && v < (2 ^ (8 * t.size) : Nat))

/-- The continuation bytes of one UTF-8 character: `n` of them, the first within `[lo, hi]`. -/
def utf8Tail (n lo hi : Nat) (bs : Bytes) : Option Bytes :=
  match n, bs with
  | 0, bs => some bs
  | _ + 1, [] => none
  | m + 1, b :: bs =>
    if lo ≤ b.toNat ∧ b.toNat ≤ hi then
      match m, bs with
      | 0, bs => some bs
      | 1, c :: bs => if 0x80 ≤ c.toNat ∧ c.toNat ≤ 0xBF then some bs else none
      | 2, c :: d :: bs =>
        if 0x80 ≤ c.toNat ∧ c.toNat ≤ 0xBF ∧ 0x80 ≤ d.toNat ∧ d.toNat ≤ 0xBF then some bs else none
      | _, _ => none
    else none

/-- One UTF-8 character (RFC 3629), and what follows it. -/
def utf8Char (bs : Bytes) : Option Bytes :=
  match bs with
  | [] => none
  | b :: bs =>
    let n := b.toNat
    if n < 0x80 then some bs
    else if 0xC2 ≤ n ∧ n ≤ 0xDF then utf8Tail 1 0x80 0xBF bs
    else if n = 0xE0 then utf8Tail 2 0xA0 0xBF bs
    else if n = 0xED then utf8Tail 2 0x80 0x9F bs
    else if 0xE1 ≤ n ∧ n ≤ 0xEF then utf8Tail 2 0x80 0xBF bs
    else if n = 0xF0 then utf8Tail 3 0x90 0xBF bs
    else if 0xF1 ≤ n ∧ n ≤ 0xF3 then utf8Tail 3 0x80 0xBF bs
    else if n = 0xF4 then utf8Tail 3 0x80 0x8F bs
    else none

/-- Valid UTF-8, by fuel. -/
def utf8Ok : Nat → Bytes → Bool
  | _, [] => true
  | 0, _ => false
  | f + 1, bs => match utf8Char bs with
    | some r => utf8Ok f r
    | none => false

/-- A STR value is well formed: valid UTF-8 up to its first zero byte, and zeros from there (Table 0-6). -/
def strOk (bs : Bytes) : Bool :=
  let text := bs.takeWhile (fun b => b != 0)
  utf8Ok text.length text && (bs.drop text.length).all (fun b => b == 0)

/-- R344 step 7: reserved bits zero, and a STR well formed. -/
def ObjRow.step7 (r : ObjRow) (v : Int) : Bool :=
  (match r.ty with
   | .str n => strOk (leBytes n v.toNat)
   | _ => true) &&
  (match r.chk with
   | .mask m => clearBits v.toNat m == 0
   | _ => true)

/-- The nanosecond field of a packed WT (Table 0-5). -/
def wtNs (v : Nat) : Nat := v / 2 ^ 16 % 2 ^ 32

/-- The linear value of a packed WT in 2^-16 ns (Table 0-5). -/
def wtUnits (v : Nat) : Nat := (v / 2 ^ 48) * unitsPerSec + wtNs v * 65536 + v % 65536

/-- A count of 2^-16 ns presented as a packed WT (R7, R62): whole seconds by floor division, modulo 2^48. -/
def wtOf (x : Int) : Nat :=
  let sec := (x.fdiv unitsPerSec) % (2 ^ 48 : Nat)
  let rem := (x.fmod unitsPerSec).toNat
  sec.toNat * 2 ^ 48 + (rem / 65536) * 2 ^ 16 + rem % 65536

/-- The value's own range (R344 step 8): BOOL is 0 or 1, a WT's nanosecond field is in range (R7), and the range the
row states. -/
def ObjRow.inRange (r : ObjRow) (v : Int) : Bool :=
  (match r.ty with
   | .bool => v == 0 || v == 1
   | .wt => wtNs v.toNat < 1000000000
   | _ => true) &&
  (match r.chk with
   | .rng lo hi => lo ≤ v && v ≤ hi
   | .oneOf vs => vs.contains v
   | _ => true)

/-! ## Roles and access codes (R15, R16) -/

/-- A role mask reaches an object that lists `listed`: Observer rights are included in every other role (R16). -/
def roleOk (listed roles : Nat) : Bool :=
  (listed &&& roles % 16) != 0 || (bitOf listed 0 && roles % 16 != 0)

/-- Members that are RO for one instance: moon 0's enable, scale and steer_source (Table 2-7). -/
def roInstance (k : Key) : Bool := k == Od.MOON_CONFIG.enable 0 || k == Od.MOON_CONFIG.scale 0 ||
  k == Od.MOON_CONFIG.steer_source 0

/-- An access code that admits a write (R15). -/
def ObjRow.writable (r : ObjRow) (k : Key) : Bool := r.access != .ro && !roInstance k

/-- The areas whose writes are accepted in Eclipse (R411). -/
def eclipseArea (a : Nat) : Bool := a == 0x50 || a == 0x58 || a == 0x68 || a == 0x70 || a == 0x78

/-- Writes to an area are refused with MODE: in Eclipse outside the areas of R411, and in RECOVERY outside area 78
(R426). -/
def Eng.modeRefused (e : Eng) (a : Nat) : Bool :=
  (e.flt.eclipse && !eclipseArea a) || (e.boot.recovery && a != 0x78)

/-! ## Judging, applying and accounting for a write -/

/-- The outcome of a write: its status, and the engines as it leaves them. -/
abbrev WriteRes := Nat × Eng

/-- Account for a write's outcome (R362): the response's status and tick, the counters of DICT_STATUS, event
DICT_ACCEPTED, and STORE.unsaved for a persistent object (R357). -/
def Eng.account (e : Eng) (x : Ctx) (persistent : Bool) (status : Nat) : Eng :=
  let e := { e with resp := ⟨status, x.tick, 0, []⟩ }
  if status = stOk then
    let e := (e.inc64 Od.DICT_STATUS.accepted).count x 0xB1B
    if persistent then e.set Od.STORE.unsaved 1 else e
  else if status = stDenied then (e.inc64 Od.DICT_STATUS.denied).orb Od.DICT_STATUS.sticky 2
  else if status = stBusy then ((e.inc64 Od.DICT_STATUS.busy).orb Od.DICT_STATUS.sticky 1).count x 0xB1C
  else e.inc64 Od.DICT_STATUS.refused

/-- The status of R344 steps 4 to 7 for one value, and the MODE of Eclipse and RECOVERY that stands before step 8
(R411, R426). -/
def Eng.judge (e : Eng) (r : ObjRow) (k : Key) (v : Int) (roles : Nat) : Nat :=
  if !roleOk r.roles roles then stDenied
  else if !r.writable k then stReadOnly
  else if !r.ty.holds v then stSize
  else if !r.step7 v then stRange
  else if e.modeRefused k.area then stMode
  else stOk

/-- A refusal at step 8 of R344 is counted where its chapter says: MOON_STATUS.refused with MODE in sticky (R68), and
SCHED_STATUS.refused (R83). -/
def Eng.refusedHook (e : Eng) (k : Key) (st : Nat) : Eng :=
  if st = stOk then e
  else if k.area = 0x10 ∧ k.item ≥ 0x100 then
    let m := (k.item - 0x100) / 16
    let e := e.inc32 (Od.MOON_STATUS.refused m)
    if st = stMode then e.orb (Od.MOON_STATUS.sticky m) 32 else e
  else if k.area = 0x14 ∧ k.item ≥ 0x400 then
    let e := e.inc32 Od.SCHED_STATUS.refused
    if st = stPast then e.orb Od.SCHED_STATUS.sticky 4 else e
  else e

/-- Step 8 for one value: its range, then the chapter's own checks and effect. -/
def Eng.step8 (e : Eng) (r : ObjRow) (k : Key) (v : Int) (op : Eng → WriteRes) : WriteRes :=
  let w := if r.inRange v then op e else (stRange, e)
  (w.1, w.2.refusedHook k w.1)

/-- A command's write of one object: judged by its row, then by `op`, and accounted for (R344). -/
def Eng.writeCmd (e : Eng) (x : Ctx) (k : Key) (v : Int) (roles : Nat) (op : Eng → WriteRes) : Eng :=
  match rowOf k with
  | none => e.account x false stNoObject
  | some r =>
    let st := e.judge r k v roles
    if st = stOk then
      let w := e.step8 r k v op
      w.2.account x (r.persist == .store) w.1
    else e.account x false st

/-- The values of a whole record, each judged by its member's row; the first refusal wins (R345). -/
def Eng.judgeAll (e : Eng) (vs : List (Key × Int)) (roles : Nat) : Nat :=
  vs.foldl (fun st p => if st != stOk then st else
    match rowOf p.1 with
    | none => stNoMember
    | some r => e.judge r p.1 p.2 roles) stOk

/-- Every value of a record is in its own range. -/
def rangeAll (vs : List (Key × Int)) : Bool :=
  vs.all (fun p => match rowOf p.1 with | some r => r.inRange p.2 | none => false)

/-- Some value of a record is persistent. -/
def persistAny (vs : List (Key × Int)) : Bool :=
  vs.any (fun p => match rowOf p.1 with | some r => r.persist == .store | none => false)

/-- A command's write of a whole record: all of it is judged, then applied at one tick or refused (R345). -/
def Eng.writeRecCmd (e : Eng) (x : Ctx) (k : Key) (vs : List (Key × Int)) (roles : Nat) (op : Eng → WriteRes) : Eng :=
  let st := e.judgeAll vs roles
  if st = stOk then
    let w := if rangeAll vs then op e else (stRange, e)
    (w.2.refusedHook k w.1).account x (persistAny vs) w.1
  else e.account x false st

/-- Store every value of a list. -/
def Eng.setAll (e : Eng) (vs : List (Key × Int)) : Eng := vs.foldl (fun e p => e.set p.1 p.2) e

/-- A write that stores its value and does nothing else. -/
def Eng.plainWrite (k : Key) (v : Int) (e : Eng) : WriteRes := (stOk, e.set k v)

/-- The writable members of a record, in order. -/
def recKeys (area item : Nat) : List Key :=
  ((rowsAt area item).filter (fun r => r.access != .ro)).map (fun r => odKey area item r.member)

/-- The values a record write names: one member, or every writable member in order (R345). -/
def recValues (area item : Nat) : RecWrite → List (Key × Int)
  | .member m v => [(odKey area item m, v)]
  | .whole vs => (recKeys area item).zip vs

/-- A command's write of a record: one member or the whole of it; a whole write with another number of values has the
wrong size (R344 step 6). -/
def Eng.recCmd (e : Eng) (x : Ctx) (area item : Nat) (w : RecWrite) (roles : Nat)
    (op : List (Key × Int) → Eng → WriteRes) : Eng :=
  let vs := recValues area item w
  match w with
  | .member m v => e.writeCmd x (odKey area item m) v roles (op vs)
  | .whole l =>
    if l.length ≠ (recKeys area item).length then e.account x false stSize
    else e.writeRecCmd x (odKey area item 0) vs roles (op vs)

/-- A write names one of these objects: a relation of several objects is checked by a write that names one of them. -/
def names (vs : List (Key × Int)) (ks : List Key) : Bool := vs.any (fun p => ks.contains p.1)

/-- Refuse with a status, unless a condition holds. -/
def refuseUnless (ok : Bool) (st : Nat) (e : Eng) (op : Eng → WriteRes) : WriteRes := if ok then op e else (st, e)

end Sys2Proof.Machine
end

