-- ==== Sys2Proof/Machine/Timescale.lean ====
section
/-! DEFINITION. Timescales, leap seconds, labels and conversions (spec/02_moons.md R53 to R67). A label and a linear count
are in 2^-16 ns; a leap instant L is in label seconds. -/

namespace Sys2Proof.Machine

/-! ## The leap table (R54) -/

/-- A leap of the table in force: its instant L in label seconds, the offset before it, and the change d. -/
structure Leap where
  instant : Nat
  before : Int
  d : Int
  deriving DecidableEq, Repr

/-- Insert an (instant, offset) pair in ascending order of instant. -/
def insertLeap (p : Nat × Int) : List (Nat × Int) → List (Nat × Int)
  | [] => [p]
  | q :: t => if p.1 < q.1 then p :: q :: t else q :: insertLeap p t

/-- The valid entries of a store in ascending order of L: (L in seconds, new offset). -/
def leapPairs (s : Store) : List (Nat × Int) :=
  (List.range 32).foldl (fun l i =>
    if sget s (Od.LEAP_ENTRY.valid i) = 1
    then insertLeap ((sget s (Od.LEAP_ENTRY.instant i)).toNat / 2 ^ 48, sget s (Od.LEAP_ENTRY.offset i)) l else l) []

/-- The leaps of the pairs, each with the offset its predecessor leaves. -/
def leapChain (before : Int) : List (Nat × Int) → List Leap
  | [] => []
  | (l, o) :: t => ⟨l, before, o - before⟩ :: leapChain o t

/-- The leaps of the table in force. -/
def Eng.leaps (e : Eng) : List Leap := leapChain (e.i Od.LEAP_BASE) (leapPairs e.od)

/-! ## Leap points (R55, R56, R58) -/

/-- One second in units, as an integer. -/
def secU : Int := unitsPerSec

/-- The switch point p (R55). -/
def Leap.switchAt (l : Leap) : Int := if l.d < 0 then (l.instant - 1 + l.before) * secU else (l.instant + l.before) * secU

/-- The start of the smear window w (R56). -/
def Leap.smearStart (l : Leap) : Int := (l.instant + l.before) * secU - 43200 * secU

/-- The end of the smear window (R56). -/
def Leap.smearEnd (l : Leap) : Int := l.smearStart + 86400 * secU

/-- The start of the announcement (R58). -/
def Leap.announceAt (l : Leap) : Int := ((l.instant : Int) - 86400) * secU + l.before * secU

/-- The end of the leap (R58). -/
def Leap.endAt (l : Leap) : Int := if l.d < 0 then l.switchAt else l.switchAt + secU

/-! ## Labels (R53 to R56) -/

/-- TAI − UTC in seconds in force at linear count `c` (R55). -/
def taiUtcAt (base : Int) (ls : List Leap) (c : Int) : Int :=
  ls.foldl (fun o l => if l.switchAt ≤ c then l.before + l.d else o) base

/-- The smeared label's distance from the linear count (R56). -/
def smearOffset (base : Int) (ls : List Leap) (c : Int) : Int :=
  ls.foldl (fun o l =>
    if l.smearEnd ≤ c then (l.before + l.d) * secU
    else if l.smearStart ≤ c then l.before * secU + l.d * ((c - l.smearStart).fdiv 86400)
    else o) (base * secU)

/-- The label a moon of a scale presents at linear count `c` (Table 2-2). -/
def labelAt (scale : Nat) (base : Int) (ls : List Leap) (c : Int) : Int :=
  match scale with
  | 1 => c - taiUtcAt base ls c * secU
  | 2 => c - smearOffset base ls c
  | _ => c

/-- The label of moon `k` at linear count `c`. -/
def Eng.label (e : Eng) (k : Nat) (c : Int) : Int :=
  labelAt (e.n (Od.MOON_CONFIG.scale k)) (e.i Od.LEAP_BASE) e.leaps c

/-- The leap indicator of the table at linear count `c`, for scale UTC (R58). -/
def liTable (ls : List Leap) (c : Int) : Nat :=
  ls.foldl (fun li l => if l.announceAt ≤ c ∧ c < l.endAt then (if l.d < 0 then 2 else 1) else li) 0

/-- Within an inserted second (R55). -/
def inLeapAt (ls : List Leap) (c : Int) : Bool :=
  ls.any (fun l => 0 < l.d && l.switchAt ≤ c && c < l.switchAt + secU)

/-- Within a smear window (R56). -/
def inSmear (ls : List Leap) (c : Int) : Bool := ls.any (fun l => l.smearStart ≤ c && c < l.smearEnd)

/-- The next valid entry of a scale at a count (R65). -/
def nextLeap (scale : Nat) (ls : List Leap) (c : Int) : Option Leap :=
  match scale with
  | 1 => ls.find? (fun l => c < l.endAt)
  | 2 => ls.find? (fun l => c < l.smearEnd)
  | _ => none

/-- The points of a leap with their codes, for scale UTC or UTC_SMEAR (R74). -/
def Leap.points (l : Leap) (scale : Nat) : List (Int × Nat) :=
  if scale = 2 then
    [(l.announceAt, 1), (l.smearStart, 2), (l.switchAt, 3), (l.endAt, 4), (l.smearEnd, 5)]
  else if scale = 1 then [(l.announceAt, 1), (l.switchAt, 3), (l.endAt, 4)]
  else []

/-- Every leap point of a moon of a scale. -/
def leapPoints (scale : Nat) (ls : List Leap) : List (Int × Nat) := ls.flatMap (fun l => l.points scale)

/-- The state-dependent leap indicator, stratum and time_ok (Table 2-4). -/
def qualityOf (st : MoonState) (stratumLocked li : Nat) : Nat × Nat × Bool :=
  match st with
  | .locked => (li, stratumLocked, true)
  | .holdover => (li, min (stratumLocked + 1) 15, true)
  | _ => (3, 16, false)

/-! ## Conversions (R62 to R64) -/

/-- The NTP timestamp of a label: era, seconds and fraction in one 64-bit word (R63). -/
def ntpOf (x : Int) : Nat × Nat :=
  let f := roundDiv ((x.fmod secU) * 65536) 1000000000
  let n := x.fdiv secU + 2208988800 + (if f = (2 ^ 32 : Nat) then 1 else 0)
  let frac := if f = (2 ^ 32 : Nat) then 0 else f.toNat
  ((n.fdiv (2 ^ 32 : Nat)).toNat, (n % (2 ^ 32 : Nat)).toNat * 2 ^ 32 + frac)

/-- The PTP timestamp of a linear count: seconds, nanoseconds and the remaining 2^-16 ns (R64). -/
def ptpOf (c : Nat) : Nat × Nat × Nat := (c / unitsPerSec, c % unitsPerSec / 65536, c % 65536)

/-- The 80-bit PTP timestamp's bytes in network order. -/
def ptpBytes (c : Nat) : Bytes := beBytes 6 (ptpOf c).1 ++ beBytes 4 (ptpOf c).2.1

/-! ## Projection (R67) -/

/-- The records of moon `k` and moon 0 in force at a moon 0 instant in 2^-16 ns (R27, R67). -/
def Eng.recordsAt (e : Eng) (k v0 : Nat) : EpochRec × EpochRec :=
  let m0 := e.moon 0
  let mk := e.moon k
  if m0.next.count ≤ v0 * 2 ^ 32 then (m0.next, mk.next)
  else if m0.cur.count ≤ v0 * 2 ^ 32 then (m0.cur, mk.cur)
  else (m0.prev, mk.prev)

/-- A projection: the linear count in 2^-16 ns and the record that produced it. -/
structure Projected where
  lin : Int
  rec_ : EpochRec
  deriving DecidableEq, Repr

/-- Moon `k` projected to the moon 0 instant `v0` (R67): exact for moon 0; a disabled moon holds its count (R39). -/
def Eng.project (e : Eng) (k v0 : Nat) : Projected :=
  let p := e.recordsAt k v0
  if k = 0 then ⟨v0, p.1⟩
  else
    let dt : Int := (v0 * 2 ^ 32 : Nat) - (p.1.count : Int)
    let adv : Int := if p.2.adv then (dt * p.2.inc).fdiv p.1.inc else 0
    ⟨((p.2.count : Int) + adv).fdiv (2 ^ 32 : Nat), p.2⟩

/-- The leap a record names in its members 9 and 10. -/
def EpochRec.leap (r : EpochRec) : List Leap := if r.leapDelta = 0 then [] else [⟨r.leapInstant / 2 ^ 48, r.leapBefore, r.leapDelta⟩]

/-- The leap indicator of a projection (R67): the record's, or, with a leap point in the boundary, that of R58 at the projected count by
the record's own leap. -/
def Eng.projLi (e : Eng) (k : Nat) (p : Projected) : Nat :=
  if bitOf p.rec_.flags 1 then
    (qualityOf p.rec_.state 1 (if e.n (Od.MOON_CONFIG.scale k) = 1 then liTable p.rec_.leap p.lin else 0)).1
  else p.rec_.li

/-- The label of a projection. -/
def Eng.projLabel (e : Eng) (k : Nat) (p : Projected) : Int := e.label k p.lin

/-! ## Instants of a moon's count (R67 inverted, R76) -/

/-- The tick in which a moon reaches an accumulator value, by a record from its boundary on. -/
def EpochRec.tickOf (r : EpochRec) (acc : Nat) : Nat := r.boundary * 2 ^ 20 + (acc - r.count) / r.inc

/-- The moon 0 instant in 2^-48 ns at which moon `k` reaches `acc`, by the records of one boundary. -/
def instantOf (r0 rk : EpochRec) (acc : Nat) : Nat := r0.count + ceilDiv ((acc - rk.count) * r0.inc) rk.inc

/-- The record of moon `k` in force when it reaches `acc`: the next one once the count has reached its count. -/
def Eng.recordReaching (e : Eng) (k acc : Nat) : EpochRec × EpochRec :=
  let m0 := e.moon 0
  let mk := e.moon k
  if mk.cur.count + mk.cur.inc * 2 ^ 20 ≤ acc ∨ mk.next.count ≤ acc then (m0.next, mk.next) else (m0.cur, mk.cur)

/-- The linear count of a moon's target short time, nearest to its count now (R60). -/
def Ctx.linOfTarget (x : Ctx) (k target : Nat) : Int := (x.lin k : Int) + stDiff target (x.st k)

/-- The tick of a moon 0 count captured in the present boundary or the one before it. -/
def Eng.tickOfCount (e : Eng) (c : Nat) : Nat :=
  let m := e.moon 0
  let r := if m.cur.count ≤ c * 2 ^ 32 then m.cur else m.prev
  r.boundary * 2 ^ 20 + (c * 2 ^ 32 - r.count) / max 1 r.inc

end Sys2Proof.Machine
end

