-- ==== Sys2Proof/Machine/Flags.lean ====
section
/-! DEFINITION. The epoch record's flags (Table 2-6) and the sticky causes of MOON_STATUS (R68). -/

namespace Sys2Proof.Machine

/-- The sticky causes of MOON_STATUS, as masks: JUMP_REFUSED, CEILING, CLAMP, NOT_FREE_RUN, SUPERSEDED, MODE,
COPY_FAIL (R68). -/
inductive MoonCause where
  | jumpRefused
  | ceiling
  | clamp
  | notFreeRun
  | superseded
  | mode
  | copyFail
  deriving DecidableEq, Repr

/-- The bit of a cause in MOON_STATUS.sticky. -/
def MoonCause.mask : MoonCause → Nat
  | .jumpRefused => 1
  | .ceiling => 2
  | .clamp => 4
  | .notFreeRun => 8
  | .superseded => 16
  | .mode => 32
  | .copyFail => 64

/-- Set a cause in MOON_STATUS.sticky. -/
def Eng.moonSticky (e : Eng) (k : Nat) (c : MoonCause) : Eng := e.orb (Od.MOON_STATUS.sticky k) c.mask

/-- A refusal counted in MOON_STATUS.refused with its cause (R68). -/
def Eng.moonRefused (e : Eng) (k : Nat) (c : MoonCause) : Eng :=
  (e.inc32 (Od.MOON_STATUS.refused k)).moonSticky k c

/-- A leap point of the moon's scale lies from the record's count up to the count of the next boundary (Table 2-6,
bit 0 of the pair leap_in_boundary). -/
def leapInBoundary (scale : Nat) (ls : List Leap) (lo hi : Int) : Bool :=
  (leapPoints scale ls).any (fun p => lo ≤ p.1 && p.1 < hi)

/-- The flags member of a record (Table 2-6) from its decision and its count. -/
def epochFlags (timeOk : Bool) (d : Decision) (degraded follower : Bool) (scale : Nat) (ls : List Leap)
    (lo hi : Int) : Nat :=
  2048 * boolNat timeOk + 1024 * boolNat d.setTo.isSome + 512 * boolNat d.stepped + 256 * boolNat d.consented +
  128 * boolNat d.refused + 64 * boolNat d.ceiling + 32 * boolNat d.clamped + 16 * boolNat degraded +
  8 * boolNat (scale = 1 && liTable ls lo != 0) + 4 * boolNat (scale = 2 && inSmear ls lo) +
  2 * boolNat (leapInBoundary scale ls lo hi) + boolNat follower

end Sys2Proof.Machine
end

