-- ==== Sys2Proof/Machine/Moons.lean ====
section
/-! DEFINITION. The moons (spec/02_moons.md): the writes that stage a change, what a closing tick decides of them, how a
boundary applies the decision, the compare cells, jump consent, and the triple-redundant copies. -/

namespace Sys2Proof.Machine

/-! ## Staging (R39 to R49) -/

/-- The moon follows moon 0 (R42). -/
def Eng.follows (e : Eng) (k : Nat) : Bool := k != 0 && e.n (Od.MOON_CONFIG.steer_source k) = 1

/-- The moon's loop is open, and is not sealed to close at the coming boundary (R279). -/
def Eng.loopOpen (e : Eng) (k : Nat) : Bool :=
  (nth e.steer k SteerUnit.atReset).isOpen && (e.sealedFor.isNone || sget e.sel.cfgNext (Od.STEER_MOON.mode k) == 1)

/-- A write of MOON_CONFIG.enable: it takes effect at the boundary whose closing tick follows (R39). -/
def moonEnableWrite (k : Nat) (v : Int) (e : Eng) : WriteRes := (stOk, e.set (Od.MOON_CONFIG.enable k) v)

/-- A write of MOON_INC_STAGED: MODE for a follower or a closed loop (R41, R42). -/
def moonIncWrite (k : Nat) (v : Int) (e : Eng) : WriteRes :=
  if e.follows k || !e.loopOpen k then (stMode, e) else (stOk, e.set (Od.MOON_INC_STAGED k) v)

/-- A write of MOON_STEP_STAGED: MODE for a follower; zero cancels (R42, R45). -/
def moonStepWrite (k : Nat) (v : Int) (e : Eng) : WriteRes :=
  if e.follows k then (stMode, e) else (stOk, e.set (Od.MOON_STEP_STAGED k) v)

/-- Ten seconds in 2^-16 ns. -/
def tenSeconds : Nat := 10 * unitsPerSec

/-- A write of MOON_CONSENT.bound (R47): RANGE when negative or beyond the fused ceiling; a nonzero bound arms consent
for 10 s of moon 0 time, and zero disarms it. -/
def moonConsentWrite (x : Ctx) (k : Nat) (v : Int) (e : Eng) : WriteRes :=
  if v < 0 ∨ x.fuses.ceilStep < v then (stRange, e)
  else
    let e := e.set (Od.MOON_CONSENT.bound k) v
    if v = 0 then (stOk, e.set (Od.MOON_CONSENT.armed k) 0)
    else
      let e := e.set (Od.MOON_CONSENT.armed k) 1
      (stOk, e.set (Od.MOON_CONSENT.expires k) ((x.st 0 + tenSeconds) % 2 ^ 64 : Nat))

/-- A write of MOON_SET: MODE for a follower; the value is stored, and the set armed or left unarmed (R68). -/
def moonSetWrite (k : Nat) (v : Int) (armed : Int) (e : Eng) : WriteRes :=
  if e.follows k then (stMode, e)
  else (stOk, (e.set (Od.MOON_SET.value k) v).set (Od.MOON_SET.armed k) armed)

/-- A write of MOON_SET.armed alone: 0 cancels, 1 is refused with RANGE (R68). -/
def moonSetArmedWrite (k : Nat) (v : Int) (e : Eng) : WriteRes :=
  if e.follows k then (stMode, e)
  else if v = 0 then (stOk, e.set (Od.MOON_SET.armed k) 0) else (stRange, e)

/-- The jump limit may not exceed the fused phase-step ceiling, nor be negative (R34, R68). -/
def jumpLimitWrite (x : Ctx) (k : Nat) (v : Int) (e : Eng) : WriteRes :=
  if v < 0 ∨ x.fuses.ceilStep < v then (stRange, e) else (stOk, e.set (Od.MOON_CONFIG.jump_limit k) v)

/-! ## Compare cells (R61) -/

/-- The object of a compare cell's target. -/
def cmpTarget (k c : Nat) : Key := odKey 0x10 (0x10C + c + 16 * k) 1

/-- The object of a compare cell's armed bit. -/
def cmpArmed (k c : Nat) : Key := odKey 0x10 (0x10C + c + 16 * k) 2

/-- The object of a compare cell's reached bit. -/
def cmpReached (k c : Nat) : Key := odKey 0x10 (0x10C + c + 16 * k) 3

/-- A write of a compare cell's target: RANGE beyond 2^46 ns ahead; otherwise the cell is armed (R61). -/
def cmpTargetWrite (x : Ctx) (k c : Nat) (v : Int) (e : Eng) : WriteRes :=
  if (2 ^ 62 : Nat) < stDiff v.toNat (x.st k) then (stRange, e)
  else
    let e := (e.set (cmpTarget k c) v).set (cmpArmed k c) 1
    (stOk, { e with cmpArmedAt := tput e.cmpArmedAt (4 * k + c) x.tick })

/-- The cell is due: armed before this tick, and its moon at or after the target by R60. -/
def Eng.cmpDue (e : Eng) (x : Ctx) (k c : Nat) : Bool :=
  e.b (cmpArmed k c) && tgetD e.cmpArmedAt (4 * k + c) 0 < x.tick && stGe (x.st k) (e.n (cmpTarget k c))

/-- A cell fires: reached is set, its source raised, and it disarms (R61). -/
def Eng.cmpFire (e : Eng) (x : Ctx) (k c : Nat) : Eng :=
  ((e.set (cmpReached k c) 1).set (cmpArmed k c) 0).irqLatch x (128 + k)

/-- Every armed cell of a moon is disarmed without firing, at a set of it (R61). -/
def Eng.cmpDisarm (e : Eng) (k : Nat) : Eng :=
  (List.range 4).foldl (fun e c => if e.b (cmpArmed k c) then e.set (cmpArmed k c) 0 else e) e

/-! ## Jump consent (R47) -/

/-- Consent is armed and has not expired. -/
def Eng.consentLive (e : Eng) (x : Ctx) (k : Nat) : Bool :=
  e.b (Od.MOON_CONSENT.armed k) && !stGe (x.st 0) (e.n (Od.MOON_CONSENT.expires k))

/-- Consent is armed and its 10 s have passed. -/
def Eng.consentDue (e : Eng) (x : Ctx) (k : Nat) : Bool :=
  e.b (Od.MOON_CONSENT.armed k) && stGe (x.st 0) (e.n (Od.MOON_CONSENT.expires k))

/-- Consent is consumed: armed and the bound read 0 from this tick. -/
def Eng.consumeConsent (e : Eng) (k : Nat) : Eng :=
  (e.set (Od.MOON_CONSENT.armed k) 0).set (Od.MOON_CONSENT.bound k) 0

/-! ## The closing tick's decisions (R43, R46, R49) -/

/-- The half-width of a ceiling given in ppb, in increment units (R43). -/
def ppbUnits (ppb : Nat) : Nat := ppb * 2 ^ 48 / 1000000000

/-- The outcome of the four tests of R43 on a staged increment: the increment to take, whether a fused ceiling
discarded the value, and whether a setting clamped it. -/
def incOutcome (x : Ctx) (slewPpb ratePpb : Nat) (active staged : Int) : Int × Bool × Bool :=
  let nominal : Int := (2 ^ 48 : Nat)
  if x.fuses.ceilFreq < (staged - nominal).natAbs ∨ x.fuses.ceilRate < (staged - active).natAbs then
    (active, true, false)
  else
    let s1 := clampInt (nominal - ppbUnits slewPpb) (nominal + ppbUnits slewPpb) staged
    let s2 := clampInt (active - ppbUnits ratePpb) (active + ppbUnits ratePpb) s1
    (s2, false, s2 != staged)

/-- What becomes of a staged step (R34, R46, Table 2-1). -/
inductive StepOutcome where
  | none
  | applied
  | consented
  | refused
  | ceiling
  | superseded
  deriving DecidableEq, Repr

/-- The outcome of a staged step `s` (Table 2-1, R49): `set` when a set of the moon is accepted for the same boundary. -/
def stepOutcome (x : Ctx) (freeRun set consentArmed : Bool) (jumpLimit bound s : Int) : StepOutcome :=
  if s = 0 then .none
  else if set then .superseded
  else if freeRun then .applied
  else if x.fuses.ceilStep < s.natAbs then .ceiling
  else if 0 < s ∧ s ≤ jumpLimit then .applied
  else if consentArmed ∧ (s.natAbs : Int) ≤ bound then .consented
  else .refused

/-- A moon's own decision for the coming boundary (R43 to R49), with the staged objects as the closing tick leaves
them. -/
def Eng.decideOwn (e : Eng) (x : Ctx) (k : Nat) : Decision × Eng :=
  let free := (e.moon k).cur.state == .freeRun
  let staged := e.i (Od.MOON_INC_STAGED k)
  let active : Int := x.inc k
  let io := incOutcome x (e.n (Od.MOON_CONFIG.slew_ceiling_ppb k)) (e.n (Od.MOON_CONFIG.rate_ceiling_ppb k)) active
    staged
  let e := if io.2.1 then e.set (Od.MOON_INC_STAGED k) active else e
  let armed := e.b (Od.MOON_SET.armed k)
  let e := if armed then e.set (Od.MOON_SET.armed k) 0 else e
  let setOk := armed && free
  let e := if armed && !free then e.moonRefused k .notFreeRun else e
  let s := e.i (Od.MOON_STEP_STAGED k)
  let so := stepOutcome x free setOk (e.consentLive x k) (e.i (Od.MOON_CONFIG.jump_limit k))
    (e.i (Od.MOON_CONSENT.bound k)) s
  let e := if s = 0 then e else e.set (Od.MOON_STEP_STAGED k) 0
  let e := match so with
    | .consented => e.consumeConsent k
    | .refused => e.moonRefused k .jumpRefused
    | .superseded => e.moonRefused k .superseded
    | _ => e
  let ceil := io.2.1 || so == .ceiling
  let e := if ceil then (e.inc32 (Od.MOON_STATUS.ceiling k)).moonSticky k .ceiling else e
  let e := if io.2.2 then (e.inc32 (Od.MOON_STATUS.clamped k)).moonSticky k .clamp else e
  let applied := so == .applied || so == .consented
  ({ inc := io.1.toNat, delta := if applied then s * (2 ^ 32 : Nat) else 0, lastStep := if applied then s else 0,
     setTo := if setOk then some (wtUnits (e.n (Od.MOON_SET.value k)) % 2 ^ 96) else none,
     adv := e.b (Od.MOON_CONFIG.enable k), stepped := applied, consented := so == .consented,
     refused := so == .refused, ceiling := ceil, clamped := io.2.2 }, e)

/-- The accumulator a moon reaches at the coming boundary without step or set. -/
def Ctx.accAt (x : Ctx) (k b : Nat) : Nat :=
  (x.acc k + (if (x.core.moon k).adv then x.inc k * (b * 2 ^ 20 - x.tick) else 0)) % 2 ^ 128

/-- A follower's decision: moon 0's increment, and moon 0's step or change of count as a step of its own (R42); a disabled one keeps
its count (R39, notes/assumptions/32.md). -/
def Eng.decideFollower (e : Eng) (x : Ctx) (k b : Nat) (d0 : Decision) : Decision × Eng :=
  let e := if e.b (Od.MOON_SET.armed k) then e.set (Od.MOON_SET.armed k) 0 else e
  let e := if e.i (Od.MOON_STEP_STAGED k) = 0 then e else e.set (Od.MOON_STEP_STAGED k) 0
  let adv := e.b (Od.MOON_CONFIG.enable k)
  let delta : Int := if adv then (match d0.setTo with
    | some v => ((v * 2 ^ 32 : Nat) : Int) - (x.accAt 0 b : Int)
    | none => d0.delta) else 0
  ({ inc := d0.inc, delta := delta, lastStep := sat64 (delta.fdiv (2 ^ 32 : Nat)), setTo := none,
     adv := adv, stepped := adv && (d0.stepped || d0.setTo.isSome), consented := false,
     refused := false, ceiling := false, clamped := false }, e)

/-- The accumulator after a decision is applied (R38, R49). -/
def applyDecision (acc : Nat) (d : Decision) : Nat :=
  match d.setTo with
  | some v => v * 2 ^ 32 % 2 ^ 128
  | none => unsigned 128 ((acc : Int) + d.delta)

/-- error_bound in NTP short format, rounded up (Table 2-5 member 12), at most the field's limit. -/
def rootDispersionOf (bound : Int) : Nat := min (ceilDiv (bound.toNat * 65536) unitsPerSec) (2 ^ 32 - 1)

/-- The record a closing tick seals for moon `k` at boundary `b` (R26, R65): its decision, the state and the error
bound decided. -/
def Eng.sealRecord (e : Eng) (x : Ctx) (k b : Nat) (d : Decision) (st : MoonState) (bound : Int) : EpochRec :=
  let m := e.moon k
  let count := applyDecision (x.accAt k b) d
  let scale := e.n (Od.MOON_CONFIG.scale k)
  let lo : Int := (count / 2 ^ 32 : Nat)
  let hi : Int := ((count + (if d.adv then d.inc * 2 ^ 20 else 0)) / 2 ^ 32 : Nat)
  let ls := e.leaps
  let st := if d.adv then st else .freeRun
  let q := qualityOf st (e.n (Od.MOON_CONFIG.stratum_locked k)) (if scale = 1 then liTable ls lo else 0)
  let nl := nextLeap scale ls lo
  let changed := d.stepped || d.setTo.isSome
  { boundary := b, count := count, inc := d.inc, state := st,
    flags := epochFlags (q.2.2 && d.adv) d m.failedCopy.isSome (e.follows k) scale ls lo hi,
    li := q.1, stratum := q.2.1, taiUtc := taiUtcAt (e.i Od.LEAP_BASE) ls lo,
    leapInstant := (match nl with | some l => l.instant * 2 ^ 48 | none => 0),
    leapDelta := (match nl with | some l => l.d | none => 0),
    leapBefore := (match nl with | some l => l.before | none => 0),
    errorBound := bound, rootDispersion := rootDispersionOf bound, refid := e.n (Od.MOON_CONFIG.refid k),
    stepCount := (m.cur.stepCount + boolNat changed) % 2 ^ 32,
    lastStep := if changed then d.lastStep else m.cur.lastStep,
    adv := d.adv }

/-- Seal a moon's next record (R26). -/
def Eng.sealMoon (e : Eng) (x : Ctx) (k b : Nat) (d : Decision) (st : MoonState) (bound : Int) : Eng :=
  e.setMoon k { e.moon k with next := e.sealRecord x k b d st bound, decision := some d }

/-! ## The boundary (R25 steps 1 to 4) -/

/-- A moon of the time clock after its decision is applied (R38, R41). -/
def MoonCore.take (m : MoonCore) (d : Decision) : MoonCore :=
  { acc := BitVec.ofNat 128 (applyDecision m.acc.toNat d), inc := BitVec.ofNat 64 d.inc, adv := d.adv }

/-- Step 3: every moon takes its sealed decision in one tick (R25). -/
def TimeCore.takeAll (c : TimeCore) (tl : List MoonTl) : TimeCore :=
  { c with moons := tabulate c.moons.length (fun k => match (nth tl k (MoonTl.atReset k)).decision with
      | some d => (c.moon k).take d
      | none => c.moon k) }

/-- The next record before its closing tick: the current one, one boundary on, at the count its active increment
reaches (R26). -/
def EpochRec.following (r : EpochRec) : EpochRec :=
  { r with boundary := r.boundary + 1, count := (r.count + (if r.adv then r.inc * 2 ^ 20 else 0)) % 2 ^ 128 }

/-- Steps 1, 3 and 4 for one moon: the CEILING fault, last_step_boundary, the swap of the records (R25, R34, R50), and
the outvote counts of the new boundary (R51). -/
def Eng.swapMoon (e : Eng) (x : Ctx) (k : Nat) : Eng :=
  let m := e.moon k
  let changed := match m.decision with | some d => d.stepped || d.setTo.isSome | none => false
  let ceil := match m.decision with | some d => d.ceiling | none => false
  let e := if ceil then e.detect x 0 6 k else e
  let e := if changed then e.set (Od.MOON_STATUS.last_step_boundary k) m.next.boundary else e
  e.setMoon k { m with
    prev := m.cur, cur := m.next, next := m.next.following, decision := none, outvoted := [0, 0, 0] }

/-! ## Triple redundancy (R51) -/

/-- A disagreement in which no two copies in use agree: FATAL. -/
def Eng.copiesSplit (e : Eng) (x : Ctx) (k : Nat) : Eng := e.detect x 0 3 k

/-- One copy disagrees with the other two: it is outvoted and reloaded; the sixteenth time within a boundary it has
failed (R51). With a copy already failed, a disagreement of the other two is a split. -/
def Eng.copyOdd (e : Eng) (x : Ctx) (k c : Nat) : Eng :=
  let m := e.moon k
  match m.failedCopy with
  | some f => if f = c then e else e.copiesSplit x k
  | none =>
    let n := nth m.outvoted c 0 + 1
    let e := (e.inc32 (Od.MOON_STATUS.votes_corrected k)).detect x 0 1 k
    let e := e.setMoon k { m with outvoted := setNth m.outvoted c n, failedCopy := if n = 16 then some c else none }
    if n = 16 then ((e.set (Od.MOON_STATUS.copies k) 2).moonSticky k .copyFail).detect x 0 2 k else e

/-- One upset of a tick (R51). -/
def Eng.upset (e : Eng) (x : Ctx) (u : CopyUpset) : Eng :=
  match u.kind with
  | .one c => e.copyOdd x u.moon c
  | .split => e.copiesSplit x u.moon

/-! ## The tick (R22, R38) -/

/-- One moon after one tick: its active increment is added modulo 2^128 while it advances. -/
def MoonCore.advance (m : MoonCore) : MoonCore :=
  if m.adv then { m with acc := m.acc + (m.inc.setWidth 128) } else m

/-- The time-clock domain one tick on (R22): the counter advances by one, and every enabled moon by its increment. -/
def TimeCore.advance (c : TimeCore) : TimeCore :=
  { tick := (c.tick + 1) % 2 ^ 64, moons := c.moons.map MoonCore.advance }

/-! ## The commands -/

/-- MOON_CONFIG_ENABLE_WRITE (R39): READ_ONLY for moon 0. -/
def execMoonConfigEnableWrite (moon : Fin 32) (value roles : Nat) (s : State) : Host.Outcome State Fault Refusal :=
  lift (fun x e => e.writeCmd x (Od.MOON_CONFIG.enable moon) value roles (moonEnableWrite moon value)) s

/-- MOON_INC_STAGED_WRITE (R41). -/
def execMoonIncStagedWrite (moon : Fin 32) (value roles : Nat) (s : State) : Host.Outcome State Fault Refusal :=
  lift (fun x e => e.writeCmd x (Od.MOON_INC_STAGED moon) value roles (moonIncWrite moon value)) s

/-- MOON_STEP_STAGED_WRITE (R45). -/
def execMoonStepStagedWrite (moon : Fin 32) (value : Int) (roles : Nat) (s : State) :
    Host.Outcome State Fault Refusal :=
  lift (fun x e => e.writeCmd x (Od.MOON_STEP_STAGED moon) value roles (moonStepWrite moon value)) s

/-- MOON_CONSENT_WRITE (R47). -/
def execMoonConsentWrite (moon : Fin 32) (bound : Int) (roles : Nat) (s : State) : Host.Outcome State Fault Refusal :=
  lift (fun x e => e.writeCmd x (Od.MOON_CONSENT.bound moon) bound roles (moonConsentWrite x moon bound)) s

/-- MOON_SET_VALUE_WRITE (R68): the value is stored and the set armed. -/
def execMoonSetValueWrite (moon : Fin 32) (value roles : Nat) (s : State) : Host.Outcome State Fault Refusal :=
  lift (fun x e => e.writeCmd x (Od.MOON_SET.value moon) value roles (moonSetWrite moon value 1)) s

/-- MOON_SET_ARMED_WRITE (R68). -/
def execMoonSetArmedWrite (moon : Fin 32) (value roles : Nat) (s : State) : Host.Outcome State Fault Refusal :=
  lift (fun x e => e.writeCmd x (Od.MOON_SET.armed moon) value roles (moonSetArmedWrite moon value)) s

/-- MOON_SET_RECORD_WRITE (R68): both members at one tick. -/
def execMoonSetRecordWrite (moon : Fin 32) (armed value roles : Nat) (s : State) : Host.Outcome State Fault Refusal :=
  lift (fun x e => e.writeRecCmd x (Od.MOON_SET.armed moon)
    [(Od.MOON_SET.armed moon, armed), (Od.MOON_SET.value moon, value)] roles (moonSetWrite moon value armed)) s

/-- MOON_CMP_TARGET_WRITE (R61). -/
def execMoonCmpTargetWrite (moon : Fin 32) (cell : Fin 4) (target roles : Nat) (s : State) :
    Host.Outcome State Fault Refusal :=
  lift (fun x e => e.writeCmd x (cmpTarget moon cell) target roles (cmpTargetWrite x moon cell target)) s

/-- COMPARE_CELL_FIRE (R61), when the cell is due. -/
def execCompareCellFire (moon : Fin 32) (cell : Fin 4) (s : State) : Host.Outcome State Fault Refusal :=
  lift (fun x e => whenDue (e.cmpDue x moon cell) (fun e => e.cmpFire x moon cell) e) s

/-- CONSENT_EXPIRY (R47), when the consent's 10 s have passed: it disarms, and the bound keeps its value. -/
def execConsentExpiry (moon : Fin 32) (s : State) : Host.Outcome State Fault Refusal :=
  lift (fun x e => whenDue (e.consentDue x moon) (fun e => e.set (Od.MOON_CONSENT.armed moon) 0) e) s

end Sys2Proof.Machine
end

