-- ==== Sys2Proof/Machine/Schedule.lean ====
section
/-! DEFINITION. The schedule (spec/03_schedule.md): the write of an entry, the evaluation pass and the firing queue, the
frame in which an entry fires and re-arms, steps and sets, and the leap trackers. What each action does stands in
Machine/SchedActions.lean. -/

namespace Sys2Proof.Machine

/-- An EMPTY entry. -/
def SchedEntry.empty : SchedEntry where
  target := 0
  moon := 0
  action := 0
  arg := 0
  period := 0
  repeat_ := 0
  state := .empty
  flags := 0
  fireTick := 0
  fireCount := 0
  roles := 0
  result := 0
  fireAt := 0
  inst := 0
  late := false
  overrun := false
  firings := 0

/-- Entry `i` of the schedule. -/
def Eng.entry (e : Eng) (i : Nat) : SchedEntry := tgetD e.sched i SchedEntry.empty

/-- Write entry `i`. -/
def Eng.setEntry (e : Eng) (i : Nat) (s : SchedEntry) : Eng := { e with sched := tput e.sched i s }

/-- A device entry (R69). -/
def deviceEntry (i : Nat) : Bool := 0x3C0 ≤ i

/-! ## Instants (R75, R76) -/

/-- The accumulator of moon `k` at its target short time, when that count is not negative. -/
def Ctx.targetAcc (x : Ctx) (k target : Nat) : Nat := (x.linOfTarget k target).toNat * 2 ^ 32

/-- The tick in which moon `k` reaches its target, by the records in force (R76). -/
def Eng.reachTick (e : Eng) (x : Ctx) (k target : Nat) : Nat :=
  let acc := x.targetAcc k target
  let r := e.recordReaching k acc
  if acc ≤ x.acc k then x.tick - (x.acc k - acc) / max 1 r.2.inc else r.2.tickOf acc

/-- The moon 0 instant in 2^-48 ns at which moon `k` reaches its target. -/
def Eng.reachInst (e : Eng) (x : Ctx) (k target : Nat) : Nat :=
  let acc := x.targetAcc k target
  let r := e.recordReaching k acc
  if k = 0 then acc else instantOf r.1 r.2 acc

/-- QUEUED entries whose firing falls in the window of 1,024 ticks that holds tick `t`. -/
def Eng.inWindow (e : Eng) (t : Nat) : Nat :=
  (e.sched.filter (fun p => p.2.state == .queued && p.2.fireAt / 1024 == t / 1024)).length

/-- The first tick at or after `t` whose window has capacity: `t` itself, or the first tick of a later window (R77). -/
def Eng.freeTick (e : Eng) : Nat → Nat → Nat
  | 0, t => t
  | f + 1, t => if e.inWindow t < 256 then t else e.freeTick f ((t / 1024 + 1) * 1024)

/-- Put an entry in the firing queue for tick `t` (R76, R77): beyond the 256th of a window it is deferred, overrun and
late. -/
def Eng.enqueue (e : Eng) (i : Nat) (s : SchedEntry) (t inst : Nat) (late : Bool) : Eng :=
  let u := e.freeTick 8 t
  if u = t then e.setEntry i { s with state := .queued, fireAt := t, inst := inst, late := late, overrun := false }
  else
    ((e.setEntry i { s with state := .queued, fireAt := u, inst := inst, late := true, overrun := true }).inc32
      Od.SCHED_STATUS.overrun).orb Od.SCHED_STATUS.sticky 8

/-- Arm an entry, or queue it as LATE when its lead is below 4,096 ticks (R75 steps 3 and 4). A disabled moon's entry
stays ARMED (R81). -/
def Eng.armEntry (e : Eng) (x : Ctx) (i : Nat) (s : SchedEntry) : Eng :=
  if !(x.core.moon s.moon).adv then e.setEntry i { s with state := .armed }
  else
    let t := e.reachTick x s.moon s.target
    if t < x.tick + 4096 then
      e.enqueue i s (max t (x.tick + 2048)) (e.reachInst x s.moon s.target) true
    else e.setEntry i { s with state := .armed }

/-! ## Writing an entry (R70 to R75) -/

/-- The role an action needs (Table 3-2), as a mask; DICT_WRITE's is its target's. -/
def actionRole (a : Nat) : Nat :=
  match a with
  | 2 => 1
  | 8 => 1
  | 5 => 8
  | 6 => 4
  | _ => 2

/-- Byte `i` of an action argument. -/
def argByte (arg i : Nat) : Nat := arg / 256 ^ i % 256

/-- The object number of a DICT_WRITE argument (Table 3-2). -/
def dictTarget (arg : Nat) : Key := arg % 2 ^ 24

/-- The rows a write to an object number reaches: the member's, or every member's for member 0 of a record. -/
def targetRows (k : Key) : List ObjRow :=
  match rowOf k with
  | some r => [r]
  | none => if k.member = 0 then rowsAt k.area k.item else []

/-- The size of a target's value (Table 0-6, R14). -/
def targetSize (k : Key) : Nat := ((targetRows k).map (fun r => r.ty.size)).foldl (· + ·) 0

/-- R72: the checks of a DICT_WRITE entry against its target. -/
def dictTargetCheck (k : Key) (roles : Nat) : Nat :=
  let rs := targetRows k
  let ws := rs.filter (fun r => r.access != .ro)
  if k.area = 0x14 then stRange
  else if (rowsAt k.area k.item).isEmpty then stNoObject
  else if rs.isEmpty then stNoMember
  else if !(if ws.isEmpty then rs else ws).all (fun r => roleOk r.roles roles) then stDenied
  else if rs.all (fun r => !r.writable k) then stReadOnly
  else if 12 < targetSize k then stSize
  else if k.area = 0x50 ∧ k.item = 0x020 ∧ k.member ≠ 0 then stWhole
  else stOk

/-- The checks of a whole entry on its values alone (R71, R75). -/
def entryCheck (s : SchedEntry) : Nat :=
  if s.moon > 31 then stRange
  else if s.action = 0 ∨ s.action > 8 then stRange
  else if s.action = 1 ∧ (argByte s.arg 0 = 0 ∨ argByte s.arg 0 > 15 ∨ argByte s.arg 1 > 2) then stRange
  else if s.action ≠ 7 ∧ !roleOk (actionRole s.action) s.roles then stDenied
  else if s.action = 7 ∧ dictTargetCheck (dictTarget s.arg) s.roles ≠ stOk then dictTargetCheck (dictTarget s.arg) s.roles
  else if s.period < 0 ∨ (s.period ≠ 0 ∧ (s.period < 268435456 ∨ (2 ^ 62 : Nat) < s.period)) then stRange
  else if s.repeat_ ≠ 0 ∧ s.period = 0 then stRange
  else stOk

/-- R75 steps 1 and 2 on a target. -/
def targetCheck (x : Ctx) (s : SchedEntry) : Nat :=
  let a := stDiff s.target (x.st s.moon)
  if (2 ^ 62 : Nat) < a then stRange else if a < -secU then stPast else stOk

/-- The whole write of an entry (R70, R75): what its members 8, 9 and 12 say of the last firing stays until the next. -/
def schedWhole (x : Ctx) (i : Nat) (s : SchedEntry) (e : Eng) : WriteRes :=
  let old := e.entry i
  let s := { s with
    flags := (old.flags &&& 0x3C) + 2 * boolNat (s.period != 0), state := .armed, fireTick := old.fireTick, result := old.result }
  if (e.entry i).state = .queued then (stQueued, e)
  else if entryCheck s ≠ stOk then (entryCheck s, e)
  else if targetCheck x s ≠ stOk then (targetCheck x s, e)
  else (stOk, e.armEntry x i s)

/-- A write that names a schedule entry (R69, R70): READ_ONLY for a device entry or members 8 to 12, WHOLE for members 1
to 6 alone, and the whole write otherwise. -/
def schedWrite (x : Ctx) (i : Nat) (w : SchedWrite) (roles : Nat) (e : Eng) : WriteRes :=
  if deviceEntry i then (stReadOnly, e)
  else
    match w with
    | .single m => if 1 ≤ m ∧ m ≤ 6 then (stWhole, e) else (stReadOnly, e)
    | .whole t k a arg p r =>
      schedWhole x i { SchedEntry.empty with
        target := t, moon := k, action := a, arg := arg, period := p, repeat_ := r, roles := roles % 16 } e

/-- A write of member 7 (R70): 0 empties an entry that is not QUEUED; any other value is RANGE. -/
def schedEmptyWrite (i : Nat) (v : Int) (e : Eng) : WriteRes :=
  if deviceEntry i then (stReadOnly, e)
  else if (e.entry i).state = .queued then (stQueued, e)
  else if v ≠ 0 then (stRange, e)
  else (stOk, { e with sched := e.sched.map (fun p => if p.1 = i then (p.1, { p.2 with state := .empty }) else p) })

/-! ## The evaluation pass (R76, R77) -/

/-- An entry a pass may select. -/
structure Candidate where
  idx : Nat
  at_ : Nat
  inst : Nat
  deriving DecidableEq, Repr

/-- Insert by instant, then entry number. -/
def insertCand (c : Candidate) : List Candidate → List Candidate
  | [] => [c]
  | d :: t => if c.inst < d.inst ∨ (c.inst = d.inst ∧ c.idx < d.idx) then c :: d :: t else d :: insertCand c t

/-- The ARMED entries whose target their moon reaches before the end of the pass's window. -/
def Eng.candidates (e : Eng) (x : Ctx) : List Candidate :=
  e.sched.foldl (fun l p =>
    let s := p.2
    if s.state = .armed ∧ (x.core.moon s.moon).adv then
      let t := e.reachTick x s.moon s.target
      if t < (x.tick / 1024 + 3) * 1024 then insertCand ⟨p.1, t, e.reachInst x s.moon s.target⟩ l else l
    else l) []

/-- The pass: each selected entry goes to the firing queue in order of instant (R76). -/
def Eng.evaluationPass (e : Eng) (x : Ctx) : Eng :=
  (e.candidates x).foldl (fun e c => e.enqueue c.idx (e.entry c.idx) (max c.at_ x.tick) c.inst (e.entry c.idx).late) e

/-! ## Firing (R71, R78) -/

/-- Entry `i` is due: QUEUED with this action, and its firing tick has come. -/
def Eng.fireDue (e : Eng) (x : Ctx) (i action : Nat) : Bool :=
  let s := e.entry i
  s.state == .queued && s.action == action && s.fireAt ≤ x.tick

/-- Count a firing (R83). -/
def Eng.countFiring (e : Eng) (x : Ctx) (i : Nat) (late stepped : Bool) : Eng :=
  let e := (e.inc32 Od.SCHED_STATUS.fired).count x 0xB19
  let e := (e.set Od.SCHED_STATUS.last_entry i).set Od.SCHED_STATUS.last_tick x.tick
  let e := if late then ((e.inc32 Od.SCHED_STATUS.late).orb Od.SCHED_STATUS.sticky 1).count x 0xB1A else e
  if stepped then (e.inc32 Od.SCHED_STATUS.stepped).orb Od.SCHED_STATUS.sticky 2 else e

/-- The flags of an entry after a firing (Table 3-3): 2 to 5 describe it. -/
def firingFlags (old : Nat) (late stepped overrun refused : Bool) : Nat :=
  clearBits old 0x3C + 4 * boolNat late + 8 * boolNat stepped + 16 * boolNat overrun + 32 * boolNat refused

/-- An entry after a firing and its result, before it re-arms. -/
def SchedEntry.fired (s : SchedEntry) (x : Ctx) (stepped : Bool) (status : Nat) : SchedEntry :=
  { s with
    flags := firingFlags s.flags s.late stepped s.overrun (status != stOk), fireTick := x.tick,
    fireCount := (s.fireCount + 1) % 2 ^ 32, firings := s.firings + 1, result := status }

/-- No further firing (R78). -/
def SchedEntry.finished (s : SchedEntry) : Bool := s.period = 0 || (s.repeat_ != 0 && s.repeat_ ≤ s.firings)

/-- After a firing: DONE, or the period is added and the entry armed again (R78). -/
def Eng.rearm (e : Eng) (x : Ctx) (i : Nat) (s : SchedEntry) : Eng :=
  if s.finished then e.setEntry i { s with state := .done }
  else e.armEntry x i { s with target := (s.target + s.period.toNat) % 2 ^ 64, late := false, overrun := false }

/-- A refused action is counted (R83). -/
def Eng.countRefusedAction (e : Eng) (status : Nat) : Eng :=
  if status = stOk then e else (e.inc32 Od.SCHED_STATUS.refused).orb Od.SCHED_STATUS.sticky 64

/-- The firing of entry `i` with action `act`: it is counted, the action performed, its status recorded, and the entry
re-armed or DONE (R71, R78). -/
def Eng.fire (e : Eng) (x : Ctx) (i : Nat) (act : SchedEntry → Eng → WriteRes) : Eng :=
  let s := e.entry i
  let e := e.countFiring x i s.late false
  let w := act s e
  (w.2.countRefusedAction w.1).rearm x i (s.fired x false w.1)

/-! ## Steps, sets and disabled moons (R79 to R81) -/

/-- The least n ≥ 1 such that target + n × period lies after a count, given how far the target lies behind it. -/
def periodsPast (behind period : Nat) : Nat := behind / period + 1

/-- A target lies in the span a forward step passes over: after `lo`, at or before `hi` (R79, R60). -/
def steppedOver (lo hi target : Nat) : Bool := 0 < stDiff target lo && stDiff target hi ≤ 0

/-- A stepped-over entry fires once, flagged STEPPED, and a periodic one re-arms past the step (R79). -/
def Eng.fireStepped (e : Eng) (x : Ctx) (i hi : Nat) (act : SchedEntry → Eng → WriteRes) : Eng :=
  let s := { e.entry i with late := false, overrun := false }
  let e := e.countFiring x i false true
  let w := act s e
  let e := w.2.countRefusedAction w.1
  let s := s.fired x true w.1
  if s.period = 0 then e.setEntry i { s with state := .done }
  else
    let n := periodsPast (stDiff hi s.target).toNat s.period.toNat
    let s := { s with
      firings := s.firings + (n - 1), result := (if w.1 = stOk then (n - 1) % 2 ^ 16 else w.1) }
    if s.finished then e.setEntry i { s with state := .done }
    else e.armEntry x i { s with target := (s.target + n * s.period.toNat) % 2 ^ 64 }

/-- The entries of moon `k` that a step passes over, in order of target and then of number. -/
def Eng.steppedEntries (e : Eng) (k lo hi : Nat) : List Candidate :=
  e.sched.foldl (fun l p =>
    let s := p.2
    if s.moon = k ∧ (s.state = .armed ∨ s.state = .queued) ∧ steppedOver lo hi s.target
    then insertCand ⟨p.1, 0, (stDiff s.target lo).toNat⟩ l else l) []

/-- A set of moon `k` voids its ARMED and QUEUED user entries (R81). -/
def Eng.voidUser (e : Eng) (k : Nat) : Eng :=
  e.sched.foldl (fun e p =>
    let s := p.2
    if s.moon = k ∧ (s.state = .armed ∨ s.state = .queued) ∧ !deviceEntry p.1 then
      ((e.setEntry p.1 { s with state := .void, flags := s.flags ||| 64 }).inc32 Od.SCHED_STATUS.voided).orb
        Od.SCHED_STATUS.sticky 16
    else e) e

/-- After a step that is no set, QUEUED entries of the moon return to ARMED, to be converted again by its new records
(R80). -/
def Eng.requeue (e : Eng) (x : Ctx) (k : Nat) : Eng :=
  e.sched.foldl (fun e p =>
    let s := p.2
    if s.moon = k ∧ s.state = .queued ∧ !s.late then e.armEntry x p.1 { s with state := .armed } else e) e

/-- A moon that is disabled holds its QUEUED entries as ARMED (R81). -/
def Eng.haltEntries (e : Eng) (k : Nat) : Eng :=
  e.sched.foldl (fun e p =>
    if p.2.moon = k ∧ p.2.state = .queued then e.setEntry p.1 { p.2 with state := .armed } else e) e

/-- A moon enabled again judges each of its ARMED entries (R81). -/
def Eng.judgeResumed (e : Eng) (x : Ctx) (k : Nat) : Eng :=
  e.sched.foldl (fun e p =>
    let s := p.2
    if s.moon = k ∧ s.state = .armed then
      let a := stDiff s.target (x.st k)
      if a < -secU then
        (e.setEntry p.1 { s with state := .void }).inc32 Od.SCHED_STATUS.voided
      else if a ≤ 0 then e.enqueue p.1 s (x.tick + 2048) (e.reachInst x k s.target) true
      else e
    else e) e

/-! ## Leap trackers (R74) -/

/-- The next leap point of moon `k` at or after its count, after the last one fired (R74, R80). -/
def Eng.nextLeapPoint (e : Eng) (x : Ctx) (k : Nat) : Option (Nat × Nat) :=
  let ps := leapPoints (e.n (Od.MOON_CONFIG.scale k)) e.leaps
  let now : Int := x.lin k
  let ok (p : Int × Nat) : Bool := now ≤ p.1 && (match (e.moon k).leapFired with
    | none => true
    | some f => (f.1 : Int) < p.1 || ((f.1 : Int) = p.1 && f.2 < p.2))
  ps.foldl (fun best p => if ok p then
      match best with
      | none => some (p.1.toNat, p.2)
      | some b => if p.1 < (b.1 : Int) ∨ (p.1 = (b.1 : Int) ∧ p.2 < b.2) then some (p.1.toNat, p.2) else best
    else best) none

/-- A tracker's entry goes to EMPTY; what it says of its last firing stays (Table 3-1). -/
def Eng.idleTracker (e : Eng) (i : Nat) : Eng :=
  if (e.entry i).state = .empty then e else e.setEntry i { e.entry i with state := .empty }

/-- A tracker's entry aimed at the leap point `p` of moon `k`. -/
def SchedEntry.aimed (s : SchedEntry) (k : Nat) (p : Nat × Nat) : SchedEntry :=
  { s with
    target := p.1 % 2 ^ 64, moon := k, action := 9, arg := p.2, period := 0, repeat_ := 0, state := .armed,
    flags := (s.flags &&& 0x3C) + 1, late := false, overrun := false }

/-- The tracker's entry follows its point: armed while the point lies within 2^46 ns, EMPTY otherwise (R74). -/
def Eng.armTracker (e : Eng) (x : Ctx) (k : Nat) : Eng :=
  let i := 0x3E0 + k
  match (e.moon k).leapPoint with
  | none => e.idleTracker i
  | some p =>
    if p.1 ≤ x.lin k + 2 ^ 62 then
      let s := (e.entry i).aimed k p
      if (e.entry i).state != .empty && (e.entry i).target == s.target && (e.entry i).arg == s.arg then e
      else e.armEntry x i s
    else e.idleTracker i

/-- Recompute the tracker of moon `k` (R74). -/
def Eng.recomputeTracker (e : Eng) (x : Ctx) (k : Nat) : Eng :=
  let e := e.setMoon k { e.moon k with leapPoint := e.nextLeapPoint x k }
  (e.idleTracker (0x3E0 + k)).armTracker x k

/-- Recompute every tracker. -/
def Eng.recomputeTrackers (e : Eng) (x : Ctx) : Eng := (List.range 32).foldl (fun e k => e.recomputeTracker x k) e

/-- The tracker of moon `k` is due: its entry's firing tick has come (R75 step 3, R76). -/
def Eng.leapDue (e : Eng) (x : Ctx) (k : Nat) : Bool := e.fireDue x (0x3E0 + k) 9

/-- A leap point fires: its moon's source is raised, and the tracker goes to the following point (R74). -/
def Eng.fireLeap (e : Eng) (x : Ctx) (k : Nat) (stepped : Bool) : Eng :=
  let i := 0x3E0 + k
  let s := e.entry i
  let e := (e.countFiring x i s.late stepped).irqLatch x (128 + k)
  let e := e.setEntry i (s.fired x stepped stOk)
  let m := e.moon k
  (e.setMoon k { m with leapFired := m.leapPoint }).recomputeTracker x k

/-! ## The leap table's writes (R54, Table 2-3) -/

/-- The L of a valid entry is 00:00:00 of a UTC day. -/
def dayStart (instant : Nat) : Bool := instant % 2 ^ 48 = 0 && instant / 2 ^ 48 % 86400 = 0

/-- Consecutive leaps lie at least 28 days apart, in ascending order (Table 2-3 row 3). -/
def leapsApart : List Leap → Bool
  | a :: b :: t => a.instant + 2419200 ≤ b.instant && leapsApart (b :: t)
  | _ => true

/-- The L of an entry is less than 86,400 s ahead of the label of an enabled UTC or UTC_SMEAR moon (Table 2-3 rows 4
and 5). -/
def Eng.leadShort (e : Eng) (x : Ctx) (l : Nat) : Bool :=
  (List.range 32).any (fun k =>
    let sc := e.n (Od.MOON_CONFIG.scale k)
    (x.core.moon k).adv && (sc = 1 || sc = 2) && (l : Int) * secU - e.label k (x.lin k) < 86400 * secU)

/-- The checks of Table 2-3 on the table as it would stand in `s`, for a write that touched entry `i` (none for a write
of LEAP_BASE). -/
def Eng.leapCheck (e : Eng) (x : Ctx) (s : Store) (i : Option Nat) : Nat :=
  let base := sget s Od.LEAP_BASE
  let ls := leapChain base (leapPairs s)
  let valid (st : Store) (j : Nat) : Bool := sget st (Od.LEAP_ENTRY.valid j) = 1
  let inst (st : Store) (j : Nat) : Nat := (sget st (Od.LEAP_ENTRY.instant j)).toNat
  if (match i with | some j => valid s j && !dayStart (inst s j) | none => false) then stRange
  else if !ls.all (fun l => l.d = 1 || l.d = -1) then stRange
  else if !leapsApart ls then stOrder
  else
    match i with
    | none => stOk
    | some j =>
      let changed := inst s j ≠ inst e.od j ∨ sget s (Od.LEAP_ENTRY.offset j) ≠ sget e.od (Od.LEAP_ENTRY.offset j)
      if valid s j ∧ (!valid e.od j ∨ changed) ∧ e.leadShort x (inst s j / 2 ^ 48) then stLead
      else if valid e.od j ∧ (!valid s j ∨ changed) ∧ e.leadShort x (inst e.od j / 2 ^ 48) then stLead
      else stOk

/-- A leap-table write: judged on the table after it, applied, and the trackers recomputed (R54, R74). -/
def leapWrite (x : Ctx) (i : Option Nat) (vs : List (Key × Int)) (e : Eng) : WriteRes :=
  let s := (e.setAll vs).od
  let st := e.leapCheck x s i
  if st = stOk then (stOk, ({ e with od := s }).recomputeTrackers x) else (st, e)

/-- The objects and values of a leap entry's write. -/
def leapValues (w : LeapWrite) (i : Nat) : List (Key × Int) :=
  match w with
  | .instant v => [(Od.LEAP_ENTRY.instant i, v)]
  | .offset v => [(Od.LEAP_ENTRY.offset i, v)]
  | .valid v => [(Od.LEAP_ENTRY.valid i, v)]
  | .whole a o v => [(Od.LEAP_ENTRY.instant i, a), (Od.LEAP_ENTRY.offset i, o), (Od.LEAP_ENTRY.valid i, v)]

/-! ## The commands -/

/-- LEAP_BASE_WRITE (R54). -/
def execLeapBaseWrite (value : Int) (roles : Nat) (s : State) : Host.Outcome State Fault Refusal :=
  lift (fun x e => e.writeCmd x Od.LEAP_BASE value roles (leapWrite x none [(Od.LEAP_BASE, value)])) s

/-- LEAP_ENTRY_WRITE (R54). -/
def execLeapEntryWrite (entry : Fin 32) (w : LeapWrite) (roles : Nat) (s : State) : Host.Outcome State Fault Refusal :=
  lift (fun x e => e.writeRecCmd x (Od.LEAP_ENTRY.instant entry) (leapValues w entry) roles
    (leapWrite x (some entry) (leapValues w entry))) s

/-- The values of a schedule entry's write, for the judgement of their sizes. -/
def schedValues (w : SchedWrite) (i : Nat) : List (Key × Int) :=
  match w with
  | .whole t k a arg p r => [(Od.SCHED_ENTRY.target i, t), (Od.SCHED_ENTRY.moon i, k), (Od.SCHED_ENTRY.action i, a),
      (Od.SCHED_ENTRY.arg i, arg), (Od.SCHED_ENTRY.period i, p), (Od.SCHED_ENTRY.repeat i, r)]
  | .single _ => [(Od.SCHED_ENTRY.target i, 0)]

/-- SCHED_ENTRY_WRITE (R70, R75). -/
def execSchedEntryWrite (entry : Fin 1024) (w : SchedWrite) (roles : Nat) (s : State) :
    Host.Outcome State Fault Refusal :=
  lift (fun x e => e.writeRecCmd x (Od.SCHED_ENTRY.target entry) (schedValues w entry) roles (schedWrite x entry w roles)) s

/-- SCHED_ENTRY_EMPTY (R70): a write of member 7. -/
def execSchedEntryEmpty (entry : Fin 1024) (value roles : Nat) (s : State) : Host.Outcome State Fault Refusal :=
  lift (fun x e => e.writeCmd x (Od.SCHED_ENTRY.state entry) value roles (schedEmptyWrite entry value)) s

/-- SCHED_EVALUATION_PASS (R76), at a tick that is a multiple of 1,024. -/
def execSchedEvaluationPass (s : State) : Host.Outcome State Fault Refusal :=
  lift (fun x e => whenDue (x.tick % 1024 == 0) (fun e => e.evaluationPass x) e) s

/-- LEAP_POINT (R74), when the tracker's point is reached. -/
def execLeapPoint (moon : Fin 32) (s : State) : Host.Outcome State Fault Refusal :=
  lift (fun x e => whenDue (e.leapDue x moon) (fun e => e.fireLeap x moon false) e) s

end Sys2Proof.Machine
end

