-- ==== Sys2Proof/Machine/Calendar.lean ====
section
/-! DEFINITION. The departure calendar (spec/07_scheduled_departure.md R149 to R164), the Tail queues and the completion of
transmit descriptors its outcomes report to (spec/16_host_interface.md R329, R334, R337, R338), and the ports under the
lane modes (spec/04_ethernet_ports.md R84). -/

namespace Sys2Proof.Machine

/-! ## Ports under the lane modes (Table 4-1) -/

/-- The lanes of the port whose lowest lane is `p` in a mode, 0 when it is no port. -/
def modeLanes (mode p : Nat) : Nat :=
  match mode with
  | 1 => if p % 4 = 0 then 4 else 0
  | 2 => if p % 2 = 0 then 2 else 0
  | 3 => 1
  | 4 => 1
  | _ => 0

/-- A port's rate in Gb/s in a mode. -/
def modeRate (mode : Nat) : Nat :=
  match mode with
  | 1 => 800
  | 2 => 400
  | 3 => 200
  | 4 => 100
  | _ => 0

/-- The mode of port `p`'s group. -/
def Eng.portMode (e : Eng) (p : Nat) : Nat := e.n (Od.LANE_GROUP.mode (p / 4))

/-- The lanes of port `p` under the current modes. -/
def Eng.portLanes (e : Eng) (p : Nat) : Nat := modeLanes (e.portMode p) p

/-- `p` is a port under the current modes. -/
def Eng.isPort (e : Eng) (p : Nat) : Bool := e.portLanes p != 0

/-- The port's rate. -/
def Eng.portRate (e : Eng) (p : Nat) : Nat := modeRate (e.portMode p)

/-- The port that holds lane `l`, when its group has one. -/
def Eng.portOfLane (e : Eng) (l : Nat) : Option Nat :=
  (List.range 4).foldl (fun r i =>
    let p := l / 4 * 4 + i
    if p ≤ l ∧ l < p + e.portLanes p then some p else r) none

/-- A port carries timed frames: link and ts_valid (R151). -/
def Eng.portReady (e : Eng) (p : Nat) : Bool := e.b (Od.PORT_STATUS.link p) && e.b (Od.PORT_STATUS.ts_valid p)

/-- A port's side state. -/
def Eng.port (e : Eng) (p : Nat) : Port := nth e.ports p Port.atReset

/-- Change a port's side state. -/
def Eng.modPort (e : Eng) (p : Nat) (f : Port → Port) : Eng := { e with ports := modNth e.ports p f }

/-- A lane's calibration unit. -/
def Eng.lane (e : Eng) (l : Nat) : LaneUnit := nth e.lanes l LaneUnit.atReset

/-- Change a lane's unit. -/
def Eng.modLane (e : Eng) (l : Nat) (f : LaneUnit → LaneUnit) : Eng := { e with lanes := modNth e.lanes l f }

/-- The terms of a lane in force at a moon 0 instant in 2^-16 ns (R116). -/
def Eng.termsAt (e : Eng) (l inst : Nat) : LaneTerms :=
  let u := e.lane l
  let m := e.moon 0
  if m.next.count ≤ inst * 2 ^ 32 then u.sealed.getD u.live
  else if m.cur.count ≤ inst * 2 ^ 32 then u.live else u.prev

/-! ## Values kept beside new ones (R132, R155) -/

/-- The value of an object for a request received at a moon 0 linear count. -/
def Eng.iAt (e : Eng) (k : Key) (rx : Nat) : Int :=
  match e.ans.deferred.find? (fun d => d.key == k && rx < d.from_) with
  | some d => d.old
  | none => e.i k

/-- The same as a number. -/
def Eng.nAt (e : Eng) (k : Key) (rx : Nat) : Nat := (e.iAt k rx).toNat

/-- Write an object whose new value holds for requests received from a moon 0 linear count on; the old one is kept
beside it. -/
def Eng.setFrom (e : Eng) (x : Ctx) (k : Key) (v : Int) (from_ : Nat) : Eng :=
  let keep := e.ans.deferred.filter (fun d => x.lin 0 < d.from_ + unitsPerSec)
  { e with ans := { e.ans with deferred := keep ++ [Deferred.mk k (e.i k) from_] } }.set k v

/-- The moon 0 instant of tick t + 4,096. -/
def Ctx.lin4096 (x : Ctx) : Nat := (x.acc 0 + x.inc 0 * 4096) / 2 ^ 32

/-- Write an object whose new value holds from the moon 0 instant of tick t + 4,096 (R132, R155). -/
def Eng.setLater (e : Eng) (x : Ctx) (k : Key) (v : Int) : Eng := e.setFrom x k v x.lin4096

/-! ## Transmit rings' completion (R329, R334) -/

/-- Transmit ring `r`. -/
def Eng.txRing (e : Eng) (r : Nat) : TxRing := tgetD e.txRings r TxRing.atReset

/-- Change transmit ring `r`. -/
def Eng.modTx (e : Eng) (r : Nat) (f : TxRing → TxRing) : Eng :=
  { e with txRings := tput e.txRings r (f (e.txRing r)) }

/-- Word 3 as written back (Table 16-7). -/
def doneWord3 (seq posted status : Nat) : Nat :=
  seq % 2 ^ 32 * 2 ^ 32 + posted / 2 ^ 24 % 256 * 2 ^ 24 + status * 2 ^ 16 + 128 + posted % 8

/-- Count a completed frame in its ring's status (R343). -/
def Eng.countTxDone (e : Eng) (r status : Nat) : Eng :=
  let e := if status = 0 ∨ status = 16 then e.inc64 (Od.TX_RING_STATUS.frames r) else e
  let e := if status = 16 then e.inc64 (Od.TX_RING_STATUS.timed r) else e
  let e := if status = 4 then e.inc64 (Od.TX_RING_STATUS.flushed r) else e
  let e := if status = 1 ∨ status = 2 ∨ status = 3 ∨ status = 5 then e.inc64 (Od.TX_RING_STATUS.rejected r) else e
  if 1 ≤ status ∧ status ≤ 3 then e.orb (Od.TX_RING_STATUS.sticky r) (2 ^ status) else e

/-- Write back the descriptors of the frames complete at the ring's head, in ring order, and advance CONS (R329); a STOPPED ring
writes nothing. -/
def Eng.txWriteBack (e : Eng) (x : Ctx) (r : Nat) : Nat → Eng
  | 0 => e
  | f + 1 =>
    let g := e.txRing r
    match g.flight with
    | [] => e
    | h :: t =>
      match h.status with
      | none => e
      | some st =>
        if g.state = .stopped ∨ !e.irq.link then e
        else
          let size := 2 ^ e.n (Od.TX_RING_CFG.size_log2 r)
          let base := e.n (Od.TX_RING_CFG.base r)
          let outs := h.word3.mapIdx (fun i w =>
            Output.hostMem (base + 32 * ((h.first + i) % size) + 24) (leBytes 8 (doneWord3 (h.first + i) w st)))
          let e := { e with out := e.out ++ outs }
          let e := e.modTx r (fun g => { g with flight := t, cons := (h.first + h.word3.length) % 2 ^ 32 })
          (e.irqPoke x (192 + r / 8)).txWriteBack x r f

/-- A transmit frame's outcome is known: its status is noted and whatever is complete at the head written back. -/
def Eng.txFinish (e : Eng) (x : Ctx) (r first status : Nat) : Eng :=
  let g := e.txRing r
  let e := e.modTx r (fun g => { g with
    flight := g.flight.map (fun h => if h.first = first ∧ h.status = none then { h with status := some status } else h) })
  (e.countTxDone r status).txWriteBack x r (g.flight.length + 1)

/-! ## Tail queues (R337, R338) -/

/-- The Tail queue of MAC `p`. -/
def Eng.tail (e : Eng) (p : Nat) : Tail := nth e.tails p Tail.atReset

/-- Make an entry: queued, or lost when the queue holds 64 (R338). -/
def Tail.add (q : Tail) (t : Nat) (y : TailEntry) : Tail :=
  let y := { y with number := (q.made + 1) % 2 ^ 16, lossBefore := q.lossPending }
  if 64 ≤ q.entries.length then
    { q with lost := (q.lost + 1) % 2 ^ 32, made := q.made + 1, overflow := true, overflowTick := t, lossPending := true }
  else { q with entries := q.entries ++ [y], made := q.made + 1, lossPending := false }

/-- Make a Tail entry and raise the queue's source. -/
def Eng.tailAdd (e : Eng) (x : Ctx) (p : Nat) (y : TailEntry) : Eng :=
  { e with tails := modNth e.tails p (fun q => q.add x.tick y) }.irqPoke x (96 + p)

/-- The entry of a host frame that was not sent. -/
def tailMiss (ring seq tag outcome : Nat) : TailEntry where
  t := 0
  seq := seq
  tag := tag
  ltDelta := 0
  echo := 0
  number := 0
  ring := ring
  outcome := outcome
  beyond := false
  lossBefore := false

/-! ## Outcomes (Table 7-2) -/

/-- The calendar of port `p`. -/
def Eng.cal (e : Eng) (p : Nat) : Calendar := nth e.cals p Calendar.atReset

/-- Change a calendar. -/
def Eng.modCal (e : Eng) (p : Nat) (f : Calendar → Calendar) : Eng := { e with cals := modNth e.cals p f }

/-- Count departure event `k` of port `p` (R164). -/
def Eng.depCount (e : Eng) (x : Ctx) (p k : Nat) : Eng := e.count x (0x900 + 16 * p + k)

/-- The bit of an event in DEP_STATUS.sticky. -/
def depSticky (k : Nat) : Nat := if k ≤ 12 then 2 ^ (k - 4) else if k = 14 then 512 else 1024

/-- A refusal or discard of Table 7-2: counted, and entered in DEP_LIVE and DEP_STATUS (R165). -/
def Eng.depMiss (e : Eng) (x : Ctx) (p k : Nat) : Eng :=
  let e := (e.depCount x p k).inc64 (Od.DEP_STATUS.misses p)
  let e := (e.set (Od.DEP_LIVE.last_miss_cause p) k).set (Od.DEP_LIVE.last_miss_tick p) x.tick
  e.orb (Od.DEP_STATUS.sticky p) (depSticky k)

/-- The transmit status of an outcome k of Table 7-2 (Table 16-8). -/
def txStatusOf (k : Nat) : Nat :=
  match k with
  | 11 => 17
  | 12 => 18
  | 15 => 24
  | k => 13 + k

/-- Count a pipeline's outcome in slot category `k` (R147). -/
def Eng.slotCount (e : Eng) (x : Ctx) (pipe k : Nat) : Eng := e.count x (0x800 + 16 * pipe + k)

/-- A request ended without an answer: its slot category, ANS_STATUS.dropped and the rule's statistics (R147, R148). -/
def Eng.ansDropped (e : Eng) (x : Ctx) (pipe rule k : Nat) : Eng :=
  ((e.slotCount x pipe k).inc64 Od.ANS_STATUS.dropped).inc64 (Od.ANS_RULE_STATS.dropped rule)

/-- What its asker is told of a reservation or a request that came to nothing, cause `k` of Table 7-2. -/
def Eng.depTell (e : Eng) (x : Ctx) (p k : Nat) (o : ResvOrigin) : Eng :=
  match o with
  | .answer pipe rule _ => e.ansDropped x pipe rule (if k = 9 then 13 else 11)
  | .ptp i => e.inc64 (Od.PTP_INST_STATS.missed i)
  | .upstream _ _ => e
  | .host ring seq tag _ => (e.tailAdd x p (tailMiss ring seq tag (txStatusOf k))).txFinish x ring seq (txStatusOf k)

/-- Discard a reservation with a cause (R160, R161). -/
def Eng.resvDiscard (e : Eng) (x : Ctx) (p k : Nat) (r : Resv) : Eng := (e.depMiss x p k).depTell x p k r.origin

/-- Discard every reservation of port `p` that meets a condition. -/
def Eng.discardAll (e : Eng) (x : Ctx) (p k : Nat) (which : Resv → Bool) : Eng :=
  let rs := (e.cal p).resv
  let e := e.modCal p (fun c => { c with resv := c.resv.filter (fun r => !which r) })
  (rs.filter which).foldl (fun e r => e.resvDiscard x p k r) e

/-- Take out a reservation before its release; its blocks are freed (R161). -/
def Eng.withdraw (e : Eng) (x : Ctx) (p block : Nat) : Eng :=
  (e.modCal p (fun c => { c with resv := c.resv.filter (fun r => r.block != block) })).depCount x p 13

/-! ## Fitting (R152, R153, R156) -/

/-- The blocks of a reservation: its start block and the block after its last. -/
def Resv.start (r : Resv) : Nat := r.block - 1

/-- The block after the one that carries the last FCS byte. -/
def blocksEnd (block len : Nat) : Nat := block + ceilDiv len 8

/-- The deficit after a gap of `gap` bytes, when the deficit idle count admits it: at most 7 (R152). -/
def dicAfter (deficit : Nat) (gap : Int) : Option Nat :=
  let d : Int := deficit + 12 - gap
  if 7 < d then none else some d.toNat

/-- The gap in bytes between a frame that ends at a byte of the stream and a start block. -/
def gapBytes (endByte start : Nat) : Int := (8 * start : Nat) - (endByte : Int)

/-- The gap rules of R152 for a frame of `len` bytes at `block`: the deficit it leaves when it goes after every
reservation, or the deficit unchanged when it goes ahead of one. -/
def Calendar.gaps (c : Calendar) (block len : Nat) : Option Nat :=
  let later := c.resv.filter (fun r => block < r.block)
  let earlier := c.resv.filter (fun r => r.block ≤ block)
  let endBefore := earlier.foldl (fun m r => max m (8 * r.block + r.len)) (if c.resv.isEmpty then c.lastEnd else 0)
  match later with
  | [] => if endBefore = 0 then some c.deficit else dicAfter c.deficit (gapBytes endBefore (block - 1))
  | l :: _ =>
    if 12 ≤ gapBytes (8 * block + len) (l.block - 1) ∧ (endBefore = 0 ∨ 12 ≤ gapBytes endBefore (block - 1))
    then some c.deficit else none

/-- Some block of a frame lies in the host run of its calendar window (R156): the window of the frame's grid instant, or
the one after it, taken to have as many blocks. -/
def inHostRun (share : Nat) (g : GridPoint) (len : Nat) : Bool :=
  let run := share * g.blocks / 100
  (List.range (ceilDiv len 8 + 1)).any (fun j =>
    let i := (g.index + j + g.blocks - 1) % g.blocks
    run != 0 && g.blocks - run ≤ i)

/-- The calendar window of an instant. -/
def windowOf (inst : Nat) : Nat := inst / ns16 1024

/-- A host timed frame keeps within its share of its window (R156). -/
def Calendar.hostRoom (c : Calendar) (g : GridPoint) (len : Nat) : Bool :=
  let used := c.resv.foldl (fun n r => if r.host ∧ r.window = windowOf g.at_ then n + ceilDiv r.len 8 + 1 else n) 0
  (used + ceilDiv len 8 + 1) * 100 ≤ c.timedPct * g.blocks

/-- A pause known at placement stops the priority at an instant (R153). -/
def Eng.pausedAt (e : Eng) (p prio inst : Nat) : Bool := inst < tgetD (e.port p).pause prio 0

/-- The transmit latency of a grid instant (R114, R151). -/
def Eng.ltxAt (e : Eng) (g : GridPoint) : Int :=
  let t := e.termsAt g.lane g.at_
  t.offTx + t.drvTx + t.serTx + g.pos + t.resTx

/-- The launch margin in force at an instant (R162). -/
def Eng.marginAt (e : Eng) (p inst : Nat) : Nat :=
  if (e.moon 0).next.count ≤ inst * 2 ^ 32 then
    match (e.cal p).sealedMargin with
    | some m => m.1
    | none => e.n (Od.DEP_LIVE.margin_live p)
  else e.n (Od.DEP_LIVE.margin_live p)

/-- The build-lead condition (R151): g ≥ q + L_tx(g) + margin_live + 256 ns. -/
def Eng.buildLead (e : Eng) (p q : Nat) (g : GridPoint) : Bool :=
  (q : Int) + e.ltxAt g + e.marginAt p g.at_ + ns16 256 ≤ g.at_

/-- A frame fits at a grid instant for its class (R152, R153, R156). -/
def Eng.fitsAt (e : Eng) (p len prio : Nat) (host : Bool) (g : GridPoint) : Bool :=
  let c := e.cal p
  (c.gaps g.block len).isSome &&
    (if host then c.hostRoom g len else !inHostRun c.share g len && !e.pausedAt p prio g.at_)

/-- The cells of a port at its rate (R163). -/
def Eng.portCells (e : Eng) (p : Nat) : Nat := if e.isPort p then 2 ^ 19 * e.portRate p / 6400 else 0

/-- Reserve a grid instant; the event ANS_PLACED or HOST_PLACED is counted (R164). -/
def Eng.reserve (e : Eng) (x : Ctx) (p : Nat) (g : GridPoint) (frame : Bytes) (prio : Nat) (host : Bool)
    (o : ResvOrigin) : Eng :=
  let c := e.cal p
  let len := wireLen frame
  let r : Resv := { at_ := g.at_, block := g.block, len := len, prio := prio, ltx := e.ltxAt g, lane := g.lane,
                    period := g.period, window := windowOf g.at_, host := host, origin := o, frame := frame,
                    fetch := none }
  let rs := c.resv.filter (fun q => q.block ≤ g.block) ++ r :: c.resv.filter (fun q => g.block < q.block)
  let e := e.modCal p (fun c => { c with
    resv := rs, deficit := (c.gaps g.block len).getD c.deficit, lastEnd := max c.lastEnd (8 * g.block + len) })
  let e := e.set (Od.DEP_LIVE.cells_peak p) (max (e.n (Od.DEP_LIVE.cells_peak p)) rs.length : Nat)
  e.depCount x p (if host then 1 else 0)

/-- A placement: a reserved instant, or the refusal's offset in Table 7-2. -/
inductive Placed where
  | at_ (g : GridPoint)
  | refused (k : Nat)
  deriving DecidableEq, Repr

/-- The search of R151 for an answer-class frame of `len` bytes whose request was received at `rx`, over the grid
instants the transmit stream gives. -/
def Eng.placeAnswer (e : Eng) (x : Ctx) (p rx len prio : Nat) (grid : List GridPoint) : Placed :=
  let q := x.lin 0
  let lo := rx + e.nAt (Od.DEP_PORT.horizon p) rx
  let hi := min (lo + e.nAt (Od.DEP_PORT.search p) rx) (rx + ns16 64000)
  if !e.portReady p then .refused 15
  else
    match grid.find? (fun g => lo ≤ g.at_ && g.at_ ≤ hi && e.buildLead p q g && e.fitsAt p len prio false g) with
    | none => .refused 4
    | some g => if e.portCells p ≤ (e.cal p).resv.length then .refused 5 else .at_ g

/-- The release point of a reservation: T − L_tx less one block period (R160). -/
def Resv.releaseAt (r : Resv) : Int := (r.at_ : Int) - r.ltx - r.period

/-- An instant lies at or before the end of the present tick. -/
def Ctx.reached (x : Ctx) (inst : Int) : Bool := inst < ((x.acc 0 + x.inc 0) / 2 ^ 32 : Nat)

end Sys2Proof.Machine
end

