-- ==== Sys2Proof/Machine/Ports.lean ====
section
/-! DEFINITION. Ports and classification (spec/04_ethernet_ports.md): links, received frames through the classifier to
their engine or ring, flow control, the rule banks and their commit, and the service addresses. ESMC stands in
Machine/Esmc.lean. -/

namespace Sys2Proof.Machine

/-! ## Links (R85, R87, R121) -/

/-- Count one of a port's statistics (R107). -/
def Eng.portCount (e : Eng) (x : Ctx) (p off : Nat) : Eng := e.count x (32 * p + off)

/-- The lanes of a port. -/
def Eng.lanesOf (e : Eng) (p : Nat) : List Nat := (List.range (e.portLanes p)).map (fun i => p + i)

/-- ts_valid falls (R121): the marker and echo counts restart, and every reservation of the port is discarded (R161). -/
def Eng.tsFall (e : Eng) (x : Ctx) (p : Nat) : Eng :=
  if e.b (Od.PORT_STATUS.ts_valid p) then
    let e := e.set (Od.PORT_STATUS.ts_valid p) 0
    let e := (e.lanesOf p).foldl (fun e l => e.modLane l (fun u => { u with markers := 0, echoes := 0 })) e
    e.discardAll x p 7 (fun _ => true)
  else e

/-- The link changes: link_changes, its tick and the source (R108, Table 16-9a). -/
def Eng.linkChanged (e : Eng) (x : Ctx) (p : Nat) : Eng :=
  ((e.inc32 (Od.PORT_STATUS.link_changes p)).set (Od.PORT_STATUS.last_change_tick p) x.tick).irqLatch x 228

/-- A link falls: link and ts_valid read 0, and every reservation is discarded with MISS_LINK (R87, R161). -/
def Eng.linkFall (e : Eng) (x : Ctx) (p : Nat) : Eng :=
  if e.b (Od.PORT_STATUS.link p) then
    let e := e.set (Od.PORT_STATUS.link p) 0
    let e := (e.set (Od.PORT_STATUS.lanes p) 0).set (Od.PORT_STATUS.rate_gbps p) 0
    let e := ((e.portCount x p 25).orb (Od.PORT_STATUS.sticky p) 1).linkChanged x p
    let e := e.tsFall x p
    let e := e.discardAll x p 7 (fun _ => true)
    (e.lanesOf p).foldl (fun e l => e.modLane l (fun u => { u with markers := 0, echoes := 0, closureRun := 0 })) e
  else e

/-- The group's PLL is unlocked (row 3 of block 20). -/
def Eng.serdesDown (e : Eng) (g : Nat) : Bool := e.hasCond 20 3 g

/-- A link may come up: a port under the current modes, enabled, its group's PLL locked (R87). -/
def Eng.linkMayRise (e : Eng) (p : Nat) : Bool :=
  e.isPort p && e.b (Od.PORT_CONFIG.enable p) && !e.b (Od.PORT_STATUS.link p) && !e.serdesDown (p / 4)

/-- A link rises (R87): ts_valid follows at a boundary (R121). -/
def Eng.linkRise (e : Eng) (x : Ctx) (p : Nat) : Eng :=
  let e := (e.set (Od.PORT_STATUS.link p) 1).set (Od.PORT_STATUS.lanes p) (e.portLanes p)
  let e := e.set (Od.PORT_STATUS.rate_gbps p) (e.portRate p)
  let e := (e.lanesOf p).foldl (fun e l =>
    (e.modLane l (fun u => { u with markers := 0, echoes := 0, closureRun := 0 })).set (Od.LANE_LIVE.eq_steps l) 0) e
  e.linkChanged x p

/-- Every port of a group goes down (R85). -/
def Eng.groupDown (e : Eng) (x : Ctx) (g : Nat) : Eng :=
  (List.range 4).foldl (fun e i => e.linkFall x (4 * g + i)) e

/-- A write of LANE_GROUP.mode (R85, R163): the group's ports go down with their reservations, the new ports train with
empty calendars, and MACs that are no port hold no Tail entries (R84). -/
def laneGroupWrite (x : Ctx) (g : Nat) (v : Int) (e : Eng) : WriteRes :=
  let e := e.groupDown x g
  let e := (List.range 4).foldl (fun e i => e.discardAll x (4 * g + i) 7 (fun _ => true)) e
  let e := e.set (Od.LANE_GROUP.mode g) v
  let e := (List.range 4).foldl (fun e i =>
    let p := 4 * g + i
    let e := e.modCal p (fun c => { c with deficit := 0, lastEnd := 0, busyTo := 0 })
    let e := e.set (Od.DEP_LIVE.cells_total p) (e.portCells p)
    if e.isPort p then e else { e with tails := modNth e.tails p (fun q => { q with entries := [] }) }) e
  (stOk, e)

/-- A write of PORT_CONFIG.enable (R87): 0 holds the link down. -/
def portEnableWrite (x : Ctx) (p : Nat) (v : Int) (e : Eng) : WriteRes :=
  let e := e.set (Od.PORT_CONFIG.enable p) v
  (stOk, if v = 0 then e.linkFall x p else e)

/-- A write of LANE_IF (R118): the port that contains the lane goes down and trains again. -/
def laneIfWrite (x : Ctx) (l : Nat) (v : Int) (e : Eng) : WriteRes :=
  let e := match e.portOfLane l with
    | some p => e.linkFall x p
    | none => e
  (stOk, e.set (Od.LANE_IF l) v)

/-! ## Addresses (R100) -/

/-- The MAC address of port `p`: written, or the device's base address plus p (Table 4-6). -/
def Eng.portMac (e : Eng) (x : Ctx) (p : Nat) : Nat :=
  let v := e.i (Od.PORT_CONFIG.mac p)
  if v < 0 then (x.fuses.baseMac + p) % 2 ^ 48 else beNat (leBytes 6 v.toNat)

/-- A blob of a MAC address as the number its bytes make on the wire. -/
def macOf (v : Int) : Nat := beNat (leBytes 6 v.toNat)

/-- A service entry: its version and index. -/
structure Svc where
  v6 : Bool
  idx : Nat
  deriving DecidableEq, Repr

/-- A service entry answers an address on a port and VID; `vid` is none for an untagged frame (R100). -/
def Eng.svcMatches (e : Eng) (s : Svc) (addr : Bytes) (port : Nat) (vid : Option Nat) : Bool :=
  let i := s.idx
  let a := if s.v6 then (e.n (Od.SVC6.address i) == leNat addr) else (e.n (Od.SVC4.address i) == beNat addr)
  let m := if s.v6 then e.n (Od.SVC6.port_mask i) else e.n (Od.SVC4.port_mask i)
  let v := if s.v6 then e.n (Od.SVC6.vid i) else e.n (Od.SVC4.vid i)
  a && bitOf m port && (v == 0xFFFF || vid == some v)

/-- The enabled, undamaged entries of a version. -/
def Eng.svcEnabled (e : Eng) (v6 : Bool) : List Svc :=
  if v6 then ((listed e.od 0x30 0x500 256 1 1).filter (fun i => !e.cls.badSvc.contains (256 + i))).map (fun i => ⟨true, i⟩)
  else ((listed e.od 0x30 0x400 256 1 1).filter (fun i => !e.cls.badSvc.contains i)).map (fun i => ⟨false, i⟩)

/-- The entry a destination resolves to (R100). -/
def Eng.resolve (e : Eng) (v6 : Bool) (addr : Bytes) (port : Nat) (vid : Option Nat) : Option Svc :=
  (e.svcEnabled v6).find? (fun s => e.svcMatches s addr port vid)

/-- The MAC address of a service entry, or the port's when the entry holds none (R134). -/
def Eng.svcMac (e : Eng) (x : Ctx) (s : Svc) (p : Nat) : Nat :=
  let m := macOf (if s.v6 then e.i (Od.SVC6.mac s.idx) else e.i (Od.SVC4.mac s.idx))
  if m = 0 then e.portMac x p else m

/-- The outer VID of a frame. -/
def Parsed.outerVid (p : Parsed) : Option Nat := p.tags.head?.map (fun t => t.2 % 4096)

/-- Two entries of a version would answer one address, port and VID (R100). -/
def Eng.svcClash (e : Eng) (v6 : Bool) (i j : Nat) : Bool :=
  let a := if v6 then e.n (Od.SVC6.address i) == e.n (Od.SVC6.address j)
    else e.n (Od.SVC4.address i) == e.n (Od.SVC4.address j)
  let m := if v6 then e.n (Od.SVC6.port_mask i) &&& e.n (Od.SVC6.port_mask j)
    else e.n (Od.SVC4.port_mask i) &&& e.n (Od.SVC4.port_mask j)
  let u := if v6 then e.n (Od.SVC6.vid i) else e.n (Od.SVC4.vid i)
  let w := if v6 then e.n (Od.SVC6.vid j) else e.n (Od.SVC4.vid j)
  i != j && a && m != 0 && (u == w || u == 0xFFFF || w == 0xFFFF)

/-- Some enabled entry clashes with entry `i`, when it is enabled. -/
def Eng.svcDuplicate (e : Eng) (v6 : Bool) (i : Nat) : Bool :=
  let on := if v6 then e.b (Od.SVC6.enable i) else e.b (Od.SVC4.enable i)
  on && (listed e.od 0x30 (if v6 then 0x500 else 0x400) 256 1 1).any (fun j => e.svcClash v6 i j)

/-- A write of a service entry's members (R100): the vid's range, and DUPLICATE against the entries as they would stand. A rewritten entry is
no longer damaged (R106). -/
def svcWrite (v6 : Bool) (i : Nat) (vs : List (Key × Int)) (e : Eng) : WriteRes :=
  let f := e.setAll vs
  let vid := if v6 then f.n (Od.SVC6.vid i) else f.n (Od.SVC4.vid i)
  if names vs [Od.SVC4.vid i, Od.SVC6.vid i] && 0xFFF < vid && vid != 0xFFFF then (stRange, e)
  else if names vs [Od.SVC4.enable i, Od.SVC6.enable i, Od.SVC4.address i, Od.SVC6.address i, Od.SVC4.port_mask i,
      Od.SVC6.port_mask i, Od.SVC4.vid i, Od.SVC6.vid i] && f.svcDuplicate v6 i then (stDuplicate, e)
  else (stOk, { f with cls := { f.cls with badSvc := f.cls.badSvc.filter (fun j => j != (if v6 then 256 + i else i)) } })

/-! ## Classifier rules (R101 to R105) -/

/-- A rule of a bank. -/
structure Rule where
  portMask : Nat
  vlan : Nat
  ethertype : Nat
  l3 : Nat
  dst : Nat
  proto : Nat
  lo : Nat
  hi : Nat
  action : Nat
  arg : Nat
  mirror : Nat
  deriving DecidableEq, Repr

/-- Rule `r` of a store, read at the active bank's objects. -/
def ruleOf (s : Store) (r : Nat) : Rule where
  portMask := (sget s (Od.RULE_ACTIVE.port_mask r)).toNat
  vlan := (sget s (Od.RULE_ACTIVE.vlan r)).toNat
  ethertype := (sget s (Od.RULE_ACTIVE.ethertype r)).toNat
  l3 := (sget s (Od.RULE_ACTIVE.l3 r)).toNat
  dst := (sget s (Od.RULE_ACTIVE.dst r)).toNat
  proto := (sget s (Od.RULE_ACTIVE.ip_proto r)).toNat
  lo := (sget s (Od.RULE_ACTIVE.dport_lo r)).toNat
  hi := (sget s (Od.RULE_ACTIVE.dport_hi r)).toNat
  action := (sget s (Od.RULE_ACTIVE.action r)).toNat
  arg := (sget s (Od.RULE_ACTIVE.arg r)).toNat
  mirror := (sget s (Od.RULE_ACTIVE.mirror r)).toNat

/-- A frame on its way through the classifier, with its marks. -/
structure RxView where
  port : Nat
  body : Bytes
  p : Parsed
  rxLin : Nat
  oversize : Bool
  foreign : Bool
  svc : Option Svc
  tsValid : Bool
  deriving DecidableEq, Repr

/-- A tag field of a rule matches (Table 4-3 member 3). -/
def tagMatch (mode vid : Nat) (excess : Bool) (t : Option (Nat × Nat)) : Bool :=
  match mode, t with
  | 0, _ => true
  | 1, none => !excess
  | 2, some t => !excess && t.2 % 4096 == vid
  | 3, some _ => !excess
  | _, _ => false

/-- The destination member of a rule matches (R102). -/
def dstMatch (l3 dst : Nat) (svc : Option Svc) : Bool :=
  if dst ≤ 0xFF then (l3 == 1 || l3 == 2) && svc == some ⟨l3 == 2, dst⟩
  else if dst = 0x100 then (l3 == 1 || l3 == 2) && svc.isSome
  else if dst = 0x200 then svc.isNone
  else dst == 0x300

/-- A UDP or TCP destination port, when the frame has an unfragmented header of either. -/
def RxView.dport (v : RxView) : Option Nat :=
  match v.p.l4, v.p.proto with
  | some o, some q => if (q = 17 ∨ q = 6) ∧ o + 4 ≤ v.body.length then some (beAt v.body (o + 2) 2) else none
  | _, _ => none

/-- Members 2 to 9 of a rule match a frame (R102). -/
def Rule.covers (r : Rule) (v : RxView) : Bool :=
  bitOf r.portMask v.port &&
  tagMatch (r.vlan / 4096 % 4) (r.vlan % 4096) v.p.excess (v.p.tags.getD 0 (0, 0) |> fun t =>
    if v.p.tags.isEmpty then none else some t) &&
  tagMatch (r.vlan / 2 ^ 28 % 4) (r.vlan / 65536 % 4096) v.p.excess (v.p.tags[1]?) &&
  (r.ethertype == 0 || r.ethertype == v.p.etype) &&
  (match r.l3 with
   | 0 => true
   | 1 => v.p.ver == 4
   | 2 => v.p.ver == 6
   | 3 => v.p.ver == 0
   | _ => false) &&
  dstMatch r.l3 r.dst v.svc &&
  (r.proto == 0xFF || v.p.proto == some r.proto) &&
  ((r.lo == 0 && r.hi == 0xFFFF) || (match v.dport with | some d => r.lo ≤ d && d ≤ r.hi | none => false))

/-- The conditions of ANSWER but for ts_valid (Table 4-4). -/
def RxView.answerable (v : RxView) : Bool :=
  !v.oversize && !v.p.excess && !v.foreign && v.p.hdrOk && !v.p.frag && !v.p.ext && v.p.ver != 0 &&
  v.p.proto == some 17 && v.svc.isSome

/-- What a neighbour request asks for: the entry, and the address of the asker (R103). -/
structure NbReq where
  svc : Svc
  ask : Bytes
  mac : Nat
  deriving DecidableEq, Repr

/-- An ARP request, or a Neighbor Solicitation, for the address of an enabled service entry whose neighbour flag is 1. -/
def Eng.neighbourReq (e : Eng) (v : RxView) : Option NbReq :=
  let b := v.body
  let o := v.p.l3
  if v.p.etype = 0x0806 ∧ beAt b o 2 = 1 ∧ beAt b (o + 2) 2 = 0x0800 ∧ beAt b (o + 6) 2 = 1 ∧ o + 28 ≤ b.length then
    match e.resolve false (slice b (o + 24) 4) v.port v.p.outerVid with
    | some s => if e.b (Od.SVC4.neighbour s.idx) then some ⟨s, slice b (o + 14) 4, beAt b (o + 8) 6⟩ else none
    | none => none
  else if v.p.ver = 6 ∧ v.p.proto = some 58 then
    match v.p.l4 with
    | some q =>
      if byteAt b q = 135 ∧ byteAt b (q + 1) = 0 ∧ q + 24 ≤ b.length then
        match e.resolve true (slice b (q + 8) 16) v.port v.p.outerVid with
        | some s => if e.b (Od.SVC6.neighbour s.idx) then some ⟨s, v.p.ipSrc, v.p.src⟩ else none
        | none => none
      else none
    | none => none
  else none

/-- The conditions of a rule's action hold (Table 4-4). -/
def Eng.actionOk (e : Eng) (v : RxView) (action : Nat) : Bool :=
  match action with
  | 0 => true
  | 1 => v.tsValid && v.answerable
  | 2 => v.tsValid && (v.answerable || (v.p.etype == 0x88F7 && !v.oversize && !v.p.excess && !v.foreign))
  | 3 => true
  | 4 => !v.oversize && !v.foreign && (e.neighbourReq v).isSome
  | 5 => v.answerable
  | _ => false

/-- A rule that fails the check of a commit: a member or arg outside its range (Table 4-3, R103, R191). -/
def Rule.bad (r : Rule) : Bool :=
  3 < r.l3 || !(r.dst ≤ 0x100 || r.dst == 0x200 || r.dst == 0x300) || 5 < r.action ||
  (match r.action with
   | 1 => 255 < r.arg
   | 2 => 47 < r.arg
   | 3 => 127 < r.arg
   | _ => false) || 16 < r.mirror % 32

/-- Objects of the active bank (R108). -/
def isActiveKey (k : Key) : Bool := k.area == 0x30 && 0x800 ≤ k.item && k.item < 0xC00

/-- Objects of the edit bank. -/
def isEditKey (k : Key) : Bool := k.area == 0x30 && 0xC00 ≤ k.item

/-- A bank read at the active bank's object numbers. -/
def editAsActive (s : Store) : Store := (s.filter (fun p => isEditKey p.1)).map (fun p => (p.1 - 0x4000, p.2))

/-- The edit bank is being copied or a commit waits: edits and commits are refused with BUSY (R105). -/
def Eng.bankBusy (e : Eng) : Bool := e.cls.commitAt.isSome || e.cls.copyEnd.isSome

/-- A write of edit-bank members (R105). -/
def ruleEditWrite (vs : List (Key × Int)) (e : Eng) : WriteRes := if e.bankBusy then (stBusy, e) else (stOk, e.setAll vs)

/-- A write of 1 to RULE_COMMIT.commit (R105); a write of 0 does nothing. -/
def ruleCommitWrite (x : Ctx) (v : Int) (e : Eng) : WriteRes :=
  if v = 0 then (stOk, e)
  else if e.bankBusy then (stBusy, e)
  else
    let s := editAsActive e.od
    match (listed s 0x30 0x800 1024 1 1).find? (fun r => (ruleOf s r).bad) with
    | some r => (stRange, e.set Od.RULE_COMMIT.bad_rule (r : Nat))
    | none =>
      let t : Nat := (x.tick + 4096) % 2 ^ 64
      (stOk, { e.set Od.RULE_COMMIT.commit_tick t with cls := { e.cls with commitAt := some t } })

/-- The commit takes effect (R105): the old bank is kept for frames received before the tick's moon 0 instant, and the
new one is in force with its damaged rules replaced (R106). -/
def Eng.bankSwap (e : Eng) (x : Ctx) (t : Nat) : Eng :=
  let old := e.od.filter (fun p => isActiveKey p.1)
  let new := editAsActive e.od
  let od := (e.od.filter (fun p => !isActiveKey p.1))
  let od := new.foldl (fun s p => sset s p.1 p.2) od
  let e := { e with
    od := od
    cls := { e.cls with oldBank := old, newFrom := x.lin 0, commitAt := none, copyEnd := some (t + 2048), badRules := [] } }
  (e.set Od.RULE_COMMIT.active_bank (1 - e.i Od.RULE_COMMIT.active_bank)).inc32 Od.RULE_COMMIT.commit_count

/-! ## Host-bound frames (R92, R94, R333) -/

/-- The bytes a port's receive buffer holds. -/
def Port.held (p : Port) : Nat := p.rxHeld.foldl (fun n h => n + h.bytes.length) 0

/-- A PAUSE or PFC frame of the device, with the quanta given (R94). -/
def Eng.pauseFrame (e : Eng) (x : Ctx) (p quanta : Nat) : Bytes :=
  let head := beBytes 6 0x0180C2000001 ++ beBytes 6 (e.portMac x p) ++ [0x88, 0x08]
  if e.n (Od.PORT_CONFIG.flow_mode p) = 2 then
    let m := e.n (Od.PORT_CONFIG.pfc_tx_mask p)
    padTo 60 (head ++ [1, 1, 0, byte m] ++ (List.range 8).flatMap (fun i => beBytes 2 (if bitOf m i then quanta else 0)))
  else padTo 60 (head ++ [0, 1] ++ beBytes 2 quanta)

/-- The device may send flow-control frames on a port (R94). -/
def Eng.pauseTxOn (e : Eng) (p : Nat) : Bool :=
  e.b (Od.PORT_CONFIG.pause_tx p) && e.n (Od.PORT_CONFIG.flow_mode p) != 0 && e.b (Od.PORT_STATUS.link p)

/-- Send a flow-control frame, and note when an XOFF is repeated: half its quanta later (R94). -/
def Eng.sendPause (e : Eng) (x : Ctx) (p quanta : Nat) : Eng :=
  if e.pauseTxOn p then
    let e := e.emit (.frame p (withFcs (e.pauseFrame x p quanta)))
    let e := ((e.portCount x p 16).countN x (32 * p + 17) 64).portCount x p
      (if e.n (Od.PORT_CONFIG.flow_mode p) = 2 then 19 else 18)
    e.modPort p (fun q => { q with
      xoff := if quanta = 0 then none
        else some (x.lin 0 + quanta * 512 * 65536 / (2 * max 1 (e.portRate p))) })
  else e.modPort p (fun q => { q with xoff := none })

/-- Hold a host-bound frame for its ring: it is discarded when the buffer is full (R333), and an XOFF goes out when the
buffer passes 75 % (R94). -/
def Eng.hold (e : Eng) (x : Ctx) (p : Nat) (h : HeldFrame) : Eng :=
  let n := (e.port p).held
  if Config.rxBufferBytes < n + h.bytes.length then
    (e.inc64 (Od.RX_RING_STATUS.overrun h.ring)).orb (Od.RX_RING_STATUS.sticky h.ring) 8
  else
    let e := e.modPort p (fun q => { q with rxHeld := q.rxHeld ++ [h] })
    if n * 4 ≤ Config.rxBufferBytes * 3 ∧ Config.rxBufferBytes * 3 < (n + h.bytes.length) * 4 then e.sendPause x p 65535
    else e

/-- The status bits of a received frame (Table 16-4). -/
def RxView.status (v : RxView) : Nat :=
  2 * boolNat v.oversize + 4 * boolNat v.p.excess + 8 * boolNat v.foreign + 16 * boolNat (!v.tsValid)

/-- A frame for a ring under a rule or the default action: the outer tag may be stripped (R92). -/
def Eng.toRing (e : Eng) (x : Ctx) (v : RxView) (ring rule : Nat) (o : RxOrigin) : Eng :=
  let strip := e.b (Od.PORT_CONFIG.strip_outer v.port) && (o == .rule || o == .default_)
  match strip, v.p.tags with
  | true, t :: _ =>
    e.hold x v.port ⟨ring, v.body.take 12 ++ v.body.drop 16, v.rxLin % 2 ^ 64, v.status, 0, rule, o, some t⟩
  | _, _ => e.hold x v.port ⟨ring, v.body, v.rxLin % 2 ^ 64, v.status, 0, rule, o, none⟩

/-! ## Untimed frames of the device (R157) -/

/-- Queue an untimed frame of the device on a port. -/
def Eng.sendUntimed (e : Eng) (p : Nat) (fw : Bool) (prio : Nat) (bytes : Bytes) : Eng :=
  e.modPort p (fun q => { q with untimed := q.untimed ++ [⟨none, padTo 60 bytes, prio, fw⟩] })

/-- The flow-control priority of a frame (R92). -/
def Eng.prioOf (e : Eng) (p : Nat) (tags : List (Nat × Nat)) : Nat :=
  match tags with
  | t :: _ => t.2 / 8192 % 8
  | [] => e.n (Od.PORT_CONFIG.untagged_priority p)

/-- The reply to a neighbour request, with the entry's MAC and the request's tags (R103). -/
def Eng.neighbourReply (e : Eng) (x : Ctx) (v : RxView) (q : NbReq) : Bytes :=
  let mac := e.svcMac x q.svc v.port
  if q.svc.v6 then
    let addr := leBytes 16 (e.n (Od.SVC6.address q.svc.idx))
    let unspec := q.ask.all (fun b => b == 0)
    let dst := if unspec then beBytes 16 (0xFF02 * 2 ^ 112 + 1) else q.ask
    let icmp (s : Nat) : Bytes := [136, 0] ++ beBytes 2 s ++ (if unspec then [0x20, 0, 0, 0] else [0x60, 0, 0, 0]) ++
      addr ++ [2, 1] ++ beBytes 6 mac
    let sum := inetSum (addr ++ dst ++ beBytes 4 32 ++ [0, 0, 0, 58] ++ icmp 0)
    let ip := beBytes 4 (6 * 2 ^ 28) ++ beBytes 2 32 ++ [58, 255] ++ addr ++ dst ++ icmp sum
    buildEth (if unspec then 0x333300000001 else q.mac) mac v.p.tags 0x86DD ip
  else
    let addr := beBytes 4 (e.n (Od.SVC4.address q.svc.idx))
    buildEth q.mac mac v.p.tags 0x0806
      ([0, 1, 8, 0, 6, 4, 0, 2] ++ beBytes 6 mac ++ addr ++ beBytes 6 q.mac ++ q.ask)

/-! ## The dispatcher (R129) -/

/-- Pipeline `i`. -/
def Eng.pipe (e : Eng) (i : Nat) : Pipe := nth e.ans.pipes i Pipe.atReset

/-- Change pipeline `i`. -/
def Eng.modPipe (e : Eng) (i : Nat) (f : Pipe → Pipe) : Eng :=
  { e with ans := { e.ans with pipes := modNth e.ans.pipes i f } }

/-- Place a request in the next in-service pipeline with room, or discard it (R129). -/
def Eng.dispatch (e : Eng) (q : AnsReq) : Eng :=
  let order := (List.range 16).map (fun i => (e.ans.lastPipe + 1 + i) % 16)
  match order.find? (fun i => e.b (Od.PIPE.in_service i) && (e.pipe i).queue.length < 64) with
  | some i =>
    let e := { e with ans := { e.ans with lastPipe := i } }
    e.modPipe i (fun p => { p with queue := p.queue ++ [q] })
  | none => (e.inc64 Od.ANS_STATUS.dispatch_full).orb Od.ANS_STATUS.sticky 1

/-! ## A received frame (R99) -/

/-- A frame of the DICT action (R351, R378): discarded while in-band access is off, malformed with a bad checksum, as a fragment
or when it is not for DICT_INBAND.udp_port, and otherwise one PDU for the front. -/
def Eng.inBand (e : Eng) (x : Ctx) (v : RxView) (mac : Nat) : Eng :=
  let e := e.portCount x v.port 15
  if !e.b Od.DICT_INBAND.enable then e.inc32 Od.DICT_STATUS.inband_off
  else
    let e := e.count x 0xB0F
    match v.p.l4 with
    | none => e.count x 0xB0A
    | some o =>
      let n := udpLenOf v.body o
      if v.p.proto = some 17 ∧ beAt v.body (o + 2) 2 = e.n Od.DICT_INBAND.udp_port ∧ 8 ≤ n ∧ n ≤ v.p.ipLen ∧ udpSumOk v.p.ver v.p.ipSrc v.p.ipDst (slice v.body o n)
      then e.arrive x (.inBand v.port v.body mac) (slice v.body (o + 8) (n - 8)) else e.count x 0xB0A

/-- Perform the action of the matching rule (Table 4-4). -/
def Eng.act (e : Eng) (x : Ctx) (v : RxView) (n : Nat) (r : Rule) : Eng :=
  match r.action with
  | 1 =>
    let s := v.svc.getD ⟨false, 0⟩
    (e.portCount x v.port 28).dispatch ⟨v.port, r.arg, s.v6, s.idx, v.body, v.rxLin⟩
  | 2 =>
    let mac := match v.svc with
      | some s => e.svcMac x s v.port
      | none => e.portMac x v.port
    let e := e.portCount x v.port 29
    { e with ptpIn := e.ptpIn ++ [⟨r.arg, v.port, mac, v.body, v.rxLin⟩] }
  | 3 => (e.portCount x v.port 30).toRing x v r.arg n .rule
  | 4 =>
    match e.neighbourReq v with
    | some q => ((e.portCount x v.port 15).portCount x v.port 27).sendUntimed v.port false (e.prioOf v.port v.p.tags)
        (e.neighbourReply x v q)
    | none => e
  | 5 => e.inBand x v (match v.svc with
      | some s => e.svcMac x s v.port
      | none => e.portMac x v.port)
  | _ => e.portCount x v.port 31

/-- The mirror copy of a matching frame: 1 in 2^n of the matches in order of arrival (R104). A ring that takes no frame
counts rx_mirror_drop at delivery. -/
def Eng.mirror (e : Eng) (x : Ctx) (v : RxView) (n : Nat) (r : Rule) : Eng :=
  if bitOf r.mirror 15 then
    let c := tgetD e.cls.mirrored n 0
    let e := { e with cls := { e.cls with mirrored := tput e.cls.mirrored n (c + 1) } }
    if c % 2 ^ (r.mirror % 32) = 0 then e.toRing x v (r.mirror / 256 % 128) n .mirror else e
  else e

/-- Classification (R102, R103): the lowest-numbered rule that matches, or the port's default action. -/
def Eng.classify (e : Eng) (x : Ctx) (v : RxView) : Eng :=
  let bank := if v.rxLin < e.cls.newFrom then e.cls.oldBank else e.od
  let rs := listed bank 0x30 0x800 1024 1 1
  let hit := rs.find? (fun n => e.cls.badRules.contains n ||
    ((ruleOf bank n).covers v && e.actionOk v (ruleOf bank n).action))
  match hit with
  | some n =>
    if e.cls.badRules.contains n then e.portCount x v.port 31
    else
      let r := ruleOf bank n
      ((e.count x (0x400 + n)).mirror x v n r).act x v n r
  | none =>
    let e := e.portCount x v.port 11
    if e.n (Od.PORT_CONFIG.default_action v.port) = 3 then
      e.toRing x v (e.n (Od.PORT_CONFIG.default_ring v.port)) 0xFFFF .default_
    else e

/-- A tag protocol identifier the MAC recognises (R91). -/
def Eng.isTpid (e : Eng) (t : Nat) : Bool :=
  t == 0x8100 || t == e.n Od.PORT_GLOBAL.tpid_s || (t == e.n Od.PORT_GLOBAL.tpid_extra && t != 0)

/-- The instant a pause of `quanta` ends on a port (R93). -/
def Eng.pauseEndAt (e : Eng) (x : Ctx) (p quanta : Nat) : Nat :=
  x.lin 0 + quanta * 512 * 65536 / max 1 (e.portRate p)

/-- A received flow-control frame (R93): counted, and under its own mode it stops the priorities it names. -/
def Eng.flowControl (e : Eng) (x : Ctx) (p : Nat) (bs : Bytes) : Eng :=
  let mode := e.n (Od.PORT_CONFIG.flow_mode p)
  if beAt bs 14 2 = 0x0101 then
    let e := e.portCount x p 10
    if mode = 2 then
      (List.range 8).foldl (fun e i =>
        if bitOf (byteAt bs 17) i && bitOf (e.n (Od.PORT_CONFIG.pfc_rx_mask p)) i then
          e.modPort p (fun q => { q with pause := tput q.pause i (e.pauseEndAt x p (beAt bs (18 + 2 * i) 2)) })
        else e) e
    else e
  else
    let e := e.portCount x p 9
    if mode = 1 && beAt bs 14 2 = 1 then
      (List.range 8).foldl (fun e i =>
        e.modPort p (fun q => { q with pause := tput q.pause i (e.pauseEndAt x p (beAt bs 16 2)) })) e
    else e

/-- An ESMC frame (R97): addressed to the slow-protocols address, EtherType 0x8809, subtype 0x0A. -/
def isEsmc (bs : Bytes) : Bool := beAt bs 0 6 == 0x0180C2000002 && beAt bs 12 2 == 0x8809 && byteAt bs 14 == 0x0A

/-- A received ESMC frame is consumed, and its quality level noted (R97). -/
def Eng.esmcRx (e : Eng) (x : Ctx) (p : Nat) (bs : Bytes) : Eng :=
  let e := e.portCount x p 22
  let e := (e.set (Od.PORT_ESMC.ql_rx p) (byteAt bs 27 % 16 : Nat)).set (Od.PORT_ESMC.ql_rx_valid p) 1
  e.modPort p (fun q => { q with esmcHeard := x.st 0 })

/-- The receive wire timestamp t_rx := c − L_rx (R113), as a moon 0 linear count. -/
def Eng.rxStamp (e : Eng) (f : RxFrame) : Nat :=
  let t := e.termsAt f.lane f.capture
  ((f.capture : Int) - (t.offRx + t.anaRx + t.serRx + f.dsk + f.fecRx + t.resRx)).toNat

/-- The view of a frame for the classifier. -/
def Eng.view (e : Eng) (x : Ctx) (f : RxFrame) (body : Bytes) (oversize : Bool) : RxView :=
  let pt : Nat := f.port
  let p := parseFrame e.isTpid body
  let svc := if p.ver = 0 then none else e.resolve (p.ver == 6) p.ipDst pt p.outerVid
  let mine := p.dst == e.portMac x pt || (match svc with
    | some s => p.dst == e.svcMac x s pt
    | none => false)
  { port := pt, body := body, p := p, rxLin := e.rxStamp f, oversize := oversize,
    foreign := !isGroupMac p.dst && !mine, svc := svc, tsValid := e.b (Od.PORT_STATUS.ts_valid pt) }

/-- Stages 3 to 5 of R99. -/
def Eng.rxStages (e : Eng) (x : Ctx) (f : RxFrame) (body : Bytes) (oversize : Bool) : Eng :=
  let pt : Nat := f.port
  if beAt body 12 2 = 0x8808 then e.flowControl x pt body
  else if isEsmc body && e.b (Od.PORT_CONFIG.esmc_enable pt) then e.esmcRx x pt body
  else
    let v := e.view x f body oversize
    let e := if v.p.excess then (e.portCount x pt 13).orb (Od.PORT_STATUS.sticky pt) 64 else e
    let e := if v.p.hdrOk then e else e.portCount x pt 12
    e.classify x v

/-- A received frame (R88 to R90, R99). -/
def Eng.receive (e : Eng) (x : Ctx) (f : RxFrame) : Eng :=
  let pt : Nat := f.port
  if !e.b (Od.PORT_STATUS.link pt) then e
  else
    let len := f.bytes.length
    let e := (e.portCount x pt 0).countN x (32 * pt + 1) len
    let e := ((e.countN x (32 * pt + 6) f.corrected).countN x (32 * pt + 7) f.uncorrected).countN x (32 * pt + 8) f.symbols
    let e := if 0 < f.uncorrected then e.orb (Od.PORT_STATUS.sticky pt) 4 else e
    let maxf := e.n (Od.PORT_CONFIG.max_frame pt)
    let long := maxf < len
    let body := f.bytes.take ((if long then maxf else len) - 4)
    let e := if long && !f.fecFail && (fcsOk f.bytes || e.b (Od.PORT_CONFIG.fcs_err_to_host pt)) then (e.portCount x pt 4).orb (Od.PORT_STATUS.sticky pt) 32 else e
    if f.fecFail then e.portCount x pt 5
    else if !fcsOk f.bytes then
      let e := e.portCount x pt 2
      if e.b (Od.PORT_CONFIG.fcs_err_to_host pt) then
        e.hold x pt ⟨e.n (Od.PORT_CONFIG.default_ring pt), body, e.rxStamp f % 2 ^ 64,
          1 + 2 * boolNat long + 16 * boolNat (!e.b (Od.PORT_STATUS.ts_valid pt)), 0, 0xFFFF, .fcsErr, none⟩
      else e
    else if len < 64 then e.portCount x pt 3
    else e.rxStages x f body long

/-! ## The commands -/

/-- LANE_GROUP_MODE_WRITE (R85). -/
def execLaneGroupModeWrite (group : Fin 8) (value roles : Nat) (s : State) : Host.Outcome State Fault Refusal :=
  lift (fun x e => e.writeCmd x (Od.LANE_GROUP.mode group) value roles (laneGroupWrite x group value)) s

/-- PORT_ENABLE_WRITE (R87). -/
def execPortEnableWrite (port : Fin 32) (value roles : Nat) (s : State) : Host.Outcome State Fault Refusal :=
  lift (fun x e => e.writeCmd x (Od.PORT_CONFIG.enable port) value roles (portEnableWrite x port value)) s

/-- LANE_IF_WRITE (R118). -/
def execLaneIfWrite (lane : Fin 32) (value roles : Nat) (s : State) : Host.Outcome State Fault Refusal :=
  lift (fun x e => e.writeCmd x (Od.LANE_IF lane) value roles (laneIfWrite x lane value)) s

/-- LINK_UP (R87), when the port's link may rise. -/
def execLinkUp (port : Fin 32) (s : State) : Host.Outcome State Fault Refusal :=
  lift (fun x e => whenDue (e.linkMayRise port) (fun e => e.linkRise x port) e) s

/-- LINK_DOWN (R87): a lock is lost; or a partner offers only other modes, which is counted in link_down (R86). -/
def execLinkDown (port : Fin 32) (cause : LinkLoss) (s : State) : Host.Outcome State Fault Refusal :=
  lift (fun x e =>
    match cause with
    | .otherModes => whenDue (e.linkMayRise port) (fun e => e.portCount x port 25) e
    | .marker => whenDue (e.b (Od.PORT_STATUS.link port)) (fun e =>
        ((e.portCount x port 26).orb (Od.PORT_STATUS.sticky port) 2).linkFall x port) e
    | .fec => e.linkFall x port) s

/-- FRAME_RECEIVE (R99). -/
def execFrameReceive (frame : RxFrame) (s : State) : Host.Outcome State Fault Refusal :=
  lift (fun x e => e.receive x frame) s

/-- PAUSE_XOFF_REPEAT (R94): half the quanta of the last XOFF have elapsed while the buffer has not fallen below 25 %. -/
def execPauseXoffRepeat (port : Fin 32) (s : State) : Host.Outcome State Fault Refusal :=
  lift (fun x e => whenDue (match (e.port port).xoff with
    | some t => decide (t ≤ x.lin 0)
    | none => false) (fun e => e.sendPause x port 65535) e) s

/-- PAUSE_END (R93): the priorities whose quanta have elapsed resume. -/
def execPauseEnd (port : Fin 32) (s : State) : Host.Outcome State Fault Refusal :=
  lift (fun x e => e.modPort port (fun q => { q with pause := q.pause.filter (fun r => x.lin 0 < r.2) })) s

/-- RULE_COMMIT (R105). -/
def execRuleCommit (value roles : Nat) (s : State) : Host.Outcome State Fault Refusal :=
  lift (fun x e => e.writeCmd x Od.RULE_COMMIT.commit value roles (ruleCommitWrite x value)) s

/-- RULE_COMMIT_TAKE_EFFECT (R105), at commit_tick. -/
def execRuleCommitTakeEffect (s : State) : Host.Outcome State Fault Refusal :=
  lift (fun x e =>
    match e.cls.commitAt with
    | some t => whenDue (t ≤ x.tick) (fun e => e.bankSwap x t) e
    | none => e) s

/-- RULE_BANK_COPY_DONE (R105): within 2,048 ticks the copy ends, and edits and commits are accepted again. -/
def execRuleBankCopyDone (s : State) : Host.Outcome State Fault Refusal :=
  lift (fun _ e => { e with cls := { e.cls with copyEnd := none } }) s

/-- SERVICE_ENTRY_WRITE (R100). -/
def execServiceEntryWrite (v6 : Bool) (entry : Fin 256) (w : RecWrite) (roles : Nat) (s : State) :
    Host.Outcome State Fault Refusal :=
  lift (fun x e => e.recCmd x 0x30 ((if v6 then 0x500 else 0x400) + entry) w roles (svcWrite v6 entry)) s

end Sys2Proof.Machine
end

