-- ==== Sys2Proof/Machine/Wire.lean ====
section
/-! DEFINITION. Wire timestamps and live calibration (spec/05_wire_timestamps.md): the measurements at alignment markers
and echoes, their faults, the sets sealed at closing ticks and applied at boundaries, ts_valid, the calibration items and
their store, and board-delay measurement. -/

namespace Sys2Proof.Machine

/-! ## Means -/

/-- Add a sample. -/
def Mean.add (m : Mean) (v : Int) : Mean := ⟨m.sum + v, m.n + 1⟩

/-- The mean, or a value to keep when nothing was measured. -/
def Mean.value (m : Mean) (keep : Int) : Int := if m.n = 0 then keep else floorDiv m.sum m.n

/-! ## Faults of the wire timestamp engine (Table 20-2, block 3) -/

/-- A CONTAINED fault of a port's timestamps: counted in TS_PORT.faults, and ts_valid falls (R119 to R121). -/
def Eng.tsFault (e : Eng) (x : Ctx) (p row sticky : Nat) : Eng :=
  (((e.inc32 (Od.TS_PORT.faults p)).orb (Od.TS_PORT.sticky p) sticky).detect x 3 row p).tsFall x p

/-! ## Markers (R119, R126) -/

/-- A round-trip sample of an open measurement window (R126). -/
def Eng.rttSample (e : Eng) (p l : Nat) (v : Int) : Eng :=
  if v ≤ 0 ∨ 65536000 ≤ v then (e.inc32 (Od.CAL_MEAS.unmatched l)).orb (Od.TS_PORT.sticky p) 32
  else
    let first := e.n (Od.CAL_MEAS.count l) == 0
    let e := (e.inc32 (Od.CAL_MEAS.count l)).modLane l (fun u => { u with rtt := u.rtt.add v })
    let e := e.set (Od.CAL_MEAS.rtt_min l) (if first then v else min v (e.i (Od.CAL_MEAS.rtt_min l)))
    let e := e.set (Od.CAL_MEAS.rtt_max l) (if first then v else max v (e.i (Od.CAL_MEAS.rtt_max l)))
    e.set (Od.CAL_MEAS.rtt_mean l) ((e.lane l).rtt.value 0)

/-- A marker's closure residual lies beyond the limit about the res_rx in force. -/
def Eng.closureOver (e : Eng) (l : Nat) (v : Int) : Bool :=
  e.n Od.TS_GLOBAL.closure_limit < (v - (e.lane l).live.resRx).natAbs

/-- A received alignment marker: ser_rx and res_rx take a sample, a loopback sample is paired, and the fourth
consecutive residual beyond the limit is a closure error (R119). -/
def Eng.marker (e : Eng) (x : Ctx) (p l : Nat) (ser closure : Int) (loopback : Option Int) : Eng :=
  let beyond := e.closureOver l closure
  let run := if beyond then (e.lane l).closureRun + 1 else 0
  let e := (e.modLane l (fun u => { u with
    serRx := u.serRx.add ser, resRx := u.resRx.add closure, markers := u.markers + 1,
    closureRun := if run = 4 then 0 else run })).inc32 (Od.LANE_LIVE.markers l)
  let e := match loopback with
    | some v => if e.b (Od.CAL_MEAS.open_ l) then e.rttSample p l v else e
    | none => e
  if run = 4 then ((e.inc32 (Od.TS_PORT.closure_err p)).orb (Od.TS_PORT.sticky p) 4).tsFault x p 1 8 else e

/-! ## Echoes (R114, R120) -/

/-- The echo limit of a port's lanes (R120). -/
def Eng.echoLimit (e : Eng) (p : Nat) : Nat :=
  if e.portMode p = 4 then e.n Od.TS_GLOBAL.echo_limit_slow else e.n Od.TS_GLOBAL.echo_limit_fast

/-- An echo is noted: counts, last and worst, and the lane's samples. -/
def Eng.echoNote (e : Eng) (p l : Nat) (ser err : Int) : Eng :=
  let e := (e.inc32 (Od.TS_PORT.echo_count p)).set (Od.TS_PORT.echo_last p) err
  let e := if (e.i (Od.TS_PORT.echo_worst p)).natAbs < err.natAbs then e.set (Od.TS_PORT.echo_worst p) err else e
  e.modLane l (fun u => { u with serTx := u.serTx.add ser, resTx := u.resTx.add err, echoes := u.echoes + 1 })

/-- The checks of R120 on an echo: beyond the limit, too many within 1,024, or beyond 1 ns. -/
def Eng.echoCheck (e : Eng) (x : Ctx) (p : Nat) (err : Int) : Eng :=
  let beyond := decide (e.echoLimit p < err.natAbs)
  let win := (beyond :: (e.port p).echoes).take 1024
  let e := e.modPort p (fun q => { q with echoes := win })
  let e := if beyond then (e.inc32 (Od.TS_PORT.echo_err p)).orb (Od.TS_PORT.sticky p) 1 else e
  let e := if beyond && e.n Od.TS_GLOBAL.echo_fault_count ≤ (win.filter id).length then
      (e.modPort p (fun q => { q with echoes := [] })).tsFault x p 2 2 else e
  if 65536 < err.natAbs then e.tsFault x p 3 2 else e

/-- T − LT in 2^-16 ns as the Tail entry gives it (Table 16-10). -/
def ltDelta (t lt : Nat) : Nat := min (stDiff (t % 2 ^ 64) lt).toNat 0xFFFFFFFF

/-- The Tail entry of a host frame that was sent (R337). -/
def Eng.tailSent (e : Eng) (x : Ctx) (p : Nat) (s : Sent) (err : Int) (beyond : Bool) : Eng :=
  match s.origin with
  | .host ring seq tag lt =>
    e.tailAdd x p { tailMiss ring seq tag 16 with
      t := s.at_ % 2 ^ 64, ltDelta := ltDelta s.at_ lt, echo := err, beyond := beyond }
  | _ => e

/-- An echo of a timed frame reports the oldest frame awaiting one. -/
def Eng.echoTimed (e : Eng) (x : Ctx) (p : Nat) (err : Int) : Eng :=
  match (e.cal p).awaiting with
  | [] => e
  | s :: t =>
    let e := e.modCal p (fun c => { c with awaiting := t })
    e.tailSent x p s err (decide (e.echoLimit p < err.natAbs))

/-- The oldest frame awaiting its echo has waited 512 ticks since its departure (R120). -/
def Eng.echoOverdue (e : Eng) (x : Ctx) (p : Nat) : Bool :=
  match (e.cal p).awaiting with
  | [] => false
  | s :: _ => s.tick + 512 ≤ x.tick

/-- No echo came: a CONTAINED fault (R120); a host frame's entry reports an echo error nothing measured. -/
def Eng.echoMissing (e : Eng) (x : Ctx) (p : Nat) : Eng :=
  match (e.cal p).awaiting with
  | [] => e
  | s :: t =>
    let e := e.modCal p (fun c => { c with awaiting := t })
    let v := signed 32 (e.draw (2 ^ 32))
    ((e.drawn).tailSent x p s v false).tsFault x p 4 2

/-! ## Sets sealed and applied (R116, R117) -/

/-- The set sealed for a lane at a closing tick: the offsets as written, and the means of what was measured. -/
def Eng.sealLane (e : Eng) (l : Nat) : LaneTerms :=
  let u := e.lane l
  { u.live with
    offRx := e.i (Od.LANE_CAL.rx_offset l), serRx := u.serRx.value u.live.serRx, resRx := u.resRx.value u.live.resRx,
    offTx := e.i (Od.LANE_CAL.tx_offset l), serTx := u.serTx.value u.live.serTx, resTx := u.resTx.value u.live.resTx }

/-- The closing tick seals every lane's set, and the measurement starts anew. -/
def Eng.sealLanes (e : Eng) : Eng :=
  { e with lanes := e.lanes.mapIdx (fun l u => { u with
      sealed := some (e.sealLane l), serRx := Mean.zero, resRx := Mean.zero, serTx := Mean.zero, resTx := Mean.zero }) }

/-- A table term moves toward its new value by at most 4 ps in one boundary (R117). -/
def eqMove (old new : Int) : Int := old + clampInt (-262) 262 (new - old)

/-- Boundary step 6: every lane's sealed set takes effect. -/
def Eng.takeLanes (e : Eng) : Eng :=
  { e with lanes := e.lanes.map (fun u => { u with prev := u.live, live := u.sealed.getD u.live, sealed := none }) }

/-- An equalizer step of a lane takes effect with its table terms (R117). -/
def Eng.eqStep (e : Eng) (q : EqStep) : Eng :=
  let l : Nat := q.lane
  let u := (e.lane l).live
  let e := e.modLane l (fun v => { v with
    live := { v.live with anaRx := eqMove u.anaRx q.anaRx, drvTx := eqMove u.drvTx q.drvTx } })
  ((e.set (Od.LANE_LIVE.ctle_code l) (q.ctle % 256 : Nat)).set (Od.LANE_LIVE.ffe_main l) (q.ffe % 256 : Nat)).inc32
    (Od.LANE_LIVE.eq_steps l)

/-- LANE_LIVE shows the values in force from boundary `b` (R128). -/
def Eng.showLane (e : Eng) (b l : Nat) : Eng :=
  let t := (e.lane l).live
  e.setAll [(Od.LANE_LIVE.ana_rx l, t.anaRx), (Od.LANE_LIVE.ser_rx l, t.serRx), (Od.LANE_LIVE.res_rx l, t.resRx),
    (Od.LANE_LIVE.drv_tx l, t.drvTx), (Od.LANE_LIVE.ser_tx l, t.serTx), (Od.LANE_LIVE.res_tx l, t.resTx),
    (Od.LANE_LIVE.boundary l, (b : Int))]

/-- Boundary step 6 for the timestamp units (R25, R116, R117). -/
def Eng.wireBoundary (e : Eng) (b : Nat) (steps : List EqStep) : Eng :=
  let e := steps.foldl (fun e q => e.eqStep q) e.takeLanes
  (List.range 32).foldl (fun e l => e.showLane b l) e

/-- The conditions under which ts_valid rises (R121). -/
def Eng.tsMayRise (e : Eng) (p : Nat) : Bool :=
  e.isPort p && e.b (Od.PORT_STATUS.link p) && !e.b (Od.PORT_STATUS.ts_valid p) &&
  (e.lanesOf p).all (fun l => e.n (Od.LANE_CAL.rx_origin l) != 2 && e.n (Od.LANE_CAL.tx_origin l) != 2 &&
    64 ≤ (e.lane l).markers && 64 ≤ (e.lane l).echoes)

/-- ts_valid rises at boundary `b` (R121). -/
def Eng.tsRise (e : Eng) (b p : Nat) : Eng :=
  if e.tsMayRise p then
    let e := (e.set (Od.PORT_STATUS.ts_valid p) 1).set (Od.TS_PORT.valid_boundary p) b
    (e.lanesOf p).foldl (fun e l => e.set (Od.LANE_LIVE.markers l) 0) e
  else e

/-- ts_valid of every port at a boundary. -/
def Eng.tsRiseAll (e : Eng) (b : Nat) : Eng := (List.range 32).foldl (fun e p => e.tsRise b p) e

/-! ## The calibration set (R123 to R125) -/

/-- The object of a calibration item. -/
def calKey : CalItem → Key
  | .laneRx l => Od.LANE_CAL.rx_offset l
  | .laneTx l => Od.LANE_CAL.tx_offset l
  | .refin n => Od.REFIN_CAL.delay n
  | .antenna u => Od.GNSS_CAL.antenna u
  | .cable u => Od.GNSS_CAL.cable u
  | .seed i => odKey 0x38 0x220 (i + 1)

/-- The origin of a calibration object: the member after it, or the seed's one origin. -/
def calOrigin (k : Key) : Key := if k.item = 0x220 then Od.OSC_SEED.origin else k + 1

/-- A write of calibration items (R124): each item's origin becomes USER, and the store is to be written within 1 s. -/
def calWrite (x : Ctx) (vs : List (Key × Int)) (e : Eng) : WriteRes :=
  let e := vs.foldl (fun e p => (e.set p.1 p.2).set (calOrigin p.1) 1) e
  (stOk, { e with calWait := ⟨some (e.calWait.since.getD (x.st 0))⟩ })

/-- The objects of the calibration store. -/
def isCalKey (k : Key) : Bool :=
  k.area == 0x38 && ((0x100 ≤ k.item && k.item < 0x120) || (0x200 ≤ k.item && k.item ≤ 0x220))

/-- The changed items replace the stored values in both copies (R124). -/
def Eng.calStore (e : Eng) (x : Ctx) : Eng :=
  let e := { e with
    calWait := ⟨none⟩
    flash := { e.flash with calValues := e.od.filter (fun p => isCalKey p.1), calBad := [false, false] } }
  (e.inc32 Od.CAL_STORE.writes).set Od.CAL_STORE.last_write_tick x.tick

/-! ## Board delay (R126) -/

/-- Open the windows of the ports of a mask; an open one stays as it is. -/
def Eng.calOpen (e : Eng) (x : Ctx) (mask : Nat) : Eng :=
  let e := (List.range 32).foldl (fun e p =>
    if bitOf mask p && !bitOf (e.n Od.CAL_CTRL.open_mask) p then
      (e.lanesOf p).foldl (fun e l =>
        (e.modLane l (fun u => { u with rtt := Mean.zero })).setAll
          [(Od.CAL_MEAS.open_ l, 1), (Od.CAL_MEAS.count l, 0), (Od.CAL_MEAS.unmatched l, 0), (Od.CAL_MEAS.rtt_min l, 0),
           (Od.CAL_MEAS.rtt_mean l, 0), (Od.CAL_MEAS.rtt_max l, 0), (Od.CAL_MEAS.open_tick l, (x.tick : Int)),
           (Od.CAL_MEAS.close_tick l, 0)]) e
    else e) e
  e.orb Od.CAL_CTRL.open_mask mask

/-- Close the windows of the ports of a mask: their values freeze. -/
def Eng.calClose (e : Eng) (x : Ctx) (mask : Nat) : Eng :=
  let e := (List.range 32).foldl (fun e p =>
    if bitOf mask p && bitOf (e.n Od.CAL_CTRL.open_mask) p then
      (List.range 4).foldl (fun e i => if e.b (Od.CAL_MEAS.open_ (p + i)) && (i == 0 || i < e.portLanes p) then
        (e.set (Od.CAL_MEAS.open_ (p + i)) 0).set (Od.CAL_MEAS.close_tick (p + i)) x.tick else e) e
    else e) e
  e.andc Od.CAL_CTRL.open_mask mask

/-- Every bit of a mask names a port (R127). -/
def Eng.portsOnly (e : Eng) (mask : Nat) : Bool := (List.range 32).all (fun p => !bitOf mask p || e.isPort p)

/-- A write of CAL_CTRL.open. -/
def calOpenWrite (x : Ctx) (v : Int) (e : Eng) : WriteRes :=
  if e.portsOnly v.toNat then (stOk, e.calOpen x v.toNat) else (stNoObject, e)

/-- A write of CAL_CTRL.close. -/
def calCloseWrite (x : Ctx) (v : Int) (e : Eng) : WriteRes :=
  if e.portsOnly v.toNat then (stOk, e.calClose x v.toNat) else (stNoObject, e)

/-- A clear of TS_PORT.sticky: bit 0 clears echo_worst as well (R127). -/
def tsStickyClear (p : Nat) (v : Int) (e : Eng) : WriteRes :=
  let e := e.andc (Od.TS_PORT.sticky p) v.toNat
  (stOk, if bitOf v.toNat 0 then e.set (Od.TS_PORT.echo_worst p) 0 else e)

/-! ## The commands -/

/-- ALIGNMENT_MARKER_RX (R119): on a lane of a port with link. -/
def execAlignmentMarkerRx (lane : Fin 32) (serRx closure : Int) (loopback : Option Int) (s : State) :
    Host.Outcome State Fault Refusal :=
  lift (fun x e =>
    match e.portOfLane lane with
    | some p => whenDue (e.b (Od.PORT_STATUS.link p)) (fun e => e.marker x p lane serRx closure loopback) e
    | none => e) s

/-- ECHO_RESULT (R120): of an alignment marker, or of a timed frame awaiting its echo. -/
def execEchoResult (lane : Fin 32) (timed : Bool) (serTx error : Int) (s : State) : Host.Outcome State Fault Refusal :=
  lift (fun x e =>
    match e.portOfLane lane with
    | some p =>
      let e := e.echoNote p lane serTx error
      let e := if timed then e.echoTimed x p error else e
      e.echoCheck x p error
    | none => e) s

/-- ECHO_MISSING (R120), 512 ticks after the departure of a frame without echo. -/
def execEchoMissing (port : Fin 32) (s : State) : Host.Outcome State Fault Refusal :=
  lift (fun x e => whenDue (e.echoOverdue x port) (fun e => e.echoMissing x port) e) s

/-- CAL_ITEM_WRITE (R124). -/
def execCalItemWrite (item : CalItem) (value : Int) (roles : Nat) (s : State) : Host.Outcome State Fault Refusal :=
  lift (fun x e => e.writeCmd x (calKey item) value roles (calWrite x [((calKey item), value)])) s

/-- CAL_STORE_WRITE (R124), while a change waits to be stored. -/
def execCalStoreWrite (s : State) : Host.Outcome State Fault Refusal :=
  lift (fun x e => whenDue e.calWait.since.isSome (fun e => e.calStore x) e) s

/-- CAL_CTRL_OPEN (R126). -/
def execCalCtrlOpen (mask roles : Nat) (s : State) : Host.Outcome State Fault Refusal :=
  lift (fun x e => e.writeCmd x Od.CAL_CTRL.open_ mask roles (calOpenWrite x mask)) s

/-- CAL_CTRL_CLOSE (R126). -/
def execCalCtrlClose (mask roles : Nat) (s : State) : Host.Outcome State Fault Refusal :=
  lift (fun x e => e.writeCmd x Od.CAL_CTRL.close mask roles (calCloseWrite x mask)) s

end Sys2Proof.Machine
end

