-- ==== Sys2Proof/Machine/Nts.lean ====
section
/-! DEFINITION. Network Time Security (spec/08_nts.md R166 to R181, R188): the master key slots and their rotation, the key
store, the DRBG, the checks on an NTS request and what its answer carries. NTS-KE stands in Machine/NtsKe.lean. -/

namespace Sys2Proof.Machine

/-! ## The key store (R171 to R176) -/

/-- A key store change is to be written within 1 s (R175). -/
def Eng.keyTouched (e : Eng) (x : Ctx) : Eng := { e with keyWait := ⟨some (e.keyWait.since.getD (x.st 0))⟩ }

/-- The state of a slot: 0 EMPTY, 1 ACCEPT, 2 CURRENT. -/
def Eng.slotState (e : Eng) (s : Nat) : Nat := e.n (Od.NTS_SLOT.state s)

/-- The slot that is CURRENT for a request received at a moon 0 linear count (R173). -/
def Eng.currentAt (e : Eng) (rx : Nat) : Option Nat :=
  (List.range 16).find? (fun s => e.nAt (Od.NTS_SLOT.state s) rx == 2)

/-- A slot is loaded and enters ACCEPT (R172). -/
def Eng.slotLoad (e : Eng) (x : Ctx) (s : Nat) (key : Nat) (origin : Int) : Eng :=
  let e := { e with nts := { e.nts with imported := tdel e.nts.imported s } }
  (e.setAll [(Od.NTS_SLOT.state s, 1), (Od.NTS_SLOT.key s, (key : Int)), (Od.NTS_SLOT.origin s, origin)]).keyTouched x

/-- The key derived from the station seed for a generation (R176). -/
def stationKey (seed : Bytes) (gen : Nat) : Bytes :=
  hmacSha256 seed ([0, 0, 0, 1] ++ strBytes "IDY-7840 NTS cookie key" ++ [0] ++ beBytes 4 gen ++ [0, 0, 1, 0])

/-- LOAD_LOCAL (R172): 32 bytes of the DRBG. -/
def slotLoadLocal (x : Ctx) (s : Nat) (e : Eng) : WriteRes :=
  if e.slotState s ≠ 0 then (stNotEmpty, e)
  else (stOk, e.drawn.slotLoad x s (e.draw (2 ^ 256)) 1)

/-- LOAD_STATION (R172, R176). -/
def slotLoadStation (x : Ctx) (s : Nat) (e : Eng) : WriteRes :=
  if e.slotState s ≠ 0 then (stNotEmpty, e)
  else if !e.b Od.NTS_STATION.seed_set then (stNoSeed, e)
  else (stOk, e.slotLoad x s (leNat (stationKey (leBytes 32 (e.n Od.NTS_STATION.seed)) (e.n (Od.NTS_SLOT.generation s)))) 2)

/-- LOAD_IMPORT (R172): the key last written since the slot was loaded or retired. -/
def slotLoadImport (x : Ctx) (s : Nat) (e : Eng) : WriteRes :=
  if e.slotState s ≠ 0 then (stNotEmpty, e)
  else match tget e.nts.imported s with
    | none => (stNoKey, e)
    | some k => (stOk, e.slotLoad x s k 3)

/-- Rotation (R173): requests received from an instant on see the slot CURRENT and the former one ACCEPT, which records
the moon 0 seconds at which it left (R174). -/
def slotRotate (x : Ctx) (s from_ : Nat) (e : Eng) : WriteRes :=
  if e.slotState s = 0 then (stEmptySlot, e)
  else if e.slotState s = 2 then (stOk, e)
  else
    let e := match (List.range 16).find? (fun c => e.slotState c == 2) with
      | some c => (e.setFrom x (Od.NTS_SLOT.state c) 1 from_).set (Od.NTS_SLOT.left_current c)
          (from_ / unitsPerSec % 2 ^ 48 : Nat)
      | none => e
    (stOk, ((e.setFrom x (Od.NTS_SLOT.state s) 2 from_).set Od.NTS_STATUS.current_slot s).keyTouched x)

/-- Zeroise a slot for requests received from an instant on (R174). -/
def Eng.slotClear (e : Eng) (x : Ctx) (s from_ : Nat) : Eng :=
  let e := { e with nts := { e.nts with imported := tdel e.nts.imported s } }
  let e := (e.setFrom x (Od.NTS_SLOT.state s) 0 from_).setFrom x (Od.NTS_SLOT.key s) 0 from_
  (e.set (Od.NTS_SLOT.origin s) 0).keyTouched x

/-- RETIRE (R174): CURRENT for the current slot; an empty one stays empty. -/
def slotRetire (x : Ctx) (s : Nat) (e : Eng) : WriteRes :=
  if e.slotState s = 2 then (stCurrent, e)
  else if e.slotState s = 0 then (stOk, e)
  else (stOk, e.slotClear x s x.lin4096)

/-- A write of NTS_SLOT.command (R189). -/
def slotCommand (x : Ctx) (s : Nat) (v : Int) (e : Eng) : WriteRes :=
  match v.toNat with
  | 1 => slotLoadLocal x s e
  | 2 => slotLoadStation x s e
  | 3 => slotLoadImport x s e
  | 4 => slotRotate x s x.lin4096 e
  | _ => slotRetire x s e

/-- A write of NTS_SLOT.generation (R172). -/
def slotGenWrite (x : Ctx) (s : Nat) (v : Int) (e : Eng) : WriteRes :=
  if e.slotState s ≠ 0 then (stNotEmpty, e) else (stOk, (e.set (Od.NTS_SLOT.generation s) v).keyTouched x)

/-- A write of NTS_SLOT.key: held for LOAD_IMPORT, and never read (R172). -/
def slotKeyWrite (s : Nat) (v : Int) (e : Eng) : WriteRes :=
  (stOk, { e with nts := { e.nts with imported := tput e.nts.imported s v.toNat } })

/-- A write of the station seed (R176). -/
def seedWrite (x : Ctx) (v : Int) (e : Eng) : WriteRes :=
  let check := leNat ((hmacSha256 (leBytes 32 v.toNat) (strBytes "check")).take 4)
  (stOk, (e.setAll [(Od.NTS_STATION.seed, v), (Od.NTS_STATION.seed_set, 1), (Od.NTS_STATION.seed_check, (check : Int))]).keyTouched x)

/-- A moon 0 second has passed since the last check (R174). -/
def Eng.retireDue (e : Eng) (x : Ctx) : Bool := e.nts.retireChecked < x.lin 0 / unitsPerSec

/-- The check of each moon 0 second: ACCEPT slots older than retire_after are retired (R174). -/
def Eng.retireCheck (e : Eng) (x : Ctx) : Eng :=
  let now := x.lin 0 / unitsPerSec
  let after := e.n Od.NTS_GLOBAL.retire_after
  let e := { e with nts := { e.nts with retireChecked := now } }
  if after = 0 then e
  else (List.range 16).foldl (fun e s =>
    if e.slotState s = 1 && e.n (Od.NTS_SLOT.left_current s) + after ≤ now % 2 ^ 48 then e.slotClear x s (x.lin 0) else e) e

/-- The objects of the key store (R175, R350). -/
def isKeyKey (k : Key) : Bool := match rowOf k with | some r => r.persist == .key | none => false

/-- The key store is written, or its write fails on both copies (R175, R188). -/
def Eng.keyStore (e : Eng) (x : Ctx) (good : Bool) : Eng :=
  if good then
    { e with
      keyWait := ⟨none⟩
      flash := { e.flash with
        keyValues := e.od.filter (fun p => isKeyKey p.1), pkPriv := e.pk.priv, keyBad := [false, false]
        marks := e.front.creds.map (fun u => u.mark) } }
  else { e with keyWait := ⟨some (x.st 0)⟩ }.detect x 7 5 0

/-! ## The DRBG (R178) -/

/-- Bytes of the DRBG: a free value, and the AES blocks it costs. -/
def Eng.drbg (e : Eng) (n : Nat) : Bytes × Eng :=
  (leBytes n (e.draw (2 ^ (8 * n))),
    { e with draws := e.draws + 1, nts := { e.nts with drbgBlocks := e.nts.drbgBlocks + ceilDiv n 16 } })

/-- A reseed is due: 2^20 generate calls of 256 blocks since the last. -/
def Eng.reseedDue (e : Eng) : Bool := e.b Od.NTS_STATUS.drbg_ok && 2 ^ 28 ≤ e.nts.drbgBlocks

/-- A reseed from a healthy source, or a failed health test, which stops the DRBG (R178, R188). -/
def Eng.drbgReseed (e : Eng) (x : Ctx) (healthy : Bool) : Eng :=
  if healthy then (if e.reseedDue then { e with nts := { e.nts with drbgBlocks := 0 } } else e)
  else if e.b Od.NTS_STATUS.drbg_ok then
    let e := (e.set Od.NTS_STATUS.drbg_ok 0).orb Od.NTS_STATUS.sticky 128
    { e with nts := { e.nts with drbgStopped := some (x.st 0) } }.detect x 7 4 0
  else e

/-- A stopped DRBG tries again each second, and resumes after 1,024 good samples in a row (R178). -/
def Eng.drbgRetry (e : Eng) (x : Ctx) (good : Nat) : Eng :=
  match e.nts.drbgStopped with
  | none => e
  | some t =>
    if x.passed t unitsPerSec then
      if 1024 ≤ good then
        { e with nts := { e.nts with drbgStopped := none, drbgBlocks := 0 } }.set Od.NTS_STATUS.drbg_ok 1
      else { e with nts := { e.nts with drbgStopped := some (x.st 0) } }
    else e

/-! ## Extension fields (Table 6-3 step 7, RFC 7822) -/

/-- An extension field: its type, the offset of the field and its length. -/
structure ExtField where
  type : Nat
  off : Nat
  len : Nat
  deriving DecidableEq, Repr

/-- The walk from an offset: the fields, and the bytes left after them, or none when a length breaks the rules. -/
def walkFields (pl : Bytes) : Nat → Nat → Option (List ExtField × Nat)
  | 0, _ => none
  | f + 1, off =>
    let left := pl.length - off
    if left ≤ 24 then some ([], left)
    else
      let len := beAt pl (off + 2) 2
      if len % 4 ≠ 0 ∨ len < 16 ∨ left < len then none
      else match walkFields pl f (off + len) with
        | some (fs, r) => some (⟨beAt pl off 2, off, len⟩ :: fs, r)
        | none => none

/-- The fields of a payload that can be walked, with what remains: 0, 20 or 24 bytes. -/
def extFields (pl : Bytes) : Option (List ExtField × Nat) :=
  match walkFields pl (pl.length + 1) 48 with
  | some (fs, r) => if r = 0 ∨ r = 20 ∨ r = 24 then some (fs, r) else none
  | none => none

/-- The body of a field. -/
def ExtField.body (f : ExtField) (pl : Bytes) : Bytes := slice pl (f.off + 4) (f.len - 4)

/-- The payload is an NTS request: a Unique Identifier field among the fields walked (R166). -/
def isNts (pl : Bytes) : Bool :=
  match extFields pl with
  | some (fs, _) => fs.any (fun f => f.type == 0x0104)
  | none => false

/-! ## Checks on an NTS request (Table 8-2) -/

/-- What an NTS request holds once check 1 has passed. -/
structure NtsReq where
  uid : Bytes
  cookie : Bytes
  placeholders : Nat
  ad : Bytes
  nonce : Bytes
  cipher : Bytes
  deriving DecidableEq, Repr

/-- Check 1: the counts and lengths of Table 8-1, the Authenticator last, and its nonce and ciphertext lengths. -/
def ntsShape (pl : Bytes) : Option NtsReq :=
  match extFields pl with
  | some (fs, 0) =>
    let of_ (t : Nat) := fs.filter (fun f => f.type == t)
    match of_ 0x0104, of_ 0x0204, of_ 0x0404, fs.getLast? with
    | [u], [c], [a], some l =>
      let b := a.body pl
      let nl := beAt b 0 2
      let cl := beAt b 2 2
      let pad (n : Nat) := (n + 3) / 4 * 4
      if 36 ≤ u.len ∧ c.len = 96 ∧ l = a ∧ (of_ 0x0304).length ≤ 7 ∧ (of_ 0x0304).all (fun f => f.len == 96) ∧
          16 ≤ nl ∧ nl ≤ 64 ∧ 16 ≤ cl ∧ 4 + pad nl + pad cl ≤ b.length then
        some ⟨slice pl u.off u.len, c.body pl, (of_ 0x0304).length, pl.take a.off, slice b 4 nl, slice b (4 + pad nl) cl⟩
      else none
    | _, _, _, _ => none
  | _ => none

/-- The cookies of a response: one and one for each placeholder, at most max_cookies (R179). -/
def Eng.cookieCount (e : Eng) (q : NtsReq) : Nat := min (1 + q.placeholders) (e.n Od.NTS_GLOBAL.max_cookies)

/-- The AES blocks of an exchange in 1/256 block (Table 8-4). -/
def ntsCost (q : NtsReq) (n : Nat) : Nat :=
  let auth := 1 + ceilDiv q.ad.length 16 + ceilDiv q.nonce.length 16 + 1
  let resp := 1 + ceilDiv (48 + q.uid.length) 16 + 1 + 12 * n
  256 * (9 + auth + 6 * n + resp) + (2 + n) * 129

/-- The causes of Table 8-2. -/
inductive NtsCause where
  | malformed
  | cookieKey
  | cookieAuth
  | reqAuth
  | noKey
  | overload
  | encExt
  deriving DecidableEq, Repr

/-- A cause is counted in NTS_STATUS with its sticky bit (R189). -/
def Eng.ntsCount (e : Eng) (c : NtsCause) : Eng :=
  match c with
  | .malformed => (e.inc64 Od.NTS_STATUS.malformed).orb Od.NTS_STATUS.sticky 1
  | .cookieKey => (e.inc64 Od.NTS_STATUS.cookie_key).orb Od.NTS_STATUS.sticky 2
  | .cookieAuth => (e.inc64 Od.NTS_STATUS.cookie_auth).orb Od.NTS_STATUS.sticky 4
  | .reqAuth => (e.inc64 Od.NTS_STATUS.req_auth).orb Od.NTS_STATUS.sticky 8
  | .noKey => (e.inc64 Od.NTS_STATUS.no_key).orb Od.NTS_STATUS.sticky 16
  | .overload => (e.inc64 Od.NTS_STATUS.overload).orb Od.NTS_STATUS.sticky 32
  | .encExt => (e.inc64 Od.NTS_STATUS.enc_ext).orb Od.NTS_STATUS.sticky 64

/-- The causes that end in a NAK when one may be sent (R168). -/
def NtsCause.naks : NtsCause → Bool
  | .cookieKey => true
  | .cookieAuth => true
  | .reqAuth => true
  | _ => false

/-- What the checks leave of an NTS request. -/
inductive NtsOut where
  | fail (c : NtsCause)
  | ok (q : NtsReq) (keys : Bytes) (slot : Nat)
  deriving DecidableEq, Repr

/-- The budget window of a pipeline at a tick: the blocks already committed in it (R181). -/
def Eng.aesUsed (e : Eng) (x : Ctx) (p : Nat) : Nat :=
  if (e.pipe p).aesWindow = x.tick / 1024 then (e.pipe p).aesUsed else 0

/-- Commit AES blocks of a pipeline's window. -/
def Eng.aesCommit (e : Eng) (x : Ctx) (p cost : Nat) : Eng :=
  let u := e.aesUsed x p
  e.modPipe p (fun q => { q with aesWindow := x.tick / 1024, aesUsed := u + cost })

/-- Checks 5 to 7: the cookie's slot and generation, the cookie's opening, and the request's authentication. -/
def Eng.ntsOpen (e : Eng) (rx : Nat) (q : NtsReq) : NtsOut :=
  let s := byteAt q.cookie 0 % 16
  if byteAt q.cookie 0 / 16 ≠ 1 ∨ e.nAt (Od.NTS_SLOT.state s) rx = 0 ∨
      beAt q.cookie 1 3 ≠ e.nAt (Od.NTS_SLOT.generation s) rx % 2 ^ 24 then .fail .cookieKey
  else
    match sivOpen (leBytes 32 (e.nAt (Od.NTS_SLOT.key s) rx)) [q.cookie.take 12] (slice q.cookie 12 16)
        (q.cookie.drop 28) with
    | none => .fail .cookieAuth
    | some keys =>
      match sivOpen (keys.take 32) [q.ad, q.nonce] (q.cipher.take 16) [] with
      | none => .fail .reqAuth
      | some _ => .ok q keys s

/-- The checks of Table 8-2 in order, with the AES work committed at check 4. -/
def Eng.ntsCheck (e : Eng) (x : Ctx) (p rx : Nat) (pl : Bytes) : NtsOut × Eng :=
  match ntsShape pl with
  | none => (.fail .malformed, e)
  | some q =>
    if q.cipher.length ≠ 16 then (.fail .encExt, e)
    else if (e.currentAt rx).isNone || !e.b Od.NTS_STATUS.drbg_ok || !e.b Od.NTS_GLOBAL.enable then (.fail .noKey, e)
    else
      let cost := ntsCost q (e.cookieCount q)
      if 5280 * 256 < e.aesUsed x p + cost then (.fail .overload, e)
      else (e.ntsOpen rx q, e.aesCommit x p cost)

/-! ## Cookies and the response (R169, R170, R179) -/

/-- A cookie sealed under a slot (Table 8-3). -/
def Eng.sealCookie (e : Eng) (rx slot : Nat) (keys : Bytes) : Bytes × Eng :=
  let r := e.drbg 8
  let head := byte (16 + slot % 16) :: beBytes 3 (e.nAt (Od.NTS_SLOT.generation slot) rx % 2 ^ 24) ++ r.1
  let s := sivSeal (leBytes 32 (e.nAt (Od.NTS_SLOT.key slot) rx)) [head] keys
  (head ++ s.1 ++ s.2, r.2.inc64 (Od.NTS_SLOT.issued slot))

/-- An extension field of a type. -/
def extField (type : Nat) (body : Bytes) : Bytes := beBytes 2 type ++ beBytes 2 (body.length + 4) ++ body

/-- `n` cookie fields, each freshly sealed. -/
def Eng.sealCookies (e : Eng) (rx slot : Nat) (keys : Bytes) : Nat → Bytes × Eng
  | 0 => ([], e)
  | n + 1 =>
    let a := e.sealCookie rx slot keys
    let b := a.2.sealCookies rx slot keys n
    (extField 0x0204 a.1 ++ b.1, b.2)

/-- The payload of an NTS response: the header, the Unique Identifier field and the Authenticator (R179). -/
def Eng.ntsResponse (e : Eng) (rx : Nat) (header : Bytes) (q : NtsReq) (keys : Bytes) : Bytes × Eng :=
  let c := e.sealCookies rx ((e.currentAt rx).getD 0) keys (e.cookieCount q)
  let n := c.2.drbg 16
  let ad := header ++ q.uid
  let s := sivSeal (keys.drop 32) [ad, n.1] c.1
  (ad ++ extField 0x0404 (beBytes 2 16 ++ beBytes 2 (16 + c.1.length) ++ n.1 ++ s.1 ++ s.2), n.2)

/-! ## The commands -/

/-- NTS_SLOT_LOAD_LOCAL (R172). -/
def execNtsSlotLoadLocal (slot : Fin 16) (roles : Nat) (s : State) : Host.Outcome State Fault Refusal :=
  lift (fun x e => e.writeCmd x (Od.NTS_SLOT.command slot) 1 roles (slotCommand x slot 1)) s

/-- NTS_SLOT_LOAD_STATION (R176). -/
def execNtsSlotLoadStation (slot : Fin 16) (roles : Nat) (s : State) : Host.Outcome State Fault Refusal :=
  lift (fun x e => e.writeCmd x (Od.NTS_SLOT.command slot) 2 roles (slotCommand x slot 2)) s

/-- NTS_SLOT_LOAD_IMPORT (R172). -/
def execNtsSlotLoadImport (slot : Fin 16) (roles : Nat) (s : State) : Host.Outcome State Fault Refusal :=
  lift (fun x e => e.writeCmd x (Od.NTS_SLOT.command slot) 3 roles (slotCommand x slot 3)) s

/-- NTS_SLOT_MAKE_CURRENT (R173). -/
def execNtsSlotMakeCurrent (slot : Fin 16) (roles : Nat) (s : State) : Host.Outcome State Fault Refusal :=
  lift (fun x e => e.writeCmd x (Od.NTS_SLOT.command slot) 4 roles (slotCommand x slot 4)) s

/-- NTS_SLOT_RETIRE (R174). -/
def execNtsSlotRetire (slot : Fin 16) (roles : Nat) (s : State) : Host.Outcome State Fault Refusal :=
  lift (fun x e => e.writeCmd x (Od.NTS_SLOT.command slot) 5 roles (slotCommand x slot 5)) s

/-- SLOT_RETIRE_CHECK (R174), once each moon 0 second. -/
def execSlotRetireCheck (s : State) : Host.Outcome State Fault Refusal :=
  lift (fun x e => whenDue (e.retireDue x) (fun e => e.retireCheck x) e) s

/-- NTS_STATION_SEED_WRITE (R176). -/
def execNtsStationSeedWrite (seed roles : Nat) (s : State) : Host.Outcome State Fault Refusal :=
  lift (fun x e => e.writeCmd x Od.NTS_STATION.seed seed roles (seedWrite x seed)) s

/-- KEY_STORE_WRITE (R175), while a change waits: written, or failed on both copies. -/
def execKeyStoreWrite (good : Bool) (s : State) : Host.Outcome State Fault Refusal :=
  lift (fun x e => whenDue e.keyWait.since.isSome (fun e => e.keyStore x good) e) s

/-- DRBG_RESEED (R178). -/
def execDrbgReseed (healthy : Bool) (s : State) : Host.Outcome State Fault Refusal :=
  lift (fun x e => e.drbgReseed x healthy) s

/-- DRBG_RETRY (R178): a try that saw `good` consecutive good samples. -/
def execDrbgRetry (good : Nat) (s : State) : Host.Outcome State Fault Refusal :=
  lift (fun x e => e.drbgRetry x good) s

end Sys2Proof.Machine
end

