-- ==== Sys2Proof/Machine/Pk.lean ====
section
/-! DEFINITION. The public-key engine (spec/15_public_key_engine.md R307 to R323): slots and operand memory, the structure of a
command, dispatch, validation, execution, aborts, key handles and the host's completion records. -/

namespace Sys2Proof.Machine

/-! ## Slots (R307 to R309) -/

/-- The region of a slot as (first word, words, number): 0 FIRMWARE, 1 HOST, 2 GNSS (R307). -/
def pkRegion (s : Nat) : Nat × Nat × Nat :=
  if s < 512 then (0, 16384, 0) else if s < 960 then (16384, 12288, 1) else (28672, 4096, 2)

/-- The region whose slots a queue may name. -/
def pkQueueRegion (q : Nat) : Nat := if q = 3 then 1 else if q = 2 then 2 else 0

/-- The words of a region. -/
def pkRegionWords (r : Nat) : Nat := if r = 0 then 16384 else if r = 1 then 12288 else 4096

/-- The length of a slot in words, 0 when it is undefined. -/
def Eng.pkLen (e : Eng) (s : Nat) : Nat := if s < 1024 then e.n (Od.PK_SLOT.length s) else 0

/-- The first word of a slot in the operand memory. -/
def Eng.pkBase (e : Eng) (s : Nat) : Nat := (pkRegion s).1 + e.n (Od.PK_SLOT.base s)

/-- A word of the operand memory. -/
def Pk.word (p : Pk) (a : Nat) : Nat := tgetD p.mem a 0

/-- Write a word, keeping the canonical form: a zero word is not listed. -/
def Pk.setWord (p : Pk) (a v : Nat) : Pk :=
  { p with
    mem := if v % 2 ^ 64 = 0 then tdel p.mem a else tput p.mem a (v % 2 ^ 64)
    bad := p.bad.filter (fun b => b != a) }

/-- The integer of `n` words from `a`, least significant first (R307). -/
def Pk.read (p : Pk) : Nat → Nat → Nat
  | _, 0 => 0
  | a, n + 1 => p.word a + 2 ^ 64 * p.read (a + 1) n

/-- Write an integer into `n` words from `a`. -/
def Pk.write (p : Pk) : Nat → Nat → Nat → Pk
  | _, 0, _ => p
  | a, n + 1, v => (p.setWord a v).write (a + 1) n (v / 2 ^ 64)

/-- The operand in a slot. -/
def Eng.pkVal (e : Eng) (s : Nat) : Nat := e.pk.read (e.pkBase s) (e.pkLen s)

/-- Write an operand into a slot. -/
def Eng.pkPut (e : Eng) (s v : Nat) : Eng := { e with pk := e.pk.write (e.pkBase s) (e.pkLen s) v }

/-! ## The structure of a command (R311, Table 15-2) -/

/-- What a use of an operand asks of its slot's length: the width w of the operation, half of it, a fixed width, any, or room
for the message. -/
inductive PkWidth where
  | w
  | half
  | fix (n : Nat)
  | any
  | msg
  deriving DecidableEq, Repr

/-- The operands an operation uses: 0 dst0, 1 dst1, 2 + i source i. `key` says that a key stands for source 0. -/
def pkUses (op : Nat) (key : Bool) : List (Nat × PkWidth) :=
  match op with
  | 1 => [(2, .w), (3, .w), (4, .w), (0, .w)]
  | 2 => [(2, .w), (3, .w), (4, .w), (0, .w)]
  | 3 => [(2, .w), (3, .w), (4, .w), (0, .w)]
  | 4 => [(2, .w), (3, .any), (4, .w), (0, .w)]
  | 5 => [(2, .w), (3, .any), (4, .w), (0, .w)]
  | 6 => [(2, .w), (4, .w), (0, .w)]
  | 7 => [(2, .w), (3, .w), (4, .half), (5, .half), (6, .half), (7, .half), (8, .half), (0, .w)]
  | 8 => (if key then [] else [(2, .fix 4)]) ++ [(3, .fix 4), (0, .fix 4)]
  | 9 => (if key then [] else [(2, .fix 4)]) ++ [(3, .msg), (0, .fix 4), (1, .fix 4)]
  | 10 => [(2, .fix 4), (3, .fix 4), (4, .fix 4), (5, .msg)]
  | 11 => (if key then [] else [(2, .fix 4)]) ++ [(3, .fix 4), (0, .fix 4), (1, .fix 4)]
  | 12 => [(2, .fix 4), (3, .fix 4), (4, .fix 4), (5, .fix 4), (6, .fix 4)]
  | 13 => [(2, .fix 6), (3, .fix 6), (4, .fix 6), (5, .fix 6), (6, .fix 6)]
  | 14 => [(2, .fix 9), (3, .fix 9), (4, .fix 9), (5, .fix 9), (6, .fix 9)]
  | 15 => [(0, .fix 4), (1, .fix 4)]
  | 16 => [(0, .fix 4)]
  | 17 => [(0, .fix 4)]
  | 32 => [(0, .any)]
  | 33 => [(2, .w), (0, .w)]
  | _ => []

/-- The operation codes of Table 15-2. -/
def pkOpExists (op : Nat) : Bool := (1 ≤ op && op ≤ 17) || (32 ≤ op && op ≤ 34)

/-- The key type a command of an operation may name: 1 P256, 2 ED25519, 3 X25519, 0 none (R318). -/
def pkKeyType (op : Nat) : Nat :=
  match op with
  | 8 => 3
  | 9 => 2
  | 11 => 1
  | 15 => 1
  | 16 => 2
  | 17 => 3
  | _ => 0

/-- A key generation. -/
def pkKeygen (op : Nat) : Bool := 15 ≤ op && op ≤ 17

/-- The slot a command names for an operand. -/
def pkSlotOf (c : PkCmd) (i : Nat) : Nat :=
  match i with
  | 0 => c.dst0
  | 1 => c.dst1
  | i + 2 => c.src.getD i 0xFFFF

/-- The width w of a command: that of its first operand of width w, or the curve's. -/
def Eng.pkW (e : Eng) (op : Nat) (c : PkCmd) : Nat :=
  match (pkUses op (c.key != 0xFF)).find? (fun u => u.2 == .w || u.2 == .any || (match u.2 with | .fix _ => true | _ => false)) with
  | some (i, _) => e.pkLen (pkSlotOf c i)
  | none => 0

/-- A slot's length meets its use. -/
def Eng.pkFits (e : Eng) (w : Nat) (c : PkCmd) (u : Nat × PkWidth) : Bool :=
  let l := e.pkLen (pkSlotOf c u.1)
  match u.2 with
  | .w => l == w
  | .half => 2 * l == w
  | .fix n => l == n
  | .any => true
  | .msg => c.msgLen ≤ 1024 && c.msgLen ≤ 8 * l

/-- A handle is open to a queue (R318). -/
def pkOpen (q h : Nat) : Bool := q == 0 || q == 1 || (q == 3 && 8 ≤ h)

/-- The checks of R311 in their order. -/
def Eng.pkCheck (e : Eng) (q op : Nat) (c : PkCmd) : Nat :=
  let key := c.key != 0xFF
  let uses := pkUses op key
  let keyOk :=
    if !key then !pkKeygen op
    else
      let held := e.n (Od.PK_KEY.type c.key)
      pkKeyType op != 0 && c.key < 16 && pkOpen q c.key && held == (if pkKeygen op then 0 else pkKeyType op)
  if !pkOpExists op then stRange
  else if !(List.range 9).all (fun i =>
      let s := pkSlotOf c i
      if uses.any (fun u => u.1 == i) then e.pkLen s != 0 && (pkRegion s).2.2 == pkQueueRegion q else s == 0xFFFF) then stSlot
  else if !uses.all (e.pkFits (e.pkW op c) c) then stLength
  else if !keyOk then stKey
  else stOk

/-- The slots of a region that are defined. -/
def Eng.pkRegionSlots (e : Eng) (r : Nat) : List Nat :=
  (listed e.od 0x50 0x400 1024 1 2).filter (fun s => (pkRegion s).2.2 == r)

/-- The destinations of a command; a CLEAR_REGION's are every slot of its region. -/
def Eng.pkDests (e : Eng) (j : PkJob) : List Nat :=
  if j.op = 34 then e.pkRegionSlots (pkQueueRegion j.queue)
  else ((pkUses j.op (j.cmd.key != 0xFF)).filter (fun u => u.1 ≤ 1)).map (fun u => pkSlotOf j.cmd u.1)

/-- Every slot a command names. -/
def Eng.pkSlots (e : Eng) (j : PkJob) : List Nat :=
  if j.op = 34 then e.pkRegionSlots (pkQueueRegion j.queue)
  else (pkUses j.op (j.cmd.key != 0xFF)).map (fun u => pkSlotOf j.cmd u.1)

/-- The commands in the units. -/
def Pk.running (p : Pk) : List PkJob := p.units.filterMap (fun u => u.run.map (fun r => r.job))

/-- The commands queued or running. -/
def Pk.jobs (p : Pk) : List PkJob := p.queues.flatten ++ p.running

/-- A slot is IN_USE (R308). -/
def Eng.pkInUse (e : Eng) (s : Nat) : Bool := e.pk.jobs.any (fun j => (e.pkSlots j).contains s)

/-- The commands of queue `q`. -/
def Pk.queue (p : Pk) (q : Nat) : List PkJob := nth p.queues q []

/-- The queue takes no more (R310). -/
def Pk.full (p : Pk) (q : Nat) : Bool :=
  if q = 3 then 64 ≤ (p.queue 3).length + (p.running.filter (fun j => j.queue == 3)).length + p.done.length
  else 64 ≤ (p.queue q).length

/-- Submit a command to a queue: its structure, then room (R310, R311). -/
def pkSubmit (x : Ctx) (q op : Nat) (c : PkCmd) (e : Eng) : WriteRes :=
  let st := e.pkCheck q op c
  if st ≠ stOk then (st, e)
  else if e.pk.full q then (stFull, e)
  else
    let j : PkJob := ⟨op, q, e.pk.seq, x.tick, c⟩
    (stOk, { e with pk := { e.pk with queues := modNth e.pk.queues q (fun l => l ++ [j]), seq := e.pk.seq + 1 } })

/-! ## Timing (R313, R314) -/

/-- M(w). -/
def pkM (w : Nat) : Nat := ceilDiv (2 * w * w) 9 + 16

/-- V of Table 15-2. -/
def pkV (op w : Nat) : Nat :=
  match op with
  | 7 => 32 + 2 * w
  | 8 => 32
  | 9 => 32
  | 10 => 10844
  | 11 => 40
  | 12 => 176
  | 13 => 212
  | 14 => 290
  | 15 => 32
  | 16 => 32
  | 17 => 32
  | 32 => 0
  | 33 => 0
  | 34 => 0
  | _ => 32 + 3 * w

/-- The 64-bit words of the exponent's slot. -/
def Eng.pkExpWords (e : Eng) (c : PkCmd) : Nat := e.pkLen (pkSlotOf c 3)

/-- T of Table 15-2. -/
def Eng.pkT (e : Eng) (j : PkJob) : Nat :=
  let w := e.pkW j.op j.cmd
  let v := pkV j.op w
  let m := pkM w
  match j.op with
  | 3 => v + 3 * m + w
  | 4 => v + 128 * e.pkExpWords j.cmd * m + 2 * m
  | 5 =>
    let bits := 64 * e.pkExpWords j.cmd
    let x := e.pkVal (pkSlotOf j.cmd 3)
    v + (bitLen bits x + popcount bits x + 2) * m
  | 6 => v + 128 * w * m + 2 * m
  | 7 => v + 128 * w * pkM (w / 2) + pkM (w / 2) + ceilDiv (w * w) 8
  | 8 => 20000
  | 9 => 24000 + 600 * (j.cmd.msgLen / 128)
  | 10 => 56000 + 300 * (j.cmd.msgLen / 128)
  | 11 => 40000
  | 12 => 100000
  | 13 => 210000
  | 14 => 450000
  | 15 => 36000
  | 16 => 20000
  | 17 => 20000
  | 32 => 8 + w
  | 33 => 8 + w
  | 34 => 8 + pkRegionWords (pkQueueRegion j.queue)
  | _ => v + 2 * w + 8

/-- The ticks that hold a number of core clock cycles: 3 cycles to 2 ticks. -/
def pkTicks (cycles : Nat) : Nat := ceilDiv (2 * cycles) 3

/-- The multiplication time of a command (R314). -/
def Eng.pkMul (e : Eng) (j : PkJob) : Nat :=
  let w := e.pkW j.op j.cmd
  pkM (if j.op = 7 then w / 2 else w)

/-! ## Validation (R313, R316) -/

/-- Value checks of one operand, as the status of the first that fails: ZERO, ONE, EVEN_MODULUS, RANGE below a modulus. -/
def pkModulus (m : Nat) : Nat := if m = 0 then 1 else if m = 1 then 2 else if m % 2 = 0 then 3 else 0

/-- The first status that is not OK. -/
def firstFail (l : List Nat) : Nat := (l.find? (fun s => s != 0)).getD 0

/-- RANGE when a value is not below a bound. -/
def pkRange (v bound : Nat) : Nat := if bound ≤ v then 4 else 0

/-- ZERO when a value is zero. -/
def pkZero (v : Nat) : Nat := if v = 0 then 1 else 0

/-- EVEN_MODULUS when a value is even. -/
def pkEven (v : Nat) : Nat := if v % 2 = 0 then 3 else 0

/-- The checks of an ECDSA verification, against the status of Q OFF_CURVE (5). -/
def pkEcdsaChecks (c : Curve) (v : Nat → Nat) : List Nat :=
  [pkRange (v 2) c.p, pkRange (v 3) c.p, if c.on (v 2) (v 3) then 0 else 5, pkZero (v 5), pkRange (v 5) c.n,
    pkZero (v 6), pkRange (v 6) c.n]

/-- The curve of an operation. -/
def pkCurve (op : Nat) : Curve := if op = 13 then curveP384 else if op = 14 then curveP521 else curveP256

/-- The private operand of operations 8, 9 and 11: a key's, or source 0. -/
def Eng.pkSecret (e : Eng) (c : PkCmd) : Nat :=
  if c.key = 0xFF then e.pkVal (pkSlotOf c 2) else tgetD e.pk.priv c.key 0

/-- The first failing check of a command, 0 when every check passes (Table 15-2). -/
def Eng.pkValidate (e : Eng) (op : Nat) (c : PkCmd) : Nat :=
  let v (i : Nat) : Nat := e.pkVal (pkSlotOf c i)
  let m := v 4
  match op with
  | 4 => firstFail [pkModulus m, pkZero (v 2), if v 2 = 1 then 2 else 0, pkRange (v 2) m]
  | 5 => firstFail [pkModulus m, pkZero (v 2), if v 2 = 1 then 2 else 0, pkRange (v 2) m]
  | 6 => firstFail [pkModulus m, pkZero (v 2), pkRange (v 2) m]
  | 7 => firstFail [pkEven (v 4), pkEven (v 5), pkZero (v 2), if v 2 = 1 then 2 else 0, pkRange (v 2) (v 3)]
  | 10 =>
    let off (a : Nat) : Nat := if (edDecode a).isSome then 0 else 5
    firstFail [pkRange (v 2 % 2 ^ 255) p25519, off (v 2), pkRange (v 3 % 2 ^ 255) p25519, off (v 3), pkRange (v 4) edL]
  | 11 => firstFail [pkZero (e.pkSecret c), pkRange (e.pkSecret c) curveP256.n]
  | 12 => firstFail (pkEcdsaChecks curveP256 v)
  | 13 => firstFail (pkEcdsaChecks curveP384 v)
  | 14 => firstFail (pkEcdsaChecks curveP521 v)
  | op => if op ≤ 3 then firstFail [pkModulus m, pkRange (v 2) m, pkRange (v 3) m] else 0

/-- Operations that draw from the DRBG (R316). -/
def pkDraws (op : Nat) : Bool := op == 11 || pkKeygen op

/-- A sealed operation (R318). -/
def pkSealed (j : PkJob) : Bool := j.cmd.key != 0xFF || j.op == 9 || j.op == 11 || pkKeygen j.op

/-! ## Execution -/

/-- What a command writes: its status, its destinations' values, and a key as (type, public, private). -/
structure PkOut where
  status : Nat
  dst : List Nat
  key : Option (Nat × Nat × Nat)
  deriving DecidableEq, Repr

/-- A result of one destination. -/
def pkOne (v : Nat) : PkOut := ⟨0, [v], none⟩

/-- A verification's result. -/
def pkVerdict (ok : Bool) : PkOut := ⟨if ok then 0 else 6, [], none⟩

/-- RSA by the Chinese remainder theorem. -/
def rsaCrt (h c p q dp dq qinv : Nat) : Nat :=
  let m1 := powMod p (c % p) (64 * h) dp
  let m2 := powMod q (c % q) (64 * h) dq
  m2 + qinv * subMod p m1 m2 % p * q

/-- The result of a command whose checks have passed; `r1` and `r2` are what it draws from the DRBG. -/
def Eng.pkResult (e : Eng) (j : PkJob) (r1 r2 : Nat) : PkOut :=
  let c := j.cmd
  let v (i : Nat) : Nat := e.pkVal (pkSlotOf c i)
  let w := e.pkW j.op c
  let msg (i : Nat) : Bytes := (leBytes (8 * e.pkLen (pkSlotOf c i)) (v i)).take c.msgLen
  match j.op with
  | 1 => pkOne ((v 2 + v 3) % v 4)
  | 2 => pkOne (subMod (v 4) (v 2) (v 3))
  | 3 => pkOne (v 2 * v 3 % v 4)
  | 4 => pkOne (powMod (v 4) (v 2) (64 * e.pkExpWords c) (v 3))
  | 5 => pkOne (powMod (v 4) (v 2) (64 * e.pkExpWords c) (v 3))
  | 6 => pkOne (powMod (v 4) (v 2) (64 * w) (v 4 - 2))
  | 7 => pkOne (rsaCrt (w / 2) (v 2) (v 4) (v 5) (v 6) (v 7) (v 8))
  | 8 =>
    let u := x25519 (e.pkSecret c) (v 3)
    ⟨if u = 0 then 7 else 0, [u], none⟩
  | 9 =>
    let s := edSign (e.pkSecret c) (msg 3)
    ⟨0, [s.1, s.2], none⟩
  | 10 => pkVerdict (edVerify (v 2) (v 3) (v 4) (msg 5))
  | 11 =>
    let n := curveP256.n
    let s := curveP256.sign (e.pkSecret c) (v 3) (1 + r1 % (n - 1))
    let s := if s.1 = 0 ∨ s.2 = 0 then curveP256.sign (e.pkSecret c) (v 3) (1 + r2 % (n - 1)) else s
    ⟨0, [s.1, s.2], none⟩
  | 12 => pkVerdict (curveP256.verify (v 2) (v 3) (v 4) (v 5) (v 6))
  | 13 => pkVerdict (curveP384.verify (v 2) (v 3) (v 4) (v 5) (v 6))
  | 14 => pkVerdict (curveP521.verify (v 2) (v 3) (v 4) (v 5) (v 6))
  | 15 =>
    let d := 1 + r1 % (curveP256.n - 1)
    let q := (curveP256.base d).getD (0, 0)
    ⟨0, [q.1, q.2], some (1, leNat ([4] ++ beBytes 32 q.1 ++ beBytes 32 q.2), d)⟩
  | 16 =>
    let d := r1 % 2 ^ 256
    ⟨0, [edPublic d], some (2, edPublic d, d)⟩
  | 17 =>
    let d := r1 % 2 ^ 256
    ⟨0, [x25519 d 9], some (3, x25519 d 9, d)⟩
  | 33 => pkOne (v 2)
  | _ => ⟨0, [], none⟩

/-- Change unit `u`. -/
def Eng.modPkUnit (e : Eng) (u : Nat) (f : PkUnit → PkUnit) : Eng := { e with pk := { e.pk with units := modNth e.pk.units u f } }

/-- A command has ended: its event, its queue's counters, the sticky bits and, for the host, its record and source 225. -/
def Eng.pkEnded (e : Eng) (x : Ctx) (j : PkJob) (status cycles doneTick : Nat) : Eng :=
  let e := e.count x 0xB1D
  let e :=
    if status = 9 then e.inc64 (Od.PK_Q.aborted j.queue)
    else if (1 ≤ status ∧ status ≤ 5) ∨ status = 8 then e.inc64 (Od.PK_Q.refused j.queue)
    else e.inc64 (Od.PK_Q.completed j.queue)
  let e := match status with
    | 8 => e.orb Od.PK_STATUS.sticky 8
    | 10 => e.orb Od.PK_STATUS.sticky 2
    | 11 => e.orb Od.PK_STATUS.sticky 1
    | _ => e
  if j.queue = 3 then
    { e with pk := { e.pk with done := e.pk.done ++ [PkDone.mk j.cmd.tag j.op status cycles j.submitTick doneTick] } }.irqPoke x 225
  else e

/-- The unit's command ends at a number of cycles from dispatch. -/
def Eng.pkFinish (e : Eng) (x : Ctx) (u : Nat) (r : PkRun) (status cycles : Nat) : Eng :=
  (e.modPkUnit u (fun p => { p with run := none })).pkEnded x r.job status cycles (r.at_ + pkTicks cycles)

/-- Set or clear the DIRTY flag of slots. -/
def Eng.pkDirty (e : Eng) (ss : List Nat) (v : Int) : Eng := ss.foldl (fun e s => e.set (Od.PK_SLOT.dirty s) v) e

/-- Fill a key handle (R318). -/
def Eng.pkFill (e : Eng) (x : Ctx) (h : Nat) (k : Nat × Nat × Nat) : Eng :=
  let e := (e.set (Od.PK_KEY.type h) (k.1 : Nat)).set (Od.PK_KEY.public_ h) (k.2.1 : Nat)
  ({ e with pk := { e.pk with priv := tput e.pk.priv h k.2.2 } }).keyTouched x

/-- Thirty-two bytes of the DRBG, twice, for an operation that draws. -/
def Eng.pkDrawn (e : Eng) (op : Nat) : Nat × Nat × Eng :=
  if pkDraws op then
    let a := e.drbg 32
    let b := a.2.drbg 32
    (leNat a.1, leNat b.1, b.2)
  else (0, 0, e)

/-- The cycles of a command: T, and T − V more when an ECDSA nonce gives r = 0 or s = 0 (R315). -/
def Eng.pkCycles (e : Eng) (j : PkJob) : Nat :=
  let t := e.pkT j
  let s := curveP256.sign (e.pkSecret j.cmd) (e.pkVal (pkSlotOf j.cmd 3)) (1 + (e.pkDrawn j.op).1 % (curveP256.n - 1))
  if j.op = 11 ∧ (s.1 = 0 ∨ s.2 = 0) then t + (t - pkV 11 4) else t

/-- A command completes: destinations are written and their DIRTY flags cleared (R317). -/
def Eng.pkComplete (e : Eng) (x : Ctx) (u : Nat) (r : PkRun) : Eng :=
  let j := r.job
  let t := e.pkCycles j
  let dr := e.pkDrawn j.op
  let o := e.pkResult j dr.1 dr.2.1
  let e := dr.2.2
  let ds := e.pkDests j
  let e := if j.op = 32 ∨ j.op = 34 then ds.foldl (fun e s => e.pkPut s 0) e
    else (ds.zip o.dst).foldl (fun e p => e.pkPut p.1 p.2) e
  let e := e.pkDirty ds 0
  let e := match o.key with
    | some k => e.pkFill x j.cmd.key k
    | none => e
  e.pkFinish x u r o.status t

/-- What a stopped unsealed operation leaves in its destinations (R320): its working values, which the manual does not give;
the first half of an RSA_CRT's is c^dp mod p once the first exponentiation is done. -/
def Eng.pkPartial (e : Eng) (j : PkJob) (cycles : Nat) : Eng :=
  (e.pkDests j).foldl (fun e s =>
    let l := e.pkLen s
    let w := e.draw (2 ^ (64 * l))
    let h := l / 2
    let v :=
      if j.op = 7 ∧ pkV 7 l + 128 * h * pkM h ≤ cycles then
        let p := e.pkVal (pkSlotOf j.cmd 4)
        powMod p (e.pkVal (pkSlotOf j.cmd 2) % p) (64 * h) (e.pkVal (pkSlotOf j.cmd 6)) + w / 2 ^ (64 * h) * 2 ^ (64 * h)
      else w
    (e.pkPut s v).drawn) e

/-- A command stops (R319, R320, R322): in execution every destination is DIRTY, and an unsealed operation leaves its working
values there. -/
def Eng.pkStop (e : Eng) (x : Ctx) (u : Nat) (r : PkRun) (status cycles : Nat) : Eng :=
  let e := if r.executing then
      let f := if pkSealed r.job then e else e.pkPartial r.job cycles
      f.pkDirty (e.pkDests r.job) 1
    else e
  e.pkFinish x u r status cycles

/-- A residue check fails (R322): the second within 2^30 ticks takes the unit out of service. -/
def Eng.pkFault (e : Eng) (x : Ctx) (u : Nat) (r : PkRun) (cycles : Nat) : Eng :=
  let again := match (nth e.pk.units u ⟨none, none, false⟩).faultAt with
    | some t => decide (x.tick < t + 2 ^ 30)
    | none => false
  let e := (e.pkStop x u r 11 cycles).detect x 14 1 u
  let e := e.modPkUnit u (fun p => { p with faultAt := some x.tick, out := p.out || again })
  if again then (e.set Od.PK_STATUS.units_in_service (e.i Od.PK_STATUS.units_in_service - 1)).orb Od.PK_STATUS.sticky 4 else e

/-! ## Dispatch (R312) -/

/-- The head of a queue is dispatchable. -/
def Eng.pkReady (e : Eng) (q : Nat) : Bool :=
  match e.pk.queue q with
  | [] => false
  | j :: _ =>
    let ss := e.pkSlots j
    let ds := e.pkDests j
    e.pk.running.all (fun k => (e.pkDests k).all (fun d => !ss.contains d) && (e.pkSlots k).all (fun s => !ds.contains s))

/-- The queue whose turn it is: the present one while its weight lasts, or the next that is dispatchable. -/
def Eng.pkTurn (e : Eng) : Option Nat :=
  let order := (List.range 4).map (fun i => (e.pk.turn + (if e.pk.credit = 0 then 1 else 0) + i) % 4)
  order.find? (fun q => e.pkReady q)

/-- A free unit takes the next command. -/
def Eng.pkDispatch (e : Eng) (x : Ctx) : Eng :=
  match e.pk.units.findIdx? (fun u => u.run.isNone && !u.out), e.pkTurn with
  | some u, some q =>
    (match e.pk.queue q with
     | [] => e
     | j :: rest =>
       let credit := (if q = e.pk.turn ∧ e.pk.credit ≠ 0 then e.pk.credit else e.n (Od.PK_Q.weight q)) - 1
       let e := { e with pk := { e.pk with queues := setNth e.pk.queues q rest, turn := q, credit := credit } }
       e.modPkUnit u (fun p => { p with run := some (PkRun.mk j x.tick (pkV j.op (e.pkW j.op j.cmd) == 0)) }))
  | _, _ => e

/-- The command in unit `u`. -/
def Eng.pkRun (e : Eng) (u : Nat) : Option PkRun := (nth e.pk.units u ⟨none, none, false⟩).run

/-- At V cycles the unit reports the first failing check, or starts execution (R316). -/
def Eng.pkValidated (e : Eng) (x : Ctx) (u : Nat) : Eng :=
  match e.pkRun u with
  | none => e
  | some r =>
    let v := pkV r.job.op (e.pkW r.job.op r.job.cmd)
    if r.executing ∨ x.tick < r.at_ + pkTicks v then e
    else
      let f := e.pkValidate r.job.op r.job.cmd
      let f := if f = 0 ∧ pkDraws r.job.op ∧ e.nts.drbgStopped.isSome then 8 else f
      if f ≠ 0 then e.pkFinish x u r f v else e.modPkUnit u (fun p => { p with run := some { r with executing := true } })

/-- The end of a unit's command: at T cycles, or where an error stops it. -/
def Eng.pkEnd (e : Eng) (x : Ctx) (u : Nat) (how : PkEnd) : Eng :=
  match e.pkRun u with
  | none => e
  | some r =>
    match how with
    | .full => if r.executing && r.at_ + pkTicks (e.pkCycles r.job) ≤ x.tick then e.pkComplete x u r else e
    | .ecc w c =>
      let e := { e with pk := { e.pk with bad := w :: e.pk.bad.filter (fun b => b != w) } }
      (e.pkStop x u r 10 (min c (e.pkT r.job))).detect x 14 3 0
    | .fault c => e.pkFault x u r (min c (e.pkT r.job))

/-! ## Aborts (R319) -/

/-- Nothing to abort: counted. -/
def Eng.pkMissed (e : Eng) (q : Nat) : Eng := (e.inc32 (Od.PK_Q.abort_missed q)).orb Od.PK_STATUS.sticky 16

/-- The cycles at which an abort stops a command: at the end of the current multiplication, or, in validation, of a step
whose length the manual does not give. -/
def Eng.pkStopAt (e : Eng) (x : Ctx) (r : PkRun) : Nat :=
  let c := (x.tick - r.at_) * 3 / 2
  let v := pkV r.job.op (e.pkW r.job.op r.job.cmd)
  if r.executing then
    if 32 ≤ r.job.op then c else v + ceilDiv (c - v) (e.pkMul r.job) * e.pkMul r.job
  else min v (c + e.draw (v + 1))

/-- Abort the oldest queued or running command of a queue that carries a tag. -/
def Eng.pkAbort (e : Eng) (x : Ctx) (q tag : Nat) : Eng :=
  let hits := e.pk.jobs.filter (fun j => j.queue == q && j.cmd.tag == tag)
  match hits.foldl (fun b j => match b with | none => some j | some k => if j.seq < k.seq then some j else b) none with
  | none => e.pkMissed q
  | some j =>
    match e.pk.units.findIdx? (fun u => match u.run with | some r => r.job.seq == j.seq | none => false) with
    | none =>
      { e with pk := { e.pk with queues := modNth e.pk.queues q (fun l => l.filter (fun k => k.seq != j.seq)) } }.pkEnded
        x j 9 0 x.tick
    | some u =>
      match e.pkRun u with
      | none => e
      | some r =>
        let limit := if r.executing then e.pkT j else pkV j.op (e.pkW j.op j.cmd)
        if r.at_ + pkTicks limit ≤ x.tick then e.pkMissed q
        else (e.pkStop x u r 9 (min (e.pkStopAt x r) (e.pkT j))).drawn

/-! ## Dictionary writes of area 50 -/

/-- The values of a PK_HOST_CMD record. -/
def pkHostSubmit (x : Ctx) (vs : List (Key × Int)) (e : Eng) : WriteRes :=
  let n (i : Nat) : Nat := ((vs.getD i (0, 0)).2).toNat
  if vs.length ≠ 13 then (stWhole, e)
  else pkSubmit x 3 (n 0) ⟨n 1, n 2, n 3, (List.range 7).map (fun i => n (4 + i)), n 11, n 12⟩ e

/-- The values of a command record, in the order of Table 15-1. -/
def pkCmdValues (op : Nat) (c : PkCmd) : List Int :=
  [(op : Int), c.tag, c.dst0, c.dst1] ++ (List.range 7).map (fun i => ((c.src.getD i 0xFFFF : Nat) : Int)) ++ [(c.key : Int), c.msgLen]

/-- A definition of a slot (R307, R308); `owner` is the region's own, beside the dictionary. -/
def pkSlotWrite (owner : Bool) (s : Nat) (vs : List (Key × Int)) (e : Eng) : WriteRes :=
  let f := e.setAll vs
  let b := f.n (Od.PK_SLOT.base s)
  let l := f.pkLen s
  let rg := pkRegion s
  let clash := (e.pkRegionSlots rg.2.2).any (fun t =>
    t != s && l != 0 && b < e.n (Od.PK_SLOT.base t) + e.pkLen t && e.n (Od.PK_SLOT.base t) < b + l)
  if owner == (rg.2.2 == 1) then (stDenied, e)
  else if e.pkInUse s then (stInUse, e)
  else if rg.2.1 < b + l ∨ 128 < l then (stRange, e)
  else if clash then (stOverlap, e)
  else (stOk, f)

/-- A write of a slot's data: its first 8 × length bytes (R323). -/
def pkDataWrite (owner : Bool) (s : Nat) (v : Int) (e : Eng) : WriteRes :=
  if owner == ((pkRegion s).2.2 == 1) then (stDenied, e)
  else if e.pkInUse s then (stInUse, e)
  else (stOk, (e.pkPut s v.toNat).set (Od.PK_SLOT.dirty s) 0)

/-- A write of pop: 1 discards the oldest record. -/
def pkPopWrite (v : Int) (e : Eng) : WriteRes :=
  (stOk, if v = 1 then { e with pk := { e.pk with done := e.pk.done.drop 1 } } else e)

/-- ERASE (R318, R323). -/
def pkErase (x : Ctx) (h : Nat) (e : Eng) : WriteRes :=
  if h < 8 then (stDenied, e)
  else if e.pk.jobs.any (fun j => j.cmd.key == h) then (stInUse, e)
  else
    let e := (e.set (Od.PK_KEY.type h) 0).set (Od.PK_KEY.public_ h) 0
    (stOk, ({ e with pk := { e.pk with priv := tdel e.pk.priv h } }).keyTouched x)

/-! ## The commands -/

/-- A submission: by host software through PK_HOST_CMD, or by the owner of another queue. -/
def pkCommand (op : Nat) (queue : Fin 4) (cmd : PkCmd) (roles : Nat) (s : State) : Host.Outcome State Fault Refusal :=
  lift (fun x e =>
    if queue = 3 then e.recCmd x 0x50 0x020 (.whole (pkCmdValues op cmd)) roles (pkHostSubmit x)
    else
      let w := pkSubmit x queue op cmd e
      { w.2 with resp := ⟨w.1, x.tick, 0, []⟩ }) s

/-- MODADD: submission of operation 1 (R313). -/
def execModadd (queue : Fin 4) (cmd : PkCmd) (roles : Nat) (s : State) : Host.Outcome State Fault Refusal :=
  pkCommand 1 queue cmd roles s

/-- MODSUB: submission of operation 2 (R313). -/
def execModsub (queue : Fin 4) (cmd : PkCmd) (roles : Nat) (s : State) : Host.Outcome State Fault Refusal :=
  pkCommand 2 queue cmd roles s

/-- MODMUL: submission of operation 3 (R313). -/
def execModmul (queue : Fin 4) (cmd : PkCmd) (roles : Nat) (s : State) : Host.Outcome State Fault Refusal :=
  pkCommand 3 queue cmd roles s

/-- MODEXP: submission of operation 4 (R313). -/
def execModexp (queue : Fin 4) (cmd : PkCmd) (roles : Nat) (s : State) : Host.Outcome State Fault Refusal :=
  pkCommand 4 queue cmd roles s

/-- MODEXP_PUB: submission of operation 5 (R313). -/
def execModexpPub (queue : Fin 4) (cmd : PkCmd) (roles : Nat) (s : State) : Host.Outcome State Fault Refusal :=
  pkCommand 5 queue cmd roles s

/-- MODINV: submission of operation 6 (R313). -/
def execModinv (queue : Fin 4) (cmd : PkCmd) (roles : Nat) (s : State) : Host.Outcome State Fault Refusal :=
  pkCommand 6 queue cmd roles s

/-- RSA_CRT: submission of operation 7 (R313). -/
def execRsaCrt (queue : Fin 4) (cmd : PkCmd) (roles : Nat) (s : State) : Host.Outcome State Fault Refusal :=
  pkCommand 7 queue cmd roles s

/-- X25519: submission of operation 8 (R313). -/
def execX25519 (queue : Fin 4) (cmd : PkCmd) (roles : Nat) (s : State) : Host.Outcome State Fault Refusal :=
  pkCommand 8 queue cmd roles s

/-- ED25519_SIGN: submission of operation 9 (R313). -/
def execEd25519Sign (queue : Fin 4) (cmd : PkCmd) (roles : Nat) (s : State) : Host.Outcome State Fault Refusal :=
  pkCommand 9 queue cmd roles s

/-- ED25519_VERIFY: submission of operation 10 (R313). -/
def execEd25519Verify (queue : Fin 4) (cmd : PkCmd) (roles : Nat) (s : State) : Host.Outcome State Fault Refusal :=
  pkCommand 10 queue cmd roles s

/-- ECDSA_SIGN_P256: submission of operation 11 (R313). -/
def execEcdsaSignP256 (queue : Fin 4) (cmd : PkCmd) (roles : Nat) (s : State) : Host.Outcome State Fault Refusal :=
  pkCommand 11 queue cmd roles s

/-- ECDSA_VERIFY_P256: submission of operation 12 (R313). -/
def execEcdsaVerifyP256 (queue : Fin 4) (cmd : PkCmd) (roles : Nat) (s : State) : Host.Outcome State Fault Refusal :=
  pkCommand 12 queue cmd roles s

/-- ECDSA_VERIFY_P384: submission of operation 13 (R313). -/
def execEcdsaVerifyP384 (queue : Fin 4) (cmd : PkCmd) (roles : Nat) (s : State) : Host.Outcome State Fault Refusal :=
  pkCommand 13 queue cmd roles s

/-- ECDSA_VERIFY_P521: submission of operation 14 (R313). -/
def execEcdsaVerifyP521 (queue : Fin 4) (cmd : PkCmd) (roles : Nat) (s : State) : Host.Outcome State Fault Refusal :=
  pkCommand 14 queue cmd roles s

/-- KEYGEN_P256: submission of operation 15 (R313). -/
def execKeygenP256 (queue : Fin 4) (cmd : PkCmd) (roles : Nat) (s : State) : Host.Outcome State Fault Refusal :=
  pkCommand 15 queue cmd roles s

/-- KEYGEN_ED25519: submission of operation 16 (R313). -/
def execKeygenEd25519 (queue : Fin 4) (cmd : PkCmd) (roles : Nat) (s : State) : Host.Outcome State Fault Refusal :=
  pkCommand 16 queue cmd roles s

/-- KEYGEN_X25519: submission of operation 17 (R313). -/
def execKeygenX25519 (queue : Fin 4) (cmd : PkCmd) (roles : Nat) (s : State) : Host.Outcome State Fault Refusal :=
  pkCommand 17 queue cmd roles s

/-- CLEAR: submission of operation 32 (R313). -/
def execClear (queue : Fin 4) (cmd : PkCmd) (roles : Nat) (s : State) : Host.Outcome State Fault Refusal :=
  pkCommand 32 queue cmd roles s

/-- COPY: submission of operation 33 (R313). -/
def execCopy (queue : Fin 4) (cmd : PkCmd) (roles : Nat) (s : State) : Host.Outcome State Fault Refusal :=
  pkCommand 33 queue cmd roles s

/-- CLEAR_REGION: submission of operation 34 (R313). -/
def execClearRegion (queue : Fin 4) (cmd : PkCmd) (roles : Nat) (s : State) : Host.Outcome State Fault Refusal :=
  pkCommand 34 queue cmd roles s

/-- PK_DISPATCH (R312). -/
def execPkDispatch (s : State) : Host.Outcome State Fault Refusal := lift (fun x e => e.pkDispatch x) s

/-- PK_VALIDATION_END (R316), at V cycles. -/
def execPkValidationEnd (unit_ : Fin 8) (s : State) : Host.Outcome State Fault Refusal :=
  lift (fun x e => e.pkValidated x unit_) s

/-- PK_COMPLETE (R315, R317), at T cycles or where an error stops the command. -/
def execPkComplete (unit_ : Fin 8) (how : PkEnd) (s : State) : Host.Outcome State Fault Refusal :=
  lift (fun x e => e.pkEnd x unit_ how) s

/-- PK_ABORT (R319): by the host's write of a tag, or by a queue's own user. -/
def execPkAbort (queue : Fin 4) (tag roles : Nat) (s : State) : Host.Outcome State Fault Refusal :=
  lift (fun x e =>
    if queue = 3 then e.writeCmd x Od.PK_HOST_CTRL.abort tag roles (fun e => (stOk, e.pkAbort x 3 tag))
    else e.pkAbort x queue tag) s

/-- PK_POP (R323). -/
def execPkPop (value roles : Nat) (s : State) : Host.Outcome State Fault Refusal :=
  lift (fun x e => e.writeCmd x Od.PK_HOST_CTRL.pop value roles (pkPopWrite value)) s

/-- ERASE (R318). -/
def execErase (handle : Fin 16) (roles : Nat) (s : State) : Host.Outcome State Fault Refusal :=
  lift (fun x e => e.writeCmd x (Od.PK_KEY.command handle) 1 roles (pkErase x handle)) s

/-- PK_SLOT_DEFINE (R307): through the dictionary, or by the owner of a region of its own. -/
def execPkSlotDefine (owner : Bool) (slot : Fin 1024) (w : RecWrite) (roles : Nat) (s : State) :
    Host.Outcome State Fault Refusal :=
  lift (fun x e =>
    if owner then (pkSlotWrite true slot (recValues 0x50 (0x400 + slot) w) e).2
    else e.recCmd x 0x50 (0x400 + slot) w roles (pkSlotWrite false slot)) s

/-- PK_DATA_WRITE (R323). -/
def execPkDataWrite (owner : Bool) (slot : Fin 1024) (value roles : Nat) (s : State) : Host.Outcome State Fault Refusal :=
  lift (fun x e =>
    if owner then (pkDataWrite true slot value e).2
    else e.writeCmd x (Od.PK_DATA slot) value roles (pkDataWrite false slot value)) s

end Sys2Proof.Machine
end

