-- ==== Sys2Proof/Machine/NtsKe.lean ====
section
/-! DEFINITION. NTS key establishment in device firmware (spec/08_nts.md R182 to R186): SYNs accepted or refused, requests
answered by the records of RFC 8915, session timeouts and the server key. The TLS stream itself is the operand's. -/

namespace Sys2Proof.Machine

/-- Device firmware runs: its image is started and the control cores are neither held nor down. -/
def Eng.fwRuns (e : Eng) : Bool := e.boot.fw && !e.boot.coresHeld && !e.boot.coresDown && !e.boot.recovery

/-- Firmware terminates NTS-KE: enabled, running, and not in Eclipse (R411). -/
def Eng.keOn (e : Eng) : Bool := e.b Od.NTS_KE.enable && e.fwRuns && !e.flt.eclipse

/-- The session of a client: its IP version, address and port in one number. -/
def keSession (p : Parsed) (frame : Bytes) : Nat :=
  beNat ([byte p.ver] ++ p.ipSrc ++ beBytes 2 (beAt frame (p.l4.getD 0) 2))

/-- A TCP segment without payload or options, with its checksum. -/
def tcpSegment (ver : Nat) (src dst : Bytes) (sport dport seq ack flags : Nat) : Bytes :=
  let a := beBytes 2 sport ++ beBytes 2 dport ++ beBytes 4 seq ++ beBytes 4 ack ++ [0x50, byte flags, 0, 0]
  let ph := if ver = 6 then src ++ dst ++ beBytes 4 20 ++ [0, 0, 0, 6] else src ++ dst ++ [0, 6] ++ beBytes 2 20
  a ++ beBytes 2 (inetSum (ph ++ a ++ [0, 0, 0, 0])) ++ [0, 0]

/-- The reset of a client's segment: the frame goes back the way it came (RFC 9293). -/
def tcpReset (p : Parsed) (frame : Bytes) (seq ack flags : Nat) : Bytes :=
  let o := p.l4.getD 0
  let seg := tcpSegment p.ver p.ipDst p.ipSrc (beAt frame (o + 2) 2) (beAt frame o 2) seq ack flags
  let ip :=
    if p.ver = 6 then beBytes 4 (6 * 2 ^ 28) ++ beBytes 2 20 ++ [6, 64] ++ p.ipDst ++ p.ipSrc ++ seg
    else
      let h := [0x45, 0] ++ beBytes 2 40 ++ [0, 0, 0x40, 0, 64, 6]
      h ++ beBytes 2 (inetSum (h ++ [0, 0] ++ p.ipDst ++ p.ipSrc)) ++ p.ipDst ++ p.ipSrc ++ seg
  buildEth p.src p.dst p.tags (if p.ver = 6 then 0x86DD else 0x0800) ip

/-- Firmware resets a connection; the reset of a SYN acknowledges it. -/
def Eng.keReset (e : Eng) (port : Nat) (frame : Bytes) (fresh : Bool) : Eng :=
  let p := parseFrame e.isTpid frame
  let seq := beAt frame (p.l4.getD 0 + 4) 4
  let r := if fresh then tcpReset p frame 0 ((seq + 1) % 2 ^ 32) 0x14 else tcpReset p frame (e.draw (2 ^ 32)) 0 0x04
  let e := if fresh then e else e.drawn
  e.sendUntimed port true (e.prioOf port p.tags) r

/-- The handshakes started within the last second (R185). -/
def Eng.keRecent (e : Eng) (x : Ctx) : List Nat := e.nts.starts.filter (fun t => !x.passed t unitsPerSec)

/-- A SYN for the NTS-KE port (R184 to R186): refused while shedding, beyond the rate or beyond the sessions. -/
def Eng.keSyn (e : Eng) (x : Ctx) (port : Nat) (frame : Bytes) : Eng :=
  let p := parseFrame e.isTpid frame
  let o := p.l4.getD 0
  let syn := p.proto == some 6 && p.l4.isSome && beAt frame (o + 2) 2 == e.n Od.NTS_KE.tcp_port && byteAt frame (o + 13) % 64 == 2
  if !e.keOn || !syn then e
  else
    let e := { e with nts := { e.nts with starts := e.keRecent x } }
    if e.b Od.NTS_KE_STATUS.shedding then (e.inc64 Od.NTS_KE_STATUS.refused_shed).keReset port frame true
    else if e.n Od.NTS_KE.max_rate ≤ e.nts.starts.length then (e.inc64 Od.NTS_KE_STATUS.refused_rate).keReset port frame true
    else if e.n Od.NTS_KE.max_sessions ≤ e.nts.sessions.length then e.keReset port frame true
    else
      { e with nts := { e.nts with
          sessions := tput e.nts.sessions (keSession p frame) ⟨x.st 0, port, frame⟩, starts := x.st 0 :: e.nts.starts } }

/-! ## The records of RFC 8915 -/

/-- The records of a request as (type with the critical bit, body), when it is well formed up to its End of Message. -/
def keRecords : Nat → Bytes → Option (List (Nat × Bytes))
  | 0, _ => none
  | f + 1, bs =>
    let t := beAt bs 0 2
    let n := beAt bs 2 2
    if bs.length < 4 + n then none
    else if t % 32768 = 0 then (if n = 0 ∧ bs.length = 4 then some [(t, [])] else none)
    else (keRecords f (bs.drop (4 + n))).map (fun r => (t, slice bs 4 n) :: r)

/-- A record. -/
def keRecord (type : Nat) (body : Bytes) : Bytes := beBytes 2 type ++ beBytes 2 body.length ++ body

/-- The numbers of 16 bits a body lists. -/
def ids16 (body : Bytes) : List Nat := (List.range (body.length / 2)).map (fun i => beAt body (2 * i) 2)

/-- The decimal digits of a byte without leading zeros. -/
def dec8 (n : Nat) : Bytes :=
  (if 100 ≤ n then [byte (48 + n / 100)] else []) ++ (if 10 ≤ n then [byte (48 + n / 10 % 10)] else []) ++ [byte (48 + n % 10)]

/-- An IPv4 address in text. -/
def text4 (a : Bytes) : Bytes :=
  dec8 (byteAt a 0) ++ [0x2E] ++ dec8 (byteAt a 1) ++ [0x2E] ++ dec8 (byteAt a 2) ++ [0x2E] ++ dec8 (byteAt a 3)

/-- A lower-case hexadecimal digit. -/
def hexLower (n : Nat) : Byte := byte (if n < 10 then 48 + n else 87 + n)

/-- A group of an IPv6 address without leading zeros. -/
def hex16 (n : Nat) : Bytes :=
  let d := [n / 4096 % 16, n / 256 % 16, n / 16 % 16, n % 16]
  let t := d.dropWhile (fun v => v == 0)
  (if t.isEmpty then [0] else t).map hexLower

/-- Groups joined by colons. -/
def colons : List Nat → Bytes
  | [] => []
  | [g] => hex16 g
  | g :: t => hex16 g ++ [0x3A] ++ colons t

/-- The zero groups in a row from an index. -/
def zeroRun (gs : List Nat) (i : Nat) : Nat := ((gs.drop i).takeWhile (fun g => g == 0)).length

/-- An IPv6 address in the text of RFC 5952: the first longest run of two or more zero groups is compressed. -/
def text6 (a : Bytes) : Bytes :=
  let gs := ids16 a
  let best := (List.range 8).foldl (fun b i => if zeroRun gs b < zeroRun gs i then i else b) 0
  let n := zeroRun gs best
  if n < 2 then colons gs else colons (gs.take best) ++ [0x3A, 0x3A] ++ colons (gs.drop (best + n))

/-- The Server Negotiation record: the service entry set for the session's IP version, or the one set for the other. -/
def Eng.keServer (e : Eng) (v6 : Bool) : Bytes :=
  let a := e.n Od.NTS_KE.server_v4
  let b := e.n Od.NTS_KE.server_v6
  let t4 := keRecord 6 (text4 (beBytes 4 (e.n (Od.SVC4.address a))))
  let t6 := keRecord 6 (text6 (leBytes 16 (e.n (Od.SVC6.address b))))
  if v6 then (if b ≠ 0xFFFF then t6 else if a ≠ 0xFFFF then t4 else [])
  else (if a ≠ 0xFFFF then t4 else if b ≠ 0xFFFF then t6 else [])

/-- `n` New Cookie records, each freshly sealed. -/
def Eng.keCookies (e : Eng) (rx slot : Nat) (keys : Bytes) : Nat → Bytes × Eng
  | 0 => ([], e)
  | n + 1 =>
    let a := e.sealCookie rx slot keys
    let b := a.2.keCookies rx slot keys n
    (keRecord 5 a.1 ++ b.1, b.2)

/-- The record types the device recognises. -/
def keKnown (t : Nat) : Bool := t ≤ 1 || t == 4 || t == 5 || t == 6 || t == 7

/-- The body of the record of a type, when exactly one is there. -/
def keFind (rs : List (Nat × Bytes)) (t : Nat) : Option Bytes :=
  match rs.filter (fun r => r.1 % 32768 == t) with
  | [r] => some r.2
  | _ => none

/-- An Error record ends the exchange (R183). -/
def keError (code : Nat) : Bytes := keRecord 0x8002 (beBytes 2 code) ++ keRecord 0x8000 []

/-- The answer to a request's records (R183): an error code, or the response. -/
def Eng.keAnswer (e : Eng) (x : Ctx) (v6 : Bool) (request keys : Bytes) : Bytes × Bool × Eng :=
  match keRecords (request.length + 1) request with
  | none => (keError 1, false, e)
  | some rs =>
    if rs.any (fun r => 32768 ≤ r.1 && !keKnown (r.1 % 32768)) then (keError 0, false, e)
    else
      match keFind rs 1, keFind rs 4 with
      | some np, some aead =>
        if np.length % 2 ≠ 0 ∨ aead.length % 2 ≠ 0 then (keError 1, false, e)
        else
          let rx := x.lin 0
          match e.currentAt rx with
          | none => (keError 2, false, e)
          | some slot =>
            if e.nts.drbgStopped.isSome || !e.b Od.NTS_GLOBAL.enable then (keError 2, false, e)
            else if !(ids16 np).contains 0 then (keRecord 0x8001 [] ++ keRecord 0x8000 [], true, e)
            else if !(ids16 aead).contains 15 then
              (keRecord 0x8001 [0, 0] ++ keRecord 4 [] ++ keRecord 0x8000 [], true, e)
            else
              let c := e.keCookies rx slot keys (e.n Od.NTS_KE.cookies)
              (keRecord 0x8001 [0, 0] ++ keRecord 4 [0, 15] ++ c.1 ++ e.keServer v6 ++ keRecord 0x8000 [], true, c.2)
      | _, _ => (keError 1, false, e)

/-- A TLS alert ends the session (R182). -/
def Eng.keAlert (e : Eng) (session code : Nat) : Eng :=
  (e.inc64 Od.NTS_KE_STATUS.alerts).emit (.ntsKe session [2, byte code])

/-- A session's request, with the keys exported for it (R183). -/
def Eng.keRequest (e : Eng) (x : Ctx) (session : Nat) (hello : KeHello) (request : Bytes) (c2s s2c : Nat) : Eng :=
  match tget e.nts.sessions session with
  | none => e
  | some k =>
    if !e.keOn then e
    else
      let e := { e with nts := { e.nts with sessions := tdel e.nts.sessions session } }
      if !e.b Od.NTS_KE_KEY.present then e.keAlert session 40
      else
        match hello with
        | .none => e.keAlert session 40
        | .noAlpn => e.keAlert session 120
        | .ok =>
          let v6 := (parseFrame e.isTpid k.syn).ver == 6
          let a := (e.inc64 Od.NTS_KE_STATUS.handshakes).keAnswer x v6 request (leBytes 32 c2s ++ leBytes 32 s2c)
          (if a.2.1 then a.2.2 else a.2.2.inc64 Od.NTS_KE_STATUS.errors).emit (.ntsKe session a.1)

/-- The server key is generated into handle 0, replacing any key held (R182, R318); nothing changes while the DRBG has
stopped. -/
def keGenerate (x : Ctx) (e : Eng) : WriteRes :=
  if e.nts.drbgStopped.isSome then (stOk, e)
  else
    let r := e.drbg 32
    let d := 1 + leNat r.1 % (curveP256.n - 1)
    let q := (curveP256.base d).getD (0, 0)
    let pub : Nat := leNat ([4] ++ beBytes 32 q.1 ++ beBytes 32 q.2)
    let e := r.2.pkFill x 0 (1, pub, d)
    (stOk, (e.set Od.NTS_KE_KEY.public_ pub).set Od.NTS_KE_KEY.present 1)

/-- A write of NTS_KE members (R189): no change of ring while enabled, and server indices that name a service entry. -/
def ntsKeWrite (vs : List (Key × Int)) (e : Eng) : WriteRes :=
  let f := e.setAll vs
  let idx (v : Nat) : Bool := v < 256 || v == 0xFFFF
  if (names vs [Od.NTS_KE.server_v4] && !idx (f.n Od.NTS_KE.server_v4)) ||
      (names vs [Od.NTS_KE.server_v6] && !idx (f.n Od.NTS_KE.server_v6)) then (stRange, e)
  else if e.b Od.NTS_KE.enable && vs.any (fun v => v.1 == Od.NTS_KE.ring) then (stMode, e)
  else (stOk, f)

/-- Device firmware owns receive ring `r` (R184). -/
def Eng.fwRing (e : Eng) (r : Nat) : Bool := e.b Od.NTS_KE.enable && e.n Od.NTS_KE.ring == r

/-! ## The commands -/

/-- NTS_KE_SYN (R184, R185). -/
def execNtsKeSyn (port : Fin 32) (frame : Bytes) (s : State) : Host.Outcome State Fault Refusal :=
  lift (fun x e => e.keSyn x port frame) s

/-- NTS_KE_REQUEST (R183). -/
def execNtsKeRequest (session : Nat) (hello : KeHello) (request : Bytes) (c2s s2c : Nat) (s : State) :
    Host.Outcome State Fault Refusal :=
  lift (fun x e => e.keRequest x session hello request c2s s2c) s

/-- NTS_KE_SESSION_TIMEOUT (R184), 10 s after the SYN. -/
def execNtsKeSessionTimeout (session : Nat) (s : State) : Host.Outcome State Fault Refusal :=
  lift (fun x e =>
    match tget e.nts.sessions session with
    | none => e
    | some k => whenDue (e.fwRuns && x.passed k.since (10 * unitsPerSec)) (fun e =>
        { e with nts := { e.nts with sessions := tdel e.nts.sessions session } }.keReset k.port k.syn false) e) s

/-- NTS_KE_KEY_GENERATE (R182). -/
def execNtsKeKeyGenerate (roles : Nat) (s : State) : Host.Outcome State Fault Refusal :=
  lift (fun x e => e.writeCmd x Od.NTS_KE_KEY.command 1 roles (keGenerate x)) s

end Sys2Proof.Machine
end

