-- ==== Sys2Proof/Machine/Host.lean ====
section
/-! DEFINITION. The host interface (spec/16_host_interface.md R324 to R342): the PCIe link, rings and their descriptors,
interrupt vectors, Tail windows and dictionary windows. Counter pages stand in Machine/Counters.lean. -/

namespace Sys2Proof.Machine

/-! ## Interrupts (R335, R336) -/

/-- Receive ring `r`. -/
def Eng.rxRing (e : Eng) (r : Nat) : RxRing := tgetD e.rxRings r RxRing.atReset

/-- Change receive ring `r`. -/
def Eng.modRx (e : Eng) (r : Nat) (f : RxRing → RxRing) : Eng := { e with rxRings := tput e.rxRings r (f (e.rxRing r)) }

/-- Source `s` is pending (Table 16-9a). -/
def Eng.irqPending (e : Eng) (s : Nat) : Bool :=
  if s < 96 then
    bitOf (e.n (Od.FLT_BLOCK.latch (s / 4))) (s % 4) && !bitOf (e.n (Od.FLT_BLOCK.mask (s / 4))) (s % 4)
  else if s < 128 then !(e.tail (s - 96)).entries.isEmpty
  else if 160 ≤ s ∧ s < 192 then
    (List.range 4).any (fun i => let g := e.rxRing (4 * (s - 160) + i); g.ack != g.cons)
  else if 192 ≤ s ∧ s < 208 then
    (List.range 8).any (fun i => let g := e.txRing (8 * (s - 192) + i); g.ack != g.cons)
  else if s = 225 then !e.pk.done.isEmpty
  else bitOf e.irq.latched s

/-- The sources pending, as HOST_IRQ_PENDING shows them. -/
def Eng.irqWord (e : Eng) : Nat := (List.range 231).foldl (fun m s => if e.irqPending s then m + 2 ^ s else m) 0

/-- A source routed to vector `v` is pending. -/
def Eng.vecPending (e : Eng) (v : Nat) : Bool :=
  (List.range 231).any (fun s => e.n (Od.IRQ_ROUTE.vector s) == v && e.irqPending s)

/-- Vector `v` sends when a source routed to it is still pending (R336). -/
def Eng.vecScan (e : Eng) (x : Ctx) (v : Nat) : Eng := if e.vecPending v then e.vecPoke x v else e

/-- Pin IRQ_Nn is driven low: a source routed to it is pending. -/
def Eng.irqPinLow (e : Eng) (n : Nat) : Bool :=
  (List.range 231).any (fun s => bitOf (e.n (Od.IRQ_ROUTE.pins s)) n && e.irqPending s)

/-- A write to VEC_ARM: the vectors of the mask are armed. -/
def Eng.vecArm (e : Eng) (x : Ctx) (mask : Nat) : Eng :=
  let e := { e with irq := { e.irq with armed := e.irq.armed ||| mask % 2 ^ 64 } }
  (List.range 64).foldl (fun e v => if bitOf mask v then e.vecScan x v else e) e

/-- A write of a vector's mask bit: unmasking sends a message that is pending when the vector is armed. -/
def Eng.vecMask (e : Eng) (x : Ctx) (v : Nat) (masked : Bool) : Eng :=
  if masked then { e with irq := { e.irq with masked := e.irq.masked ||| 2 ^ v } }
  else
    let e := { e with irq := { e.irq with masked := clearBits e.irq.masked (2 ^ v) } }
    if bitOf e.irq.pba v then e.vecPoke x v else e

/-- A clear of latched sources: an event of the same tick leaves its bit set (R335). -/
def irqClear (x : Ctx) (v : Int) (e : Eng) : WriteRes :=
  let keep := e.irq.latchTick.foldl (fun m p => if p.2 = x.tick then m ||| 2 ^ p.1 else m) 0
  (stOk, { e with irq := { e.irq with latched := clearBits e.irq.latched (clearBits v.toNat keep) } })

/-- A write of IRQ_ROUTE or VEC_CFG members: a pending source is heard on its new route. -/
def irqRouteWrite (x : Ctx) (vs : List (Key × Int)) (e : Eng) : WriteRes :=
  (stOk, (List.range 64).foldl (fun e v => e.vecScan x v) (e.setAll vs))

/-! ## Stopping and starting rings (R326, R330, R342) -/

/-- A transmit ring goes to STOPPED with an error: 1 DMA_ERR, 2 ECC, 3 LINK. -/
def Eng.stopTx (e : Eng) (x : Ctx) (r err : Nat) : Eng :=
  ((e.modTx r (fun g => { g with state := .stopped, err := err })).orb (Od.TX_RING_STATUS.sticky r) 16).irqLatch x 230

/-- A receive ring goes to STOPPED with an error. -/
def Eng.stopRx (e : Eng) (x : Ctx) (r err : Nat) : Eng :=
  ((e.modRx r (fun g => { g with state := .stopped, err := err })).orb (Od.RX_RING_STATUS.sticky r) 16).irqLatch x 230

/-- A receive ring goes to DISABLED: buffers not yet used are returned without write-back. -/
def Eng.disableRx (e : Eng) (r : Nat) : Eng := e.modRx r (fun g => { g with state := .disabled })

/-- The posted word 3 of descriptors not yet taken: what host memory holds, or a free value where it is not told. -/
def Eng.postedWords (e : Eng) (n : Nat) (posted : List Nat) : List Nat :=
  (List.range n).map (fun i => posted.getD i (Config.freeDraw (e.draws + i) % 2 ^ 64))

/-- A transmit ring goes to DISABLED: what the transmitter has not taken completes with FLUSHED; a frame that holds a
reservation completes at its release or discard (R330). -/
def Eng.disableTx (e : Eng) (x : Ctx) (r : Nat) (posted : List Nat) : Eng :=
  let g := e.txRing r
  let n := (g.prod + 2 ^ 32 - g.taken) % 2 ^ 32
  let ws := e.postedWords n posted
  let frames := (ws.filter (fun w => w % 2 == 1)).length
  let e := { e with draws := e.draws + n }
  let e := e.modTx r (fun g => { g with state := .disabled, launch := none, waiting := [], taken := g.prod })
  let e := match g.launch with
    | some l => e.txFinish x r l.first 4
    | none => e
  let e := g.waiting.foldl (fun e w => e.txFinish x r w.2.1 4) e
  if n = 0 then e
  else
    let e := e.modTx r (fun h => { h with flight := h.flight ++ [⟨g.taken, ws, some 4⟩] })
    (e.add 64 (Od.TX_RING_STATUS.flushed r) frames).txWriteBack x r (g.flight.length + 2)

/-- A ring starts with its counts at zero. -/
def Eng.startTx (e : Eng) (r : Nat) : Eng :=
  e.modTx r (fun g => { TxRing.atReset with state := .running, err := g.err })

/-- A receive ring starts. -/
def Eng.startRx (e : Eng) (r : Nat) : Eng := e.modRx r (fun g => { RxRing.atReset with state := .running, err := g.err })

/-- The configuration a ring would have is within R327. -/
def Eng.ringOk (e : Eng) (tx : Bool) (r : Nat) : Bool :=
  if tx then e.n (Od.TX_RING_CFG.base r) % 4096 == 0
  else e.n (Od.RX_RING_CFG.base r) % 4096 == 0 && e.n (Od.RX_RING_CFG.buf_size r) % 64 == 0

/-- A write of a ring's configuration (R327, R330): enable 0 at any time, anything else while it is DISABLED; `posted` is what
host memory holds of the transmit descriptors not yet taken. -/
def ringWrite (x : Ctx) (tx : Bool) (r : Nat) (posted : List Nat) (vs : List (Key × Int)) (e : Eng) : WriteRes :=
  let en := if tx then Od.TX_RING_CFG.enable r else Od.RX_RING_CFG.enable r
  let st := if tx then (e.txRing r).state else (e.rxRing r).state
  let f := e.setAll vs
  if !tx && e.fwRing r then (stMode, e)
  else if vs = [(en, 0)] then (stOk, if tx then f.disableTx x r posted else f.disableRx r)
  else if st ≠ .disabled then (stMode, e)
  else if !f.ringOk tx r then (stRange, e)
  else if vs.any (fun p => p.1 == en && p.2 == 1) then (stOk, if tx then f.startTx r else f.startRx r)
  else (stOk, f)

/-! ## Doorbells (R328, Table 16-2) -/

/-- The count of a new PROD is acceptable. -/
def prodOk (size old cons new : Nat) : Bool :=
  (new + 2 ^ 32 - old) % 2 ^ 32 ≤ size && (new + 2 ^ 32 - cons) % 2 ^ 32 ≤ size

/-- A write of PROD of a receive ring. -/
def Eng.doorRx (e : Eng) (r v : Nat) : Eng :=
  let g := e.rxRing r
  if e.fwRing r then e.inc32 (Od.RX_RING_STATUS.doorbell_err r)
  else if prodOk (2 ^ e.n (Od.RX_RING_CFG.size_log2 r)) g.prod g.cons v then e.modRx r (fun g => { g with prod := v })
  else (e.inc32 (Od.RX_RING_STATUS.doorbell_err r)).orb (Od.RX_RING_STATUS.sticky r) 1

/-- A write of PROD of a transmit ring. -/
def Eng.doorTx (e : Eng) (r v : Nat) : Eng :=
  let g := e.txRing r
  if prodOk (2 ^ e.n (Od.TX_RING_CFG.size_log2 r)) g.prod g.cons v then e.modTx r (fun g => { g with prod := v })
  else (e.inc32 (Od.TX_RING_STATUS.doorbell_err r)).orb (Od.TX_RING_STATUS.sticky r) 1

/-- A write of ACK: pending sources are heard again. -/
def Eng.doorAck (e : Eng) (x : Ctx) (tx : Bool) (r v : Nat) : Eng :=
  if tx then
    let e := e.modTx r (fun g => { g with ack := v })
    if (e.txRing r).ack = (e.txRing r).cons then e else e.irqPoke x (192 + r / 8)
  else if e.fwRing r then e.inc32 (Od.RX_RING_STATUS.doorbell_err r)
  else
    let e := e.modRx r (fun g => { g with ack := v })
    if (e.rxRing r).ack = (e.rxRing r).cons then e else e.irqPoke x (160 + r / 4)

/-! ## Receiving (R331 to R333) -/

/-- The origin codes of Table 16-3. -/
def RxOrigin.code : RxOrigin → Nat
  | .rule => 0
  | .default_ => 1
  | .mirror => 2
  | .answer => 3
  | .ptp => 4
  | .fcsErr => 5

/-- A receive descriptor as written back (Table 16-3): its count, bytes in the buffer, whether it is the first and the last
of the frame, and whether the buffers ran out there. -/
def rxDescBytes (p : Nat) (h : HeldFrame) (count len total : Nat) (sof end_ trunc : Bool) : Bytes :=
  let tag := match h.tag with | some t => (t.1 % 65536) * 65536 + t.2 % 65536 | none => 0
  let w1 := count % 2 ^ 32 * 2 ^ 32 + len * 2 ^ 16 + p * 256 + 128 + 4 * boolNat h.tag.isSome + 2 * boolNat end_ + boolNat sof
  let w2 := tag * 2 ^ 32 + (h.status + 32 * boolNat trunc) * 2 ^ 16 + h.cause
  let w3 := (if end_ then total else 0) * 2 ^ 48 + h.rule % 65536 * 2 ^ 32 + h.origin.code * 2 ^ 24
  leBytes 8 (if sof then h.rxTs else 0) ++ leBytes 8 w1 ++ leBytes 8 w2 ++ leBytes 8 w3

/-- A frame found no buffer for its start (R332); a mirror copy is counted by its port (R104). -/
def Eng.rxNoBuffer (e : Eng) (x : Ctx) (p : Nat) (h : HeldFrame) : Eng :=
  let e := (e.inc64 (Od.RX_RING_STATUS.no_buffer h.ring)).orb (Od.RX_RING_STATUS.sticky h.ring) 2
  if h.origin = .mirror then e.portCount x p 14 else e

/-- The writes of a delivery into `n` buffers of `size` bytes at the addresses posted. -/
def rxWrites (p : Nat) (h : HeldFrame) (base ringSize size cons n : Nat) (bufs : List Nat) (trunc : Bool) : List Output :=
  (List.range n).flatMap (fun i =>
    let part := slice h.bytes (i * size) size
    let last := i + 1 = n
    [Output.hostMem (bufs.getD i 0) part,
      Output.hostMem (base + 32 * ((cons + i) % ringSize))
        (rxDescBytes p h (cons + i) part.length (min h.bytes.length (n * size)) (i = 0) last (last && trunc))])

/-- A frame is written into the buffers available (R332). -/
def Eng.rxWrite (e : Eng) (x : Ctx) (p : Nat) (h : HeldFrame) (bufs : List Nat) : Eng :=
  let r := h.ring
  let g := e.rxRing r
  let size := e.n (Od.RX_RING_CFG.buf_size r)
  let avail := (g.prod + 2 ^ 32 - g.cons) % 2 ^ 32
  let need := max 1 (ceilDiv h.bytes.length size)
  let n := min need avail
  if g.state ≠ .running ∨ avail = 0 then e.rxNoBuffer x p h
  else if (bufs.take n).any (fun a => a % 64 != 0) then e.stopRx x r 1
  else
    let trunc := decide (n < need)
    let ws := rxWrites p h (e.n (Od.RX_RING_CFG.base r)) (2 ^ e.n (Od.RX_RING_CFG.size_log2 r)) size g.cons n bufs trunc
    let e := { e with out := e.out ++ ws }
    let e := e.modRx r (fun g => { g with cons := (g.cons + n) % 2 ^ 32 })
    let e := e.inc64 (Od.RX_RING_STATUS.frames r)
    let e := if trunc then
        ((e.inc64 (Od.RX_RING_STATUS.trunc_frames r)).add 64 (Od.RX_RING_STATUS.trunc_bytes r)
          (h.bytes.length - n * size)).orb (Od.RX_RING_STATUS.sticky r) 4
      else e
    e.irqPoke x (160 + r / 4)

/-- The oldest held frame of port `p` goes to its ring; XON follows once the buffer has fallen below 25 % (R94). -/
def Eng.rxDeliver (e : Eng) (x : Ctx) (p : Nat) (bufs : List Nat) : Eng :=
  match (e.port p).rxHeld with
  | [] => e
  | h :: rest =>
    let e := e.modPort p (fun q => { q with rxHeld := rest })
    let e := if e.fwRing h.ring then e.inc64 (Od.RX_RING_STATUS.frames h.ring) else e.rxWrite x p h bufs
    if (e.port p).xoff.isSome && (e.port p).held * 4 < Config.rxBufferBytes then e.sendPause x p 0 else e

/-! ## Transmitting (R334) -/

/-- The descriptors of the next frame: up to the first with END. -/
def txFrameOf : List TxDesc → List TxDesc
  | [] => []
  | d :: t => if d.word3 % 2 = 1 then [d] else d :: txFrameOf t

/-- The frame its descriptors' buffers hold, with the inserted tag. -/
def txBytes (ds : List TxDesc) : Bytes :=
  let raw := ds.flatMap (fun d => padTo d.bufLen (d.data.take d.bufLen))
  match ds with
  | d :: _ => if bitOf d.word3 2 then raw.take 12 ++ beBytes 4 (d.word3 / 2 ^ 32) ++ raw.drop 12 else raw
  | [] => raw

/-- The length of the frame before a tag is inserted. -/
def txRawLen (ds : List TxDesc) : Nat := ds.foldl (fun n d => n + d.bufLen) 0

/-- The status that turns a frame away, if any (R334). -/
def Eng.txReject (e : Eng) (ds : List TxDesc) (port : Nat) (launch : Bool) (bytes : Bytes) : Option Nat :=
  if 17 ≤ ds.length ∨ ds.any (fun d => d.bufLen == 0 || 16384 < d.bufLen) ∨ txRawLen ds < 14 ∨ 31 < port ∨ !e.isPort port then some 2
  else if e.n (Od.PORT_CONFIG.max_frame port) < bytes.length + 4 then some 1
  else if !launch && !e.b (Od.PORT_STATUS.link port) then some 3
  else none

/-- The device takes the next frame of a running ring; a frame with a launch time stays at the ring's head until it is placed
(R159). -/
def Eng.txTake (e : Eng) (x : Ctx) (r : Nat) (descs : List TxDesc) (fail : Bool) : Eng :=
  let g := e.txRing r
  let ds := txFrameOf descs
  let n := ds.length
  let whole := (match ds.getLast? with | some d => d.word3 % 2 == 1 | none => false) || 17 ≤ n
  if g.state ≠ .running ∨ !e.irq.link ∨ g.launch.isSome ∨ n = 0 ∨ (g.prod + 2 ^ 32 - g.taken) % 2 ^ 32 < n ∨ !whole then e
  else if fail then ((e.countTxDone r 5).stopTx x r 1).detect x 15 5 r
  else
    let d := ds.headD ⟨0, 0, 0, 0, 0, 0, []⟩
    let port := d.word3 / 2 ^ 24 % 256
    let launch := bitOf d.word3 1
    let bytes := txBytes ds
    let e := e.modTx r (fun h => { h with
      taken := (h.taken + n) % 2 ^ 32, flight := h.flight ++ [⟨h.taken, ds.map (fun d => d.word3), none⟩] })
    match e.txReject ds port launch bytes with
    | some st => (if st = 1 then e.portCount x port 20 else e).txFinish x r g.taken st
    | none =>
      if launch then
        e.modTx r (fun h => { h with launch := some ⟨port, bytes, d.lt % 2 ^ 64, d.slack, d.tag, g.taken, none⟩ })
      else
        let prio := e.prioOf port (parseFrame e.isTpid bytes).tags
        e.modTx r (fun h => { h with waiting := h.waiting ++ [(port, g.taken, ⟨some r, bytes, prio, false⟩)] })

/-- A DMA read has had no completion for 5 ms (R342). -/
def Eng.dmaTimeout (e : Eng) (x : Ctx) (tx : Bool) (r : Nat) : Eng :=
  if !e.irq.link then e
  else if tx then
    let g := e.txRing r
    if g.state = .running ∧ g.prod ≠ g.taken then ((e.countTxDone r 5).stopTx x r 1).detect x 15 5 r else e
  else
    let g := e.rxRing r
    if g.state = .running ∧ g.prod ≠ g.cons ∧ !e.fwRing r then (e.stopRx x r 1).detect x 15 5 r else e

/-! ## The link and its reset (R324, R326) -/

/-- Every Tail queue is emptied and its entries counted as lost, and every window context returns to IDLE. -/
def Eng.hostEmpty (e : Eng) : Eng :=
  { e with
    tails := e.tails.map (fun q => { q with entries := [], lost := (q.lost + q.entries.length) % 2 ^ 32 })
    wins := List.replicate 8 WinCtx.atReset
    inbox := e.inbox.filter (fun p => match p.path with | .window _ => false | _ => true) }

/-- A Function Level Reset. -/
def Eng.functionReset (e : Eng) (x : Ctx) (posted : List (Nat × List Nat)) : Eng :=
  let e := (List.range 128).foldl (fun e r => if e.fwRing r then e else e.disableRx r) e
  let e := (List.range 128).foldl (fun e r => e.disableTx x r (((posted.find? (fun p => p.1 == r)).map (fun p => p.2)).getD [])) e
  let e := e.hostEmpty
  let e := { e with irq := { e.irq with armed := 2 ^ 64 - 1, masked := 2 ^ 64 - 1, pba := 0, lastMsg := [] } }
  (e.inc32 Od.HOST_STATUS.flr_count).orb Od.HOST_STATUS.sticky 2

/-- The link goes down, or PERST_N is held low: every ring of the host stops with LINK, and row 6 of block 15 is present. -/
def Eng.pcieDown (e : Eng) (x : Ctx) : Eng :=
  if !e.irq.link then e
  else
    let e := (List.range 128).foldl (fun e r => if e.fwRing r then e else e.stopRx x r 3) e
    let e := (List.range 128).foldl (fun e r => e.stopTx x r 3) e
    let e := { e.hostEmpty with irq := { e.irq with link := false } }
    let e := (e.set Od.HOST_STATUS.link_width 0).set Od.HOST_STATUS.link_rate_gts 0
    (e.orb Od.HOST_STATUS.sticky 1).condOn x 15 6 0

/-- The link comes up, at most 8 lanes wide at 32 GT/s: pending sources may send again. -/
def Eng.pcieUp (e : Eng) (x : Ctx) (width rate : Nat) : Eng :=
  let e := (e.set Od.HOST_STATUS.link_width (min width 8 : Nat)).set Od.HOST_STATUS.link_rate_gts (min rate 32 : Nat)
  let e := ({ e with irq := { e.irq with link := true } }).condOff x 15 6 0
  (List.range 64).foldl (fun e v => e.vecScan x v) e

/-! ## Tail windows and window contexts (Table 16-11, R341) -/

/-- Discard entries from the head of a Tail queue. -/
def Eng.tailPop (e : Eng) (p n : Nat) : Eng :=
  { e with tails := modNth e.tails p (fun q => { q with entries := q.entries.drop n }) }

/-- Clear OVERFLOW, unless a loss falls in this tick. -/
def Eng.tailClear (e : Eng) (x : Ctx) (p : Nat) : Eng :=
  { e with tails := modNth e.tails p (fun q => if q.overflowTick = x.tick then q else { q with overflow := false }) }

/-- Window context `c`. -/
def Eng.win (e : Eng) (c : Nat) : WinCtx := nth e.wins c WinCtx.atReset

/-- Change window context `c`. -/
def Eng.modWin (e : Eng) (c : Nat) (f : WinCtx → WinCtx) : Eng := { e with wins := modNth e.wins c f }

/-- A context ends in ERROR with a cause of Table 16-13. -/
def Eng.winError (e : Eng) (c cause : Nat) : Eng := e.modWin c (fun w => { w with state := 3, cause := cause })

/-- A context's response is there: DONE, and source 226. -/
def Eng.winDone (e : Eng) (x : Ctx) (c : Nat) (bytes : Bytes) : Eng :=
  (e.modWin c (fun w => { w with state := 2, cause := 0, response := bytes })).irqLatch x 226

/-- A write of a context's request registers; ignored and counted while it is PENDING. -/
def Eng.winWrite (e : Eng) (c : Nat) (w : WindowWrite) : Eng :=
  if (e.win c).state = 1 then (e.inc32 Od.HOST_STATUS.window_err).orb Od.HOST_STATUS.sticky 4
  else
    match w with
    | .reqLen n => e.modWin c (fun u => { u with reqLen := n % 65536 })
    | .request o bs =>
      e.modWin c (fun u =>
        let b := padTo 1536 u.request
        let bs := bs.take (1536 - o)
        { u with request := b.take o ++ bs ++ b.drop (o + bs.length) })

/-- A write of 1 to doorbell submits the request (R341). -/
def Eng.winSubmit (e : Eng) (x : Ctx) (c : Nat) : Eng :=
  let w := e.win c
  if w.state = 1 then e
  else if !e.b Od.HOST_DICT.enable then e.winError c 6
  else if w.reqLen = 0 ∨ 1452 < w.reqLen then e.winError c 1
  else
    let e := e.modWin c (fun w => { w with state := 1, cause := 0 })
    e.arrive x (.window c) ((padTo 1536 w.request).take w.reqLen)

/-! ## The commands -/

/-- A host access over the link: nothing while the link is down. -/
def overLink (f : Ctx → Eng → Eng) (s : State) : Host.Outcome State Fault Refusal :=
  lift (fun x e => if e.irq.link then f x e else e) s

/-- FUNCTION_LEVEL_RESET (R326); `posted` is what host memory holds of the transmit descriptors not yet taken. -/
def execFunctionLevelReset (posted : List (Nat × List Nat)) (s : State) : Host.Outcome State Fault Refusal :=
  overLink (fun x e => e.functionReset x posted) s

/-- PCIE_LINK_DOWN (R326). -/
def execPcieLinkDown (s : State) : Host.Outcome State Fault Refusal := lift (fun x e => e.pcieDown x) s

/-- PCIE_LINK_UP (R324). -/
def execPcieLinkUp (width rate : Nat) (s : State) : Host.Outcome State Fault Refusal :=
  lift (fun x e => e.pcieUp x width rate) s

/-- RING_ENABLE (R330): a write of enable 1. -/
def execRingEnable (tx : Bool) (ring : Fin 128) (roles : Nat) (s : State) : Host.Outcome State Fault Refusal :=
  let k := if tx then Od.TX_RING_CFG.enable ring else Od.RX_RING_CFG.enable ring
  lift (fun x e => e.writeCmd x k 1 roles (ringWrite x tx ring [] [(k, 1)])) s

/-- RING_DISABLE (R330): a write of enable 0. -/
def execRingDisable (tx : Bool) (ring : Fin 128) (posted : List Nat) (roles : Nat) (s : State) :
    Host.Outcome State Fault Refusal :=
  let k := if tx then Od.TX_RING_CFG.enable ring else Od.RX_RING_CFG.enable ring
  lift (fun x e => e.writeCmd x k 0 roles (ringWrite x tx ring posted [(k, 0)])) s

/-- DOORBELL_PROD (R328). -/
def execDoorbellProd (tx : Bool) (ring : Fin 128) (value : Nat) (s : State) : Host.Outcome State Fault Refusal :=
  overLink (fun _ e => if tx then e.doorTx ring (value % 2 ^ 32) else e.doorRx ring (value % 2 ^ 32)) s

/-- DOORBELL_ACK (R335). -/
def execDoorbellAck (tx : Bool) (ring : Fin 128) (value : Nat) (s : State) : Host.Outcome State Fault Refusal :=
  overLink (fun x e => e.doorAck x tx ring (value % 2 ^ 32)) s

/-- RX_FRAME_DELIVER (R332): the oldest held frame of a port, with the addresses its ring's next descriptors hold. -/
def execRxFrameDeliver (port : Fin 32) (bufs : List Nat) (s : State) : Host.Outcome State Fault Refusal :=
  lift (fun x e => e.rxDeliver x port bufs) s

/-- TX_DESC_TAKE (R334), with what host memory holds, or a DMA read that fails. -/
def execTxDescTake (ring : Fin 128) (descs : List TxDesc) (fail : Bool) (s : State) : Host.Outcome State Fault Refusal :=
  lift (fun x e => e.txTake x ring descs fail) s

/-- VEC_ARM_WRITE (R336). -/
def execVecArmWrite (mask : Nat) (s : State) : Host.Outcome State Fault Refusal := overLink (fun x e => e.vecArm x mask) s

/-- VEC_HOLDOFF_END (R336): a message deferred by holdoff_ns follows. -/
def execVecHoldoffEnd (vector : Fin 64) (s : State) : Host.Outcome State Fault Refusal :=
  lift (fun x e => e.vecScan x vector) s

/-- IRQ_PENDING_CLEAR (R335). -/
def execIrqPendingClear (mask roles : Nat) (s : State) : Host.Outcome State Fault Refusal :=
  lift (fun x e => e.writeCmd x Od.HOST_IRQ_PENDING mask roles (irqClear x mask)) s

/-- MSIX_MASK_WRITE (R336). -/
def execMsixMaskWrite (vector : Fin 64) (masked : Bool) (s : State) : Host.Outcome State Fault Refusal :=
  overLink (fun x e => e.vecMask x vector masked) s

/-- TAIL_POP (Table 16-11): bits 6:0 of the value. -/
def execTailPop (port : Fin 32) (value : Nat) (s : State) : Host.Outcome State Fault Refusal :=
  overLink (fun _ e => e.tailPop port (value % 128)) s

/-- TAIL_OVERFLOW_CLEAR (Table 16-11). -/
def execTailOverflowClear (port : Fin 32) (s : State) : Host.Outcome State Fault Refusal :=
  overLink (fun x e => e.tailClear x port) s

/-- WINDOW_REQUEST_WRITE (R341). -/
def execWindowRequestWrite (ctx : Fin 8) (w : WindowWrite) (s : State) : Host.Outcome State Fault Refusal :=
  overLink (fun _ e => e.winWrite ctx w) s

/-- WINDOW_DOORBELL (R341): a write of 1 submits. -/
def execWindowDoorbell (ctx : Fin 8) (value : Nat) (s : State) : Host.Outcome State Fault Refusal :=
  overLink (fun x e => if value % 2 = 1 then e.winSubmit x ctx else e) s

/-- DMA_TIMEOUT (R342). -/
def execDmaTimeout (tx : Bool) (ring : Fin 128) (s : State) : Host.Outcome State Fault Refusal :=
  lift (fun x e => e.dmaTimeout x tx ring) s

end Sys2Proof.Machine
end

