-- ==== Sys2Proof/Machine/Counters.lean ====
section
/-! DEFINITION. Performance counters (spec/19_counters.md; pages of spec/16_host_interface.md R340): what a counter page shows, its
captures, the window counters, the occupancy-threshold counters, and the user views. -/

namespace Sys2Proof.Machine

/-! ## What a page holds (R384) -/

/-- Window counter `w`. -/
def Eng.winCtr (e : Eng) (w : Nat) : Counter := tgetD e.ctr.win w Counter.zero

/-- The active event of window counter `w`; 0xFFFF counts nothing (R387). -/
def Eng.activeEvent (e : Eng) (w : Nat) : Nat := tgetD e.ctr.active w 0xFFFF

/-- Counter `i` of page `g` at tick `t` (Table 19-3). -/
def Eng.pageValue (e : Eng) (t g i : Nat) : Nat :=
  if g < 48 then (tgetD e.ctr.ev (64 * g + i) Counter.zero).value t
  else
    match g with
    | 48 => (e.winCtr i).value t
    | 49 => e.n (Od.CNT_WIN.last i)
    | 50 =>
      if i < 16 then e.n (Od.CNT_OCC.above_ticks i) else if i < 32 then e.n (Od.CNT_OCC.crossings (i - 16)) else 0
    | _ => 0

/-- The live wrap bits of page `g`; page 49's read zero (Table 19-3). -/
def Eng.pageWrap (e : Eng) (g : Nat) : Nat := if g = 49 then 0 else tgetD e.ctr.wrap g 0

/-- A page never captured. -/
def PageSnap.zero : PageSnap := ⟨0, 0, 0, []⟩

/-- A page captured at the present tick, after the capture `old` (R340). -/
def Eng.capture (e : Eng) (x : Ctx) (g : Nat) (old : PageSnap) : PageSnap :=
  ⟨(old.sequence + 1) % 2 ^ 32, x.tick, e.pageWrap g, (List.range 64).map (fun i => e.pageValue x.tick g i)⟩

/-- Capture page `g`, 0 to 50: sequence and tick follow, source 227 is latched (R340, R385, Table 16-9a). -/
def Eng.snapPage (e : Eng) (x : Ctx) (g : Nat) : Eng :=
  if 50 < g then e
  else
    let p := e.capture x g (tgetD e.ctr.pages g PageSnap.zero)
    ({ e with ctr := { e.ctr with pages := tput e.ctr.pages g p } }.set Od.CNT_CTRL.last_snap_tick x.tick).irqLatch x 227

/-- Capture every page of a mask at one tick; bits above 50 are ignored (R385). -/
def Eng.snapMask (e : Eng) (x : Ctx) (mask : Nat) : Eng :=
  (List.range 51).foldl (fun e g => if bitOf mask g then e.snapPage x g else e) e

/-- The counter behind wrap bit `i` of page `g` has wrapped in tick `t`. -/
def Eng.wrapsNow (e : Eng) (t g i : Nat) : Bool :=
  let c := if g < 48 then tgetD e.ctr.ev (64 * g + i) Counter.zero else if g = 48 then e.winCtr i else Counter.zero
  c.tick == t && decide (c.total < c.inTick)

/-- A write of wrap_clear: the bits written as 1 are cleared, but for those of a counter that wraps in this tick (R340, R382). -/
def Eng.wrapClear (e : Eng) (x : Ctx) (g mask : Nat) : Eng :=
  if g = 49 ∨ 50 < g then e
  else
    let w := tgetD e.ctr.wrap g 0
    let left := (List.range 64).foldl (fun m i =>
      if bitOf w i && (!bitOf mask i || e.wrapsNow x.tick g i) then m + 2 ^ i else m) 0
    { e with ctr := { e.ctr with wrap := if left = 0 then tdel e.ctr.wrap g else tput e.ctr.wrap g left } }

/-! ## Window counters (R386, R387) -/

/-- Some window counter holds an event that is not yet active. -/
def Eng.pendingEvent (e : Eng) : Bool := (List.range 64).any (fun w => e.n (Od.CNT_WIN.event w) != e.activeEvent w)

/-- A window boundary of counter `w`: last takes the count, the next window opens with the pending event, and counts what that event
counted in this tick; a second boundary in one tick is the same one (R386, R387, R381). -/
def Eng.closeWindow (e : Eng) (x : Ctx) (w : Nat) : Eng :=
  if e.n (Od.CNT_WIN.windows w) ≠ 0 ∧ e.n (Od.CNT_WIN.close_tick w) = x.tick then e
  else
    let ev := e.n (Od.CNT_WIN.event w)
    let src := tgetD e.ctr.ev ev Counter.zero
    let n := if src.tick = x.tick then src.inTick else 0
    let e := e.setAll [(Od.CNT_WIN.last w, ((e.winCtr w).value x.tick : Int)), (Od.CNT_WIN.last_open w, e.i (Od.CNT_WIN.open_tick w)),
      (Od.CNT_WIN.close_tick w, (x.tick : Int)), (Od.CNT_WIN.open_tick w, (x.tick : Int))]
    let e := e.inc32 (Od.CNT_WIN.windows w)
    { e with ctr := { e.ctr with
        win := if n = 0 then tdel e.ctr.win w else tput e.ctr.win w ⟨n, x.tick, n⟩
        active := if ev = 0xFFFF then tdel e.ctr.active w else tput e.ctr.active w ev } }

/-- Close the windows of a mask (R386). -/
def Eng.closeWindows (e : Eng) (x : Ctx) (mask : Nat) : Eng :=
  (List.range 64).foldl (fun e w => if bitOf mask w then e.closeWindow x w else e) e

/-- A write of a window counter's event or close (R386, R387). -/
def cntWinWrite (x : Ctx) (w : Nat) (vs : List (Key × Int)) (e : Eng) : WriteRes :=
  if vs.any (fun p => p.1 == Od.CNT_WIN.event w && !(decide (p.2 ≤ 0xBFF) || p.2 == 0xFFFF)) then (stRange, e)
  else
    let e := vs.foldl (fun e p => if p.1 = Od.CNT_WIN.event w then e.set p.1 p.2 else e) e
    let e := if e.pendingEvent then e.orb Od.CNT_STATUS.sticky 4 else e
    (stOk, if vs.any (fun p => p.1 == Od.CNT_WIN.close w && p.2 == 1) then e.closeWindow x w else e)

/-- A write of CNT_STATUS.sticky: PENDING_EVENT stays while an event is pending (R393). -/
def cntStickyClear (v : Int) (e : Eng) : WriteRes :=
  let e := e.andc Od.CNT_STATUS.sticky v.toNat
  (stOk, if e.pendingEvent then e.orb Od.CNT_STATUS.sticky 4 else e)

/-! ## Occupancy-threshold counters (R388) -/

/-- The number of instances of an occupancy source and the top of its range (Table 19-4). -/
def occRange : Nat → Option (Nat × Nat)
  | 1 => some (16, 64)
  | 2 => some (16, 5280)
  | 3 => some (32, 65536)
  | 4 => some (32, 64)
  | 5 => some (32, 100)
  | 6 => some (1, 64)
  | 7 => some (4, 64)
  | 8 => some (1, 100)
  | _ => none

/-- A sample of an occupancy (Table 19-4). -/
def Eng.occupancy (e : Eng) (x : Ctx) (source inst : Nat) : Nat :=
  match source with
  | 1 => (e.pipe inst).queue.length
  | 2 => e.aesUsed x inst / 256
  | 3 => (e.cal inst).resv.length
  | 4 => (nth e.tails inst Tail.atReset).entries.length
  | 5 => (e.port inst).held * 100 / max 1 Config.rxBufferBytes
  | 6 => e.front.queue.length
  | 7 => (nth e.pk.queues inst []).length
  | 8 => e.n Od.MGMT_LOAD.util_pct
  | _ => 0

/-- Count one in an occupancy counter of page 50, which wraps at 48 bits with its wrap bit. -/
def Eng.occCount (e : Eng) (k : Key) (i : Nat) : Eng :=
  let v := e.n k
  let e := e.set k ((v + 1) % 2 ^ 48 : Nat)
  if v + 1 = 2 ^ 48 then e.wrapBit 50 i else e

/-- The sample of occupancy counter `o` in the present tick (R388). -/
def Eng.occSample (e : Eng) (x : Ctx) (o : Nat) : Eng :=
  let v := e.occupancy x (e.n (Od.CNT_OCC.source o)) (e.n (Od.CNT_OCC.instance_ o))
  let above := decide (e.n (Od.CNT_OCC.threshold o) ≤ v)
  let was := tgetD e.ctr.occAbove o false
  let e := { e with ctr := { e.ctr with occAbove := if above then tput e.ctr.occAbove o true else tdel e.ctr.occAbove o } }
  if !e.b (Od.CNT_OCC.enable o) then e
  else
    let e := if e.n (Od.CNT_OCC.peak o) < v then e.set (Od.CNT_OCC.peak o) v else e
    let e := if above then e.occCount (Od.CNT_OCC.above_ticks o) o else e
    if above && !was then (e.occCount (Od.CNT_OCC.crossings o) (16 + o)).irqLatch x (208 + o) else e

/-- Every occupancy counter samples. -/
def Eng.occSampleAll (e : Eng) (x : Ctx) : Eng := (List.range 16).foldl (fun e o => e.occSample x o) e

/-- A write of an occupancy counter: its source, instance and threshold as they would stand lie in Table 19-4; after a change of one
of them the next sample is compared as if the last had been below (R388); 1 to peak_clear clears the peak. -/
def cntOccWrite (o : Nat) (vs : List (Key × Int)) (e : Eng) : WriteRes :=
  let s := vs.foldl (fun s p => sset s p.1 p.2) e.od
  let n (k : Key) : Nat := (sget s k).toNat
  let ok := match occRange (n (Od.CNT_OCC.source o)) with
    | some r => n (Od.CNT_OCC.instance_ o) < r.1 && 1 ≤ n (Od.CNT_OCC.threshold o) && n (Od.CNT_OCC.threshold o) ≤ r.2
    | none => false
  if names vs [Od.CNT_OCC.source o, Od.CNT_OCC.instance_ o, Od.CNT_OCC.threshold o] && !ok then (stRange, e)
  else
    let e := vs.foldl (fun e p => if p.1 = Od.CNT_OCC.peak_clear o then (if p.2 = 1 then e.set (Od.CNT_OCC.peak o) 0 else e)
      else e.set p.1 p.2) e
    let touched := vs.any (fun p => p.1 == Od.CNT_OCC.source o || p.1 == Od.CNT_OCC.instance_ o || p.1 == Od.CNT_OCC.threshold o)
    (stOk, if touched then { e with ctr := { e.ctr with occAbove := tdel e.ctr.occAbove o } } else e)

/-! ## User views (R391, R392) -/

/-- A snap write of the user view of page `g`: captured into the view alone, while its mask bit is 1. -/
def Eng.snapView (e : Eng) (x : Ctx) (g : Nat) : Eng :=
  if g < 50 && bitOf (e.n Od.CNT_USER.mask) g then
    { e with ctr := { e.ctr with views := tput e.ctr.views g (e.capture x g (tgetD e.ctr.views g PageSnap.zero)) } }
  else e

/-- A write of the user mask: the views whose bits clear lose their captured values. -/
def cntUserWrite (v : Int) (e : Eng) : WriteRes :=
  let old := e.n Od.CNT_USER.mask
  let views := e.ctr.views.map (fun p =>
    if bitOf old p.1 && !bitOf v.toNat p.1 then (p.1, { p.2 with tick := 0, wrap := 0, values := [] }) else p)
  (stOk, ({ e with ctr := { e.ctr with views := views } }).set Od.CNT_USER.mask v)

/-- What a user view shows: nothing while its mask bit is 0 (R392). -/
def Eng.viewOf (e : Eng) (g : Nat) : PageSnap :=
  if bitOf (e.n Od.CNT_USER.mask) g then tgetD e.ctr.views g PageSnap.zero else PageSnap.zero

/-! ## Parity and the free-running events (R383, R390) -/

/-- A parity error of a counter: it keeps counting, and row 1 of block 17 is raised (R390). -/
def Eng.counterParity (e : Eng) (x : Ctx) (which : Nat) : Eng :=
  let e := (e.inc32 Od.CNT_STATUS.parity_errors).set Od.CNT_STATUS.last_bad which
  (e.orb Od.CNT_STATUS.sticky 1).detect x 17 1 0

/-- The core-clock cycles of tick `t`: 1 and 2 in alternate ticks, in the order the phase φ of this reset gives (R383). -/
def coreCycles (phase t : Nat) : Nat := if (t + Config.corePhase phase) % 2 = 0 then 1 else 2

/-- The events every tick counts: TICKS and CORE_CYCLES (Table 19-2). -/
def Eng.countTick (e : Eng) (x : Ctx) : Eng :=
  (e.count x 0xB10).countN x 0xB12 (coreCycles e.ctr.phase x.tick)

/-! ## The commands -/

/-- COUNTER_PAGE_SNAP (R340). -/
def execCounterPageSnap (page : Fin 64) (s : State) : Host.Outcome State Fault Refusal :=
  overLink (fun x e => e.snapPage x page) s

/-- WRAP_CLEAR (R340). -/
def execWrapClear (page : Fin 64) (mask : Nat) (s : State) : Host.Outcome State Fault Refusal :=
  overLink (fun x e => e.wrapClear x page mask) s

/-- A write of CNT_CTRL.snap_mask. -/
def snapMaskWrite (x : Ctx) (v : Int) (e : Eng) : WriteRes := (stOk, e.snapMask x v.toNat)

/-- SNAP_MASK_WRITE (R385). -/
def execSnapMaskWrite (mask roles : Nat) (s : State) : Host.Outcome State Fault Refusal :=
  lift (fun x e => e.writeCmd x Od.CNT_CTRL.snap_mask mask roles (snapMaskWrite x mask)) s

/-- CNT_WIN_CLOSE (R386). -/
def execCntWinClose (window : Fin 64) (value roles : Nat) (s : State) : Host.Outcome State Fault Refusal :=
  lift (fun x e => e.writeCmd x (Od.CNT_WIN.close window) value roles
    (cntWinWrite x window [(Od.CNT_WIN.close window, (value : Int))])) s

/-- CNT_WIN_EVENT_WRITE (R387). -/
def execCntWinEventWrite (window : Fin 64) (value roles : Nat) (s : State) : Host.Outcome State Fault Refusal :=
  lift (fun x e => e.writeCmd x (Od.CNT_WIN.event window) value roles
    (cntWinWrite x window [(Od.CNT_WIN.event window, (value : Int))])) s

/-- CNT_OCC_WRITE (R388). -/
def execCntOccWrite (occ : Fin 16) (w : RecWrite) (roles : Nat) (s : State) : Host.Outcome State Fault Refusal :=
  lift (fun x e => e.recCmd x 0x68 (0x140 + occ) w roles (cntOccWrite occ)) s

/-- PEAK_CLEAR (R388). -/
def execPeakClear (occ : Fin 16) (value roles : Nat) (s : State) : Host.Outcome State Fault Refusal :=
  lift (fun x e => e.writeCmd x (Od.CNT_OCC.peak_clear occ) value roles
    (cntOccWrite occ [(Od.CNT_OCC.peak_clear occ, (value : Int))])) s

/-- USER_VIEW_SNAP (R392). -/
def execUserViewSnap (page : Fin 50) (s : State) : Host.Outcome State Fault Refusal :=
  overLink (fun x e => e.snapView x page) s

/-- CNT_USER_MASK_WRITE (R392). -/
def execCntUserMaskWrite (mask roles : Nat) (s : State) : Host.Outcome State Fault Refusal :=
  lift (fun x e => e.writeCmd x Od.CNT_USER.mask mask roles (cntUserWrite mask)) s

end Sys2Proof.Machine
end

