-- ==== Sys2Proof/Machine/Fixed.lean ====
section
/-! DEFINITION. Fixed-point numbers for the quantities the manual computes with and states no internal precision for (the
loop filter, the oscillator model, the slicer's walk): integers in units of 2^-96, every product and quotient rounded
down (DESIGN CHOICE, notes/assumptions/20.md). -/

namespace Sys2Proof.Machine

/-- A number in units of 2^-96. -/
abbrev Fx := Int

/-- One. -/
def fxOne : Fx := (2 ^ 96 : Nat)

/-- A fraction n / d. -/
def fxOf (n : Int) (d : Nat) : Fx := (n * fxOne).fdiv d

/-- The product. -/
def fxMul (a b : Fx) : Fx := (a * b).fdiv fxOne

/-- The quotient; 0 when the divisor is 0. -/
def fxDiv (a b : Fx) : Fx := if b = 0 then 0 else (a * fxOne).fdiv b

/-- The nearest integer, ties upward. -/
def fxRound (a : Fx) : Int := roundDiv a (2 ^ 96)

/-- A fractional frequency in FF units of 2^-64 (R10) as a number. -/
def fxOfFf (v : Int) : Fx := v * (2 ^ 32 : Nat)

/-- A number as an FF, rounded down. -/
def fxToFf (a : Fx) : Int := a.fdiv (2 ^ 32 : Nat)

/-- The square root of a number that is not negative. -/
def fxSqrt (a : Fx) : Fx := (isqrt (a * fxOne).toNat : Nat)

/-- π in units of 2^-96. -/
def fxPi : Fx := 248902613312231085230521944622

/-- ln 2 in units of 2^-96. -/
def fxLn2 : Fx := 54916777467707473351141471128

/-- log10 2 in units of 2^-96. -/
def fxLog10Two : Fx := 23850053418134191015272426710

/-- Normalise a positive number into [1, 2): its exponent and mantissa, over `n` doublings or halvings. -/
def fxNorm : Nat → Fx → Int × Fx
  | 0, a => (0, a)
  | n + 1, a =>
    if 2 * fxOne ≤ a then let r := fxNorm n (a.fdiv 2); (r.1 + 1, r.2)
    else if a < fxOne then let r := fxNorm n (a * 2); (r.1 - 1, r.2)
    else (0, a)

/-- The next `n` binary digits of the logarithm to base 2 of a mantissa. -/
def fxLog2Digits : Nat → Fx → Int → Int
  | 0, _, acc => acc
  | n + 1, m, acc =>
    let q := fxMul m m
    if 2 * fxOne ≤ q then fxLog2Digits n (q.fdiv 2) (2 * acc + 1) else fxLog2Digits n q (2 * acc)

/-- The logarithm to base 2 of a positive number, to 2^-64. -/
def fxLog2 (a : Fx) : Fx :=
  let r := fxNorm 160 a
  r.1 * fxOne + fxLog2Digits 64 r.2 0 * (2 ^ 32 : Nat)

/-- The natural logarithm. -/
def fxLn (a : Fx) : Fx := fxMul (fxLog2 a) fxLn2

/-- The logarithm to base 10. -/
def fxLog10 (a : Fx) : Fx := fxMul (fxLog2 a) fxLog10Two

/-- arctan t = 2 arctan(t / (1 + √(1 + t²))): `n` times. -/
def fxHalve : Nat → Fx → Fx
  | 0, t => t
  | n + 1, t => fxHalve n (fxDiv t (fxOne + fxSqrt (fxOne + fxMul t t)))

/-- The terms of the arctangent's series from t^(2i+1) on. -/
def fxAtanSeries : Nat → Nat → Fx → Fx → Fx
  | 0, _, _, _ => 0
  | n + 1, i, p, t2 =>
    (if i % 2 = 0 then p.fdiv (2 * i + 1 : Nat) else -(p.fdiv (2 * i + 1 : Nat))) + fxAtanSeries n (i + 1) (fxMul p t2) t2

/-- The arctangent. -/
def fxAtan (t : Fx) : Fx :=
  let u := fxHalve 8 t
  256 * fxAtanSeries 8 0 u (fxMul u u)

/-- The arcsine of a number in [−1, 1]. -/
def fxAsin (r : Fx) : Fx :=
  let c := fxSqrt (fxOne - fxMul r r)
  2 * fxAtan (fxDiv r (fxOne + c))

end Sys2Proof.Machine
end

