-- ==== Sys2Proof/Machine/Osc.lean ====
section
/-! DEFINITION. The oscillator model (spec/13_steering_holdover.md R291 to R293): its temperature, its prediction, its fit by
recursive least squares, its uncertainties, and the error a moon may have gathered without a reference (R287). -/

namespace Sys2Proof.Machine

/-- A value of areas 28 and 2C in force since the last boundary (R277, R295). -/
def Eng.cfg (e : Eng) (k : Key) : Int := sget e.sel.cfg k

/-- The same as a number. -/
def Eng.cfgN (e : Eng) (k : Key) : Nat := (e.cfg k).toNat

/-- Change the model. -/
def Eng.modModel (e : Eng) (f : OscModel → OscModel) : Eng := { e with model := f e.model }

/-- A mean of integers, rounded down; 0 of none. -/
def meanOf (l : List Int) : Int := if l.isEmpty then 0 else (l.foldl (· + ·) 0).fdiv l.length

/-- Insert into an ascending list. -/
def insertInt (a : Int) : List Int → List Int
  | [] => [a]
  | b :: t => if a ≤ b then a :: b :: t else b :: insertInt a t

/-- The median; of an even count the mean of the two middle values (R263). -/
def medianOf (l : List Int) : Int :=
  let s := l.foldr insertInt []
  let n := s.length
  if n % 2 = 1 then nth s (n / 2) 0 else (nth s (n / 2 - 1) 0 + nth s (n / 2) 0).fdiv 2

/-- Seconds of moon 0 between two short times, in 2^-96. -/
def fxSeconds (from_ until_ : Nat) : Fx := fxOf (stDiff until_ from_) unitsPerSec

/-! ## Temperature (R292) -/

/-- A TEMP of 1/128 °C as a number. -/
def fxOfTemp (t : Int) : Fx := fxOf t 128

/-- The thermistor's temperature for a resistance in ohms. -/
def thermistor (r nominal beta : Nat) : Fx :=
  let inv := fxDiv fxOne (fxOf 29815 100) + (fxLn (fxOf r nominal)).fdiv beta
  fxDiv fxOne inv - fxOf 27315 100

/-- A thermistor reading within 100 Ω to 10 MΩ. -/
def thermOk (r : Nat) : Bool := 100 ≤ r && r ≤ 10000000

/-- The mean of the die sensors that are not excluded. -/
def Eng.dieMean (e : Eng) (dies : List Int) : Fx :=
  meanOf ((List.range 16).filterMap (fun i =>
    if e.model.excluded.contains i then none else some (fxOfTemp (nth dies i 0))))

/-- The temperature of the source in force. -/
def Eng.tempNow (e : Eng) (r : Nat) (dies : List Int) : Fx :=
  let src := e.cfgN Od.STEER_OSC.temp_source
  if src = 0 then
    if thermOk r then thermistor r (e.cfgN Od.STEER_OSC.therm_nominal) (e.cfgN Od.STEER_OSC.therm_beta) else e.dieMean dies
  else if src = 1 then e.dieMean dies
  else fxOfTemp (nth dies (src - 2) 0)

/-- The slope of a least-squares line through samples of (moon 0 short time, value), per second. -/
def slopeOf (now : Nat) (l : List (Nat × Int)) : Fx :=
  let pts := l.map (fun p => (fxSeconds now p.1, p.2))
  let mt := meanOf (pts.map (fun p => p.1))
  let mv := meanOf (pts.map (fun p => p.2))
  let sxy := pts.foldl (fun s p => s + fxMul (p.1 - mt) (p.2 - mv)) 0
  let sxx := pts.foldl (fun s p => s + fxMul (p.1 - mt) (p.1 - mt)) 0
  fxDiv sxy sxx

/-- Die sensors more than 10 °C from the median of the 16 are excluded until reset. -/
def Eng.excludeDies (e : Eng) (x : Ctx) (dies : List Int) : Eng :=
  let med := medianOf ((List.range 16).map (fun i => nth dies i 0))
  (List.range 16).foldl (fun e i =>
    if !e.model.excluded.contains i && 1280 < (nth dies i 0 - med).natAbs then
      ((e.modModel (fun m => { m with excluded := i :: m.excluded })).orb Od.STEER_GLOBAL.sticky 4).condOn x 12 5 i
    else e) e

/-- A thermistor out of range is a fault while it lasts. -/
def Eng.checkTherm (e : Eng) (x : Ctx) (r : Nat) : Eng :=
  if e.cfgN Od.STEER_OSC.temp_source = 0 ∧ !thermOk r then (e.condOn x 12 5 16).orb Od.STEER_GLOBAL.sticky 2
  else e.condOff x 12 5 16

/-- The boundary's temperature samples: STEER_TEMP, T as the mean over 1 s, and dT/dt over 64 s. -/
def Eng.sampleTemp (e : Eng) (x : Ctx) (r : Nat) (dies : List Int) : Eng :=
  let e := (e.excludeDies x dies).checkTherm x r
  let now := x.st 0
  let ts := (now, e.tempNow r dies) :: e.model.temps.filter (fun p => stDiff now p.1 < 64 * secU)
  let t := meanOf ((ts.filter (fun p => stDiff now p.1 < secU)).map (fun p => p.2))
  let e := e.modModel (fun m => { m with temps := ts, temp := t, rate := slopeOf now ts })
  let e := (List.range 16).foldl (fun e i => e.set (Od.STEER_TEMP i) (nth dies i 0)) e
  e.set (Od.STEER_TEMP 16) (if thermOk r then
    clampInt (-32768) 32767 (fxRound (128 * thermistor r (e.cfgN Od.STEER_OSC.therm_nominal) (e.cfgN Od.STEER_OSC.therm_beta)))
    else e.i (Od.STEER_TEMP 16))

/-! ## The fit (R291, R293) -/

/-- The seed's coefficients, in FF units times 2^96. -/
def Eng.seedCoef (e : Eng) : List Int :=
  [e.i Od.OSC_SEED.f0, e.i Od.OSC_SEED.t1, e.i Od.OSC_SEED.t2, e.i Od.OSC_SEED.tr, e.i Od.OSC_SEED.age_log,
    e.i Od.OSC_SEED.age_lin].map (fun v => v * fxOne)

/-- The prior covariance: seed_uncert² on f0, and of the others a free value (the manual gives none). -/
def Eng.priorCov (e : Eng) : List (List Int) :=
  tabulate 6 (fun i => tabulate 6 (fun j =>
    if i ≠ j then 0
    else if i = 0 then e.cfg Od.STEER_OSC.seed_uncert * e.cfg Od.STEER_OSC.seed_uncert * fxOne
    else (Config.fitPrior i : Nat)))

/-- The fit starts from OSC_SEED. -/
def Eng.modelSeed (e : Eng) : Eng :=
  e.modModel (fun m => { m with
    coef := e.seedCoef, cov := e.priorCov, seeded := true, obs := 0, residuals := [], badRun := 0 })

/-- The days of moon 0 time since age_epoch. -/
def Eng.ageDays (e : Eng) (x : Ctx) : Fx :=
  fxOf (max 0 ((x.lin 0 : Int) - wtUnits (e.n Od.STEER_OSC.age_epoch))) (86400 * unitsPerSec)

/-- The regressors of the model at the present temperature and age. -/
def Eng.regressors (e : Eng) (x : Ctx) : List Int :=
  let dt := e.model.temp - fxOfTemp (e.cfg Od.STEER_OSC.t0)
  let d := if e.n Od.STEER_OSC.age_epoch = 0 then 0 else e.ageDays x
  [fxOne, dt, fxMul dt dt, e.model.rate, fxLog10 (fxOne + d), d]

/-- An inner product. -/
def fxDot (a b : List Int) : Fx := (List.zipWith fxMul a b).foldl (· + ·) 0

/-- ŷ of the model as a number (R291). -/
def Eng.modelY (e : Eng) (x : Ctx) : Fx := (fxDot e.model.coef (e.regressors x)).fdiv (2 ^ 64 : Nat)

/-- One observation by recursive least squares with forgetting factor 1 − 1/fit_tau; `y` in FF units. -/
def OscModel.observe (m : OscModel) (phi : List Int) (tau : Nat) (y : Fx) : OscModel :=
  let lam := fxOne - fxOf 1 tau
  let pphi := m.cov.map (fun row => fxDot row phi)
  let den := fxMul lam (Config.fitNoise : Nat) + fxDot phi pphi
  let gain := pphi.map (fun v => fxDiv v den)
  let r := y - fxDot m.coef phi
  { m with
    coef := List.zipWith (fun c g => c + fxMul g r) m.coef gain
    cov := List.zipWith (fun row g => List.zipWith (fun v pj => fxDiv (v - fxMul g pj) lam) row pphi) m.cov gain
    obs := (m.obs + 1) % 2 ^ 32, residuals := (r :: m.residuals).take 3600 }

/-- The RMS of the residuals, in FF units. -/
def OscModel.rms (m : OscModel) : Fx :=
  if m.residuals.isEmpty then 0
  else
    let s : Int := m.residuals.foldl (fun (s r : Int) => s + (r / (2 ^ 96 : Nat)) * (r / (2 ^ 96 : Nat))) 0
    (isqrt (s.toNat / m.residuals.length) : Nat) * fxOne

/-- The model is valid: fit_min observations since the fit last started, and its copies agree (R293, R294). -/
def Eng.modelValid (e : Eng) : Bool := !e.model.dead && e.cfgN Od.STEER_OSC.fit_min ≤ e.model.obs

/-- u_y as a number: three times residual_rms, at least 0.001 ppb; seed_uncert while the model is not valid (R289, R291). -/
def Eng.uY (e : Eng) : Fx :=
  if e.modelValid then fxOfFf (max 18446744 ((3 * e.model.rms).fdiv fxOne)) else fxOfFf (e.cfg Od.STEER_OSC.seed_uncert)

/-- Three standard deviations of coefficient `i`, in FF units (R291). -/
def OscModel.sigma3 (m : OscModel) (i : Nat) : Int := 3 * (isqrt ((nth (nth m.cov i []) i 0) / (2 ^ 96 : Nat)).toNat : Nat)

/-- Show the model in STEER_MODEL. -/
def Eng.showModel (e : Eng) : Eng :=
  let c (i : Nat) : Int := sat64 (fxRound (nth e.model.coef i 0))
  let e := e.setAll [(Od.STEER_MODEL.f0, c 0), (Od.STEER_MODEL.t1, c 1), (Od.STEER_MODEL.t2, c 2), (Od.STEER_MODEL.tr, c 3),
    (Od.STEER_MODEL.age_log, c 4), (Od.STEER_MODEL.age_lin, c 5), (Od.STEER_MODEL.y_pred, sat64 (fxToFf e.model.y)),
    (Od.STEER_MODEL.u_y, sat64 (fxToFf e.uY)), (Od.STEER_MODEL.u_a, sat64 (e.model.sigma3 5)),
    (Od.STEER_MODEL.u_t, sat64 (e.model.sigma3 1)), (Od.STEER_MODEL.residual_rms, sat64 (e.model.rms.fdiv fxOne)),
    (Od.STEER_MODEL.observations, e.model.obs), (Od.STEER_MODEL.valid, (boolNat e.modelValid : Nat)),
    (Od.STEER_MODEL.temperature, clampInt (-32768) 32767 (fxRound (128 * e.model.temp)))]
  e.set Od.STEER_MODEL.temp_rate (clampInt (-(2 ^ 31 : Nat)) (2 ^ 31 - 1 : Nat) ((e.model.rate * 65536).fdiv fxOne))

/-- The model at a boundary: seeded at its first, ŷ and the phase it predicts for the coming boundary (R261, R291). -/
def Eng.modelBoundary (e : Eng) (x : Ctx) : Eng :=
  let e := if e.model.seeded then e else e.modelSeed
  let e := if e.n Od.STEER_OSC.age_epoch = 0 ∧ (e.moon 0).cur.state = .locked then
    e.set Od.STEER_OSC.age_epoch (wtOf (x.lin 0) : Nat) else e
  let y := e.modelY x
  (e.modModel (fun m => { m with phase := m.phase + (2 ^ 20 : Nat) * m.y, y := y })).showModel

/-! ## Prediction of error (R287) -/

/-- A prediction of error that begins at a moon 0 short time with bound `b`. -/
def Eng.holdStart (e : Eng) (now : Nat) (b : Int) : HoldEntry where
  since := now
  last := now
  bound := b
  temp := e.model.temp
  uY := e.uY
  uA := fxOfFf (e.model.sigma3 5)
  uT := fxOfFf (e.model.sigma3 1)
  yPhase := 0
  age := 0
  tempSum := 0
  drift := 0

/-- One boundary on: with a FREQUENCY slot selected its own uncertainty runs in place of u_y, and ageing and temperature
stop. -/
def Eng.holdRun (e : Eng) (h : HoldEntry) (now : Nat) (freq : Option Fx) : HoldEntry :=
  let dt := fxSeconds h.last now
  match freq with
  | some u => { h with last := now, yPhase := h.yPhase + fxMul u dt }
  | none => { h with
      last := now, yPhase := h.yPhase + fxMul h.uY dt, age := h.age + dt
      tempSum := h.tempSum + fxMul ((e.model.temp - h.temp).natAbs : Nat) dt }

/-- b(t) in 2^-16 ns, rounded up, saturated (R286, R287). -/
def HoldEntry.value (h : HoldEntry) : Int :=
  let secs := h.yPhase + fxMul h.uA (fxMul h.age h.age) / (2 * 86400) + fxMul h.uT h.tempSum
  let units := -((-(secs * (unitsPerSec : Nat))).fdiv fxOne)
  sat64 (h.bound + units + ((h.drift.natAbs + 2 ^ 32 - 1) / 2 ^ 32 : Nat))

end Sys2Proof.Machine
end

