-- ==== Sys2Proof/Machine/Slots.lean ====
section
/-! DEFINITION. The selector's candidate slots (spec/12_selection.md R256 to R263): what binds a slot, its use, rank and
comparison rate, raw offsets, and what a slot implies of a moon's count. -/

namespace Sys2Proof.Machine

/-! ## Parts of the state -/

/-- Candidate slot `s`. -/
def Eng.slot (e : Eng) (s : Nat) : SelSlot := nth e.sel.slots s SelSlot.atReset

/-- Change slot `s`. -/
def Eng.modSlot (e : Eng) (s : Nat) (f : SelSlot → SelSlot) : Eng :=
  { e with sel := { e.sel with slots := modNth e.sel.slots s f } }

/-- Moon `k`'s selection. -/
def Eng.selMoon (e : Eng) (k : Nat) : SelMoon := nth e.sel.moons k SelMoon.atReset

/-- Change moon `k`'s selection. -/
def Eng.modSelMoon (e : Eng) (k : Nat) (f : SelMoon → SelMoon) : Eng :=
  { e with sel := { e.sel with moons := modNth e.sel.moons k f } }

/-- Moon `k`'s steering unit. -/
def Eng.unit (e : Eng) (k : Nat) : SteerUnit := nth e.steer k SteerUnit.atReset

/-- Change moon `k`'s steering unit. -/
def Eng.modUnit (e : Eng) (k : Nat) (f : SteerUnit → SteerUnit) : Eng := { e with steer := modNth e.steer k f }

/-! ## Binding (R256) -/

/-- The code of a source: its kind in bits 15:8 and its instance. -/
def srcRefin (n : Nat) : Nat := 0x100 + n
/-- A SyncE comparator. -/
def srcSynce (c : Nat) : Nat := 0x200 + c
/-- A GNSS front end. -/
def srcGnss (f : Nat) : Nat := 0x300 + f
/-- A PTP upstream unit. -/
def srcUp (u : Nat) : Nat := 0x400 + u

/-- Every source that names a slot of a store, with the slot. A PTP_UP names its slot while it is enabled
(notes/assumptions/21.md). -/
def bindings (s : Store) : List (Nat × Nat) :=
  let v (k : Key) : Nat := (sget s k).toNat
  (List.range 8).map (fun n => (srcRefin n, v (Od.REFIN_CFG.slot n))) ++
  (List.range 32).map (fun c => (srcSynce c, v (Od.SYNCE_CFG.slot c))) ++
  (List.range 2).map (fun f => (srcGnss f, v (Od.GNSS_FE.slot f))) ++
  (List.range 16).filterMap (fun u =>
    if v (Od.PTP_UP.enable u) = 1 then some (srcUp u, v (Od.PTP_UP.slot u)) else none)

/-- The source that names slot `s`, or 0. -/
def sourceOf (st : Store) (s : Nat) : Nat :=
  match (bindings st).find? (fun p => p.2 == s) with
  | some p => p.1
  | none => 0

/-- A value for a slot member is a slot or none, and no other source names it in the store as it would stand: RANGE or
DUPLICATE. -/
def slotCheck (st : Store) (src v : Nat) : Nat :=
  if 63 < v ∧ v ≠ 0xFF then stRange
  else if v ≠ 0xFF ∧ (bindings st).any (fun p => p.1 != src && p.2 == v) then stDuplicate
  else stOk

/-! ## Rank, use and rate (Table 12-1) -/

/-- The kind of a source. -/
def srcKind (src : Nat) : Nat := src / 256

/-- The instance of a source. -/
def srcInst (src : Nat) : Nat := src % 256

/-- The source is up. -/
def Eng.srcUpNow (e : Eng) (src : Nat) : Bool :=
  let i := srcInst src
  match srcKind src with
  | 1 => e.n (Od.REFIN_STATUS.state i) == 3
  | 2 => e.n (Od.SYNCE_STATUS.state i) == 3
  | 3 => e.n (Od.GNSS_FE_STATUS.state i) == 5
  | 4 => e.n (Od.PTP_UP_STATUS.state i) == 2
  | _ => false

/-- The rank of a quality level (Table 12-1), none for a fixed 255. -/
def qlRank (ql : Nat) : Option Nat :=
  if ql = 2 ∨ ql = 1 then some 70 else if ql = 4 ∨ ql = 7 then some 80 else if ql = 8 ∨ ql = 0xD then some 90
  else if ql = 0xB ∨ ql = 0xA then some 100 else none

/-- The rank of a source and whether its row is fixed. -/
def Eng.srcRank (e : Eng) (src : Nat) : Nat × Bool :=
  let i := srcInst src
  match srcKind src with
  | 1 =>
    if e.n (Od.REFIN_CFG.source i) = 0 then (40, false)
    else (if e.i (Od.REFIN_MEAS.sibling_bound i) ≤ (ns16 100 : Nat) then 30 else 60, false)
  | 2 =>
    if e.b (Od.SYNCE_STATUS.ql_valid i) then
      match qlRank (e.n (Od.SYNCE_STATUS.ql i)) with
      | some r => (r, false)
      | none => (255, true)
    else (255, false)
  | 3 => (if bitOf (e.n (Od.GNSS_SOL.flags i)) 5 then 10 else 20, false)
  | 4 =>
    let c := e.n (Od.PTP_UP_STATUS.clock_class i)
    if 248 ≤ c then (255, true)
    else (if c = 6 then 30 else if c = 7 then 40 else if 8 ≤ c ∧ c ≤ 127 then 50 else if 128 ≤ c then 120 else 30, false)
  | _ => (255, false)

/-- The rank in force of slot `s` (R257). -/
def Eng.slotRank (e : Eng) (s : Nat) : Nat :=
  let r := e.srcRank (e.slot s).source
  let o := e.cfgN (Od.SEL_SLOT.rank_override s)
  if r.2 ∨ o = 0xFF then r.1 else o

/-- A REFIN's measurements carry frequency_only: FREQ mode with a compare period shorter than 1 s (R220). -/
def Eng.refinFreqOnly (e : Eng) (n : Nat) : Bool := e.n (Od.REFIN_CFG.mode n) == 1 && 1 < e.n (Od.REFIN_CFG.compare_hz n)

/-- A REFIN's delay is not calibrated (R220). -/
def Eng.refinUncal (e : Eng) (n : Nat) : Bool := e.n (Od.REFIN_CAL.origin n) == 2

/-- A front end's calibration is not complete (R252): an item of either band has origin INVALID. -/
def Eng.gnssUncal (e : Eng) (f : Nat) : Bool :=
  (List.range 2).any (fun b =>
    e.n (Od.GNSS_CAL.antenna_origin (2 * f + b)) == 2 || e.n (Od.GNSS_CAL.cable_origin (2 * f + b)) == 2)

/-- The use of a source: 0 NONE, 1 FREQUENCY, 2 TIME (R257). -/
def Eng.srcUse (e : Eng) (src : Nat) : Nat :=
  let i := srcInst src
  match srcKind src with
  | 1 => if e.refinFreqOnly i || e.refinUncal i then 1 else 2
  | 2 => 1
  | 3 => if e.gnssUncal i then 1 else 2
  | 4 => 2
  | _ => 0

/-- The comparison rate of a source in mHz (Table 12-1). -/
def Eng.srcRate (e : Eng) (src : Nat) : Nat :=
  let i := srcInst src
  match srcKind src with
  | 1 => 1000 * (if e.n (Od.REFIN_CFG.mode i) = 0 then 1 else e.n (Od.REFIN_CFG.compare_hz i))
  | 2 => 953674
  | 3 => 1000 * e.n Od.GNSS_GLOBAL.solve_hz
  | 4 =>
    let l := e.i (Od.PTP_UP.log_sync i)
    if 0 ≤ l then 1000 / 2 ^ l.toNat else 1000 * 2 ^ (-l).toNat
  | _ => 0

/-- The use of slot `s`. -/
def Eng.slotUse (e : Eng) (s : Nat) : Nat := if s < 64 then e.srcUse (e.slot s).source else 0

/-- The comparison rate of slot `s` in mHz, at least 1. -/
def Eng.slotRate (e : Eng) (s : Nat) : Nat := max 1 (e.srcRate (e.slot s).source)

/-- The comparison period of slot `s` in 2^-16 ns. -/
def Eng.slotPeriod (e : Eng) (s : Nat) : Nat := unitsPerSec * 1000 / e.slotRate s

/-! ## Moon counts at past ticks (R258) -/

/-- Moon `k`'s count in 2^-48 ns and increment at a tick, from the records of the last 2^30 ticks. -/
def Eng.pastOf (e : Eng) (k tick : Nat) : Nat × Nat :=
  match (e.sel.past.find? (fun p => p.1 * 2 ^ 20 ≤ tick)) with
  | some p =>
    let m := nth p.2 k (0, 0)
    (m.1 + m.2 * (tick - p.1 * 2 ^ 20), m.2)
  | none => (0, 0)

/-- m(t): moon 0's count at a tick less the ticks in ns, in 2^-16 ns (R258). -/
def Eng.steered (e : Eng) (k tick : Nat) : Int := ((e.pastOf k tick).1 : Int).fdiv (2 ^ 32 : Nat) - (ns16 tick : Nat)

/-- Moon `k`'s active frequency offset at a tick, as an FF (R258). -/
def Eng.activeFf (e : Eng) (k tick : Nat) : Int := (((e.pastOf k tick).2 : Int) - (2 ^ 48 : Nat)) * 65536

/-- Keep the moons' counts at boundary `b` (R258, R31). -/
def Eng.keepPast (e : Eng) (x : Ctx) (b : Nat) : Eng :=
  let row := (List.range 32).map (fun k => (x.acc k, if (x.core.moon k).adv then x.inc k else 0))
  { e with sel := { e.sel with past := ((b, row) :: e.sel.past).take 1026 } }

/-! ## Raw offsets (R258, R259) -/

/-- A phase reduced into (−0.5 s, +0.5 s]. -/
def wrapSec (v : Int) : Int :=
  let r := v % secU
  if 2 * r ≤ secU then r else r - secU

/-- The phase a frequency offset in FF moves over a number of ticks, in 2^-16 ns (R10). -/
def ffPhase (ff : Int) (ticks : Int) : Int := (ff * ticks * 65536).fdiv (2 ^ 64 : Nat)

/-- A raw measurement projected to a tick by its raw frequency. -/
def RawMeas.at_ (r : RawMeas) (tick : Nat) : Int := r.raw - ffPhase r.ff ((tick : Int) - r.tick)

/-- The offset of a raw measurement against moon `k` at a tick. -/
def Eng.offsetOf (e : Eng) (r : RawMeas) (k tick : Nat) : Int :=
  let o := r.at_ tick + e.steered k tick
  if r.seconds then o else wrapSec o

/-- τ: the count of moon `k` that a raw measurement implies at a tick, in 2^-16 ns (R262). -/
def Eng.tauOf (e : Eng) (r : RawMeas) (k tick : Nat) : Int :=
  ((e.pastOf k tick).1 : Int).fdiv (2 ^ 32 : Nat) - e.offsetOf r k tick

/-- The slots a home moon judges together. -/
def Eng.homeSlots (e : Eng) (k : Nat) : List Nat :=
  (List.range 64).filter (fun s => e.cfgN (Od.SEL_SLOT.home_moon s) == k && (e.slot s).source != 0)

/-- A slot's state (Table 12-3). -/
def Eng.selState (e : Eng) (s : Nat) : Nat := e.n (Od.SEL_SLOT_STATUS.state s)

/-- The majority of slot `s` (R263): for TIME the other TIME slots of its home moon that are ELIGIBLE or in
WAIT_TO_RESTORE, for FREQUENCY all others, that have measured what is compared. -/
def Eng.majority (e : Eng) (s : Nat) : List RawMeas :=
  let k := e.cfgN (Od.SEL_SLOT.home_moon s)
  (e.homeSlots k).filterMap (fun j =>
    if j = s then none
    else if e.slotUse s = 2 then (if e.slotUse j = 2 ∧ (e.selState j = 3 ∨ e.selState j = 2) then (e.slot j).latest else none)
    else (e.slot j).latest.filter (fun r => r.hasFf))

/-- majority_dev (R263), when the test can be made. -/
def Eng.majorityDev (e : Eng) (s tick : Nat) : Option Int :=
  let ms := e.majority s
  let k := e.cfgN (Od.SEL_SLOT.home_moon s)
  match (e.slot s).latest with
  | none => none
  | some r =>
    if ms.length < 2 ∨ (e.slotUse s ≠ 2 ∧ !r.hasFf) then none
    else if e.slotUse s = 2 then some (e.tauOf r k tick - medianOf (ms.map (fun m => e.tauOf m k tick)))
    else some (r.ff - medianOf (ms.map (fun m => m.ff)))

/-! ## The shadow holdover (R261, R262) -/

/-- The shadow of moon `k`: the count in 2^-16 ns it would have at a tick, and its bound, when it is valid. -/
def Eng.shadow (e : Eng) (x : Ctx) (k tick : Nat) : Option (Int × Int) :=
  let m := e.selMoon k
  match m.lockedAt, m.anchors.getLast? with
  | some t, some a =>
    if x.passed t (e.cfgN (Od.SEL_MOON.lookback k) * unitsPerSec) then
      let ns : Int := ((tick : Int) - a.tick) * fxOne - (e.model.phase - a.phase)
      some ((a.count : Int).fdiv (2 ^ 32 : Nat) + (ns * 65536).fdiv fxOne, a.err.value)
    else none
  | _, _ => none

end Sys2Proof.Machine
end

