-- ==== Sys2Proof/Machine/Steering.lean ====
section
/-! DEFINITION. Steering (spec/13_steering_holdover.md R278 to R295): the loop filter and its replica, the increments it
stages, a moon's state and error bound at a closing tick, holdover, and what a boundary changes of the units. -/

namespace Sys2Proof.Machine

/-! ## Loop constants (R281, R282) -/

/-- B of a bandwidth code in mHz. -/
def bandMilli (code : Nat) : Nat :=
  if 20 ≤ code then 4000000
  else (match code % 3 with | 0 => 1 | 1 => 2 | _ => 5) * 10 ^ (code / 3)

/-- ζ of a damping code (Table 13-1). -/
def zeta (code : Nat) : Fx :=
  match code with
  | 0 => fxOf 707 1000
  | 1 => fxOne
  | 2 => 2 * fxOne
  | _ => 4 * fxOne

/-- F(ζ) = √(2ζ² + 1 + √((2ζ² + 1)² + 1)). -/
def dampF (z : Fx) : Fx :=
  let a := 2 * fxMul z z + fxOne
  fxSqrt (a + fxSqrt (fxMul a a + fxOne))

/-- ω_n = 2πB / F(ζ), per second. -/
def omega (bw damp : Nat) : Fx := fxDiv (2 * fxMul fxPi (fxOf (bandMilli bw) 1000)) (dampF (zeta damp))

/-- kp = 2ζω_n. -/
def gainP (bw damp : Nat) : Fx := 2 * fxMul (zeta damp) (omega bw damp)

/-- ki = ω_n². -/
def gainI (bw damp : Nat) : Fx := fxMul (omega bw damp) (omega bw damp)

/-- The largest code at most `code` whose B is no greater than 1/20 of a rate in mHz. -/
def bwUnder : Nat → Nat → Nat
  | 0, _ => 0
  | c + 1, rate => if 20 * bandMilli (c + 1) ≤ rate then c + 1 else bwUnder c rate

/-- The slot in force for moon `k`, 0xFF for none. -/
def Eng.selected (e : Eng) (k : Nat) : Nat := e.n (Od.SEL_MOON_STATUS.selected k)

/-- B_eff of moon `k` (R282). -/
def Eng.bwEff (e : Eng) (k : Nat) : Nat :=
  let set := e.cfgN (Od.STEER_MOON.bandwidth k)
  if e.selected k < 64 then bwUnder set (e.slotRate (e.selected k)) else set

/-! ## The filter (R283) -/

/-- A count in 2^-16 ns as ns. -/
def fxNs (units : Int) : Fx := fxOf units 65536

/-- The replica at a tick. -/
def SteerUnit.replicaAt (u : SteerUnit) (tick : Nat) : Fx := u.replica + (fxOne + u.out) * ((tick : Int) - u.repTick)

/-- The filter's update on a measurement of a TIME slot: τ at tick `t`. -/
def SteerUnit.timeUpdate (u : SteerUnit) (bw damp rate tick : Nat) (tau : Int) : SteerUnit :=
  let rep := u.replicaAt tick
  let err := (rep - fxNs tau).fdiv 1000000000
  let tc := fxOf 1000 rate
  let integ := if u.clamped then u.integ else u.integ - fxMul (fxMul (gainI bw damp) err) tc
  { u with integ := integ, out := integ - fxMul (gainP bw damp) err, replica := rep, repTick := tick }

/-- The filter's update on a measurement of a FREQUENCY slot; the replica follows the moon. -/
def SteerUnit.freqUpdate (u : SteerUnit) (bw damp rate tick : Nat) (ff count : Int) : SteerUnit :=
  let integ := u.integ + fxMul (fxMul (gainP bw damp) (fxOf 1000 rate)) (fxOfFf ff - u.integ)
  { u with integ := integ, out := integ, replica := fxNs count, repTick := tick }

/-- A measurement of moon `k`'s selected slot reaches its loop: the phase error and frequency offset are taken, and a closed
loop's filter runs. -/
def Eng.loopFeed (e : Eng) (k s : Nat) (r : RawMeas) : Eng :=
  let bw := e.bwEff k
  let damp := e.cfgN (Od.STEER_MOON.damping k)
  let rate := e.slotRate s
  let count := ((e.pastOf k r.tick).1 : Int).fdiv (2 ^ 32 : Nat)
  let time := e.slotUse s == 2
  let e := e.modUnit k (fun u =>
    let u := if u.isOpen then u
      else if time then u.timeUpdate bw damp rate r.tick (e.tauOf r k r.tick)
      else u.freqUpdate bw damp rate r.tick r.ff count
    if time then { u with error := e.offsetOf r k r.tick, ffError := r.ff - e.activeFf k r.tick } else u)
  let e := e.modSelMoon k (fun m => { m with fedAt := some r.tick })
  if time then e.set (Od.STEER_STATUS.phase_error k) (sat64 (e.unit k).error) else e

/-! ## Holdover frequency (R289) -/

/-- ŷ for moon `k`: the model's, or the mean of −f over the last 60 s of its loop. -/
def Eng.yHat (e : Eng) (k : Nat) : Fx := if e.modelValid then e.model.y else (e.unit k).fallback

/-- round(2^48 × (1 + v)). -/
def incOf (v : Fx) : Int := roundDiv ((fxOne + v) * (2 ^ 48 : Nat)) (2 ^ 96)

/-! ## Closing tick: state and bound (R285 to R290) -/

/-- The slot that will be in force for moon `k` from the coming boundary, none for a moon whose loop is out of use (R294). -/
def Eng.comingSlot (e : Eng) (k : Nat) : Nat :=
  if (e.unit k).alone then 0xFF else match (e.selMoon k).pending with | some p => p.1 | none => e.selected k

/-- The use of the slot in force for moon `k`; none for a moon whose loop is out of use (R294). -/
def Eng.useNow (e : Eng) (k : Nat) : Nat := if (e.unit k).alone then 0 else e.slotUse (e.selected k)

/-- A measurement of the slot in force has reached moon `k`'s loop, and no other slot comes into force. -/
def Eng.isFed (e : Eng) (k : Nat) : Bool :=
  let m := e.selMoon k
  m.pending.isNone && (match m.fedAt with | some t => m.feedFrom * 2 ^ 20 ≤ t | none => false)

/-- A run that a condition keeps going from a short time on. -/
def keepRun (ok : Bool) (now : Nat) (r : Option Nat) : Option Nat := if ok then some (r.getD now) else none

/-- A run has lasted `secs` seconds of moon 0. -/
def runPassed (x : Ctx) (r : Option Nat) (secs : Nat) : Bool :=
  match r with
  | some t => x.passed t (secs * unitsPerSec)
  | none => false

/-- The tests of rows 6, 8 and 10 of Table 13-2 at a closing tick, and a prediction of error run on. -/
def Eng.trackUnit (e : Eng) (x : Ctx) (k : Nat) : Eng :=
  let now := x.st 0
  let s := e.comingSlot k
  let use := e.slotUse s
  let fed := e.isFed k
  let u := e.unit k
  let dwell := e.i (Od.STEER_MOON.lock_dwell k)
  let locked := use == 2 && fed && (u.error.natAbs : Int) ≤ e.i (Od.STEER_MOON.lock_phase k)
    && (u.ffError.natAbs : Int) ≤ e.i (Od.STEER_MOON.lock_ff k)
  let away := use == 2 && fed && e.i (Od.STEER_MOON.unlock_phase k) < (u.error.natAbs : Int)
  let old := u.errors.filter (fun p => stDiff now p.1 ≤ dwell * secU)
  e.modUnit k (fun u => { u with
    restart := false
    restartNow := u.restart
    errors := if use = 2 ∧ fed then (now, u.error.natAbs) :: old else old
    lockFrom := keepRun locked now u.lockFrom
    unlockFrom := keepRun away now u.unlockFrom
    timeFrom := keepRun (use == 2) now u.timeFrom
    hold := u.hold.map (fun h => e.holdRun h now
      (if use = 1 then some (fxOfFf (e.i (Od.STEER_SLOT.freq_uncert s))) else none)) })

/-- cand of R286: the slot's own bound and its ref_uncert. -/
def Eng.candBound (e : Eng) (s : Nat) : Int :=
  if s < 64 then
    let src := (e.slot s).source
    let own : Int := match srcKind src with
      | 3 => e.i (Od.GNSS_SOL.bound (srcInst src))
      | 1 => e.i (Od.REFIN_MEAS.sibling_bound (srcInst src))
      | _ => 0
    (own.natAbs : Int) + e.i (Od.STEER_SLOT.ref_uncert s)
  else 0

/-- The error bound of a FREE RUN record. -/
def maxBound : Int := (2 ^ 63 - 1 : Nat)

/-- b(t) of moon `k`, or b_e, the bound of its last LOCKED record, where no prediction runs yet (R287). -/
def Eng.holdBound (e : Eng) (k : Nat) : Int :=
  match (e.unit k).hold with
  | some h => HoldEntry.value (if (e.unit k).isOpen then h else { h with drift := 0 })
  | none => (e.unit k).lockedBound

/-- error_bound of a state (Table 13-3). -/
def Eng.boundOf (e : Eng) (k : Nat) (st : MoonState) : Int :=
  let u := e.unit k
  let cand := e.candBound (e.comingSlot k)
  match st with
  | .freeRun => maxBound
  | .acquiring => sat64 (cand + u.error.natAbs)
  | .locked => sat64 (cand + (u.errors.foldl (fun m p => max m p.2) u.error.natAbs : Nat))
  | _ => e.holdBound k

/-- The next state of moon `k` (Table 13-2), `setNow` when the selector's set is applied at the coming boundary. -/
def Eng.nextState (e : Eng) (x : Ctx) (k : Nat) (enabled setNow : Bool) : MoonState :=
  let u := e.unit k
  let cur := (e.moon k).cur.state
  let time := e.slotUse (e.comingSlot k) == 2
  let dwell := e.n (Od.STEER_MOON.lock_dwell k)
  let lockRun := runPassed x u.lockFrom dwell
  if u.restartNow || !enabled then .freeRun
  else
    match cur with
    | .holdover =>
      if e.i (Od.STEER_MOON.holdover_budget k) < e.holdBound k then .lost
      else if time && e.isFed k && e.i (Od.STEER_MOON.lock_phase k) < (u.error.natAbs : Int) then .acquiring
      else if time && runPassed x u.timeFrom dwell && lockRun then .locked
      else .holdover
    | .freeRun => if time && (setNow || e.n (Od.SEL_MOON.acquire k) == 1) then .acquiring else .freeRun
    | .acquiring =>
      if !time then (if u.everLocked then .lost else .freeRun) else if lockRun then .locked else .acquiring
    | .locked =>
      if !time then .holdover
      else if runPassed x u.unlockFrom (e.n (Od.STEER_MOON.unlock_dwell k)) then .acquiring else .locked
    | .lost => if time then .acquiring else .lost

/-- A consented step back to the reference (R290), staged at a closing tick. -/
def Eng.stageReturn (e : Eng) (x : Ctx) (k : Nat) : Eng :=
  let u := e.unit k
  let m := (u.error.natAbs : Int)
  if !u.isOpen && (e.moon k).cur.state == .acquiring && e.isFed k && e.i (Od.MOON_CONFIG.jump_limit k) < m &&
      e.consentLive x k && m ≤ e.i (Od.MOON_CONSENT.bound k)
  then (e.set (Od.MOON_STEP_STAGED k) (-u.error)).orb (Od.STEER_STATUS.sticky k) 4
  else e

/-- The loop copies of moon `k` at a closing tick (R294): on a disagreement the previous increment stays, and at the third
in a row the moon runs as if nothing were selected. -/
def Eng.loopCopies (e : Eng) (x : Ctx) (k : Nat) (bad : Bool) : Eng :=
  let u := e.unit k
  if !bad then e.modUnit k (fun u => { u with badRun := 0 })
  else
    let e := (e.detect x 12 2 k).modUnit k (fun u => { u with badRun := u.badRun + 1 })
    let e := ((if u.isOpen then e else e.set (Od.MOON_INC_STAGED k) (x.inc k)).orb (Od.STEER_STATUS.sticky k) 32).orb
      Od.STEER_GLOBAL.sticky 8
    if u.badRun + 1 = 3 then (e.detect x 12 3 k).modUnit k (fun u => { u with alone := true }) else e

/-- The model's copies at a closing tick (R294). -/
def Eng.modelCopies (e : Eng) (x : Ctx) (bad : Bool) : Eng :=
  let n := if bad then e.model.badCopies + 1 else 0
  let e := e.modModel (fun m => { m with badCopies := n })
  if n = 3 then ((e.detect x 12 4 0).modModel (fun m => { m with dead := true })).orb Od.STEER_GLOBAL.sticky 8 else e

/-- RESTART and RESTART_MODEL accepted before the closing tick take effect (R285, R293). -/
def Eng.closeModel (e : Eng) : Eng :=
  if e.model.restart then e.modModel (fun m => { m with restart := false, seeded := false }) else e

/-! ## The boundary -/

/-- The change of moon `k`'s count at the boundary just passed, in 2^-48 ns. -/
def Eng.stepTaken (e : Eng) (k : Nat) : Int :=
  let m := e.moon k
  (m.cur.count : Int) - (m.prev.count + (if m.prev.adv then m.prev.inc * 2 ^ 20 else 0) : Nat)

/-- The mode in force from a boundary, and what it does to filter and replica (R279, R280). -/
def Eng.unitMode (e : Eng) (x : Ctx) (k : Nat) : Eng :=
  let open_ := e.cfgN (Od.STEER_MOON.mode k) == 1
  let cur := (e.moon k).cur
  let step := e.stepTaken k
  let nowNs : Fx := (x.acc k * 2 ^ 48 : Nat)
  e.modUnit k (fun u =>
    if u.restartNow then
      { u with isOpen := open_, integ := 0, out := 0, replica := nowNs, repTick := x.tick, everLocked := false,
               restartNow := false, lockFrom := none, unlockFrom := none, hold := none }
    else if u.isOpen && !open_ then
      let v := ((cur.inc : Int) - (2 ^ 48 : Nat)) * (2 ^ 48 : Nat)
      { u with isOpen := false, integ := v, out := v, replica := nowNs, repTick := x.tick }
    else if open_ then { u with isOpen := true }
    else { u with replica := u.replica + step * (2 ^ 48 : Nat) })

/-- A clamp acted at the boundary just passed (R43, R283). -/
def Eng.unitClamp (e : Eng) (x : Ctx) (k : Nat) : Eng :=
  let c := bitOf (e.moon k).cur.flags 5
  let e := e.modUnit k (fun u => { u with clamped := c })
  let e := if c then e.orb (Od.STEER_STATUS.sticky k) 8 else e
  if c && k == 0 then e.modModel (fun m => { m with clampAt := some (x.st 0) }) else e

/-- A change of state at the boundary just passed (R285, R287, R288). -/
def Eng.unitState (e : Eng) (x : Ctx) (k : Nat) : Eng :=
  let m := e.moon k
  let st := m.cur.state
  let old := m.prev.state
  let now := x.st 0
  let set := bitOf m.cur.flags 10
  let e := e.modUnit k (fun u => { u with
    everLocked := (u.everLocked && !set) || st == .locked
    lockedBound := if st = .locked then m.cur.errorBound else u.lockedBound
    hold := match st with
      | .locked => none
      | .freeRun => none
      | .acquiring => u.hold
      | _ => some (u.hold.getD (e.holdStart now u.lockedBound)) })
  if st = old then e
  else
    let e := (e.inc32 (Od.STEER_STATUS.changes k)).set (Od.STEER_STATUS.last_change_boundary k) m.cur.boundary
    let e := if st = .lost then e.orb (Od.STEER_STATUS.sticky k) 1 else e
    if old = .locked ∧ st = .acquiring then e.orb (Od.STEER_STATUS.sticky k) 2 else e

/-- What runs on from boundary to boundary: the replica follows the moon while no TIME slot steers it
(notes/assumptions/22.md), the loop's recent outputs while one does, an OPEN moon's drift in
holdover (R287, R289), and moon 0's integrator for the model (R293). -/
def Eng.unitRun (e : Eng) (x : Ctx) (k : Nat) : Eng :=
  let time := e.useNow k == 2
  let now := x.st 0
  let drift : Int := (2 ^ 20 : Nat) * (((e.moon k).cur.inc : Int) - incOf (-(e.yHat k)))
  let e := e.modUnit k (fun u =>
    let outs := if time && !u.isOpen then (now, u.out) :: u.outs.filter (fun p => stDiff now p.1 ≤ 60 * secU) else u.outs
    let u := if time || u.isOpen then u else { u with replica := (x.acc k * 2 ^ 48 : Nat), repTick := x.tick }
    { u with
      outs := outs
      fallback := if time && !u.isOpen then -(meanOf (outs.map (fun p => p.2))) else u.fallback
      hold := u.hold.map (fun h => if u.isOpen then { h with drift := h.drift + drift } else h) })
  if k = 0 ∧ !(e.unit 0).isOpen then e.modModel (fun m => { m with sum := ⟨m.sum.sum + (e.unit 0).integ, m.sum.n + 1⟩ }) else e

/-- The increment a closed unit stages at a boundary for the next one (R284, R289). -/
def Eng.stagedInc (e : Eng) (x : Ctx) (k : Nat) : Int :=
  let u := e.unit k
  let use := e.useNow k
  let i0 := incOf u.out
  if use = 2 then
    let rep := (u.replicaAt (x.tick + 2 * 2 ^ 20)).fdiv (2 ^ 48 : Nat)
    let moon : Int := (x.acc k + (if (x.core.moon k).adv then x.inc k * 2 ^ 20 else 0) : Nat)
    i0 + (rep - (moon + (2 ^ 20 : Nat) * i0)).fdiv (2 ^ 20 : Nat)
  else if use = 1 then i0
  else incOf (-(e.yHat k))

/-- Seconds since HOLDOVER entry, 0 in other states. -/
def Eng.holdSeconds (e : Eng) (x : Ctx) (k : Nat) : Nat :=
  match (e.moon k).cur.state, (e.unit k).hold with
  | .holdover, some h => (stDiff (x.st 0) h.since).toNat / unitsPerSec
  | _, _ => 0

/-- Show a unit in STEER_STATUS (Table 13-9). -/
def Eng.showUnit (e : Eng) (x : Ctx) (k : Nat) : Eng :=
  let u := e.unit k
  let m := e.moon k
  let use := e.useNow k
  let bw := e.bwEff k
  let limited := bw < e.cfgN (Od.STEER_MOON.bandwidth k)
  let e := if limited then e.orb (Od.STEER_STATUS.sticky k) 16 else e
  let freq := if use = 0 ∧ !u.isOpen then -(e.yHat k) else u.out
  e.setAll [(Od.STEER_STATUS.state k, (m.cur.state.code : Nat)), (Od.STEER_STATUS.bw_eff k, bw),
    (Od.STEER_STATUS.freq k, sat64 (fxToFf freq)), (Od.STEER_STATUS.holdover_s k, e.holdSeconds x k),
    (Od.STEER_STATUS.flags k, (boolNat limited + 2 * boolNat u.clamped + 4 * boolNat (!e.modelValid) +
      8 * boolNat (use = 1) + 16 * boolNat u.isOpen + 32 * boolNat u.everLocked : Nat)),
    (Od.STEER_STATUS.open_drift k, (match u.hold with
      | some h => if u.isOpen then ((h.drift.natAbs / 2 ^ 32 : Nat) : Int) else 0
      | none => 0))]

/-- One moon's unit at a boundary; a follower has none (R42). -/
def Eng.unitBoundary (e : Eng) (x : Ctx) (k : Nat) : Eng :=
  if e.follows k then e.set (Od.STEER_STATUS.state k) ((e.moon k).cur.state.code : Nat)
  else
    let e := (((e.unitMode x k).unitClamp x k).unitState x k).unitRun x k
    let e := if (e.unit k).isOpen then e else e.set (Od.MOON_INC_STAGED k) ((e.stagedInc x k).toNat : Nat)
    e.showUnit x k

/-- Steering at a boundary: the configuration sealed for it, temperature and model, and every unit. -/
def Eng.steerUnits (e : Eng) (x : Ctx) (therm : Nat) (dies : List Int) : Eng :=
  let e := (e.sampleTemp x therm dies).modelBoundary x
  (List.range 32).foldl (fun e k => e.unitBoundary x k) e

/-! ## The model's observations (R293) -/

/-- The conditions for an observation. -/
def Eng.mayObserve (e : Eng) (x : Ctx) : Bool :=
  let use := e.useNow 0
  !(e.unit 0).isOpen &&
  (((e.moon 0).cur.state == .locked && use == 2) || ((e.moon 0).cur.state == .holdover && use == 1)) &&
  (match e.model.clampAt with | some t => x.passed t (60 * unitsPerSec) | none => true)

/-- One observation of the model, at most one in a second of moon 0 time: the fit goes on, or restarts after 60 in a row
beyond model_limit. -/
def Eng.observe (e : Eng) (x : Ctx) : Eng :=
  let sec := x.lin 0 / unitsPerSec
  let m := e.model
  if sec ≤ m.second then e
  else
    let e := e.modModel (fun m => { m with second := sec, sum := Mean.zero })
    if m.sum.n = 0 || !m.seeded || !e.mayObserve x then e
    else
      let y := -(m.sum.sum.fdiv m.sum.n)
      let run := if e.cfg Od.STEER_OSC.model_limit < ((fxToFf (y - m.y)).natAbs : Int) then m.badRun + 1 else 0
      let yFf := y * (2 ^ 64 : Nat)
      let e := if run = 60 then
          (e.modModel (fun m => { m with
            coef := yFf :: m.coef.drop 1, cov := e.priorCov, obs := 0, residuals := [], badRun := 0 })).orb
            Od.STEER_GLOBAL.sticky 1
        else e.modModel (fun m => { m.observe (e.regressors x) (e.cfgN Od.STEER_OSC.fit_tau) yFf with badRun := run })
      e.showModel

/-! ## Writes of area 2C (R278, R285, R295) -/

/-- A write of STEER_MOON members: MODE for a follower, RANGE when unlock_phase would lie below lock_phase. -/
def steerMoonWrite (k : Nat) (vs : List (Key × Int)) (e : Eng) : WriteRes :=
  if e.follows k then (stMode, e)
  else
    let f := e.setAll vs
    if names vs [Od.STEER_MOON.unlock_phase k, Od.STEER_MOON.lock_phase k] &&
        f.i (Od.STEER_MOON.unlock_phase k) < f.i (Od.STEER_MOON.lock_phase k) then (stRange, e) else (stOk, f)

/-- A write of STEER_CMD: RESTART, MODE for a follower. -/
def steerCmd (k : Nat) (e : Eng) : WriteRes :=
  if e.follows k then (stMode, e) else (stOk, e.modUnit k (fun u => { u with restart := true }))

/-- A write of STEER_OSC.command: RESTART_MODEL. -/
def modelCmd (e : Eng) : WriteRes := (stOk, e.modModel (fun m => { m with restart := true }))

/-! ## The commands -/

/-- STEER_MODE_WRITE (R278, R279). -/
def execSteerModeWrite (moon : Fin 32) (value roles : Nat) (s : State) : Host.Outcome State Fault Refusal :=
  lift (fun x e => e.writeCmd x (Od.STEER_MOON.mode moon) value roles
    (steerMoonWrite moon [(Od.STEER_MOON.mode moon, value)])) s

/-- RESTART (R285): a write of STEER_CMD. -/
def execRestart (moon : Fin 32) (value roles : Nat) (s : State) : Host.Outcome State Fault Refusal :=
  lift (fun x e => e.writeCmd x (Od.STEER_CMD moon) value roles (steerCmd moon)) s

/-- RESTART_MODEL (R293): a write of STEER_OSC.command. -/
def execRestartModel (value roles : Nat) (s : State) : Host.Outcome State Fault Refusal :=
  lift (fun x e => e.writeCmd x Od.STEER_OSC.command value roles modelCmd) s

/-- MODEL_OBSERVATION (R293), once in a second of moon 0 time. -/
def execModelObservation (s : State) : Host.Outcome State Fault Refusal := lift (fun x e => e.observe x) s

end Sys2Proof.Machine
end

