-- ==== Sys2Proof/Machine/Selector.lean ====
section
/-! DEFINITION. The selector (spec/12_selection.md R256 to R277): measurements received and tested, causes, states and
wait-to-restore, stability, path changes and asymmetry, and the selection of every moon. -/

namespace Sys2Proof.Machine

/-! ## Causes and states (R264, R269) -/

/-- Bits of Table 12-2. -/
def cSource : Nat := 0
/-- QUALITY. -/ def cQuality : Nat := 1
/-- DRIFT. -/ def cDrift : Nat := 2
/-- PHASE_JUMP. -/ def cJump : Nat := 3
/-- PATH_CHANGE. -/ def cPath : Nat := 4
/-- STABILITY. -/ def cStability : Nat := 5
/-- SILENT. -/ def cSilent : Nat := 6

/-- A cause is in force. -/
def Eng.hasCause (e : Eng) (s c : Nat) : Bool := bitOf (e.n (Od.SEL_SLOT_STATUS.causes s)) c

/-- The stability history restarts when a slot leaves ELIGIBLE and WAIT_TO_RESTORE (R260). -/
def SelSlot.forget (t : SelSlot) : SelSlot := { t with mean := Mean.zero, samples := [] }

/-- The stability figures of slot `s` are invalid and read 0 (R260). -/
def Eng.noFigures (e : Eng) (s : Nat) : Eng := e.setAll ((List.range 10).map (fun i => (odKey 0x28 (0x200 + s) (i + 1), 0)))

/-- A slot becomes DISQUALIFIED; a moon that has it selected notes when its eligibility ended (R271). -/
def Eng.slotDown (e : Eng) (x : Ctx) (s : Nat) : Eng :=
  if e.selState s = 1 then e
  else
    let e := (e.set (Od.SEL_SLOT_STATUS.state s) 1).inc32 Od.SEL_STATUS.disqualified
    let e := (e.set (Od.SEL_SLOT_STATUS.wtr_remaining s) 0).modSlot s (fun t => { t.forget with wait := none })
    let e := e.noFigures s
    (List.range 32).foldl (fun e k =>
      if e.selected k = s then e.modSelMoon k (fun m => { m with lostAt := some (m.lostAt.getD (x.st 0)) }) else e) e

/-- A cause is set (R264). -/
def Eng.setCause (e : Eng) (x : Ctx) (s c : Nat) : Eng :=
  if e.hasCause s c then e
  else
    let e := (e.orb (Od.SEL_SLOT_STATUS.causes s) (2 ^ c)).orb (Od.SEL_SLOT_STATUS.sticky s) (2 ^ c)
    let e := e.inc32 (Od.SEL_SLOT_STATUS.disq_count s)
    let e := if 2 ≤ c ∧ c ≤ 4 then e.orb Od.SEL_STATUS.sticky (2 ^ (c - 2)) else e
    e.slotDown x s

/-- A slot is ELIGIBLE. -/
def Eng.slotEligible (e : Eng) (s : Nat) : Eng :=
  ((e.set (Od.SEL_SLOT_STATUS.state s) 3).set (Od.SEL_SLOT_STATUS.wtr_remaining s) 0).modSlot s (fun t => { t with wait := none })

/-- The wait of a slot in seconds: wtr of its home moon, or wtr_alone while that moon has nothing selected (R269, R273). -/
def Eng.waitSeconds (e : Eng) (s : Nat) : Nat :=
  let k := e.cfgN (Od.SEL_SLOT.home_moon s)
  if e.selected k = 0xFF then e.cfgN (Od.SEL_MOON.wtr_alone k) else e.cfgN (Od.SEL_MOON.wtr k)

/-- Causes are cleared; a slot left with none goes to WAIT_TO_RESTORE, or to ELIGIBLE directly or when the wait is 0. -/
def Eng.clearCauses (e : Eng) (x : Ctx) (s mask : Nat) (direct : Bool) : Eng :=
  let old := e.n (Od.SEL_SLOT_STATUS.causes s)
  let e := e.andc (Od.SEL_SLOT_STATUS.causes s) mask
  if (old &&& mask) = 0 ∨ e.n (Od.SEL_SLOT_STATUS.causes s) ≠ 0 ∨ e.selState s ≠ 1 then e
  else if direct ∨ e.waitSeconds s = 0 then e.slotEligible s
  else
    ((e.set (Od.SEL_SLOT_STATUS.state s) 2).set (Od.SEL_SLOT_STATUS.wtr_remaining s) (e.waitSeconds s)).modSlot s
      (fun t => { t with wait := some (x.st 0) })

/-- Clear one cause. -/
def Eng.clearCause (e : Eng) (x : Ctx) (s c : Nat) : Eng := e.clearCauses x s (2 ^ c) false

/-- A slot's wait has passed. -/
def Eng.waitOver (e : Eng) (x : Ctx) (s : Nat) : Bool :=
  e.selState s == 2 &&
    (match (e.slot s).wait with | some t => x.passed t (e.waitSeconds s * unitsPerSec) | none => false)

/-- The source of slot `s` changed state: SOURCE follows it (Table 12-2). -/
def Eng.sourceChanged (e : Eng) (x : Ctx) (s : Nat) : Eng :=
  if s < 64 ∧ (e.slot s).source ≠ 0 then
    if e.srcUpNow (e.slot s).source then
      if e.hasCause s cSource then
        (e.modSlot s (fun t => { t with pred := none, outlier := none })).clearCause x s cSource
      else e
    else e.setCause x s cSource
  else e

/-- The bindings as the objects stand (R256): a slot newly bound starts DISQUALIFIED with SOURCE, an unbound one UNBOUND. -/
def Eng.rebind (e : Eng) (x : Ctx) : Eng :=
  (List.range 64).foldl (fun e s =>
    let src := sourceOf e.od s
    if src = (e.slot s).source then e
    else
      let e := e.modSlot s (fun _ => { SelSlot.atReset with source := src, heard := x.st 0 })
      let e := e.setAll [(Od.SEL_SLOT_STATUS.source s, src), (Od.SEL_SLOT_STATUS.causes s, 0), (Od.SEL_SLOT_STATUS.state s, 0)]
      if src = 0 then e else (e.setCause x s cSource).sourceChanged x s) e

/-! ## Prediction and jumps (R265) -/

/-- The residual of a raw offset against a prediction, within a second when either lacks seconds_valid. -/
def residual (p r : RawMeas) : Int :=
  let d := r.raw - p.at_ r.tick
  if p.seconds && r.seconds then d else wrapSec d

/-- What a measurement of a TIME slot meets. -/
inductive JumpTest where
  | ok
  | outlier (d : Int)
  | jump (delta : Int)
  deriving DecidableEq, Repr

/-- The test of R265. -/
def jumpTest (t : SelSlot) (limit : Int) (r : RawMeas) : JumpTest :=
  match t.pred with
  | none => .ok
  | some p =>
    let d := residual p r
    if (d.natAbs : Int) ≤ limit then .ok
    else
      match t.outlier with
      | some d1 => if ((d - d1).natAbs : Int) ≤ limit then .jump ((d + d1).fdiv 2) else .outlier d
      | none => .outlier d

/-- The prediction is rebased on the latest measurement, and PHASE_JUMP cleared with PATH_CHANGE as `mask` says. -/
def Eng.rebase (e : Eng) (x : Ctx) (s mask : Nat) (direct : Bool) : Eng :=
  (e.modSlot s (fun t => { t with pred := t.latest, outlier := none, jump := none, stepFor := none, jumpMoons := [] })).clearCauses
    x s mask direct

/-- The jump test of a TIME slot: whether the measurement may reach a loop, and the slot after it. -/
def Eng.testJump (e : Eng) (x : Ctx) (s : Nat) (r : RawMeas) : Bool × Eng :=
  let t := e.slot s
  let limit := e.cfg (Od.SEL_SLOT.jump_detect s)
  match jumpTest t limit r with
  | .ok =>
    let e := e.modSlot s (fun t => { t with pred := some r, outlier := none })
    if e.hasCause s cJump then (false, e.rebase x s (2 ^ cJump) false) else (true, e)
  | .outlier d =>
    (false, (e.modSlot s (fun t => { t with outlier := some d })).orb (Od.SEL_SLOT_STATUS.sticky s) 128)
  | .jump delta =>
    if e.hasCause s cJump then (false, e)
    else
      let moons := (List.range 32).filter (fun k => e.selected k == s)
      (false, (e.modSlot s (fun t => { t with jump := some delta, outlier := none, jumpMoons := moons })).setCause x s cJump)

/-! ## Path changes and asymmetry (R267, R268) -/

/-- The path test of an exchange: whether it may reach a loop, and the slot after it. -/
def Eng.testPath (e : Eng) (x : Ctx) (s : Nat) (mpd : Int) : Bool × Eng :=
  let t := e.slot s
  let mean := meanOf t.paths
  let d := mpd - mean
  let show_ (e : Eng) : Eng := e.set (Od.SEL_SLOT_STATUS.path_delay s) (sat64 (meanOf (e.slot s).paths))
  if t.paths.isEmpty || (d.natAbs : Int) ≤ e.cfg (Od.SEL_SLOT.path_detect s) then
    (!e.hasCause s cPath, show_ (e.modSlot s (fun t => { t with paths := (mpd :: t.paths).take 64, pathRun := [] })))
  else
    let same := t.pathRun.all (fun v => decide (0 < v - mean) == decide (0 < d))
    let run := if same then mpd :: t.pathRun else [mpd]
    if e.cfgN (Od.SEL_SLOT.path_confirm s) ≤ run.length then
      (false, show_ ((e.modSlot s (fun t => { t with paths := run.take 64, pathRun := [], asym := none })).setCause x s cPath))
    else (false, e.modSlot s (fun t => { t with pathRun := run }))

/-- Slot `i` is independent of PTP_UP slot `c` (R268): any GNSS or REFIN slot, or a PTP_UP slot on another port with
another grandmaster. -/
def Eng.independent (e : Eng) (c i : Nat) : Bool :=
  let a := (e.slot c).source
  let b := (e.slot i).source
  let u := srcInst a
  let v := srcInst b
  c != i && e.slotUse i == 2 && (srcKind b == 1 || srcKind b == 3 ||
    (srcKind b == 4 && e.n (Od.PTP_UP.port u) != e.n (Od.PTP_UP.port v) &&
      e.n (Od.PTP_UP_STATUS.gm_identity u) != e.n (Od.PTP_UP_STATUS.gm_identity v)))

/-- The independent ELIGIBLE slot of lowest rank for the same home moon, ties to the lower number. -/
def Eng.bestIndependent (e : Eng) (c : Nat) : Option Nat :=
  (e.homeSlots (e.cfgN (Od.SEL_SLOT.home_moon c))).foldl (fun best i =>
    if e.independent c i && e.selState i == 3 then
      match best with
      | none => some i
      | some b => if e.slotRank i < e.slotRank b then some i else best
    else best) none

/-- Add x̃_c − x̃_i to an estimate of slot `c`. -/
def Eng.addSample (e : Eng) (c : Nat) (a : Asym) (r : RawMeas) : Eng :=
  match (e.slot a.indep).latest with
  | none => e
  | some i =>
    let d := r.raw - i.at_ r.tick
    let d := if r.seconds && i.seconds then d else wrapSec d
    e.modSlot c (fun t => { t with asym := some { a with sum := a.sum + d, n := a.n + 1 } })

/-- One sample of the asymmetry estimate of slot `c`, restarted when its independent slot is no longer ELIGIBLE. With no
independent slot, PATH_CHANGE takes PHASE_JUMP too. -/
def Eng.asymSample (e : Eng) (x : Ctx) (c : Nat) (r : RawMeas) : Eng :=
  if !e.hasCause c cPath || (match (e.slot c).asym with | some a => a.stage != 0 | none => false) then e
  else
    let cur := (e.slot c).asym
    let keep := match cur with
      | some a => if e.selState a.indep = 3 ∧ e.independent c a.indep then some a else none
      | none => none
    match keep, e.bestIndependent c with
    | none, none => (e.modSlot c (fun t => { t with asym := none })).setCause x c cJump
    | some a, _ => e.addSample c a r
    | none, some i => e.addSample c ⟨i, 0, 0, x.st 0, 0, false⟩ r

/-- The estimate of slot `c` has run for asym_time (R268). -/
def Eng.asymDue (e : Eng) (x : Ctx) (c : Nat) : Bool :=
  e.hasCause c cPath &&
    (match (e.slot c).asym with
     | some a => a.stage == 0 && x.passed a.since (e.cfgN (Od.SEL_SLOT.asym_time c) * unitsPerSec)
     | none => false)

/-- The new asymmetry of slot `c` goes from a stage to the next. -/
def Eng.asymStage (e : Eng) (c stage : Nat) : Eng :=
  e.modSlot c (fun t => { t with
    asym := t.asym.map (fun a => if a.stage + 1 = stage then { a with stage := stage } else a) })

/-- The closing tick: what is complete is due at the coming boundary. -/
def Eng.asymClose (e : Eng) : Eng := (List.range 64).foldl (fun e c => e.asymStage c 2) e

/-- An offset measured before the asymmetry grew by `d`, as it would read after. -/
def RawMeas.shift (r : RawMeas) (d : Int) : RawMeas := { r with raw := r.raw - d }

/-- The prediction is rebased on the latest measurement under the new asymmetry, and PATH_CHANGE clears with its jump. -/
def Eng.asymClear (e : Eng) (x : Ctx) (c : Nat) (d : Int) (direct : Bool) : Eng :=
  (e.modSlot c (fun t => { t with asym := none, latest := t.latest.map (fun r => r.shift d) })).rebase x c
    (2 ^ cJump + 2 ^ cPath) direct

/-- A new asymmetry of slot `c` takes effect at the boundary (R268): the estimate is written with origin ESTIMATED and the
causes clear without wait-to-restore; after the integrator's own write they clear with it. `was` is the asymmetry before. -/
def Eng.asymApply (e : Eng) (x : Ctx) (c : Nat) (was : Int) : Eng :=
  match (e.slot c).asym with
  | none => e
  | some a =>
    if a.stage ≠ 2 then e
    else if a.user then e.asymClear x c (e.cfg (Od.SEL_SLOT.asymmetry c) - was) false
    else
      let mean := if a.n = 0 then 0 else a.sum.fdiv a.n
      let v := sat64 (was + mean)
      let e := (e.set (Od.SEL_SLOT.asymmetry c) v).set (Od.SEL_SLOT.asym_origin c) 1
      let e : Eng := { e with sel := { e.sel with cfg := sset e.sel.cfg (Od.SEL_SLOT.asymmetry c) v } }
      ((e.inc32 Od.SEL_STATUS.asym_updates).orb (Od.SEL_SLOT_STATUS.sticky c) 256).asymClear x c mean true

/-- Every slot's new asymmetry at a boundary; `old` holds the settings before it. -/
def Eng.asymBoundary (e : Eng) (x : Ctx) (old : Store) : Eng :=
  (List.range 64).foldl (fun e c => e.asymApply x c (sget old (Od.SEL_SLOT.asymmetry c))) e

/-! ## Measurements (R258, R265, R271) -/

/-- A measurement with moon 0's steering removed. -/
def Eng.rawOf (e : Eng) (m : Meas) : RawMeas where
  tick := m.tick
  raw := m.off - e.steered 0 m.tick
  ff := m.ff.getD 0 + (if m.ff.isSome then e.activeFf 0 m.tick else 0)
  hasFf := m.ff.isSome
  seconds := m.seconds
  bound := m.bound

/-- Feed a measurement to the loops that follow the slot: of every moon that selects it, while it is ELIGIBLE, from the
boundary of the selection on. -/
def Eng.feedLoops (e : Eng) (s : Nat) (r : RawMeas) : Eng :=
  (List.range 32).foldl (fun e k =>
    if e.selected k = s ∧ !e.follows k ∧ e.selState s = 3 ∧ (e.selMoon k).feedFrom * 2 ^ 20 ≤ r.tick
    then e.loopFeed k s r else e) e

/-- A measurement arrives at slot `s`: stale ones are discarded (R31); the others are kept, tested and, when they show no
discontinuity, fed to the loops. -/
def Eng.deliver (e : Eng) (x : Ctx) (s : Nat) (m : Meas) : Eng :=
  if 63 < s then e
  else if m.tick + 2 ^ 30 < x.tick then e.orb (Od.SEL_SLOT_STATUS.sticky s) 512
  else
    let r := e.rawOf m
    let silent := e.hasCause s cSilent
    let e := e.modSlot s (fun t => { t with
      latest := some r, heard := x.st 0, pred := if silent then none else t.pred,
      outlier := if silent then none else t.outlier
      mean := ⟨t.mean.sum + (r.raw - (e.model.phase * 65536).fdiv fxOne), t.mean.n + 1⟩ })
    let e := e.clearCause x s cSilent
    let e := e.setAll [(Od.SEL_SLOT_STATUS.raw_offset s, sat64 r.raw), (Od.SEL_SLOT_STATUS.raw_ff s, sat64 r.ff),
      (Od.SEL_SLOT_STATUS.last_tick s, r.tick)]
    let p := match m.delay with
      | some d => let t := e.testPath x s d; (t.1, t.2.asymSample x s r)
      | none => (true, e)
    let j := if e.slotUse s = 2 then p.2.testJump x s r else (true, p.2)
    if p.1 && j.1 then j.2.feedLoops s r else j.2

/-- A slot has heard nothing for max(3 comparison periods, 2 s) of moon 0 (Table 12-2). -/
def Eng.silentDue (e : Eng) (x : Ctx) (s : Nat) : Bool :=
  (e.slot s).source != 0 && x.passed (e.slot s).heard (max (3 * e.slotPeriod s) (2 * unitsPerSec))

/-! ## Stability (R260) -/

/-- The sum of `n` samples from an index. -/
def sumFrom (l : List Int) (i n : Nat) : Int := ((l.drop i).take n).foldl (· + ·) 0

/-- TDEV at n samples over a history, rounded down (the estimator of ITU-T G.810, notes/assumptions/23.md). -/
def tdevOf (l : List Int) (n : Nat) : Int :=
  let m := l.length - 3 * n + 1
  let s := (List.range m).foldl (fun a j =>
    let d := sumFrom l (j + 2 * n) n - 2 * sumFrom l (j + n) n + sumFrom l j n
    a + d * d) 0
  (isqrt (s.toNat / (6 * n * n * m)) : Nat)

/-- MTIE at n samples over a history: the largest peak-to-peak value in a window of n + 1 samples. -/
def mtieOf (l : List Int) (n : Nat) : Int :=
  (List.range (l.length - n)).foldl (fun a j =>
    let w := (l.drop j).take (n + 1)
    let hi := w.foldl max (w.headD 0)
    let lo := w.foldl min (w.headD 0)
    max a (hi - lo)) 0

/-- The observation intervals of the figures, in seconds. -/
def stabTaus : List Nat := [1, 10, 100, 1000, 10000]

/-- Recompute the figures of slot `s` that are due at a second. -/
def Eng.stabFigures (e : Eng) (s sec : Nat) : Eng :=
  (stabTaus.zipIdx).foldl (fun e p =>
    let n := p.1
    let l := ((e.slot s).samples).take (12 * n)
    if sec % max 1 (n / 10) ≠ 0 then e
    else if l.length < 3 * n then
      (e.set (odKey 0x28 (0x200 + s) (p.2 + 1)) 0).set (odKey 0x28 (0x200 + s) (p.2 + 6)) 0
    else (e.set (odKey 0x28 (0x200 + s) (p.2 + 1)) (sat64 (tdevOf l n))).set (odKey 0x28 (0x200 + s) (p.2 + 6))
      (sat64 (mtieOf l n))) e

/-- Once a second of moon 0, each TIME slot in ELIGIBLE or WAIT_TO_RESTORE takes the mean of its measurements as a sample. -/
def Eng.stability (e : Eng) (x : Ctx) : Eng :=
  let sec := x.lin 0 / unitsPerSec
  (List.range 64).foldl (fun e s =>
    let t := e.slot s
    if sec ≤ t.second then e
    else
      let ok := e.slotUse s == 2 && (e.selState s == 3 || e.selState s == 2) && t.mean.n != 0
      let v := t.mean.sum.fdiv t.mean.n
      let e := e.modSlot s (fun t => { t with
        second := sec, mean := Mean.zero, samples := if ok then (v :: t.samples).take 120000 else t.samples })
      if ok then e.stabFigures s sec else e) e

/-- Some valid figure of slot `s` exceeds its nonzero mask. -/
def Eng.unstable (e : Eng) (s : Nat) : Bool :=
  (List.range 5).any (fun i =>
    let beyond (v m : Int) : Bool := m != 0 && m < v
    beyond (e.i (odKey 0x28 (0x200 + s) (i + 1))) (e.cfg (odKey 0x28 (0x140 + s) (i + 1))) ||
    beyond (e.i (odKey 0x28 (0x200 + s) (i + 6))) (e.cfg (odKey 0x28 (0x180 + s) (i + 1))))

/-! ## The boundary (R259, R261 to R264) -/

/-- shadow_dev of slot `s` (R262), with the bound its test adds. -/
def Eng.shadowDev (e : Eng) (x : Ctx) (s : Nat) : Option (Int × Int) :=
  let k := e.cfgN (Od.SEL_SLOT.home_moon s)
  match (e.slot s).latest, e.shadow x k x.tick with
  | some r, some sh =>
    if e.slotUse s = 2 then some (e.tauOf r k x.tick - sh.1, sh.2)
    else if r.hasFf then some (r.ff + fxToFf e.model.y, 0) else none
  | _, _ => none

/-- A test whose run outside sets a cause and whose run inside clears it, for drift_dwell. -/
def Eng.dwellCause (e : Eng) (x : Ctx) (s c : Nat) (out in_ : Option Nat) : Eng :=
  let d := e.cfgN (Od.SEL_SLOT.drift_dwell s)
  if runPassed x out d then e.setCause x s c else if runPassed x in_ d then e.clearCause x s c else e

/-- The causes of slot `s` evaluated at a boundary. -/
def Eng.judgeSlot (e : Eng) (x : Ctx) (s : Nat) : Eng :=
  if (e.slot s).source = 0 then e
  else
    let now := x.st 0
    let time := e.slotUse s == 2
    let maj := e.majorityDev s x.tick
    let sh := e.shadowDev x s
    let mm := if time then e.cfg (Od.SEL_SLOT.majority_mask s) else e.cfg (Od.SEL_SLOT.freq_mask s)
    let sm := if time then e.cfg (Od.SEL_SLOT.shadow_mask s) else e.cfg (Od.SEL_SLOT.freq_mask s)
    let beyond := (match maj with | some d => decide (mm < (d.natAbs : Int)) | none => false) ||
      (match sh with | some d => decide (sm + d.2 < (d.1.natAbs : Int)) | none => false)
    let bad := e.unstable s
    let e := e.sourceChanged x s
    let rank := e.slotRank s
    let e := if e.cfgN (Od.SEL_SLOT.rank_limit s) < rank then e.setCause x s cQuality else e.clearCause x s cQuality
    let e := e.modSlot s (fun t => { t with
      driftOut := keepRun beyond now t.driftOut, driftIn := keepRun (!beyond) now t.driftIn
      stabOut := keepRun bad now t.stabOut, stabIn := keepRun (!bad) now t.stabIn })
    let t := e.slot s
    let e := (e.dwellCause x s cDrift t.driftOut t.driftIn).dwellCause x s cStability t.stabOut t.stabIn
    let e := if maj.isNone then e.orb (Od.SEL_SLOT_STATUS.sticky s) 1024 else e
    let left := match (e.slot s).wait with
      | some w => ceilDiv (e.waitSeconds s * unitsPerSec - (stDiff now w).toNat) unitsPerSec
      | none => 0
    e.setAll [(Od.SEL_SLOT_STATUS.use s, e.slotUse s), (Od.SEL_SLOT_STATUS.rank s, rank),
      (Od.SEL_SLOT_STATUS.rate_mhz s, e.srcRate (e.slot s).source), (Od.SEL_SLOT_STATUS.wtr_remaining s, left),
      (Od.SEL_SLOT_STATUS.majority_dev s, sat64 (maj.getD 0)),
      (Od.SEL_SLOT_STATUS.shadow_dev s, sat64 ((sh.map (fun d => d.1)).getD 0))]

/-- Moon `k`'s anchors at a boundary (R261). -/
def Eng.anchorMoon (e : Eng) (x : Ctx) (k : Nat) : Eng :=
  let now := x.st 0
  if e.follows k || (e.moon k).cur.state != .locked || e.sel.held.contains k then
    e.modSelMoon k (fun m => { m with lockedAt := none, anchors := [] })
  else
    let m := e.selMoon k
    let p := e.cfgN (Od.SEL_MOON.lookback k) / 16
    let since := m.lockedAt.getD now
    let next := if m.lockedAt.isNone then now else m.anchorNext
    let run := m.anchors.map (fun a => { a with err := e.holdRun a.err now none })
    if stGe now next then
      let a : Anchor := ⟨x.acc k, x.tick, e.model.phase, e.holdStart now 0⟩
      e.modSelMoon k (fun m => { m with
        lockedAt := some since, anchors := (a :: run).take 16, anchorNext := (next + p * unitsPerSec) % 2 ^ 64 })
    else e.modSelMoon k (fun m => { m with lockedAt := some since, anchors := run })

/-- The priority of slot `s` for moon `k`, 0 when it is not listed (R270), in a store. -/
def prioIn (st : Store) (k s : Nat) : Nat := (sget st (Od.SEL_PRIO k)).toNat / 256 ^ s % 256

/-- Slot `s` is listed for moon `k` and ELIGIBLE. -/
def Eng.mayServe (e : Eng) (k s : Nat) : Bool := prioIn e.od k s != 0 && e.selState s == 3

/-- Show a moon's selection (Table 12-10). -/
def Eng.showSelMoon (e : Eng) (x : Ctx) (k : Nat) : Eng :=
  let sh := e.shadow x k x.tick
  let el := (List.range 64).foldl (fun m s => if e.mayServe k s then m + 2 ^ s else m) 0
  let f := e.n (Od.SEL_MOON.force k)
  let left := match (e.selMoon k).lostAt with
    | some t => e.n (Od.SEL_MOON.hold_off_ms k) - (stDiff (x.st 0) t).toNat / (unitsPerSec / 1000)
    | none => 0
  e.setAll [(Od.SEL_MOON_STATUS.shadow_valid k, (boolNat sh.isSome : Nat)),
    (Od.SEL_MOON_STATUS.shadow_dev k, (match sh with | some v => sat64 ((x.lin k : Int) - v.1) | none => 0)),
    (Od.SEL_MOON_STATUS.shadow_bound k, (match sh with | some v => v.2 | none => 0)),
    (Od.SEL_MOON_STATUS.eligible k, (el : Nat)), (Od.SEL_MOON_STATUS.hold_off_left k, (left : Nat)),
    (Od.SEL_MOON_STATUS.force_state k, if 63 < f then 0 else if e.mayServe k f then 1 else 2)]

/-- The selector at a boundary: anchors, causes and status. -/
def Eng.selBoundary (e : Eng) (x : Ctx) : Eng :=
  let e := (List.range 32).foldl (fun e k => e.anchorMoon x k) e
  let e := (List.range 64).foldl (fun e s => e.judgeSlot x s) e
  (List.range 32).foldl (fun e k => e.showSelMoon x k) e

/-! ## Selection at the closing tick (R270 to R276) -/

/-- The order of two candidates of moon `k`: by priority, rank and number, or by rank, priority and number (R270). -/
def Eng.better (e : Eng) (k a b : Nat) : Bool :=
  let key (s : Nat) : Nat :=
    if e.n (Od.SEL_MOON.mode k) = 1 then (e.slotRank s * 256 + prioIn e.od k s) * 64 + s
    else (prioIn e.od k s * 256 + e.slotRank s) * 64 + s
  decide (key a < key b)

/-- The best eligible slot of moon `k`: TIME candidates displace FREQUENCY ones. -/
def Eng.bestSlot (e : Eng) (k : Nat) : Option Nat :=
  let cs := (List.range 64).filter (fun s => e.mayServe k s)
  let ts := cs.filter (fun s => e.slotUse s == 2)
  (if ts.isEmpty then cs else ts).foldl (fun best s =>
    match best with
    | none => some s
    | some b => if e.better k s b then some s else best) none

/-- The hold-off keeps the current slot (R271). -/
def Eng.holdsOff (e : Eng) (x : Ctx) (k : Nat) : Bool :=
  let ms := e.n (Od.SEL_MOON.hold_off_ms k)
  let cur := e.selected k
  cur < 64 && !e.mayServe k cur && ms != 0 &&
    (match (e.selMoon k).lostAt with
     | some t => !x.passed t (ms * unitsPerSec / 1000)
     | none => true)

/-- The slot moon `k` decides for, and the reason if it is a change (R270, R271). -/
def Eng.decideSlot (e : Eng) (x : Ctx) (k : Nat) (bySwitch : Bool) : Nat × Nat :=
  let cur := e.selected k
  let f := e.n (Od.SEL_MOON.force k)
  let held := cur < 64 && e.mayServe k cur
  if f < 64 ∧ e.mayServe k f then (f, if bySwitch then 4 else 3)
  else if e.holdsOff x k then (cur, 0)
  else
    match e.bestSlot k with
    | none => (0xFF, 1)
    | some b =>
      if !e.b (Od.SEL_MOON.revertive k) && held && e.slotUse cur == e.slotUse b then (cur, 0)
      else (b, if cur = 0xFF then 5 else if held then 2 else 1)

/-- Member 12 of a refused SWITCH (R272). -/
def Eng.switchCause (e : Eng) (k s : Nat) : Nat :=
  0x8000 + (if 63 < s ∨ 31 < k ∨ e.follows k then 0x2000
    else if e.selState s = 0 then 0x1000
    else if prioIn e.od k s = 0 then 0x2000
    else if e.selState s = 2 then 0x4000
    else e.n (Od.SEL_SLOT_STATUS.causes s))

/-- A SWITCH acts at the closing tick: force is written, or the entry is told why not (R272, R73). Says whether it acted. -/
def Eng.applySwitch (e : Eng) (k : Nat) : Bool × Eng :=
  match (e.selMoon k).switchTo with
  | none => (false, e)
  | some p =>
    let e := e.modSelMoon k (fun m => { m with switchTo := none })
    if p.1 < 64 ∧ e.mayServe k p.1 then (true, e.set (Od.SEL_MOON.force k) p.1)
    else
      let s := tgetD e.sched p.2 ⟨0, 0, 0, 0, 0, 0, .empty, 0, 0, 0, 0, 0, 0, 0, false, false, 0⟩
      let e := { e with sched := tput e.sched p.2 { s with result := e.switchCause k p.1, flags := s.flags ||| 32 } }
      (false, (e.inc32 Od.SCHED_STATUS.refused).orb Od.SCHED_STATUS.sticky 64)

/-- The decision of moon `k` for the coming boundary. -/
def Eng.selectMoon (e : Eng) (x : Ctx) (k : Nat) : Eng :=
  if e.follows k then
    e.modSelMoon k (fun m => { m with pending := if e.selected k = 0xFF then none else some (0xFF, 1) })
  else if e.sel.dead then e.modSelMoon k (fun m => { m with pending := if e.selected k = 0xFF then none else some (0xFF, 6) })
  else if e.sel.held.contains k then e.modSelMoon k (fun m => { m with pending := none })
  else
    let w := e.applySwitch k
    let e := w.2
    let d := e.decideSlot x k w.1
    let ok := e.selected k < 64 && e.mayServe k (e.selected k)
    e.modSelMoon k (fun m => { m with
      lostAt := if ok then none else if e.selected k < 64 then some (m.lostAt.getD (x.st 0)) else none
      pending := if d.1 = e.selected k then none else some d })

/-- A set staged for a moon in FREE RUN (R274): the count the coming slot implies at the boundary, or only its sub-second
part. -/
def Eng.stageSet (e : Eng) (x : Ctx) (k b : Nat) : Eng :=
  let s := e.comingSlot k
  if e.follows k || (e.unit k).isOpen || e.n (Od.SEL_MOON.acquire k) != 0 || (e.moon k).cur.state != .freeRun ||
      e.slotUse s != 2 then e
  else
    match (e.slot s).latest with
    | none => e
    | some r =>
      let count : Int := (x.accAt k b / 2 ^ 32 : Nat)
      let m : Int := count - (ns16 (b * 2 ^ 20) : Nat)
      let off := r.at_ (b * 2 ^ 20) + m
      let tau := if r.seconds then count - off else count.fdiv secU * secU + (count - wrapSec off).fmod secU
      (e.set (Od.MOON_SET.value k) (wtOf tau : Nat)).set (Od.MOON_SET.armed k) 1

/-- A step staged on a confirmed jump (R275). -/
def Eng.stageJump (e : Eng) (x : Ctx) (k s : Nat) : Eng :=
  let t := e.slot s
  match t.jump, t.latest with
  | some delta, some _ =>
    let near := match e.majorityDev s x.tick with
      | some d => decide ((d.natAbs : Int) ≤ e.i (Od.SEL_SLOT.majority_mask s))
      | none => true
    let again := t.stepFor.isSome
    if t.jumpMoons.contains k && !e.follows k && !(e.unit k).isOpen && e.b (Od.SEL_MOON.step_on_jump k) &&
        e.hasCause s cJump && !e.hasCause s cPath && near && (!again || e.consentLive x k) then
      (e.set (Od.MOON_STEP_STAGED k) (-delta)).modSlot s (fun t => { t with stepFor := some k })
    else e
  | _, _ => e

/-- The selector at the closing tick of boundary `b` (R270 to R276); on a disagreement of its copies it changes nothing, and
at the third in a row it is out of use until reset. -/
def Eng.selClose (e : Eng) (x : Ctx) (b : Nat) (bad : Bool) : Eng :=
  let n := if bad then e.sel.badRun + 1 else 0
  let e := { e with sel := { e.sel with badRun := n, badNow := bad } }
  let e := if bad then ((e.detect x 11 4 0).inc32 Od.SEL_STATUS.mismatches).orb Od.SEL_STATUS.sticky 8 else e
  let e := if n = 3 then { e with sel := { e.sel with dead := true } }.detect x 11 5 0 else e
  if bad && !e.sel.dead then e
  else
    let e := (List.range 32).foldl (fun e k => e.selectMoon x k) e
    if e.sel.dead then e
    else
      let e := (List.range 32).foldl (fun e k => e.stageSet x k b) e
      (List.range 64).foldl (fun e s => (e.slot s).jumpMoons.foldl (fun e k => e.stageJump x k s) e) e

/-! ## Boundary step 5 (R271) -/

/-- A pending change of moon `k` takes effect at boundary `b`. -/
def Eng.takeSelection (e : Eng) (x : Ctx) (b k : Nat) : Eng :=
  match (e.selMoon k).pending with
  | none => e
  | some d =>
    let e := e.setAll [(Od.SEL_MOON_STATUS.previous k, e.selected k), (Od.SEL_MOON_STATUS.selected k, d.1),
      (Od.SEL_MOON_STATUS.use k, e.slotUse d.1), (Od.SEL_MOON_STATUS.reason k, d.2),
      (Od.SEL_MOON_STATUS.last_switch_boundary k, b)]
    let e := (e.inc32 (Od.SEL_MOON_STATUS.switches k)).inc32 Od.SEL_STATUS.switches
    let e := if d.1 = 0xFF then e.orb Od.SEL_STATUS.sticky 16 else e
    (e.modSelMoon k (fun m => { m with pending := none, lostAt := none, feedFrom := b, fedAt := none })).irqLatch x 229

/-- Step 5 for every moon. -/
def Eng.takeSelections (e : Eng) (x : Ctx) (b : Nat) : Eng := (List.range 32).foldl (fun e k => e.takeSelection x b k) e

/-- A step staged on a jump was applied at the boundary: PHASE_JUMP clears without wait-to-restore (R275). -/
def Eng.jumpSteps (e : Eng) (x : Ctx) : Eng :=
  (List.range 64).foldl (fun e s =>
    match (e.slot s).stepFor with
    | some k => if bitOf (e.moon k).cur.flags 9 ∧ e.hasCause s cJump then e.rebase x s (2 ^ cJump) true else e
    | none => e) e

/-! ## Writes of area 28 (R265, R269, R272, R277) -/

/-- A write of SEL_SLOT members: RANGE for a home moon that follows moon 0 or a rank_override without meaning; a write of the
asymmetry has origin USER, and clears PATH_CHANGE with its jump when it takes effect (R268, notes/assumptions/36.md). -/
def selSlotWrite (x : Ctx) (s : Nat) (vs : List (Key × Int)) (e : Eng) : WriteRes :=
  let f := e.setAll vs
  if vs.any (fun p => p.1 == Od.SEL_SLOT.home_moon s) && f.follows (f.n (Od.SEL_SLOT.home_moon s)) then (stRange, e)
  else if vs.any (fun p => p.1 == Od.SEL_SLOT.asymmetry s) then
    let f := f.set (Od.SEL_SLOT.asym_origin s) 0
    (stOk, if f.hasCause s cPath then f.modSlot s (fun t => { t with asym := some ⟨0, 0, 0, x.st 0, 1, true⟩ }) else f)
  else (stOk, f)

/-- A write of SEL_MOON members: wtr_alone up to wtr; force names a listed slot of a moon that steers itself. -/
def selMoonWrite (k : Nat) (vs : List (Key × Int)) (e : Eng) : WriteRes :=
  let f := e.setAll vs
  let forced := f.n (Od.SEL_MOON.force k)
  let named := vs.any (fun p => p.1 == Od.SEL_MOON.force k)
  if names vs [Od.SEL_MOON.wtr k, Od.SEL_MOON.wtr_alone k] && f.n (Od.SEL_MOON.wtr k) < f.n (Od.SEL_MOON.wtr_alone k)
  then (stRange, e)
  else if named ∧ (f.follows k ∨ (63 < forced ∧ forced ≠ 0xFF)) then (stRange, e)
  else if named ∧ forced < 64 ∧ prioIn f.od k forced = 0 then (stNotListed, e)
  else (stOk, { f with sel := { f.sel with held := f.sel.held.filter (fun j => j != k) } })

/-- A write of SEL_SLOT_CMD: 1 ACCEPT_JUMP, 2 CLEAR_WTR, 3 RESET_STABILITY. -/
def selCmd (x : Ctx) (s : Nat) (v : Int) (e : Eng) : WriteRes :=
  if v = 1 then (stOk, (e.modSlot s (fun t => { t with asym := none })).rebase x s (2 ^ cJump + 2 ^ cPath) false)
  else if v = 2 then (stOk, if e.selState s = 2 then e.slotEligible s else e)
  else (stOk, (e.modSlot s SelSlot.forget).noFigures s)

/-- A write of SEL_PEEK (R259): one pair of the matrix, at the tick of the row's latest measurement; zeros for an unbound
slot. DEDUCED: its tick member is that tick (notes/assumptions/38.md). -/
def selPeek (vs : List (Key × Int)) (e : Eng) : WriteRes :=
  let f := e.setAll vs
  let pair := match (f.slot (f.n Od.SEL_PEEK.row)).latest, (f.slot (f.n Od.SEL_PEEK.col)).latest with
    | some a, some b =>
      let d := a.raw - b.at_ a.tick
      (sat64 (if a.seconds && b.seconds then d else wrapSec d), sat64 (a.ff - b.ff), (a.tick : Int))
    | _, _ => (0, 0, 0)
  (stOk, f.setAll [(Od.SEL_PEEK.phase, pair.1), (Od.SEL_PEEK.ff, pair.2.1), (Od.SEL_PEEK.tick, pair.2.2)])

/-! ## The commands -/

/-- STABILITY_UPDATE (R260). -/
def execStabilityUpdate (s : State) : Host.Outcome State Fault Refusal := lift (fun x e => e.stability x) s

/-- SLOT_SILENT (Table 12-2), when the slot's silence time has passed. -/
def execSlotSilent (slot : Fin 64) (s : State) : Host.Outcome State Fault Refusal :=
  lift (fun x e => whenDue (e.silentDue x slot) (fun e => e.setCause x slot cSilent) e) s

/-- ASYM_ESTIMATE (R268), when asym_time has passed: the estimate is complete, and acts at the first boundary whose closing tick
follows. -/
def execAsymEstimate (slot : Fin 64) (s : State) : Host.Outcome State Fault Refusal :=
  lift (fun x e => whenDue (e.asymDue x slot) (fun e => e.asymStage slot 1) e) s

/-- WAIT_TO_RESTORE_END (R269), when the wait has passed. -/
def execWaitToRestoreEnd (slot : Fin 64) (s : State) : Host.Outcome State Fault Refusal :=
  lift (fun x e => whenDue (e.waitOver x slot) (fun e => e.slotEligible slot) e) s

/-- ACCEPT_JUMP (R265): SEL_SLOT_CMD 1. -/
def execAcceptJump (slot : Fin 64) (roles : Nat) (s : State) : Host.Outcome State Fault Refusal :=
  lift (fun x e => e.writeCmd x (Od.SEL_SLOT_CMD slot) 1 roles (selCmd x slot 1)) s

/-- CLEAR_WTR (R269): SEL_SLOT_CMD 2. -/
def execClearWtr (slot : Fin 64) (roles : Nat) (s : State) : Host.Outcome State Fault Refusal :=
  lift (fun x e => e.writeCmd x (Od.SEL_SLOT_CMD slot) 2 roles (selCmd x slot 2)) s

/-- RESET_STABILITY (R260): SEL_SLOT_CMD 3. -/
def execResetStability (slot : Fin 64) (roles : Nat) (s : State) : Host.Outcome State Fault Refusal :=
  lift (fun x e => e.writeCmd x (Od.SEL_SLOT_CMD slot) 3 roles (selCmd x slot 3)) s

/-- SEL_PEEK_WRITE (R277). -/
def execSelPeekWrite (w : RecWrite) (roles : Nat) (s : State) : Host.Outcome State Fault Refusal :=
  lift (fun x e => e.recCmd x 0x28 2 w roles selPeek) s

/-- SEL_FORCE_WRITE (R272). -/
def execSelForceWrite (moon : Fin 32) (value roles : Nat) (s : State) : Host.Outcome State Fault Refusal :=
  lift (fun x e => e.writeCmd x (Od.SEL_MOON.force moon) value roles
    (selMoonWrite moon [(Od.SEL_MOON.force moon, value)])) s

end Sys2Proof.Machine
end

