-- ==== Sys2Proof/Machine/Refin.lean ====
section
/-! DEFINITION. Reference inputs (spec/10_reference_inputs.md R211 to R227): the REFIN units with their slicers, qualification
and siblings, the SyncE comparators, and the time-of-day input. -/

namespace Sys2Proof.Machine

/-! ## Parts of the state -/

/-- REFIN unit `n`. -/
def Eng.refin (e : Eng) (n : Nat) : RefinUnit := nth e.refins n RefinUnit.atReset

/-- Change REFIN unit `n`. -/
def Eng.modRefin (e : Eng) (n : Nat) (f : RefinUnit → RefinUnit) : Eng := { e with refins := modNth e.refins n f }

/-- SyncE comparator `c`. -/
def Eng.synce (e : Eng) (c : Nat) : SynceUnit := nth e.synces c SynceUnit.atReset

/-- Change SyncE comparator `c`. -/
def Eng.modSynce (e : Eng) (c : Nat) (f : SynceUnit → SynceUnit) : Eng := { e with synces := modNth e.synces c f }

/-- The compare rate of an input: 1 Hz in PPS mode. -/
def Eng.refinHz (e : Eng) (n : Nat) : Nat :=
  if e.n (Od.REFIN_CFG.mode n) = 0 then 1 else max 1 (e.n (Od.REFIN_CFG.compare_hz n))

/-- The compare period in 2^-16 ns. -/
def Eng.refinPeriod (e : Eng) (n : Nat) : Nat := unitsPerSec / e.refinHz n

/-- The gate in compare periods (R214). -/
def Eng.refinGate (e : Eng) (n : Nat) : Nat :=
  let g := e.n (Od.REFIN_QUAL.gate n)
  if g = 0 then e.refinHz n else g

/-- A phase reduced into (−P/2, P/2]. -/
def wrapTo (p : Nat) (v : Int) : Int :=
  let r := v % (p : Int)
  if 2 * r ≤ p then r else r - p

/-- −(u_k − u_(k−g)) / (g P) as an FF, to the nearest (R214). -/
def ffOf (du : Int) (g period : Nat) : Int := -(roundDiv (du * (2 ^ 64 : Nat)) (g * period))

/-- A frequency offset lies outside a limit in ppb. -/
def ffBeyond (ff : Int) (ppb : Nat) : Bool := ppb * 2 ^ 64 < ff.natAbs * 1000000000

/-! ## Causes and states (R216, R217) -/

/-- A state change of an input reaches its slot in the same tick. -/
def Eng.refinState (e : Eng) (x : Ctx) (n st : Nat) : Eng :=
  (e.set (Od.REFIN_STATUS.state n) st).sourceChanged x (e.n (Od.REFIN_CFG.slot n))

/-- The condition of cause `bit` is present: the cause is set, and the input FAILED. -/
def Eng.refinCause (e : Eng) (x : Ctx) (n bit : Nat) : Eng :=
  let e := e.modRefin n (fun u => { u with seen := tput u.seen bit x.tick, clean := x.st 0 })
  if bitOf (e.n (Od.REFIN_STATUS.causes n)) bit then e
  else
    let e := (e.orb (Od.REFIN_STATUS.causes n) (2 ^ bit)).orb (Od.REFIN_STATUS.sticky n) (2 ^ bit)
    let e := (e.inc32 (Od.REFIN_STATUS.fail_count n)).set (Od.REFIN_STATUS.last_fail_tick n) x.tick
    if e.n (Od.REFIN_STATUS.state n) = 0 then e else e.refinState x n 1

/-- Set a cause while a condition holds. -/
def Eng.refinCauseIf (e : Eng) (x : Ctx) (n bit : Nat) (present : Bool) : Eng :=
  if present then e.refinCause x n bit else e

/-- The deadline of STUCK: the previous compare edge, or the restart, + P + window (PPS) or + 1.5 P (R216). -/
def Eng.stuckAt (e : Eng) (n : Nat) : Nat :=
  let u := e.refin n
  let p := e.refinPeriod n
  u.prev.getD u.begun + (if e.n (Od.REFIN_CFG.mode n) = 0 then p + e.n (Od.REFIN_QUAL.window n) else p + p / 2)

/-- The input is past its deadline. -/
def Eng.stuckDue (e : Eng) (x : Ctx) (n : Nat) : Bool :=
  e.n (Od.REFIN_STATUS.state n) != 0 && !(e.refin n).restart && e.stuckAt n < x.lin 0

/-! ## Siblings (R221 to R223) -/

/-- The publication of a SIBLING input's member. -/
def Eng.sibOf (e : Eng) (n : Nat) : Option SibPub :=
  if e.n (Od.REFIN_CFG.source n) = 1 then tget e.sibs (e.n (Od.REFIN_CFG.sibling n)) else none

/-- No publication from the member for 3 s of moon 0. -/
def Eng.sibStale (e : Eng) (x : Ctx) (n : Nat) : Bool :=
  e.n (Od.REFIN_CFG.source n) == 1 && e.n (Od.REFIN_STATUS.state n) != 0 &&
    (match e.sibOf n with
     | some p => x.passed p.at_ (3 * unitsPerSec)
     | none => x.passed ((e.refin n).begun % 2 ^ 64) (3 * unitsPerSec))

/-- SIBLING_STATE and LOOP as the member's last publication has them. -/
def Eng.sibCauses (e : Eng) (x : Ctx) (n : Nat) : Eng :=
  match e.sibOf n with
  | none => e
  | some p => (e.refinCauseIf x n 6 (p.state != 2)).refinCauseIf x n 8 (p.sibling == e.n Od.SEG.member)

/-- The condition of a cause is present now; CHATTER and PERIOD are events (Table 10-4). -/
def Eng.refinPresent (e : Eng) (x : Ctx) (n bit : Nat) : Bool :=
  match bit with
  | 0 => e.stuckDue x n
  | 3 => bitOf (e.n (Od.REFIN_MEAS.flags n)) 0 && ffBeyond (e.i (Od.REFIN_MEAS.ff n)) (e.n (Od.REFIN_QUAL.freq_limit_ppb n))
  | 4 => e.n (Od.REFIN_CFG.waveform n) == 1 && decide (e.n (Od.REFIN_STATUS.amplitude_mv n) < e.n (Od.REFIN_QUAL.amp_min_mv n))
  | 5 => decide (2 ≤ (e.refin n).testBad)
  | 6 => match e.sibOf n with | some p => p.state != 2 | none => false
  | 7 => e.sibStale x n
  | 8 => match e.sibOf n with | some p => p.sibling == e.n Od.SEG.member | none => false
  | _ => false

/-- A cause that is set: kept while its condition is present, and cleared once that has been absent for one compare period
(R216). -/
def Eng.refinClear (e : Eng) (x : Ctx) (n bit : Nat) : Eng :=
  if !bitOf (e.n (Od.REFIN_STATUS.causes n)) bit then e
  else if e.refinPresent x n bit then e.modRefin n (fun u => { u with seen := tput u.seen bit x.tick })
  else if tgetD (e.refin n).seen bit 0 + 1000000000 / e.refinHz n ≤ x.tick then e.andc (Od.REFIN_STATUS.causes n) (2 ^ bit)
  else e

/-- One input within a tick: the causes its member's publication gives, the causes that clear, and FAILED left for QUALIFYING
(R217, R222, R223). -/
def Eng.refinTick (e : Eng) (x : Ctx) (n : Nat) : Eng :=
  if e.n (Od.REFIN_STATUS.state n) = 0 then e
  else
    let e := e.sibCauses x n
    if e.n (Od.REFIN_STATUS.state n) ≠ 1 then e
    else
      let e := (List.range 9).foldl (fun e bit => e.refinClear x n bit) e
      if e.n (Od.REFIN_STATUS.causes n) ≠ 0 then e
      else (e.modRefin n (fun u => { u with clean := x.st 0 })).refinState x n 2

/-- The REFIN inputs within a tick. -/
def Eng.refTick (e : Eng) (x : Ctx) : Eng := (List.range 8).foldl (fun e n => e.refinTick x n) e

/-- sibling_bound of an input. -/
def Eng.sibBound (e : Eng) (n : Nat) : Int := match e.sibOf n with | some p => p.bound | none => 0

/-! ## The time-of-day input (R225, R226) -/

/-- Whole seconds from 1970-01-01 to a civil date at midnight. -/
def civilSeconds (y m d : Nat) : Int :=
  let y' := if m ≤ 2 then y - 1 else y
  let era := y' / 400
  let yoe := y' % 400
  let doy := (153 * ((m + 9) % 12) + 2) / 5 + (d - 1)
  let doe := yoe * 365 + yoe / 4 - yoe / 100 + doy
  ((era * 146097 + doe : Nat) - 719468 : Int) * 86400

/-- The days of a month. -/
def monthDays (y m : Nat) : Nat :=
  if m = 2 then (if y % 4 = 0 ∧ (y % 100 ≠ 0 ∨ y % 400 = 0) then 29 else 28)
  else if m = 4 ∨ m = 6 ∨ m = 9 ∨ m = 11 then 30 else 31

/-- A decimal number of digits only. -/
def decimal (l : List Nat) : Option Nat :=
  if l.isEmpty then none
  else l.foldl (fun a c => match a with
    | some n => if 48 ≤ c ∧ c ≤ 57 then some (n * 10 + (c - 48)) else none
    | none => none) (some 0)

/-- A signed decimal. -/
def signedDecimal (l : List Nat) : Option Int :=
  match l with
  | 45 :: t => (decimal t).map (fun n => -(n : Int))
  | 43 :: t => (decimal t).map (fun n => (n : Int))
  | t => (decimal t).map (fun n => (n : Int))

/-- Split at a character. -/
def splitAt (c : Nat) : List Nat → List (List Nat)
  | [] => [[]]
  | a :: t =>
    match splitAt c t with
    | [] => [[]]
    | h :: r => if a = c then [] :: h :: r else (a :: h) :: r

/-- A hex digit's value. -/
def hexVal (c : Nat) : Option Nat :=
  if 48 ≤ c ∧ c ≤ 57 then some (c - 48) else if 65 ≤ c ∧ c ≤ 70 then some (c - 55)
  else if 97 ≤ c ∧ c ≤ 102 then some (c - 87) else none

/-- The fields between $ and * of a sentence of at most 82 characters whose checksum is right. -/
def nmeaFields (text : Bytes) : Option (List (List Nat)) :=
  let t := text.map (fun b => b.toNat)
  let body := t.takeWhile (fun c => c != 13 && c != 10)
  if 82 < t.length then none
  else
    match body with
    | 36 :: rest =>
      let inner := rest.takeWhile (fun c => c != 42)
      match rest.drop inner.length with
      | [42, a, b] =>
        match hexVal a, hexVal b with
        | some h, some l => if inner.foldl (fun s c => s ^^^ c) 0 = 16 * h + l then some (splitAt 44 inner) else none
        | _, _ => none
      | _ => none
    | _ => none

/-- A label read: its UTC or TAI label in seconds, whether it is UTC, the line's own offset, and whether it says second 60. -/
structure TodLabel where
  sec : Int
  utc : Bool
  offset : Option Int
  leap : Bool
  deriving DecidableEq, Repr

/-- A label from its date and time of day. -/
def todLabel (y m d hh mm ss : Nat) (utc : Bool) (offset : Option Int) : Option TodLabel :=
  if 1 ≤ m ∧ m ≤ 12 ∧ 1 ≤ d ∧ d ≤ monthDays y m ∧ hh < 24 ∧ mm < 60 ∧ (ss < 60 ∨ (ss = 60 ∧ hh = 23 ∧ mm = 59 ∧ utc)) then
    some ⟨civilSeconds y m d + (hh * 3600 + mm * 60 + ss : Nat), utc, offset, ss == 60⟩
  else none

/-- A time of day hhmmss with an optional fraction. -/
def hms (f : List Nat) : Option (Nat × Nat × Nat) :=
  let f := f.takeWhile (fun c => c != 46)
  match decimal (f.take 2), decimal ((f.drop 2).take 2), decimal (f.drop 4) with
  | some h, some m, some s => if f.length = 6 then some (h, m, s) else none
  | _, _, _ => none

/-- The label of a ZDA or RMC sentence (R226). -/
def nmeaLabel (fs : List (List Nat)) : Option TodLabel :=
  let id := (fs.headD []).drop 2
  let at_ (i : Nat) := nth fs i []
  if (fs.headD []).length = 5 ∧ id = [90, 68, 65] then
    match hms (at_ 1), decimal (at_ 2), decimal (at_ 3), decimal (at_ 4) with
    | some t, some d, some m, some y => todLabel y m d t.1 t.2.1 t.2.2 true none
    | _, _, _, _ => none
  else if (fs.headD []).length = 5 ∧ id = [82, 77, 67] ∧ at_ 2 = [65] ∧ (at_ 9).length = 6 then
    match hms (at_ 1), decimal ((at_ 9).take 2), decimal (((at_ 9).drop 2).take 2), decimal ((at_ 9).drop 4) with
    | some t, some d, some m, some y => todLabel (2000 + y) m d t.1 t.2.1 t.2.2 true none
    | _, _, _, _ => none
  else none

/-- The label of the device's own line (R226). -/
def lineLabel (fs : List (List Nat)) : Option TodLabel :=
  match fs with
  | [id, date, time, scale, off, status] =>
    match (splitAt 45 date).map decimal, (splitAt 58 time).map decimal, signedDecimal off with
    | [some y, some m, some d], [some hh, some mm, some ss], some o =>
      if id = [84, 72, 84, 79, 68] ∧ status = [65] ∧ (scale = [84] ∨ scale = [85])
      then todLabel y m d hh mm ss (scale = [85]) (some o) else none
    | _, _, _ => none
  | _ => none

/-- TAI − UTC in force at a UTC label. -/
def Eng.offsetAtLabel (e : Eng) (sec : Int) : Int :=
  e.leaps.foldl (fun o l => if (l.instant : Int) ≤ sec then l.before + l.d else o) (e.i Od.LEAP_BASE)

/-- The TAI seconds of a label, and whether its offset differs from the leap table's; none for a second 60 the table does
not hold. -/
def Eng.labelTai (e : Eng) (l : TodLabel) : Option (Int × Bool) :=
  if !l.utc then some (l.sec, false)
  else if l.leap then
    match e.leaps.find? (fun p => (p.instant : Int) == l.sec && p.d == 1) with
    | some p =>
      let o := l.offset.getD p.before
      some (l.sec + o, o != p.before)
    | none => none
  else
    let o := l.offset.getD (e.offsetAtLabel l.sec)
    some (l.sec + o, o != e.offsetAtLabel l.sec)

/-- Change the time-of-day unit. -/
def Eng.modTod (e : Eng) (f : TodUnit → TodUnit) : Eng := { e with tod := f e.tod }

/-- A label for edge `n`: it agrees with the previous label and the edges elapsed, or TOD_MISMATCH. -/
def Eng.todAccept (e : Eng) (tai : Int) (n : Nat) : Eng :=
  let t := e.tod
  let ok := match t.label with
    | some l => decide (tai - l.1 = (n : Int) - l.2)
    | none => true
  let e := (e.inc32 Od.TOD_STATUS.good).set Od.TOD_STATUS.last_label (wtOf (tai * secU) : Nat)
  if ok then e.modTod (fun t => { t with label := some (tai, n), agree := t.agree + 1, missed := 0 })
  else
    ((e.inc32 Od.TOD_STATUS.mismatch).orb Od.TOD_STATUS.sticky 4).modTod
      (fun t => { t with label := some (tai, n), agree := 1, missed := 0 })

/-- seconds_valid of the time-of-day input: two labels in a row agree (R225). -/
def TodUnit.valid (t : TodUnit) : Bool := 2 ≤ t.agree

/-- The whole-second offset at edge count `n` whose nearest moon 0 second is `near`. -/
def TodUnit.offset (t : TodUnit) (n : Nat) (near : Int) : Int :=
  match t.label with
  | some l => if t.valid then near - (l.1 + ((n : Int) - l.2)) else 0
  | none => 0

/-- A PPS edge of the labelled input: a waiting label goes to it, or is late; 3 edges without one lose seconds_valid. -/
def Eng.todEdge (e : Eng) (lin : Nat) : Eng :=
  let e := e.modTod (fun t => { t with edges := t.edges + 1, lastEdge := some lin, missed := t.missed + 1, waiting := none })
  let lost (e : Eng) : Eng :=
    if 3 ≤ e.tod.missed then
      let e := if e.tod.valid then e.orb Od.TOD_STATUS.sticky 8 else e
      e.modTod (fun t => { t with agree := 0, label := none })
    else e
  lost e

/-- The same, with the label that waited for the edge (FOLLOWING). -/
def Eng.todEdgeLabelled (e : Eng) (lin : Nat) : Eng :=
  match e.tod.waiting with
  | none => e.todEdge lin
  | some w =>
    let e := e.todEdge lin
    if w.2 + unitsPerSec / 20 ≤ lin then e.todAccept w.1 e.tod.edges
    else (e.inc32 Od.TOD_STATUS.late).orb Od.TOD_STATUS.sticky 2

/-- A message received (R225, R226). -/
def Eng.todMessage (e : Eng) (x : Ctx) (text : Bytes) (framing : Bool) : Eng :=
  let fs := if framing then none else nmeaFields text
  let lab := match fs with
    | some f => if e.n Od.TOD_IN.format = 1 then lineLabel f else nmeaLabel f
    | none => none
  let tai := match lab with
    | some l => e.labelTai l
    | none => none
  if !e.b Od.TOD_IN.enable then e
  else
    match tai with
    | none => (e.inc32 Od.TOD_STATUS.bad).orb Od.TOD_STATUS.sticky 1
    | some v =>
      let e := if v.2 then (e.inc32 Od.TOD_STATUS.mismatch).orb Od.TOD_STATUS.sticky 4 else e
      if e.n Od.TOD_IN.edge_rule = 1 then e.modTod (fun t => { t with waiting := some (v.1, x.lin 0) })
      else
        match e.tod.lastEdge with
        | some l =>
          if x.lin 0 ≤ l + unitsPerSec * 9 / 10 then e.todAccept v.1 e.tod.edges
          else (e.inc32 Od.TOD_STATUS.late).orb Od.TOD_STATUS.sticky 2
        | none => (e.inc32 Od.TOD_STATUS.late).orb Od.TOD_STATUS.sticky 2

/-! ## Compare edges (R214 to R216) -/

/-- The time-of-day input labels REFIN `n`. -/
def Eng.todLabels (e : Eng) (n : Nat) : Bool :=
  e.b Od.TOD_IN.enable && e.n Od.TOD_IN.refin == n && e.n (Od.REFIN_CFG.mode n) == 0

/-- The nearest whole second of a moon 0 count, in seconds. -/
def nearSecond (c : Int) : Int := (c - wrapSec c).fdiv secU

/-- A compare edge measured: phase and frequency formed, kept in REFIN_MEAS and delivered (R214, R215). -/
def Eng.refinMeasure (e : Eng) (x : Ctx) (n c : Nat) : Eng :=
  let u := e.refin n
  let p := e.refinPeriod n
  let g := e.refinGate n
  let inst : Int := (c : Int) - u.delay - e.i (Od.REFIN_STATUS.walk n)
  let phase := wrapTo p inst
  let unw := match u.phase, u.hist with
    | some q, h :: _ => h + wrapTo p (phase - q)
    | _, _ => phase
  let hist := (unw :: u.hist).take (g + 1)
  let ff := if g < hist.length then some (ffOf (unw - nth hist g 0) g p) else none
  let e := e.modRefin n (fun u => { u with prev := some c, phase := some phase, hist := hist })
  let e := e.refinCauseIf x n 3 (match ff with
    | some f => ffBeyond f (e.n (Od.REFIN_QUAL.freq_limit_ppb n))
    | none => false)
  let e := if e.todLabels n then e.todEdgeLabelled c else e
  let secs := e.todLabels n && e.tod.valid
  let so := if secs then e.tod.offset e.tod.edges (nearSecond inst) else 0
  let e := if e.todLabels n then e.set Od.TOD_STATUS.seconds_offset so else e
  let full := phase + so * secU
  let fo := e.refinFreqOnly n
  let uncal := e.refinUncal n
  let st := e.n (Od.REFIN_STATUS.state n)
  let tick := x.tick
  let bound := e.sibBound n
  let flags := boolNat ff.isSome + 2 * boolNat secs + 4 * boolNat uncal +
    8 * boolNat (e.n (Od.REFIN_CFG.source n) = 1) + 16 * boolNat fo
  let e := e.setAll [(Od.REFIN_MEAS.tick n, tick), (Od.REFIN_MEAS.phase n, sat64 full),
    (Od.REFIN_MEAS.ff n, sat64 (ff.getD 0)), (Od.REFIN_MEAS.state n, st), (Od.REFIN_MEAS.flags n, (flags : Nat)),
    (Od.REFIN_MEAS.sibling_bound n, bound)]
  if st = 2 ∨ st = 3 then e.deliver x (e.n (Od.REFIN_CFG.slot n)) ⟨tick, full, ff, secs, uncal, fo, bound, none⟩ else e

/-- An edge captured at moon 0 count `c`, with whether a level before it was shorter than 500 ps and, for PPS, its pulse's
width. -/
def Eng.refinEdge (e : Eng) (x : Ctx) (n c : Nat) (short : Bool) (width : Nat) : Eng :=
  let u := e.refin n
  let p := e.refinPeriod n
  let pps := e.n (Od.REFIN_CFG.mode n) == 0
  let w := e.n (Od.REFIN_QUAL.window n)
  if e.n (Od.REFIN_STATUS.state n) = 0 ∨ u.restart then e
  else
    let early := match u.prev with
      | some q => pps && decide (c + w < q + p)
      | none => false
    let off := match u.prev with
      | some q => pps && decide ((q + p + e.n (Od.REFIN_QUAL.window_fine n) < c ∧ c ≤ q + p + w) ∨
          (c + e.n (Od.REFIN_QUAL.window_fine n) < q + p ∧ q + p ≤ c + w))
      | none => false
    let e := e.refinCauseIf x n 1 (early || short || (pps && decide (width < e.n (Od.REFIN_QUAL.min_width n))))
    if early then e
    else (((e.inc64 (Od.REFIN_STATUS.edges n)).refinCauseIf x n 2 off).sibCauses x n).refinMeasure x n c

/-! ## The boundary (R212, R213, R217, R219) -/

/-- A slicer at a boundary: the threshold moves 1 mV toward the midpoint, and the walk of the new threshold takes effect
(R213). -/
def Eng.sliceStep (e : Eng) (x : Ctx) (n : Nat) (hi lo : Int) : Eng :=
  let vth := e.i (Od.REFIN_STATUS.vth_mv n)
  let mid2 := hi + lo
  let vth := if (2 * vth - mid2).natAbs ≤ 1 then vth else if 2 * vth < mid2 then vth + 1 else vth - 1
  let e := e.set (Od.REFIN_STATUS.amplitude_mv n) (hi - lo)
  if hi - lo < e.i (Od.REFIN_QUAL.amp_min_mv n) then e.refinCause x n 4
  else
    let num := 2 * vth - mid2
    let e := e.set (Od.REFIN_STATUS.vth_mv n) vth
    if hi - lo < (num.natAbs : Int) then (e.set (Od.REFIN_STATUS.walk n) (signed 32 (e.draw (2 ^ 32)))).drawn
    else
      let r := fxDiv (fxOf num 1) (fxOf (hi - lo) 1)
      let t := fxDiv (fxAsin r) (2 * fxMul fxPi (fxOf (e.n (Od.REFIN_CFG.f_nom n)) 1))
      let w := fxRound (t * (unitsPerSec : Nat))
      e.set (Od.REFIN_STATUS.walk n) (if e.n (Od.REFIN_CFG.edge n) = 1 then -w else w)

/-- The threshold an input starts from. -/
def Eng.startVth (e : Eng) (n : Nat) : Int :=
  if e.n (Od.REFIN_CFG.signalling n) = 1 ∧ e.n (Od.REFIN_CFG.waveform n) = 0 then 0 else e.i (Od.REFIN_CFG.threshold_mv n)

/-- An input restarts at a boundary (R212): QUALIFYING, or DISABLED. -/
def Eng.refinRestart (e : Eng) (x : Ctx) (n : Nat) : Eng :=
  let on := e.b (Od.REFIN_CFG.enable n)
  let e := e.modRefin n (fun u => { RefinUnit.atReset with
    restart := false, begun := x.lin 0, delay := u.delay, clean := x.st 0 })
  let e := e.setAll [(Od.REFIN_STATUS.causes n, 0), (Od.REFIN_STATUS.vth_mv n, e.startVth n), (Od.REFIN_STATUS.walk n, 0)]
  e.refinState x n (if on then 2 else 0)

/-- One input at a boundary. -/
def Eng.refinBoundary (e : Eng) (x : Ctx) (n : Nat) : Eng :=
  let e := e.modRefin n (fun u => { u with delay := e.i (Od.REFIN_CAL.delay n) })
  let e := if (e.refin n).restart then e.refinRestart x n else e
  if e.n (Od.REFIN_STATUS.state n) = 0 then e
  else
    let e := match (e.refin n).peaks with
      | some p => if e.n (Od.REFIN_CFG.waveform n) = 1 then e.sliceStep x n p.1 p.2 else e
      | none => e
    let e := e.modRefin n (fun u => { u with peaks := none })
    let st := e.n (Od.REFIN_STATUS.state n)
    if e.n (Od.REFIN_STATUS.causes n) ≠ 0 then e
    else if st = 2 ∧ x.passed (e.refin n).clean (e.n (Od.REFIN_QUAL.qual_time n) * unitsPerSec) then
      (e.set (Od.REFIN_STATUS.qualified_tick n) x.tick).refinState x n 3
    else e

/-- The peaks measured over a boundary are sealed for the slicers. -/
def Eng.takePeaks (e : Eng) (ps : List SlicePeaks) : Eng :=
  ps.foldl (fun e p => e.modRefin p.input (fun u => { u with peaks := some (p.high, p.low) })) e

/-- A unit's test edge (R219): more than 20 ps out on two boundaries in a row is cause UNIT and a CONTAINED fault. -/
def Eng.testEdge (e : Eng) (x : Ctx) (u : Nat) (ps : Int) : Eng :=
  let bad := 20 < ps.natAbs
  if u < 8 then
    let e := e.modRefin u (fun r => { r with testBad := if bad then r.testBad + 1 else 0 })
    if 2 ≤ (e.refin u).testBad then (if (e.refin u).testBad = 2 then e.detect x 9 1 u else e).refinCause x u 5 else e
  else if u < 40 then
    let e := e.modSynce (u - 8) (fun r => { r with testBad := if bad then r.testBad + 1 else 0 })
    if (e.synce (u - 8)).testBad = 2 then e.detect x 9 1 u else e
  else e

/-! ## SyncE comparators (R224) -/

/-- A comparator's state reaches its slot. -/
def Eng.synceState (e : Eng) (x : Ctx) (c st : Nat) : Eng :=
  (e.set (Od.SYNCE_STATUS.state c) st).sourceChanged x (e.n (Od.SYNCE_CFG.slot c))

/-- A comparator's cause is set or, once absent for one compare period, cleared. -/
def Eng.synceCause (e : Eng) (x : Ctx) (c bit : Nat) (present : Bool) : Eng :=
  if present then
    let e := e.modSynce c (fun u => { u with seen := tput u.seen bit x.tick, clean := x.st 0 })
    let e := (e.orb (Od.SYNCE_STATUS.causes c) (2 ^ bit)).orb (Od.SYNCE_STATUS.sticky c) (2 ^ bit)
    if e.n (Od.SYNCE_STATUS.state c) = 1 then e else e.synceState x c 1
  else if bitOf (e.n (Od.SYNCE_STATUS.causes c)) bit ∧ tgetD (e.synce c).seen bit 0 + 2 ^ 20 ≤ x.tick
  then e.andc (Od.SYNCE_STATUS.causes c) (2 ^ bit) else e

/-- The lane of comparator `c` has a link. -/
def Eng.laneLinked (e : Eng) (c : Nat) : Bool :=
  match e.portOfLane c with
  | some p => e.b (Od.PORT_STATUS.link p)
  | none => false

/-- The quality level of comparator `c`: its port's when the port names it (R224). -/
def Eng.synceQl (e : Eng) (c : Nat) : Nat × Bool :=
  match e.portOfLane c with
  | some p =>
    if p + e.n (Od.PORT_CONFIG.synce_lane p) = c ∧ e.b (Od.PORT_ESMC.ql_rx_valid p) then (e.n (Od.PORT_ESMC.ql_rx p), true)
    else (0, false)
  | none => (0, false)

/-- A comparator at a boundary, with the phase it captured. -/
def Eng.synceBoundary (e : Eng) (x : Ctx) (c : Nat) (phase : Option Int) : Eng :=
  if !e.b (Od.SYNCE_CFG.enable c) then
    if e.n (Od.SYNCE_STATUS.state c) = 0 then e
    else (e.modSynce c (fun _ => SynceUnit.atReset)).synceState x c 0
  else
    let e := if e.n (Od.SYNCE_STATUS.state c) = 0 then (e.modSynce c (fun _ => { SynceUnit.atReset with clean := x.st 0 })).synceState x c 2
      else e
    let g := e.n (Od.SYNCE_CFG.gate c)
    let linked := e.laneLinked c
    let hist := match phase with
      | some p => if linked then (p :: (e.synce c).hist).take (g + 1) else []
      | none => if linked then (e.synce c).hist else []
    let e := e.modSynce c (fun u => { u with hist := hist })
    let ff := if g < hist.length then some (ffOf (hist.headD 0 - nth hist g 0) g (ns16 (2 ^ 20))) else none
    let q := e.synceQl c
    let e := e.setAll [(Od.SYNCE_STATUS.ff c, sat64 (ff.getD 0)), (Od.SYNCE_STATUS.ql c, q.1),
      (Od.SYNCE_STATUS.ql_valid c, (boolNat q.2 : Nat))]
    let e := e.synceCause x c 0 (!linked)
    let e := e.synceCause x c 3 (match ff with
      | some f => ffBeyond f (e.n (Od.SYNCE_CFG.freq_limit_ppb c))
      | none => false)
    let e := e.synceCause x c 5 (2 ≤ (e.synce c).testBad)
    let st := e.n (Od.SYNCE_STATUS.state c)
    let e := if e.n (Od.SYNCE_STATUS.causes c) ≠ 0 then e
      else if st = 1 then (e.modSynce c (fun u => { u with clean := x.st 0 })).synceState x c 2
      else if st = 2 ∧ x.passed (e.synce c).clean (e.n (Od.SYNCE_CFG.qual_time c) * unitsPerSec) then e.synceState x c 3
      else e
    let st := e.n (Od.SYNCE_STATUS.state c)
    match phase with
    | some p => if linked ∧ (st = 2 ∨ st = 3) then
        e.deliver x (e.n (Od.SYNCE_CFG.slot c)) ⟨x.tick, p, ff, false, false, true, 0, none⟩ else e
    | none => e

/-- The reference engine at a boundary. -/
def Eng.refBoundary (e : Eng) (x : Ctx) (inp : BoundaryInputs) : Eng :=
  let e := inp.testEdges.foldl (fun e t => e.testEdge x t.1 t.2) (e.takePeaks inp.peaks)
  let e := (List.range 8).foldl (fun e n => e.refinBoundary x n) e
  (List.range 32).foldl (fun e c =>
    e.synceBoundary x c ((inp.synce.find? (fun s => s.lane.val == c)).map (fun s => s.phase))) e

/-! ## Writes of area 20 (R211, R212, R215, R227) -/

/-- A combination of Table 10-1. -/
def Eng.refinAllowed (e : Eng) (n : Nat) : Bool :=
  let f := e.n (Od.REFIN_CFG.f_nom n)
  let hz := e.n (Od.REFIN_CFG.compare_hz n)
  let sine := e.n (Od.REFIN_CFG.waveform n) == 1
  if e.n (Od.REFIN_CFG.mode n) = 0 then !sine && hz == 1
  else (if sine then 1000000 ≤ f else 1000 ≤ f) && f ≤ 800000000 && hz != 0 && f % hz == 0

/-- A write of REFIN_CFG members: Table 10-1, another member's number, and a free slot; accepted, the input restarts at the
next boundary. -/
def refinCfgWrite (x : Ctx) (n : Nat) (vs : List (Key × Int)) (e : Eng) : WriteRes :=
  let f := e.setAll vs
  let named := vs.any (fun p => p.1 == Od.REFIN_CFG.sibling n)
  let st := slotCheck f.od (srcRefin n) (f.n (Od.REFIN_CFG.slot n))
  if (names vs [Od.REFIN_CFG.mode n, Od.REFIN_CFG.f_nom n, Od.REFIN_CFG.compare_hz n, Od.REFIN_CFG.waveform n] &&
      !f.refinAllowed n) || (named && f.n (Od.REFIN_CFG.sibling n) == f.n Od.SEG.member) then (stRange, e)
  else if names vs [Od.REFIN_CFG.slot n] && st != stOk then (st, e)
  else (stOk, (f.modRefin n (fun u => { u with restart := true })).rebind x)

/-- A write of REFIN_QUAL members: window_fine up to window. -/
def refinQualWrite (n : Nat) (vs : List (Key × Int)) (e : Eng) : WriteRes :=
  let f := e.setAll vs
  if names vs [Od.REFIN_QUAL.window n, Od.REFIN_QUAL.window_fine n] &&
      f.n (Od.REFIN_QUAL.window n) < f.n (Od.REFIN_QUAL.window_fine n) then (stRange, e)
  else (stOk, f.modRefin n (fun u => { u with restart := true }))

/-- A write of SYNCE_CFG members. -/
def synceWrite (x : Ctx) (c : Nat) (vs : List (Key × Int)) (e : Eng) : WriteRes :=
  let f := e.setAll vs
  let st := slotCheck f.od (srcSynce c) (f.n (Od.SYNCE_CFG.slot c))
  if names vs [Od.SYNCE_CFG.slot c] && st != stOk then (st, e) else (stOk, f.rebind x)

/-- A write of TOD_IN members: refin names an input in PPS mode. -/
def todInWrite (vs : List (Key × Int)) (e : Eng) : WriteRes :=
  let f := e.setAll vs
  if vs.any (fun p => p.1 == Od.TOD_IN.refin) && f.n (Od.REFIN_CFG.mode (f.n Od.TOD_IN.refin)) != 0 then (stRange, e)
  else (stOk, f.modTod (fun _ => TodUnit.atReset))

/-! ## The commands -/

/-- REFIN_COMPARE_EDGE (R214): an edge captured at a moon 0 linear count. -/
def execRefinCompareEdge (input : Fin 8) (capture : Nat) (shortLevel : Bool) (width : Nat) (s : State) :
    Host.Outcome State Fault Refusal :=
  lift (fun x e => e.refinEdge x input capture shortLevel width) s

/-- REFIN_STUCK (R216), when the deadline has passed. -/
def execRefinStuck (input : Fin 8) (s : State) : Host.Outcome State Fault Refusal :=
  lift (fun x e => whenDue (e.stuckDue x input) (fun e => e.refinCause x input 0) e) s

/-- REFIN_CONFIG_WRITE (R212): of REFIN_CFG, or of REFIN_QUAL. -/
def execRefinConfigWrite (input : Fin 8) (qual : Bool) (w : RecWrite) (roles : Nat) (s : State) :
    Host.Outcome State Fault Refusal :=
  lift (fun x e =>
    if qual then e.recCmd x 0x20 (0x110 + input) w roles (refinQualWrite input)
    else e.recCmd x 0x20 (0x100 + input) w roles (refinCfgWrite x input)) s

/-- TOD_IN_MESSAGE (R225). -/
def execTodInMessage (text : Bytes) (framingError : Bool) (s : State) : Host.Outcome State Fault Refusal :=
  lift (fun x e => e.todMessage x text framingError) s

/-- SIBLING_STALE (R222), when nothing has been published for 3 s. -/
def execSiblingStale (input : Fin 8) (s : State) : Host.Outcome State Fault Refusal :=
  lift (fun x e => whenDue (e.sibStale x input) (fun e => e.refinCause x input 7) e) s

end Sys2Proof.Machine
end

