-- ==== Sys2Proof/Machine/Gnss.lean ====
section
/-! DEFINITION. The GNSS timing receiver (spec/11_gnss.md R228 to R255): sample tests, channels and acquisition, the time
solution with its integrity checks, OSNMA results, survey and hold, and the states of the front ends. What the radio
path and the solver's arithmetic yield is an operand. -/

namespace Sys2Proof.Machine

/-! ## Parts of the state -/

/-- Front end `f`. -/
def Eng.fe (e : Eng) (f : Nat) : GnssFe := nth e.gnss.fes f GnssFe.atReset

/-- Change front end `f`. -/
def Eng.modFe (e : Eng) (f : Nat) (g : GnssFe → GnssFe) : Eng :=
  { e with gnss := { e.gnss with fes := modNth e.gnss.fes f g } }

/-- A satellite's number: 256 × system + PRN. -/
def satOf (system prn : Nat) : Nat := 256 * system + prn

/-- The state of front end `f` (Table 11-5). -/
def Eng.feState (e : Eng) (f : Nat) : Nat := e.n (Od.GNSS_FE_STATUS.state f)

/-- A survey starts afresh (R245). -/
def GnssFe.noSurvey (g : GnssFe) : GnssFe := { g with survey := none, sumLat := 0, sumLon := 0, sumHeight := 0, fixes := 0 }

/-- A state change of a front end reaches its slot in the same tick (R252); leaving SOLVING and QUALIFIED restarts a
survey. -/
def Eng.feTo (e : Eng) (x : Ctx) (f st : Nat) : Eng :=
  if e.feState f = st then e
  else
    let e := if st = 4 ∨ st = 5 then e else e.modFe f GnssFe.noSurvey
    (e.set (Od.GNSS_FE_STATUS.state f) st).sourceChanged x (e.n (Od.GNSS_FE.slot f))

/-! ## Causes (R250, Table 11-4) -/

/-- The causes that make a front end FAILED: FROZEN, NOISE, ANTENNA and UNIT. -/
def feFatal : Nat := 0xC03

/-- The causes of bits 2 to 9. -/
def feSoft : Nat := 0x3FC

/-- The condition of cause `bit` of front end `f` is present. -/
def Eng.feCause (e : Eng) (x : Ctx) (f bit : Nat) : Eng :=
  if e.feState f = 0 then e
  else
    let e := e.modFe f (fun g => { g with seen := g.seen ||| 2 ^ bit, clean := x.st 0 })
    let e :=
      if bitOf (e.n (Od.GNSS_FE_STATUS.causes f)) bit then e
      else
        ((e.orb (Od.GNSS_FE_STATUS.causes f) (2 ^ bit)).orb (Od.GNSS_FE_STATUS.sticky f) (2 ^ bit)).inc32
          (Od.GNSS_FE_STATUS.fail_count f)
    if bitOf feFatal bit then e.feTo x f 1
    else if e.feState f = 5 ∧ bitOf feSoft bit then e.feTo x f 4
    else e

/-- Set a cause while a condition holds. -/
def Eng.feCauseIf (e : Eng) (x : Ctx) (f bit : Nat) (present : Bool) : Eng := if present then e.feCause x f bit else e

/-- ANTENNA while the pin is low and antenna_fault is 1. -/
def Eng.antennaCause (e : Eng) (x : Ctx) (f : Nat) : Eng :=
  e.feCauseIf x f 10 ((e.fe f).antLow && e.b (Od.GNSS_FE.antenna_fault f))

/-- At an epoch, causes absent since the epoch before it are cleared, and a front end FAILED without one of its causes goes
to SEARCHING. -/
def Eng.feClear (e : Eng) (x : Ctx) (f : Nat) : Eng :=
  let e := e.set (Od.GNSS_FE_STATUS.causes f) ((e.n (Od.GNSS_FE_STATUS.causes f)) &&& (e.fe f).seen : Nat)
  let e := e.modFe f (fun g => { g with seen := 0 })
  if e.feState f = 1 ∧ (e.n (Od.GNSS_FE_STATUS.causes f)) &&& feFatal = 0 then e.feTo x f 2 else e

/-! ## Sample statistics (R229, R230) -/

/-- The samples of a block. -/
def blockLen : Nat := 62500

/-- The sum of the levels 2k − 15 of a histogram. -/
def histSum (h : List Nat) : Int := (h.zipIdx).foldl (fun a p => a + (p.1 : Int) * (2 * p.2 - 15)) 0

/-- The sum of the squared levels. -/
def histSquares (h : List Nat) : Nat :=
  (h.zipIdx).foldl (fun a p => a + p.1 * (((2 * p.2 : Nat) : Int) - 15).natAbs * (((2 * p.2 : Nat) : Int) - 15).natAbs) 0

/-- A stream shows FROZEN by itself: every sample identical, or RMS at most 1.2. -/
def streamFrozen (h : List Nat) : Bool := h.contains blockLen || 100 * histSquares h ≤ 144 * blockLen

/-- A stream shows NOISE: RMS outside 2.0 to 9.0, or a mean beyond 1.0. -/
def streamNoisy (h : List Nat) : Bool :=
  histSquares h < 4 * blockLen || 81 * blockLen < histSquares h || (blockLen : Nat) < (histSum h).natAbs

/-- The bands in use. -/
def Eng.bandOn (e : Eng) (f b : Nat) : Bool := bitOf (e.n (Od.GNSS_FE.bands f)) b

/-- A block's tests: what the block before showed is set, and this one's results are kept for the next. -/
def Eng.sampleTests (e : Eng) (x : Ctx) (f : Nat) (bl : SampleBlock) : Eng :=
  let g := e.fe f
  let e := (e.feCauseIf x f 0 g.frozen).feCauseIf x f 1 g.noisy
  let on (s : BandStats) (b : Nat) (t : List Nat → Bool) : List Bool :=
    if e.bandOn f b then [t s.iHist, t s.qHist] else [false, false]
  let frozen := (on bl.upper 0 streamFrozen ++ on bl.lower 1 streamFrozen).any id ||
    (e.bandOn f 0 && bl.upper.same) || (e.bandOn f 1 && bl.lower.same)
  let runs := List.zipWith (fun n bad => if bad then n + 1 else 0) g.noiseRuns
    (on bl.upper 0 streamNoisy ++ on bl.lower 1 streamNoisy)
  e.modFe f (fun g => { g with frozen := frozen, noiseRuns := runs, noisy := runs.any (fun n => decide (8 ≤ n)) })

/-! ## Channels (R232 to R236) -/

/-- Channel `c` is in use by front end `f`. -/
def Eng.chanOf (e : Eng) (f c : Nat) : Bool := e.n (Od.GNSS_CHAN.state c) != 0 && e.n (Od.GNSS_CHAN.fe c) == f

/-- The channels of front end `f` that track. -/
def Eng.tracking (e : Eng) (f : Nat) : List Nat :=
  (List.range 128).filter (fun c => e.chanOf f c && e.n (Od.GNSS_CHAN.state c) == 2)

/-- The satellite of channel `c`. -/
def Eng.chanSat (e : Eng) (c : Nat) : Nat := satOf (e.n (Od.GNSS_CHAN.system c)) (e.n (Od.GNSS_CHAN.prn c))

/-- Channel `c` is IDLE. -/
def Eng.chanIdle (e : Eng) (c : Nat) : Eng :=
  let e := e.setAll [(Od.GNSS_CHAN.fe c, 0), (Od.GNSS_CHAN.band c, 0), (Od.GNSS_CHAN.system c, 0), (Od.GNSS_CHAN.prn c, 0),
    (Od.GNSS_CHAN.state c, 0), (Od.GNSS_CHAN.cn0 c, 0), (Od.GNSS_CHAN.elevation c, 0), (Od.GNSS_CHAN.azimuth c, 0),
    (Od.GNSS_CHAN.used c, 0), (Od.GNSS_CHAN.auth c, 0)]
  { e with gnss := { e.gnss with below := tdel e.gnss.below c, excluded := tdel e.gnss.excluded c } }

/-- What a channel's loops show. -/
def Eng.chanObserve (e : Eng) (x : Ctx) (f : Nat) (o : ChanObs) : Eng :=
  let c : Nat := o.channel
  if !e.chanOf f c then e
  else
    let st := e.n (Od.GNSS_CHAN.state c)
    let e := e.setAll [(Od.GNSS_CHAN.cn0 c, (o.cn0 : Nat)), (Od.GNSS_CHAN.elevation c, o.elevation),
      (Od.GNSS_CHAN.azimuth c, (o.azimuth : Nat)), (Od.GNSS_CHAN.state c, if st = 3 then 3 else if o.locked then 2 else 1)]
    let low := decide (o.cn0 < 100 * e.n Od.GNSS_GLOBAL.cn0_min)
    let t := if !low then tdel e.gnss.below c
      else if (tget e.gnss.below c).isSome then e.gnss.below else tput e.gnss.below c (x.st 0)
    { e with gnss := { e.gnss with below := t } }

/-- The orbit data of a satellite. -/
def Eng.orbit (e : Eng) (sat : Nat) : Orbit := tgetD e.gnss.orbits sat ⟨none, false, none⟩

/-- The whole second of moon 0. -/
def Ctx.second (x : Ctx) : Nat := x.lin 0 / unitsPerSec

/-- An ephemeris is within its validity. -/
def Orbit.ephOk (o : Orbit) (now : Nat) : Bool :=
  match o.eph with | some p => decide (p.1 ≤ now ∧ now ≤ p.2) | none => false

/-- An almanac is at most 30 days old. -/
def Orbit.almOk (o : Orbit) (now : Nat) : Bool := match o.alm with | some t => decide (now ≤ t + 2592000) | none => false

/-- The aiding of a satellite, as a row of Table 11-3. A held position, or a last solution, counts as within 1 km (DEDUCED,
notes/assumptions/24.md). -/
def Eng.aiding (e : Eng) (x : Ctx) (f sat : Nat) : Nat :=
  let pos := e.b Od.GNSS_HELD.valid || (e.fe f).last.isSome
  let st := (e.moon 0).cur.state
  let near := match (e.fe f).last with
    | some l => decide (l.1.natAbs ≤ unitsPerSec)
    | none => false
  if (e.orbit sat).ephOk x.second && pos && (st == .locked || st == .holdover) then 3
  else if (e.orbit sat).almOk x.second && pos && near then 2
  else 1

/-- A hit lies in the search window of its satellite. -/
def Eng.hitInWindow (e : Eng) (x : Ctx) (f : Nat) (h : SearchHit) : Bool :=
  let r := e.aiding x f (satOf h.system h.prn)
  if r = 3 then
    (h.code.natAbs : Int) ≤ (e.moon 0).cur.errorBound + (ns16 10000 : Nat) && h.doppler.natAbs ≤ 250
  else if r = 2 then h.doppler.natAbs ≤ 1000
  else h.doppler.natAbs ≤ 6000

/-- A hit may take a channel: confirmed, of an enabled system and band, above the mask where predicted, and not tracked
yet. -/
def Eng.hitOk (e : Eng) (x : Ctx) (f : Nat) (h : SearchHit) : Bool :=
  h.confirmed && bitOf (e.n Od.GNSS_GLOBAL.systems) h.system && e.bandOn f (boolNat h.lower) && e.hitInWindow x f h &&
    (match h.elevation with | some v => decide (e.i Od.GNSS_GLOBAL.elevation_mask < v) | none => true) &&
    !(List.range 128).any (fun c => e.chanOf f c && e.n (Od.GNSS_CHAN.band c) == boolNat h.lower &&
      e.chanSat c == satOf h.system h.prn)

/-- The authentication a Galileo satellite starts with. -/
def Eng.startAuth (e : Eng) (system prn : Nat) : Nat :=
  if system ≠ 1 ∨ e.n Od.GNSS_GLOBAL.osnma_policy = 0 then 0
  else if (tget e.gnss.failed prn).isSome then 3 else 1

/-- A hit takes the lowest idle channel, while the front end holds fewer than channels_max. -/
def Eng.takeHit (e : Eng) (x : Ctx) (f : Nat) (h : SearchHit) : Eng :=
  let held := ((List.range 128).filter (fun c => e.chanOf f c)).length
  if !e.hitOk x f h || e.n (Od.GNSS_FE.channels_max f) ≤ held then e
  else
    match (List.range 128).find? (fun c => e.n (Od.GNSS_CHAN.state c) == 0) with
    | none => e
    | some c =>
      e.setAll [(Od.GNSS_CHAN.fe c, f), (Od.GNSS_CHAN.band c, (boolNat h.lower : Nat)), (Od.GNSS_CHAN.system c, (h.system.val : Nat)),
        (Od.GNSS_CHAN.prn c, (h.prn : Nat)), (Od.GNSS_CHAN.state c, 1), (Od.GNSS_CHAN.cn0 c, (h.cn0 : Nat)),
        (Od.GNSS_CHAN.elevation c, h.elevation.getD 0), (Od.GNSS_CHAN.auth c, e.startAuth h.system h.prn)]

/-- Insert a hit in descending order of predicted elevation; hits without a prediction follow in the order found. -/
def insertHit (h : SearchHit) : List SearchHit → List SearchHit
  | [] => [h]
  | a :: t =>
    match h.elevation, a.elevation with
    | some u, some v => if v < u then h :: a :: t else a :: insertHit h t
    | some _, none => h :: a :: t
    | none, _ => a :: insertHit h t

/-- A dwell ends: its hits take channels. -/
def Eng.dwell (e : Eng) (x : Ctx) (f : Nat) (hits : List SearchHit) : Eng :=
  if e.feState f < 2 then e
  else (hits.foldl (fun l h => insertHit h l) []).foldl (fun e h => e.takeHit x f h) e

/-- A channel is to be released (R232): 2° below the mask, or below cn0_min for 10 s. -/
def Eng.releaseDue (e : Eng) (x : Ctx) (c : Nat) : Bool :=
  e.n (Od.GNSS_CHAN.state c) != 0 &&
    (decide (e.i (Od.GNSS_CHAN.elevation c) + 20 ≤ e.i Od.GNSS_GLOBAL.elevation_mask) ||
      (match tget e.gnss.below c with | some t => x.passed t (10 * unitsPerSec) | none => false))

/-- The front end's tracking after its channels changed: SEARCHING to TRACKING with a channel that tracks, and the time of
the last one. -/
def Eng.trackState (e : Eng) (x : Ctx) (f : Nat) : Eng :=
  if (e.tracking f).isEmpty then e
  else
    let e := e.modFe f (fun g => { g with trackAt := x.st 0 })
    if e.feState f = 2 then e.feTo x f 3 else e

/-! ## Navigation data (R237, R239, R244) -/

/-- One item decoded. -/
def Eng.navItem (e : Eng) (now f : Nat) (n : NavItem) : Eng :=
  match n with
  | .ephemeris sys prn a b wk =>
    let s := satOf sys prn
    { e with gnss := { e.gnss with orbits := tput e.gnss.orbits s { e.orbit s with eph := some (a, b), week := wk } } }
  | .almanac sys prn =>
    let s := satOf sys prn
    { e with gnss := { e.gnss with orbits := tput e.gnss.orbits s { e.orbit s with alm := some now } } }
  | .leap sys o inst d =>
    if sys.val ≠ e.n Od.GNSS_GLOBAL.time_ref ∧ sys.val ≠ 0 then e
    else
      let cur := taiUtcAt (e.i Od.LEAP_BASE) e.leaps (now * secU)
      let ahead := e.leaps.find? (fun l => decide ((now : Int) < (l.instant : Int) + l.before))
      let bad := decide (o ≠ cur) || (match ahead with
        | some l => decide (d = 0 ∨ inst ≠ l.instant ∨ d ≠ l.d)
        | none => decide (d ≠ 0))
      let e := e.setAll [(Od.GNSS_LEAP.tai_utc, o), (Od.GNSS_LEAP.next_instant, (wtOf ((inst : Int) * secU) : Nat)),
        (Od.GNSS_LEAP.next_delta, d), (Od.GNSS_LEAP.mismatch, (boolNat bad : Nat))]
      if bad then e.orb (Od.GNSS_FE_STATUS.sticky f) 4096 else e

/-- What GNSS_STORE shows of the orbits held. -/
def Eng.showStore (e : Eng) (now : Nat) : Eng :=
  let n := (e.gnss.orbits.filter (fun p => p.2.eph.isSome)).length
  let newest := e.gnss.orbits.foldl (fun m p => match p.2.alm with | some t => some (max t (m.getD 0)) | none => m) none
  (e.set Od.GNSS_STORE.ephemerides (n : Nat)).set Od.GNSS_STORE.almanac_age
    (match newest with | some t => ((now - t : Nat) : Int) | none => 0xFFFFFFFF)

/-- Firmware copies the orbits to the GNSS store. -/
def Eng.gnssSave (e : Eng) (x : Ctx) : Eng :=
  let e : Eng := { e with flash := { e.flash with gnss := e.gnss.orbits }, gnss := { e.gnss with savedAt := x.st 0 } }
  e.set Od.GNSS_STORE.last_save_tick x.tick

/-! ## The solution (R239 to R249, R253) -/

/-- The front end runs as HOLD (R245). -/
def Eng.holds (e : Eng) (f : Nat) : Bool :=
  let m := e.n Od.GNSS_POS.mode
  e.b Od.GNSS_HELD.valid && (m == 1 || (m == 0 && (e.fe f).surveyed))

/-- The satellites of a front end with their tracking bands: bit 0 upper, bit 1 lower. -/
def Eng.satBands (e : Eng) (f : Nat) : Tbl Nat :=
  (e.tracking f).foldl (fun t c =>
    let s := e.chanSat c
    tput t s (tgetD t s 0 ||| 2 ^ e.n (Od.GNSS_CHAN.band c))) []

/-- The state of authentication of a satellite. -/
def Eng.satAuth (e : Eng) (f sat : Nat) : Nat :=
  match (e.tracking f).find? (fun c => e.chanSat c == sat) with
  | some c => e.n (Od.GNSS_CHAN.auth c)
  | none => 0

/-- The satellites usable before the needs are counted: an enabled system, an ephemeris in validity with its week fixed, and
the authentication the policy asks for (R249). -/
def Eng.usable (e : Eng) (f now : Nat) : Tbl Nat :=
  let p := e.n Od.GNSS_GLOBAL.osnma_policy
  (e.satBands f).filter (fun s =>
    let o := e.orbit s.1
    let gal := s.1 / 256 == 1
    bitOf (e.n Od.GNSS_GLOBAL.systems) (s.1 / 256) && o.ephOk now && o.week &&
      (p == 0 || !(gal && (tget e.gnss.failed (s.1 % 256)).isSome)) &&
      (p < 2 || !gal || e.satAuth f s.1 == 2))

/-- The satellites left by AUTH_ANCHOR: Galileo alone when too few are authenticated (R249). -/
def Eng.anchored (e : Eng) (f : Nat) (u : Tbl Nat) : Tbl Nat × Bool :=
  let a := u.filter (fun s => s.1 / 256 == 1)
  if e.n Od.GNSS_GLOBAL.osnma_policy ≠ 3 then (u, false)
  else if a.length < (if e.holds f then 2 else 4) then (a, false)
  else (u, true)

/-- The satellites used with the number a solution needs: one inter-system bias each for the other systems while enough
satellites exist, else only systems with a broadcast offset (R239). -/
def Eng.withBias (e : Eng) (f broadcast : Nat) (u : Tbl Nat) : Tbl Nat × Nat :=
  let r := e.n Od.GNSS_GLOBAL.time_ref
  let base := if e.holds f then 1 else 4
  let others := ((List.range 4).filter (fun s => s != r && u.any (fun p => p.1 / 256 == s))).length
  if u.any (fun p => p.1 / 256 == r) ∧ base + others ≤ u.length then (u, base + others)
  else (u.filter (fun p => p.1 / 256 == r || bitOf broadcast (p.1 / 256)), base)

/-- RAIM's choice among the trials (R247). -/
def raim (ts : List GnssTrial) (limit need count : Nat) : Option GnssTrial :=
  let ok (n : Nat) (t : GnssTrial) : Bool := t.excluded.length == n && t.worst ≤ limit && need + n ≤ count
  if count ≤ need then ts.find? (fun t => t.excluded.isEmpty)
  else
    match ts.find? (ok 0), ts.find? (ok 1), ts.find? (ok 2) with
    | some t, _, _ => some t
    | none, some t, _ => some t
    | none, none, r => r

/-- The hardware delay removed from an estimate (R241, R242): a d_upper − b d_lower, with the shares of single-band
satellites at their band's delay. -/
def hardwareDelay (du dl : Int) (shareUpper shareLower : Nat) : Int :=
  let num := (24819481764 * du - 13840346025 * dl) * ((65536 : Int) - shareUpper - shareLower) +
    10979135739 * (du * (shareUpper : Nat) + dl * (shareLower : Nat))
  roundDiv num (10979135739 * 65536)

/-- TAI less system time, in seconds (R239). -/
def taiLess (system : Nat) : Int := if system = 2 then 33 else 19

/-- The offset of moon 0 from realised TAI of an estimate; none where BROADCAST_UTC has no model. -/
def Eng.realise (e : Eng) (x : Ctx) (f : Nat) (utc : Option Int) (single : Bool) (t : GnssTrial) : Option Int :=
  let g := e.fe f
  let d := if single then hardwareDelay g.dlyUpper g.dlyLower t.shareUpper t.shareLower
    else hardwareDelay g.dlyUpper g.dlyLower 0 0
  let c := t.clock - d
  if e.n Od.GNSS_GLOBAL.realisation = 0 then some (c - taiLess (e.n Od.GNSS_GLOBAL.time_ref) * secU)
  else
    match utc with
    | none => none
    | some u => some (c + u - e.offsetAtLabel (((x.lin 0 : Int) - c - u).fdiv secU) * secU)

/-- The epoch's instant in moon 0 linear count: the last whole multiple of 1 / solve_hz. -/
def Eng.epochInstant (e : Eng) (x : Ctx) : Nat :=
  let step := unitsPerSec / max 1 (e.n Od.GNSS_GLOBAL.solve_hz)
  x.lin 0 / step * step

/-- The tick of the sample nearest a tick: 16 n + k_f (R228). -/
def sampleTick (f tick : Nat) : Nat :=
  let k := Config.sampleOffset f % 16
  if tick < k then k else (tick - k + 8) / 16 * 16 + k

/-- INCONSISTENT of an epoch against the one before it, allowing for a step or set between. -/
def Eng.inconsistent (e : Eng) (f : Nat) (off : Int) (tick : Nat) : Bool :=
  match (e.fe f).last with
  | some (o, some ff, t) =>
    e.i Od.GNSS_GLOBAL.consistency_limit <
      ((off - o + ffPhase ff ((tick : Int) - t) - (e.fe f).jump).natAbs : Int)
  | _ => false

/-- JAM: the noise floor more than jam_db above its mean of the last 3,600 s, on every band in use. -/
def Eng.jammed (e : Eng) (f : Nat) : Bool :=
  let fl := (e.fe f).floors
  let above (now : Int) (v : List Int) : Bool := decide (meanOf v + 100 * e.n Od.GNSS_GLOBAL.jam_db < now)
  let up := above (e.fe f).floor.1 (fl.map (fun p => p.2.1))
  let lo := above (e.fe f).floor.2 (fl.map (fun p => p.2.2))
  !fl.isEmpty && (!e.bandOn f 0 || up) && (!e.bandOn f 1 || lo)

/-- The noise floor at an epoch joins those of the last 3,600 s. -/
def Eng.keepFloor (e : Eng) (x : Ctx) (f : Nat) : Eng :=
  let now := x.st 0
  e.modFe f (fun g => { g with
    floors := (now, g.floor.1, g.floor.2) :: g.floors.filter (fun p => (stDiff now p.1).toNat < 3600 * unitsPerSec) })

/-- POWER: more than half the tracked satellites above cn0_max. -/
def Eng.overpowered (e : Eng) (f : Nat) : Bool :=
  let sats := e.satBands f
  let hot := sats.filter (fun s => (e.tracking f).any (fun c =>
    e.chanSat c == s.1 && decide (100 * e.n Od.GNSS_GLOBAL.cn0_max < e.n (Od.GNSS_CHAN.cn0 c))))
  sats.length < 2 * hot.length

/-- OSNMA_FAIL: under policy 2 or 3, a satellite in use turned FAILED in the last 300 s. -/
def Eng.osnmaFailed (e : Eng) (x : Ctx) (f : Nat) : Bool :=
  2 ≤ e.n Od.GNSS_GLOBAL.osnma_policy &&
    (match (e.fe f).osnmaAt with | some t => !x.passed t (300 * unitsPerSec) | none => false)

/-- The satellites used, by system, in the bytes of GNSS_SOL.used. -/
def usedCounts (u : Tbl Nat) : Nat :=
  (List.range 4).foldl (fun m s => m + min 255 (u.filter (fun p => p.1 / 256 == s)).length * 2 ^ (8 * s)) 0

/-- Show which channels are used, and exclude the satellites RAIM excluded. -/
def Eng.markUsed (e : Eng) (x : Ctx) (f : Nat) (u : Tbl Nat) (excl : List Nat) : Eng :=
  (e.tracking f).foldl (fun e c =>
    let s := e.chanSat c
    let e := e.set (Od.GNSS_CHAN.used c) (boolNat (u.any (fun p => p.1 == s) && !excl.contains s) : Nat)
    if excl.contains s then
      let e := e.set (Od.GNSS_CHAN.state c) 3
      { e with gnss := { e.gnss with excluded := tput e.gnss.excluded c (x.st 0) } }
    else e) e

/-- The survey averages dual-band positions, and is finished when long and good enough (R245). -/
def Eng.surveyRun (e : Eng) (x : Ctx) (f : Nat) (p : GnssEpoch) (single : Bool) : Eng :=
  if e.n Od.GNSS_POS.mode ≠ 0 ∨ (e.fe f).surveyed then e
  else
    let now := x.st 0
    let e := e.modFe f (fun g => { g with survey := some (g.survey.getD now) })
    let e := if single then e else e.modFe f (fun g => { g with
      sumLat := g.sumLat + p.lat, sumLon := g.sumLon + p.lon, sumHeight := g.sumHeight + p.height, fixes := g.fixes + 1 })
    let g := e.fe f
    let t := e.n Od.GNSS_POS.survey_time
    let gone := (stDiff now (g.survey.getD now)).toNat / unitsPerSec
    let e := e.set (Od.GNSS_POSITION.survey_pct f) (min 100 (gone * 100 / max 1 t) : Nat)
    let lim := e.n Od.GNSS_POS.survey_sigma_mm
    if t ≤ gone ∧ g.fixes ≠ 0 ∧ p.avgSigmaH ≤ lim ∧ p.avgSigmaV ≤ lim then
      let e := e.setAll [(Od.GNSS_HELD.lat, g.sumLat.fdiv g.fixes), (Od.GNSS_HELD.lon, g.sumLon.fdiv g.fixes),
        (Od.GNSS_HELD.height, g.sumHeight.fdiv g.fixes), (Od.GNSS_HELD.sigma_h, (p.avgSigmaH : Nat)),
        (Od.GNSS_HELD.sigma_v, (p.avgSigmaV : Nat)), (Od.GNSS_HELD.origin, 1), (Od.GNSS_HELD.valid, 1)]
      (e.modFe 0 (fun g => { g with surveyed := true })).modFe 1 (fun g => { g with surveyed := true })
    else e

/-- POSITION in HOLD, and the survey it may restart (R246). -/
def Eng.positionTest (e : Eng) (x : Ctx) (f : Nat) (p : GnssEpoch) : Eng :=
  let bad := e.holds f && decide (1000 * e.n Od.GNSS_POS.pos_limit_m < p.posDev)
  let e := e.modFe f (fun g => { g with posRun := if bad then g.posRun + 1 else 0 })
  if 10 ≤ (e.fe f).posRun then
    let e := e.feCause x f 9
    if e.b Od.GNSS_POS.auto_resurvey then
      (e.set Od.GNSS_HELD.valid 0).modFe f (fun g => { g.noSurvey with surveyed := false, posRun := 0 })
    else e
  else e

/-- A solution formed: judged, shown in GNSS_SOL and GNSS_POSITION and delivered (R240, R252). -/
def Eng.solved (e : Eng) (x : Ctx) (f : Nat) (p : GnssEpoch) (t : GnssTrial) (off : Int) (used : Tbl Nat)
    (single noRaim : Bool) : Eng :=
  let e := if e.feState f = 3 then e.feTo x f 4 else e
  let tick := sampleTick f (e.tickOfCount (e.epochInstant x))
  let incon := e.inconsistent f off tick
  let run := if incon then (e.fe f).incRun + 1 else 0
  let ffOk := 1 ≤ (e.fe f).ffRun
  let ff := if ffOk then some t.ff else none
  let e := e.modFe f (fun g => { g with
    solAt := x.st 0, ffRun := g.ffRun + 1, last := some (off, ff, tick), jump := 0, incRun := run })
  let e := e.feCauseIf x f 8 (3 ≤ run)
  let hold := e.holds f
  let e := (e.surveyRun x f p single).positionTest x f p
  let pol := e.n Od.GNSS_GLOBAL.osnma_policy
  let m0 := (e.moon 0).cur.state
  let uncal := e.gnssUncal f
  let fl := 128 * boolNat noRaim + 64 * boolNat (pol != 0 && !(m0 == .locked || m0 == .holdover)) +
    32 * boolNat (2 ≤ pol) + 16 * boolNat hold + 8 * boolNat single + 4 * boolNat uncal + 2 + boolNat ffOk
  let secs := (off - wrapSec off).fdiv secU
  let bound : Int := 3 * (t.sigma : Int) + e.i Od.GNSS_GLOBAL.delay_uncert
  let auth := (used.filter (fun s => s.1 / 256 == 1 && e.satAuth f s.1 == 2)).length
  let e := e.setAll [(Od.GNSS_SOL.tick f, (tick : Nat)), (Od.GNSS_SOL.seconds f, sat64 secs), (Od.GNSS_SOL.phase f, wrapSec off),
    (Od.GNSS_SOL.ff f, sat64 (ff.getD 0)), (Od.GNSS_SOL.state f, e.feState f), (Od.GNSS_SOL.flags f, (fl : Nat)),
    (Od.GNSS_SOL.bound f, sat64 bound), (Od.GNSS_SOL.used f, (usedCounts used : Nat)),
    (Od.GNSS_SOL.authenticated f, (auth % 256 : Nat)), (Od.GNSS_SOL.pdop f, if hold then 0xFFFF else (p.pdop % 65536 : Nat)),
    (Od.GNSS_SOL.causes f, e.n (Od.GNSS_FE_STATUS.causes f)),
    (Od.GNSS_POSITION.lat f, p.lat), (Od.GNSS_POSITION.lon f, p.lon), (Od.GNSS_POSITION.height f, p.height),
    (Od.GNSS_POSITION.sigma_h f, (p.sigmaH : Nat)), (Od.GNSS_POSITION.sigma_v f, (p.sigmaV : Nat))]
  if e.feState f = 4 ∨ e.feState f = 5 then
    e.deliver x (e.n (Od.GNSS_FE.slot f)) ⟨tick, off, ff, true, uncal, false, bound, none⟩ else e

/-- An epoch without a solution. -/
def Eng.unsolved (e : Eng) (f : Nat) : Eng := e.modFe f (fun g => { g with ffRun := 0, incRun := 0 })

/-- The solver of a front end that tracks (R247 to R249, R253). -/
def Eng.solve (e : Eng) (x : Ctx) (f : Nat) (p : GnssEpoch) : Eng :=
  let u0 := e.usable f p.now
  let a := e.anchored f u0
  let w := e.withBias f p.broadcast a.1
  let u := w.1
  let few := decide (u.length < w.2) || !u.any (fun s => s.1 / 256 == e.n Od.GNSS_GLOBAL.time_ref)
  let e := e.feCauseIf x f 5 few
  if !p.agree then (((e.detect x 10 2 f).feCause x f 11).unsolved f)
  else if u.length < w.2 then e.unsolved f
  else
    match raim p.trials (e.n Od.GNSS_GLOBAL.raim_limit) w.2 u.length with
    | none => ((e.feCauseIf x f 4 (w.2 < u.length)).unsolved f)
    | some t =>
      let e := e.markUsed x f u t.excluded
      let used := u.filter (fun s => !t.excluded.contains s.1)
      let single (v : Tbl Nat) : Bool := v.any (fun s => s.2 != 3)
      let gal := used.filter (fun s => s.1 / 256 == 1)
      match e.realise x f p.utc (single used) t, p.auth.bind (fun r => (e.realise x f p.utc (single gal) r).map (fun o => (r, o))) with
      | none, _ => e.unsolved f
      | some off, some (r, o) =>
        if a.2 ∧ e.i Od.GNSS_GLOBAL.anchor_limit < ((o - off).natAbs : Int)
        then (e.feCause x f 7).solved x f p r o gal (single gal) (u.length ≤ w.2)
        else e.solved x f p t off used (single used) (u.length ≤ w.2)
      | some off, none => e.solved x f p t off used (single used) (u.length ≤ w.2)

/-- An epoch of a front end (R240, R250): navigation data, the continuous causes, the solver, and the causes cleared. -/
def Eng.epoch (e : Eng) (x : Ctx) (f : Nat) (p : GnssEpoch) : Eng :=
  let inst := e.epochInstant x
  if e.feState f = 0 ∨ inst ≤ (e.fe f).lastEpoch then e
  else
    let e := e.modFe f (fun g => { g with lastEpoch := inst })
    let e := (p.nav.foldl (fun e n => e.navItem p.now f n) e).showStore p.now
    let e := ((e.antennaCause x f).feCauseIf x f 2 (e.jammed f)).keepFloor x f
    let e := (e.feCauseIf x f 3 (e.overpowered f)).feCauseIf x f 6 (e.osnmaFailed x f)
    let e := if 3 ≤ e.feState f then e.solve x f p else (e.feCause x f 5).unsolved f
    e.feClear x f

/-! ## OSNMA (R248, R249) -/

/-- Mark a Galileo satellite on every channel that tracks it. -/
def Eng.markAuth (e : Eng) (prn st : Nat) : Eng :=
  (List.range 128).foldl (fun e c =>
    if e.n (Od.GNSS_CHAN.state c) ≠ 0 ∧ e.chanSat c = satOf 1 prn then e.set (Od.GNSS_CHAN.auth c) st else e) e

/-- A result of the verifier. -/
def Eng.osnma (e : Eng) (x : Ctx) (r : OsnmaResult) : Eng :=
  if e.n Od.GNSS_GLOBAL.osnma_policy = 0 ∨ e.n Od.GNSS_OSNMA.merkle_root = 0 then e
  else
    match r with
    | .publicKey good kt => if good then e.set Od.GNSS_OSNMA.key_type (kt % 256 : Nat) else e
    | .kroot _ => e
    | .teslaKey _ => e
    | .tag prn good complete =>
      if good then
        let e := e.inc64 Od.GNSS_OSNMA.tags_ok
        if complete ∧ (tget e.gnss.failed prn).isNone then (e.markAuth prn 2).set Od.GNSS_OSNMA.last_auth_tick x.tick else e
      else
        let e := e.inc32 Od.GNSS_OSNMA.tags_failed
        let e := (List.range 2).foldl (fun e f =>
          if (List.range 128).any (fun c => e.chanOf f c && e.b (Od.GNSS_CHAN.used c) && e.chanSat c == satOf 1 prn)
          then e.modFe f (fun g => { g with osnmaAt := some (x.st 0) }) else e) e
        let e : Eng := { e with gnss := { e.gnss with failed := tput e.gnss.failed prn (x.st 0) } }
        e.markAuth prn 3

/-- A FAILED mark ends 300 s after it was set. -/
def Eng.failOver (e : Eng) (x : Ctx) (prn : Nat) : Bool :=
  match tget e.gnss.failed prn with | some t => x.passed t (300 * unitsPerSec) | none => false

/-! ## The boundary (R241, R251) -/

/-- One front end at a boundary: restarts, delays, QUALIFIED after qual_time, and the losses of 10 s. -/
def Eng.feBoundary (e : Eng) (x : Ctx) (f : Nat) : Eng :=
  let dly (b : Nat) : Int := e.i (Od.GNSS_CAL.antenna (2 * f + b)) + e.i (Od.GNSS_CAL.cable (2 * f + b))
  let r := (e.moon 0).cur
  let moved := if bitOf r.flags 9 || bitOf r.flags 10 then r.lastStep else 0
  let e := e.modFe f (fun g => { g with dlyUpper := dly 0, dlyLower := dly 1, jump := g.jump + moved })
  let e :=
    if (e.fe f).restart then
      let on := e.b (Od.GNSS_FE.enable f)
      let e := e.modFe f (fun g => { g with restart := false, clean := x.st 0, solAt := x.st 0, trackAt := x.st 0, ffRun := 0, last := none })
      (if on then e else e.set (Od.GNSS_FE_STATUS.causes f) 0).feTo x f (if on then 2 else 0)
    else e
  let st := e.feState f
  let g := e.fe f
  if st = 4 ∧ x.passed g.solAt (10 * unitsPerSec) then e.feTo x f 3
  else if st = 3 ∧ (e.tracking f).isEmpty ∧ x.passed g.trackAt (10 * unitsPerSec) then e.feTo x f 2
  else if st = 4 ∧ e.n (Od.GNSS_FE_STATUS.causes f) = 0 ∧ x.passed g.clean (e.n (Od.GNSS_FE.qual_time f) * unitsPerSec) then
    (e.set (Od.GNSS_FE_STATUS.qualified_tick f) x.tick).feTo x f 5
  else e

/-- Both front ends at a boundary. -/
def Eng.gnssBoundary (e : Eng) (x : Ctx) : Eng := (e.feBoundary x 0).feBoundary x 1

/-! ## Writes of area 24 -/

/-- The lever's east, north and up are within 100,000 mm. -/
def leverOk (v : Nat) : Bool := (List.range 3).all (fun i => (signed 32 (v / 2 ^ (32 * i))).natAbs ≤ 100000)

/-- Each enabled front end, or one whose enable changes, restarts at the next boundary (R251). -/
def Eng.feRestarts (e : Eng) : Eng :=
  (List.range 2).foldl (fun e f =>
    if e.b (Od.GNSS_FE.enable f) || e.feState f != 0 then e.modFe f (fun g => { g with restart := true }) else e) e

/-- A write of GNSS_FE members. -/
def gnssFeWrite (x : Ctx) (f : Nat) (vs : List (Key × Int)) (e : Eng) : WriteRes :=
  let n := e.setAll vs
  let st := slotCheck n.od (srcGnss f) (n.n (Od.GNSS_FE.slot f))
  if (names vs [Od.GNSS_FE.channels_max f] &&
      128 < n.n (Od.GNSS_FE.channels_max 0) + n.n (Od.GNSS_FE.channels_max 1)) ||
      (names vs [Od.GNSS_FE.lever_mm f] && !leverOk (n.n (Od.GNSS_FE.lever_mm f))) then (stRange, e)
  else if names vs [Od.GNSS_FE.slot f] && st != stOk then (st, e)
  else (stOk, n.feRestarts.rebind x)

/-- A write of GNSS_GLOBAL members. -/
def gnssGlobalWrite (vs : List (Key × Int)) (e : Eng) : WriteRes :=
  let n := e.setAll vs
  if (names vs [Od.GNSS_GLOBAL.systems, Od.GNSS_GLOBAL.time_ref] &&
      !bitOf (n.n Od.GNSS_GLOBAL.systems) (n.n Od.GNSS_GLOBAL.time_ref)) ||
      (names vs [Od.GNSS_GLOBAL.cn0_max, Od.GNSS_GLOBAL.cn0_min] &&
        n.n Od.GNSS_GLOBAL.cn0_max < n.n Od.GNSS_GLOBAL.cn0_min + 5) then (stRange, e)
  else if vs.any (fun p => p.1 == Od.GNSS_GLOBAL.systems || p.1 == Od.GNSS_GLOBAL.time_ref || p.1 == Od.GNSS_GLOBAL.realisation)
  then (stOk, n.feRestarts) else (stOk, n)

/-- A write of GNSS_POS members: a write of mode restarts the surveys (R245). -/
def gnssPosWrite (vs : List (Key × Int)) (e : Eng) : WriteRes :=
  let n := e.setAll vs
  if vs.any (fun p => p.1 == Od.GNSS_POS.mode) then
    (stOk, (List.range 2).foldl (fun e f => e.modFe f (fun g => { g.noSurvey with surveyed := false })) n)
  else (stOk, n)

/-- A write of GNSS_HELD members: lat, lon or height makes the position the user's and valid (R246). -/
def gnssHeldWrite (vs : List (Key × Int)) (e : Eng) : WriteRes :=
  let n := e.setAll vs
  if vs.any (fun p => p.1 == Od.GNSS_HELD.lat || p.1 == Od.GNSS_HELD.lon || p.1 == Od.GNSS_HELD.height)
  then (stOk, (n.set Od.GNSS_HELD.origin 2).set Od.GNSS_HELD.valid 1) else (stOk, n)

/-- A write of the Merkle root: NO_ROOT for all zero; the code of any other state is a free value (R248,
notes/assumptions/3.md). -/
def gnssRootWrite (v : Int) (e : Eng) : WriteRes :=
  let n := e.set Od.GNSS_OSNMA.merkle_root v
  if v = 0 then (stOk, n.set Od.GNSS_OSNMA.state 0)
  else (stOk, (n.set Od.GNSS_OSNMA.state (n.draw 255 + 1 : Nat)).drawn)

/-- A write of GNSS_STORE.save (R237). -/
def gnssSaveWrite (x : Ctx) (v : Int) (e : Eng) : WriteRes := if v = 1 then (stOk, e.gnssSave x) else (stOk, e)

/-! ## The commands -/

/-- GNSS_SAMPLE_BLOCK (R230), with the channels' integrations. -/
def execGnssSampleBlock (fe : Fin 2) (block : SampleBlock) (s : State) : Host.Outcome State Fault Refusal :=
  lift (fun x e =>
    if e.feState fe = 0 then e
    else
      let e := e.sampleTests x fe block
      let e := (block.chans.foldl (fun e o => e.chanObserve x fe o) e).trackState x fe
      (e.modFe fe (fun g => { g with floor := (block.floorUpper, block.floorLower) })).set
        (Od.GNSS_FE_STATUS.noise_floor fe) (if e.bandOn fe 0 then block.floorUpper else block.floorLower)) s

/-- CHECK_CHANNEL_PASS (R234): `run` integrations in a row disagreed. -/
def execCheckChannelPass (channel : Fin 128) (run : Nat) (s : State) : Host.Outcome State Fault Refusal :=
  lift (fun x e =>
    let c : Nat := channel
    if e.n (Od.GNSS_CHAN.state c) = 0 ∨ run < 3 then e
    else
      let f := e.n (Od.GNSS_CHAN.fe c)
      ((e.chanIdle c).detect x 10 1 c).feCause x f 11) s

/-- ACQUISITION_DWELL (R235). -/
def execAcquisitionDwell (fe : Fin 2) (hits : List SearchHit) (s : State) : Host.Outcome State Fault Refusal :=
  lift (fun x e => e.dwell x fe hits) s

/-- GNSS_SOLUTION_EPOCH (R240). -/
def execGnssSolutionEpoch (fe : Fin 2) (epoch : GnssEpoch) (s : State) : Host.Outcome State Fault Refusal :=
  lift (fun x e => e.epoch x fe epoch) s

/-- CHANNEL_RELEASE (R232), when it is due. -/
def execChannelRelease (channel : Fin 128) (s : State) : Host.Outcome State Fault Refusal :=
  lift (fun x e => whenDue (e.releaseDue x channel) (fun e => e.chanIdle channel) e) s

/-- RAIM_REJOIN (R247), 60 s after the exclusion. -/
def execRaimRejoin (channel : Fin 128) (s : State) : Host.Outcome State Fault Refusal :=
  lift (fun x e =>
    let c : Nat := channel
    match tget e.gnss.excluded c with
    | some t =>
      if x.passed t (60 * unitsPerSec) then
        let e : Eng := { e with gnss := { e.gnss with excluded := tdel e.gnss.excluded c } }
        if e.n (Od.GNSS_CHAN.state c) = 3 then e.set (Od.GNSS_CHAN.state c) 2 else e
      else e
    | none => e) s

/-- OSNMA_VERIFY (R248). -/
def execOsnmaVerify (result : OsnmaResult) (s : State) : Host.Outcome State Fault Refusal :=
  lift (fun x e => e.osnma x result) s

/-- OSNMA_FAIL_EXPIRY (R248), 300 s after the tag that failed. -/
def execOsnmaFailExpiry (prn : Nat) (s : State) : Host.Outcome State Fault Refusal :=
  lift (fun x e => whenDue (e.failOver x prn) (fun e =>
    let e : Eng := { e with gnss := { e.gnss with failed := tdel e.gnss.failed prn } }
    e.markAuth prn 1) e) s

/-- ANTENNA_FAULT_PIN (R250). -/
def execAntennaFaultPin (fe : Fin 2) (low : Bool) (s : State) : Host.Outcome State Fault Refusal :=
  lift (fun x e => (e.modFe fe (fun g => { g with antLow := low })).antennaCause x fe) s

/-- GNSS_STORE_SAVE (R237): a write of save, or the hourly copy when it is due. -/
def execGnssStoreSave (write : Option (Int × Nat)) (s : State) : Host.Outcome State Fault Refusal :=
  lift (fun x e =>
    match write with
    | some w => e.writeCmd x Od.GNSS_STORE.save w.1 w.2 (gnssSaveWrite x w.1)
    | none => whenDue (x.passed e.gnss.savedAt (3600 * unitsPerSec)) (fun e => e.gnssSave x) e) s

/-- GNSS_HELD_WRITE (R246). -/
def execGnssHeldWrite (w : RecWrite) (roles : Nat) (s : State) : Host.Outcome State Fault Refusal :=
  lift (fun x e => e.recCmd x 0x24 0x003 w roles gnssHeldWrite) s

/-- GNSS_CONFIG_WRITE (R251): of GNSS_FE, or of GNSS_GLOBAL. -/
def execGnssConfigWrite (fe : Option (Fin 2)) (w : RecWrite) (roles : Nat) (s : State) :
    Host.Outcome State Fault Refusal :=
  lift (fun x e =>
    match fe with
    | some f => e.recCmd x 0x24 (0x010 + f) w roles (gnssFeWrite x f)
    | none => e.recCmd x 0x24 0x001 w roles gnssGlobalWrite) s

end Sys2Proof.Machine
end

