-- ==== Sys2Proof/Machine/Answer.lean ====
section
/-! DEFINITION. The answer engine (spec/06_answer_engine.md): the checks of Table 6-3, rate limiting, the response and the
KoD, the checker, and the answer rules. -/

namespace Sys2Proof.Machine

/-! ## Answer rules as a request sees them (R131, R132) -/

/-- An answer rule under the values that hold for one request. -/
structure AnsRule where
  enable : Bool
  moon : Nat
  protocol : Nat
  profile : Nat
  unsync : Nat
  ext : Nat
  other : Nat
  ring : Nat
  minPoll : Nat
  precision : Int
  rootDelay : Nat
  hops : Nat
  dscp : Nat
  deriving DecidableEq, Repr

/-- Answer rule `r` for a request received at a moon 0 linear count. -/
def Eng.ansRule (e : Eng) (r rx : Nat) : AnsRule where
  enable := e.nAt (Od.ANS_RULE.enable r) rx != 0
  moon := e.nAt (Od.ANS_RULE.moon r) rx
  protocol := e.nAt (Od.ANS_RULE.protocol r) rx
  profile := e.nAt (Od.ANS_RULE.rate_profile r) rx
  unsync := e.nAt (Od.ANS_RULE.unsync_action r) rx
  ext := e.nAt (Od.ANS_RULE.ext_action r) rx
  other := e.nAt (Od.ANS_RULE.other_action r) rx
  ring := e.nAt (Od.ANS_RULE.host_ring r) rx
  minPoll := e.nAt (Od.ANS_RULE.min_poll r) rx
  precision := e.iAt (Od.ANS_RULE.precision r) rx
  rootDelay := e.nAt (Od.ANS_RULE.root_delay r) rx
  hops := e.nAt (Od.ANS_RULE.hop_limit r) rx
  dscp := e.nAt (Od.ANS_RULE.dscp r) rx

/-! ## Requests -/

/-- A request parsed: its frame, UDP ports and NTP payload. -/
structure AnsView where
  q : AnsReq
  p : Parsed
  l4 : Nat
  udp : Bytes
  deriving DecidableEq, Repr

/-- The UDP payload. -/
def AnsView.pl (v : AnsView) : Bytes := v.udp.drop 8

/-- Version number of an NTP payload. -/
def ntpVn (pl : Bytes) : Nat := byteAt pl 0 / 8 % 8

/-- Mode of an NTP payload. -/
def ntpMode (pl : Bytes) : Nat := byteAt pl 0 % 8

/-- A request as its pipeline sees it. -/
def Eng.ansView (e : Eng) (q : AnsReq) : AnsView :=
  let p := parseFrame e.isTpid q.bytes
  let o := p.l4.getD 0
  ⟨q, p, o, slice q.bytes o (udpLenOf q.bytes o)⟩

/-- Step 2 of Table 6-3: the UDP length and checksum. -/
def AnsView.udpOk (v : AnsView) : Bool :=
  let u := udpLenOf v.q.bytes v.l4
  8 ≤ u && u ≤ v.p.ipLen && v.udp.length == u && udpSumOk v.p.ver v.p.ipSrc v.p.ipDst v.udp

/-- An address no request may come from: unspecified, loopback, multicast or broadcast. -/
def badSource (ver : Nat) (a : Bytes) : Bool :=
  if ver = 4 then
    beNat a == 0 || byteAt a 0 == 127 || (224 ≤ byteAt a 0 && byteAt a 0 ≤ 239) || beNat a == 0xFFFFFFFF
  else beNat a ≤ 1 || byteAt a 0 == 0xFF

/-- Step 3 of Table 6-3. -/
def Eng.sourceOk (e : Eng) (v : AnsView) : Bool :=
  !badSource v.p.ver v.p.ipSrc && beAt v.udp 0 2 != 0 && !isGroupMac v.p.src &&
  !(e.svcEnabled (v.p.ver == 6)).any (fun s =>
    if s.v6 then e.n (Od.SVC6.address s.idx) == leNat v.p.ipSrc else e.n (Od.SVC4.address s.idx) == beNat v.p.ipSrc)

/-! ## Rate limiting (R139 to R143) -/

/-- What a bucket is chosen by: version, client prefix and profile in one number. -/
def Eng.clientKey (e : Eng) (ver : Nat) (src : Bytes) (p : Nat) : Nat :=
  let pre := if ver = 4 then beNat src / 2 ^ (32 - e.n (Od.ANS_RATE.prefix4 p))
    else beNat src / 2 ^ (128 - e.n (Od.ANS_RATE.prefix6 p))
  (ver * 2 ^ 128 + pre) * 16 + p

/-- Bits 41:10 of a tick. -/
def tick10 (t : Nat) : Nat := t / 1024 % 2 ^ 32

/-- A bucket as Table 6-6 resets it. -/
def Eng.freshBucket (e : Eng) (p : Nat) : Bucket where
  level := e.n (Od.ANS_RATE.burst p) * 16
  kod := 16
  last := e.ans.bucketEpoch
  tag := 0

/-- The refill of R140 for a profile. -/
def Bucket.refill (b : Bucket) (now rate burst kodMs : Nat) : Bucket :=
  let elapsed := (now + 2 ^ 32 - b.last % 2 ^ 32) % 2 ^ 32
  let add := elapsed * 1024 * rate * 16 / 1000000000
  let cap := burst * 16
  { b with
    level := min (b.level + add) cap
    kod := min (b.kod + elapsed * 1024 * 16 / (max 1 kodMs * 1000000)) 16
    last := if cap ≤ b.level + add then now else (b.last + add * 1000000000 / (1024 * 16 * max 1 rate)) % 2 ^ 32 }

/-- The refill of a bucket of profile `p` at a tick. -/
def Eng.refill (e : Eng) (x : Ctx) (p : Nat) (b : Bucket) : Bucket :=
  b.refill (tick10 x.tick) (e.n (Od.ANS_RATE.rate p)) (e.n (Od.ANS_RATE.burst p)) (e.n Od.ANS_GLOBAL.kod_interval_ms)

/-- The bucket of a client. -/
def Eng.bucketIdx (e : Eng) (key : Nat) : Nat := Config.bucketHash e.ans.hashKey key % 2 ^ 21

/-- Write a bucket. -/
def Eng.setBucket (e : Eng) (i : Nat) (b : Bucket) : Eng :=
  { e with ans := { e.ans with buckets := tput e.ans.buckets i b } }

/-- A charge (R140): refilled, and 16 taken when the level holds them. Answers whether the request is within the
limit. -/
def Eng.charge (e : Eng) (x : Ctx) (p key : Nat) : Bool × Eng :=
  let i := e.bucketIdx key
  let tag := Config.bucketTag e.ans.hashKey key % 256
  let held := tget e.ans.buckets i
  let e := match held with
    | some b => if b.tag = tag then e else (e.inc32 Od.ANS_STATUS.bucket_collisions).orb Od.ANS_STATUS.sticky 32
    | none => e
  let b : Bucket := { e.refill x p (held.getD (e.freshBucket p)) with tag := tag }
  if 16 ≤ b.level then (true, e.setBucket i { b with level := b.level - 16 })
  else (false, (e.setBucket i b).orb Od.ANS_STATUS.sticky 2)

/-- Take a KoD's credit, when the bucket has it (R140, R168). -/
def Eng.takeKod (e : Eng) (p key : Nat) : Bool × Eng :=
  let i := e.bucketIdx key
  let b := tgetD e.ans.buckets i (e.freshBucket p)
  if 16 ≤ b.kod then (true, e.setBucket i { b with kod := b.kod - 16 }) else (false, e)

/-! ## Building (R134 to R136, R142) -/

/-- The frame of a response with a payload. -/
def Eng.answerFrame (e : Eng) (x : Ctx) (v : AnsView) (r : AnsRule) (payload : Bytes) : Bytes :=
  let udp := buildUdp v.p.ver v.p.ipDst v.p.ipSrc (beAt v.udp 2 2) (beAt v.udp 0 2) payload
  let mac := e.svcMac x ⟨v.q.v6, v.q.entry⟩ v.q.port
  let o := v.p.l3
  if v.p.ver = 6 then
    let dscp := if r.dscp = 0xFF then beAt v.q.bytes o 2 / 64 % 64 else r.dscp
    buildEth v.p.src mac v.p.tags 0x86DD (buildIp6 dscp (beAt v.q.bytes o 4) r.hops v.p.ipDst v.p.ipSrc udp)
  else
    let dscp := if r.dscp = 0xFF then byteAt v.q.bytes (o + 1) / 4 else r.dscp
    buildEth v.p.src mac v.p.tags 0x0800 (buildIp4 dscp r.hops v.p.ipDst v.p.ipSrc udp)

/-- A label's NTP timestamp as bytes (R63). -/
def ntpBytes (label : Int) : Bytes := beBytes 8 (ntpOf label).2

/-- Leap indicator, stratum and reference timestamp of a response (Table 6-5). -/
def Eng.quality (e : Eng) (k : Nat) (p : Projected) : Nat × Nat × Bytes :=
  if e.flt.eclipse then (3, 16, beBytes 8 0)
  else match p.rec_.state with
    | .locked => (e.projLi k p, p.rec_.stratum, ntpBytes (wtUnits (e.n (Od.ANS_REFTS k))))
    | .holdover => (e.projLi k p, p.rec_.stratum, ntpBytes (wtUnits (e.n (Od.ANS_REFTS k))))
    | _ => (3, 16, beBytes 8 0)

/-- The 48-byte header of a response whose departure instant is `t` (Table 6-4). -/
def Eng.ntpHeader (e : Eng) (v : AnsView) (r : AnsRule) (t : Nat) : Bytes :=
  let tx := e.project r.moon t
  let rx := e.project r.moon v.q.rxLin
  let ql := e.quality r.moon tx
  let poll := min 17 (max (byteAt v.pl 2) r.minPoll)
  [byte (ql.1 * 64 + ntpVn v.pl * 8 + 4), byte ql.2.1, byte poll, byte (unsigned 8 r.precision)] ++
  beBytes 4 r.rootDelay ++ beBytes 4 tx.rec_.rootDispersion ++ beBytes 4 tx.rec_.refid ++ ql.2.2 ++
  slice v.pl 40 8 ++ ntpBytes (e.label r.moon rx.lin) ++ ntpBytes (e.label r.moon tx.lin)

/-- The header of a KoD, or of a NAK with its own reference ID (R142, R168). -/
def kodHeader (v : AnsView) (r : AnsRule) (kodPoll refid : Nat) : Bytes :=
  let xmt := slice v.pl 40 8
  [byte (3 * 64 + ntpVn v.pl * 8 + 4), 0, byte (max (max (byteAt v.pl 2) r.minPoll) kodPoll),
    byte (unsigned 8 r.precision)] ++ beBytes 4 0 ++ beBytes 4 0 ++ beBytes 4 refid ++ beBytes 8 0 ++ xmt ++ xmt ++ xmt

/-! ## Outcomes (Table 6-3) -/

/-- Deliver the request to the rule's host ring with its cause (R133). -/
def Eng.punt (e : Eng) (x : Ctx) (pipe : Nat) (v : AnsView) (r : AnsRule) (cause : Nat) : Eng :=
  let e := (e.slotCount x pipe 7).inc64 Od.ANS_STATUS.punted
  let e := e.inc64 (Od.ANS_RULE_STATS.punted v.q.rule)
  e.hold x v.q.port ⟨r.ring, v.q.bytes, v.q.rxLin % 2 ^ 64, 0, cause, v.q.rule, .answer, none⟩

/-- An action DROP or HOST: `code` 1 delivers to the host ring. -/
def Eng.dropOrHost (e : Eng) (x : Ctx) (pipe : Nat) (v : AnsView) (r : AnsRule) (host : Bool) (cause : Nat) : Eng :=
  if host then e.punt x pipe v r cause else e.ansDropped x pipe v.q.rule 8

/-- Place a frame of `len` bytes for a request and build it at the instant found; a miss ends the request (steps 10 to
12). `build` gives the payload, or none when step 11 ends the request and its slot is released unused. -/
def Eng.placeAndBuild (e : Eng) (x : Ctx) (pipe : Nat) (v : AnsView) (r : AnsRule) (kind : AnsKind) (payloadLen : Nat)
    (grid : List GridPoint) (crcFail : Bool) (build : Nat → Eng → Option (Bytes × Eng)) : Eng :=
  let prio := e.prioOf v.q.port v.p.tags
  let len := wireLen (e.answerFrame x v r (List.replicate payloadLen 0))
  match e.placeAnswer x v.q.port v.q.rxLin len prio grid with
  | .refused k => (e.depMiss x v.q.port k).ansDropped x pipe v.q.rule 11
  | .at_ g =>
    match build g.at_ e with
    | none =>
      let e := e.reserve x v.q.port g (List.replicate (len - 4) 0) prio false (.answer pipe v.q.rule kind)
      (e.withdraw x v.q.port g.block).ansDropped x pipe v.q.rule 10
    | some (pl, e) =>
      let e := e.reserve x v.q.port g (e.answerFrame x v r pl) prio false (.answer pipe v.q.rule kind)
      if crcFail then
        let e := (e.withdraw x v.q.port g.block).ansDropped x pipe v.q.rule 12
        let e := ((e.inc32 (Od.PIPE.crc_err pipe)).orb Od.ANS_STATUS.sticky 8).detect x 5 4 pipe
        let ticks := (x.tick :: (e.pipe pipe).crcTicks).filter (fun t => x.tick < t + 2 ^ 20)
        let e := e.modPipe pipe (fun q => { q with crcTicks := ticks })
        if 4 ≤ ticks.length then e.set (Od.PIPE.in_service pipe) 0 |>.orb Od.ANS_STATUS.sticky 16 else e
      else e

/-- The response of a plain exchange (steps 10 to 12). -/
def Eng.answerPlain (e : Eng) (x : Ctx) (pipe : Nat) (v : AnsView) (r : AnsRule) (grid : List GridPoint)
    (crcFail : Bool) : Eng :=
  e.placeAndBuild x pipe v r .plain 48 grid crcFail (fun t e =>
    if (e.quality r.moon (e.project r.moon t)).1 = 3 && r.unsync = 1 then none else some (e.ntpHeader v r t, e))

/-- The response of an NTS exchange (R179). -/
def Eng.answerNts (e : Eng) (x : Ctx) (pipe : Nat) (v : AnsView) (r : AnsRule) (q : NtsReq) (keys : Bytes)
    (grid : List GridPoint) (crcFail : Bool) : Eng :=
  e.placeAndBuild x pipe v r .nts (48 + q.uid.length + 40 + 96 * e.cookieCount q) grid crcFail (fun t e =>
    if (e.quality r.moon (e.project r.moon t)).1 = 3 && r.unsync = 1 then none
    else some (e.ntsResponse v.q.rxLin (e.ntpHeader v r t) q keys))

/-- A Crypto-NAK, when one may be sent (R168). -/
def Eng.answerNak (e : Eng) (x : Ctx) (pipe : Nat) (v : AnsView) (r : AnsRule) (uid : Bytes) (grid : List GridPoint)
    (crcFail : Bool) : Eng :=
  let t := if !e.b Od.NTS_GLOBAL.nak_enable then (false, e)
    else if r.profile = 0xFF then (true, e)
    else e.takeKod r.profile (e.clientKey v.p.ver v.p.ipSrc r.profile)
  if t.1 then
    let poll := if r.profile = 0xFF then 0 else t.2.n (Od.ANS_RATE.kod_poll r.profile)
    (t.2.inc64 Od.NTS_STATUS.nak).placeAndBuild x pipe v r .nak (48 + uid.length) grid crcFail (fun _ e =>
      some (kodHeader v r poll 0x4E54534E ++ uid, e))
  else t.2.ansDropped x pipe v.q.rule 14

/-- Over the limit (R140): a KoD when one may be sent, else dropped. -/
def Eng.overLimit (e : Eng) (x : Ctx) (pipe : Nat) (v : AnsView) (r : AnsRule) (grid : List GridPoint)
    (crcFail : Bool) : Eng :=
  let vn := ntpVn v.pl
  let may := e.n (Od.ANS_RATE.over_action r.profile) = 1 && (vn == 3 || vn == 4) && ntpMode v.pl == 3 &&
    (x.core.moon r.moon).adv && !isNts v.pl && !e.flt.eclipse
  let t := if may then e.takeKod r.profile (e.clientKey v.p.ver v.p.ipSrc r.profile) else (false, e)
  if t.1 then
    t.2.placeAndBuild x pipe v r .kod 48 grid crcFail (fun _ e =>
      some (kodHeader v r (e.n (Od.ANS_RATE.kod_poll r.profile)) 0x52415445, e))
  else t.2.ansDropped x pipe v.q.rule 9

/-- Step 9 for an NTS request (Table 8-2). -/
def Eng.ansNts (e : Eng) (x : Ctx) (pipe : Nat) (v : AnsView) (r : AnsRule) (grid : List GridPoint)
    (crcFail : Bool) : Eng :=
  if e.flt.eclipse then e.ansDropped x pipe v.q.rule 13
  else
    let o := e.ntsCheck x pipe v.q.rxLin v.pl
    match o.1 with
    | .ok q keys slot =>
      ((o.2.inc64 Od.NTS_STATUS.verified).inc64 (Od.NTS_SLOT.accepted slot)).answerNts x pipe v r q keys grid crcFail
    | .fail c =>
      let e := o.2.ntsCount c
      if c == .encExt then e.dropOrHost x pipe v r (r.other == 1) 6
      else if c.naks then e.answerNak x pipe v r ((ntsShape v.pl).map (fun q => q.uid) |>.getD []) grid crcFail
      else e.ansDropped x pipe v.q.rule 14

/-- Steps 7 to 12. -/
def Eng.ansProtocol (e : Eng) (x : Ctx) (pipe : Nat) (v : AnsView) (r : AnsRule) (grid : List GridPoint)
    (crcFail : Bool) : Eng :=
  let nts := isNts v.pl
  let extras := 48 < v.pl.length && !nts
  let moonOn := (x.core.moon r.moon).adv
  let plain (e : Eng) : Eng :=
    if moonOn then e.answerPlain x pipe v r grid crcFail else e.ansDropped x pipe v.q.rule 10
  let byExt (e : Eng) (cause : Nat) : Eng :=
    match r.ext with
    | 0 => plain e
    | n => e.dropOrHost x pipe v r (n == 1) cause
  if nts && r.protocol = 0 then byExt e 3
  else if nts then
    if moonOn then e.ansNts x pipe v r grid crcFail else e.ansDropped x pipe v.q.rule 10
  else if r.protocol = 1 then e.dropOrHost x pipe v r (r.other == 1) 4
  else if extras then byExt e 5
  else plain e

/-- Steps 6 on: the version and mode. -/
def Eng.ansMode (e : Eng) (x : Ctx) (pipe : Nat) (v : AnsView) (r : AnsRule) (grid : List GridPoint)
    (crcFail : Bool) : Eng :=
  let vn := ntpVn v.pl
  let mode := ntpMode v.pl
  if vn ≠ 3 ∧ vn ≠ 4 then e.dropOrHost x pipe v r (r.other == 1) 1
  else if mode = 6 ∨ mode = 7 then e.dropOrHost x pipe v r (r.other == 1) 2
  else if mode ≠ 3 then e.ansDropped x pipe v.q.rule 8
  else e.ansProtocol x pipe v r grid crcFail

/-- A request through the steps of Table 6-3 in order. -/
def Eng.answer (e : Eng) (x : Ctx) (pipe : Nat) (q : AnsReq) (grid : List GridPoint) (crcFail : Bool) : Eng :=
  let v := e.ansView q
  let r := e.ansRule q.rule q.rxLin
  if e.flt.eclipse && !e.flt.lingering then e.ansDropped x pipe q.rule 13
  else if !r.enable || e.ans.badRules.contains q.rule || e.ans.badProfiles.contains r.profile then
    e.ansDropped x pipe q.rule 8
  else if !v.udpOk then e.ansDropped x pipe q.rule 8
  else if !e.sourceOk v then e.ansDropped x pipe q.rule 8
  else if v.pl.length < 48 then e.ansDropped x pipe q.rule 8
  else if r.profile = 0xFF then e.ansMode x pipe v r grid crcFail
  else
    let c := e.charge x r.profile (e.clientKey v.p.ver v.p.ipSrc r.profile)
    if c.1 then c.2.ansMode x pipe v r grid crcFail else c.2.overLimit x pipe v r grid crcFail

/-- A pipeline may accept: in service, its slot free, no probe due first, and a request waits (R130, R146). -/
def Eng.mayAccept (e : Eng) (p : Nat) : Bool :=
  e.b (Od.PIPE.in_service p) && !(e.pipe p).slotUsed && !(e.pipe p).probeFirst && !(e.pipe p).queue.isEmpty

/-- The pipeline accepts the request at the head of its queue (R130, R133). -/
def Eng.accept (e : Eng) (x : Ctx) (p : Nat) (grid : List GridPoint) (crcFail : Bool) : Eng :=
  match (e.pipe p).queue with
  | [] => e
  | q :: t =>
    let e := e.modPipe p (fun s => { s with queue := t, slotUsed := true })
    (e.slotCount x p 4).answer x p q grid crcFail

/-! ## Release of an answer (R145, R147) -/

/-- An answer is released: its slot category, totals, and the checker's sampling of every 4,096th response. -/
def Eng.ansReleased (e : Eng) (x : Ctx) (pipe rule : Nat) (kind : AnsKind) : Eng :=
  let e := match kind with
    | .kod => ((e.slotCount x pipe 6).inc64 Od.ANS_STATUS.kod).inc64 (Od.ANS_RULE_STATS.kod rule)
    | .nak => e.slotCount x pipe 14
    | _ => ((e.slotCount x pipe 5).inc64 Od.ANS_STATUS.answered).inc64 (Od.ANS_RULE_STATS.answered rule)
  let n := (e.pipe pipe).sampleCount + 1
  if n = 4096 then
    e.modPipe pipe (fun s => { s with sampleCount := 0, lastSample := x.tick, toCheck := s.toCheck + 1 })
  else e.modPipe pipe (fun s => { s with sampleCount := n })

/-- The pipelines in service are shown (R148), and none left is a fault (Table 6-7). -/
def Eng.pipesShown (e : Eng) (x : Ctx) : Eng :=
  let m := (List.range 16).foldl (fun m p => if e.b (Od.PIPE.in_service p) then m + 2 ^ p else m) 0
  let e := e.set Od.ANS_STATUS.pipes_in_service (m : Nat)
  if m = 0 then e.condOn x 5 6 0 else e.condOff x 5 6 0

/-- A pipeline fails its check: out of service in that tick, CONTAINED (R145). -/
def Eng.checkFail (e : Eng) (x : Ctx) (p : Nat) : Eng :=
  let e := (e.inc32 (Od.PIPE.check_fail p)).set (Od.PIPE.last_fail_tick p) x.tick
  let e := (e.set (Od.PIPE.in_service p) 0).orb Od.ANS_STATUS.sticky 20
  (e.detect x 5 5 p).pipesShown x

/-- The checker compares a sampled response (R145). -/
def Eng.checkCompare (e : Eng) (x : Ctx) (p : Nat) (agrees : Bool) : Eng :=
  let e := e.modPipe p (fun s => { s with toCheck := s.toCheck - 1 })
  let e := (e.inc32 (Od.PIPE.checks p)).slotCount x p 15
  if agrees then e else e.checkFail x p

/-- A probe is due: before the first request of a pipeline returned to service, or after 2^18 ticks without a sampled
response (R145, R146). -/
def Eng.probeDue (e : Eng) (x : Ctx) (p : Nat) : Bool :=
  e.b (Od.PIPE.in_service p) && !(e.pipe p).slotUsed &&
    ((e.pipe p).probeFirst || (e.pipe p).lastSample + 2 ^ 18 ≤ x.tick)

/-- A probe takes the slot; its response is compared and never sent (R145). -/
def Eng.probe (e : Eng) (x : Ctx) (p : Nat) (agrees : Bool) : Eng :=
  let e := (e.modPipe p (fun s => { s with slotUsed := true, probeFirst := false, lastSample := x.tick })).slotCount x p 2
  let e := e.inc32 (Od.PIPE.checks p)
  if agrees then e else e.checkFail x p

/-- A write of PIPE.reenable (R146): 0 has no effect. -/
def pipeReenable (x : Ctx) (p : Nat) (v : Int) (e : Eng) : WriteRes :=
  if v = 0 ∨ e.b (Od.PIPE.in_service p) then (stOk, e)
  else (stOk, ((e.set (Od.PIPE.in_service p) 1).modPipe p (fun s => { s with probeFirst := true })).pipesShown x)

/-- A write of ANS_GLOBAL.rekey (R143): a new hash key, and every bucket reset; 0 has no effect. -/
def ansRekey (x : Ctx) (v : Int) (e : Eng) : WriteRes :=
  if v = 0 then (stOk, e)
  else
    let k := e.draw (2 ^ 128)
    let e := e.drawn.inc32 Od.ANS_STATUS.rekeys
    (stOk, { e with ans := { e.ans with buckets := [], hashKey := k, bucketEpoch := tick10 x.tick } })

/-- The sweep visits a bucket: it refills it as a charge of its profile would, without subtracting (R141). -/
def Eng.sweep (e : Eng) (x : Ctx) (i p : Nat) : Eng :=
  match tget e.ans.buckets i with
  | some b => e.setBucket i (e.refill x p b)
  | none => e

/-! ## Answer rules and the peek (R132, R148) -/

/-- A write of answer rule members: the old values are kept for earlier requests (R132); a rewritten rule is no longer
damaged (Table 6-7). -/
def ansRuleWrite (x : Ctx) (r : Nat) (vs : List (Key × Int)) (e : Eng) : WriteRes :=
  if vs.any (fun p => p.1 == Od.ANS_RULE.dscp r && 63 < p.2 && p.2 != 0xFF) then (stRange, e)
  else
    let e := vs.foldl (fun e p => e.setLater x p.1 p.2) e
    (stOk, { e with ans := { e.ans with badRules := e.ans.badRules.filter (fun q => q != r) } })

/-- A bucket as its 64 bits (Table 6-6). -/
def Bucket.word (b : Bucket) : Nat := b.level * 2 ^ 48 + b.kod * 2 ^ 40 + b.last * 256 + b.tag

/-- A write of ANS_PEEK members: index and bucket are computed at the tick of the write (R148). -/
def ansPeekWrite (vs : List (Key × Int)) (e : Eng) : WriteRes :=
  let e := e.setAll vs
  let ver := e.n Od.ANS_PEEK.version
  let p := e.n Od.ANS_PEEK.profile
  let a := leBytes 16 (e.n Od.ANS_PEEK.address)
  let i := e.bucketIdx (e.clientKey ver (if ver = 4 then a.take 4 else a) p)
  let b := tgetD e.ans.buckets i (e.freshBucket p)
  (stOk, (e.set Od.ANS_PEEK.index i).set Od.ANS_PEEK.bucket b.word)

/-- Boundary step 4 (R137): the reference latch of a LOCKED moon takes its label at the boundary, and a FREE RUN set clears it. -/
def Eng.latchRef (e : Eng) (k : Nat) : Eng :=
  let r := (e.moon k).cur
  if r.state = .locked then e.set (Od.ANS_REFTS k) (wtOf (e.label k (r.count / 2 ^ 32 : Nat)) : Nat)
  else if bitOf r.flags 10 then e.set (Od.ANS_REFTS k) 0 else e

/-- The reference latches of every moon. -/
def Eng.latchRefs (e : Eng) : Eng := (List.range 32).foldl (fun e k => e.latchRef k) e

/-! ## Accept slots (R147) -/

/-- The passing of a pipeline's accept slot: counted unless it was taken. -/
def Eng.slotPasses (e : Eng) (x : Ctx) (p : Nat) : Eng :=
  if (e.pipe p).slotUsed then e.modPipe p (fun s => { s with slotUsed := false })
  else if !e.b (Od.PIPE.in_service p) then e.slotCount x p 3
  else if (e.pipe p).queue.isEmpty then e.slotCount x p 0
  else e.slotCount x p 1

/-! ## The commands -/

/-- ANSWER_REQUEST (R133): a pipeline accepts the request at its head. `grid` is what its port's transmit stream offers;
`crcFail` an end-to-end CRC failure (R144). -/
def execAnswerRequest (pipe : Fin 16) (grid : List GridPoint) (crcFail : Bool) (s : State) :
    Host.Outcome State Fault Refusal :=
  lift (fun x e => whenDue (e.mayAccept pipe) (fun e => (e.accept x pipe grid crcFail).pipesShown x) e) s

/-- CHECKER_COMPARE (R145), of a sampled response. -/
def execCheckerCompare (pipe : Fin 16) (agrees : Bool) (s : State) : Host.Outcome State Fault Refusal :=
  lift (fun x e => whenDue (0 < (e.pipe pipe).toCheck) (fun e => e.checkCompare x pipe agrees) e) s

/-- CHECKER_PROBE (R145). -/
def execCheckerProbe (pipe : Fin 16) (agrees : Bool) (s : State) : Host.Outcome State Fault Refusal :=
  lift (fun x e => whenDue (e.probeDue x pipe) (fun e => e.probe x pipe agrees) e) s

/-- PIPE_REENABLE (R146). -/
def execPipeReenable (pipe : Fin 16) (value roles : Nat) (s : State) : Host.Outcome State Fault Refusal :=
  lift (fun x e => e.writeCmd x (Od.PIPE.reenable pipe) value roles (pipeReenable x pipe value)) s

/-- ANS_REKEY (R143). -/
def execAnsRekey (value roles : Nat) (s : State) : Host.Outcome State Fault Refusal :=
  lift (fun x e => e.writeCmd x Od.ANS_GLOBAL.rekey value roles (ansRekey x value)) s

/-- BUCKET_SWEEP (R141): the sweep's visit of one bucket, under the profile of its last charge. -/
def execBucketSweep (bucket : Fin 2097152) (profile : Fin 16) (s : State) : Host.Outcome State Fault Refusal :=
  lift (fun x e => e.sweep x bucket profile) s

/-- ANS_RULE_WRITE (R132). -/
def execAnsRuleWrite (rule : Fin 256) (w : RecWrite) (roles : Nat) (s : State) : Host.Outcome State Fault Refusal :=
  lift (fun x e => e.recCmd x 0x40 (0x100 + rule) w roles (ansRuleWrite x rule)) s

/-- ANS_PEEK_WRITE (R148). -/
def execAnsPeekWrite (w : RecWrite) (roles : Nat) (s : State) : Host.Outcome State Fault Refusal :=
  lift (fun x e => e.recCmd x 0x40 0x003 w roles ansPeekWrite) s

end Sys2Proof.Machine
end

