-- ==== Sys2Proof/Machine/Ptp.lean ====
section
/-! DEFINITION. The PTP engine's serving side (spec/09_ptp_service.md R190 to R206): the checks on received messages,
unicast negotiation and the grant table, the messages issued, and authentication. The upstream units stand in
Machine/PtpUp.lean. Message and TLV codes are those of IEEE 1588-2019. -/

namespace Sys2Proof.Machine

/-! ## Messages -/

/-- The device clockIdentity: written, or the EUI-64 of area 00 (Table 9-4). -/
def Eng.clockId (e : Eng) (x : Ctx) : Bytes :=
  let v := e.i Od.PTP_GLOBAL.clock_identity
  if v < 0 then beBytes 8 x.fuses.eui64 else leBytes 8 v.toNat

/-- The control field of a message type. -/
def ptpControl (type : Nat) : Nat :=
  match type with
  | 0 => 0
  | 1 => 1
  | 8 => 2
  | 9 => 3
  | _ => 5

/-- The flags of a message (R202). -/
structure PtpFlags where
  twoStep : Bool
  unicast : Bool
  low : Nat
  deriving DecidableEq, Repr

/-- A PTP message: header and body (IEEE 1588-2019 clause 13), with the length of what will be appended to it. -/
def ptpMsg (type domain : Nat) (fl : PtpFlags) (corr : Int) (ident : Bytes) (seq : Nat) (log : Int) (body : Bytes)
    (extra : Nat) : Bytes :=
  [byte type, 0x12] ++ beBytes 2 (34 + body.length + extra) ++
  [byte domain, 0, byte (2 * boolNat fl.twoStep + 4 * boolNat fl.unicast), byte fl.low] ++
  beBytes 8 (unsigned 64 corr) ++ beBytes 4 0 ++ ident ++ beBytes 2 seq ++ [byte (ptpControl type), byte (unsigned 8 log)]
  ++ body

/-- The shortest length of a message type's message. -/
def ptpMinLen (type : Nat) : Nat :=
  match type with
  | 9 => 54
  | 2 => 54
  | 3 => 54
  | 10 => 54
  | 11 => 64
  | _ => 44

/-! ## Authentication (R204, R205) -/

/-- The valid association with an SPP. -/
def Eng.saOf (e : Eng) (spp : Nat) : Option Nat :=
  (List.range 16).find? (fun a => e.b (Od.PTP_SA.valid a) && e.n (Od.PTP_SA.spp a) == spp)

/-- The AUTHENTICATION TLV up to its keyID. -/
def authHead (spp keyId : Nat) : Bytes := [0x80, 0x09, 0, 22, byte spp, 0] ++ beBytes 4 keyId

/-- The ICV over a message and the TLV's covered bytes. -/
def authIcv (key msg : Bytes) : Bytes := (hmacSha256 key msg).take 16

/-- Append the TLV of an association. -/
def Eng.authAppend (e : Eng) (a : Nat) (msg : Bytes) : Bytes :=
  let m := msg ++ authHead (e.n (Od.PTP_SA.spp a)) (e.n (Od.PTP_SA.key_id a))
  m ++ authIcv (leBytes 32 (e.n (Od.PTP_SA.key a))) m

/-- A TLV: its type, its offset in the message and its value. -/
structure PtpTlv where
  type : Nat
  off : Nat
  value : Bytes
  deriving DecidableEq, Repr

/-- The TLVs from an offset of a message; none when one does not lie within it. -/
def ptpTlvs (m : Bytes) : Nat → Nat → Option (List PtpTlv)
  | 0, _ => none
  | f + 1, o =>
    if m.length = o then some []
    else if m.length < o + 4 then none
    else
      let n := beAt m (o + 2) 2
      if m.length < o + 4 + n then none
      else (ptpTlvs m f (o + 4 + n)).map (fun t => ⟨beAt m o 2, o, slice m (o + 4) n⟩ :: t)

/-- What check 5 of Table 9-2 finds in a message: no TLV, a valid one, or an invalid one (R205). -/
inductive AuthState where
  | absent
  | valid
  | invalid
  deriving DecidableEq, Repr

/-- The authentication of a received message, whose TLVs stand from `o`. -/
def Eng.authOf (e : Eng) (m : Bytes) (o : Nat) : AuthState :=
  match ptpTlvs m (m.length + 1) o with
  | none => .absent
  | some ts =>
    match ts.find? (fun t => t.type == 0x8009) with
    | none => .absent
    | some t =>
      match e.saOf (byteAt t.value 0) with
      | some a =>
        if beAt t.value 2 4 = e.n (Od.PTP_SA.key_id a) ∧ t.value.length = 22 ∧
            authIcv (leBytes 32 (e.n (Od.PTP_SA.key a))) (m.take (t.off + 10)) = t.value.drop 6
        then .valid else .invalid
      | none => .invalid

/-! ## Where a message goes -/

/-- The ends of a message: port, IP version (0 for Ethernet), addresses, MAC addresses, tags, DSCP and hop limit. -/
structure PtpEnds where
  port : Nat
  ver : Nat
  src : Bytes
  dst : Bytes
  smac : Nat
  dmac : Nat
  tags : List (Nat × Nat)
  dscp : Nat
  hops : Nat
  deriving DecidableEq, Repr

/-- The frame of a message: UDP ports 319 for event messages and 320 for general ones. -/
def ptpFrame (d : PtpEnds) (event : Bool) (msg : Bytes) : Bytes :=
  let pt := if event then 319 else 320
  match d.ver with
  | 4 => buildEth d.dmac d.smac d.tags 0x0800 (buildIp4 d.dscp d.hops d.src d.dst (buildUdp 4 d.src d.dst pt pt msg))
  | 6 => buildEth d.dmac d.smac d.tags 0x86DD (buildIp6 d.dscp 0 d.hops d.src d.dst (buildUdp 6 d.src d.dst pt pt msg))
  | _ => buildEth d.dmac d.smac d.tags 0x88F7 msg

/-- The multicast destination of a transport (R203). -/
def ptpMcast (ver : Nat) : Bytes × Nat :=
  match ver with
  | 4 => (beBytes 4 0xE0000181, 0x01005E000181)
  | 6 => (beBytes 16 (0xFF0E * 2 ^ 112 + 0x181), 0x333300000181)
  | _ => ([], 0x011B19000000)

/-- The ends of an instance's multicast on a port: the first service entry of the version on that port. -/
def Eng.mcEnds (e : Eng) (x : Ctx) (n p ver : Nat) : PtpEnds :=
  let m := ptpMcast ver
  let rx := x.lin 0
  let s := (e.svcEnabled (ver == 6)).find? (fun s =>
    bitOf (if s.v6 then e.n (Od.SVC6.port_mask s.idx) else e.n (Od.SVC4.port_mask s.idx)) p)
  let src := match s with
    | some s => if s.v6 then leBytes 16 (e.n (Od.SVC6.address s.idx)) else beBytes 4 (e.n (Od.SVC4.address s.idx))
    | none => List.replicate (if ver = 6 then 16 else 4) 0
  let smac := match s with
    | some s => if ver = 0 then e.portMac x p else e.svcMac x s p
    | none => e.portMac x p
  ⟨p, ver, src, m.1, smac, m.2, [], e.nAt (Od.PTP_NEG.dscp n) rx, e.nAt (Od.PTP_NEG.hop_limit n) rx⟩

/-- The transports of an instance, as IP versions with 0 for Ethernet. -/
def transportsOf (m : Nat) : List Nat :=
  (if bitOf m 0 then [4] else []) ++ (if bitOf m 1 then [6] else []) ++ (if bitOf m 2 then [0] else [])

/-! ## Quality (R202) -/

/-- clockAccuracy of an error bound in 2^-16 ns. -/
def ptpAccuracy (bound : Int) : Nat :=
  if bound ≤ (ns16 25 : Nat) then 0x20 else if bound ≤ (ns16 100 : Nat) then 0x21 else if bound ≤ (ns16 250 : Nat) then 0x22
  else if bound ≤ (ns16 1000 : Nat) then 0x23 else if bound ≤ (ns16 2500 : Nat) then 0x24
  else if bound ≤ (ns16 10000 : Nat) then 0x25 else 0xFE

/-- clockClass, clockAccuracy, offsetScaledLogVariance and traceability of a record (Table 9-3). -/
def ptpQuality (r : EpochRec) (lostClass : Nat) : Nat × Nat × Nat × Bool :=
  match r.state with
  | .locked => (6, ptpAccuracy r.errorBound, 0x4E5D, true)
  | .holdover => (7, ptpAccuracy r.errorBound, 0x4E5D, true)
  | .lost => (lostClass, 0xFE, 0xFFFF, false)
  | _ => (248, 0xFE, 0xFFFF, false)

/-- The low octet of the flagField (R202): none of the scale's flags for scale TENANT. -/
def ptpFlagLow (r : EpochRec) (tenant : Bool) (lostClass : Nat) : Nat :=
  let tr := boolNat (ptpQuality r lostClass).2.2.2
  if tenant then 16 * tr + 32 * tr
  else boolNat (r.li = 1) + 2 * boolNat (r.li = 2) + 4 * tr + 8 + 16 * tr + 32 * tr

/-! ## Issuing (R197 to R202) -/

/-- Moon `k`'s linear count at a moon 0 instant. -/
def Eng.projCount (e : Eng) (k t : Nat) : Nat := (e.project k t).lin.toNat

/-- A message's content once its departure instant is known: type, correctionField, log interval and body. -/
structure PtpOut where
  type : Nat
  twoStep : Bool
  corr : Int
  log : Int
  body : Bytes
  deriving DecidableEq, Repr

/-- The whole message of an instance for an instant `t`, with its TLV when the instance authenticates. -/
def Eng.ptpBuild (e : Eng) (x : Ctx) (n p seq : Nat) (unicast : Bool) (t : Nat) (o : PtpOut) : Bytes :=
  let rx := x.lin 0
  let k := e.nAt (Od.PTP_INST.moon n) rx
  let r := (e.project k t).rec_
  let spp := e.nAt (Od.PTP_INST.auth_spp n) rx
  let tenant := e.n (Od.MOON_CONFIG.scale k) = 3
  let ident := e.clockId x ++ beBytes 2 (p + 1)
  let fl : PtpFlags := ⟨o.twoStep, unicast, ptpFlagLow r tenant (e.nAt (Od.PTP_INST.lost_class n) rx)⟩
  let m := ptpMsg o.type (e.nAt (Od.PTP_INST.domain n) rx) fl o.corr ident seq o.log o.body (if spp = 0xFF then 0 else 26)
  match (if spp = 0xFF then none else e.saOf spp) with
  | some a => e.authAppend a m
  | none => m

/-- The instance may send: enabled, its moon enabled, not in Eclipse (R209). -/
def Eng.ptpMaySend (e : Eng) (x : Ctx) (n : Nat) : Bool :=
  e.nAt (Od.PTP_INST.enable n) (x.lin 0) != 0 && (x.core.moon (e.nAt (Od.PTP_INST.moon n) (x.lin 0))).adv && !e.flt.eclipse

/-- Messages sent in the present 10^9 ticks stay within 80,000,000 (R197). -/
def Eng.ptpRateOk (e : Eng) (x : Ctx) : Bool :=
  e.ptp.rateWindow != x.tick / 1000000000 || e.ptp.rateUsed < 80000000

/-- Count a message against the rate. -/
def Eng.ptpRateTake (e : Eng) (x : Ctx) : Eng :=
  let w := x.tick / 1000000000
  { e with ptp := { e.ptp with rateWindow := w, rateUsed := if e.ptp.rateWindow = w then e.ptp.rateUsed + 1 else 1 } }

/-- A message of instance `n` that goes out or is dropped with cause AUTH when its association is not valid (R204):
placed for the receive instant `rx`, and built at the instant found. Answers that instant. -/
def Eng.ptpSend (e : Eng) (x : Ctx) (n : Nat) (d : PtpEnds) (rx seq : Nat) (unicast event : Bool)
    (grid : List GridPoint) (body : Nat → PtpOut) : Option GridPoint × Eng :=
  let spp := e.nAt (Od.PTP_INST.auth_spp n) (x.lin 0)
  if spp ≠ 0xFF ∧ (e.saOf spp).isNone then
    (none, (e.inc64 (Od.PTP_INST_STATS.dropped n)).orb Od.PTP_STATUS.sticky 4)
  else
    let frame (t : Nat) := ptpFrame d event (e.ptpBuild x n d.port seq unicast t (body t))
    let prio := e.prioOf d.port d.tags
    match e.placeAnswer x d.port rx (wireLen (frame 0)) prio grid with
    | .refused k => (none, (e.depMiss x d.port k).depTell x d.port k (.ptp n))
    | .at_ g => (some g, (e.ptpRateTake x).reserve x d.port g (frame g.at_) prio false (.ptp n))

/-- The fields of a timestamp: the 80-bit timestamp and the fraction in 2^-16 ns (R198). -/
def stampOf (c : Nat) : Bytes × Nat := (ptpBytes c, c % 65536)

/-- A Sync at an instant, one-step or two-step (R198, R199). -/
def Eng.syncOut (e : Eng) (k : Nat) (two : Bool) (log : Int) (t : Nat) : PtpOut :=
  let s := stampOf (e.projCount k t)
  ⟨0, two, if two then 0 else (s.2 : Int), log, s.1⟩

/-- The Follow_Up of a Sync that left at an instant (R199). -/
def Eng.followOut (e : Eng) (k : Nat) (log : Int) (syncT : Nat) : PtpOut :=
  let s := stampOf (e.projCount k syncT)
  ⟨8, false, (s.2 : Int), log, s.1⟩

/-- An Announce at an instant (R202). -/
def Eng.announceOut (e : Eng) (x : Ctx) (n k : Nat) (log : Int) (t : Nat) : PtpOut :=
  let rx := x.lin 0
  let r := (e.project k t).rec_
  let q := ptpQuality r (e.nAt (Od.PTP_INST.lost_class n) rx)
  let utc : Int := if e.n (Od.MOON_CONFIG.scale k) = 3 then 0 else r.taiUtc
  ⟨11, false, 0, log, (stampOf (e.projCount k t)).1 ++ beBytes 2 (unsigned 16 utc) ++ [0] ++
    [byte (e.nAt (Od.PTP_INST.priority1 n) rx), byte q.1, byte q.2.1] ++ beBytes 2 q.2.2.1 ++
    [byte (e.nAt (Od.PTP_INST.priority2 n) rx)] ++ e.clockId x ++ beBytes 2 0 ++
    [byte (e.nAt (Od.PTP_INST.time_source n) rx)]⟩

/-- Send a Sync and, when it is two-step and has its slot, its Follow_Up (R199). -/
def Eng.sendSync (e : Eng) (x : Ctx) (n : Nat) (d : PtpEnds) (seq : Nat) (unicast : Bool) (log : Int)
    (grid : List GridPoint) : Eng :=
  let k := e.nAt (Od.PTP_INST.moon n) (x.lin 0)
  let two := e.nAt (Od.PTP_INST.two_step n) (x.lin 0) != 0
  let r := e.ptpSend x n d (x.lin 0) seq unicast true grid (fun t => e.syncOut k two log t)
  match two, r.1 with
  | true, some g => (r.2.ptpSend x n d g.at_ seq unicast false grid (fun _ => e.followOut k log g.at_)).2
  | _, _ => r.2

/-- Send an Announce. -/
def Eng.sendAnnounce (e : Eng) (x : Ctx) (n : Nat) (d : PtpEnds) (seq : Nat) (unicast : Bool) (log : Int)
    (grid : List GridPoint) : Eng :=
  let k := e.nAt (Od.PTP_INST.moon n) (x.lin 0)
  (e.ptpSend x n d (x.lin 0) seq unicast false grid (fun t => e.announceOut x n k log t)).2

/-! ## The grant table (R193 to R195) -/

/-- The ticks of a log period. -/
def logTicks (k : Int) : Nat := if 0 ≤ k then 1000000000 * 2 ^ k.toNat else 1000000000 / 2 ^ (-k).toNat

/-- The cost of a grant in 1/16 message per second; a two-step Sync costs twice. -/
def grantCost (type : Nat) (log : Int) (two : Bool) : Nat :=
  2 ^ (4 - log).toNat * (if type = 0 && two then 2 else 1)

/-- The committed rate in 1/16 message per second (R194). -/
def Eng.committed (e : Eng) (x : Ctx) : Nat :=
  let rx := x.lin 0
  let c := e.ptp.clients.foldl (fun s c => c.grants.foldl (fun s g =>
    s + grantCost g.type g.log (e.nAt (Od.PTP_INST.two_step c.inst) rx != 0)) s) 0
  (List.range 32).foldl (fun s n =>
    if e.b (Od.PTP_INST.enable n) then
      s + popcount 32 (e.n (Od.PTP_INST.mc_port_mask n)) *
        (2 ^ (4 - e.i (Od.PTP_INST.mc_log_sync n)).toNat + 2 ^ (4 - e.i (Od.PTP_INST.mc_log_announce n)).toNat)
    else s) c

/-- The clients of an instance. -/
def Eng.clientsOf (e : Eng) (n : Nat) : Nat := (e.ptp.clients.filter (fun c => c.inst == n)).length

/-- Show the table's figures (Table 9-4). -/
def Eng.ptpShow (e : Eng) (x : Ctx) (n : Nat) : Eng :=
  ((e.set Od.PTP_STATUS.clients e.ptp.clients.length).set Od.PTP_STATUS.committed_rate (e.committed x / 16 : Nat)).set
    (Od.PTP_INST_STATS.clients n) (e.clientsOf n)

/-- Two client entries have one key (R194). -/
def PtpClient.same (a b : PtpClient) : Bool :=
  a.inst == b.inst && a.port == b.port && a.ver == b.ver && a.addr == b.addr && a.ident == b.ident

/-- The grant of a type that has not expired. -/
def PtpClient.grant (c : PtpClient) (tick type : Nat) : Option Grant :=
  c.grants.find? (fun g => g.type == type && tick < g.expiry)

/-- Replace a client in the table, or free its entry when it holds no grant. -/
def Eng.setClient (e : Eng) (c : PtpClient) : Eng :=
  let rest := e.ptp.clients.filter (fun d => !c.same d)
  { e with ptp := { e.ptp with clients := if c.grants.isEmpty then rest else rest ++ [c] } }

/-- The minimum log period of a type on an instance. -/
def Eng.minLog (e : Eng) (n type rx : Nat) : Int :=
  match type with
  | 0 => e.iAt (Od.PTP_NEG.min_log_sync n) rx
  | 9 => e.iAt (Od.PTP_NEG.min_log_delay n) rx
  | _ => e.iAt (Od.PTP_NEG.min_log_announce n) rx

/-- Why a REQUEST is denied, when it is: by its terms, by the table, or by the rate (R193, R194). -/
inductive Denial where
  | terms
  | table
  | rate
  deriving DecidableEq, Repr

/-- Judge a REQUEST of a client. -/
def Eng.judgeGrant (e : Eng) (x : Ctx) (c : PtpClient) (type : Nat) (log : Int) (dur rx : Nat) : Option Denial :=
  let n := c.inst
  let known := e.ptp.clients.find? (fun d => c.same d)
  let two := e.nAt (Od.PTP_INST.two_step n) rx != 0
  let old := match known with
    | some d => match d.grant (e.tickOfCount rx) type with
      | some g => grantCost g.type g.log two
      | none => 0
    | none => 0
  if !(type = 0 || type = 9 || type = 11) || log < e.minLog n type rx || 4 < log || dur < e.nAt (Od.PTP_NEG.dur_min n) rx ||
      e.nAt (Od.PTP_NEG.dur_max n) rx < dur || e.nAt (Od.PTP_NEG.unicast_enable n) rx = 0 ||
      !(x.core.moon (e.nAt (Od.PTP_INST.moon n) rx)).adv then some .terms
  else if known.isNone && (262144 ≤ e.ptp.clients.length || e.nAt (Od.PTP_NEG.max_grants n) rx ≤ e.clientsOf n) then
    some .table
  else if old < grantCost type log two && 80000000 * 16 < e.committed x - old + grantCost type log two then some .rate
  else none

/-- Grant a REQUEST: renewed when received before its expiry, with the sequenceId going on, or new with a due tick spread over the
interval (R195, R197). -/
def Eng.grantTo (e : Eng) (x : Ctx) (c : PtpClient) (type : Nat) (log : Int) (dur rx : Nat) : Eng :=
  let c := (e.ptp.clients.find? (fun d => c.same d)).map (fun d => { c with grants := d.grants }) |>.getD c
  let expiry := x.tick + dur * 1000000000
  let rest := c.grants.filter (fun g => g.type != type)
  match c.grant (e.tickOfCount rx) type with
  | some g => e.setClient { c with grants := rest ++ [{ g with log := log, expiry := expiry }] }
  | none =>
    let first := x.tick + e.draw (logTicks log)
    e.drawn.setClient { c with grants := rest ++ [⟨type, log, expiry, first, 0, none⟩] }

/-- One TLV of a Signaling message: the TLV that answers it (R193). -/
def Eng.negotiate (e : Eng) (x : Ctx) (c : PtpClient) (rx : Nat) (t : PtpTlv) : Bytes × Eng :=
  let type := byteAt t.value 0 / 16
  match t.type with
  | 4 =>
    let log := signed 8 (byteAt t.value 1)
    let dur := beAt t.value 2 4
    let head := [0, 5, 0, 8, byte (type * 16), byte (byteAt t.value 1)]
    match e.judgeGrant x c type log dur rx with
    | none => (head ++ beBytes 4 dur ++ [0, 1], (e.inc64 Od.PTP_STATUS.granted).grantTo x c type log dur rx)
    | some why =>
      let e := e.inc64 Od.PTP_STATUS.denied
      let e := match why with
        | .rate => e.orb Od.PTP_STATUS.sticky 1
        | .table => e.orb Od.PTP_STATUS.sticky 2
        | .terms => e
      (head ++ beBytes 4 0 ++ [0, 1], e)
  | 5 => ([], e)
  | 6 =>
    let e := match e.ptp.clients.find? (fun d => c.same d) with
      | some d => e.setClient { d with grants := d.grants.filter (fun g => g.type != type) }
      | none => e
    ([0, 7, 0, 2, byte (type * 16), 0], e)
  | _ => ([], e)

/-- The answers to a list of TLVs, in order. -/
def Eng.negotiateAll (e : Eng) (x : Ctx) (c : PtpClient) (rx : Nat) : List PtpTlv → Bytes × Eng
  | [] => ([], e)
  | t :: ts =>
    let a := e.negotiate x c rx t
    let b := a.2.negotiateAll x c rx ts
    (a.1 ++ b.1, b.2)

/-! ## Received messages (R192) -/

/-- A PTP frame parsed: its transport (4, 6 or 0), addresses, and message. -/
structure PtpView where
  ver : Nat
  p : Parsed
  msg : Bytes
  deriving DecidableEq, Repr

/-- Parse a frame delivered to the engine. -/
def Eng.ptpView (e : Eng) (bs : Bytes) : PtpView :=
  let p := parseFrame e.isTpid bs
  if p.etype = 0x88F7 then ⟨0, p, bs.drop p.l3⟩
  else
    let o := p.l4.getD 0
    ⟨p.ver, p, slice bs (o + 8) (udpLenOf bs o - 8)⟩

/-- The type of a message. -/
def ptpType (m : Bytes) : Nat := byteAt m 0 % 16

/-- Check 3 of Table 9-2. -/
def ptpShapeOk (m : Bytes) : Bool :=
  byteAt m 1 % 16 == 2 && beAt m 2 2 ≤ m.length && ptpMinLen (ptpType m) ≤ beAt m 2 2

/-- A drop counted in the instance's statistics. -/
def Eng.ptpDrop (e : Eng) (n : Nat) : Eng := e.inc64 (Od.PTP_INST_STATS.dropped n)

/-- The outcome OTHER: to other_ring, or dropped (R192). -/
def Eng.ptpOther (e : Eng) (x : Ctx) (n : Nat) (f : PtpIn) (cause : Nat) : Eng :=
  let ring := e.nAt (Od.PTP_INST.other_ring n) f.rxLin
  if ring = 0xFF then e.ptpDrop n
  else e.hold x f.port ⟨ring, f.bytes, f.rxLin % 2 ^ 64, 0, cause, n, .ptp, none⟩

/-- The ends of an answer to a client. -/
def Eng.replyEnds (e : Eng) (n : Nat) (f : PtpIn) (v : PtpView) : PtpEnds :=
  ⟨f.port, v.ver, v.p.ipDst, v.p.ipSrc, f.mac, v.p.src, v.p.tags, e.nAt (Od.PTP_NEG.dscp n) f.rxLin,
    e.nAt (Od.PTP_NEG.hop_limit n) f.rxLin⟩

/-- The client a message comes from. -/
def clientOf (n : Nat) (f : PtpIn) (v : PtpView) : PtpClient :=
  ⟨n, f.port, v.ver, if v.ver = 0 then beBytes 6 v.p.src else v.p.ipSrc, slice v.msg 20 10, v.p.ipDst, v.p.src, f.mac,
    v.p.tags, []⟩

/-- A Delay_Resp to a Delay_Req (R200). -/
def Eng.delayResp (e : Eng) (x : Ctx) (n : Nat) (f : PtpIn) (v : PtpView) (unicast : Bool) (log : Int)
    (grid : List GridPoint) : Eng :=
  let k := e.nAt (Od.PTP_INST.moon n) f.rxLin
  let s := stampOf (e.projCount k f.rxLin)
  let corr := sat64 (signed 64 (beAt v.msg 8 8) - s.2)
  let m := ptpMcast v.ver
  let d := e.replyEnds n f v
  let d := if unicast then d else { d with dst := m.1, dmac := m.2 }
  (e.ptpSend x n d f.rxLin (beAt v.msg 30 2) unicast false grid (fun _ =>
    ⟨9, false, corr, log, s.1 ++ slice v.msg 20 10⟩)).2

/-- An accepted Delay_Req: check 7 and its answer (R192, R200). -/
def Eng.delayReq (e : Eng) (x : Ctx) (n : Nat) (f : PtpIn) (v : PtpView) (grid : List GridPoint) : Eng :=
  if bitOf (byteAt v.msg 6) 2 then
    match e.ptp.clients.find? (fun d => (clientOf n f v).same d) with
    | none => e.ptpDrop n
    | some c =>
      match c.grant x.tick 9 with
      | none => e.ptpDrop n
      | some g =>
        let early : Bool := match g.lastReq with
          | some t => decide (f.rxLin < t + ns16 (logTicks g.log) / 2)
          | none => false
        if early then e.ptpDrop n
        else
          let gs := c.grants.map (fun h => if h.type = 9 then { h with lastReq := some f.rxLin } else h)
          (((e.setClient { c with grants := gs }).inc64 (Od.PTP_INST_STATS.delay_req n)).count x 0xB18).delayResp x n f v true g.log grid
  else if bitOf (e.nAt (Od.PTP_INST.mc_port_mask n) f.rxLin) f.port then
    let e := (e.inc64 (Od.PTP_INST_STATS.delay_req n)).count x 0xB18
    if e.ptpRateOk x then e.delayResp x n f v false (e.iAt (Od.PTP_NEG.min_log_delay n) f.rxLin) grid
    else (e.ptpDrop n).orb Od.PTP_STATUS.sticky 16
  else e.ptpDrop n

/-- A Signaling message: check 8, its TLVs answered in one Signaling message (R193). -/
def Eng.signaling (e : Eng) (x : Ctx) (n : Nat) (f : PtpIn) (v : PtpView) (grid : List GridPoint) : Eng :=
  let m := v.msg.take (beAt v.msg 2 2)
  match ptpTlvs m (m.length + 1) 44 with
  | none => e.ptpOther x n f 8
  | some ts =>
    let ts := ts.filter (fun t => t.type != 0x8009)
    if ts.isEmpty || !ts.all (fun t => t.type == 4 || t.type == 6 || t.type == 7) then e.ptpOther x n f 8
    else
      let c := clientOf n f v
      let r := e.negotiateAll x c f.rxLin ts
      let e := r.2.ptpShow x n
      if r.1.isEmpty then e
      else
        let seq := e.ptp.sigSeq
        let e := { e with ptp := { e.ptp with sigSeq := (seq + 1) % 65536 } }
        (e.ptpSend x n (e.replyEnds n f v) f.rxLin seq true false grid (fun _ =>
          ⟨12, false, 0, 0x7F, c.ident ++ r.1⟩)).2

/-- A frame delivered to instance `n`, through the checks of Table 9-2. -/
def Eng.ptpServe (e : Eng) (x : Ctx) (n : Nat) (f : PtpIn) (grid : List GridPoint) : Eng :=
  let v := e.ptpView f.bytes
  let m := v.msg
  let rx := f.rxLin
  let tbit := if v.ver = 4 then 0 else if v.ver = 6 then 1 else 2
  let auth := e.authOf (m.take (beAt m 2 2)) (if ptpType m = 12 then 44 else ptpMinLen (ptpType m))
  if e.flt.eclipse || e.nAt (Od.PTP_INST.enable n) rx = 0 || !(x.core.moon (e.nAt (Od.PTP_INST.moon n) rx)).adv then
    e.ptpDrop n
  else if !bitOf (e.nAt (Od.PTP_INST.transports n) rx) tbit then e.ptpDrop n
  else if !ptpShapeOk m then e.ptpDrop n
  else if byteAt m 4 ≠ e.nAt (Od.PTP_INST.domain n) rx then e.ptpDrop n
  else if auth = .invalid ∨ (auth = .absent ∧ e.nAt (Od.PTP_NEG.auth_required n) rx ≠ 0) then
    ((e.ptpDrop n).inc64 (Od.PTP_INST_STATS.auth_fail n)).orb Od.PTP_STATUS.sticky 4
  else if ptpType m = 1 then e.delayReq x n f v grid
  else if ptpType m = 12 then e.signaling x n f v grid
  else e.ptpOther x n f 7

/-! ## Due messages and expiry (R195, R197) -/

/-- The ends of a client's messages. -/
def Eng.clientEnds (e : Eng) (x : Ctx) (c : PtpClient) : PtpEnds :=
  ⟨c.port, c.ver, c.local_, c.addr, c.ownMac, c.mac, c.tags, e.nAt (Od.PTP_NEG.dscp c.inst) (x.lin 0),
    e.nAt (Od.PTP_NEG.hop_limit c.inst) (x.lin 0)⟩

/-- A grant's message of type Sync or Announce is issued (R197): the due tick and the sequenceId advance. -/
def Eng.grantDue (e : Eng) (x : Ctx) (i type : Nat) (grid : List GridPoint) : Eng :=
  match e.ptp.clients[i]? with
  | none => e
  | some c =>
    match c.grant x.tick type with
    | none => e
    | some g =>
      if x.tick < g.due ∨ type = 9 then e
      else
        let gs := c.grants.map (fun h => if h.type = type then
          { h with due := h.due + logTicks h.log, seq := (h.seq + 1) % 65536 } else h)
        let e := { e with ptp := { e.ptp with clients := setNth e.ptp.clients i { c with grants := gs } } }
        if !e.ptpMaySend x c.inst || !e.ptpRateOk x then e
        else if type = 0 then e.sendSync x c.inst (e.clientEnds x c) g.seq true g.log grid
        else e.sendAnnounce x c.inst (e.clientEnds x c) g.seq true g.log grid

/-- The key of a multicast stream. -/
def streamKey (n p : Nat) (announce : Bool) : Nat := (n * 32 + p) * 2 + boolNat announce

/-- A multicast message is issued on each enabled transport of its instance (R203). -/
def Eng.mcDue (e : Eng) (x : Ctx) (n p : Nat) (announce : Bool) (grid : List GridPoint) : Eng :=
  let s := tgetD e.ptp.streams (streamKey n p announce) ⟨x.tick, 0⟩
  let log := e.iAt (if announce then Od.PTP_INST.mc_log_announce n else Od.PTP_INST.mc_log_sync n) (x.lin 0)
  if x.tick < s.due ∨ !bitOf (e.nAt (Od.PTP_INST.mc_port_mask n) (x.lin 0)) p ∨ !e.ptpMaySend x n ∨ !e.ptpRateOk x then e
  else
    let e := { e with ptp := { e.ptp with
      streams := tput e.ptp.streams (streamKey n p announce) ⟨s.due + logTicks log, (s.seq + 1) % 65536⟩ } }
    (transportsOf (e.nAt (Od.PTP_INST.transports n) (x.lin 0))).foldl (fun e ver =>
      if announce then e.sendAnnounce x n (e.mcEnds x n p ver) s.seq false log grid
      else e.sendSync x n (e.mcEnds x n p ver) s.seq false log grid) e

/-- A grant has reached its expiry tick: it goes, and a client without grants is freed (R195). -/
def Eng.grantExpire (e : Eng) (x : Ctx) (i type : Nat) : Eng :=
  match e.ptp.clients[i]? with
  | none => e
  | some c =>
    if c.grants.any (fun g => g.type == type && g.expiry ≤ x.tick) then
      ((e.setClient { c with grants := c.grants.filter (fun g => !(g.type == type && g.expiry ≤ x.tick)) }).inc64
        Od.PTP_STATUS.expired).ptpShow x c.inst
    else e

/-! ## Writes of area 4C (R203, R210) -/

/-- The domains of a profile (Table 9-1). -/
def ptpDomainOk (profile domain : Nat) : Bool := if profile = 1 then 44 ≤ domain && domain ≤ 63 else domain ≤ 127

/-- Two instances would serve one domain by multicast on a common transport and port (R203). -/
def Eng.ptpClash (e : Eng) (n m : Nat) : Bool :=
  n != m && e.b (Od.PTP_INST.enable m) && e.b (Od.PTP_INST.enable n) &&
  e.n (Od.PTP_INST.domain n) == e.n (Od.PTP_INST.domain m) &&
  (e.n (Od.PTP_INST.transports n) &&& e.n (Od.PTP_INST.transports m)) != 0 &&
  (e.n (Od.PTP_INST.mc_port_mask n) &&& e.n (Od.PTP_INST.mc_port_mask m)) != 0

/-- The relations of an instance's members that a write names, as they would stand: RANGE, MODE for multicast on G8275_2,
DUPLICATE. -/
def Eng.ptpInstCheck (e : Eng) (n : Nat) (vs : List (Key × Int)) : Nat :=
  let prof := e.n (Od.PTP_INST.profile n)
  let ring := e.n (Od.PTP_INST.other_ring n)
  if (names vs [Od.PTP_INST.profile n, Od.PTP_INST.domain n] && !ptpDomainOk prof (e.n (Od.PTP_INST.domain n))) ||
      (names vs [Od.PTP_INST.profile n, Od.PTP_INST.transports n] && prof = 1 && bitOf (e.n (Od.PTP_INST.transports n)) 2) ||
      (names vs [Od.PTP_INST.other_ring n] && 127 < ring && ring != 0xFF) then stRange
  else if names vs [Od.PTP_INST.profile n, Od.PTP_INST.mc_port_mask n] && prof = 1 && e.n (Od.PTP_INST.mc_port_mask n) != 0
  then stMode
  else if names vs [Od.PTP_INST.enable n, Od.PTP_INST.domain n, Od.PTP_INST.transports n, Od.PTP_INST.mc_port_mask n] &&
      (List.range 32).any (fun m => e.ptpClash n m) then stDuplicate
  else stOk

/-- A write of PTP_INST members (R210): a write of profile alone takes its profile's defaults. -/
def ptpInstWrite (x : Ctx) (n : Nat) (vs : List (Key × Int)) (e : Eng) : WriteRes :=
  let prof := vs.find? (fun p => p.1 == Od.PTP_INST.profile n)
  let vs := match vs, prof with
    | [_], some p => vs ++ [(Od.PTP_INST.domain n, if p.2 = 1 then 44 else 0),
        (Od.PTP_INST.lost_class n, if p.2 = 1 then 160 else 52)] ++
        (if p.2 = 1 then [(Od.PTP_INST.mc_port_mask n, 0)] else [])
    | _, _ => vs
  let st := (e.setAll vs).ptpInstCheck n vs
  if st ≠ stOk then (st, e) else (stOk, (vs.foldl (fun e p => e.setLater x p.1 p.2) e).ptpShow x n)

/-- A write of PTP_NEG members: dur_min up to dur_max. -/
def ptpNegWrite (x : Ctx) (n : Nat) (vs : List (Key × Int)) (e : Eng) : WriteRes :=
  let f := e.setAll vs
  if names vs [Od.PTP_NEG.dur_max n, Od.PTP_NEG.dur_min n] && f.n (Od.PTP_NEG.dur_max n) < f.n (Od.PTP_NEG.dur_min n)
  then (stRange, e)
  else (stOk, vs.foldl (fun e p => e.setLater x p.1 p.2) e)

/-- A write of PTP_SA members, which follow the key store (R204). -/
def ptpSaWrite (x : Ctx) (vs : List (Key × Int)) (e : Eng) : WriteRes := (stOk, (e.setAll vs).keyTouched x)

/-! ## The commands -/

/-- GRANT_EXPIRY (R195), of a client's grant by its place in the table. -/
def execGrantExpiry (client type : Nat) (s : State) : Host.Outcome State Fault Refusal :=
  lift (fun x e => e.grantExpire x client type) s

end Sys2Proof.Machine
end

