-- ==== Sys2Proof/Machine/PtpUp.lean ====
section
/-! DEFINITION. The PTP engine's upstream units (spec/09_ptp_service.md R207 to R209): grants asked for, renewed and denied,
Delay_Req sent, and Sync, Follow_Up, Delay_Resp and Announce turned into the measurements of a selector slot. -/

namespace Sys2Proof.Machine

/-- Upstream unit `u`. -/
def Eng.up_ (e : Eng) (u : Nat) : UpUnit := nth e.ups u UpUnit.atReset

/-- Change upstream unit `u`. -/
def Eng.modUp (e : Eng) (u : Nat) (f : UpUnit → UpUnit) : Eng := { e with ups := modNth e.ups u f }

/-- A state of a unit (Table 9-6) reaches its slot. -/
def Eng.upTo (e : Eng) (x : Ctx) (u st : Nat) : Eng :=
  if e.n (Od.PTP_UP_STATUS.state u) = st then e
  else (e.set (Od.PTP_UP_STATUS.state u) st).sourceChanged x (e.n (Od.PTP_UP.slot u))

/-- The types a unit asks for: Sync, Delay_Resp and Announce. -/
def upTypes : List Nat := [0, 9, 11]

/-- The grant of a type holds. -/
def UpUnit.holds (g : UpUnit) (tick type : Nat) : Bool :=
  match tget g.granted type with | some t => decide (tick < t) | none => false

/-- RUNNING while every grant holds, else NEGOTIATING; DENIED stays (DEDUCED, notes/assumptions/25.md). -/
def Eng.upJudge (e : Eng) (x : Ctx) (u : Nat) : Eng :=
  if (e.up_ u).deniedAt.isSome then e
  else e.upTo x u (if upTypes.all (fun t => (e.up_ u).holds x.tick t) then 2 else 1)

/-- The unit works: enabled, and not in Eclipse (R209). -/
def Eng.upOn (e : Eng) (u : Nat) : Bool := e.b (Od.PTP_UP.enable u) && !e.flt.eclipse

/-! ## Sending -/

/-- The ends of a unit's messages. The master's MAC address until it has been heard, and DSCP and hop limit, are free values
(notes/assumptions/3.md). -/
def Eng.upEnds (e : Eng) (x : Ctx) (u : Nat) : PtpEnds × Eng :=
  let p := e.n (Od.PTP_UP.port u)
  let s := e.n (Od.PTP_UP.service u)
  let tr := e.n (Od.PTP_UP.transport u)
  let ver := if tr = 0 then 4 else if tr = 1 then 6 else 0
  let a := leBytes 16 (e.n (Od.PTP_UP.address u))
  let src := if tr = 0 then beBytes 4 (e.n (Od.SVC4.address s)) else if tr = 1 then leBytes 16 (e.n (Od.SVC6.address s)) else []
  let smac := if tr = 2 then e.portMac x p else e.svcMac x ⟨tr == 1, s⟩ p
  let dmac := if tr = 2 then beNat (a.take 6) else (e.up_ u).mac.getD (Config.freeDraw e.draws % 2 ^ 48)
  (⟨p, ver, src, a.take (if tr = 0 then 4 else if tr = 1 then 16 else 0), smac, dmac, [],
    Config.freeDraw (e.draws + 1) % 64, Config.freeDraw (e.draws + 2) % 255 + 1⟩, { e with draws := e.draws + 3 })

/-- The unit's own port identity (R201). -/
def Eng.upIdent (e : Eng) (x : Ctx) (u : Nat) : Bytes := e.clockId x ++ beBytes 2 (e.n (Od.PTP_UP.port u) + 1)

/-- Send a message of a unit through its port's calendar; none goes without the association auth_spp names. -/
def Eng.upSend (e : Eng) (x : Ctx) (u type seq : Nat) (body : Bytes) (grid : List GridPoint) : Eng :=
  let spp := e.n (Od.PTP_UP.auth_spp u)
  let sa := if spp = 0xFF then none else e.saOf spp
  if spp ≠ 0xFF ∧ sa.isNone then e
  else
    let d := e.upEnds x u
    let e := d.2
    let m := ptpMsg type (e.n (Od.PTP_UP.domain u)) ⟨false, true, 0⟩ 0 (e.upIdent x u) seq 0x7F body (if spp = 0xFF then 0 else 26)
    let m := match sa with | some a => e.authAppend a m | none => m
    let f := ptpFrame d.1 (type == 1) m
    let prio := e.prioOf d.1.port []
    let o := ResvOrigin.upstream u (if type = 1 then seq else 65536 + seq)
    match e.placeAnswer x d.1.port (x.lin 0) (wireLen f) prio grid with
    | .refused k => (e.depMiss x d.1.port k).depTell x d.1.port k o
    | .at_ g => (e.ptpRateTake x).reserve x d.1.port g f prio false o

/-- A REQUEST_UNICAST_TRANSMISSION of a type. -/
def Eng.upRequest (e : Eng) (u type : Nat) : Bytes :=
  let log := if type = 0 then e.i (Od.PTP_UP.log_sync u) else if type = 9 then e.i (Od.PTP_UP.log_delay u)
    else e.i (Od.PTP_UP.log_announce u)
  [0, 4, 0, 6, byte (16 * type), byte (unsigned 8 log)] ++ beBytes 4 (e.n (Od.PTP_UP.duration u))

/-- The types whose grants are to be asked for or renewed now (R207). -/
def Eng.upDueTypes (e : Eng) (x : Ctx) (u : Nat) : List Nat :=
  if e.upOn u && (e.up_ u).deniedAt.isNone then upTypes.filter (fun t => tgetD (e.up_ u).renewAt t 0 ≤ x.tick) else []

/-- Ask for the grants that are due; one not answered is asked for again after 1 s (notes/assumptions/25.md). -/
def Eng.upRenew (e : Eng) (x : Ctx) (u : Nat) (grid : List GridPoint) : Eng :=
  let e := if e.upOn u then e.upJudge x u else e
  let ts := e.upDueTypes x u
  if ts.isEmpty then e
  else
    let seq := (e.up_ u).sigSeq
    let e := e.modUp u (fun g => { g with
      sigSeq := (seq + 1) % 65536, renewAt := ts.foldl (fun t k => tput t k (x.tick + 1000000000)) g.renewAt })
    e.upSend x u 12 seq (List.replicate 10 0xFF ++ ts.flatMap (fun t => e.upRequest u t)) grid

/-- A Delay_Req when its tick has come and its grant holds (R207). -/
def Eng.upDelayReq (e : Eng) (x : Ctx) (u : Nat) (grid : List GridPoint) : Eng :=
  let g := e.up_ u
  if !e.upOn u || !g.holds x.tick 9 || x.tick < g.nextReq || !e.ptpRateOk x then e
  else
    let e := e.modUp u (fun g => { g with
      nextReq := g.nextReq + logTicks (e.i (Od.PTP_UP.log_delay u)), reqSeq := (g.reqSeq + 1) % 65536,
      inFlight := some (g.reqSeq, none) })
    e.upSend x u 1 g.reqSeq (List.replicate 10 0) grid

/-! ## Receiving (R207, R208) -/

/-- A message counted and discarded (R208). -/
def Eng.upDiscard (e : Eng) (u : Nat) : Eng := e.inc64 (Od.PTP_UP_STATUS.discarded u)

/-- A timestamp field in 2^-16 ns. -/
def ptpStamp (m : Bytes) (o : Nat) : Int := (beAt m o 6 * unitsPerSec + beAt m (o + 6) 4 * 65536 : Nat)

/-- The correctionField in 2^-16 ns. -/
def ptpCorr (m : Bytes) : Int := signed 64 (beAt m 8 8)

/-- A Sync whose t1 is known gives an offset with the latest exchange (R207). -/
def Eng.upOffset (e : Eng) (x : Ctx) (u t2 : Nat) (t1 : Int) : Eng :=
  match (e.up_ u).exchange with
  | none => e
  | some (t3, t4) =>
    let slot := e.n (Od.PTP_UP.slot u)
    let mpd := (((t2 : Int) - t1) + (t4 - t3)).fdiv 2
    let off := (t2 : Int) - t1 - mpd - e.cfg (Od.SEL_SLOT.asymmetry slot)
    let tick := e.tickOfCount t2
    let e := e.setAll [(Od.PTP_UP_STATUS.offset u, sat64 off), (Od.PTP_UP_STATUS.mean_path_delay u, sat64 mpd),
      (Od.PTP_UP_STATUS.last_tick u, (tick : Nat))]
    (e.inc64 (Od.PTP_UP_STATUS.exchanges u)).deliver x slot ⟨tick, off, none, true, false, false, 0, some mpd⟩

/-- A Sync. -/
def Eng.upSync (e : Eng) (x : Ctx) (u : Nat) (f : PtpIn) (m : Bytes) : Eng :=
  if bitOf (byteAt m 6) 1 then
    e.modUp u (fun g => { g with sync := some ⟨f.rxLin, x.tick, ptpStamp m 34, ptpCorr m, beAt m 30 2, some (x.st 0)⟩ })
  else (e.modUp u (fun g => { g with sync := none })).upOffset x u f.rxLin (ptpStamp m 34 + ptpCorr m)

/-- The Sync that waits has waited 1 s. -/
def Eng.followLate (e : Eng) (x : Ctx) (u : Nat) : Bool :=
  match (e.up_ u).sync with
  | some s => (match s.waiting with | some t => x.passed t unitsPerSec | none => false)
  | none => false

/-- A Follow_Up. -/
def Eng.upFollow (e : Eng) (x : Ctx) (u : Nat) (m : Bytes) : Eng :=
  match (e.up_ u).sync with
  | some s =>
    if s.seq ≠ beAt m 30 2 ∨ e.followLate x u then e.upDiscard u
    else (e.modUp u (fun g => { g with sync := none })).upOffset x u s.t2 (ptpStamp m 34 + s.corr + ptpCorr m)
  | none => e.upDiscard u

/-- A Delay_Resp completes the exchange of the Delay_Req in flight. -/
def Eng.upDelayResp (e : Eng) (x : Ctx) (u : Nat) (m : Bytes) : Eng :=
  if slice m 44 10 ≠ e.upIdent x u then e.upDiscard u
  else
    match (e.up_ u).inFlight with
    | some (q, some t3) =>
      if q ≠ beAt m 30 2 then e.upDiscard u
      else e.modUp u (fun g => { g with inFlight := none, exchange := some ((t3 : Int), ptpStamp m 34 - ptpCorr m) })
    | _ => e.upDiscard u

/-- An Announce: the fields the slot's rank reads (Table 12-1). -/
def Eng.upAnnounce (e : Eng) (u : Nat) (m : Bytes) : Eng :=
  (e.set (Od.PTP_UP_STATUS.gm_identity u) (leNat (slice m 53 8) : Nat)).set (Od.PTP_UP_STATUS.clock_class u) (byteAt m 48 : Nat)

/-- A TLV of a Signaling message: a grant, a denial or a cancellation. -/
def Eng.upTlv (e : Eng) (x : Ctx) (u : Nat) (t : PtpTlv) : Eng :=
  let type := byteAt t.value 0 / 16
  if !upTypes.contains type then e
  else if t.type = 5 then
    let dur := beAt t.value 2 4
    if dur = 0 then
      ((e.modUp u (fun g => { g with deniedAt := some (x.st 0), granted := tdel g.granted type })).orb Od.PTP_STATUS.sticky 32).upTo
        x u 3
    else
      e.modUp u (fun g => { g with
        granted := tput g.granted type (x.tick + dur * 1000000000), renewAt := tput g.renewAt type (x.tick + dur * 750000000),
        nextReq := if type = 9 ∧ g.nextReq < x.tick then x.tick else g.nextReq })
  else if t.type = 6 then
    e.modUp u (fun g => { g with granted := tdel g.granted type, renewAt := tput g.renewAt type x.tick })
  else e

/-- A frame delivered to unit `u`. -/
def Eng.upServe (e : Eng) (x : Ctx) (u : Nat) (f : PtpIn) : Eng :=
  let v := e.ptpView f.bytes
  let m := v.msg.take (beAt v.msg 2 2)
  let type := ptpType m
  let spp := e.n (Od.PTP_UP.auth_spp u)
  let o := if type = 12 then 44 else if type = 11 then 64 else if type = 9 then 54 else 44
  if !e.upOn u || !ptpShapeOk v.msg || byteAt m 4 ≠ e.n (Od.PTP_UP.domain u) then e
  else if spp ≠ 0xFF ∧ !(decide (e.authOf m o = .valid) && (match ptpTlvs m (m.length + 1) o with
      | some ts => ts.any (fun t => t.type == 0x8009 && byteAt t.value 0 == spp)
      | none => false)) then e.upDiscard u
  else
    let e := e.modUp u (fun g => { g with mac := some v.p.src })
    match type with
    | 0 => e.upSync x u f m
    | 8 => e.upFollow x u m
    | 9 => e.upDelayResp x u m
    | 11 => e.upAnnounce u m
    | 12 =>
      match ptpTlvs m (m.length + 1) 44 with
      | some ts => (ts.foldl (fun e t => e.upTlv x u t) e).upJudge x u
      | none => e
    | _ => e

/-! ## Writes of PTP_UP -/

/-- The relations of a unit's members: a domain of its profile, a service entry and a free slot while enabled. -/
def Eng.upCheck (e : Eng) (u : Nat) (vs : List (Key × Int)) : Nat :=
  if (names vs [Od.PTP_UP.profile u, Od.PTP_UP.domain u] &&
      !ptpDomainOk (e.n (Od.PTP_UP.profile u)) (e.n (Od.PTP_UP.domain u))) ||
      (names vs [Od.PTP_UP.service u] && 255 < e.n (Od.PTP_UP.service u)) then stRange
  else if names vs [Od.PTP_UP.enable u, Od.PTP_UP.slot u] && e.b (Od.PTP_UP.enable u) then slotCheck e.od (srcUp u) (e.n (Od.PTP_UP.slot u))
  else stOk

/-- A write of PTP_UP members: the unit starts afresh with its new terms. -/
def upWrite (x : Ctx) (u : Nat) (vs : List (Key × Int)) (e : Eng) : WriteRes :=
  let f := e.setAll vs
  let st := f.upCheck u vs
  if st ≠ stOk then (st, e)
  else
    let f := f.modUp u (fun g => { UpUnit.atReset with sigSeq := g.sigSeq, reqSeq := g.reqSeq })
    (stOk, (f.rebind x).upTo x u (if f.b (Od.PTP_UP.enable u) then 1 else 0))

/-! ## The commands -/

/-- PTP_RECEIVE (R192, R207): the frame at the head of the engine's input. -/
def execPtpReceive (grid : List GridPoint) (s : State) : Host.Outcome State Fault Refusal :=
  lift (fun x e =>
    match e.ptpIn with
    | [] => e
    | f :: t =>
      let e := { e with ptpIn := t }
      if f.target < 32 then e.ptpServe x f.target f grid else e.upServe x (f.target - 32) f) s

/-- PTP_MESSAGE_DUE (R197, R207). -/
def execPtpMessageDue (due : PtpDue) (grid : List GridPoint) (s : State) : Host.Outcome State Fault Refusal :=
  lift (fun x e =>
    match due with
    | .grant i type => e.grantDue x i type grid
    | .multicast n p a => e.mcDue x n p a grid) s

/-- UPSTREAM_DELAY_REQ (R207). -/
def execUpstreamDelayReq (unit_ : Fin 16) (grid : List GridPoint) (s : State) : Host.Outcome State Fault Refusal :=
  lift (fun x e => e.upDelayReq x unit_ grid) s

/-- UPSTREAM_RENEW (R207). -/
def execUpstreamRenew (unit_ : Fin 16) (grid : List GridPoint) (s : State) : Host.Outcome State Fault Refusal :=
  lift (fun x e => e.upRenew x unit_ grid) s

/-- FOLLOW_UP_TIMEOUT (R207), 1 s after the Sync. -/
def execFollowUpTimeout (unit_ : Fin 16) (s : State) : Host.Outcome State Fault Refusal :=
  lift (fun x e => whenDue (e.followLate x unit_) (fun e => e.modUp unit_ (fun g => { g with sync := none })) e) s

/-- UPSTREAM_RETRY (R208), 60 s after the denial. -/
def execUpstreamRetry (unit_ : Fin 16) (s : State) : Host.Outcome State Fault Refusal :=
  lift (fun x e =>
    match (e.up_ unit_).deniedAt with
    | some t =>
      if e.upOn unit_ && x.passed t (60 * unitsPerSec) then
        (e.modUp unit_ (fun g => { g with deniedAt := none, renewAt := [] })).upTo x unit_ 1
      else e
    | none => e) s

end Sys2Proof.Machine
end

