-- ==== Sys2Proof/Machine/Departure.lean ====
section
/-! DEFINITION. Departure (spec/07_scheduled_departure.md R157 to R162): host launch times, the fetch and release of timed
frames, untimed frames in the gaps, and the launch margin. -/

namespace Sys2Proof.Machine

/-! ## Host launch times (R159) -/

/-- A launch frame is at the head of its ring and LT lies no more than 64 µs ahead. -/
def Eng.launchReady (e : Eng) (x : Ctx) (r : Nat) : Bool :=
  match (e.txRing r).launch with
  | some l => stDiff l.lt (x.st 0) ≤ (ns16 64000 : Nat)
  | none => false

/-- A launch frame ends with cause `k` of Table 7-2. -/
def Eng.launchEnd (e : Eng) (x : Ctx) (r k : Nat) (l : LaunchFrame) : Eng :=
  ((e.modTx r (fun g => { g with launch := none })).depMiss x l.port k).depTell x l.port k (.host r l.first l.tag l.lt)

/-- Steps 2 to 5 for the launch frame of ring `r`. In Eclipse it is discarded (Table 20-6). -/
def Eng.launchTry (e : Eng) (x : Ctx) (r : Nat) (l : LaunchFrame) (grid : List GridPoint) : Eng :=
  let q := x.lin 0
  let d := stDiff l.lt (x.st 0)
  let lt : Int := (q : Int) + d
  let last := grid.find? (fun g => lt + (ns16 l.slack : Nat) ≤ g.at_)
  let lim : Nat := q + ns16 64000
  let hi := match last with | some g => min g.at_ lim | none => lim
  let isE := match last with | some g => decide (g.at_ ≤ lim) | none => false
  let prio := e.prioOf l.port (parseFrame e.isTpid l.bytes).tags
  if e.flt.eclipse then e.launchEnd x r 9 l
  else if !e.portReady l.port then e.launchEnd x r 15 l
  else if l.tried.isNone ∧ d < -((unitsPerSec : Nat) : Int) then e.launchEnd x r 11 l
  else if (match last with | some g => !e.buildLead l.port q g | none => false) then e.launchEnd x r 11 l
  else
    match grid.find? (fun g => lt ≤ g.at_ && g.at_ ≤ hi && e.buildLead l.port q g &&
        e.fitsAt l.port (wireLen l.bytes) prio true g) with
    | some g =>
      (e.modTx r (fun t => { t with launch := none })).reserve x l.port g l.bytes prio true (.host r l.first l.tag l.lt)
    | none =>
      if isE then e.launchEnd x r 12 l
      else e.modTx r (fun t => { t with launch := some { l with tried := some x.tick } })

/-! ## Fetch and release (R160, R162) -/

/-- The next reservation whose fetch has not started. -/
def Eng.toFetch (e : Eng) (p : Nat) : Option Resv := (e.cal p).resv.find? (fun r => r.fetch.isNone)

/-- Its release point less margin_live is reached. -/
def Eng.fetchDue (e : Eng) (x : Ctx) (p : Nat) : Bool :=
  match e.toFetch p with
  | some r => x.reached (r.releaseAt - e.marginAt p r.at_)
  | none => false

/-- Start a fetch that takes `latency` (2^-16 ns). -/
def Eng.fetchStart (e : Eng) (x : Ctx) (p latency : Nat) : Eng :=
  match e.toFetch p with
  | none => e
  | some r =>
    e.modCal p (fun c => { c with
      fetchMax := max c.fetchMax latency
      resv := c.resv.map (fun q => if q.block = r.block then { q with fetch := some (x.lin 0 + latency) } else q) })

/-- The NTP answers that leave during the linger (R161, R138). -/
def ResvOrigin.lingers : ResvOrigin → Bool
  | .answer _ _ .plain => true
  | _ => false

/-- The cause that holds at release, if any, in the order of R160. -/
def Eng.releaseMiss (e : Eng) (x : Ctx) (p : Nat) (r : Resv) : Option Nat :=
  let late := match r.fetch with
    | some t => decide (r.releaseAt < t)
    | none => true
  if e.pausedAt p r.prio (x.lin 0) then some 6
  else if !e.portReady p then some 7
  else if late || r.start < (e.cal p).busyTo then some 8
  else if e.flt.eclipse && !(e.flt.lingering && r.origin.lingers) then some 9
  else none

/-- Who asked for a frame is told that it was released. -/
def Eng.releaseTell (e : Eng) (x : Ctx) (r : Resv) : Eng :=
  match r.origin with
  | .answer pipe rule kind => e.ansReleased x pipe rule kind
  | .ptp i => (e.inc64 (Od.PTP_INST_STATS.sent i)).count x 0xB17
  | .upstream u seq =>
    (e.modUp u (fun g => { g with inFlight := match g.inFlight with
      | some (q, t) => if q = seq then some (q, some r.at_) else some (q, t)
      | none => none })).count x 0xB17
  | .host ring seq _ _ => e.txFinish x ring seq 16

/-- A frame that left is counted by its port (Table 4-5). -/
def Eng.txCount (e : Eng) (x : Ctx) (p len : Nat) : Eng := (e.portCount x p 16).countN x (32 * p + 17) len

/-- The frame with a corrupted FCS. -/
def badFcs (bs : Bytes) : Bytes := padTo 60 bs ++ (leBytes 4 (crc32 (padTo 60 bs))).map (fun b => ~~~b)

/-- Release the first reservation of port `p`; `short` when its bytes then fail to reach the PCS. -/
def Eng.release (e : Eng) (x : Ctx) (p : Nat) (short : Bool) : Eng :=
  match (e.cal p).resv with
  | [] => e
  | r :: rest =>
    if !x.reached r.releaseAt then e
    else
      match e.releaseMiss x p r with
      | some k => (e.modCal p (fun c => { c with resv := rest })).resvDiscard x p k r
      | none =>
        let echo : Sent := ⟨r.at_, x.tick, r.lane, if short then .ptp 0 else r.origin⟩
        let e := e.modCal p (fun c => { c with
          resv := rest, busyTo := max c.busyTo (blocksEnd r.block r.len), awaiting := c.awaiting ++ [echo] })
        let e := (e.txCount x p r.len).emit (.timedFrame p r.at_ (if short then badFcs r.frame else withFcs r.frame))
        if short then ((e.depMiss x p 8).depTell x p 8 r.origin).detect x 6 3 p
        else (e.depCount x p 2).releaseTell x r

/-! ## Untimed frames (R157, R34) -/

/-- The head of a source: 0 the device's own frames, 1 + r transmit ring r, with the frame's first descriptor. -/
def Eng.untimedHead (e : Eng) (p src : Nat) : Option (Nat × UntimedFrame) :=
  if src = 0 then ((e.port p).untimed.head?).map (fun f => (0, f))
  else
    match (e.txRing (src - 1)).waiting with
    | f :: _ => if f.1 = p then some f.2 else none
    | [] => none

/-- A frame started at a block fits before the next reservation, and its priority is not stopped. -/
def Eng.untimedFits (e : Eng) (x : Ctx) (p block : Nat) (f : UntimedFrame) : Bool :=
  (e.cal p).busyTo ≤ block && !e.pausedAt p f.prio (x.lin 0) &&
    (match (e.cal p).resv with
     | r :: _ => decide (8 * (block + 1) + wireLen f.bytes + 12 ≤ 8 * r.start)
     | [] => true)

/-- Take a source's head away. -/
def Eng.popUntimed (e : Eng) (p src : Nat) : Eng :=
  if src = 0 then e.modPort p (fun q => { q with untimed := q.untimed.drop 1 })
  else e.modTx (src - 1) (fun g => { g with waiting := g.waiting.drop 1 })

/-- The firmware frames of the last 10^6 ticks leave room for another (Table 1-7): 4,000,000 per second. -/
def Eng.fwRoom (e : Eng) (x : Ctx) : Bool :=
  ((e.fwTicks.filter (fun t => decide (x.tick < t + 1000000))).length) * 1000 < x.fuses.ceilFrames

/-- Start an untimed frame at a stream block: round robin among the sources whose head fits. -/
def Eng.untimedStart (e : Eng) (x : Ctx) (p block : Nat) : Eng :=
  if !e.b (Od.PORT_STATUS.link p) then e
  else
    let last := (e.port p).lastSource
    let cand := (List.range 129).findSome? (fun i =>
      let src := (last + 1 + i) % 129
      match e.untimedHead p src with
      | some f => if e.untimedFits x p block f.2 then some (src, f) else none
      | none => none)
    match cand with
    | none => e
    | some (src, first, f) =>
      let e := (e.popUntimed p src).modPort p (fun q => { q with lastSource := src })
      if f.fw && !e.fwRoom x then ((e.portCount x p 21).detect x 2 4 p)
      else
        let e := if f.fw then { e with fwTicks := x.tick :: e.fwTicks.filter (fun t => decide (x.tick < t + 1000000)) } else e
        let len := wireLen f.bytes
        let e := e.modCal p (fun c => { c with busyTo := blocksEnd (block + 1) len })
        let e := ((e.txCount x p len).depCount x p 3).emit (.frame p (withFcs f.bytes))
        if src = 0 then e else e.txFinish x (src - 1) first 0

/-! ## The launch margin (R162) -/

/-- Seal the margin of port `p` for the coming boundary, from the largest fetch latency since the last closing tick, in the
way of R116. -/
def Eng.sealMargin (e : Eng) (x : Ctx) (p : Nat) : Eng :=
  let c := e.cal p
  if c.fetchMax = 0 then e.modCal p (fun c => { c with sealedMargin := none })
  else
    let m := c.fetchMax * 5 / 4 + e.n (Od.DEP_PORT.margin_guard p)
    let hi := e.n (Od.DEP_PORT.margin_max p)
    let e := e.modCal p (fun c => { c with
      sealedMargin := some (min (max m (e.n (Od.DEP_PORT.margin_min p))) hi, c.fetchMax), fetchMax := 0 })
    if hi < m then (e.depCount x p 14).orb (Od.DEP_STATUS.sticky p) (depSticky 14) else e

/-- Seal every port's margin. -/
def Eng.sealMargins (e : Eng) (x : Ctx) : Eng := (List.range 32).foldl (fun e p => e.sealMargin x p) e

/-- A calendar at a boundary: the margin sealed, and the shares as written (R156). -/
def Eng.calBoundary (e : Eng) (b p : Nat) : Eng :=
  let e := match (e.cal p).sealedMargin with
    | some m => (e.set (Od.DEP_LIVE.margin_live p) (m.1 : Nat)).set (Od.DEP_LIVE.fetch_max p) (m.2 : Nat)
    | none => e
  let e := e.modCal p (fun c => { c with
    sealedMargin := none, share := e.n (Od.DEP_PORT.host_share_pct p),
    timedPct := e.n (Od.DEP_PORT.host_timed_pct p) })
  e.set (Od.DEP_LIVE.boundary p) b

/-- Every calendar at a boundary. -/
def Eng.calBoundaries (e : Eng) (b : Nat) : Eng := (List.range 32).foldl (fun e p => e.calBoundary b p) e

/-! ## Writes of area 44 -/

/-- A write of DEP_PORT members: horizon and search up to 64 µs together, margins in order; horizon and search hold for
requests from 4,096 ticks on (R155). -/
def depPortWrite (x : Ctx) (p : Nat) (vs : List (Key × Int)) (e : Eng) : WriteRes :=
  let f := e.setAll vs
  let bad := (names vs [Od.DEP_PORT.horizon p, Od.DEP_PORT.search p] &&
      ns16 64000 < f.n (Od.DEP_PORT.horizon p) + f.n (Od.DEP_PORT.search p)) ||
    (names vs [Od.DEP_PORT.margin_max p, Od.DEP_PORT.margin_min p] &&
      f.n (Od.DEP_PORT.margin_max p) < f.n (Od.DEP_PORT.margin_min p))
  if bad then (stRange, e)
  else
    (stOk, vs.foldl (fun e v =>
      if v.1 = Od.DEP_PORT.horizon p ∨ v.1 = Od.DEP_PORT.search p then e.setLater x v.1 v.2 else e.set v.1 v.2) e)

/-- A write of DEP_STATUS.sticky: bit 0 clears cells_peak too (R165). -/
def depStickyClear (p : Nat) (v : Int) (e : Eng) : WriteRes :=
  let e := e.andc (Od.DEP_STATUS.sticky p) v.toNat
  (stOk, if bitOf v.toNat 0 then e.set (Od.DEP_LIVE.cells_peak p) ((e.cal p).resv.length : Nat) else e)

/-! ## The commands -/

/-- HOST_LAUNCH_TAKE (R159): a launch frame not tried yet, once LT lies within 64 µs. -/
def execHostLaunchTake (ring : Fin 128) (grid : List GridPoint) (s : State) : Host.Outcome State Fault Refusal :=
  lift (fun x e =>
    match (e.txRing ring).launch with
    | some l => if l.tried.isNone && e.launchReady x ring then e.launchTry x ring l grid else e
    | none => e) s

/-- HOST_LAUNCH_RETRY (R159): 1,024 ticks after the last try. -/
def execHostLaunchRetry (ring : Fin 128) (grid : List GridPoint) (s : State) : Host.Outcome State Fault Refusal :=
  lift (fun x e =>
    match (e.txRing ring).launch with
    | some l =>
      (match l.tried with
       | some t => if t + 1024 ≤ x.tick then e.launchTry x ring l grid else e
       | none => e)
    | none => e) s

/-- TIMED_FETCH_START (R162), when it is due. -/
def execTimedFetchStart (port : Fin 32) (latency : Nat) (s : State) : Host.Outcome State Fault Refusal :=
  lift (fun x e => whenDue (e.fetchDue x port) (fun e => e.fetchStart x port latency) e) s

/-- FRAME_RELEASE (R160), when the first reservation's release point is reached. -/
def execFrameRelease (port : Fin 32) (short : Bool) (s : State) : Host.Outcome State Fault Refusal :=
  lift (fun x e => e.release x port short) s

/-- UNTIMED_TX_START (R157). -/
def execUntimedTxStart (port : Fin 32) (block : Nat) (s : State) : Host.Outcome State Fault Refusal :=
  lift (fun x e => e.untimedStart x port block) s

end Sys2Proof.Machine
end

