-- ==== Sys2Proof/Machine/Esmc.lean ====
section
/-! DEFINITION. SyncE and ESMC of the ports (spec/04_ethernet_ports.md R95 to R98): the transmit clamp, quality levels sent,
and the timeout of levels received. Quality level codes are those of ITU-T G.8264 and G.781. -/

namespace Sys2Proof.Machine

/-- The quality level codes of an option. -/
def qlCodes (option : Nat) : List Nat :=
  if option = 2 then [0x0, 0x1, 0x4, 0x7, 0xA, 0xC, 0xD, 0xE, 0xF] else [0x2, 0x4, 0x8, 0xB, 0xF]

/-- The clamp of R95 is in force: moon 0's active increment is off nominal by more than 50 ppm. -/
def Ctx.synceClamped (x : Ctx) : Bool := 14073748836 < ((x.inc 0 : Int) - (2 ^ 48 : Nat)).natAbs

/-- The quality level port `p` sends (Table 4-2). -/
def Eng.qlSent (e : Eng) (x : Ctx) (p : Nat) : Nat :=
  let o := e.n (Od.PORT_ESMC.ql_tx_override p)
  let two := e.n Od.PORT_GLOBAL.esmc_option == 2
  let s := e.selected 0
  let own := s < 64 && (e.slot s).source == srcSynce (p + e.n (Od.PORT_CONFIG.synce_lane p))
  if o ≠ 0xFF then o
  else if e.flt.eclipse || x.synceClamped || own then 0xF
  else
    match (e.moon 0).cur.state with
    | .locked => e.n Od.PORT_GLOBAL.ql_locked
    | .holdover => e.n Od.PORT_GLOBAL.ql_holdover
    | _ => if two then 0xA else 0xB

/-- An ESMC PDU (ITU-T G.8264), an information or an event PDU. -/
def Eng.esmcFrame (e : Eng) (x : Ctx) (p ql : Nat) (event : Bool) : Bytes :=
  padTo 60 (beBytes 6 0x0180C2000002 ++ beBytes 6 (e.portMac x p) ++
    [0x88, 0x09, 0x0A, 0x00, 0x19, 0xA7, 0, 1, byte (0x10 + 8 * boolNat event), 0, 0, 0, 1, 0, 4, byte ql])

/-- A port's ESMC PDU: the information PDU of each second, or an event PDU when the level sent has changed (R98). -/
def Eng.esmcSend (e : Eng) (x : Ctx) (p : Nat) : Eng :=
  let ql := e.qlSent x p
  let due := x.passed (e.port p).esmcSent unitsPerSec
  let event := ql != e.n (Od.PORT_ESMC.ql_tx p)
  if !e.b (Od.PORT_CONFIG.esmc_enable p) || !e.b (Od.PORT_STATUS.link p) || !(due || event) then e
  else
    let e := (e.set (Od.PORT_ESMC.ql_tx p) (ql : Nat)).portCount x p 23
    let e := if due then e.modPort p (fun q => { q with esmcSent := x.st 0 }) else e
    e.sendUntimed p false (e.prioOf p []) (e.esmcFrame x p ql (event && !due))

/-- No ESMC frame has come for 5 s (R97). -/
def Eng.esmcLate (e : Eng) (x : Ctx) (p : Nat) : Bool :=
  e.b (Od.PORT_CONFIG.esmc_enable p) && e.b (Od.PORT_ESMC.ql_rx_valid p) && x.passed (e.port p).esmcHeard (5 * unitsPerSec)

/-- The clamp is shown on every port at a boundary (R95). -/
def Eng.clampShown (e : Eng) (x : Ctx) : Eng :=
  if x.synceClamped then
    (List.range 32).foldl (fun e p => if e.isPort p then e.orb (Od.PORT_STATUS.sticky p) 8 else e) e
  else e

/-! ## Writes of area 30 (R96, R98) -/

/-- A write of PORT_GLOBAL members: codes defined for the option; a write of esmc_option takes its defaults. -/
def portGlobalWrite (vs : List (Key × Int)) (e : Eng) : WriteRes :=
  let opt := vs.find? (fun p => p.1 == Od.PORT_GLOBAL.esmc_option)
  let e0 := match opt with
    | some p => (e.set Od.PORT_GLOBAL.ql_locked (if p.2 = 2 then 1 else 2)).set Od.PORT_GLOBAL.ql_holdover (if p.2 = 2 then 7 else 4)
    | none => e
  let f := e0.setAll vs
  let ok := qlCodes (f.n Od.PORT_GLOBAL.esmc_option)
  let bad := (names vs [Od.PORT_GLOBAL.esmc_option, Od.PORT_GLOBAL.ql_locked] && !ok.contains (f.n Od.PORT_GLOBAL.ql_locked)) ||
    (names vs [Od.PORT_GLOBAL.esmc_option, Od.PORT_GLOBAL.ql_holdover] && !ok.contains (f.n Od.PORT_GLOBAL.ql_holdover))
  if bad then (stRange, e) else (stOk, f)

/-- A write of ql_tx_override: a code of the option, or 0xFF. -/
def qlOverrideWrite (p : Nat) (v : Int) (e : Eng) : WriteRes :=
  if v = 0xFF ∨ (qlCodes (e.n Od.PORT_GLOBAL.esmc_option)).contains v.toNat then
    (stOk, e.set (Od.PORT_ESMC.ql_tx_override p) v) else (stRange, e)

/-- A write of PORT_CONFIG.synce_lane: within the port's lanes. -/
def synceLaneWrite (p : Nat) (v : Int) (e : Eng) : WriteRes :=
  if v < (max 1 (e.portLanes p) : Nat) then (stOk, e.set (Od.PORT_CONFIG.synce_lane p) v) else (stRange, e)

/-! ## The commands -/

/-- ESMC_TIMEOUT (R97), after 5 s of silence. -/
def execEsmcTimeout (port : Fin 32) (s : State) : Host.Outcome State Fault Refusal :=
  lift (fun x e => whenDue (e.esmcLate x port) (fun e =>
    ((e.set (Od.PORT_ESMC.ql_rx_valid port) 0).portCount x port 24).orb (Od.PORT_STATUS.sticky port) 16) e) s

/-- ESMC_INFO_PDU (R98). -/
def execEsmcInfoPdu (port : Fin 32) (s : State) : Host.Outcome State Fault Refusal :=
  lift (fun x e => e.esmcSend x port) s

end Sys2Proof.Machine
end

