-- ==== Sys2Proof/Machine/Outputs.lean ====
section
/-! DEFINITION. The output engine (spec/14_outputs.md R296 to R306, spec/03_schedule.md R82): clock outputs, the placing and
launching of pulse edges, squelch, and the time-of-day line. -/

namespace Sys2Proof.Machine

/-- Clock output `o`. -/
def Eng.clk (e : Eng) (o : Nat) : ClkUnit := nth e.outs.clks o ⟨true, none⟩

/-- Pulse output `n`. -/
def Eng.pps (e : Eng) (n : Nat) : PpsUnit := nth e.outs.pps n ⟨[], false, none, 0, false, false⟩

/-- Change a clock output. -/
def Eng.modClk (e : Eng) (o : Nat) (f : ClkUnit → ClkUnit) : Eng :=
  { e with outs := { e.outs with clks := modNth e.outs.clks o f } }

/-- Change a pulse output. -/
def Eng.modPps (e : Eng) (n : Nat) (f : PpsUnit → PpsUnit) : Eng :=
  { e with outs := { e.outs with pps := modNth e.outs.pps n f } }

/-- An object of area 18 in force (R306). -/
def Eng.outCfg (e : Eng) (k : Key) : Int := sget e.outs.cfg k

/-- An object of area 18 in force, as a number. -/
def Eng.outNat (e : Eng) (k : Key) : Nat := (e.outCfg k).toNat

/-! ## Squelch (R303) -/

/-- Squelched by the code, from the state of the moon's current record (Table 14-1). -/
def squelchCode (code : Nat) (st : MoonState) : Bool :=
  match code with
  | 1 => st == .freeRun || st == .acquiring || st == .lost
  | 2 => st != .locked
  | _ => false

/-- The state a moon's current record shows. -/
def Eng.moonState (e : Eng) (k : Nat) : MoonState := (e.moon k).cur.state

/-- Clock output `o` does not run: disabled, held for a restart (R297, R299), squelched by its code, or in Eclipse. -/
def Eng.clkSquelched (e : Eng) (x : Ctx) (o : Nat) : Bool :=
  let code := e.outNat (Od.CLKOUT.squelch o)
  e.outCfg (Od.CLKOUT.enable o) == 0 || (e.clk o).held ||
    (match (e.clk o).startAt with | some t => decide (x.lin 0 < t) | none => false) ||
    squelchCode code (e.moonState 0) || (e.flt.eclipse && code != 3)

/-- Pulse output `n` places no new leading edge: disabled, squelched by its comparator or code, or in Eclipse. -/
def Eng.ppsSquelched (e : Eng) (n : Nat) : Bool :=
  e.outCfg (Od.PPSOUT.enable n) == 0 || (e.pps n).tripped || e.flt.eclipse ||
    squelchCode (e.outNat (Od.PPSOUT.squelch n)) (e.moonState (e.outNat (Od.PPSOUT.moon n)))

/-- SYNTH.ratio (R297): vco_hz in force times moon 0's active increment over 10^9, in 2^-48. -/
def Eng.synthRatio (e : Eng) (x : Ctx) (y : Nat) : Nat :=
  (roundDiv ((e.outNat (Od.SYNTH.vco_hz y) * x.inc 0 : Nat) : Int) 1000000000).toNat

/-! ## Synthesizers (R296, R297, R306) -/

/-- The first moon 0 second at or after a count. -/
def secondAfter (c : Nat) : Nat := ceilDiv c unitsPerSec * unitsPerSec

/-- Release a clock output: an aligned one restarts at the next moon 0 second (R297, R299). -/
def Eng.clkRelease (e : Eng) (x : Ctx) (o : Nat) : Eng :=
  if (e.clk o).held then
    e.modClk o (fun c => { c with
      held := false,
      startAt := if e.outCfg (Od.CLKOUT.align o) = 1 then some (max (secondAfter (x.lin 0)) (c.startAt.getD 0)) else none })
  else e

/-- Synthesizer `y` reports lock. -/
def Eng.synthLock (e : Eng) (x : Ctx) (y : Nat) : Eng :=
  if e.outCfg (Od.SYNTH.enable y) = 0 then e
  else (List.range 3).foldl (fun e i => e.clkRelease x (3 * y + i)) (e.set (Od.SYNTH.locked y) 1)

/-- Hold a clock output low. -/
def Eng.clkHold (e : Eng) (o : Nat) : Eng := e.modClk o (fun c => { c with held := true })

/-- Synthesizer `y` and its three outputs stop. -/
def Eng.synthHold (e : Eng) (y : Nat) : Eng :=
  (List.range 3).foldl (fun e i => e.clkHold (3 * y + i)) (e.set (Od.SYNTH.locked y) 0)

/-- Synthesizer `y` loses lock (R306). -/
def Eng.synthUnlock (e : Eng) (x : Ctx) (y : Nat) : Eng :=
  if e.b (Od.SYNTH.locked y) then ((e.synthHold y).orb Od.OUT_STATUS.sticky 8).detect x 13 2 y else e

/-! ## Pulse edges (R82, R300, R301) -/

/-- Tick and 4 ps step of a moon 0 instant in 2^-48 ns, by moon 0's record for it (R82). -/
def Eng.placeAt (e : Eng) (v : Nat) : Nat × Nat :=
  let r := (e.recordsAt 0 (v / 2 ^ 32)).1
  let d := v - r.count
  let step := (roundDiv ((250 * (d % r.inc) : Nat) : Int) r.inc).toNat
  if step = 250 then (r.boundary * 2 ^ 20 + d / r.inc + 1, 0) else (r.boundary * 2 ^ 20 + d / r.inc, step)

/-- The launch of a placed instant: made earlier by advance and by the fused cal_offset (R300). -/
def Eng.launchOf (e : Eng) (x : Ctx) (n v : Nat) : Nat :=
  ((v : Int) - (e.outCfg (Od.PPSOUT.advance n) + x.fuses.pulseCal) * (2 ^ 32 : Nat)).toNat

/-- Insert an edge in order of instant. -/
def insertEdge (p : Nat × Bool) : List (Nat × Bool) → List (Nat × Bool)
  | [] => [p]
  | q :: t => if p.1 < q.1 then p :: q :: t else q :: insertEdge p t

/-- Place an edge at an instant in 2^-48 ns. -/
def Eng.placeEdge (e : Eng) (n v : Nat) (rising : Bool) : Eng :=
  e.modPps n (fun u => { u with edges := insertEdge (v, rising) u.edges })

/-- A PULSE for output `n` at instant `v` (Table 3-2 action 1): kind 0 a pulse of configured width, 1 a rising, 2 a falling
edge. A squelched output places no leading edge (R303). -/
def Eng.pulseOn (e : Eng) (n kind v : Nat) : Eng :=
  let sq := e.ppsSquelched n
  match kind with
  | 0 => if sq then e else
      (e.placeEdge n v true).placeEdge n (v + e.outNat (Od.PPSOUT.width n) * 2 ^ 32) false
  | 1 => if sq then e else e.placeEdge n v true
  | _ => if e.flt.eclipse then e else e.placeEdge n v false

/-! ## The time-of-day line (R305) -/

/-- The decimal digits of a number, at least `n` of them. -/
def decDigits : Nat → Nat → Bytes
  | 0, _ => []
  | n + 1, v => decDigits n (v / 10) ++ [byte (48 + v % 10)]

/-- A signed decimal of at most five digits, without leading zeros. -/
def decInt (i : Int) : Bytes :=
  let d := (decDigits 5 i.natAbs).dropWhile (fun b => b == 48)
  (if i < 0 then [0x2D] else []) ++ (if d.isEmpty then [48] else d)

/-- An upper-case hexadecimal digit. -/
def hexDigit (n : Nat) : Byte := byte (if n < 10 then 48 + n else 55 + n)

/-- A sentence: $, the text, * and the XOR of the text in two hexadecimal digits, CR LF (R226). -/
def sentence (text : Bytes) : Bytes :=
  let x := (text.foldl (fun a b => a ^^^ b) 0).toNat
  [0x24] ++ text ++ [0x2A, hexDigit (x / 16), hexDigit (x % 16), 0x0D, 0x0A]

/-- The civil date of a day counted from 1970-01-01. -/
def civilDate (day : Int) : Nat × Nat × Nat :=
  let z := (day + 719468).toNat
  let era := z / 146097
  let doe := z % 146097
  let yoe := (doe - doe / 1460 + doe / 36524 - doe / 146096) / 365
  let doy := doe - (365 * yoe + yoe / 4 - yoe / 100)
  let mp := (5 * doy + 2) / 153
  let m := if mp < 10 then mp + 3 else mp - 9
  (yoe + era * 400 + (if m ≤ 2 then 1 else 0), m, doy - (153 * mp + 2) / 5 + 1)

/-- The message's fields: label seconds, in_leap, scale, tai_utc, status A. -/
structure TodLine where
  sec : Int
  leap : Bool
  scale : Nat
  taiUtc : Int
  good : Bool
  deriving DecidableEq, Repr

/-- A THTOD line (R226). -/
def TodLine.line (l : TodLine) : Bytes :=
  let d := civilDate (l.sec.fdiv 86400)
  let s := (l.sec.fmod 86400).toNat
  sentence (strBytes "THTOD," ++ decDigits 4 d.1 ++ [0x2D] ++ decDigits 2 d.2.1 ++ [0x2D] ++ decDigits 2 d.2.2 ++ [0x2C]
    ++ decDigits 2 (s / 3600) ++ [0x3A] ++ decDigits 2 (s / 60 % 60) ++ [0x3A] ++ decDigits 2 (if l.leap then 60 else s % 60)
    ++ [0x2C, if l.scale = 0 then 0x54 else 0x55, 0x2C] ++ decInt l.taiUtc ++ [0x2C, if l.good then 0x41 else 0x56])

/-- A ZDA sentence with the talker `a b`, whose fields stand as in NMEA 0183 (PRESUMED, notes/assumptions/27.md). -/
def TodLine.zda (l : TodLine) (a b : Nat) : Bytes :=
  let d := civilDate (l.sec.fdiv 86400)
  let s := (l.sec.fmod 86400).toNat
  sentence ([byte (65 + a % 26), byte (65 + b % 26)] ++ strBytes "ZDA," ++ decDigits 2 (s / 3600) ++ decDigits 2 (s / 60 % 60)
    ++ decDigits 2 (if l.leap then 60 else s % 60) ++ strBytes ".00," ++ decDigits 2 d.2.2 ++ [0x2C] ++ decDigits 2 d.2.1
    ++ [0x2C] ++ decDigits 4 d.1 ++ strBytes ",00,00")

/-- What the message labels: the served moon at the instant of an edge of output `n` (R305). -/
def Eng.todLabel (e : Eng) (n v : Nat) : TodLine :=
  let k := e.outNat (Od.PPSOUT.moon n)
  let p := e.project k (v / 2 ^ 32)
  let c := p.lin + 65536
  let scale := e.n (Od.MOON_CONFIG.scale k)
  { sec := (e.label k c).fdiv secU, leap := scale = 1 && inLeapAt e.leaps c, scale := scale,
    taiUtc := taiUtcAt (e.i Od.LEAP_BASE) e.leaps c,
    good := (p.rec_.state == .locked || p.rec_.state == .holdover) && e.outCfg (Od.PPSOUT.period n) == secU &&
      e.outCfg (Od.PPSOUT.phase n) == 0 && scale ≤ 1 }

/-- A leading edge of the output that TOD_OUT names was launched: its message waits for start_ms. -/
def Eng.todMark (e : Eng) (n v : Nat) : Eng :=
  if e.outCfg Od.TOD_OUT.enable = 0 ∨ e.outNat Od.TOD_OUT.ppsout ≠ n ∨ e.ppsSquelched n then e
  else
    let l := e.todLabel n v
    let zda := e.outNat Od.TOD_OUT.format = 1
    let bytes := if zda then l.zda (e.draw 26) (e.draw 676 / 26) else l.line
    let e := if zda then e.drawn else e
    { e with outs := { e.outs with tod := some (v / 2 ^ 32 + ns16 (1000000 * e.outNat Od.TOD_OUT.start_ms), bytes, !l.good) } }

/-- The message that waits is sent once its start has come; none in Eclipse or while the output is squelched. -/
def Eng.todSend (e : Eng) (x : Ctx) : Eng :=
  match e.outs.tod with
  | none => e
  | some m =>
    if x.lin 0 < m.1 then e
    else
      let e := { e with outs := { e.outs with tod := none } }
      if e.ppsSquelched (e.outNat Od.TOD_OUT.ppsout) then e
      else
        let e := (e.inc32 Od.TOD_OUT_STATUS.sent).emit (.tod m.2.1)
        if m.2.2 then (e.inc32 Od.TOD_OUT_STATUS.invalid).orb Od.OUT_STATUS.sticky 32 else e

/-! ## Launching an edge (R301, R302) -/

/-- The comparator's finding for an edge that was launched, `error` in 2^-16 ns (R302): 50 ps twice in a row or 1 ns once
squelches the output. -/
def Eng.edgeEcho (e : Eng) (x : Ctx) (n : Nat) (error : Int) : Eng :=
  let e := (e.inc32 (Od.PPSOUT.edges n)).set (Od.PPSOUT.echo_last n) error
  let beyond := 65536 < error.natAbs * 20
  let bad := if beyond then (e.pps n).bad + 1 else 0
  let e := if beyond then e.orb Od.OUT_STATUS.sticky 2 else e
  let e := e.modPps n (fun u => { u with bad := bad })
  if (2 ≤ bad ∨ 65536 < error.natAbs) ∧ !(e.pps n).tripped then
    ((e.modPps n (fun u => { u with tripped := true })).orb Od.OUT_STATUS.sticky 4).detect x 13 1 n
  else e

/-- Launch the first pending edge of output `n`, when its tick has come: skipped when it falls less than 4 ticks after the
previous edge or would drive the level already held (R301). -/
def Eng.launchEdge (e : Eng) (x : Ctx) (n : Nat) (error : Int) : Eng :=
  match (e.pps n).edges with
  | [] => e
  | (v, rising) :: rest =>
    let p := e.placeAt (e.launchOf x n v)
    if x.tick < p.1 then e
    else
      let e := e.modPps n (fun u => { u with edges := rest })
      let u := e.pps n
      let close := match u.lastTick with | some t => decide (p.1 < t + 4) | none => false
      if close || u.level == rising then (e.inc32 (Od.PPSOUT.skipped n)).orb Od.OUT_STATUS.sticky 1
      else
        let e := (e.modPps n (fun u => { u with level := rising, lastTick := some p.1 })).emit (.pulse n p.1 p.2 rising)
        let e := e.edgeEcho x n error
        if rising then e.todMark n v else e

/-! ## The boundary -/

/-- The objects of area 18 that a store lists. -/
def outArea (s : Store) : Store := s.filter (fun p => p.1 / 65536 == 0x18)

/-- The writes of a synthesizer and its dividers take effect (R297): the outputs they touch are held for a restart. -/
def Eng.synthTake (e : Eng) (old : Store) (y : Nat) : Eng :=
  let changed (k : Key) : Bool := sget old k != e.outCfg k
  if changed (Od.SYNTH.enable y) || changed (Od.SYNTH.vco_hz y) then e.synthHold y
  else (List.range 3).foldl (fun e i =>
    let o := 3 * y + i
    if changed (Od.CLKOUT.divider o) || (changed (Od.CLKOUT.align o) && e.outCfg (Od.CLKOUT.align o) == 1)
    then e.clkHold o else e) e

/-- The aligned outputs are held after a step or set of moon 0 and restart at the first moon 0 second at least 1 ms later
(R299). -/
def Eng.realign (e : Eng) (x : Ctx) : Eng :=
  (List.range 12).foldl (fun e o =>
    if e.outCfg (Od.CLKOUT.align o) = 1 ∧ e.outCfg (Od.CLKOUT.enable o) = 1 then
      (e.modClk o (fun c => { c with startAt := some (secondAfter (x.lin 0 + ns16 1000000)) })).orb Od.OUT_STATUS.sticky 16
    else e) e

/-- The device entry of output `n` (R300): a periodic PULSE at the next count m × period + phase of its moon; EMPTY while the
output is disabled. -/
def Eng.ppsRebuild (e : Eng) (x : Ctx) (n : Nat) : Eng :=
  let i := 0x3C0 + n
  let k := e.outNat (Od.PPSOUT.moon n)
  let period := e.outNat (Od.PPSOUT.period n)
  let phase := e.outNat (Od.PPSOUT.phase n)
  let e := { e with sched := tdel e.sched i }
  let e := e.modPps n (fun u => { u with rebuild := false })
  if e.outCfg (Od.PPSOUT.enable n) = 0 then e
  else
    let m := ((x.lin k : Int) - phase).fdiv period + 1
    e.armEntry x i { SchedEntry.empty with
      target := unsigned 64 (m * period + phase), moon := k, action := 1, arg := 2 ^ n, period := period, flags := 3,
      roles := 2, state := .armed }

/-- The output engine at a boundary: writes take effect (R306), `stepped` says whether moon 0 stepped or was set, `sets` which
moons were set. -/
def Eng.outBoundary (e : Eng) (x : Ctx) (stepped : Bool) (sets : Nat → Bool) : Eng :=
  let old := e.outs.cfg
  let e := { e with outs := { e.outs with cfg := outArea e.od } }
  let e := (List.range 4).foldl (fun e y => e.synthTake old y) e
  let e := if stepped then e.realign x else e
  let e := (List.range 4).foldl (fun e n =>
    let e := if e.outCfg (Od.PPSOUT.enable n) = 0 then e.modPps n (fun u => { u with tripped := false, bad := 0 }) else e
    if (e.pps n).rebuild || sets (e.outNat (Od.PPSOUT.moon n)) then e.ppsRebuild x n else e) e
  { e with pins := { e.pins with timeOk := bitOf (e.moon 0).cur.flags 11 && !e.flt.eclipse } }

/-- Entry to Eclipse (R303, R304): TIME_OK and every pulse output go low in that tick. -/
def Eng.outEclipse (e : Eng) : Eng :=
  { e with
    pins := { e.pins with timeOk := false },
    outs := { e.outs with tod := none, pps := e.outs.pps.map (fun u => { u with edges := [], level := false }) } }

/-! ## Writes of area 18 -/

/-- The checks of R296 and R299 on clock output `o` and its synthesizer. -/
def Eng.clkOk (e : Eng) (o : Nat) : Bool :=
  let vco := e.n (Od.SYNTH.vco_hz (o / 3))
  let d := e.n (Od.CLKOUT.divider o)
  d ≤ vco && (e.n (Od.CLKOUT.format o) != 3 || vco ≤ 250000000 * d) && (!e.b (Od.CLKOUT.align o) || vco % d == 0)

/-- A write of SYNTH or CLKOUT members of synthesizer `y`. -/
def synthWrite (y : Nat) (vs : List (Key × Int)) (e : Eng) : WriteRes :=
  let f := e.setAll vs
  let ok := (List.range 3).all (fun i =>
    let o := 3 * y + i
    !names vs [Od.SYNTH.vco_hz y, Od.CLKOUT.divider o, Od.CLKOUT.format o, Od.CLKOUT.align o] || f.clkOk o)
  if ok then (stOk, f) else (stRange, e)

/-- A write of PPSOUT members (R300): phase below period, width between 100 ns and period − 100 ns. -/
def ppsoutWrite (n : Nat) (vs : List (Key × Int)) (e : Eng) : WriteRes :=
  let f := e.setAll vs
  let period := f.i (Od.PPSOUT.period n)
  let phase := f.i (Od.PPSOUT.phase n)
  let width := f.i (Od.PPSOUT.width n)
  let bad := (names vs [Od.PPSOUT.phase n, Od.PPSOUT.period n] && !(0 ≤ phase && phase < period)) ||
    (names vs [Od.PPSOUT.width n, Od.PPSOUT.period n] && !(6553600 ≤ width && width ≤ period - 6553600))
  if bad then (stRange, e) else (stOk, f.modPps n (fun u => { u with rebuild := true }))

/-- The characters of the longest message. -/
def todChars : Nat := 42

/-- A write of TOD_OUT members (R305): the message ends within 900 ms of the edge. -/
def todOutWrite (vs : List (Key × Int)) (e : Eng) : WriteRes :=
  let f := e.setAll vs
  let baud := f.n Od.TOD_OUT.baud
  if names vs [Od.TOD_OUT.start_ms, Od.TOD_OUT.baud] && 900 * baud < f.n Od.TOD_OUT.start_ms * baud + todChars * 10000
  then (stRange, e) else (stOk, f)

/-! ## The commands -/

/-- SYNTH_LOCK (R297). -/
def execSynthLock (synth : Fin 4) (s : State) : Host.Outcome State Fault Refusal :=
  lift (fun x e => e.synthLock x synth) s

/-- SYNTH_UNLOCK (R306). -/
def execSynthUnlock (synth : Fin 4) (s : State) : Host.Outcome State Fault Refusal :=
  lift (fun x e => e.synthUnlock x synth) s

/-- PPSOUT_EDGE (R301, R302): the next edge of an output is launched, with the comparator's error. -/
def execPpsoutEdge (output : Fin 4) (error : Int) (s : State) : Host.Outcome State Fault Refusal :=
  lift (fun x e => e.launchEdge x output error) s

/-- TOD_OUT_MESSAGE (R305). -/
def execTodOutMessage (s : State) : Host.Outcome State Fault Refusal := lift (fun x e => e.todSend x) s

/-- PPSOUT_CONFIG_WRITE (R300). -/
def execPpsoutConfigWrite (output : Fin 4) (w : RecWrite) (roles : Nat) (s : State) : Host.Outcome State Fault Refusal :=
  lift (fun x e => e.recCmd x 0x18 (0x40 + output) w roles (ppsoutWrite output)) s

end Sys2Proof.Machine
end

