-- ==== Sys2Proof/Machine/Live.lean ====
section
/-! DEFINITION. What an object reads as (spec/17_dictionary.md R352): the value the store holds, or for an object that shows an
engine's state the value computed from it at the snapshot tick (R28). -/

namespace Sys2Proof.Machine

/-- The firmware version of an image. -/
def Image.fwVersion (i : Image) : Nat := if i.data.isEmpty then 0 else Config.imageField i.data 1 % 2 ^ 32

/-- The security version of an image. -/
def Image.secVersion (i : Image) : Nat := if i.data.isEmpty then 0 else Config.imageField i.data 2 % 2 ^ 8

/-- The image the device runs, when it runs one. -/
def Eng.image (e : Eng) : Image := if e.boot.fw then nth e.flash.images e.boot.slot Image.none else Image.none

/-- Identity and description (Table 17-5). -/
def Eng.liveId (e : Eng) (x : Ctx) (k : Key) : Int :=
  let v := e.image.fwVersion
  if k = Od.ID.ordering_code then (leNat (strBytes (if x.fuses.gradeS then "IDY-7840-S" else "IDY-7840-E")) : Nat)
  else if k = Od.ID.serial then x.fuses.serial
  else if k = Od.ID.eui64 then leNat (beBytes 8 x.fuses.eui64)
  else if k = Od.ID.base_mac then leNat (beBytes 6 x.fuses.baseMac)
  else if k = Od.ID.fw_version then v
  else if k = Od.DESC.version then Config.descVersion v
  else if k = Od.DESC.digest then (Config.descDigest v % 2 ^ 256 : Nat)
  else if k = Od.DESC.size then Config.descSize v
  else if k = Od.DESC.chunk then (Config.descChunk v (e.n Od.DESC.chunk_index) % 2 ^ 8192 : Nat)
  else e.i k

/-- Member `m` of an epoch record (Table 2-5). -/
def EpochRec.member (r : EpochRec) (m : Nat) : Int :=
  match m with
  | 1 => r.boundary
  | 2 => r.count
  | 3 => r.inc
  | 4 => r.state.code
  | 5 => r.flags
  | 6 => r.li
  | 7 => r.stratum
  | 8 => r.taiUtc
  | 9 => r.leapInstant
  | 10 => r.leapDelta
  | 11 => r.errorBound
  | 12 => r.rootDispersion
  | 13 => r.refid
  | 14 => r.stepCount
  | _ => r.lastStep

/-- Member `m` of MOON_NOW (Table 2-7): moon `n` at the snapshot tick. -/
def Eng.moonNow (e : Eng) (x : Ctx) (n m : Nat) : Int :=
  let c : Int := x.lin n
  match m with
  | 1 => x.tick
  | 2 => wtOf c
  | 3 => wtOf (e.label n c)
  | 4 => x.st n
  | 5 => (ntpOf (e.label n c)).2
  | 6 => (ntpOf (e.label n c)).1 % 2 ^ 32
  | _ => boolNat (e.n (Od.MOON_CONFIG.scale n) = 1 && inLeapAt e.leaps c)

/-- Moons (Table 2-7): item 0x100 + 16 × moon + offset. -/
def Eng.liveMoon (e : Eng) (x : Ctx) (k : Key) : Int :=
  if k.item < 0x100 then e.i k
  else
    let n := (k.item - 0x100) / 16
    match k.item % 16 with
    | 2 => x.inc n
    | 6 => (e.moon n).cur.member k.member
    | 7 => (e.moon n).next.member k.member
    | 9 => e.moonNow x n k.member
    | _ => e.i k

/-- An entry state's code (Table 3-1). -/
def EntryState.code : EntryState → Nat
  | .empty => 0
  | .armed => 1
  | .queued => 2
  | .done => 3
  | .void => 4

/-- Member `m` of a schedule entry (Table 3-1). -/
def SchedEntry.member (s : SchedEntry) (m : Nat) : Int :=
  match m with
  | 1 => s.target
  | 2 => s.moon
  | 3 => s.action
  | 4 => s.arg
  | 5 => s.period
  | 6 => s.repeat_
  | 7 => s.state.code
  | 8 => s.flags
  | 9 => s.fireTick
  | 10 => s.fireCount
  | 11 => s.roles
  | _ => s.result

/-- Outputs (Table 14-2). -/
def Eng.liveOut (e : Eng) (x : Ctx) (k : Key) : Int :=
  let i := k.item
  if k = Od.OUT_STATUS.time_ok then boolNat e.pins.timeOk
  else if 0x010 ≤ i ∧ i < 0x014 ∧ k.member = 4 then e.synthRatio x (i - 0x010)
  else if 0x020 ≤ i ∧ i < 0x02C ∧ k.member = 6 then boolNat (e.clkSquelched x (i - 0x020))
  else if 0x040 ≤ i ∧ i < 0x044 ∧ k.member = 7 then x.fuses.pulseCal
  else if 0x040 ≤ i ∧ i < 0x044 ∧ k.member = 12 then boolNat (e.ppsSquelched (i - 0x040))
  else e.i k

/-- A MAC or clock identity that has not been written is the device's own (Tables 4-6, 9-4). -/
def Eng.liveIdentity (e : Eng) (x : Ctx) (k : Key) : Int :=
  if 0 ≤ e.i k then e.i k
  else if k = Od.PTP_GLOBAL.clock_identity then leNat (beBytes 8 x.fuses.eui64)
  else if k.area = 0x30 ∧ k.member = 11 then leNat (beBytes 6 (e.portMac x ((k.item - 0x100) / 16)))
  else e.i k

/-- Steering: error_bound of the moon's current record (Table 13-9). -/
def Eng.liveSteer (e : Eng) (k : Key) : Int :=
  if 0x140 ≤ k.item ∧ k.item < 0x160 ∧ k.member = 5 then (e.moon (k.item - 0x140)).cur.errorBound else e.i k

/-- A store's copies that are good, bit 0 for the first. -/
def copyMask (bad : List Bool) : Nat := boolNat (!nth bad 0 true) + 2 * boolNat (!nth bad 1 true)

/-- Departure (Table 7-3). -/
def Eng.liveDep (e : Eng) (k : Key) : Int :=
  let p := k.item - 0x140
  if k = Od.DEP_GLOBAL.cells_used then ((e.cals.map (fun c => c.resv.length)).foldl (· + ·) 0 : Nat)
  else if 0x140 ≤ k.item ∧ k.member = 4 then (e.cal p).resv.length
  else if 0x140 ≤ k.item ∧ k.member = 6 then
    (if e.n (Od.DEP_LIVE.cells_total p) = 0 then 0 else Config.gridMaxStep (e.n (Od.LANE_GROUP.mode (p / 4))))
  else e.i k

/-- Public-key engine (Tables 15-5, 15-6). -/
def Eng.livePk (e : Eng) (k : Key) : Int :=
  let i := k.item
  if 0x010 ≤ i ∧ i < 0x014 ∧ k.member = 2 then (nth e.pk.queues (i - 0x010) []).length
  else if i = 0x021 then
    match e.pk.done with
    | [] => 0
    | d :: _ => (match k.member with
      | 1 => d.tag
      | 2 => d.op
      | 3 => d.status
      | 4 => d.cycles
      | 5 => d.submitTick
      | _ => d.doneTick : Nat)
  else if k = Od.PK_HOST_CTRL.done_count then e.pk.done.length
  else if 0x400 ≤ i ∧ i < 0x800 ∧ k.member = 4 then boolNat (e.pkInUse (i - 0x400))
  else if 0x800 ≤ i then e.pkVal (i - 0x800)
  else e.i k

/-- Host interface (Table 16-15). -/
def Eng.liveHost (e : Eng) (k : Key) : Int :=
  let i := k.item
  if k = Od.HOST_IRQ_PENDING then e.irqWord
  else if 0x300 ≤ i ∧ i < 0x380 ∧ k.member = 5 then boolNat (e.fwRing (i - 0x300))
  else if 0x500 ≤ i ∧ i < 0x520 then
    let q := nth e.tails (i - 0x500) Tail.atReset
    (match k.member with
      | 1 => q.entries.length
      | 2 => q.lost
      | _ => q.made : Nat)
  else e.i k

/-- Dictionary (Table 17-6). -/
def Eng.liveDict (e : Eng) (x : Ctx) (k : Key) : Int :=
  if k = Od.DICT_STATUS.queue_depth then e.front.queue.length
  else if k = Od.LOG.count then (Config.logCount x.tick % 2 ^ 64 : Nat)
  else if k = Od.LOG.lost then (Config.logLost x.tick % 2 ^ 64 : Nat)
  else if k = Od.LOG.entry then (Config.logEntry x.tick (e.n Od.LOG.index) % 2 ^ 512 : Nat)
  else if k = Od.STORE.copies_valid then
    copyMask (e.flash.stores.map (fun c => !c.valid))
  else e.i k

/-- Counters (Table 19-5). -/
def Eng.liveCnt (e : Eng) (x : Ctx) (k : Key) : Int :=
  let i := k.item
  if 0x100 ≤ i ∧ i < 0x140 ∧ k.member = 2 then e.activeEvent (i - 0x100)
  else if 0x100 ≤ i ∧ i < 0x140 ∧ k.member = 3 then (e.winCtr (i - 0x100)).value x.tick
  else if 0x400 ≤ i then (tgetD e.ctr.ev (i - 0x400) Counter.zero).value x.tick
  else e.i k

/-- 500 ppm as a fraction in 2^-96. -/
def osc500 : Fx := fxOf 500 1000000

/-- The station oscillator's measured offset exceeds 500 ppm (R438). -/
def Eng.oscOut (e : Eng) : Bool :=
  if e.moonState 0 == .locked then decide (osc500 < ((e.unit 0).out.natAbs : Int))
  else if e.modelValid then decide (osc500 < (e.model.y.natAbs : Int))
  else decide (500000 < e.mon.ringPpb.natAbs)

/-- FLT_GLOBAL.conditions: the conditions of R415 that are not met (R416). -/
def Eng.conditions (e : Eng) : Nat :=
  boolNat e.mon.supplyLow + 2 * boolNat e.mon.tempOut + 4 * boolNat (!e.b Od.FLT_GLOBAL.scrub_enable) +
    8 * boolNat (!e.b Od.FLT_GLOBAL.selfcheck_enable) + 16 * boolNat e.oscOut + 32 * boolNat (!e.fwRuns)

/-- Faults (Table 20-8). -/
def Eng.liveFlt (e : Eng) (x : Ctx) (k : Key) : Int :=
  if k = Od.FLT_GLOBAL.eclipse then boolNat e.flt.eclipse
  else if k = Od.FLT_GLOBAL.conditions then e.conditions
  else if k = Od.FLT_TEST.remaining_s then
    (match e.flt.testEnd with
      | some t => if e.testOpen x then ceilDiv (stDiff t (x.st 0)).toNat unitsPerSec else 0
      | none => 0 : Nat)
  else if 0x100 ≤ k.item ∧ k.item < 0x118 ∧ k.member = 1 then e.fltCurrent x (k.item - 0x100)
  else e.i k

/-- FUSE.ceilings (R432): five U32, the last two U16 of the voltage window. -/
def Fuses.ceilings (f : Fuses) : Nat :=
  leNat (leBytes 4 (f.ceilStep / 65536000) ++ leBytes 4 (roundDiv ((f.ceilFreq * 1000000000 : Nat) : Int) (2 ^ 48)).toNat ++
    leBytes 4 (roundDiv ((f.ceilRate * 1000000000 : Nat) : Int) (2 ^ 48)).toNat ++ leBytes 4 f.ceilFrames ++ leBytes 2 f.vMin ++
    leBytes 2 f.vMax)

/-- The shutdown threshold of the part's code in 1/128 °C (Table 21-2). -/
def Ctx.shutdownC (x : Ctx) : Int := if x.fuses.gradeS then 115 * 128 else 135 * 128

/-- Member `m` of a dump slot (Table 21-8). -/
def DumpSlot.member (d : DumpSlot) (m : Nat) : Nat :=
  match m with
  | 1 => d.state
  | 2 => d.sequence
  | 3 => d.trigger
  | 4 => d.bytes.length
  | _ => d.captureTick

/-- Boot, power and dump (Table 21-8). -/
def Eng.liveBoot (e : Eng) (x : Ctx) (k : Key) : Int :=
  if k = Od.FUSE.key_hash then x.fuses.keyHash
  else if k = Od.FUSE.rollback then x.fuses.rollback
  else if k = Od.FUSE.ceilings then x.fuses.ceilings
  else if k = Od.THERM_CFG.shutdown_c then x.shutdownC
  else if k = Od.DUMP_READ.chunk then
    (leNat (((nth e.flash.dumps (e.n Od.DUMP_READ.slot) DumpSlot.erased).bytes.drop (1024 * e.n Od.DUMP_READ.chunk_index)).take 1024) : Nat)
  else if 0x030 ≤ k.item ∧ k.item < 0x032 then (nth e.flash.dumps (k.item - 0x030) DumpSlot.erased).member k.member
  else e.i k

/-- The value of an object at the snapshot tick; a WO object reads zero (R15, R28), and so do the FW objects but DUMP_READ in
RECOVERY (R352). -/
def Eng.val (e : Eng) (x : Ctx) (r : ObjRow) (k : Key) : Int :=
  if r.access = .wo || (r.fw && e.boot.recovery && k.area != 0x78) then 0
  else
    match k.area with
    | 0x00 => e.liveId x k
    | 0x10 => e.liveMoon x k
    | 0x14 => if 0x400 ≤ k.item then (e.entry (k.item - 0x400)).member k.member else e.i k
    | 0x18 => e.liveOut x k
    | 0x2C => e.liveSteer k
    | 0x30 => e.liveIdentity x k
    | 0x4C => e.liveIdentity x k
    | 0x38 => if k = Od.CAL_STORE.copies_valid then copyMask e.flash.calBad else e.i k
    | 0x44 => e.liveDep k
    | 0x48 => if k = Od.NTS_KE_STATUS.sessions then e.nts.sessions.length else e.i k
    | 0x50 => e.livePk k
    | 0x58 => e.liveHost k
    | 0x60 => e.liveDict x k
    | 0x68 => e.liveCnt x k
    | 0x70 => e.liveFlt x k
    | 0x78 => e.liveBoot x k
    | _ => e.i k

/-- Why an object cannot be read although its role and access allow it: an operand slot outside the host's region is DENIED, one
with an uncorrectable word ECC (R322, R323). -/
def Eng.unreadable (e : Eng) (k : Key) : Nat :=
  if k.area = 0x50 ∧ 0x800 ≤ k.item then
    let s := k.item - 0x800
    if !((pkRegion s).2.2 == 1) then stDenied
    else if e.pk.bad.any (fun w => e.pkBase s ≤ w && w < e.pkBase s + e.pkLen s) then stEcc else stOk
  else stOk

end Sys2Proof.Machine
end

