-- ==== Sys2Proof/Machine/FaultOps.lean ====
section
/-! DEFINITION. The objects of area 70 (spec/20_faults_eclipse.md): forcing, rearming, clearing and masking a fault block, the test window,
the linger, scrubbing's and self-check's settings, and the self-check. -/

namespace Sys2Proof.Machine

/-! ## Fault blocks (R399 to R405) -/

/-- A write of force (R404): class 0 or no source is RANGE; CORRECTED and CONTAINED need the test window; then each source named has a
FORCED detection of the class, without the class action of any row. -/
def forceWrite (x : Ctx) (b : Nat) (v : Int) (e : Eng) : WriteRes :=
  let cls := v.toNat / 16 % 4
  let src := v.toNat % 16
  if cls = 0 ∨ src = 0 then (stRange, e)
  else if cls ≠ 3 ∧ !e.testOpen x then (stMode, e)
  else (stOk, (List.range 4).foldl (fun e s => if bitOf src s then e.raise x ⟨b, s, cls, 0xFF00, false, true⟩ else e) e)

/-- The members of a block's first-fault record. -/
def firstKeys (b : Nat) : List Key := (List.range 11).map (fun i => odKey 0x70 (0x140 + b) (i + 1))

/-- A write of rearm (R402): 1 empties the record, and the detections of this tick fill the emptied record; 0 has no effect. -/
def rearmWrite (x : Ctx) (b : Nat) (v : Int) (e : Eng) : WriteRes :=
  if v = 1 then
    let e := (firstKeys b).foldl (fun e k => e.set k 0) e
    (stOk, ((e.recent x).filter (fun d => d.block == b)).foldl (fun e d => e.recordFirst x d) e)
  else (stOk, e)

/-- A write of 1s to latch clears those bits, but for the sources detected in this tick (R400). -/
def latchClear (x : Ctx) (b : Nat) (v : Int) (e : Eng) : WriteRes :=
  let now := (e.recent x).foldl (fun m d => if d.block = b then m ||| 2 ^ d.src else m) 0
  (stOk, e.andc (Od.FLT_BLOCK.latch b) (clearBits v.toNat now))

/-- A write of mask: a latched source no longer masked is pending (R401). -/
def maskWrite (x : Ctx) (b : Nat) (v : Int) (e : Eng) : WriteRes :=
  let e := e.set (Od.FLT_BLOCK.mask b) v
  (stOk, (List.range 4).foldl (fun e s =>
    if bitOf (e.n (Od.FLT_BLOCK.latch b)) s && !bitOf v.toNat s then e.irqPoke x (4 * b + s) else e) e)

/-! ## The test window (R405) -/

/-- A write of FLT_TEST.open_s opens or restarts the window. -/
def testOpenWrite (x : Ctx) (v : Int) (e : Eng) : WriteRes :=
  (stOk, { e with flt := { e.flt with testEnd := some ((x.st 0 + v.toNat * unitsPerSec) % 2 ^ 64) } }.orb Od.FLT_GLOBAL.sticky 4)

/-- A write of 1 to FLT_TEST.close closes it. -/
def testCloseWrite (v : Int) (e : Eng) : WriteRes :=
  (stOk, if v = 1 then { e with flt := { e.flt with testEnd := none } } else e)

/-- The window's seconds have run out. -/
def Eng.testOver (e : Eng) (x : Ctx) : Bool := e.flt.testEnd.isSome && !e.testOpen x

/-! ## FLT_GLOBAL (R407, R412) -/

/-- A write of linger_s: while auto_reset_s is not 0, at most auto_reset_s − 4 (R412). -/
def lingerWrite (v : Int) (e : Eng) : WriteRes :=
  let auto := e.n Od.RESET_CTRL.auto_reset_s
  if auto ≠ 0 ∧ auto < v.toNat + 4 then (stRange, e) else (stOk, e.set Od.FLT_GLOBAL.linger_s v)

/-- A scrub cycle that begins now. -/
def ScrubCycle.begun (x : Ctx) : ScrubCycle := ⟨x.tick, x.st 0, 0, false⟩

/-- Every memory's scrub cycle begins (R407). -/
def Eng.scrubStart (e : Eng) (x : Ctx) : Eng :=
  { e with flt := { e.flt with scrubs := (List.range 12).map (fun m => (m, ScrubCycle.begun x)) } }

/-- A write of scrub_enable: scrubbing stops, or its cycles begin. -/
def scrubEnableWrite (x : Ctx) (v : Int) (e : Eng) : WriteRes :=
  let was := e.b Od.FLT_GLOBAL.scrub_enable
  let e := e.set Od.FLT_GLOBAL.scrub_enable v
  (stOk, if v = 0 then { e with flt := { e.flt with scrubs := [] } } else if was then e else e.scrubStart x)

/-! ## Self-check (R406) -/

/-- The lowest of a checker's cause rows. -/
def lowestRow (rows : List Nat) : Nat := rows.foldl min 255

/-- A checker's wrong or missing response: row 0xF0 of its block with the lowest cause row it serves, FATAL when one of its conditions
is FATAL (R398, R406). -/
def Eng.checkerFail (e : Eng) (x : Ctx) (f : CheckerFail) : Eng :=
  let rows := f.rows.filter (fun r => faultRows.any (fun q => q.block == f.block.val && q.row == r))
  if rows.isEmpty then e
  else
    let low := lowestRow rows
    let cls := if rows.any (fun r => (faultRow f.block r).cls == 3) then 3 else 2
    e.raise x ⟨f.block, (faultRow f.block low).src, cls, 0xF000 + low, false, false⟩

/-- A self-check pass: correct responses leave no trace. -/
def Eng.selfcheck (e : Eng) (x : Ctx) (wrong : List CheckerFail) : Eng :=
  if e.b Od.FLT_GLOBAL.selfcheck_enable then wrong.foldl (fun e f => e.checkerFail x f) e else e

/-! ## The commands -/

/-- FAULT_FORCE (R404). -/
def execFaultForce (block : Fin 24) (value roles : Nat) (s : State) : Host.Outcome State Fault Refusal :=
  lift (fun x e => e.writeCmd x (Od.FLT_BLOCK.force block) value roles (forceWrite x block value)) s

/-- FAULT_REARM (R402). -/
def execFaultRearm (block : Fin 24) (value roles : Nat) (s : State) : Host.Outcome State Fault Refusal :=
  lift (fun x e => e.writeCmd x (Od.FLT_BLOCK.rearm block) value roles (rearmWrite x block value)) s

/-- FAULT_LATCH_CLEAR (R400). -/
def execFaultLatchClear (block : Fin 24) (mask roles : Nat) (s : State) : Host.Outcome State Fault Refusal :=
  lift (fun x e => e.writeCmd x (Od.FLT_BLOCK.latch block) mask roles (latchClear x block mask)) s

/-- TEST_WINDOW_OPEN (R405). -/
def execTestWindowOpen (seconds roles : Nat) (s : State) : Host.Outcome State Fault Refusal :=
  lift (fun x e => e.writeCmd x Od.FLT_TEST.open_s seconds roles (testOpenWrite x seconds)) s

/-- TEST_WINDOW_CLOSE (R405). -/
def execTestWindowClose (value roles : Nat) (s : State) : Host.Outcome State Fault Refusal :=
  lift (fun x e => e.writeCmd x Od.FLT_TEST.close value roles (testCloseWrite value)) s

/-- TEST_WINDOW_EXPIRY (R405). -/
def execTestWindowExpiry (s : State) : Host.Outcome State Fault Refusal :=
  lift (fun x e => whenDue (e.testOver x) (fun e => { e with flt := { e.flt with testEnd := none } }) e) s

/-- SELFCHECK_PASS (R406). -/
def execSelfcheckPass (wrong : List CheckerFail) (s : State) : Host.Outcome State Fault Refusal :=
  lift (fun x e => e.selfcheck x wrong) s

end Sys2Proof.Machine
end

