-- ==== Sys2Proof/Machine/BootOps.lean ====
section
/-! DEFINITION. The writes of area 78 (spec/21_boot_power_dump.md): the reset command, the automatic reset, the image slots and the checks of
R425, the rollback bits, the power flags, the thermal warning, and the fatal dump's objects. -/

namespace Sys2Proof.Machine

/-! ## Resets (R422) -/

/-- A write of RESET_CTRL.command: WARM. The reset falls at the end of the command. -/
def resetWrite (e : Eng) : WriteRes := (stOk, { e with boot := { e.boot with warmAsked := true } })

/-- A write of auto_reset_s: 0, or 10 to 3,600 and at least the linger plus 4 s (R422). -/
def autoResetWrite (v : Int) (e : Eng) : WriteRes :=
  if v = 0 ∨ (10 ≤ v ∧ v ≤ 3600 ∧ e.i Od.FLT_GLOBAL.linger_s + 4 ≤ v) then (stOk, e.set Od.RESET_CTRL.auto_reset_s v) else (stRange, e)

/-! ## Images (R425, R427) -/

/-- An image's public key as its 97 bytes, uncompressed. -/
def Image.pubKey (i : Image) : Bytes := byte 4 :: beBytes 96 (Config.imageField i.data 3)

/-- An image's signature verifies over its SHA-256 hash (R425 check 2). -/
def Image.signed (i : Image) : Bool :=
  let q := Config.imageField i.data 3 % 2 ^ 768
  curveP384.verify (q / 2 ^ 384) (q % 2 ^ 384) (beNat (sha256 (i.data.take (Config.imageField i.data 6))))
    (Config.imageField i.data 4 % 2 ^ 384) (Config.imageField i.data 5 % 2 ^ 384)

/-- The checks of R425 in order, as BOOT_STATUS.refused has them: 1 passed, 2 KEY_HASH, 3 SIGNATURE, 4 ROLLBACK, 5 FLASH. An erased slot
holds no key. -/
def Image.check (x : Ctx) (i : Image) : Nat :=
  if !i.readable then 5
  else if i.data.isEmpty || leNat (sha256 i.pubKey) != x.fuses.keyHash then 2
  else if !i.signed then 3
  else if i.secVersion < x.fuses.rollback then 4
  else 1

/-- The image of slot `s`. -/
def Eng.slotImage (e : Eng) (s : Nat) : Image := nth e.flash.images s Image.none

/-- Slot `s` is the one that runs. -/
def Eng.slotRuns (e : Eng) (s : Nat) : Bool := e.boot.fw && e.boot.slot == s

/-- The size of FW_IMAGE.data. -/
def imageSize : Nat := 33554432

/-- The bytes of an image slot of the flash that is fitted: at most 32 MiB, and half of what it has beyond 16 MiB (R445). -/
def slotBytes : Nat := min 32 ((64 * 2 ^ Config.flashKind.val - 16) / 2) * 2 ^ 20

/-- A part's limits (R374): at most 1,024 bytes, and within the value. -/
def partOk (size offset len : Nat) : Bool := len ≤ 1024 && offset + len ≤ size

/-- The staging that a part at an offset continues: one begun at offset 0 that has come so far, with its last part accepted no more
than 10 s before this one arrived. -/
def Eng.stagingFor (e : Eng) (k : Key) (offset arrived : Nat) : Option Staging :=
  if offset = 0 then some ⟨0, [], arrived⟩
  else
    match tget e.front.stages k with
    | some g => if g.next = offset ∧ stDiff arrived g.at_ ≤ tenSeconds then some g else none
    | none => none

/-- Drop a staging. -/
def Eng.stageDrop (e : Eng) (k : Key) : Eng := { e with front := { e.front with stages := tdel e.front.stages k } }

/-- A part of `len` bytes of a value of `size` that arrived at a short time, with the bytes to keep of it: out of order it is RANGE and the staging is dropped; else `take`
accepts the part, and the part that reaches the end applies the whole value through `whole` (R374). -/
def stagePart (x : Ctx) (k : Key) (size offset len : Nat) (bytes : Bytes) (arrived : Nat) (take : Eng → WriteRes)
    (whole : Bytes → Eng → WriteRes) (e : Eng) : WriteRes :=
  match e.stagingFor k offset arrived with
  | none => (stRange, e.stageDrop k)
  | some g =>
    let w := take e
    let all := g.bytes ++ bytes
    if w.1 ≠ stOk then (w.1, w.2.stageDrop k)
    else if offset + len = size then whole all (w.2.stageDrop k)
    else (stOk, { w.2 with front := { w.2.front with stages := tput w.2.front.stages k ⟨offset + len, all, x.st 0⟩ } })

/-- A part of FW_IMAGE.data goes into the selected slot (R427); a part at offset 0 begins the image anew. -/
def fwPart (offset : Nat) (bytes : Bytes) (e : Eng) : WriteRes :=
  let s := e.n Od.FW_IMAGE.slot
  if e.slotRuns s then (stInUse, e)
  else
    let old := (e.slotImage s).data
    let i : Image := ⟨true, if offset = 0 then bytes else padTo offset (old.take offset) ++ bytes⟩
    (stOk, { e with flash := { e.flash with images := setNth e.flash.images s i } })

/-- A part of FW_IMAGE.data, in order (R374, R427). -/
def fwStage (x : Ctx) (offset : Nat) (bytes : Bytes) (arrived : Nat) (e : Eng) : WriteRes :=
  stagePart x Od.FW_IMAGE.data imageSize offset bytes.length [] arrived (fwPart offset bytes) (fun _ e => (stOk, e)) e

/-- A write of 1 to FW_IMAGE.commit: IN_USE for the running slot, RANGE for an image longer than its slot or when a check fails, else the
slot is preferred (R427, R445). -/
def fwCommit (x : Ctx) (v : Int) (e : Eng) : WriteRes :=
  let s := e.n Od.FW_IMAGE.slot
  if v = 0 then (stOk, e)
  else if e.slotRuns s then (stInUse, e)
  else if slotBytes < Config.imageField (e.slotImage s).data 7 ∨ (e.slotImage s).check x ≠ 1 then (stRange, e)
  else (stOk, { e with flash := { e.flash with preferred := s } })

/-- A write of 1 to FUSE.advance_rollback: RANGE when the other slot's image would stop booting, else the bits up to the running image's
security version are blown at the end of the command (R427). -/
def rollbackWrite (x : Ctx) (v : Int) (e : Eng) : WriteRes :=
  let o := e.slotImage (1 - e.boot.slot)
  let v' := max x.fuses.rollback (min 64 e.image.secVersion)
  if v = 0 then (stOk, e)
  else if !o.data.isEmpty && o.secVersion < e.image.secVersion then (stRange, e)
  else (stOk, { e with boot := { e.boot with rollbackTo := some v' } })

/-! ## Power and temperature (R418, R432) -/

/-- A write of PWR_STATUS.sticky: bit 1 clears the peaks, which start again from the temperatures now shown. -/
def pwrStickyClear (v : Int) (e : Eng) : WriteRes :=
  let e := e.andc Od.PWR_STATUS.sticky v.toNat
  (stOk, if bitOf v.toNat 1 then (List.range 16).foldl (fun e i => e.set (Od.THERM.peak i) (e.i (Od.THERM.now i))) e else e)

/-- A write of warn_c: 0 °C up to 5 °C below the shutdown threshold. -/
def warnWrite (x : Ctx) (v : Int) (e : Eng) : WriteRes :=
  if 0 ≤ v ∧ v ≤ x.shutdownC - 5 * 128 then (stOk, e.set Od.THERM_CFG.warn_c v) else (stRange, e)

/-! ## The fatal dump (R429 to R431) -/

/-- A write of 1 to dump_now: firmware, while it runs, is asked for a dump; an Eclipse dump already asked for stands. -/
def dumpNowWrite (v : Int) (e : Eng) : WriteRes :=
  (stOk, if v = 1 && e.fwRuns && e.dump.asked.isNone then { e with dump := { e.dump with asked := some 2 } } else e)

/-- Dump slot `s`. -/
def Eng.dumpSlot (e : Eng) (s : Nat) : DumpSlot := nth e.flash.dumps s DumpSlot.erased

/-- Change dump slot `s`. -/
def Eng.setDump (e : Eng) (s : Nat) (d : DumpSlot) : Eng := { e with flash := { e.flash with dumps := setNth e.flash.dumps s d } }

/-- A write of a slot mask to DUMP_CTRL.clear: BUSY while a dump is being written, else those slots are erased. -/
def dumpClearWrite (v : Int) (e : Eng) : WriteRes :=
  if e.dump.writing.isSome then (stBusy, e)
  else (stOk, (List.range 2).foldl (fun e s => if bitOf v.toNat s then e.setDump s DumpSlot.erased else e) e)

/-- A write of DUMP_READ members: a chunk index at or beyond the selected dump's is RANGE (R431). -/
def dumpReadWrite (vs : List (Key × Int)) (e : Eng) : WriteRes :=
  let f := e.setAll vs
  let len := (f.dumpSlot (f.n Od.DUMP_READ.slot)).bytes.length
  if vs.any (fun p => p.1 == Od.DUMP_READ.chunk_index) && ceilDiv len 1024 ≤ f.n Od.DUMP_READ.chunk_index then (stRange, e) else (stOk, f)

end Sys2Proof.Machine
end

