-- ==== Sys2Proof/Machine/DictOps.lean ====
section
/-! DEFINITION. The writes of areas 00 and 60 (spec/17_dictionary.md): the description's chunk, the configuration store, load shedding's limits,
credentials, and the management segment's settings. -/

namespace Sys2Proof.Machine

/-- A write of DESC.chunk_index: RANGE at or beyond the document's chunks (R360). -/
def descChunkWrite (v : Int) (e : Eng) : WriteRes :=
  if ceilDiv (Config.descSize e.image.fwVersion) 1024 ≤ v.toNat then (stRange, e) else (stOk, e.set Od.DESC.chunk_index v)

/-! ## The configuration store (R357, R359) -/

/-- The persistent values a SAVE takes: those that differ from their defaults, without the members that are RO for an instance. -/
def Eng.persistent (e : Eng) : Store :=
  e.od.filter (fun p => !roInstance p.1 && (match rowOf p.1 with | some r => r.persist == .store | none => false))

/-- SAVE (R357): SAVING while one is in progress; else the snapshot is taken, for the copy not used last. -/
def storeSave (x : Ctx) (e : Eng) : WriteRes :=
  if e.front.save.isSome then (stSaving, e)
  else
    let c := match e.front.lastCopy with | some 0 => 1 | _ => 0
    let g := (nth e.flash.stores (1 - c) ⟨false, 0, []⟩).generation
    let run : SaveRun := ⟨e.persistent, x.tick, c, (g + 1) % 2 ^ 32⟩
    (stOk, { e with front := { e.front with save := some run } }.set Od.STORE.unsaved 0)

/-- FACTORY_DEFAULTS (R359): both copies are marked invalid; the values in force stand. -/
def factoryWrite (e : Eng) : WriteRes :=
  (stOk, { e with flash := { e.flash with stores := e.flash.stores.map (fun c => { c with valid := false }) } })

/-- A write of STORE.command. -/
def storeWrite (x : Ctx) (v : Int) (e : Eng) : WriteRes := if v = 1 then storeSave x e else factoryWrite e

/-! ## Load shedding and the segment (R362) -/

/-- A write of MGMT_LOAD members: shed_exit_pct below shed_enter_pct, and that at most log_delay_pct. -/
def mgmtWrite (vs : List (Key × Int)) (e : Eng) : WriteRes :=
  let f := e.setAll vs
  let bad := (names vs [Od.MGMT_LOAD.shed_exit_pct, Od.MGMT_LOAD.shed_enter_pct] &&
      f.n Od.MGMT_LOAD.shed_enter_pct ≤ f.n Od.MGMT_LOAD.shed_exit_pct) ||
    (names vs [Od.MGMT_LOAD.shed_enter_pct, Od.MGMT_LOAD.log_delay_pct] &&
      f.n Od.MGMT_LOAD.log_delay_pct < f.n Od.MGMT_LOAD.shed_enter_pct)
  if bad then (stRange, e) else (stOk, f)

/-- A write of SEG members: plca_node_id below plca_node_count. -/
def segWrite (vs : List (Key × Int)) (e : Eng) : WriteRes :=
  let f := e.setAll vs
  if names vs [Od.SEG.plca_node_id, Od.SEG.plca_node_count] && f.n Od.SEG.plca_node_count ≤ f.n Od.SEG.plca_node_id
  then (stRange, e) else (stOk, f)

/-! ## Credentials (R348 to R350, R371) -/

/-- Two enabled credentials hold the key identifier of credential `c`. -/
def credClash (s : Store) (c : Nat) : Bool :=
  (List.range 32).any (fun d => d != c && sget s (Od.CRED.enable d) == 1 && sget s (Od.CRED.enable c) == 1
    && sget s (Od.CRED.key_id d) == sget s (Od.CRED.key_id c))

/-- Some enabled credential holds Keyholder. -/
def hasKeyholder (s : Store) : Bool :=
  (List.range 32).any (fun d => sget s (Od.CRED.enable d) == 1 && bitOf (sget s (Od.CRED.roles d)).toNat 3)

/-- The credential objects of a store. -/
def credArea (s : Store) : Store := s.filter (fun p => p.1 / 65536 == 0x60 && 0x10 ≤ p.1 / 16 % 4096 && p.1 / 16 % 4096 < 0x30)

/-- A write of credential `c`: DUPLICATE, NO_KEY, LAST_KEYHOLDER; a new key or key_id sets H to 0 and clears its mark (R371). -/
def credWrite (x : Ctx) (c : Nat) (vs : List (Key × Int)) (e : Eng) : WriteRes :=
  let f := e.setAll vs
  if credClash f.od c then (stDuplicate, e)
  else if f.b (Od.CRED.enable c) && (f.credKey c).isNone then (stNoKey, e)
  else if !hasKeyholder f.od then (stLastKeyholder, e)
  else
    let fresh := f.i (Od.CRED.key c) != e.i (Od.CRED.key c) || f.i (Od.CRED.key_id c) != e.i (Od.CRED.key_id c)
    let old := match e.front.credOld with
      | some p => if p.1 = x.tick then p else (x.tick, credArea e.od)
      | none => (x.tick, credArea e.od)
    let creds := if fresh then modNth e.front.creds c (fun u => { u with h := 0, seen := 0, mark := 0 }) else e.front.creds
    (stOk, { f with front := { f.front with credOld := some old, creds := creds } }.keyTouched x)

/-! ## The commands -/

/-- DESC_CHUNK_SELECT (R360). -/
def execDescChunkSelect (index roles : Nat) (s : State) : Host.Outcome State Fault Refusal :=
  lift (fun x e => e.writeCmd x Od.DESC.chunk_index index roles (descChunkWrite index)) s

/-- SAVE (R357). -/
def execSave (roles : Nat) (s : State) : Host.Outcome State Fault Refusal :=
  lift (fun x e => e.writeCmd x Od.STORE.command 1 roles (storeWrite x 1)) s

/-- FACTORY_DEFAULTS (R359). -/
def execFactoryDefaults (roles : Nat) (s : State) : Host.Outcome State Fault Refusal :=
  lift (fun x e => e.writeCmd x Od.STORE.command 2 roles (storeWrite x 2)) s

/-- CRED_WRITE (R348). -/
def execCredWrite (cred : Fin 32) (w : RecWrite) (roles : Nat) (s : State) : Host.Outcome State Fault Refusal :=
  lift (fun x e => e.recCmd x 0x60 (0x010 + cred) w roles (credWrite x cred)) s

/-- FW_IMAGE_DATA_WRITE (R427): a part of the image at an offset, of at most 1,024 bytes and within its size (R374). -/
def execFwImageDataWrite (offset : Nat) (bytes : Bytes) (roles : Nat) (s : State) : Host.Outcome State Fault Refusal :=
  lift (fun x e => e.writeCmd x Od.FW_IMAGE.data 0 roles (fun e =>
    if partOk imageSize offset bytes.length then fwStage x offset bytes (x.st 0) e else (stRange, e))) s

/-- FW_IMAGE_COMMIT (R427). -/
def execFwImageCommit (value roles : Nat) (s : State) : Host.Outcome State Fault Refusal :=
  lift (fun x e => e.writeCmd x Od.FW_IMAGE.commit value roles (fwCommit x value)) s

/-- DUMP_NOW (R429). -/
def execDumpNow (value roles : Nat) (s : State) : Host.Outcome State Fault Refusal :=
  lift (fun x e => e.writeCmd x Od.DUMP_CTRL.dump_now value roles (dumpNowWrite value)) s

/-- DUMP_CLEAR (R431). -/
def execDumpClear (mask roles : Nat) (s : State) : Host.Outcome State Fault Refusal :=
  lift (fun x e => e.writeCmd x Od.DUMP_CTRL.clear mask roles (dumpClearWrite mask)) s

/-- DUMP_CHUNK_SELECT (R431). -/
def execDumpChunkSelect (index roles : Nat) (s : State) : Host.Outcome State Fault Refusal :=
  lift (fun x e => e.writeCmd x Od.DUMP_READ.chunk_index index roles (dumpReadWrite [(Od.DUMP_READ.chunk_index, (index : Int))])) s

end Sys2Proof.Machine
end

