-- ==== Sys2Proof/Machine/Apply.lean ====
section
/-! DEFINITION. A write by object number (spec/17_dictionary.md R344 step 8, R345): the chapter's own operation for every writable object, as
the write queue, a firing DICT_WRITE, the restore and a write of an object that has no command of its own use it. -/

namespace Sys2Proof.Machine

/-- The value of a write of one member. -/
def soleValue (vs : List (Key × Int)) : Int := match vs with | [p] => p.2 | _ => 0

/-- A write with no operation of its own: a W1C member loses the bits written, a WO member keeps nothing, any other takes the value
(R15). -/
def defaultWrite (k : Key) (v : Int) (e : Eng) : WriteRes :=
  match rowOf k with
  | none => (stNoMember, e)
  | some r => (stOk, match r.access with | .w1c => e.andc k v.toNat | .wo => e | _ => e.set k v)

/-- Writes of several members, each by its own operation: all of them, or none (R345). -/
def memberWise (op : Key → Int → Eng → WriteRes) (vs : List (Key × Int)) (e : Eng) : WriteRes :=
  let w := vs.foldl (fun (w : WriteRes) p => if w.1 ≠ stOk then w else op p.1 p.2 w.2) (stOk, e)
  if w.1 ≠ stOk then (w.1, e) else w

/-- Members without operations of their own. -/
def defaultAll (vs : List (Key × Int)) (e : Eng) : WriteRes := memberWise defaultWrite vs e

/-- Area 00. -/
def applyId (k : Key) (vs : List (Key × Int)) (e : Eng) : WriteRes :=
  if k.item = 0x002 then descChunkWrite (soleValue vs) e else defaultAll vs e

/-- A write of a MOON_CONFIG member: a new scale has new leap points (R74). -/
def moonConfigWrite (x : Ctx) (m : Nat) (k : Key) (v : Int) (e : Eng) : WriteRes :=
  if k = Od.MOON_CONFIG.enable m then moonEnableWrite m v e
  else if k = Od.MOON_CONFIG.jump_limit m then jumpLimitWrite x m v e
  else if k = Od.MOON_CONFIG.scale m then (stOk, (e.set k v).recomputeTracker x m)
  else (stOk, e.set k v)

/-- A write of MOON_SET. -/
def moonSetApply (m : Nat) (vs : List (Key × Int)) (e : Eng) : WriteRes :=
  match vs with
  | [(k, v)] => if k = Od.MOON_SET.armed m then moonSetArmedWrite m v e else moonSetWrite m v 1 e
  | [(_, a), (_, v)] => moonSetWrite m v a e
  | _ => (stWhole, e)

/-- A write of a compare cell's member. -/
def cmpApply (x : Ctx) (m c : Nat) (k : Key) (v : Int) (e : Eng) : WriteRes :=
  if k = cmpTarget m c then cmpTargetWrite x m c v e else (stOk, e.andc k v.toNat)

/-- Area 10. -/
def applyMoon (x : Ctx) (k : Key) (vs : List (Key × Int)) (e : Eng) : WriteRes :=
  let i := k.item
  let m := (i - 0x100) / 16
  if i < 0x010 then leapWrite x none vs e
  else if i < 0x100 then leapWrite x (some (i - 0x010)) vs e
  else
    match i % 16 with
    | 0x0 => memberWise (moonConfigWrite x m) vs e
    | 0x1 => moonIncWrite m (soleValue vs) e
    | 0x3 => moonStepWrite m (soleValue vs) e
    | 0x4 => moonSetApply m vs e
    | 0x5 => moonConsentWrite x m (soleValue vs) e
    | 0xC => memberWise (cmpApply x m 0) vs e
    | 0xD => memberWise (cmpApply x m 1) vs e
    | 0xE => memberWise (cmpApply x m 2) vs e
    | 0xF => memberWise (cmpApply x m 3) vs e
    | _ => defaultAll vs e

/-- Area 14: a schedule entry's members 1 to 6 of a whole write, its state, or one member (R70). -/
def applySched (x : Ctx) (k : Key) (vs : List (Key × Int)) (roles : Nat) (e : Eng) : WriteRes :=
  if k.item < 0x400 then defaultAll vs e
  else
    let i := k.item - 0x400
    match vs with
    | [(m, v)] => if m.member = 7 then schedEmptyWrite i v e else schedWrite x i (.single m.member) roles e
    | (_, t) :: (_, mo) :: (_, a) :: (_, g) :: (_, p) :: (_, r) :: _ =>
      schedWrite x i (.whole t.toNat mo.toNat a.toNat g.toNat p r.toNat) roles e
    | _ => (stWhole, e)

/-- Area 18. -/
def applyOut (k : Key) (vs : List (Key × Int)) (e : Eng) : WriteRes :=
  let i := k.item
  if i < 0x010 then defaultAll vs e
  else if i < 0x020 then synthWrite (i - 0x010) vs e
  else if i < 0x040 then synthWrite ((i - 0x020) / 3) vs e
  else if i < 0x060 then ppsoutWrite (i - 0x040) vs e
  else todOutWrite vs e

/-- Area 20. -/
def applyRef (x : Ctx) (k : Key) (vs : List (Key × Int)) (e : Eng) : WriteRes :=
  let i := k.item
  if 0x100 ≤ i ∧ i < 0x110 then refinCfgWrite x (i - 0x100) vs e
  else if 0x110 ≤ i ∧ i < 0x120 then refinQualWrite (i - 0x110) vs e
  else if 0x200 ≤ i ∧ i < 0x240 then synceWrite x (i - 0x200) vs e
  else if i = 0x300 then todInWrite vs e
  else defaultAll vs e

/-- Area 24. -/
def applyGnss (x : Ctx) (k : Key) (vs : List (Key × Int)) (e : Eng) : WriteRes :=
  let i := k.item
  if i = 0x001 then gnssGlobalWrite vs e
  else if i = 0x002 then gnssPosWrite vs e
  else if i = 0x003 then gnssHeldWrite vs e
  else if i = 0x004 then gnssRootWrite (soleValue vs) e
  else if i = 0x005 then gnssSaveWrite x (soleValue vs) e
  else if i < 0x020 then gnssFeWrite x (i - 0x010) vs e
  else defaultAll vs e

/-- Area 28. -/
def applySel (x : Ctx) (k : Key) (vs : List (Key × Int)) (e : Eng) : WriteRes :=
  let i := k.item
  if i = 0x002 then selPeek vs e
  else if 0x100 ≤ i ∧ i < 0x140 then selSlotWrite x (i - 0x100) vs e
  else if 0x240 ≤ i ∧ i < 0x280 then selCmd x (i - 0x240) (soleValue vs) e
  else if 0x400 ≤ i ∧ i < 0x420 then selMoonWrite (i - 0x400) vs e
  else if 0x420 ≤ i ∧ i < 0x440 then selMoonWrite (i - 0x420) vs e
  else defaultAll vs e

/-- Area 2C. -/
def applySteer (k : Key) (vs : List (Key × Int)) (e : Eng) : WriteRes :=
  let i := k.item
  if i = 0x001 ∧ names vs [Od.STEER_OSC.command] then
    let w := modelCmd e
    (w.1, (vs.filter (fun p => p.1 != Od.STEER_OSC.command)).foldl (fun e p => e.set p.1 p.2) w.2)
  else if 0x100 ≤ i ∧ i < 0x120 then steerMoonWrite (i - 0x100) vs e
  else if 0x180 ≤ i ∧ i < 0x1A0 then steerCmd (i - 0x180) e
  else defaultAll vs e

/-- A write of a PORT_CONFIG member. -/
def portConfigWrite (x : Ctx) (p : Nat) (k : Key) (v : Int) (e : Eng) : WriteRes :=
  if k = Od.PORT_CONFIG.enable p then portEnableWrite x p v e
  else if k = Od.PORT_CONFIG.synce_lane p then synceLaneWrite p v e
  else (stOk, e.set k v)

/-- Area 30. -/
def applyPort (x : Ctx) (k : Key) (vs : List (Key × Int)) (e : Eng) : WriteRes :=
  let i := k.item
  let p := (i - 0x100) / 16
  if i = 0x001 then portGlobalWrite vs e
  else if i = 0x002 then ruleCommitWrite x (soleValue vs) e
  else if i < 0x100 then laneGroupWrite x (i - 0x010) (soleValue vs) e
  else if i < 0x300 then
    (match i % 16 with
    | 0 => memberWise (portConfigWrite x p) vs e
    | 2 => qlOverrideWrite p (soleValue vs) e
    | _ => defaultAll vs e)
  else if i < 0x500 then svcWrite false (i - 0x400) vs e
  else if i < 0x600 then svcWrite true (i - 0x500) vs e
  else ruleEditWrite vs e

/-- Area 38. -/
def applyTs (x : Ctx) (k : Key) (vs : List (Key × Int)) (e : Eng) : WriteRes :=
  let i := k.item
  if i = 0x002 then
    memberWise (fun m v e => if m = Od.CAL_CTRL.open_ then calOpenWrite x v e else calCloseWrite x v e) vs e
  else if 0x140 ≤ i ∧ i < 0x160 then laneIfWrite x (i - 0x140) (soleValue vs) e
  else if 0x100 ≤ i ∧ i < 0x221 then calWrite x vs e
  else if 0x400 ≤ i then tsStickyClear (i - 0x400) (soleValue vs) e
  else defaultAll vs e

/-- Area 40: a rewritten rate profile is no longer damaged (Table 6-7). -/
def applyAns (x : Ctx) (k : Key) (vs : List (Key × Int)) (e : Eng) : WriteRes :=
  let i := k.item
  if i = 0x001 then
    memberWise (fun m v e => if m = Od.ANS_GLOBAL.rekey then ansRekey x v e else (stOk, e.set m v)) vs e
  else if i = 0x003 then ansPeekWrite vs e
  else if 0x040 ≤ i ∧ i < 0x050 then
    (stOk, { e.setAll vs with ans := { e.ans with badProfiles := e.ans.badProfiles.filter (fun q => q != i - 0x040) } })
  else if 0x100 ≤ i ∧ i < 0x200 then ansRuleWrite x (i - 0x100) vs e
  else if 0x200 ≤ i then pipeReenable x (i - 0x200) (soleValue vs) e
  else defaultAll vs e

/-- Area 44. -/
def applyDep (x : Ctx) (k : Key) (vs : List (Key × Int)) (e : Eng) : WriteRes :=
  let i := k.item
  if 0x100 ≤ i ∧ i < 0x120 then depPortWrite x (i - 0x100) vs e
  else if 0x180 ≤ i ∧ i < 0x1A0 then depStickyClear (i - 0x180) (soleValue vs) e
  else defaultAll vs e

/-- A write of a member of a master key slot. -/
def slotMember (x : Ctx) (s : Nat) (k : Key) (v : Int) (e : Eng) : WriteRes :=
  if k = Od.NTS_SLOT.generation s then slotGenWrite x s v e
  else if k = Od.NTS_SLOT.key s then slotKeyWrite s v e
  else slotCommand x s v e

/-- Area 48. -/
def applyNts (x : Ctx) (k : Key) (vs : List (Key × Int)) (e : Eng) : WriteRes :=
  let i := k.item
  if i = 0x003 then seedWrite x (soleValue vs) e
  else if 0x010 ≤ i ∧ i < 0x020 then memberWise (slotMember x (i - 0x010)) vs e
  else if i = 0x040 then ntsKeWrite vs e
  else if i = 0x042 then keGenerate x e
  else defaultAll vs e

/-- Area 4C. -/
def applyPtp (x : Ctx) (k : Key) (vs : List (Key × Int)) (e : Eng) : WriteRes :=
  let i := k.item
  if 0x040 ≤ i ∧ i < 0x050 then ptpSaWrite x vs e
  else if 0x100 ≤ i ∧ i < 0x120 then ptpInstWrite x (i - 0x100) vs e
  else if 0x140 ≤ i ∧ i < 0x160 then ptpNegWrite x (i - 0x140) vs e
  else if 0x200 ≤ i ∧ i < 0x210 then upWrite x (i - 0x200) vs e
  else defaultAll vs e

/-- Area 50. -/
def applyPk (x : Ctx) (k : Key) (vs : List (Key × Int)) (e : Eng) : WriteRes :=
  let i := k.item
  if i = 0x020 then pkHostSubmit x vs e
  else if i = 0x022 then
    memberWise (fun m v e => if m = Od.PK_HOST_CTRL.pop then pkPopWrite v e else (stOk, e.pkAbort x 3 v.toNat)) vs e
  else if 0x030 ≤ i ∧ i < 0x040 then pkErase x (i - 0x030) e
  else if 0x400 ≤ i ∧ i < 0x800 then pkSlotWrite false (i - 0x400) vs e
  else if 0x800 ≤ i then pkDataWrite false (i - 0x800) (soleValue vs) e
  else defaultAll vs e

/-- Area 58. -/
def applyHost (x : Ctx) (k : Key) (vs : List (Key × Int)) (e : Eng) : WriteRes :=
  let i := k.item
  if i = 0x010 then irqClear x (soleValue vs) e
  else if 0x100 ≤ i ∧ i < 0x240 then irqRouteWrite x vs e
  else if 0x300 ≤ i ∧ i < 0x380 then ringWrite x false (i - 0x300) [] vs e
  else if 0x400 ≤ i ∧ i < 0x480 then ringWrite x true (i - 0x400) [] vs e
  else defaultAll vs e

/-- Area 60. -/
def applyDict (x : Ctx) (k : Key) (vs : List (Key × Int)) (e : Eng) : WriteRes :=
  let i := k.item
  if i = 0x002 then mgmtWrite vs e
  else if i = 0x003 then storeWrite x (soleValue vs) e
  else if 0x010 ≤ i ∧ i < 0x030 then credWrite x (i - 0x010) vs e
  else if i = 0x100 then segWrite vs e
  else defaultAll vs e

/-- Area 68. -/
def applyCnt (x : Ctx) (k : Key) (vs : List (Key × Int)) (e : Eng) : WriteRes :=
  let i := k.item
  if i = 0x001 then snapMaskWrite x (soleValue vs) e
  else if i = 0x002 then cntUserWrite (soleValue vs) e
  else if i = 0x003 then cntStickyClear (soleValue vs) e
  else if 0x100 ≤ i ∧ i < 0x140 then cntWinWrite x (i - 0x100) vs e
  else if 0x140 ≤ i ∧ i < 0x150 then cntOccWrite (i - 0x140) vs e
  else defaultAll vs e

/-- A write of a member of FLT_GLOBAL, FLT_TEST or FLT_BLOCK. -/
def fltMember (x : Ctx) (k : Key) (v : Int) (e : Eng) : WriteRes :=
  let b := k.item - 0x100
  if k = Od.FLT_GLOBAL.linger_s then lingerWrite v e
  else if k = Od.FLT_GLOBAL.scrub_enable then scrubEnableWrite x v e
  else if k = Od.FLT_TEST.open_s then testOpenWrite x v e
  else if k = Od.FLT_TEST.close then testCloseWrite v e
  else if k = Od.FLT_BLOCK.latch b then latchClear x b v e
  else if k = Od.FLT_BLOCK.mask b then maskWrite x b v e
  else if k = Od.FLT_BLOCK.force b then forceWrite x b v e
  else if k = Od.FLT_BLOCK.rearm b then rearmWrite x b v e
  else defaultWrite k v e

/-- A write of a member of area 78; parts of FW_IMAGE.data come through their own path. -/
def bootMember (x : Ctx) (k : Key) (v : Int) (e : Eng) : WriteRes :=
  if k = Od.RESET_CTRL.command then resetWrite e
  else if k = Od.RESET_CTRL.auto_reset_s then autoResetWrite v e
  else if k = Od.FW_IMAGE.commit then fwCommit x v e
  else if k = Od.FUSE.advance_rollback then rollbackWrite x v e
  else if k = Od.PWR_STATUS.sticky then pwrStickyClear v e
  else if k = Od.THERM_CFG.warn_c then warnWrite x v e
  else if k = Od.DUMP_CTRL.dump_now then dumpNowWrite v e
  else if k = Od.DUMP_CTRL.clear then dumpClearWrite v e
  else defaultWrite k v e

/-- Area 78. -/
def applyBoot (x : Ctx) (k : Key) (vs : List (Key × Int)) (e : Eng) : WriteRes :=
  if k.item = 0x021 then dumpReadWrite vs e else memberWise (bootMember x) vs e

/-- Step 8 and the effect of a write of object `k` with values of its members, under `roles`. -/
def applyWrite (x : Ctx) (k : Key) (vs : List (Key × Int)) (roles : Nat) (e : Eng) : WriteRes :=
  match k.area with
  | 0x00 => applyId k vs e
  | 0x10 => applyMoon x k vs e
  | 0x14 => applySched x k vs roles e
  | 0x18 => applyOut k vs e
  | 0x20 => applyRef x k vs e
  | 0x24 => applyGnss x k vs e
  | 0x28 => applySel x k vs e
  | 0x2C => applySteer k vs e
  | 0x30 => applyPort x k vs e
  | 0x38 => applyTs x k vs e
  | 0x40 => applyAns x k vs e
  | 0x44 => applyDep x k vs e
  | 0x48 => applyNts x k vs e
  | 0x4C => applyPtp x k vs e
  | 0x50 => applyPk x k vs e
  | 0x58 => applyHost x k vs e
  | 0x60 => applyDict x k vs e
  | 0x68 => applyCnt x k vs e
  | 0x70 => memberWise (fltMember x) vs e
  | 0x78 => applyBoot x k vs e
  | _ => defaultAll vs e

/-! ## Values from bytes (R14, R344 steps 2 to 7, R345) -/

/-- The rows of an object: its member's, or every member's of a record for member 0. -/
def objRows (k : Key) : List ObjRow := targetRows k

/-- Split a record's bytes by its members, each with its key. -/
def splitRecord (k : Key) : List ObjRow → Bytes → List (ObjRow × Key × Int)
  | [], _ => []
  | r :: rs, bs =>
    (r, odKey k.area k.item r.member, r.ty.ofBytes (bs.take r.ty.size)) :: splitRecord k rs (bs.drop r.ty.size)

/-- The writable values a write's bytes name (R345): a member's, or those of every writable member of a record. -/
def valuesOf (k : Key) (bytes : Bytes) : List (Key × Int) :=
  ((splitRecord k (objRows k) bytes).filter (fun p => p.1.writable p.2.1)).map (fun p => p.2)

/-- The size of an object's value. -/
def objSize (k : Key) : Nat := targetSize k

/-- Steps 2 to 7 of R344 for a write's bytes, and the MODE of Eclipse and RECOVERY before step 8: a record is denied when a writable
member is. -/
def Eng.judgeBytes (e : Eng) (k : Key) (bytes : Bytes) (roles : Nat) : Nat :=
  let rs := objRows k
  if (rowsAt k.area k.item).isEmpty then stNoObject
  else if rs.isEmpty then stNoMember
  else
    let ps := splitRecord k rs bytes
    let ws := ps.filter (fun p => p.1.writable p.2.1)
    let lenOk := match rs with | [r] => r.ty.lenOk bytes.length | _ => bytes.length == objSize k
    if !(if ws.isEmpty then ps else ws).all (fun p => roleOk p.1.roles roles) then stDenied
    else if ws.isEmpty then stReadOnly
    else if !lenOk then stSize
    else if !ws.all (fun p => p.1.step7 p.2.2) then stRange
    else if e.modeRefused k.area then stMode
    else stOk

/-- Step 8 of a write of bytes that passed the steps before: the values' ranges, then the object's operation (R344, R345). -/
def Eng.step8Bytes (e : Eng) (x : Ctx) (k : Key) (bytes : Bytes) (roles : Nat) : WriteRes :=
  let vs := valuesOf k bytes
  let w := if rangeAll vs then applyWrite x k vs roles e else (stRange, e)
  (w.1, w.2.refusedHook k w.1)

/-- Some value of a write is persistent. -/
def persistentWrite (k : Key) : Bool := (objRows k).any (fun r => r.writable (odKey k.area k.item r.member) && r.persist == .store)

end Sys2Proof.Machine
end

