-- ==== Sys2Proof/Machine/Front.lean ====
section
/-! DEFINITION. The hardware dictionary front (spec/17_dictionary.md R351 to R359, spec/18_management_segment.md R367 to R375): operations,
the write queue, the firmware read queue, requests and their responses. -/

namespace Sys2Proof.Machine

/-! ## The retry hint (R354) -/

/-- The hint of a BUSY answer, in milliseconds. -/
def Eng.hint (e : Eng) (x : Ctx) : Nat :=
  match e.front.lastDrain with
  | none => 100
  | some t =>
    if 10000000 ≤ x.tick - t ∨ e.front.drains = [] then 100
    else min 1000 (max 1 (ceilDiv (64 * e.front.drains.foldl (· + ·) 0) (e.front.drains.length * 1000000)))

/-! ## Accounting (R362) -/

/-- A DENIED answer counts against the credential too. -/
def Eng.deniedBy (e : Eng) (cred : Option Nat) (st : Nat) : Eng :=
  match cred with
  | some c => if st = stDenied then e.inc32 (Od.CRED.denied c) else e
  | none => e

/-- An operation refused before it was accepted, with the hint of a BUSY. -/
def Eng.refuse (e : Eng) (x : Ctx) (cred : Option Nat) (st : Nat) : Resp × Eng :=
  let h := if st = stBusy then e.hint x else 0
  let e := (e.account x false st).deniedBy cred st
  let r : Resp := ⟨st, x.tick, h, []⟩
  (r, { (if st = stBusy then e.set Od.DICT_STATUS.retry_hint_ms h else e) with resp := r })

/-! ## READ (R352, R372, R374) -/

/-- The roles that may read an object: the sticky members of SEL_SLOT_STATUS and STEER_STATUS list Operator for their clearing
alone (Tables 12-6 and 13-5). -/
def ObjRow.readRoles (r : ObjRow) : Nat :=
  if (r.area = 0x28 ∧ r.base = 0x1C0) ∨ (r.area = 0x2C ∧ r.base = 0x140) then 1 else r.roles

/-- An object that is accessed in parts: a STR or BLOB of more than 1,024 bytes. -/
def partRow (k : Key) : Option ObjRow :=
  match objRows k with
  | [r] => if 1024 < r.ty.size then some r else none
  | _ => none

/-- Steps 2 to 5 of R344 and R374's offsets, for a read. -/
def Eng.judgeRead (e : Eng) (k : Key) (offset length roles : Nat) : Nat :=
  let rs := objRows k
  if (rowsAt k.area k.item).isEmpty then stNoObject
  else if rs.isEmpty then stNoMember
  else if !rs.all (fun r => roleOk r.readRoles roles) then stDenied
  else if (match partRow k with | some r => !partOk r.ty.size offset length | none => offset != 0) then stRange
  else e.unreadable k

/-- The bytes a read answers: the value, a part of a long one, and zeros for a WO one. -/
def Eng.readBytes (e : Eng) (x : Ctx) (k : Key) (offset length : Nat) : Bytes :=
  match partRow k with
  | some r => if r.access = .wo then List.replicate length 0 else ((r.ty.toBytes (e.val x r k)).drop offset).take length
  | none => (objRows k).flatMap (fun r => if r.access = .wo ∧ 1024 < r.ty.size then List.replicate r.ty.size 0
      else r.ty.toBytes (e.val x r (odKey k.area k.item r.member)))

/-- A read: answered at this tick by hardware, or placed in the firmware read queue of 16. -/
def Eng.opRead (e : Eng) (x : Ctx) (req : Option (Nat × Nat)) (cred : Option Nat) (k : Key) (offset length roles : Nat) :
    Option Resp × Eng :=
  let st := e.judgeRead k offset length roles
  if st ≠ stOk then let a := e.refuse x cred st; (some a.1, a.2)
  else if (objRows k).any (fun r => r.fw) then
    if 16 ≤ e.front.fwQueue.length then let a := e.refuse x cred stBusy; (some a.1, a.2)
    else
      (none, { e with front := { e.front with fwQueue := e.front.fwQueue ++ [FwRead.mk req k offset length cred] } })
  else
    let r : Resp := ⟨stOk, x.tick, 0, e.readBytes x k offset length⟩
    (some r, { e with resp := r })

/-! ## WRITE and TIMED_WRITE (R353, R355, R375) -/

/-- Steps 1 to 7 for a write at an offset: parts only of a long value (R374). -/
def Eng.judgeWrite (e : Eng) (k : Key) (offset : Nat) (bytes : Bytes) (roles : Nat) : Nat :=
  match partRow k with
  | some r =>
    if !roleOk r.roles roles then stDenied
    else if !r.writable k then stReadOnly
    else if !partOk r.ty.size offset bytes.length then stRange
    else if e.modeRefused k.area then stMode
    else stOk
  | none =>
    let st := e.judgeBytes k bytes roles
    if (st = stOk ∨ stReadOnly < st) ∧ st ≠ stDenied ∧ offset ≠ 0 then stRange else st

/-- A write enters the queue of 64, or is BUSY. -/
def Eng.enqueueWrite (e : Eng) (x : Ctx) (w : QueuedWrite) : Option Resp × Eng :=
  if 64 ≤ e.front.queue.length then let a := e.refuse x w.cred stBusy; (some a.1, a.2)
  else
    let e := if e.front.queue.isEmpty then { e with front := { e.front with headAt := x.tick } } else e
    let e := { e with front := { e.front with queue := e.front.queue ++ [w] } }
    let n := e.front.queue.length
    let e := if e.n Od.DICT_STATUS.queue_peak < n then e.set Od.DICT_STATUS.queue_peak n else e
    (none, if n = 64 then e.orb Od.DICT_STATUS.sticky 4 else e)

/-- A write at the front. -/
def Eng.opWrite (e : Eng) (x : Ctx) (req : Option (Nat × Nat)) (cred : Option Nat) (k : Key) (offset : Nat) (bytes : Bytes)
    (roles : Nat) : Option Resp × Eng :=
  let st := e.judgeWrite k offset bytes roles
  if st ≠ stOk then let a := e.refuse x cred st; (some a.1, a.2)
  else e.enqueueWrite x ⟨req, k, offset, bytes, roles, cred, x.st 0⟩

/-- The whole SCHED_ENTRY value of a timed write of object `k` (R375): target, moon, action DICT_WRITE, argument. -/
def timedEntry (k : Key) (v : Bytes) : Bytes :=
  padTo (objSize (odKey 0x14 0x400 0))
    ((v.drop 4).take 8 ++ [byte (byteAt v 2), 7] ++ leBytes 4 k ++ padTo 12 (v.drop 12))

/-- A timed write at the front: the write of the entry it names (R355, R375). -/
def Eng.opTimed (e : Eng) (x : Ctx) (req : Option (Nat × Nat)) (cred : Option Nat) (k : Key) (offset : Nat) (v : Bytes)
    (roles : Nat) : Option Resp × Eng :=
  let n := leNat (v.take 2)
  let entry := odKey 0x14 (0x400 + n) 0
  let st := if v.length < 13 ∨ 24 < v.length then stSize
    else if 1023 < n then stNoObject
    else
      let st := e.judgeBytes entry (timedEntry k v) roles
      if st = stOk ∧ (byteAt v 3 ≠ 0 ∨ offset ≠ 0) then stRange else st
  if st ≠ stOk then let a := e.refuse x cred st; (some a.1, a.2)
  else e.enqueueWrite x ⟨req, entry, 0, timedEntry k v, roles, cred, x.st 0⟩

/-! ## Responses (R367, R373) -/

/-- One operation result (Table 18-3). -/
def OpResult.bytes (r : OpResult) : Bytes :=
  [byte r.op, byte r.area] ++ leBytes 2 r.im ++ leBytes 2 r.status ++ leBytes 2 r.value.length ++ leBytes 2 r.offset ++
    leBytes 2 r.hint ++ leBytes 4 0 ++ leBytes 8 r.tick ++ r.value

/-- The results as they fit in 1,452 bytes, from `used` bytes of body on: a value that leaves no room for the results after it is
not sent, and its status is SIZE. -/
def fitResults : Nat → List OpResult → Bytes
  | _, [] => []
  | used, r :: rs =>
    let r := if used + 24 * (rs.length + 1) + r.value.length ≤ 1420 then r else { r with status := stSize, value := [] }
    r.bytes ++ fitResults (used + r.bytes.length) rs

/-- The response PDU of a request. -/
def OpenReq.pdu (o : OpenReq) : Bytes := Sys2Proof.Machine.pdu 1 o.keyId o.tid o.counter (fitResults 0 o.results) o.key

/-- A PDU joins the segment's transmit queue of 32, or is dropped (R366). -/
def Eng.segSend (e : Eng) (x : Ctx) (dst : Nat) (bytes : Bytes) : Eng :=
  if e.seg.txFirst.length + e.seg.tx.length < 32 then { e with seg := { e.seg with tx := e.seg.tx ++ [(dst, bytes)] } }
  else e.count x 0xB05

/-- An in-band response (R378): a UDP frame from the service address and port of the request to its source; its DSCP and hop limit are
free values (notes/assumptions/3.md). -/
def Eng.dictReply (e : Eng) (frame : Bytes) (mac : Nat) (payload : Bytes) : Bytes :=
  let p := parseFrame e.isTpid frame
  let o := p.l4.getD 0
  let udp := buildUdp p.ver p.ipDst p.ipSrc (beAt frame (o + 2) 2) (beAt frame o 2) payload
  let d := e.draw 64
  let h := e.draw (64 * 256) / 64
  let ip := if p.ver = 6 then buildIp6 d 0 h p.ipDst p.ipSrc udp else buildIp4 d h p.ipDst p.ipSrc udp
  buildEth p.src mac p.tags p.etype ip

/-- A response leaves on its path. -/
def Eng.sendOn (e : Eng) (x : Ctx) (path : InPath) (bytes : Bytes) : Eng :=
  match path with
  | .segment src => e.segSend x src bytes
  | .window c => if (e.win c).state = 1 then e.winDone x c bytes else e
  | .inBand port frame mac =>
    let f := e.dictReply frame mac bytes
    e.drawn.sendUntimed port false (e.prioOf port (parseFrame e.isTpid frame).tags) f

/-- The response of a request whose results are all there: sent, and held for a duplicate (R370). -/
def Eng.respond (e : Eng) (x : Ctx) (o : OpenReq) : Eng :=
  let b := o.pdu
  let h : HeldResp := ⟨o.counter, o.tid, x.st 0, b⟩
  let e := { e with front := { e.front with creds := modNth e.front.creds o.cred (fun u => { u with held := (h :: u.held).take 64 }) } }
  e.sendOn x o.path b

/-- A result of operation `i` of request `n` is there. -/
def Eng.answerOp (e : Eng) (x : Ctx) (req : Option (Nat × Nat)) (r : Resp) : Eng :=
  match req with
  | none => e
  | some (n, i) =>
    match tget e.front.reqs n with
    | none => e
    | some o =>
      let o := { o with results := modNth o.results i (fun q =>
        { q with ready := true, status := r.status, hint := r.hint, tick := r.tick, value := r.data }) }
      if o.results.all (fun q => q.ready) then
        { e with front := { e.front with reqs := tdel e.front.reqs n } }.respond x o
      else { e with front := { e.front with reqs := tput e.front.reqs n o } }

/-! ## Requests (R351, R367 to R372) -/

/-- An operation of a request (Table 18-2). -/
structure ReqOp where
  op : Nat
  area : Nat
  im : Nat
  offset : Nat
  length : Nat
  value : Bytes
  deriving DecidableEq, Repr

/-- The object an operation names. -/
def ReqOp.key (o : ReqOp) : Key := o.area * 65536 + o.im

/-- The operations of a body, or none when one is cut short. A value stands after WRITE and TIMED_WRITE alone. -/
def parseOps : Nat → Bytes → Option (List ReqOp)
  | _, [] => some []
  | 0, _ => none
  | f + 1, bs =>
    let op := byteAt bs 0
    let n := leNat ((bs.drop 6).take 2)
    let vlen := if op = 2 ∨ op = 3 then n else 0
    let whole := 8 + (vlen + 3) / 4 * 4
    if bs.length < whole then none
    else (parseOps f (bs.drop whole)).map (fun t =>
      ⟨op, byteAt bs 1, leNat ((bs.drop 2).take 2), leNat ((bs.drop 4).take 2), n, (bs.drop 8).take vlen⟩ :: t)

/-- The PDU that a path carries, when its form is good (R367): the length field agrees with the bytes, but for padding to the minimum
frame on the segment. -/
def pduOf (path : InPath) (bytes : Bytes) : Option Bytes :=
  let n := leNat ((bytes.drop 2).take 2)
  let ok : Bool := match path with
    | .segment _ => bytes.length == n || (n < 46 && bytes.length == 46)
    | _ => bytes.length == n
  if 32 ≤ n ∧ n ≤ 1452 ∧ ok ∧ byteAt bytes 0 = 1 then some (bytes.take n) else none

/-- The operations of a well-formed REQUEST. -/
def requestOps (p : Bytes) : Option (List ReqOp) :=
  if byteAt p 1 ≠ 0 then none
  else match parseOps 33 (slice p 16 (p.length - 32)) with
    | some ops => if ops = [] ∨ 32 < ops.length then none else some ops
    | none => none

/-- The tag of a PDU verifies (R368). -/
def tagOk (p key : Bytes) : Bool := p.drop (p.length - 16) == (hmacSha256 key (p.take (p.length - 16))).take 16

/-- A PDU of the path class a request is not: a segment publication or notification, which PUBLISH_RX takes. -/
def Arrived.isPub (a : Arrived) : Bool :=
  match a.path with
  | .segment _ => byteAt a.bytes 1 == 2 || byteAt a.bytes 1 == 3
  | _ => false

/-- The place of a path among arrivals of one tick (R351). -/
def InPath.rank : InPath → Nat
  | .segment _ => 0
  | .window c => 1 + c
  | .inBand _ _ _ => 9

/-- The place in the inbox of the request taken next. -/
def Eng.nextArrival (e : Eng) : Option (Nat × Arrived) :=
  (e.inbox.zipIdx.filter (fun p => !p.1.isPub)).foldl (fun b p =>
    match b with
    | none => some (p.2, p.1)
    | some q => if p.1.tick < q.2.tick ∨ (p.1.tick = q.2.tick ∧ p.1.path.rank < q.2.path.rank) then some (p.2, p.1) else b) none

/-- A request discarded without response: counted, and a window context moves to ERROR (R341). -/
def Eng.discardReq (e : Eng) (x : Ctx) (path : InPath) (event cause : Nat) : Eng :=
  let e := e.count x event
  match path with
  | .window c => if (e.win c).state = 1 then e.winError c cause else e
  | _ => e

/-- The counters of credential `c`. -/
def Eng.credUnit (e : Eng) (c : Nat) : CredUnit := nth e.front.creds c ⟨0, 0, 0, []⟩

/-- A new counter is taken: H and the record of seen counters; past the mark a new one is recorded (R370, R371). -/
def Eng.takeCounter (e : Eng) (x : Ctx) (c counter : Nat) (d : Int) : Eng :=
  let u := e.credUnit c
  let u := if 0 < d then { u with h := counter, seen := (u.seen * 2 ^ (min d.toNat 64) + 1) % 2 ^ 64 }
    else { u with seen := u.seen ||| 2 ^ (-d).toNat }
  let past := 0 < d ∧ 0 < signed 32 (counter + 2 ^ 32 - u.mark)
  let u := if past then { u with mark := (counter + 65536) % 2 ^ 32 } else u
  let e := { e with front := { e.front with creds := setNth e.front.creds c u } }
  if past then e.keyTouched x else e

/-- A duplicate (R370): its held response is sent again, or it is discarded. -/
def Eng.duplicate (e : Eng) (x : Ctx) (path : InPath) (c counter tid : Nat) : Eng :=
  match (e.credUnit c).held.find? (fun h => h.counter == counter && h.tid == tid && !x.passed h.at_ (2 * unitsPerSec)) with
  | some h => (e.count x 0xB09).sendOn x path h.bytes
  | none => e.discardReq x path 0xB09 5

/-- One operation of request `n`, the `i`-th: its result, when it is there at once, is kept. -/
def Eng.runOp (e : Eng) (x : Ctx) (n i c roles : Nat) (o : ReqOp) : OpResult × Eng :=
  let a : Option Resp × Eng :=
    match o.op with
    | 1 => e.opRead x (some (n, i)) (some c) o.key o.offset o.length roles
    | 2 => e.opWrite x (some (n, i)) (some c) o.key o.offset o.value roles
    | 3 => e.opTimed x (some (n, i)) (some c) o.key o.offset o.value roles
    | _ => let a := e.refuse x (some c) stRange; (some a.1, a.2)
  match a.1 with
  | some r => (⟨true, o.op, o.area, o.im, o.offset, r.status, r.hint, r.tick, r.data⟩, a.2)
  | none => (⟨false, o.op, o.area, o.im, o.offset, 0, 0, 0, []⟩, a.2)

/-- The operations of a request, in order (R372). -/
def Eng.runOps (e : Eng) (x : Ctx) (n c roles : Nat) (ops : List ReqOp) : List OpResult × Eng :=
  ops.zipIdx.foldl (fun (a : List OpResult × Eng) p =>
    let r := a.2.runOp x n p.2 c roles p.1
    (a.1 ++ [r.1], r.2)) ([], e)

/-- A request that is admitted and new is carried out. -/
def Eng.execute (e : Eng) (x : Ctx) (path : InPath) (c roles : Nat) (key p : Bytes) (ops : List ReqOp) : Eng :=
  let n := e.front.nextReq
  let e := { e with front := { e.front with nextReq := n + 1 } }.set (Od.CRED.last_use_tick c) x.tick
  let a := e.runOps x n c roles ops
  let o : OpenReq := ⟨path, c, key, leNat (slice p 4 4), leNat (slice p 8 2), leNat (slice p 12 4), a.1⟩
  if o.results.all (fun q => q.ready) then a.2.respond x o
  else { a.2 with front := { a.2.front with reqs := tput a.2.front.reqs n o } }

/-- A request at the front: its form, tag and counter, then its operations (R367 to R372). -/
def Eng.request (e : Eng) (x : Ctx) (a : Arrived) : Eng :=
  match pduOf a.path a.bytes with
  | none => e.discardReq x a.path 0xB0A 2
  | some p =>
    match requestOps p with
    | none => e.discardReq x a.path 0xB0A 2
    | some ops =>
      match a.who with
      | none => e.discardReq x a.path 0xB07 3
      | some (c, roles, key) =>
        if !tagOk p key then e.discardReq x a.path 0xB07 3
        else
          let counter := leNat (slice p 12 4)
          let u := e.credUnit c
          let d := signed 32 (counter + 2 ^ 32 - u.h)
          if d ≤ -64 then e.discardReq x a.path 0xB08 4
          else if d ≤ 0 ∧ bitOf u.seen (-d).toNat then e.duplicate x a.path c counter (leNat (slice p 8 2))
          else (e.takeCounter x c counter d).execute x a.path c roles key p ops

/-! ## Draining (R353, R426, R449) -/

/-- The queues are served: by device firmware from the restore tick on, and by the boot ROM in RECOVERY. -/
def Eng.served (e : Eng) : Bool := (e.boot.restored && e.fwRuns) || (e.boot.recovery && e.boot.creds)

/-- The whole of a long value is applied. -/
def wholeApply (x : Ctx) (k : Key) (roles : Nat) (bytes : Bytes) (e : Eng) : WriteRes :=
  match partRow k with
  | some r => applyWrite x k [(k, r.ty.ofBytes bytes)] roles e
  | none => (stRange, e)

/-- Step 8 of a queued write: a part of a long value in its order (R374), any other as it stands. -/
def Eng.applyQueued (e : Eng) (x : Ctx) (w : QueuedWrite) : WriteRes :=
  if e.modeRefused (Key.area w.key) then (stMode, e)
  else if w.key = Od.FW_IMAGE.data then fwStage x w.offset w.bytes w.arrived e
  else
    match partRow w.key with
    | some r => stagePart x w.key r.ty.size w.offset w.bytes.length w.bytes w.arrived (fun e => (stOk, e)) (wholeApply x w.key w.roles) e
    | none => e.step8Bytes x w.key w.bytes w.roles

/-- The write at the head leaves the queue, after `d` ticks there. -/
def Eng.popWrite (e : Eng) (x : Ctx) (rest : List QueuedWrite) : Eng :=
  let ds := e.front.drains ++ [x.tick - e.front.headAt]
  { e with front := { e.front with
      queue := rest, headAt := x.tick, drains := ds.drop (ds.length - 1024), lastDrain := some x.tick } }

/-- The head of the queue is drained. -/
def Eng.drainOne (e : Eng) (x : Ctx) : Eng :=
  match e.front.queue with
  | [] => e
  | w :: rest =>
    let a := (e.popWrite x rest).applyQueued x w
    let e := a.2.account x (persistentWrite w.key) a.1
    (e.deniedBy w.cred a.1).answerOp x w.req ⟨a.1, x.tick, 0, []⟩

/-- Every write in the queue is refused with BUSY: on Eclipse entry and at a reset (R353). -/
def Eng.emptyQueue (e : Eng) (x : Ctx) : Eng :=
  e.front.queue.foldl (fun e w =>
    let a := e.refuse x w.cred stBusy
    a.2.answerOp x w.req a.1) { e with front := { e.front with queue := [] } }

/-- The read at the head of the firmware read queue is produced at this tick (R352). -/
def Eng.fwRead (e : Eng) (x : Ctx) : Eng :=
  match e.front.fwQueue with
  | [] => e
  | q :: rest =>
    let e := { e with front := { e.front with fwQueue := rest } }
    let r : Resp := ⟨stOk, x.tick, 0, e.readBytes x q.key q.offset q.length⟩
    { e with resp := r }.answerOp x q.req r

/-! ## The store and load shedding (R356, R357) -/

/-- The flash write of a SAVE is over. -/
def Eng.saveDone (e : Eng) (x : Ctx) (good : Bool) : Eng :=
  match e.front.save with
  | none => e
  | some r =>
    let e := { e with front := { e.front with save := none } }
    let c : StoreCopy := ⟨good, r.generation, r.values⟩
    let e := { e with flash := { e.flash with stores := setNth e.flash.stores r.copy c } }
    if good then
      { e with front := { e.front with lastCopy := some r.copy } }.setAll
        [(Od.STORE.last_result, 1), (Od.STORE.last_save_tick, (r.tick : Int)), (Od.STORE.generation, (r.generation : Int))]
    else ((e.set Od.STORE.last_result 2).orb Od.DICT_STATUS.sticky 32).detect x 16 1 0

/-- A window of 10 ms of utilisation (R356): a stage is entered at once, and left after 10 windows below shed_exit_pct. -/
def Eng.loadWindow (e : Eng) (util : Nat) : Eng :=
  let stage := e.n Od.MGMT_LOAD.stage
  let want := if e.n Od.MGMT_LOAD.log_delay_pct ≤ util then 2
    else if e.n Od.MGMT_LOAD.shed_enter_pct ≤ util ∨ 32 ≤ e.front.queue.length then 1 else 0
  let calm := if util < e.n Od.MGMT_LOAD.shed_exit_pct ∧ want < stage then e.front.calm + 1 else 0
  let next := if stage < want then want else if calm = 10 then stage - 1 else stage
  let e := { e with front := { e.front with calm := if calm = 10 then 0 else calm } }
  let e := e.setAll [(Od.MGMT_LOAD.util_pct, (min util 100 : Nat)), (Od.MGMT_LOAD.stage, (next : Int)),
    (Od.NTS_KE_STATUS.shedding, (boolNat (1 ≤ next) : Nat))]
  if stage < next then e.orb Od.DICT_STATUS.sticky 8 else e

/-! ## The commands -/

/-- LANITH_REQUEST (R351, R367): the request taken next. -/
def execLanithRequest (s : State) : Host.Outcome State Fault Refusal :=
  lift (fun x e =>
    match e.nextArrival with
    | none => e
    | some (i, a) => { e with inbox := e.inbox.eraseIdx i }.request x a) s

/-- READ (R372): one read under given roles, answered in `resp`. -/
def execRead (area im offset length roles : Nat) (s : State) : Host.Outcome State Fault Refusal :=
  lift (fun x e => (e.opRead x none none (area % 256 * 65536 + im % 65536) offset length roles).2) s

/-- WRITE (R353): one write under given roles, into the write queue. -/
def execWrite (area im offset : Nat) (bytes : Bytes) (roles : Nat) (s : State) : Host.Outcome State Fault Refusal :=
  lift (fun x e => (e.opWrite x none none (area % 256 * 65536 + im % 65536) offset bytes roles).2) s

/-- TIMED_WRITE (R375): one timed write under given roles, into the write queue. -/
def execTimedWrite (area im : Nat) (bytes : Bytes) (roles : Nat) (s : State) : Host.Outcome State Fault Refusal :=
  lift (fun x e => (e.opTimed x none none (area % 256 * 65536 + im % 65536) 0 bytes roles).2) s

/-- PART_STAGING_TIMEOUT (R374): no further part within 10 s, and none of it in the queue. -/
def execPartStagingTimeout (area im : Nat) (s : State) : Host.Outcome State Fault Refusal :=
  lift (fun x e =>
    let k : Key := area % 256 * 65536 + im % 65536
    match tget e.front.stages k with
    | none => e
    | some g => whenDue (x.passed g.at_ tenSeconds && e.front.queue.all (fun w => w.key != k)) (fun e => e.stageDrop k) e) s

/-- RESPONSE_HOLD_EXPIRY (R370): the responses of a credential that were sent 2 s ago. -/
def execResponseHoldExpiry (cred : Fin 32) (s : State) : Host.Outcome State Fault Refusal :=
  lift (fun x e => { e with front := { e.front with creds := modNth e.front.creds cred (fun u =>
    { u with held := u.held.filter (fun h => !x.passed h.at_ (2 * unitsPerSec)) }) } }) s

/-- FW_READ_DONE (R352). -/
def execFwReadDone (s : State) : Host.Outcome State Fault Refusal :=
  lift (fun x e => whenDue e.served (fun e => e.fwRead x) e) s

/-- STORE_SAVE_DONE (R357). -/
def execStoreSaveDone (good : Bool) (s : State) : Host.Outcome State Fault Refusal :=
  lift (fun x e => e.saveDone x good) s

/-- LOAD_WINDOW (R356). -/
def execLoadWindow (util : Nat) (s : State) : Host.Outcome State Fault Refusal :=
  lift (fun _ e => whenDue e.fwRuns (fun e => e.loadWindow util) e) s

end Sys2Proof.Machine
end

