-- ==== Sys2Proof/Machine/Segment.lean ====
section
/-! DEFINITION. The management segment (spec/18_management_segment.md R363 to R366, R376, R377, R380): the 10BASE-T1S port, its medium access,
and the publications received and sent. -/

namespace Sys2Proof.Machine

/-- The station address 03-1A-7C-4C-00-00 (R366). -/
def stationMac : Nat := 0x031A7C4C0000

/-- The port's MAC address (R363). -/
def Ctx.segMac (x : Ctx) : Nat := (x.fuses.baseMac + 32) % 2 ^ 48

/-- The frame that carries a PDU, with padding and FCS (R366). -/
def Eng.segFrame (e : Eng) (x : Ctx) (dst : Nat) (p : Bytes) : Bytes := withFcs (buildEth dst x.segMac [] (e.n Od.SEG.ethertype) p)

/-- The frame that leaves next: publications and notifications ahead of responses. -/
def Eng.segNext (e : Eng) (x : Ctx) : Option (Bytes × Eng) :=
  match e.seg.txFirst, e.seg.tx with
  | p :: t, _ => some (e.segFrame x stationMac p, { e with seg := { e.seg with txFirst := t } })
  | [], (d, p) :: t => some (e.segFrame x d p, { e with seg := { e.seg with tx := t } })
  | [], [] => none

/-- The next frame starts on the wire, when the link is up and none is under way. -/
def Eng.segStart (e : Eng) (x : Ctx) : Eng :=
  if e.seg.link && e.seg.sending.isNone then
    match e.segNext x with
    | some (f, e) => { e with seg := { e.seg with sending := some (x.tick, f), collisions := 0, backoff := none } }
    | none => e
  else e

/-- The ticks a frame occupies the wire: preamble, header, payload and FCS at 10 Mb/s (R366). -/
def segTicks (f : Bytes) : Nat := (f.length + 8) * 800

/-- The frame under way is given up. -/
def Eng.segDrop (e : Eng) : Eng := { e with seg := { e.seg with sending := none, collisions := 0, backoff := none } }

/-- The segment at a tick: a frame whose time on the wire is over has been sent, and without PLCA the next one starts. -/
def Eng.segTick (e : Eng) (x : Ctx) : Eng :=
  let e := match e.seg.sending, e.seg.backoff with
    | some (t, f), none =>
      if t + segTicks f ≤ x.tick then
        let e := { e.segDrop with seg := { e.segDrop.seg with excessRun := 0 } }
        ((e.emit (.segment f)).count x 0xB01).condOff x 16 2 0
      else e
    | _, _ => e
  if e.b Od.SEG.plca_enable then e else e.segStart x

/-- A collision of the frame on the wire (R364, R380): after 51.2 µs it is late and discards the frame, the sixteenth discards it, any other
makes it wait a random number of slots. -/
def Eng.segCollision (e : Eng) (x : Ctx) : Eng :=
  match e.seg.sending, e.seg.backoff with
  | some (t, _), none =>
    if 51200 < x.tick - t then
      { e.segDrop with seg := { e.segDrop.seg with excessRun := 0 } }.count x 0xB04
    else
      let n := e.seg.collisions + 1
      let e := e.count x 0xB02
      if n = 16 then
        let run := min 16 (e.seg.excessRun + 1)
        let e := { e.segDrop with seg := { e.segDrop.seg with excessRun := run } }.count x 0xB03
        if run = 16 then e.condOn x 16 2 0 else e
      else
        let r := e.draw (2 ^ min n 10)
        { e.drawn with seg := { e.seg with collisions := n, backoff := some (x.tick + r * 51200) } }
  | _, _ => e

/-- The frame that waited is sent again. -/
def Eng.segAgain (e : Eng) (x : Ctx) : Eng :=
  match e.seg.sending with
  | some (_, f) => { e with seg := { e.seg with sending := some (x.tick, f), backoff := none } }
  | none => e

/-- A frame received (R366): for the port, everyone or the station, with the segment's EtherType, it goes to the front. -/
def Eng.segRx (e : Eng) (x : Ctx) (f : Bytes) : Eng :=
  let e := e.count x 0xB00
  let dst := beAt f 0 6
  if (dst = x.segMac ∨ dst = 2 ^ 48 - 1 ∨ dst = stationMac) ∧ beAt f 12 2 = e.n Od.SEG.ethertype then
    e.arrive x (.segment (beAt f 6 6)) (f.drop 14)
  else e.count x 0xB06

/-- A member's publication is ahead of the last one accepted from it, or none was for 3 s (R377). -/
def Eng.pubAhead (e : Eng) (x : Ctx) (member counter : Nat) : Bool :=
  match tget e.seg.heard member with
  | none => true
  | some p => decide (0 < signed 32 (counter + 2 ^ 32 - p.1)) || x.passed p.2 (3 * unitsPerSec)

/-- A publication or notification received (R367, R377). -/
def Eng.pubRx (e : Eng) (x : Ctx) (a : Arrived) : Eng :=
  match pduOf a.path a.bytes with
  | none => e.count x 0xB0A
  | some p =>
    match a.who with
    | none => e
    | some (_, roles, key) =>
      if !bitOf roles 2 || !tagOk p key then e
      else if p.length < 56 then e.count x 0xB0A
      else
        let m := byteAt p 16
        let counter := leNat (slice p 12 4)
        if m = e.n Od.SEG.member then e.count x 0xB0E
        else if !e.pubAhead x m counter then e
        else
          let s : SibPub := ⟨byteAt p 17, signed 64 (leNat (slice p 24 8)), byteAt p 19, x.st 0⟩
          { e with sibs := tput e.sibs m s, seg := { e.seg with heard := tput e.seg.heard m (counter, x.st 0) } }.count x 0xB0C

/-- The place in the inbox of the publication taken next. -/
def Eng.nextPub (e : Eng) : Option (Nat × Arrived) :=
  (e.inbox.zipIdx.find? (fun p => p.1.isPub)).map (fun p => (p.2, p.1))

/-- A publication is due at a boundary just processed, in a moon 0 second that has had none (R376). -/
def Eng.pubDue (e : Eng) (x : Ctx) : Bool :=
  x.tick == e.lastBoundary * 2 ^ 20 && x.lin 0 / unitsPerSec != e.seg.pubSecond

/-! ## The commands -/

/-- SEGMENT_FRAME_RX (R366): a frame from its destination address on, without FCS. -/
def execSegmentFrameRx (frame : Bytes) (s : State) : Host.Outcome State Fault Refusal :=
  lift (fun x e => whenDue e.seg.link (fun e => e.segRx x frame) e) s

/-- PUBLISH_RX (R377): the publication taken next. -/
def execPublishRx (s : State) : Host.Outcome State Fault Refusal :=
  lift (fun x e =>
    match e.nextPub with
    | none => e
    | some (i, a) => { e with inbox := e.inbox.eraseIdx i }.pubRx x a) s

/-- PUBLISH_SEND (R376). -/
def execPublishSend (s : State) : Host.Outcome State Fault Refusal :=
  lift (fun x e => whenDue (e.pubDue x) (fun e =>
    { e with seg := { e.seg with pubSecond := x.lin 0 / unitsPerSec } }.publish x 2 (e.pubBody (e.moon 0).cur)) e) s

/-- COLLISION (R364), which PLCA does not have. -/
def execCollision (s : State) : Host.Outcome State Fault Refusal :=
  lift (fun x e => whenDue (!e.b Od.SEG.plca_enable) (fun e => e.segCollision x) e) s

/-- BACKOFF_END (R364). -/
def execBackoffEnd (s : State) : Host.Outcome State Fault Refusal :=
  lift (fun x e =>
    match e.seg.backoff with
    | some t => whenDue (t ≤ x.tick) (fun e => e.segAgain x) e
    | none => e) s

/-- PLCA_TX_OPPORTUNITY (R365): one frame, of a node of 0 to 15. -/
def execPlcaTxOpportunity (s : State) : Host.Outcome State Fault Refusal :=
  lift (fun x e => whenDue (e.b Od.SEG.plca_enable && decide (e.n Od.SEG.plca_node_id < 16) && e.seg.link) (fun e =>
    if e.seg.backoff.isSome then e.segAgain x else e.segStart x) e) s

/-- SEGMENT_LINK_LOSS (R380): the frame on the wire is lost. -/
def execSegmentLinkLoss (s : State) : Host.Outcome State Fault Refusal :=
  lift (fun x e => { e.segDrop with seg := { e.segDrop.seg with link := false } }.condOn x 16 2 0) s

/-- SEGMENT_LINK_UP (R380). -/
def execSegmentLinkUp (s : State) : Host.Outcome State Fault Refusal :=
  lift (fun x e => { e with seg := { e.seg with link := true, excessRun := 0 } }.condOff x 16 2 0) s

end Sys2Proof.Machine
end

