-- ==== Sys2Proof/Machine/Eclipse.lean ====
section
/-! DEFINITION. Eclipse (spec/20_faults_eclipse.md R409 to R413): a change of the rails, the entry with the actions of Table 20-6, and the
linger. -/

namespace Sys2Proof.Machine

/-- The code of a reason (Table 20-9 member 2). -/
def EclReason.code : EclReason → Nat
  | .fault => 1
  | .forced => 2
  | .regParity => 3
  | .rail => 4

/-- A pair of rail wires that are not complementary, with no block asserting (R409). -/
def Eng.railPair (e : Eng) (x : Ctx) : Eng := e.railChange x .rail 0 0xFF 0xFF 0

/-- A parity error of a register of block `b` asserts the rails (R408); in block 0, 20 or 21 it ends a linger. -/
def Eng.regParity (e : Eng) (x : Ctx) (b : Nat) : Eng := (e.railChange x .regParity (2 ^ b) b 0xFF 0xF100).endLinger b

/-- The Eclipse record of a rail change, written at the entry (Table 20-9). -/
def Eng.eclipseRecord (e : Eng) (r : RailChange) (lingerEnd : Nat) : Eng :=
  e.setAll [(Od.FLT_ECLIPSE.valid, 1), (Od.FLT_ECLIPSE.reason, (r.reason.code : Nat)), (Od.FLT_ECLIPSE.detect_tick, (r.tick : Nat)),
    (Od.FLT_ECLIPSE.detect_st, (r.st : Nat)), (Od.FLT_ECLIPSE.entry_tick, (r.tick + 8 : Nat)), (Od.FLT_ECLIPSE.blocks, (r.blocks : Nat)),
    (Od.FLT_ECLIPSE.first_block, (r.firstBlock : Nat)), (Od.FLT_ECLIPSE.first_source, (r.firstSource : Nat)),
    (Od.FLT_ECLIPSE.cause, (r.cause : Nat)), (Od.FLT_ECLIPSE.linger_end_tick, (lingerEnd : Nat)),
    (Od.FLT_ECLIPSE.fw_running, (boolNat e.fwRuns : Nat))]

/-- The linger does not run for a fault of block 0, 20 or 21, nor for a rail pair (R412). -/
def RailChange.noLinger (r : RailChange) : Bool :=
  r.firstBlock == 0 || r.firstBlock == 20 || r.firstBlock == 21 || r.reason == .rail

/-- The upstream units stop (R209). -/
def Eng.upsStop (e : Eng) (x : Ctx) : Eng :=
  (List.range 16).foldl (fun e u => if e.b (Od.PTP_UP.enable u) then e.upTo x u 0 else e) e

/-- The outputs in Eclipse: the pulse outputs that are high fall now, and every output of Table 20-6 goes low (R303 to R305). -/
def Eng.outsDark (e : Eng) (x : Ctx) : Eng :=
  let e := (List.range 4).foldl (fun e n => if (e.pps n).level then e.emit (.pulse n x.tick 0 false) else e) e
  let e := e.outEclipse
  { e with pins := { e.pins with eclipseN := false } }

/-- Eclipse is entered: the record, and every action of Table 20-6 (R161, R209, R353, R376, R405, R410 to R412, R422, R429). -/
def Eng.enterEclipse (e : Eng) (x : Ctx) (r : RailChange) : Eng :=
  let linger := if r.noLinger then 0 else e.n Od.FLT_GLOBAL.linger_s
  let lingerEnd := r.tick + 8 + linger * 1000000000
  let e := e.eclipseRecord r lingerEnd
  let auto := e.n Od.RESET_CTRL.auto_reset_s
  let fw := e.fwRuns
  let e := { e with
    flt := { e.flt with
      eclipse := true, lingerEnd := lingerEnd, lingering := linger != 0, testEnd := none
      autoAt := if auto = 0 then none else some ((x.st 0 + auto * unitsPerSec) % 2 ^ 64) }
    nts := { e.nts with sessions := [] } }
  let e := if fw then { e with dump := { e.dump with asked := some 1 } } else e
  let e := (List.range 32).foldl (fun e p =>
    e.discardAll x p 9 (fun q => !(linger != 0 && q.origin.lingers))) e
  let e := (e.outsDark x).upsStop x
  (e.emptyQueue x).notify x 2 []

/-- The entry is due: eight ticks after the rails changed. -/
def Eng.eclipseDue (e : Eng) (x : Ctx) : Bool :=
  !e.flt.eclipse && (match e.flt.rail with | some r => decide (r.tick + 8 ≤ x.tick) | none => false)

/-- The entry, when it is due. -/
def Eng.eclipseEntry (e : Eng) (x : Ctx) : Eng :=
  match e.flt.rail with
  | some r => if e.eclipseDue x then e.enterEclipse x r else e
  | none => e

/-- The linger's end is due. -/
def Eng.lingerDue (e : Eng) (x : Ctx) : Bool := e.flt.lingering && decide (e.flt.lingerEnd ≤ x.tick)

/-! ## The commands -/

/-- ECLIPSE_RAIL_CHANGE (R409): a rail pair fault; a FATAL detection changes the rails in the command that detects it. -/
def execEclipseRailChange (s : State) : Host.Outcome State Fault Refusal := lift (fun x e => e.railPair x) s

/-- ECLIPSE_ENTRY (R410). -/
def execEclipseEntry (s : State) : Host.Outcome State Fault Refusal := lift (fun x e => e.eclipseEntry x) s

/-- LINGER_END (R412). -/
def execLingerEnd (s : State) : Host.Outcome State Fault Refusal :=
  lift (fun x e => whenDue (e.lingerDue x) (fun e => { e with flt := { e.flt with lingering := false } }) e) s

end Sys2Proof.Machine
end

