-- ==== Sys2Proof/Machine/Dump.lean ====
section
/-! DEFINITION. The fatal dump (spec/21_boot_power_dump.md R429 to R431, Tables 21-6 and 21-7): its sections as one snapshot, the slot it
is written to, and its completion. -/

namespace Sys2Proof.Machine

/-! ## Sections (Table 21-7) -/

/-- A record as its dictionary type. -/
def Eng.recBytes (e : Eng) (x : Ctx) (area item : Nat) : Bytes := e.readBytes x (odKey area item 0) 0 0

/-- The records of `n` instances from an item on, each padded to a stride. -/
def Eng.recTable (e : Eng) (x : Ctx) (area item step n stride : Nat) : Bytes :=
  (List.range n).flatMap (fun i => padTo stride (e.recBytes x area (item + step * i)))

/-- Counter page `g` as the dump has it: 64 counters and the wrap word. -/
def Eng.dumpPage (e : Eng) (x : Ctx) (g : Nat) : Bytes :=
  (List.range 64).flatMap (fun i => leBytes 8 (e.pageValue x.tick g i)) ++ leBytes 8 (e.pageWrap g)

/-- The contents of a section; 9 and 10 are device firmware's own (notes/assumptions/28.md). -/
def Eng.sectionBytes (e : Eng) (x : Ctx) (trigger : Nat) (log cores : Bytes) (n : Nat) : Bytes :=
  match n with
  | 1 => if trigger = 1 then padTo 64 (e.recBytes x 0x70 0x003) else List.replicate 64 0
  | 2 => (List.range 24).flatMap (fun b => padTo 64 (e.recBytes x 0x70 (0x100 + b) ++ e.recBytes x 0x70 (0x140 + b)))
  | 3 => (List.range 32).flatMap (fun k => padTo 96 (e.recBytes x 0x10 (0x106 + 16 * k)) ++ padTo 96 (e.recBytes x 0x10 (0x107 + 16 * k)))
  | 4 => e.recTable x 0x2C 0x140 1 32 64 ++ padTo 128 (e.recBytes x 0x2C 0x002)
  | 5 => e.recTable x 0x28 0x1C0 1 64 128 ++ e.recTable x 0x28 0x440 1 32 64
  | 6 => e.recTable x 0x20 0x120 1 8 64 ++ e.recTable x 0x20 0x240 1 32 32 ++
      (List.range 2).flatMap (fun f => padTo 128 (e.recBytes x 0x24 (0x020 + f) ++ e.recBytes x 0x24 (0x030 + f)))
  | 7 => (List.range 51).flatMap (fun g => e.dumpPage x g)
  | 8 => e.recTable x 0x44 0x140 1 32 64
  | 9 => (padTo 262144 log).take 262144
  | _ => (padTo 16384 cores).take 16384

/-- A section with its header: one whose source is unreadable is filled with zeros and flagged. -/
def dumpSection (n : Nat) (readable : Bool) (tick : Nat) (bs : Bytes) : Bytes :=
  let bs := if readable then bs else List.replicate bs.length 0
  leBytes 2 n ++ leBytes 2 (boolNat (!readable)) ++ leBytes 4 bs.length ++ leBytes 8 tick ++ leBytes 4 (crc32c bs) ++ leBytes 4 0 ++ bs

/-- The header (Table 21-6) over the sections' bytes. -/
def Eng.dumpHeader (e : Eng) (x : Ctx) (sequence trigger : Nat) (body : Bytes) : Bytes :=
  let head := strBytes "IDYDUMP1" ++ leBytes 2 1 ++ leBytes 2 10 ++ leBytes 4 sequence ++ [byte trigger, 0, 0, 0] ++
    leBytes 4 e.image.fwVersion ++ leBytes 16 x.fuses.serial ++ leBytes 8 x.tick ++ leBytes 8 (x.st 0) ++ leBytes 4 (64 + body.length)
  head ++ leBytes 4 (crc32c (head ++ leBytes 4 0 ++ body))

/-- A whole dump. -/
def Eng.dumpBytes (e : Eng) (x : Ctx) (sequence trigger : Nat) (log cores : Bytes) (unreadable : List Nat) : Bytes :=
  let body := (List.range 10).flatMap (fun i =>
    dumpSection (i + 1) (!unreadable.contains (i + 1)) x.tick (e.sectionBytes x trigger log cores (i + 1)))
  e.dumpHeader x sequence trigger body ++ body

/-! ## Slots (R430) -/

/-- The slot of the next dump: an erased one, or that with the lower sequence. -/
def Eng.dumpTarget (e : Eng) : Nat :=
  if (e.dumpSlot 0).state = 0 then 0
  else if (e.dumpSlot 1).state = 0 then 1
  else if (e.dumpSlot 1).sequence < (e.dumpSlot 0).sequence then 1 else 0

/-- A dump is due: asked for, firmware runs, and none is being written. -/
def Eng.dumpDue (e : Eng) : Bool := e.dump.asked.isSome && e.fwRuns && e.dump.writing.isNone

/-- The sections are captured and the dump begins to be written to its slot. -/
def Eng.dumpCapture (e : Eng) (x : Ctx) (log cores : Bytes) (unreadable : List Nat) : Eng :=
  let trigger := e.dump.asked.getD 2
  let s := e.dumpTarget
  let q := max (e.dumpSlot 0).sequence (e.dumpSlot 1).sequence + 1
  let bs := e.dumpBytes x (q % 2 ^ 32) trigger log cores unreadable
  { e with dump := ⟨none, some s⟩ }.setDump s ⟨1, q % 2 ^ 32, trigger, x.tick, bs⟩

/-- The dump is complete. -/
def Eng.dumpComplete (e : Eng) : Eng :=
  match e.dump.writing with
  | none => e
  | some s => { e with dump := { e.dump with writing := none } }.setDump s { e.dumpSlot s with state := 2 }

/-- A reset finds a dump unfinished: the slot reads PARTIAL, with a free number of its bytes written after the header. -/
def Eng.dumpCut (e : Eng) : Eng :=
  match e.dump.writing with
  | none => e
  | some s =>
    let d := e.dumpSlot s
    let n := 64 + e.draw (d.bytes.length - 63)
    { e.drawn with dump := { e.dump with writing := none } }.setDump s
      { d with state := 3, bytes := d.bytes.take n ++ List.replicate (d.bytes.length - n) (byte 0xFF) }

/-! ## The commands -/

/-- DUMP_CAPTURE (R429): what firmware takes for sections 9 and 10, and the sections whose source is unreadable. -/
def execDumpCapture (log cores : Bytes) (unreadable : List Nat) (s : State) : Host.Outcome State Fault Refusal :=
  lift (fun x e => whenDue e.dumpDue (fun e => e.dumpCapture x log cores unreadable) e) s

/-- DUMP_COMPLETE (R430). -/
def execDumpComplete (s : State) : Host.Outcome State Fault Refusal :=
  lift (fun _ e => whenDue e.fwRuns (fun e => e.dumpComplete) e) s

end Sys2Proof.Machine
end

