-- ==== Sys2Proof/Machine/SchedActions.lean ====
section
/-! DEFINITION. What a firing schedule entry does (spec/03_schedule.md R71 to R73, R82): one operation for every action a user entry may
carry, and the commands of the actions. -/

namespace Sys2Proof.Machine

/-- Bytes of an action's argument as a number. -/
def argField (arg i n : Nat) : Nat := arg / 2 ^ (8 * i) % 2 ^ (8 * n)

/-- PULSE (R77, R79, R82): an edge on every output of the mask, at the entry's instant, or now when it is late; none when the firing was
deferred or stepped over. -/
def pulseAct (x : Ctx) (edge : Bool) (s : SchedEntry) (e : Eng) : WriteRes :=
  let v := if s.late then x.acc 0 else s.inst
  (stOk, if edge && !s.overrun then
      (List.range 4).foldl (fun e n => if bitOf (argByte s.arg 0) n then e.pulseOn n (argByte s.arg 1) v else e) e
    else e)

/-- SNAPSHOT (R71, R83): the pages of the mask, and the short times of all moons. -/
def snapshotAct (x : Ctx) (i : Nat) (s : SchedEntry) (e : Eng) : WriteRes :=
  let e := e.snapMask x (argField s.arg 0 12)
  let e := (e.set Od.SCHED_SNAP.tick x.tick).set Od.SCHED_SNAP.entry i
  let e := e.inc32 Od.SCHED_SNAP.sequence
  (stOk, (List.range 32).foldl (fun e k => e.set (Od.SCHED_SNAP_MOON k) (x.st k)) e)

/-- WINDOW (R386). -/
def windowAct (x : Ctx) (s : SchedEntry) (e : Eng) : WriteRes := (stOk, e.closeWindows x (argField s.arg 0 8))

/-- CAL_WINDOW (R126); the manual gives byte 4 no meaning above 1 (notes/assumptions/29.md). -/
def calWindowAct (x : Ctx) (s : SchedEntry) (e : Eng) : WriteRes :=
  let mask := argField s.arg 0 4
  match argByte s.arg 4 with
  | 0 => calCloseWrite x mask e
  | 1 => calOpenWrite x mask e
  | _ => (stRange, e)

/-- KEY_ROTATE (R173): from the moon 0 instant of the firing. -/
def keyRotateAct (x : Ctx) (s : SchedEntry) (e : Eng) : WriteRes := slotRotate x (argByte s.arg 0) (x.lin 0) e

/-- SWITCH (R272): the selector takes it at the next closing tick. -/
def switchAct (i : Nat) (s : SchedEntry) (e : Eng) : WriteRes :=
  let k := argByte s.arg 0
  let c := argByte s.arg 1
  if 31 < k then (e.switchCause k c, e) else (stOk, e.modSelMoon k (fun m => { m with switchTo := some (c, i) }))

/-- DICT_WRITE (R72, R411): steps 6 to 8 of R344 against the values in force, with MODE in Eclipse before step 8, under the roles
recorded; accounted for like any other write (R362). -/
def dictWriteAct (x : Ctx) (s : SchedEntry) (e : Eng) : WriteRes :=
  let k := dictTarget s.arg
  let bytes := (leBytes 12 (argField s.arg 4 12)).take (objSize k)
  let ws := (splitRecord k (objRows k) bytes).filter (fun p => p.1.writable p.2.1)
  let w := if !ws.all (fun p => p.1.step7 p.2.2) then (stRange, e)
    else if e.modeRefused k.area then (stMode, e)
    else e.step8Bytes x k bytes s.roles
  (w.1, w.2.account x (persistentWrite k) w.1)

/-- EVENT (R71). -/
def eventAct (x : Ctx) (e : Eng) : WriteRes := (stOk, e.irqLatch x 224)

/-- The action of entry `i` at its firing tick; `edge` says that a PULSE may place its edges. -/
def schedAct (x : Ctx) (i : Nat) (edge : Bool) (s : SchedEntry) (e : Eng) : WriteRes :=
  match s.action with
  | 1 => pulseAct x edge s e
  | 2 => snapshotAct x i s e
  | 3 => windowAct x s e
  | 4 => calWindowAct x s e
  | 5 => keyRotateAct x s e
  | 6 => switchAct i s e
  | 7 => dictWriteAct x s e
  | 8 => eventAct x e
  | _ => (stOk, e)

/-- Entry `i` fires, when it is due with this action. -/
def Eng.fireAction (e : Eng) (x : Ctx) (i action : Nat) : Eng :=
  whenDue (e.fireDue x i action) (fun e => e.fire x i (schedAct x i true)) e

/-! ## The commands -/

/-- PULSE (R82). -/
def execPulse (entry : Fin 1024) (s : State) : Host.Outcome State Fault Refusal := lift (fun x e => e.fireAction x entry 1) s

/-- SNAPSHOT (R71). -/
def execSnapshot (entry : Fin 1024) (s : State) : Host.Outcome State Fault Refusal := lift (fun x e => e.fireAction x entry 2) s

/-- WINDOW (R386). -/
def execWindow (entry : Fin 1024) (s : State) : Host.Outcome State Fault Refusal := lift (fun x e => e.fireAction x entry 3) s

/-- CAL_WINDOW (R126). -/
def execCalWindow (entry : Fin 1024) (s : State) : Host.Outcome State Fault Refusal := lift (fun x e => e.fireAction x entry 4) s

/-- KEY_ROTATE (R173). -/
def execKeyRotate (entry : Fin 1024) (s : State) : Host.Outcome State Fault Refusal := lift (fun x e => e.fireAction x entry 5) s

/-- SWITCH (R272). -/
def execSwitch (entry : Fin 1024) (s : State) : Host.Outcome State Fault Refusal := lift (fun x e => e.fireAction x entry 6) s

/-- EVENT (R71). -/
def execEvent (entry : Fin 1024) (s : State) : Host.Outcome State Fault Refusal := lift (fun x e => e.fireAction x entry 8) s

end Sys2Proof.Machine
end

