-- ==== Sys2Proof/Machine/Reset.lean ====
section
/-! DEFINITION. Resets (spec/21_boot_power_dump.md R421 to R424, spec/20_faults_eclipse.md R413), what a write asked for that reaches beyond
the engines (a WARM reset, rollback fuses), the commands by which such a write comes, and the start of the time clock. -/

namespace Sys2Proof.Machine

/-! ## What a reset leaves (R413, R421, R430) -/

/-- A SAVE cut short leaves its copy without a good CRC (R358). -/
def Eng.saveCut (e : Eng) : Eng :=
  match e.front.save with
  | none => e
  | some r =>
    { e with flash := { e.flash with stores := modNth e.flash.stores r.copy (fun c => { c with valid := false }) } }

/-- The engines after a reset of everything but flash: THERM_TRIP_N is independent of reset, and what the command already put out
stands. The warning threshold's default is the part's (Table 21-2). -/
def Eng.wiped (e : Eng) (x : Ctx) (phase : Phase) : Eng :=
  let e := e.dumpCut.saveCut
  let n := Eng.atReset e.flash e.draws
  let n := { n with
    out := e.out, resp := e.resp, pins := { n.pins with thermTripN := e.pins.thermTripN }
    boot := { n.boot with phase := phase, oscSel := e.boot.oscSel } }
  if x.fuses.gradeS then n.set Od.THERM_CFG.warn_c (100 * 128) else n

/-- POWER_ON: everything (Table 21-3). -/
def Eng.powerOn (e : Eng) (x : Ctx) : Eng := e.wiped x .held

/-- WARM: the Eclipse record moves to FLT_ECLIPSE_PREV; the cause and the count are kept. `cause` is as RESET_CTRL.last_cause has it. -/
def Eng.warm (e : Eng) (x : Ctx) (cause : Nat) (phase : Phase) : Eng :=
  let kept := (List.range 11).map (fun i => (odKey 0x70 0x004 (i + 1), e.i (odKey 0x70 0x003 (i + 1))))
  let count : Nat := (e.n Od.RESET_CTRL.count + 1) % 2 ^ 32
  ((e.wiped x phase).setAll kept).setAll
    [(Od.FLT_GLOBAL.sticky, 1), (Od.RESET_CTRL.last_cause, (cause : Int)), (Od.RESET_CTRL.count, (count : Int))]

/-- RST_N goes low. In a reset that pin or POR_N holds, or one that the command or the automatic reset has just started, there is one
reset (R421, notes/assumptions/30.md). -/
def Eng.rstLow (e : Eng) (x : Ctx) : Eng :=
  match e.boot.phase with
  | .held => e
  | .locking =>
    if 3 ≤ e.n Od.RESET_CTRL.last_cause then { e with boot := { e.boot with phase := .held } } else e.warm x 2 .held
  | _ => e.warm x 2 .held

/-- The device after a reset that left its engines as `e`: the tick counter and the moons restart (R22, R40). -/
def State.restarted (s : State) (e : Eng) : State := { s with core := TimeCore.atReset, eng := e }

/-! ## What a write asked for (R422, R427) -/

/-- Rollback bits are blown up to a version; they are never lowered (R424). -/
def State.blow (s : State) : State :=
  match s.eng.boot.rollbackTo with
  | none => s
  | some v =>
    { s with
      fuses := { s.fuses with rollback := max s.fuses.rollback v }
      eng := { s.eng with boot := { s.eng.boot with rollbackTo := none } } }

/-- What the writes of this command asked for happens: fuses are blown, and a WARM reset starts. -/
def State.settle (s : State) : State :=
  let s := s.blow
  if s.eng.boot.warmAsked then s.restarted (s.eng.warm s.ctx 3 .locking) else s

/-- A command that may ask for a reset or for fuses. -/
def liftSettle (f : Ctx → Eng → Eng) (s : State) : Host.Outcome State Fault Refusal :=
  if s.eng.up then .next ({ s with eng := f s.ctx s.eng0 } : State).settle else .next { s with eng := s.eng0 }

/-! ## The automatic reset (R422) -/

/-- The instant has come, and no dump is being written, or 10 s have passed. -/
def Eng.autoDue (e : Eng) (x : Ctx) : Bool :=
  match e.flt.autoAt with
  | none => false
  | some t => stGe (x.st 0) t && (e.dump.writing.isNone || x.passed t (10 * unitsPerSec))

/-! ## The control cores (Table 20-7, Table 21-3) -/

/-- A control core's watchdog expires: the cores are reset, and what they alone hold is gone. -/
def Eng.watchdog (e : Eng) (x : Ctx) : Eng :=
  let e := e.dumpCut
  { e with boot := { e.boot with coresDown := true }, nts := { e.nts with sessions := [] } }.detect x 18 1 0

/-! ## The start of the time clock (R22, R40, R139, R383, R407) -/

/-- The time-clock PLL has locked: tick 0, the hash key and the phase of the core clock are drawn, and the scrubbers begin. -/
def Eng.start (e : Eng) (x : Ctx) : Eng :=
  let k := e.draw (2 ^ 128)
  let e := e.drawn
  let e := { e with boot := { e.boot with phase := .running }, ans := { e.ans with hashKey := k }, ctr := { e.ctr with phase := e.draws } }
  e.drawn.scrubStart x

/-- A whole write of any object, at its acceptance (R344): one of more than 1,024 bytes comes in parts alone (R374). -/
def Eng.objectWrite (e : Eng) (x : Ctx) (k : Key) (bytes : Bytes) (roles : Nat) : Eng :=
  let st := if 1024 < objSize k then stRange else e.judgeBytes k bytes roles
  if st = stOk then
    let w := e.step8Bytes x k bytes roles
    w.2.account x (persistentWrite k) w.1
  else e.account x false st

/-! ## The commands -/

/-- POWER_ON_RESET (R421): POR_N low. -/
def execPowerOnReset (s : State) : Host.Outcome State Fault Refusal := .next (s.restarted (s.eng0.powerOn s.ctx))

/-- WARM_RESET (R421): RST_N low. -/
def execWarmReset (s : State) : Host.Outcome State Fault Refusal := .next (s.restarted (s.eng0.rstLow s.ctx))

/-- RESET_COMMAND_WARM (R422). -/
def execResetCommandWarm (value roles : Nat) (s : State) : Host.Outcome State Fault Refusal :=
  liftSettle (fun x e => e.writeCmd x Od.RESET_CTRL.command value roles resetWrite) s

/-- AUTO_RESET (R422). -/
def execAutoReset (s : State) : Host.Outcome State Fault Refusal :=
  if s.eng.up && s.eng.autoDue s.ctx then .next (s.restarted (s.eng0.warm s.ctx 4 .locking)) else .next { s with eng := s.eng0 }

/-- RESET_RELEASE (R423): POR_N or RST_N rises, and the straps are sampled. -/
def execResetRelease (osc : Fin 4) (forceB : Bool) (s : State) : Host.Outcome State Fault Refusal :=
  liftAlways (fun _ e => whenDue (e.boot.phase == .held)
    (fun e => { e with boot := { e.boot with phase := .locking, oscSel := osc, forceB := forceB } }) e) s

/-- PLL_LOCK (R22, R424): a parity error found in the fuse shadow as it was copied holds the device in reset. -/
def execPllLock (fuseGood : Bool) (s : State) : Host.Outcome State Fault Refusal :=
  liftAlways (fun x e => whenDue (e.boot.phase == .locking)
    (fun e => if fuseGood then e.start x else { e with boot := { e.boot with phase := .stuck } }) e) s

/-- PLL_LOCK_TIMEOUT (R423). -/
def execPllLockTimeout (s : State) : Host.Outcome State Fault Refusal :=
  liftAlways (fun _ e => whenDue (e.boot.phase == .locking) (fun e => { e with boot := { e.boot with phase := .stuck } }) e) s

/-- WATCHDOG_EXPIRY (Table 20-7): of a core that has not serviced it. -/
def execWatchdogExpiry (s : State) : Host.Outcome State Fault Refusal :=
  lift (fun x e => whenDue (e.boot.fw && !e.boot.coresDown) (fun e => e.watchdog x) e) s

/-- CORES_RESTART (R353). -/
def execCoresRestart (s : State) : Host.Outcome State Fault Refusal :=
  lift (fun _ e => { e with boot := { e.boot with coresDown := false } }) s

/-- ADVANCE_ROLLBACK (R427). -/
def execAdvanceRollback (value roles : Nat) (s : State) : Host.Outcome State Fault Refusal :=
  liftSettle (fun x e => e.writeCmd x Od.FUSE.advance_rollback value roles (rollbackWrite x value)) s

/-- DICT_WRITE (R72). -/
def execDictWrite (entry : Fin 1024) (s : State) : Host.Outcome State Fault Refusal :=
  liftSettle (fun x e => e.fireAction x entry 7) s

/-- WRITE_QUEUE_DRAIN (R353). -/
def execWriteQueueDrain (s : State) : Host.Outcome State Fault Refusal :=
  liftSettle (fun x e => whenDue e.served (fun e => e.drainOne x) e) s

/-- DICT_OBJECT_WRITE (R344). -/
def execDictObjectWrite (area im : Nat) (bytes : Bytes) (roles : Nat) (s : State) : Host.Outcome State Fault Refusal :=
  liftSettle (fun x e => e.objectWrite x (area % 256 * 65536 + im % 65536) bytes roles) s

end Sys2Proof.Machine
end

