-- ==== Sys2Proof/Machine/Boot.lean ====
section
/-! DEFINITION. The boot (spec/21_boot_power_dump.md R425, R426, R428, R446, spec/17_dictionary.md R358, R449, spec/08_nts.md R175,
spec/05_wire_timestamps.md R125, spec/11_gnss.md R237): DDR training, the credentials, the image, the stores, and the restore tick. -/

namespace Sys2Proof.Machine

/-! ## DDR and the image (R425, R426, R446) -/

/-- RECOVERY is entered. -/
def Eng.recover (e : Eng) : Eng := { e with boot := { e.boot with recovery := true } }.set Od.BOOT_STATUS.state 2

/-- DDR training has ended; a failure leads to RECOVERY with both slots untried. -/
def Eng.ddrTrained (e : Eng) (good : Bool) : Eng :=
  if e.boot.ddr || e.boot.recovery then e
  else if good then { e with boot := { e.boot with ddr := true } } else e.recover

/-- The object that keeps why slot `s` was refused. -/
def refusedKey (s : Nat) : Key := if s = 0 then Od.BOOT_STATUS.refused_a else Od.BOOT_STATUS.refused_b

/-- The image of slot `s` passed: it is loaded and started. -/
def Eng.boots (e : Eng) (s : Nat) : Eng :=
  let e := { e with boot := { e.boot with fw := true, slot := s } }
  e.setAll [(Od.BOOT_STATUS.state, 1), (Od.BOOT_STATUS.slot, (s : Int)),
    (Od.BOOT_STATUS.security_version, ((e.slotImage s).secVersion : Int))]

/-- The ROM tries the slots of a list in order. -/
def Eng.trySlots (e : Eng) (x : Ctx) : List Nat → Eng
  | [] => e.recover
  | s :: ss =>
    let c := (e.slotImage s).check x
    let e := e.set (refusedKey s) (c : Nat)
    if c = 1 then e.boots s else e.trySlots x ss

/-- The preferred slot, and then the other (R423, R425). -/
def Eng.bootImage (e : Eng) (x : Ctx) : Eng :=
  let p := if e.boot.forceB then 1 else e.flash.preferred
  if e.boot.ddr && !e.boot.fw && !e.boot.recovery then e.trySlots x [p, 1 - p] else e

/-! ## Stores (R125, R175, R237, R371) -/

/-- A credential's object. -/
def isCredKey (k : Key) : Bool := k.area == 0x60 && 0x010 ≤ k.item && k.item < 0x030

/-- Stored values come into force. -/
def Eng.loadValues (e : Eng) (vs : Store) : Eng := vs.foldl (fun e p => e.set p.1 p.2) e

/-- The ROM restores the credentials and their marks from a copy of the key store that is good; a bad copy is rewritten, and with both bad
the defaults stand and row 5 of block 7 is raised (notes/assumptions/31.md). -/
def Eng.credsRestored (e : Eng) (x : Ctx) (keyA keyB : Bool) : Eng :=
  if e.boot.creds then e
  else
    let e := { e with boot := { e.boot with creds := true }, flash := { e.flash with keyBad := [!keyA, !keyB] } }
    let e := if keyA && keyB then e else e.keyTouched x
    if keyA || keyB then
      let e := e.loadValues (e.flash.keyValues.filter (fun p => isCredKey p.1))
      { e with front := { e.front with creds := tabulate 32 (fun c =>
        let m := nth e.flash.marks c 0
        ⟨m, 0, m, []⟩) } }
    else
      { e with flash := { e.flash with keyValues := [], pkPriv := [], marks := [] } }.detect x 7 5 0

/-- The calibration items, each with its origin (Table 5-4). -/
def calItems : List Key :=
  (List.range 32).flatMap (fun l => [Od.LANE_CAL.rx_offset l, Od.LANE_CAL.tx_offset l]) ++
  (List.range 8).map Od.REFIN_CAL.delay ++
  (List.range 4).flatMap (fun u => [Od.GNSS_CAL.antenna u, Od.GNSS_CAL.cable u]) ++ [Od.OSC_SEED.f0]

/-- The calibration store: one bad copy is rewritten; with both bad every item reads 0 with origin INVALID (R125). -/
def Eng.calRestored (e : Eng) (x : Ctx) (calA calB : Bool) : Eng :=
  let e := { e with flash := { e.flash with calBad := [!calA, !calB] } }
  if calA || calB then
    let e := e.loadValues e.flash.calValues
    if calA && calB then e else { e with calWait := ⟨some (x.st 0)⟩ }.detect x 4 1 0
  else
    let e := calItems.foldl (fun e k => e.set (calOrigin k) 2) e
    let e := (List.range 32).foldl (fun e p => e.orb (Od.TS_PORT.sticky p) 16) e
    e.detect x 4 2 0

/-- The key store's slots, seed and private keys (R175): the CURRENT slot keeps its place. -/
def Eng.keysRestored (e : Eng) : Eng :=
  let e := e.loadValues (e.flash.keyValues.filter (fun p => !isCredKey p.1))
  let e := { e with pk := { e.pk with priv := e.flash.pkPriv } }
  match (List.range 16).find? (fun s => e.slotState s == 2) with
  | some s => e.set Od.NTS_STATUS.current_slot s
  | none => e

/-- Device firmware restores the stores; the oscillator model is to start from the restored seed. -/
def Eng.storesRestored (e : Eng) (x : Ctx) (calA calB : Bool) : Eng :=
  if e.fwRuns && !e.boot.stores then
    let e := (e.calRestored x calA calB).keysRestored
    { e with
      boot := { e.boot with stores := true }
      gnss := { e.gnss with orbits := e.flash.gnss, savedAt := x.st 0 }
      model := { e.model with seeded := false } }
  else e

/-! ## The restore (R17, R358) -/

/-- The copy used: the later of two good ones by the signed difference of their generations, or the one that is good. -/
def Eng.bootCopy (e : Eng) : Option Nat :=
  let a := nth e.flash.stores 0 ⟨false, 0, []⟩
  let b := nth e.flash.stores 1 ⟨false, 0, []⟩
  if a.valid && b.valid then some (if 0 < signed 32 (b.generation + 2 ^ 32 - a.generation) then 1 else 0)
  else if a.valid then some 0 else if b.valid then some 1 else none

/-- An object of the configuration store. -/
def isStoreKey (k : Key) : Bool := !roInstance k && (match rowOf k with | some r => r.persist == .store | none => false)

/-- The objects with the restored values in force. -/
def mergedWith (od : Store) (vs : Store) : Store := vs.foldl (fun s p => sset s p.1 p.2) (od.filter (fun p => !isStoreKey p.1))

/-- The write that stands for a restored value: a member whose single write would set others comes with them. -/
def restoreVs (od : Store) (k : Key) (v : Int) : List (Key × Int) :=
  let n := k.item - 0x100
  let withKeys (ks : List Key) := (k, v) :: ks.map (fun j => (j, sget od j))
  if k = Od.PORT_GLOBAL.esmc_option then withKeys [Od.PORT_GLOBAL.ql_locked, Od.PORT_GLOBAL.ql_holdover]
  else if k.area = 0x4C ∧ 0x100 ≤ k.item ∧ k.item < 0x120 ∧ k = Od.PTP_INST.profile n then withKeys [Od.PTP_INST.domain n]
  else [(k, v)]

/-- The engines with the restored values, but with value `k` at its default; the ring of NTS-KE is judged with NTS-KE disabled (R184). -/
def Eng.without (e : Eng) (od : Store) (k : Key) : Eng :=
  let od := sset od k (odDefault k)
  { e with od := if k = Od.NTS_KE.ring then sset od Od.NTS_KE.enable 0 else od }

/-- A classifier rule as restored is one that could be committed (R105). -/
def restoredRuleOk (od : Store) (k : Key) (v : Int) : Bool :=
  let rule := ruleOf od (k.item - 0x800)
  (match rowOf (k + 0x4000) with | some r => r.step7 v && r.inRange v | none => false) && !(sget od (Od.RULE_ACTIVE.valid (k.item - 0x800)) == 1 && rule.bad)

/-- A stored value passes steps 6 to 8 against the others (R358); an RO one has no check but its type's. -/
def Eng.restoreOk (e : Eng) (x : Ctx) (od : Store) (k : Key) (v : Int) : Bool :=
  match rowOf k with
  | none => false
  | some r =>
    isStoreKey k && r.ty.holds v && r.step7 v && r.inRange v &&
      (if isActiveKey k then restoredRuleOk od k v
      else !r.writable k || (applyWrite x k (restoreVs od k v) 15 (e.without od k)).1 == stOk)

/-- The rounds of R358: the values that fail take their defaults and are counted, until none fails. -/
def Eng.restoreRounds (e : Eng) (x : Ctx) : Nat → Store → Store × Nat
  | 0, vs => (vs, 0)
  | f + 1, vs =>
    let od := mergedWith e.od vs
    let good := vs.filter (fun p => e.restoreOk x od p.1 p.2)
    if good.length = vs.length then (vs, 0)
    else
      let r := e.restoreRounds x f good
      (r.1, r.2 + (vs.length - good.length))

/-- What the write of a restored value changes beside its object. -/
def restoreOne (x : Ctx) (od : Store) (e : Eng) (p : Key × Int) : Eng :=
  match rowOf p.1 with
  | none => e
  | some r =>
    if r.writable p.1 then
      let w := applyWrite x p.1 (restoreVs od p.1 p.2) 15 (e.without e.od p.1)
      if w.1 = stOk then { w.2 with od := sset w.2.od p.1 p.2 } else e
    else e

/-- The persistent objects exactly as `od` has them, and the rules' edit bank as the active one (R108). -/
def Eng.forceStore (e : Eng) (od : Store) : Eng :=
  let s := (e.od.filter (fun p => !isStoreKey p.1 && !isEditKey p.1))
  let s := (od.filter (fun p => isStoreKey p.1)).foldl (fun s p => sset s p.1 p.2) s
  { e with od := (od.filter (fun p => isActiveKey p.1)).foldl (fun s p => sset s (p.1 + 0x4000) p.2) s }

/-- Restored values take effect together. -/
def Eng.restoreValues (e : Eng) (x : Ctx) (vs : Store) : Eng :=
  let a := e.restoreRounds x (vs.length + 1) vs
  let od := mergedWith e.od a.1
  let e := a.1.foldl (restoreOne x od) { e with od := od }
  let e := e.forceStore od
  let pps := e.outs.pps.map (fun (u : PpsUnit) => { u with rebuild := true })
  let e := { e with ans := { e.ans with deferred := [] }, outs := { e.outs with pps := pps } }
  let e := (List.range 32).foldl (fun e k => e.recomputeTracker x k) (e.rebind x)
  if a.2 = 0 then e
  else (e.set Od.STORE.restore_refused (a.2 % 2 ^ 32 : Nat)).orb Od.DICT_STATUS.sticky 64

/-- The restore tick (R358, R428, R410): the values, then ECLIPSE_N is released and the write queue drains. -/
def Eng.restoreTick (e : Eng) (x : Ctx) : Eng :=
  if e.fwRuns && e.boot.stores && !e.boot.restored then
    let c := e.bootCopy
    let copy := match c with | some c => nth e.flash.stores c ⟨false, 0, []⟩ | none => ⟨false, 0, []⟩
    let e := e.restoreValues x copy.values
    let e := e.setAll [(Od.STORE.boot_copy, match c with | some c => (c : Int) | none => 0xFF),
      (Od.STORE.generation, (copy.generation : Int)), (Od.BOOT_STATUS.restore_tick, (x.tick : Int))]
    { e with
      boot := { e.boot with restored := true }, front := { e.front with lastCopy := c, headAt := x.tick }
      pins := { e.pins with eclipseN := !e.flt.eclipse } }
  else e

/-! ## The commands -/

/-- DDR_TRAINED (R446). -/
def execDdrTrained (good : Bool) (s : State) : Host.Outcome State Fault Refusal := lift (fun _ e => e.ddrTrained good) s

/-- CREDENTIALS_RESTORED (R449): which copies of the key store have a good CRC. -/
def execCredentialsRestored (keyA keyB : Bool) (s : State) : Host.Outcome State Fault Refusal :=
  lift (fun x e => e.credsRestored x keyA keyB) s

/-- IMAGE_VERIFIED (R425). -/
def execImageVerified (s : State) : Host.Outcome State Fault Refusal := lift (fun x e => e.bootImage x) s

/-- STORES_RESTORED (R428): which copies of the calibration store have a good CRC. -/
def execStoresRestored (calA calB : Bool) (s : State) : Host.Outcome State Fault Refusal :=
  lift (fun x e => e.storesRestored x calA calB) s

/-- RESTORE_TICK (R358). -/
def execRestoreTick (s : State) : Host.Outcome State Fault Refusal := lift (fun x e => e.restoreTick x) s

end Sys2Proof.Machine
end

