-- ==== Sys2Proof/Machine/Ecc.lean ====
section
/-! DEFINITION. Errors the ECC of the on-die memories finds, on a read or by a scrubber (spec/20_faults_eclipse.md R407 and the fault tables of
the owners: R70, R106, R163, R188, R196, R219, R237, R276, R294, R322, R342, Tables 6-7 and 20-2). -/

namespace Sys2Proof.Machine

/-- Row `ok` of block `b` when the word was corrected, else row `bad` after its owner's action. -/
def Eng.eccRows (e : Eng) (x : Ctx) (b ok bad inst : Nat) (uncorr : Bool) (act : Eng → Eng) : Eng :=
  if uncorr then (act e).detect x b bad inst else e.detect x b ok inst

/-- An uncorrectable schedule entry goes to VOID with ecc_void (R70). -/
def Eng.eccEntry (e : Eng) (i : Nat) : Eng :=
  let s := e.entry i
  (e.setEntry i { s with state := .void, flags := s.flags ||| 128 }).orb Od.SCHED_STATUS.sticky 32

/-- An uncorrectable slot history (Table 12-5): history and prediction restart, and the slot serves a full wait. -/
def Eng.eccHistory (e : Eng) (x : Ctx) (s : Nat) : Eng :=
  let e := e.modSlot s (fun t => { t.forget with pred := none, outlier := none, second := 0 })
  if e.selState s = 2 ∨ e.selState s = 3 then
    if e.waitSeconds s = 0 then e
    else ((e.set (Od.SEL_SLOT_STATUS.state s) 2).set (Od.SEL_SLOT_STATUS.wtr_remaining s) (e.waitSeconds s)).modSlot s
      (fun t => { t with wait := some (x.st 0) })
  else e

/-- An uncorrectable error in a moon's configuration or shadow (Table 12-5): the shadow is invalid, and the selection held. -/
def Eng.eccSelMoon (e : Eng) (k : Nat) : Eng :=
  let e := e.modSelMoon k (fun m => { m with anchors := [] })
  { e with sel := { e.sel with held := k :: e.sel.held.filter (fun j => j != k) } }

/-- A transmit frame whose bytes are lost completes with DMA_ERR, wherever it waits (Table 16-14). -/
def Eng.eccTxFrame (e : Eng) (x : Ctx) (r first : Nat) : Eng :=
  let own (q : Resv) : Bool := match q.origin with | .host ring seq _ _ => ring == r && seq == first | _ => false
  let e := (List.range 32).foldl (fun e p =>
    ((e.cal p).resv.filter own).foldl (fun e q => e.withdraw x p q.block) e) e
  let e := e.modTx r (fun g => { g with
    launch := match g.launch with | some l => if l.first = first then none else some l | none => none
    waiting := g.waiting.filter (fun w => w.2.1 != first) })
  (e.txFinish x r first 5).stopTx x r 2

/-- A frame in packet memory, or on its way over the interconnect, is lost: its owner discards it (Table 20-2, block 19). -/
def Eng.packetLost (e : Eng) (x : Ctx) (o : PacketOwner) : Eng :=
  match o with
  | .request p i =>
    match (e.pipe p).queue[i]? with
    | some q => ((e.modPipe p (fun s => { s with queue := s.queue.eraseIdx i })).slotCount x p 4).ansDropped x p q.rule 12
    | none => e
  | .timed p i =>
    match (e.cal p).resv[i]? with
    | some q => (e.modCal p (fun c => { c with resv := c.resv.eraseIdx i })).resvDiscard x p 8 q
    | none => e

/-- A write of the queue whose entry is lost is refused with ECC (Table 20-2, block 16). -/
def Eng.eccWrite (e : Eng) (x : Ctx) (i : Nat) : Eng :=
  match e.front.queue[i]? with
  | none => e
  | some w =>
    let head := if i = 0 then x.tick else e.front.headAt
    let e := { e with front := { e.front with queue := e.front.queue.eraseIdx i, headAt := head } }
    let a := e.refuse x w.cred stEcc
    a.2.answerOp x w.req a.1

/-- An entry of the service tables, rules and answer engine. -/
def Eng.eccService (e : Eng) (x : Ctx) (cell : EccCell) (uncorr : Bool) : Eng :=
  match cell with
  | .rule r => e.eccRows x 2 1 2 0 uncorr (fun e => { e with cls := { e.cls with badRules := r.val :: e.cls.badRules } })
  | .service v6 i => e.eccRows x 2 1 3 0 uncorr (fun e =>
      { e with cls := { e.cls with badSvc := (if v6 then 256 + i.val else i.val) :: e.cls.badSvc } })
  | .answerRule r => (e.orb Od.ANS_STATUS.sticky 64).eccRows x 5 1 3 0 uncorr (fun e =>
      { e with ans := { e.ans with badRules := r.val :: e.ans.badRules } })
  | .rateProfile p => (e.orb Od.ANS_STATUS.sticky 64).eccRows x 5 1 3 0 uncorr (fun e =>
      { e with ans := { e.ans with badProfiles := p.val :: e.ans.badProfiles } })
  | .bucket b => (e.orb Od.ANS_STATUS.sticky 64).eccRows x 5 1 2 0 uncorr (fun e =>
      { e with ans := { e.ans with buckets := tdel e.ans.buckets b } })
  | .latch k => if uncorr then e.orb Od.ANS_STATUS.sticky 64 else (e.orb Od.ANS_STATUS.sticky 64).detect x 5 1 k
  | _ => e

/-- A reservation, key, grant or record of the time path. -/
def Eng.eccTime (e : Eng) (x : Ctx) (cell : EccCell) (uncorr : Bool) : Eng :=
  match cell with
  | .schedEntry i => e.eccRows x 1 1 2 0 uncorr (fun e => e.eccEntry i)
  | .reservation p i =>
    match (e.cal p).resv[i]? with
    | none => e
    | some q => e.eccRows x 6 1 2 p uncorr (fun e =>
        (e.modCal p (fun c => { c with resv := c.resv.eraseIdx i })).resvDiscard x p 10 q)
  | .slotKey s => e.eccRows x 7 1 2 s uncorr (fun e => e.slotClear x s (x.lin 0))
  | .seed => e.eccRows x 7 1 3 0 uncorr (fun e =>
      (e.setAll [(Od.NTS_STATION.seed, 0), (Od.NTS_STATION.seed_set, 0), (Od.NTS_STATION.seed_check, 0)]).keyTouched x)
  | .grant c => (e.orb Od.PTP_STATUS.sticky 8).eccRows x 8 1 2 0 uncorr (fun e =>
      match e.ptp.clients[c]? with
      | some d => { e with ptp := { e.ptp with clients := e.ptp.clients.eraseIdx c } }.ptpShow x d.inst
      | none => e)
  | _ => e

/-- A word of the references, the selector, steering or the public-key engine. A word that Tables 12-5, 13-4 and 20-2 name no
uncorrectable row for takes no action. -/
def Eng.eccStation (e : Eng) (x : Ctx) (cell : EccCell) (uncorr : Bool) : Eng :=
  match cell with
  | .refConfig => if uncorr then e else e.detect x 9 2 0
  | .orbit sys prn => e.eccRows x 10 3 4 0 uncorr (fun e =>
      { e with gnss := { e.gnss with orbits := tdel e.gnss.orbits (256 * sys.val + prn) } })
  | .gnssConfig => if uncorr then e else e.detect x 10 3 0
  | .matrix => if uncorr then e else (e.orb Od.SEL_STATUS.sticky 32).detect x 11 1 0
  | .slotHistory s => (e.orb Od.SEL_STATUS.sticky 32).eccRows x 11 1 2 s uncorr (fun e => e.eccHistory x s)
  | .selMoon k => (e.orb Od.SEL_STATUS.sticky 32).eccRows x 11 1 3 k uncorr (fun e => e.eccSelMoon k)
  | .steering => if uncorr then e else (e.orb Od.STEER_GLOBAL.sticky 16).detect x 12 1 0
  | .operand w => (e.orb Od.PK_STATUS.sticky 2).eccRows x 14 2 3 0 uncorr (fun e =>
      { e with pk := { e.pk with bad := w :: e.pk.bad.filter (fun b => b != w) } })
  | .operandSlot s => (e.orb Od.PK_STATUS.sticky 2).eccRows x 14 2 3 0 uncorr (fun e =>
      let ws := (List.range (e.pkLen s)).map (fun i => e.pkBase s + i)
      { e with pk := { e.pk with bad := ws ++ e.pk.bad.filter (fun b => !ws.contains b) } })
  | _ => e

/-- A word of the host interface, the front or packet memory. -/
def Eng.eccHost (e : Eng) (x : Ctx) (cell : EccCell) (uncorr : Bool) : Eng :=
  match cell with
  | .ringCache tx r => (e.orb Od.HOST_STATUS.sticky 8).eccRows x 15 1 3 r uncorr (fun e => if tx then e.stopTx x r 2 else e.stopRx x r 2)
  | .txFrame r f => (e.orb Od.HOST_STATUS.sticky 8).eccRows x 15 1 3 r uncorr (fun e => e.eccTxFrame x r f)
  | .rxFrame p i =>
    match (e.port p).rxHeld[i]? with
    | none => e
    | some h => (e.orb Od.HOST_STATUS.sticky 8).eccRows x 15 1 2 p uncorr (fun e =>
        (e.modPort p (fun q => { q with rxHeld := q.rxHeld.eraseIdx i })).rxNoBuffer x p h)
  | .tailEntry p i =>
    if i < (e.tail p).entries.length then
      (e.orb Od.HOST_STATUS.sticky 8).eccRows x 15 1 4 p uncorr (fun e =>
        { e with tails := modNth e.tails p (fun q =>
          { q with entries := q.entries.eraseIdx i, lost := (q.lost + 1) % 2 ^ 32, lossPending := true }) })
    else e
  | .writeQueue i => if i < e.front.queue.length then e.eccRows x 16 3 4 0 uncorr (fun e => e.eccWrite x i) else e
  | .packet o => e.eccRows x 19 1 2 0 uncorr (fun e => e.packetLost x o)
  | _ => e

/-- An error found in a word: corrected and written back with its owner's CORRECTED row, or its owner's action. -/
def Eng.eccFound (e : Eng) (x : Ctx) (cell : EccCell) (uncorr : Bool) : Eng :=
  match cell with
  | .rule _ | .service _ _ | .answerRule _ | .rateProfile _ | .bucket _ | .latch _ => e.eccService x cell uncorr
  | .schedEntry _ | .reservation _ _ | .slotKey _ | .seed | .grant _ => e.eccTime x cell uncorr
  | .refConfig | .orbit _ _ | .gnssConfig | .matrix | .slotHistory _ | .selMoon _ | .steering | .operand _ | .operandSlot _ =>
    e.eccStation x cell uncorr
  | .ringCache _ _ | .txFrame _ _ | .rxFrame _ _ | .tailEntry _ _ | .writeQueue _ | .packet _ => e.eccHost x cell uncorr

/-! ## Scrubbing (R407) -/

/-- The number of a scrubbed memory. -/
def eccMemoryCode : EccMemory → Nat
  | .state => 0
  | .schedule => 1
  | .calendar => 2
  | .keyStore => 3
  | .reference => 4
  | .gnss => 5
  | .selector => 6
  | .steering => 7
  | .operand => 8
  | .host => 9
  | .front => 10
  | .packet => 11

/-- The words of the state memory, which one of its cycles reads. -/
def stateWords : Nat := 8388608

/-- A scrubber reads one word: what it finds, and the end of a cycle at the memory's last word. -/
def Eng.scrubRead (e : Eng) (x : Ctx) (m : EccMemory) (last : Bool) (found : Option (EccCell × Bool)) : Eng :=
  let c := tgetD e.flt.scrubs (eccMemoryCode m) (ScrubCycle.begun x)
  let ended := if m = .state then c.words + 1 = stateWords else last
  let e := if ended ∧ m = .state then e.set Od.FLT_GLOBAL.scrub_cycle_ticks ((x.tick - c.tick : Nat) : Int) else e
  let c := if ended then ScrubCycle.begun x else { c with words := c.words + 1 }
  let e := { e with flt := { e.flt with scrubs := tput e.flt.scrubs (eccMemoryCode m) c } }
  match found with
  | some (cell, uncorr) => e.eccFound x cell uncorr
  | none => e

/-- A cycle that has not completed 8 s after it began, and has not been reported. -/
def Eng.scrubLate (e : Eng) (x : Ctx) (m : EccMemory) : Bool :=
  match tget e.flt.scrubs (eccMemoryCode m) with
  | some c => !c.late && x.passed c.st (8 * unitsPerSec)
  | none => false

/-- The overrun of a cycle. -/
def Eng.scrubOverrun (e : Eng) (x : Ctx) (m : EccMemory) : Eng :=
  let c := tgetD e.flt.scrubs (eccMemoryCode m) (ScrubCycle.begun x)
  ({ e with flt := { e.flt with scrubs := tput e.flt.scrubs (eccMemoryCode m) { c with late := true } } }.orb Od.FLT_GLOBAL.sticky 16).detect
    x 23 1 0

/-! ## The commands -/

/-- SCRUB_READ (R407): a word of a memory; `last` says that it is the memory's last one. -/
def execScrubRead (memory : EccMemory) (last : Bool) (found : Option (EccCell × Bool)) (s : State) :
    Host.Outcome State Fault Refusal :=
  lift (fun x e => whenDue (e.b Od.FLT_GLOBAL.scrub_enable) (fun e => e.scrubRead x memory last found) e) s

/-- SCRUB_OVERRUN (R407). -/
def execScrubOverrun (memory : EccMemory) (s : State) : Host.Outcome State Fault Refusal :=
  lift (fun x e => whenDue (e.scrubLate x memory) (fun e => e.scrubOverrun x memory) e) s

end Sys2Proof.Machine
end

