-- ==== Sys2Proof/Machine/Monitors.lean ====
section
/-! DEFINITION. The monitors: the time-clock monitor and the PLLs (spec/01_architecture.md R21, spec/22_pins_electrical.md R438, Table
20-2 block 20), the supply and temperature monitors and the adaptive core voltage (spec/21_boot_power_dump.md R417 to R420, Table
22-3). -/

namespace Sys2Proof.Machine

/-! ## The time-clock monitor (R21, R438) -/

/-- 100 ppm in ppb, the tolerance against the core clock. -/
def coreTolerance : Nat := 100000

/-- 2,000 ppm in ppb, the tolerance against the ring oscillator. -/
def ringTolerance : Nat := 2000000

/-- The two comparisons of 1,024 ticks: one that is out of tolerance twice in a row is FATAL. -/
def Eng.clockMonitor (e : Eng) (x : Ctx) (coreDev ringDev : Int) : Eng :=
  let core := decide (coreTolerance < coreDev.natAbs)
  let ring := decide (ringTolerance < ringDev.natAbs)
  let bad := core && e.mon.coreOut || ring && e.mon.ringOut
  let e := { e with mon := { e.mon with coreOut := core, ringOut := ring, ringPpb := ringDev } }
  if bad then e.detect x 0 4 0 else e

/-! ## PLLs (Table 20-2 blocks 0 and 20) -/

/-- The DDR PLL unlocks: the control cores are held. -/
def Eng.ddrUnlock (e : Eng) (x : Ctx) : Eng := { e with boot := { e.boot with coresHeld := true } }.condOn x 20 2 0

/-- The DDR PLL locks again: the control cores are released. -/
def Eng.ddrLock (e : Eng) (x : Ctx) : Eng := { e with boot := { e.boot with coresHeld := false } }.condOff x 20 2 0

/-- A SerDes group's PLL unlocks: its ports go down (R85). -/
def Eng.serdesUnlock (e : Eng) (x : Ctx) (g : Nat) : Eng := (e.condOn x 20 3 g).groupDown x g

/-! ## Supplies (R418, R435) -/

/-- The limits of rail `i` in 100 µV, in the order of Table 21-1: recommended low and high, monitor low and high (Table 22-3). VDD_CORE is
judged against the AVS target in force. -/
def Eng.railLimits (e : Eng) (i : Nat) : Nat × Nat × Nat × Nat :=
  let t := 10 * e.n Od.PWR_STATUS.vcore_mv
  match i with
  | 0 => (t - 150, t + 150, t - 300, t + 300)
  | 1 => (8245, 8755, 8075, 8925)
  | 2 => (7350, 7650, 7200, 7800)
  | 3 => (11640, 12360, 11400, 12600)
  | 4 => (10670, 11330, 10450, 11550)
  | 5 => (17460, 18540, 17100, 18900)
  | 6 => (17100, 18900, 16740, 19260)
  | _ => (31350, 34650, 30690, 35310)

/-- The rails of a sample that trip the monitors. -/
def Eng.railsOut (e : Eng) (rails : List Nat) : List Nat :=
  (rails.zipIdx.filter (fun p => let l := e.railLimits p.2; p.1 < l.2.2.1 || l.2.2.2 < p.1)).map (fun p => p.2)

/-- Some rail lies outside its recommended conditions. -/
def Eng.railsLow (e : Eng) (rails : List Nat) : Bool :=
  rails.zipIdx.any (fun p => let l := e.railLimits p.2; p.1 < l.1 || l.2.1 < p.1)

/-- A condition of kind state of block 21, as a sample shows it. -/
def Eng.condIs (e : Eng) (x : Ctx) (row : Nat) (present : Bool) : Eng := if present then e.condOn x 21 row 0 else e.condOff x 21 row 0

/-! ## Temperatures (R418, Tables 0-1 and 21-2) -/

/-- The part's junction range in 1/128 °C (Table 0-1). -/
def Ctx.junction (x : Ctx) : Int × Int := if x.fuses.gradeS then (0, 105 * 128) else (-40 * 128, 125 * 128)

/-- A temperature is sampled: THERM shows it with the highest since the peaks were cleared. -/
def Eng.thermSample (e : Eng) (i : Nat) (t : Int) : Eng :=
  let first := !e.mon.sampled
  let e := e.set (Od.THERM.now i) t
  if first then e.set (Od.THERM.peak i) t
  else if e.i (Od.THERM.peak i) < t then (e.set (Od.THERM.peak i) t).orb Od.PWR_STATUS.sticky 2 else e

/-- A sample of every rail and every sensor (R418). -/
def Eng.monitorSample (e : Eng) (x : Ctx) (rails : List Nat) (temps : List Int) : Eng :=
  let rails := rails.take 8
  let temps := temps.take 16
  let out := e.railsOut rails
  let hot := (temps.zipIdx.filter (fun p => decide (x.shutdownC < p.1))).map (fun p => p.2)
  let tripped := out.any (fun r => e.mon.railOut.contains r)
  let hotNow := hot.any (fun i => e.mon.hot.contains i)
  let j := x.junction
  let low := e.railsLow rails
  let e := temps.zipIdx.foldl (fun e p => e.thermSample p.2 p.1) e
  let e := { e with mon := { e.mon with
    sampled := true, railOut := out, hot := hot, supplyLow := low
    tempOut := temps.any (fun t => decide (t < j.1) || decide (j.2 < t)) } }
  let e := if temps.any (fun t => decide (e.i Od.THERM_CFG.warn_c < t)) then e.orb Od.PWR_STATUS.sticky 1 else e
  (e.condIs x 1 tripped).condIs x 2 hotNow

/-! ## Adaptive core voltage (R419, R420, R34) -/

/-- The slowest of the ring-oscillator margins. -/
def slowest : List Int → Int
  | [] => 0
  | m :: ms => ms.foldl min m

/-- The transaction the loop makes this period: the one not acknowledged yet, or the target moved by 5 mV towards the band and clamped to
the fused window; none within the band. -/
def Eng.avsWanted (e : Eng) (x : Ctx) (margin : Int) : Option Nat :=
  let v := e.n Od.PWR_STATUS.vcore_mv
  match e.mon.avsRetry with
  | some t => some t
  | none => if margin < x.fuses.avsLow then some (v + 5) else if x.fuses.avsHigh < margin then some (v - 5) else none

/-- A voltage write over AVSBus: emitted, and in force once acknowledged. -/
def Eng.avsSend (e : Eng) (mv : Nat) (acknowledged : Bool) : Eng :=
  let e := e.emit (.avs mv)
  if acknowledged then { e with mon := { e.mon with avsRetry := none } }.set Od.PWR_STATUS.vcore_mv mv
  else ({ e with mon := { e.mon with avsRetry := some mv } }.inc32 Od.PWR_STATUS.avs_errors).orb Od.PWR_STATUS.sticky 4

/-- A period of the loop. -/
def Eng.avsLoop (e : Eng) (x : Ctx) (margins : List Int) (acknowledged : Bool) : Eng :=
  let m := max (-32768) (min 32767 (slowest margins))
  let e := e.set Od.PWR_STATUS.margin m
  match e.avsWanted x m with
  | none => e
  | some t =>
    let c := max x.fuses.vMin (min x.fuses.vMax t)
    let e := if c = t then e else (e.orb Od.PWR_STATUS.sticky 8).detect x 21 3 0
    if c = e.n Od.PWR_STATUS.vcore_mv then e else e.avsSend c acknowledged

/-! ## The commands -/

/-- TIME_CLOCK_MONITOR (R21): the ratio to the core clock against 1.5, and the ring oscillator's comparison, in ppb. -/
def execTimeClockMonitor (coreDev ringDev : Int) (s : State) : Host.Outcome State Fault Refusal :=
  lift (fun x e => e.clockMonitor x coreDev ringDev) s

/-- TIME_CLOCK_PLL_UNLOCK (R21). -/
def execTimeClockPllUnlock (s : State) : Host.Outcome State Fault Refusal := lift (fun x e => e.condOn x 0 4 0) s

/-- CORE_PLL_UNLOCK (Table 20-2). -/
def execCorePllUnlock (s : State) : Host.Outcome State Fault Refusal := lift (fun x e => e.condOn x 20 1 0) s

/-- DDR_PLL_UNLOCK (Table 20-2). -/
def execDdrPllUnlock (s : State) : Host.Outcome State Fault Refusal := lift (fun x e => e.ddrUnlock x) s

/-- DDR_PLL_LOCK (Table 20-2). -/
def execDdrPllLock (s : State) : Host.Outcome State Fault Refusal := lift (fun x e => e.ddrLock x) s

/-- SERDES_PLL_UNLOCK (Table 20-2, R85). -/
def execSerdesPllUnlock (group : Fin 8) (s : State) : Host.Outcome State Fault Refusal := lift (fun x e => e.serdesUnlock x group) s

/-- SERDES_PLL_LOCK (Table 20-2): the group's ports train again. -/
def execSerdesPllLock (group : Fin 8) (s : State) : Host.Outcome State Fault Refusal := lift (fun x e => e.condOff x 20 3 group) s

/-- MONITOR_SAMPLE (R418): the rails in 100 µV in the order of Table 21-1, and the sensors in 1/128 °C. -/
def execMonitorSample (rails : List Nat) (temps : List Int) (s : State) : Host.Outcome State Fault Refusal :=
  lift (fun x e => e.monitorSample x rails temps) s

/-- THERM_TRIP (R418): a sensor exceeds the trip threshold, whatever the time clock does. -/
def execThermTrip (s : State) : Host.Outcome State Fault Refusal :=
  liftAlways (fun _ e => { e with pins := { e.pins with thermTripN := false } }) s

/-- THERM_TRIP_RELEASE (R418): every sensor has been below the trip threshold for 1 ms. -/
def execThermTripRelease (s : State) : Host.Outcome State Fault Refusal :=
  liftAlways (fun _ e => { e with pins := { e.pins with thermTripN := true } }) s

/-- AVS_LOOP (R419): the margins of the ring-oscillator monitors, and whether the regulator acknowledges. -/
def execAvsLoop (margins : List Int) (acknowledged : Bool) (s : State) : Host.Outcome State Fault Refusal :=
  lift (fun x e => e.avsLoop x margins acknowledged) s

end Sys2Proof.Machine
end

