-- ==== Sys2Proof/Machine/Boundary.lean ====
section
/-! DEFINITION. The closing tick, the steer boundary and the tick (spec/01_architecture.md R22 to R29): the order in which every engine
seals, and Table 1-3's order in which everything takes effect. -/

namespace Sys2Proof.Machine

/-! ## The closing tick (R24, R26, R65) -/

/-- A setting of the selector or of steering, which takes effect at the boundary whose closing tick follows its write (R277, R295). -/
def isSelCfg (k : Key) : Bool :=
  (k.area == 0x28 || k.area == 0x2C) && (match rowOf k with | some r => r.persist == .store | none => false)

/-- The moons that steer themselves. -/
def Eng.ownMoons (e : Eng) : List Nat := (List.range 32).filter (fun k => !e.follows k)

/-- The set that moon `k` takes is the selector's (R274): acquire SET with the loop closed. -/
def Eng.selectorSet (e : Eng) (k : Nat) (d : Decision) : Bool :=
  d.setTo.isSome && e.n (Od.SEL_MOON.acquire k) == 0 && !(e.unit k).isOpen

/-- Moon `k` by itself: its decision, state and bound, and the record they seal. -/
def Eng.closeOwn (e : Eng) (x : Ctx) (b k : Nat) : (Decision × MoonState × Int) × Eng :=
  let a := e.decideOwn x k
  let st := a.2.nextState x k a.1.adv (a.2.selectorSet k a.1)
  let bound := a.2.boundOf k st
  ((a.1, st, bound), a.2.sealMoon x k b a.1 st bound)

/-- A follower takes moon 0's decision, state and bound, except while it is disabled (R42, R285). -/
def Eng.closeFollower (e : Eng) (x : Ctx) (b k : Nat) (z : Decision × MoonState × Int) : Eng :=
  let a := e.decideFollower x k b z.1
  if a.1.adv then a.2.sealMoon x k b a.1 z.2.1 z.2.2 else a.2.sealMoon x k b a.1 .freeRun maxBound

/-- Every moon is decided and its next record sealed. -/
def Eng.closeMoons (e : Eng) (x : Ctx) (b : Nat) : Eng :=
  let z := e.closeOwn x b 0
  (List.range 31).foldl (fun e i => if e.follows (i + 1) then e.closeFollower x b (i + 1) z.1 else (e.closeOwn x b (i + 1)).2) z.2

/-- The closing tick of boundary `b`. -/
def Eng.close (e : Eng) (x : Ctx) (b : Nat) (inp : ClosingInputs) : Eng :=
  let e := { e with sel := { e.sel with cfgNext := e.od.filter (fun p => isSelCfg p.1) } }.asymClose.closeModel
  let e := e.selClose x b inp.selectorDisagree
  let e := e.ownMoons.foldl (fun e k => e.loopCopies x k (inp.loopDisagree.any (fun j => j.val == k))) e
  let e := e.modelCopies x inp.modelDisagree
  let e := e.ownMoons.foldl (fun e k => e.trackUnit x k) e
  let e := e.ownMoons.foldl (fun e k => e.stageReturn x k) e
  let e := ((e.closeMoons x b).sealMargins x).sealLanes
  { e with sealedFor := some b }

/-- It is the closing tick of the coming boundary, and that is not sealed yet. -/
def Eng.closeDue (e : Eng) (x : Ctx) : Bool := x.tick % 2 ^ 20 == 983040 && e.sealedFor != some (nextBoundary x.tick)

/-! ## The steer boundary (R25, Table 1-3) -/

/-- What a boundary did to moon `k`'s count: whether it stepped or was set. -/
def Eng.steppedAt (e : Eng) (k : Nat) : Bool := bitOf (e.moon k).cur.flags 9

/-- A set was applied to moon `k` at the boundary. -/
def Eng.setAt (e : Eng) (k : Nat) : Bool := bitOf (e.moon k).cur.flags 10

/-- A stepped-over entry fires: a leap tracker's, or any other with its action and no edge (R79). -/
def Eng.fireOver (e : Eng) (x : Ctx) (hi i : Nat) : Eng :=
  if 0x3E0 ≤ i ∧ i < 0x400 then e.fireLeap x (i - 0x3E0) true else e.fireStepped x i hi (schedAct x i false)

/-- Step 7 for moon `k`, whose short time was `lo` before the boundary (R61, R74, R79 to R81). -/
def Eng.schedBoundary (e : Eng) (x : Ctx) (k lo : Nat) : Eng :=
  let m := e.moon k
  let hi := x.st k
  if e.setAt k then (((e.cmpDisarm k).voidUser k).setMoon k { m with leapFired := none }).recomputeTracker x k
  else
    let e := if m.prev.adv && !m.cur.adv then e.haltEntries k else e
    let e :=
      if e.steppedAt k then
        let e := if 0 < stDiff hi lo ∧ m.prev.adv ∧ m.cur.adv then (e.steppedEntries k lo hi).foldl (fun e c => e.fireOver x hi c.idx) e else e
        (e.requeue x k).recomputeTracker x k
      else e
    let e := if !m.prev.adv && m.cur.adv then e.judgeResumed x k else e
    e.armTracker x k

/-- Steps 1 to 4: every moon's decision is taken and its records swap. -/
def Eng.swapMoons (e : Eng) (x : Ctx) : Eng := (List.range 32).foldl (fun e k => e.swapMoon x k) e

/-- The engines after step 4, at a boundary `b` whose moons `x` shows; `lo` are the short times before it. -/
def Eng.boundaryRest (e : Eng) (x : Ctx) (b : Nat) (lo : List Nat) (old : MoonState) (inp : BoundaryInputs) : Eng :=
  let e := e.keepPast x b
  let was := e.sel.cfg
  let e := { e with sel := { e.sel with cfg := e.sel.cfgNext }, sealedFor := none, lastBoundary := b }
  let e := e.asymBoundary x was
  let e := (e.takeSelections x b).jumpSteps x
  let e := (e.wireBoundary b inp.eq).tsRiseAll b
  let e := (List.range 32).foldl (fun e k => e.schedBoundary x k (nth lo k 0)) e
  let e := ((e.refBoundary x inp).gnssBoundary x).steerUnits x inp.therm inp.dies
  let e := ((e.selBoundary x).latchRefs.pipesShown x).calBoundaries b
  let e := (e.clampShown x).outBoundary x (e.steppedAt 0 || e.setAt 0) e.setAt
  let e := e.count x 0xB11
  if (e.moon 0).cur.state = old then e else e.notify x 1 []

/-- The boundary has come, and is not processed yet; boundary 0 never is (R23). -/
def Eng.boundaryDue (e : Eng) (x : Ctx) : Bool := x.tick % 2 ^ 20 == 0 && decide (e.lastBoundary < boundaryOf x.tick)

/-- The boundary sequencer's actions of one boundary. -/
def State.boundary (s : State) (inp : BoundaryInputs) : State :=
  let x := s.ctx
  let e := s.eng0
  let lo := (List.range 32).map (fun k => x.st k)
  let core := s.core.takeAll e.tl
  let x' : Ctx := ⟨core, s.fuses⟩
  { s with core := core, eng := (e.swapMoons x).boundaryRest x' (boundaryOf x.tick) lo (e.moon 0).cur.state inp }

/-! ## The tick (R22) -/

/-- What the hardware detects within a tick. -/
def Eng.tickHit (e : Eng) (x : Ctx) (h : TickHit) : Eng :=
  match h with
  | .register b => e.regParity x b
  | .tickBus => e.detect x 20 4 0
  | .fuseShadow => e.detect x 22 1 0
  | .sequencer => e.detect x 0 5 0
  | .counter w => e.counterParity x w
  | .lockstep => e.detect x 18 2 0
  | .ddr false => e.detect x 18 3 0
  | .ddr true => { e with boot := { e.boot with coresDown := true } }.detect x 18 4 0
  | .interconnect o => (e.packetLost x o).detect x 19 3 0
  | .flashRead => e.detect x 22 2 0
  | .selfcheckOverrun => e.detect x 23 2 0
  | .memory cell uncorr => e.eccFound x cell uncorr

/-- The accept slots that pass: one in two ticks (R130, R147). -/
def Eng.slotsPass (e : Eng) (x : Ctx) : Eng :=
  if x.tick % 2 = 1 then (List.range 16).foldl (fun e p => e.slotPasses x p) e else e

/-- GUARANTEE_OFF while a condition of R415 is not met (R416). -/
def Eng.guarantee (e : Eng) : Eng := if e.conditions = 0 then e else e.orb Od.FLT_GLOBAL.sticky 8

/-- The engines as the present tick ends. -/
def Eng.tickEnds (e : Eng) (x : Ctx) (upsets : List CopyUpset) (hits : List TickHit) : Eng :=
  let e := upsets.foldl (fun e u => e.upset x u) e
  let e := hits.foldl (fun e h => e.tickHit x h) e
  let e := (e.occSampleAll x).countTick x
  (((e.refTick x).segTick x).slotsPass x).guarantee

/-! ## The commands -/

/-- TICK (R22): the copies that disagree and what is detected in the tick that ends; then the counter advances by one, and every enabled
moon by its increment. -/
def execTick (upsets : List CopyUpset) (hits : List TickHit) (s : State) : Host.Outcome State Fault Refusal :=
  if s.eng.up then .next { s with core := s.core.advance, eng := s.eng0.tickEnds s.ctx upsets hits } else .next { s with eng := s.eng0 }

/-- CLOSING_TICK (R24). -/
def execClosingTick (inp : ClosingInputs) (s : State) : Host.Outcome State Fault Refusal :=
  lift (fun x e => whenDue (e.closeDue x) (fun e => e.close x (nextBoundary x.tick) inp) e) s

/-- STEER_BOUNDARY (R25). -/
def execSteerBoundary (inp : BoundaryInputs) (s : State) : Host.Outcome State Fault Refusal :=
  if s.eng.up && s.eng.boundaryDue s.ctx then .next (s.boundary inp).settle else .next { s with eng := s.eng0 }

end Sys2Proof.Machine
end

