-- ==== Sys2Proof/Machine/Dispatch.lean ====
section
/-! DEFINITION. The dispatch of a command to its meaning: one arm for each constructor of Instr. -/

namespace Sys2Proof.Machine

/-- The effect of a command on everything but the queue. -/
def exec (i : Instr) (s : State) : Host.Outcome State Fault Refusal :=
  match i with
  | .tick upsets hits => Sys2Proof.Machine.execTick upsets hits s
  | .closingTick inp => Sys2Proof.Machine.execClosingTick inp s
  | .steerBoundary inp => Sys2Proof.Machine.execSteerBoundary inp s
  | .timeClockMonitor coreDev ringDev => Sys2Proof.Machine.execTimeClockMonitor coreDev ringDev s
  | .timeClockPllUnlock => Sys2Proof.Machine.execTimeClockPllUnlock s
  | .corePllUnlock => Sys2Proof.Machine.execCorePllUnlock s
  | .ddrPllUnlock => Sys2Proof.Machine.execDdrPllUnlock s
  | .serdesPllUnlock group => Sys2Proof.Machine.execSerdesPllUnlock group s
  | .consentExpiry moon => Sys2Proof.Machine.execConsentExpiry moon s
  | .compareCellFire moon cell => Sys2Proof.Machine.execCompareCellFire moon cell s
  | .moonConfigEnableWrite moon value roles => Sys2Proof.Machine.execMoonConfigEnableWrite moon value roles s
  | .moonIncStagedWrite moon value roles => Sys2Proof.Machine.execMoonIncStagedWrite moon value roles s
  | .moonStepStagedWrite moon value roles => Sys2Proof.Machine.execMoonStepStagedWrite moon value roles s
  | .moonConsentWrite moon bound roles => Sys2Proof.Machine.execMoonConsentWrite moon bound roles s
  | .moonSetValueWrite moon value roles => Sys2Proof.Machine.execMoonSetValueWrite moon value roles s
  | .moonSetArmedWrite moon value roles => Sys2Proof.Machine.execMoonSetArmedWrite moon value roles s
  | .moonSetRecordWrite moon armed value roles => Sys2Proof.Machine.execMoonSetRecordWrite moon armed value roles s
  | .leapBaseWrite value roles => Sys2Proof.Machine.execLeapBaseWrite value roles s
  | .leapEntryWrite entry w roles => Sys2Proof.Machine.execLeapEntryWrite entry w roles s
  | .moonCmpTargetWrite moon cell target roles => Sys2Proof.Machine.execMoonCmpTargetWrite moon cell target roles s
  | .schedEntryWrite entry w roles => Sys2Proof.Machine.execSchedEntryWrite entry w roles s
  | .schedEntryEmpty entry value roles => Sys2Proof.Machine.execSchedEntryEmpty entry value roles s
  | .schedEvaluationPass => Sys2Proof.Machine.execSchedEvaluationPass s
  | .pulse entry => Sys2Proof.Machine.execPulse entry s
  | .snapshot entry => Sys2Proof.Machine.execSnapshot entry s
  | .window entry => Sys2Proof.Machine.execWindow entry s
  | .calWindow entry => Sys2Proof.Machine.execCalWindow entry s
  | .keyRotate entry => Sys2Proof.Machine.execKeyRotate entry s
  | .switch entry => Sys2Proof.Machine.execSwitch entry s
  | .dictWrite entry => Sys2Proof.Machine.execDictWrite entry s
  | .event entry => Sys2Proof.Machine.execEvent entry s
  | .leapPoint moon => Sys2Proof.Machine.execLeapPoint moon s
  | .laneGroupModeWrite group value roles => Sys2Proof.Machine.execLaneGroupModeWrite group value roles s
  | .portEnableWrite port value roles => Sys2Proof.Machine.execPortEnableWrite port value roles s
  | .laneIfWrite lane value roles => Sys2Proof.Machine.execLaneIfWrite lane value roles s
  | .linkUp port => Sys2Proof.Machine.execLinkUp port s
  | .linkDown port cause => Sys2Proof.Machine.execLinkDown port cause s
  | .frameReceive frame => Sys2Proof.Machine.execFrameReceive frame s
  | .pauseXoffRepeat port => Sys2Proof.Machine.execPauseXoffRepeat port s
  | .pauseEnd port => Sys2Proof.Machine.execPauseEnd port s
  | .esmcTimeout port => Sys2Proof.Machine.execEsmcTimeout port s
  | .esmcInfoPdu port => Sys2Proof.Machine.execEsmcInfoPdu port s
  | .ruleCommit value roles => Sys2Proof.Machine.execRuleCommit value roles s
  | .ruleCommitTakeEffect => Sys2Proof.Machine.execRuleCommitTakeEffect s
  | .ruleBankCopyDone => Sys2Proof.Machine.execRuleBankCopyDone s
  | .serviceEntryWrite v6 entry w roles => Sys2Proof.Machine.execServiceEntryWrite v6 entry w roles s
  | .alignmentMarkerRx lane serRx closure loopback => Sys2Proof.Machine.execAlignmentMarkerRx lane serRx closure loopback s
  | .echoResult lane timed serTx error => Sys2Proof.Machine.execEchoResult lane timed serTx error s
  | .echoMissing port => Sys2Proof.Machine.execEchoMissing port s
  | .calItemWrite item value roles => Sys2Proof.Machine.execCalItemWrite item value roles s
  | .calStoreWrite => Sys2Proof.Machine.execCalStoreWrite s
  | .calCtrlOpen mask roles => Sys2Proof.Machine.execCalCtrlOpen mask roles s
  | .calCtrlClose mask roles => Sys2Proof.Machine.execCalCtrlClose mask roles s
  | .answerRequest pipe grid crcFail => Sys2Proof.Machine.execAnswerRequest pipe grid crcFail s
  | .checkerCompare pipe agrees => Sys2Proof.Machine.execCheckerCompare pipe agrees s
  | .checkerProbe pipe agrees => Sys2Proof.Machine.execCheckerProbe pipe agrees s
  | .pipeReenable pipe value roles => Sys2Proof.Machine.execPipeReenable pipe value roles s
  | .ansRekey value roles => Sys2Proof.Machine.execAnsRekey value roles s
  | .bucketSweep bucket profile => Sys2Proof.Machine.execBucketSweep bucket profile s
  | .ansRuleWrite rule w roles => Sys2Proof.Machine.execAnsRuleWrite rule w roles s
  | .ansPeekWrite w roles => Sys2Proof.Machine.execAnsPeekWrite w roles s
  | .hostLaunchTake ring grid => Sys2Proof.Machine.execHostLaunchTake ring grid s
  | .hostLaunchRetry ring grid => Sys2Proof.Machine.execHostLaunchRetry ring grid s
  | .timedFetchStart port latency => Sys2Proof.Machine.execTimedFetchStart port latency s
  | .frameRelease port short => Sys2Proof.Machine.execFrameRelease port short s
  | .untimedTxStart port block => Sys2Proof.Machine.execUntimedTxStart port block s
  | .ntsSlotLoadLocal slot roles => Sys2Proof.Machine.execNtsSlotLoadLocal slot roles s
  | .ntsSlotLoadStation slot roles => Sys2Proof.Machine.execNtsSlotLoadStation slot roles s
  | .ntsSlotLoadImport slot roles => Sys2Proof.Machine.execNtsSlotLoadImport slot roles s
  | .ntsSlotMakeCurrent slot roles => Sys2Proof.Machine.execNtsSlotMakeCurrent slot roles s
  | .ntsSlotRetire slot roles => Sys2Proof.Machine.execNtsSlotRetire slot roles s
  | .slotRetireCheck => Sys2Proof.Machine.execSlotRetireCheck s
  | .ntsStationSeedWrite seed roles => Sys2Proof.Machine.execNtsStationSeedWrite seed roles s
  | .keyStoreWrite good => Sys2Proof.Machine.execKeyStoreWrite good s
  | .drbgReseed healthy => Sys2Proof.Machine.execDrbgReseed healthy s
  | .drbgRetry good => Sys2Proof.Machine.execDrbgRetry good s
  | .ntsKeSyn port frame => Sys2Proof.Machine.execNtsKeSyn port frame s
  | .ntsKeRequest session hello request c2s s2c => Sys2Proof.Machine.execNtsKeRequest session hello request c2s s2c s
  | .ntsKeSessionTimeout session => Sys2Proof.Machine.execNtsKeSessionTimeout session s
  | .ntsKeKeyGenerate roles => Sys2Proof.Machine.execNtsKeKeyGenerate roles s
  | .ptpReceive grid => Sys2Proof.Machine.execPtpReceive grid s
  | .grantExpiry client type => Sys2Proof.Machine.execGrantExpiry client type s
  | .ptpMessageDue due grid => Sys2Proof.Machine.execPtpMessageDue due grid s
  | .upstreamRenew unit_ grid => Sys2Proof.Machine.execUpstreamRenew unit_ grid s
  | .followUpTimeout unit_ => Sys2Proof.Machine.execFollowUpTimeout unit_ s
  | .upstreamRetry unit_ => Sys2Proof.Machine.execUpstreamRetry unit_ s
  | .refinCompareEdge input capture shortLevel width => Sys2Proof.Machine.execRefinCompareEdge input capture shortLevel width s
  | .refinStuck input => Sys2Proof.Machine.execRefinStuck input s
  | .refinConfigWrite input qual w roles => Sys2Proof.Machine.execRefinConfigWrite input qual w roles s
  | .todInMessage text framingError => Sys2Proof.Machine.execTodInMessage text framingError s
  | .siblingStale input => Sys2Proof.Machine.execSiblingStale input s
  | .gnssSampleBlock fe block => Sys2Proof.Machine.execGnssSampleBlock fe block s
  | .checkChannelPass channel run => Sys2Proof.Machine.execCheckChannelPass channel run s
  | .acquisitionDwell fe hits => Sys2Proof.Machine.execAcquisitionDwell fe hits s
  | .gnssSolutionEpoch fe epoch => Sys2Proof.Machine.execGnssSolutionEpoch fe epoch s
  | .channelRelease channel => Sys2Proof.Machine.execChannelRelease channel s
  | .raimRejoin channel => Sys2Proof.Machine.execRaimRejoin channel s
  | .osnmaVerify result => Sys2Proof.Machine.execOsnmaVerify result s
  | .osnmaFailExpiry prn => Sys2Proof.Machine.execOsnmaFailExpiry prn s
  | .antennaFaultPin fe low => Sys2Proof.Machine.execAntennaFaultPin fe low s
  | .gnssStoreSave write => Sys2Proof.Machine.execGnssStoreSave write s
  | .gnssHeldWrite w roles => Sys2Proof.Machine.execGnssHeldWrite w roles s
  | .gnssConfigWrite fe w roles => Sys2Proof.Machine.execGnssConfigWrite fe w roles s
  | .stabilityUpdate => Sys2Proof.Machine.execStabilityUpdate s
  | .slotSilent slot => Sys2Proof.Machine.execSlotSilent slot s
  | .asymEstimate slot => Sys2Proof.Machine.execAsymEstimate slot s
  | .waitToRestoreEnd slot => Sys2Proof.Machine.execWaitToRestoreEnd slot s
  | .acceptJump slot roles => Sys2Proof.Machine.execAcceptJump slot roles s
  | .clearWtr slot roles => Sys2Proof.Machine.execClearWtr slot roles s
  | .resetStability slot roles => Sys2Proof.Machine.execResetStability slot roles s
  | .selPeekWrite w roles => Sys2Proof.Machine.execSelPeekWrite w roles s
  | .selForceWrite moon value roles => Sys2Proof.Machine.execSelForceWrite moon value roles s
  | .steerModeWrite moon value roles => Sys2Proof.Machine.execSteerModeWrite moon value roles s
  | .restart moon value roles => Sys2Proof.Machine.execRestart moon value roles s
  | .restartModel value roles => Sys2Proof.Machine.execRestartModel value roles s
  | .modelObservation => Sys2Proof.Machine.execModelObservation s
  | .synthLock synth => Sys2Proof.Machine.execSynthLock synth s
  | .synthUnlock synth => Sys2Proof.Machine.execSynthUnlock synth s
  | .ppsoutEdge output error => Sys2Proof.Machine.execPpsoutEdge output error s
  | .todOutMessage => Sys2Proof.Machine.execTodOutMessage s
  | .ppsoutConfigWrite output w roles => Sys2Proof.Machine.execPpsoutConfigWrite output w roles s
  | .modadd queue cmd roles => Sys2Proof.Machine.execModadd queue cmd roles s
  | .modsub queue cmd roles => Sys2Proof.Machine.execModsub queue cmd roles s
  | .modmul queue cmd roles => Sys2Proof.Machine.execModmul queue cmd roles s
  | .modexp queue cmd roles => Sys2Proof.Machine.execModexp queue cmd roles s
  | .modexpPub queue cmd roles => Sys2Proof.Machine.execModexpPub queue cmd roles s
  | .modinv queue cmd roles => Sys2Proof.Machine.execModinv queue cmd roles s
  | .rsaCrt queue cmd roles => Sys2Proof.Machine.execRsaCrt queue cmd roles s
  | .x25519 queue cmd roles => Sys2Proof.Machine.execX25519 queue cmd roles s
  | .ed25519Sign queue cmd roles => Sys2Proof.Machine.execEd25519Sign queue cmd roles s
  | .ed25519Verify queue cmd roles => Sys2Proof.Machine.execEd25519Verify queue cmd roles s
  | .ecdsaSignP256 queue cmd roles => Sys2Proof.Machine.execEcdsaSignP256 queue cmd roles s
  | .ecdsaVerifyP256 queue cmd roles => Sys2Proof.Machine.execEcdsaVerifyP256 queue cmd roles s
  | .ecdsaVerifyP384 queue cmd roles => Sys2Proof.Machine.execEcdsaVerifyP384 queue cmd roles s
  | .ecdsaVerifyP521 queue cmd roles => Sys2Proof.Machine.execEcdsaVerifyP521 queue cmd roles s
  | .keygenP256 queue cmd roles => Sys2Proof.Machine.execKeygenP256 queue cmd roles s
  | .keygenEd25519 queue cmd roles => Sys2Proof.Machine.execKeygenEd25519 queue cmd roles s
  | .keygenX25519 queue cmd roles => Sys2Proof.Machine.execKeygenX25519 queue cmd roles s
  | .clear queue cmd roles => Sys2Proof.Machine.execClear queue cmd roles s
  | .copy queue cmd roles => Sys2Proof.Machine.execCopy queue cmd roles s
  | .clearRegion queue cmd roles => Sys2Proof.Machine.execClearRegion queue cmd roles s
  | .pkDispatch => Sys2Proof.Machine.execPkDispatch s
  | .pkValidationEnd unit_ => Sys2Proof.Machine.execPkValidationEnd unit_ s
  | .pkComplete unit_ how => Sys2Proof.Machine.execPkComplete unit_ how s
  | .pkAbort queue tag roles => Sys2Proof.Machine.execPkAbort queue tag roles s
  | .pkPop value roles => Sys2Proof.Machine.execPkPop value roles s
  | .erase handle roles => Sys2Proof.Machine.execErase handle roles s
  | .pkSlotDefine owner slot w roles => Sys2Proof.Machine.execPkSlotDefine owner slot w roles s
  | .pkDataWrite owner slot value roles => Sys2Proof.Machine.execPkDataWrite owner slot value roles s
  | .functionLevelReset posted => Sys2Proof.Machine.execFunctionLevelReset posted s
  | .pcieLinkDown => Sys2Proof.Machine.execPcieLinkDown s
  | .pcieLinkUp width rate => Sys2Proof.Machine.execPcieLinkUp width rate s
  | .ringEnable tx ring roles => Sys2Proof.Machine.execRingEnable tx ring roles s
  | .ringDisable tx ring posted roles => Sys2Proof.Machine.execRingDisable tx ring posted roles s
  | .doorbellProd tx ring value => Sys2Proof.Machine.execDoorbellProd tx ring value s
  | .doorbellAck tx ring value => Sys2Proof.Machine.execDoorbellAck tx ring value s
  | .rxFrameDeliver port bufs => Sys2Proof.Machine.execRxFrameDeliver port bufs s
  | .txDescTake ring descs fail => Sys2Proof.Machine.execTxDescTake ring descs fail s
  | .vecArmWrite mask => Sys2Proof.Machine.execVecArmWrite mask s
  | .vecHoldoffEnd vector => Sys2Proof.Machine.execVecHoldoffEnd vector s
  | .irqPendingClear mask roles => Sys2Proof.Machine.execIrqPendingClear mask roles s
  | .tailPop port value => Sys2Proof.Machine.execTailPop port value s
  | .counterPageSnap page => Sys2Proof.Machine.execCounterPageSnap page s
  | .wrapClear page mask => Sys2Proof.Machine.execWrapClear page mask s
  | .windowDoorbell ctx value => Sys2Proof.Machine.execWindowDoorbell ctx value s
  | .dmaTimeout tx ring => Sys2Proof.Machine.execDmaTimeout tx ring s
  | .lanithRequest => Sys2Proof.Machine.execLanithRequest s
  | .read area im offset length roles => Sys2Proof.Machine.execRead area im offset length roles s
  | .write area im offset bytes roles => Sys2Proof.Machine.execWrite area im offset bytes roles s
  | .timedWrite area im bytes roles => Sys2Proof.Machine.execTimedWrite area im bytes roles s
  | .partStagingTimeout area im => Sys2Proof.Machine.execPartStagingTimeout area im s
  | .responseHoldExpiry cred => Sys2Proof.Machine.execResponseHoldExpiry cred s
  | .writeQueueDrain => Sys2Proof.Machine.execWriteQueueDrain s
  | .fwReadDone => Sys2Proof.Machine.execFwReadDone s
  | .dictObjectWrite area im bytes roles => Sys2Proof.Machine.execDictObjectWrite area im bytes roles s
  | .credWrite cred w roles => Sys2Proof.Machine.execCredWrite cred w roles s
  | .save roles => Sys2Proof.Machine.execSave roles s
  | .storeSaveDone good => Sys2Proof.Machine.execStoreSaveDone good s
  | .factoryDefaults roles => Sys2Proof.Machine.execFactoryDefaults roles s
  | .descChunkSelect index roles => Sys2Proof.Machine.execDescChunkSelect index roles s
  | .loadWindow util => Sys2Proof.Machine.execLoadWindow util s
  | .segmentFrameRx frame => Sys2Proof.Machine.execSegmentFrameRx frame s
  | .publishRx => Sys2Proof.Machine.execPublishRx s
  | .publishSend => Sys2Proof.Machine.execPublishSend s
  | .collision => Sys2Proof.Machine.execCollision s
  | .backoffEnd => Sys2Proof.Machine.execBackoffEnd s
  | .plcaTxOpportunity => Sys2Proof.Machine.execPlcaTxOpportunity s
  | .segmentLinkLoss => Sys2Proof.Machine.execSegmentLinkLoss s
  | .snapMaskWrite mask roles => Sys2Proof.Machine.execSnapMaskWrite mask roles s
  | .cntWinClose window value roles => Sys2Proof.Machine.execCntWinClose window value roles s
  | .cntWinEventWrite window value roles => Sys2Proof.Machine.execCntWinEventWrite window value roles s
  | .cntOccWrite occ w roles => Sys2Proof.Machine.execCntOccWrite occ w roles s
  | .peakClear occ value roles => Sys2Proof.Machine.execPeakClear occ value roles s
  | .userViewSnap page => Sys2Proof.Machine.execUserViewSnap page s
  | .cntUserMaskWrite mask roles => Sys2Proof.Machine.execCntUserMaskWrite mask roles s
  | .faultForce block value roles => Sys2Proof.Machine.execFaultForce block value roles s
  | .faultRearm block value roles => Sys2Proof.Machine.execFaultRearm block value roles s
  | .faultLatchClear block mask roles => Sys2Proof.Machine.execFaultLatchClear block mask roles s
  | .testWindowOpen seconds roles => Sys2Proof.Machine.execTestWindowOpen seconds roles s
  | .testWindowClose value roles => Sys2Proof.Machine.execTestWindowClose value roles s
  | .testWindowExpiry => Sys2Proof.Machine.execTestWindowExpiry s
  | .selfcheckPass wrong => Sys2Proof.Machine.execSelfcheckPass wrong s
  | .scrubRead memory last found => Sys2Proof.Machine.execScrubRead memory last found s
  | .scrubOverrun memory => Sys2Proof.Machine.execScrubOverrun memory s
  | .eclipseRailChange => Sys2Proof.Machine.execEclipseRailChange s
  | .eclipseEntry => Sys2Proof.Machine.execEclipseEntry s
  | .lingerEnd => Sys2Proof.Machine.execLingerEnd s
  | .powerOnReset => Sys2Proof.Machine.execPowerOnReset s
  | .warmReset => Sys2Proof.Machine.execWarmReset s
  | .resetCommandWarm value roles => Sys2Proof.Machine.execResetCommandWarm value roles s
  | .autoReset => Sys2Proof.Machine.execAutoReset s
  | .watchdogExpiry => Sys2Proof.Machine.execWatchdogExpiry s
  | .pllLock fuseGood => Sys2Proof.Machine.execPllLock fuseGood s
  | .pllLockTimeout => Sys2Proof.Machine.execPllLockTimeout s
  | .ddrTrained good => Sys2Proof.Machine.execDdrTrained good s
  | .credentialsRestored keyA keyB => Sys2Proof.Machine.execCredentialsRestored keyA keyB s
  | .imageVerified => Sys2Proof.Machine.execImageVerified s
  | .storesRestored calA calB => Sys2Proof.Machine.execStoresRestored calA calB s
  | .restoreTick => Sys2Proof.Machine.execRestoreTick s
  | .monitorSample rails temps => Sys2Proof.Machine.execMonitorSample rails temps s
  | .thermTripRelease => Sys2Proof.Machine.execThermTripRelease s
  | .avsLoop margins acknowledged => Sys2Proof.Machine.execAvsLoop margins acknowledged s
  | .fwImageDataWrite offset bytes roles => Sys2Proof.Machine.execFwImageDataWrite offset bytes roles s
  | .fwImageCommit value roles => Sys2Proof.Machine.execFwImageCommit value roles s
  | .advanceRollback value roles => Sys2Proof.Machine.execAdvanceRollback value roles s
  | .dumpNow value roles => Sys2Proof.Machine.execDumpNow value roles s
  | .dumpCapture log cores unreadable => Sys2Proof.Machine.execDumpCapture log cores unreadable s
  | .dumpComplete => Sys2Proof.Machine.execDumpComplete s
  | .dumpClear mask roles => Sys2Proof.Machine.execDumpClear mask roles s
  | .dumpChunkSelect index roles => Sys2Proof.Machine.execDumpChunkSelect index roles s
  | .thermTrip => Sys2Proof.Machine.execThermTrip s
  | .ddrPllLock => Sys2Proof.Machine.execDdrPllLock s
  | .serdesPllLock group => Sys2Proof.Machine.execSerdesPllLock group s
  | .segmentLinkUp => Sys2Proof.Machine.execSegmentLinkUp s
  | .coresRestart => Sys2Proof.Machine.execCoresRestart s
  | .msixMaskWrite vector masked => Sys2Proof.Machine.execMsixMaskWrite vector masked s
  | .tailOverflowClear port => Sys2Proof.Machine.execTailOverflowClear port s
  | .windowRequestWrite ctx w => Sys2Proof.Machine.execWindowRequestWrite ctx w s
  | .upstreamDelayReq unit_ grid => Sys2Proof.Machine.execUpstreamDelayReq unit_ grid s
  | .resetRelease osc forceB => Sys2Proof.Machine.execResetRelease osc forceB s

end Sys2Proof.Machine
end

