-- ==== Sys2Proof/WellFormed.lean ====
section
/-! DEFINITION. Which commands are well formed: every operand fits the width the manual gives it. A command outside these checks is one no
pin, bus or dictionary access can spell. -/

namespace Sys2Proof

/-- A number of `w` bits. -/
def natWf (w n : Nat) : Bool := decide (n < 2 ^ w)

/-- A two's-complement number of `w` bits. -/
def intWf (w : Nat) (i : Int) : Bool := decide (-(2 ^ (w - 1) : Nat) ≤ i ∧ i < (2 ^ (w - 1) : Nat))

/-- A role mask (R348): Observer, Operator, Timekeeper, Keyholder. -/
def rolesWf (roles : Nat) : Bool := natWf 4 roles

/-- A value of at most 1,024 bytes, read as signed or not (R374). -/
def valueWf (v : Int) : Bool := decide (-(2 ^ 8191 : Nat) ≤ v ∧ v < (2 ^ 8192 : Nat))

/-- A record write names a member from 1 to 15, or gives at most 15 members. -/
def RecWrite.wf : RecWrite → Bool
  | .member m v => decide (1 ≤ m ∧ m ≤ 15) && valueWf v
  | .whole vs => decide (vs.length ≤ 15) && vs.all valueWf

/-- A leap entry's fields have their widths (R54): a wide time, a 16-bit offset, a byte. -/
def LeapWrite.wf : LeapWrite → Bool
  | .instant v => natWf 96 v
  | .offset v => intWf 16 v
  | .valid v => natWf 8 v
  | .whole a b c => natWf 96 a && intWf 16 b && natWf 8 c

/-- A schedule entry's fields have their widths (Table 3-1). -/
def SchedWrite.wf : SchedWrite → Bool
  | .whole t m a g p r => natWf 64 t && natWf 8 m && natWf 8 a && natWf 128 g && intWf 64 p && natWf 32 r
  | .single m => decide (1 ≤ m ∧ m ≤ 12)

/-- A command record's fields have their widths (Table 15-1), and it names seven sources. -/
def PkCmd.wf (c : PkCmd) : Bool :=
  natWf 32 c.tag && natWf 16 c.dst0 && natWf 16 c.dst1 && decide (c.src.length = 7) && c.src.all (natWf 16) && natWf 8 c.key && natWf 16 c.msgLen

/-- A grid point lies within its calendar window (R149, R156). -/
def GridPoint.wf (g : GridPoint) : Bool := decide (g.index < g.blocks) && decide (0 < g.period)

/-- A received frame is within the largest frame a port takes, and its capture is a linear count. -/
def RxFrame.wf (f : RxFrame) : Bool := decide (f.bytes.length ≤ 16384) && natWf 96 f.capture

/-- A write of a window context's request lies within its buffer (Table 16-13). -/
def WindowWrite.wf : WindowWrite → Bool
  | .reqLen n => natWf 32 n
  | .request o bs => decide (o + bs.length ≤ 1536)

/-- A counter a parity error names exists. -/
def TickHit.wf : TickHit → Bool
  | .counter w => natWf 13 w
  | _ => true

/-- A descriptor's words have their widths (Table 16-6). -/
def TxDesc.wf (d : TxDesc) : Bool :=
  natWf 64 d.addr && natWf 64 d.lt && natWf 16 d.bufLen && natWf 32 d.slack && natWf 32 d.tag && natWf 64 d.word3 && decide (d.data.length ≤ 65536)

/-- Every measurement unit's test edge names one of the 40 units (R219). -/
def BoundaryInputs.wf (b : BoundaryInputs) : Bool := b.testEdges.all (fun p => decide (p.1 < 40))

/-- The well-formed commands. -/
def Instr.wf (i : Instr) : Bool :=
  match i with
  | .tick _ hits => hits.all TickHit.wf
  | .closingTick _ => true
  | .steerBoundary inp => inp.wf
  | .timeClockMonitor coreDev ringDev => intWf 64 coreDev && intWf 64 ringDev
  | .timeClockPllUnlock => true
  | .corePllUnlock => true
  | .ddrPllUnlock => true
  | .serdesPllUnlock _ => true
  | .consentExpiry _ => true
  | .compareCellFire _ _ => true
  | .moonConfigEnableWrite _ value roles => natWf 64 value && rolesWf roles
  | .moonIncStagedWrite _ value roles => natWf 64 value && rolesWf roles
  | .moonStepStagedWrite _ value roles => intWf 64 value && rolesWf roles
  | .moonConsentWrite _ bound roles => intWf 64 bound && rolesWf roles
  | .moonSetValueWrite _ value roles => natWf 96 value && rolesWf roles
  | .moonSetArmedWrite _ value roles => natWf 64 value && rolesWf roles
  | .moonSetRecordWrite _ armed value roles => natWf 64 armed && natWf 96 value && rolesWf roles
  | .leapBaseWrite value roles => intWf 16 value && rolesWf roles
  | .leapEntryWrite _ w roles => w.wf && rolesWf roles
  | .moonCmpTargetWrite _ _ target roles => natWf 64 target && rolesWf roles
  | .schedEntryWrite _ w roles => w.wf && rolesWf roles
  | .schedEntryEmpty _ value roles => natWf 64 value && rolesWf roles
  | .schedEvaluationPass => true
  | .pulse _ => true
  | .snapshot _ => true
  | .window _ => true
  | .calWindow _ => true
  | .keyRotate _ => true
  | .switch _ => true
  | .dictWrite _ => true
  | .event _ => true
  | .leapPoint _ => true
  | .laneGroupModeWrite _ value roles => natWf 64 value && rolesWf roles
  | .portEnableWrite _ value roles => natWf 64 value && rolesWf roles
  | .laneIfWrite _ value roles => natWf 64 value && rolesWf roles
  | .linkUp _ => true
  | .linkDown _ _ => true
  | .frameReceive frame => frame.wf
  | .pauseXoffRepeat _ => true
  | .pauseEnd _ => true
  | .esmcTimeout _ => true
  | .esmcInfoPdu _ => true
  | .ruleCommit value roles => natWf 64 value && rolesWf roles
  | .ruleCommitTakeEffect => true
  | .ruleBankCopyDone => true
  | .serviceEntryWrite _ _ w roles => w.wf && rolesWf roles
  | .alignmentMarkerRx _ serRx closure loopback => intWf 64 serRx && intWf 64 closure && loopback.all (intWf 64)
  | .echoResult _ _ serTx error => intWf 64 serTx && intWf 64 error
  | .echoMissing _ => true
  | .calItemWrite _ value roles => intWf 64 value && rolesWf roles
  | .calStoreWrite => true
  | .calCtrlOpen mask roles => natWf 64 mask && rolesWf roles
  | .calCtrlClose mask roles => natWf 64 mask && rolesWf roles
  | .answerRequest _ grid _ => grid.all GridPoint.wf
  | .checkerCompare _ _ => true
  | .checkerProbe _ _ => true
  | .pipeReenable _ value roles => natWf 64 value && rolesWf roles
  | .ansRekey value roles => natWf 64 value && rolesWf roles
  | .bucketSweep _ _ => true
  | .ansRuleWrite _ w roles => w.wf && rolesWf roles
  | .ansPeekWrite w roles => w.wf && rolesWf roles
  | .hostLaunchTake _ grid => grid.all GridPoint.wf
  | .hostLaunchRetry _ grid => grid.all GridPoint.wf
  | .timedFetchStart _ latency => natWf 64 latency
  | .frameRelease _ _ => true
  | .untimedTxStart _ block => natWf 64 block
  | .ntsSlotLoadLocal _ roles => rolesWf roles
  | .ntsSlotLoadStation _ roles => rolesWf roles
  | .ntsSlotLoadImport _ roles => rolesWf roles
  | .ntsSlotMakeCurrent _ roles => rolesWf roles
  | .ntsSlotRetire _ roles => rolesWf roles
  | .slotRetireCheck => true
  | .ntsStationSeedWrite seed roles => natWf 256 seed && rolesWf roles
  | .keyStoreWrite _ => true
  | .drbgReseed _ => true
  | .drbgRetry good => natWf 64 good
  | .ntsKeSyn _ frame => decide (frame.length ≤ 16384)
  | .ntsKeRequest session _ request c2s s2c => natWf 64 session && decide (request.length ≤ 16384) && natWf 256 c2s && natWf 256 s2c
  | .ntsKeSessionTimeout session => natWf 64 session
  | .ntsKeKeyGenerate roles => rolesWf roles
  | .ptpReceive grid => grid.all GridPoint.wf
  | .grantExpiry client type => natWf 64 client && natWf 64 type
  | .ptpMessageDue _ grid => grid.all GridPoint.wf
  | .upstreamRenew _ grid => grid.all GridPoint.wf
  | .followUpTimeout _ => true
  | .upstreamRetry _ => true
  | .refinCompareEdge _ capture _ width => natWf 64 capture && natWf 64 width
  | .refinStuck _ => true
  | .refinConfigWrite _ _ w roles => w.wf && rolesWf roles
  | .todInMessage text _ => decide (text.length ≤ 128)
  | .siblingStale _ => true
  | .gnssSampleBlock _ _ => true
  | .checkChannelPass _ run => natWf 64 run
  | .acquisitionDwell _ _ => true
  | .gnssSolutionEpoch _ _ => true
  | .channelRelease _ => true
  | .raimRejoin _ => true
  | .osnmaVerify _ => true
  | .osnmaFailExpiry prn => natWf 64 prn
  | .antennaFaultPin _ _ => true
  | .gnssStoreSave _ => true
  | .gnssHeldWrite w roles => w.wf && rolesWf roles
  | .gnssConfigWrite _ w roles => w.wf && rolesWf roles
  | .stabilityUpdate => true
  | .slotSilent _ => true
  | .asymEstimate _ => true
  | .waitToRestoreEnd _ => true
  | .acceptJump _ roles => rolesWf roles
  | .clearWtr _ roles => rolesWf roles
  | .resetStability _ roles => rolesWf roles
  | .selPeekWrite w roles => w.wf && rolesWf roles
  | .selForceWrite _ value roles => natWf 64 value && rolesWf roles
  | .steerModeWrite _ value roles => natWf 64 value && rolesWf roles
  | .restart _ value roles => natWf 64 value && rolesWf roles
  | .restartModel value roles => natWf 64 value && rolesWf roles
  | .modelObservation => true
  | .synthLock _ => true
  | .synthUnlock _ => true
  | .ppsoutEdge _ error => intWf 64 error
  | .todOutMessage => true
  | .ppsoutConfigWrite _ w roles => w.wf && rolesWf roles
  | .modadd _ cmd roles => cmd.wf && rolesWf roles
  | .modsub _ cmd roles => cmd.wf && rolesWf roles
  | .modmul _ cmd roles => cmd.wf && rolesWf roles
  | .modexp _ cmd roles => cmd.wf && rolesWf roles
  | .modexpPub _ cmd roles => cmd.wf && rolesWf roles
  | .modinv _ cmd roles => cmd.wf && rolesWf roles
  | .rsaCrt _ cmd roles => cmd.wf && rolesWf roles
  | .x25519 _ cmd roles => cmd.wf && rolesWf roles
  | .ed25519Sign _ cmd roles => cmd.wf && rolesWf roles
  | .ed25519Verify _ cmd roles => cmd.wf && rolesWf roles
  | .ecdsaSignP256 _ cmd roles => cmd.wf && rolesWf roles
  | .ecdsaVerifyP256 _ cmd roles => cmd.wf && rolesWf roles
  | .ecdsaVerifyP384 _ cmd roles => cmd.wf && rolesWf roles
  | .ecdsaVerifyP521 _ cmd roles => cmd.wf && rolesWf roles
  | .keygenP256 _ cmd roles => cmd.wf && rolesWf roles
  | .keygenEd25519 _ cmd roles => cmd.wf && rolesWf roles
  | .keygenX25519 _ cmd roles => cmd.wf && rolesWf roles
  | .clear _ cmd roles => cmd.wf && rolesWf roles
  | .copy _ cmd roles => cmd.wf && rolesWf roles
  | .clearRegion _ cmd roles => cmd.wf && rolesWf roles
  | .pkDispatch => true
  | .pkValidationEnd _ => true
  | .pkComplete _ _ => true
  | .pkAbort _ tag roles => natWf 64 tag && rolesWf roles
  | .pkPop value roles => natWf 64 value && rolesWf roles
  | .erase _ roles => rolesWf roles
  | .pkSlotDefine _ _ w roles => w.wf && rolesWf roles
  | .pkDataWrite _ _ value roles => natWf 8192 value && rolesWf roles
  | .functionLevelReset posted => posted.all (fun p => natWf 8 p.1)
  | .pcieLinkDown => true
  | .pcieLinkUp width rate => natWf 64 width && natWf 64 rate
  | .ringEnable _ _ roles => rolesWf roles
  | .ringDisable _ _ posted roles => posted.all (natWf 64) && rolesWf roles
  | .doorbellProd _ _ value => natWf 32 value
  | .doorbellAck _ _ value => natWf 32 value
  | .rxFrameDeliver _ bufs => bufs.all (natWf 64)
  | .txDescTake _ descs _ => descs.all TxDesc.wf
  | .vecArmWrite mask => natWf 32 mask
  | .vecHoldoffEnd _ => true
  | .irqPendingClear mask roles => natWf 64 mask && rolesWf roles
  | .tailPop _ value => natWf 32 value
  | .counterPageSnap _ => true
  | .wrapClear _ mask => natWf 32 mask
  | .windowDoorbell _ value => natWf 32 value
  | .dmaTimeout _ _ => true
  | .lanithRequest => true
  | .read area im offset length roles => natWf 8 area && natWf 16 im && natWf 16 offset && natWf 16 length && rolesWf roles
  | .write area im offset bytes roles => natWf 8 area && natWf 16 im && natWf 16 offset && decide (bytes.length ≤ 16384) && rolesWf roles
  | .timedWrite area im bytes roles => natWf 8 area && natWf 16 im && decide (bytes.length ≤ 16384) && rolesWf roles
  | .partStagingTimeout area im => natWf 8 area && natWf 16 im
  | .responseHoldExpiry _ => true
  | .writeQueueDrain => true
  | .fwReadDone => true
  | .dictObjectWrite area im bytes roles => natWf 8 area && natWf 16 im && decide (bytes.length ≤ 16384) && rolesWf roles
  | .credWrite _ w roles => w.wf && rolesWf roles
  | .save roles => rolesWf roles
  | .storeSaveDone _ => true
  | .factoryDefaults roles => rolesWf roles
  | .descChunkSelect index roles => natWf 64 index && rolesWf roles
  | .loadWindow util => natWf 64 util
  | .segmentFrameRx frame => decide (frame.length ≤ 16384)
  | .publishRx => true
  | .publishSend => true
  | .collision => true
  | .backoffEnd => true
  | .plcaTxOpportunity => true
  | .segmentLinkLoss => true
  | .snapMaskWrite mask roles => natWf 64 mask && rolesWf roles
  | .cntWinClose _ value roles => natWf 64 value && rolesWf roles
  | .cntWinEventWrite _ value roles => natWf 64 value && rolesWf roles
  | .cntOccWrite _ w roles => w.wf && rolesWf roles
  | .peakClear _ value roles => natWf 64 value && rolesWf roles
  | .userViewSnap _ => true
  | .cntUserMaskWrite mask roles => natWf 64 mask && rolesWf roles
  | .faultForce _ value roles => natWf 64 value && rolesWf roles
  | .faultRearm _ value roles => natWf 64 value && rolesWf roles
  | .faultLatchClear _ mask roles => natWf 64 mask && rolesWf roles
  | .testWindowOpen seconds roles => natWf 64 seconds && rolesWf roles
  | .testWindowClose value roles => natWf 64 value && rolesWf roles
  | .testWindowExpiry => true
  | .selfcheckPass _ => true
  | .scrubRead _ _ _ => true
  | .scrubOverrun _ => true
  | .eclipseRailChange => true
  | .eclipseEntry => true
  | .lingerEnd => true
  | .powerOnReset => true
  | .warmReset => true
  | .resetCommandWarm value roles => natWf 64 value && rolesWf roles
  | .autoReset => true
  | .watchdogExpiry => true
  | .pllLock _ => true
  | .pllLockTimeout => true
  | .ddrTrained _ => true
  | .credentialsRestored _ _ => true
  | .imageVerified => true
  | .storesRestored _ _ => true
  | .restoreTick => true
  | .monitorSample rails temps => rails.all (natWf 64) && temps.all (intWf 32)
  | .thermTripRelease => true
  | .avsLoop margins _ => margins.all (intWf 32)
  | .fwImageDataWrite offset bytes roles => natWf 32 offset && decide (bytes.length ≤ 16384) && rolesWf roles
  | .fwImageCommit value roles => natWf 64 value && rolesWf roles
  | .advanceRollback value roles => natWf 64 value && rolesWf roles
  | .dumpNow value roles => natWf 64 value && rolesWf roles
  | .dumpCapture log cores unreadable => decide (log.length ≤ 4194304) && decide (cores.length ≤ 4194304) && unreadable.all (natWf 64)
  | .dumpComplete => true
  | .dumpClear mask roles => natWf 64 mask && rolesWf roles
  | .dumpChunkSelect index roles => natWf 64 index && rolesWf roles
  | .thermTrip => true
  | .ddrPllLock => true
  | .serdesPllLock _ => true
  | .segmentLinkUp => true
  | .coresRestart => true
  | .msixMaskWrite _ _ => true
  | .tailOverflowClear _ => true
  | .windowRequestWrite _ w => w.wf
  | .upstreamDelayReq _ grid => grid.all GridPoint.wf
  | .resetRelease _ _ => true

end Sys2Proof
end

