-- ==== Sys2Proof/Safety.lean ====
section
/-! DEFINITION. What the claims call safe: the shape every step keeps, and what no command may touch. -/

namespace Sys2Proof.Machine

/-- The time-clock domain has its 32 moons (R38), and its tick counter fits 64 bits (R22). -/
def TimeCore.whole (c : TimeCore) : Prop := c.moons.length = 32 ∧ c.tick < 2 ^ 64

/-- `e` with what every engine shares as `e'` has it: the dictionary objects, the response, what left the pins, the event counters, the
interrupt logic, the fault system and the management transmit queue. -/
def Eng.sharedWith (e e' : Eng) : Eng :=
  { e with od := e'.od, resp := e'.resp, out := e'.out, irq := e'.irq, flt := e'.flt, seg := e'.seg, ctr := e'.ctr }

/-- Nothing but what every engine shares differs. -/
def Eng.quiet (e e' : Eng) : Prop := e' = e.sharedWith e'

/-- Nothing but the objects, the response, what left the pins and the event counters differs. -/
def Eng.onlyObjects (e e' : Eng) : Prop := e' = { e with od := e'.od, resp := e'.resp, out := e'.out, ctr := e'.ctr }

/-- The value, the roles and the device's mode pass steps 4 to 7 of R344 for an object, and the value is in its own range: what is left
to judge are the relations its chapter states. -/
def Eng.admits (e : Eng) (k : Key) (v : Int) (roles : Nat) : Bool :=
  match rowOf k with
  | none => false
  | some r => e.judge r k v roles == stOk && r.inRange v

/-- The same for the values of a whole record (R345). -/
def Eng.admitsAll (e : Eng) (vs : List (Key × Int)) (roles : Nat) : Bool := e.judgeAll vs roles == stOk && rangeAll vs

/-- The objects a write accounts in (R362, R357), and the sticky bits a counter's wrap sets (R382). -/
def accounting (k : Key) : Bool :=
  k == Od.DICT_STATUS.accepted || k == Od.DICT_STATUS.refused || k == Od.DICT_STATUS.busy || k == Od.DICT_STATUS.denied ||
  k == Od.DICT_STATUS.sticky || k == Od.STORE.unsaved || k == Od.CNT_STATUS.sticky

/-- Nothing outside the engines differs: the time-clock domain, the fuses and the queue. -/
def State.beside (s t : State) : Prop := t.core = s.core ∧ t.fuses = s.fuses ∧ t.pending = s.pending

/-- A write answered OK, and stored exactly the values `vs`: every other object but those of the accounting, the time-clock domain, the
fuses and the queue are as they were. -/
def State.stored (s t : State) (vs : List (Key × Int)) : Prop :=
  t.eng.resp.status = stOk ∧ (∀ p ∈ vs, t.eng.i p.1 = p.2) ∧
  (∀ k, (∀ p ∈ vs, k ≠ p.1) → accounting k = false → t.eng.i k = s.eng.i k) ∧ s.beside t

/-- The write of a record, or of one of its members, passes what `Eng.admits` says of each value it holds (R344, R345). -/
def Eng.admitsRec (e : Eng) (area item : Nat) (w : RecWrite) (roles : Nat) : Bool :=
  match w with
  | .member m v => decide (m < 16) && e.admits (odKey area item m) v roles
  | .whole vs => vs.length == (recKeys area item).length && e.admitsAll (recValues area item w) roles

/-- A write answered OK, and stored exactly the values `vs`: every other object but those of the accounting, and everything else of the
device, is as it was. -/
def State.wrote (s t : State) (vs : List (Key × Int)) : Prop :=
  t.eng.resp.status = stOk ∧ (∀ p ∈ vs, t.eng.i p.1 = p.2) ∧
  (∀ k, (∀ p ∈ vs, k ≠ p.1) → accounting k = false → t.eng.i k = s.eng.i k) ∧ s.eng.onlyObjects t.eng ∧ s.beside t

/-- How many times the event `ev` has been counted in the 48 bits of its counter (R381). -/
def Eng.seen (e : Eng) (ev : Nat) : Nat := (tgetD e.ctr.ev ev Counter.zero).total

/-- A write answered OK, and the time-clock domain, the fuses and the queue stand. -/
def State.accepted (s t : State) : Prop := t.eng.resp.status = stOk ∧ s.beside t

/-- The state after the commands of a list, one after the other; nothing where one of them stops the device. -/
def execAll : List Instr → State → Option State
  | [], s => some s
  | c :: cs, s =>
    match exec c s with
    | .next t => execAll cs t
    | _ => none

/-- The fuses, apart from the rollback bits, are as they were; and those have not been lowered (R424). -/
def Fuses.keeps (f g : Fuses) : Prop := g = { f with rollback := g.rollback } ∧ f.rollback ≤ g.rollback

/-- The commands a device in reset acts on (R421 to R424, R418): the resets, the release, the PLLs' lock and its timeout, and the
temperature trip, which needs no clock. -/
def actsInReset : Instr → Bool
  | .powerOnReset => true
  | .warmReset => true
  | .resetRelease _ _ => true
  | .pllLock _ => true
  | .pllLockTimeout => true
  | .thermTrip => true
  | .thermTripRelease => true
  | _ => false


/-- The commands by which the device may start again, whose time clock then restarts (R421, R422): the reset pins, the automatic reset,
and the writes that reach RESET_CTRL.command, directly or by an object's number. -/
def mayRestart : Instr → Bool
  | .powerOnReset => true
  | .warmReset => true
  | .autoReset => true
  | .resetCommandWarm _ _ => true
  | .advanceRollback _ _ => true
  | .dictWrite _ => true
  | .writeQueueDrain => true
  | .dictObjectWrite _ _ _ _ => true
  | .steerBoundary _ => true
  | _ => false

/-- The object, value and roles of a command that is the write of one object: what R344 judges. -/
def writeOf : Instr → Option (Key × Int × Nat)
  | .moonConfigEnableWrite moon value roles => some (Od.MOON_CONFIG.enable moon, value, roles)
  | .moonIncStagedWrite moon value roles => some (Od.MOON_INC_STAGED moon, value, roles)
  | .moonStepStagedWrite moon value roles => some (Od.MOON_STEP_STAGED moon, value, roles)
  | .moonConsentWrite moon bound roles => some (Od.MOON_CONSENT.bound moon, bound, roles)
  | .moonSetValueWrite moon value roles => some (Od.MOON_SET.value moon, value, roles)
  | .moonSetArmedWrite moon value roles => some (Od.MOON_SET.armed moon, value, roles)
  | .leapBaseWrite value roles => some (Od.LEAP_BASE, value, roles)
  | .moonCmpTargetWrite moon cell target roles => some (cmpTarget moon cell, target, roles)
  | .schedEntryEmpty entry value roles => some (Od.SCHED_ENTRY.state entry, value, roles)
  | .laneGroupModeWrite group value roles => some (Od.LANE_GROUP.mode group, value, roles)
  | .portEnableWrite port value roles => some (Od.PORT_CONFIG.enable port, value, roles)
  | .laneIfWrite lane value roles => some (Od.LANE_IF lane, value, roles)
  | .ruleCommit value roles => some (Od.RULE_COMMIT.commit, value, roles)
  | .calItemWrite item value roles => some (calKey item, value, roles)
  | .calCtrlOpen mask roles => some (Od.CAL_CTRL.open_, mask, roles)
  | .calCtrlClose mask roles => some (Od.CAL_CTRL.close, mask, roles)
  | .pipeReenable pipe value roles => some (Od.PIPE.reenable pipe, value, roles)
  | .ansRekey value roles => some (Od.ANS_GLOBAL.rekey, value, roles)
  | .ntsSlotLoadLocal slot roles => some (Od.NTS_SLOT.command slot, 1, roles)
  | .ntsSlotLoadStation slot roles => some (Od.NTS_SLOT.command slot, 2, roles)
  | .ntsSlotLoadImport slot roles => some (Od.NTS_SLOT.command slot, 3, roles)
  | .ntsSlotMakeCurrent slot roles => some (Od.NTS_SLOT.command slot, 4, roles)
  | .ntsSlotRetire slot roles => some (Od.NTS_SLOT.command slot, 5, roles)
  | .ntsStationSeedWrite seed roles => some (Od.NTS_STATION.seed, seed, roles)
  | .ntsKeKeyGenerate roles => some (Od.NTS_KE_KEY.command, 1, roles)
  | .acceptJump slot roles => some (Od.SEL_SLOT_CMD slot, 1, roles)
  | .clearWtr slot roles => some (Od.SEL_SLOT_CMD slot, 2, roles)
  | .resetStability slot roles => some (Od.SEL_SLOT_CMD slot, 3, roles)
  | .selForceWrite moon value roles => some (Od.SEL_MOON.force moon, value, roles)
  | .steerModeWrite moon value roles => some (Od.STEER_MOON.mode moon, value, roles)
  | .restart moon value roles => some (Od.STEER_CMD moon, value, roles)
  | .restartModel value roles => some (Od.STEER_OSC.command, value, roles)
  | .pkPop value roles => some (Od.PK_HOST_CTRL.pop, value, roles)
  | .erase handle roles => some (Od.PK_KEY.command handle, 1, roles)
  | .irqPendingClear mask roles => some (Od.HOST_IRQ_PENDING, mask, roles)
  | .save roles => some (Od.STORE.command, 1, roles)
  | .factoryDefaults roles => some (Od.STORE.command, 2, roles)
  | .descChunkSelect index roles => some (Od.DESC.chunk_index, index, roles)
  | .snapMaskWrite mask roles => some (Od.CNT_CTRL.snap_mask, mask, roles)
  | .cntWinClose window value roles => some (Od.CNT_WIN.close window, value, roles)
  | .cntWinEventWrite window value roles => some (Od.CNT_WIN.event window, value, roles)
  | .peakClear occ value roles => some (Od.CNT_OCC.peak_clear occ, value, roles)
  | .cntUserMaskWrite mask roles => some (Od.CNT_USER.mask, mask, roles)
  | .faultForce block value roles => some (Od.FLT_BLOCK.force block, value, roles)
  | .faultRearm block value roles => some (Od.FLT_BLOCK.rearm block, value, roles)
  | .faultLatchClear block mask roles => some (Od.FLT_BLOCK.latch block, mask, roles)
  | .testWindowOpen seconds roles => some (Od.FLT_TEST.open_s, seconds, roles)
  | .testWindowClose value roles => some (Od.FLT_TEST.close, value, roles)
  | .fwImageDataWrite _ _ roles => some (Od.FW_IMAGE.data, 0, roles)
  | .fwImageCommit value roles => some (Od.FW_IMAGE.commit, value, roles)
  | .dumpNow value roles => some (Od.DUMP_CTRL.dump_now, value, roles)
  | .dumpClear mask roles => some (Od.DUMP_CTRL.clear, mask, roles)
  | .dumpChunkSelect index roles => some (Od.DUMP_READ.chunk_index, index, roles)
  | .ringEnable tx ring roles => some (if tx then Od.TX_RING_CFG.enable ring else Od.RX_RING_CFG.enable ring, 1, roles)
  | .ringDisable tx ring _ roles => some (if tx then Od.TX_RING_CFG.enable ring else Od.RX_RING_CFG.enable ring, 0, roles)
  | _ => none

/-- The operation, queue, command and roles of a submission to the public-key engine (R308 to R315). -/
def pkOf : Instr → Option (Nat × Fin 4 × PkCmd × Nat)
  | .modadd queue cmd roles => some (1, queue, cmd, roles)
  | .modsub queue cmd roles => some (2, queue, cmd, roles)
  | .modmul queue cmd roles => some (3, queue, cmd, roles)
  | .modexp queue cmd roles => some (4, queue, cmd, roles)
  | .modexpPub queue cmd roles => some (5, queue, cmd, roles)
  | .modinv queue cmd roles => some (6, queue, cmd, roles)
  | .rsaCrt queue cmd roles => some (7, queue, cmd, roles)
  | .x25519 queue cmd roles => some (8, queue, cmd, roles)
  | .ed25519Sign queue cmd roles => some (9, queue, cmd, roles)
  | .ed25519Verify queue cmd roles => some (10, queue, cmd, roles)
  | .ecdsaSignP256 queue cmd roles => some (11, queue, cmd, roles)
  | .ecdsaVerifyP256 queue cmd roles => some (12, queue, cmd, roles)
  | .ecdsaVerifyP384 queue cmd roles => some (13, queue, cmd, roles)
  | .ecdsaVerifyP521 queue cmd roles => some (14, queue, cmd, roles)
  | .keygenP256 queue cmd roles => some (15, queue, cmd, roles)
  | .keygenEd25519 queue cmd roles => some (16, queue, cmd, roles)
  | .keygenX25519 queue cmd roles => some (17, queue, cmd, roles)
  | .clear queue cmd roles => some (32, queue, cmd, roles)
  | .copy queue cmd roles => some (33, queue, cmd, roles)
  | .clearRegion queue cmd roles => some (34, queue, cmd, roles)
  | _ => none

/-- The fields of the engines' state beside those that every engine shares (`Eng.sharedWith`). -/
inductive EngField where
  | draws
  | pins
  | boot
  | flash
  | tl
  | sealedFor
  | lastBoundary
  | cmpArmedAt
  | sched
  | ports
  | cls
  | lanes
  | calWait
  | keyWait
  | ans
  | fwTicks
  | cals
  | nts
  | ptp
  | ups
  | refins
  | synces
  | tod
  | sibs
  | gnss
  | sel
  | steer
  | model
  | outs
  | pk
  | rxRings
  | txRings
  | tails
  | wins
  | inbox
  | ptpIn
  | front
  | mon
  | dump
  deriving DecidableEq, Repr

/-- The two states agree in a field. -/
def EngField.same (f : EngField) (e e' : Eng) : Prop :=
  match f with
  | .draws => e'.draws = e.draws
  | .pins => e'.pins = e.pins
  | .boot => e'.boot = e.boot
  | .flash => e'.flash = e.flash
  | .tl => e'.tl = e.tl
  | .sealedFor => e'.sealedFor = e.sealedFor
  | .lastBoundary => e'.lastBoundary = e.lastBoundary
  | .cmpArmedAt => e'.cmpArmedAt = e.cmpArmedAt
  | .sched => e'.sched = e.sched
  | .ports => e'.ports = e.ports
  | .cls => e'.cls = e.cls
  | .lanes => e'.lanes = e.lanes
  | .calWait => e'.calWait = e.calWait
  | .keyWait => e'.keyWait = e.keyWait
  | .ans => e'.ans = e.ans
  | .fwTicks => e'.fwTicks = e.fwTicks
  | .cals => e'.cals = e.cals
  | .nts => e'.nts = e.nts
  | .ptp => e'.ptp = e.ptp
  | .ups => e'.ups = e.ups
  | .refins => e'.refins = e.refins
  | .synces => e'.synces = e.synces
  | .tod => e'.tod = e.tod
  | .sibs => e'.sibs = e.sibs
  | .gnss => e'.gnss = e.gnss
  | .sel => e'.sel = e.sel
  | .steer => e'.steer = e.steer
  | .model => e'.model = e.model
  | .outs => e'.outs = e.outs
  | .pk => e'.pk = e.pk
  | .rxRings => e'.rxRings = e.rxRings
  | .txRings => e'.txRings = e.txRings
  | .tails => e'.tails = e.tails
  | .wins => e'.wins = e.wins
  | .inbox => e'.inbox = e.inbox
  | .ptpIn => e'.ptpIn = e.ptpIn
  | .front => e'.front = e.front
  | .mon => e'.mon = e.mon
  | .dump => e'.dump = e.dump

/-- The fields a scheduled action may reach, through the objects and engines it acts on. -/
def EngField.acted : List EngField :=
  [.draws, .boot, .flash, .tl, .cmpArmedAt, .sched, .cls, .lanes, .calWait, .keyWait, .ans, .cals, .nts, .ups, .refins, .tod,
   .gnss, .sel, .steer, .model, .outs, .pk, .rxRings, .txRings, .tails, .front, .dump]

/-- The fields a command may change beside the shared ones: those of its own engine, and of the engines its effect reaches. The commands
through which the device may start again, and the write of any object by its number, may change them all. -/
def owns (f : EngField) : Instr → Bool
  | .tick .. =>
    [.draws, .boot, .tl, .sched, .ports, .cls, .keyWait, .ans, .cals, .nts, .ptp, .refins, .gnss, .sel, .pk, .rxRings, .txRings,
     .tails, .wins, .front].contains f
  | .closingTick .. => [.tl, .sealedFor, .sched, .lanes, .cals, .sel, .steer, .model].contains f
  | .steerBoundary .. => true
  | .timeClockMonitor .. => [.mon].contains f
  | .ddrPllUnlock => [.boot].contains f
  | .serdesPllUnlock .. => [.lanes, .cals, .txRings, .tails].contains f
  | .leapBaseWrite .. => [.tl, .sched].contains f
  | .leapEntryWrite .. => [.tl, .sched].contains f
  | .moonCmpTargetWrite .. => [.cmpArmedAt].contains f
  | .schedEntryWrite .. => [.sched].contains f
  | .schedEntryEmpty .. => [.sched].contains f
  | .schedEvaluationPass => [.sched].contains f
  | .pulse .. => EngField.acted.contains f
  | .snapshot .. => EngField.acted.contains f
  | .window .. => EngField.acted.contains f
  | .calWindow .. => EngField.acted.contains f
  | .keyRotate .. => EngField.acted.contains f
  | .switch .. => EngField.acted.contains f
  | .dictWrite .. => true
  | .event .. => EngField.acted.contains f
  | .leapPoint .. => [.tl, .sched].contains f
  | .laneGroupModeWrite .. => [.lanes, .cals, .txRings, .tails].contains f
  | .portEnableWrite .. => [.lanes, .cals, .txRings, .tails].contains f
  | .laneIfWrite .. => [.lanes, .cals, .txRings, .tails].contains f
  | .linkUp .. => [.lanes].contains f
  | .linkDown .. => [.lanes, .cals, .txRings, .tails].contains f
  | .frameReceive .. => [.ports, .cls, .ans, .inbox, .ptpIn].contains f
  | .pauseXoffRepeat .. => [.ports].contains f
  | .pauseEnd .. => [.ports].contains f
  | .esmcInfoPdu .. => [.ports].contains f
  | .ruleCommit .. => [.cls].contains f
  | .ruleCommitTakeEffect => [.cls].contains f
  | .ruleBankCopyDone => [.cls].contains f
  | .serviceEntryWrite .. => [.cls].contains f
  | .alignmentMarkerRx .. => [.lanes, .cals, .txRings, .tails].contains f
  | .echoResult .. => [.ports, .lanes, .cals, .txRings, .tails].contains f
  | .echoMissing .. => [.draws, .lanes, .cals, .txRings, .tails].contains f
  | .calItemWrite .. => [.calWait].contains f
  | .calStoreWrite => [.flash, .calWait].contains f
  | .calCtrlOpen .. => [.lanes].contains f
  | .answerRequest .. => [.draws, .ports, .ans, .cals, .nts].contains f
  | .checkerCompare .. => [.ans].contains f
  | .checkerProbe .. => [.ans].contains f
  | .pipeReenable .. => [.ans].contains f
  | .ansRekey .. => [.draws, .ans].contains f
  | .bucketSweep .. => [.ans].contains f
  | .ansRuleWrite .. => [.ans].contains f
  | .hostLaunchTake .. => [.cals, .txRings, .tails].contains f
  | .hostLaunchRetry .. => [.cals, .txRings, .tails].contains f
  | .timedFetchStart .. => [.cals].contains f
  | .frameRelease .. => [.ans, .cals, .ups, .txRings, .tails].contains f
  | .untimedTxStart .. => [.ports, .fwTicks, .cals, .txRings].contains f
  | .ntsSlotLoadLocal .. => [.draws, .keyWait, .ans, .nts].contains f
  | .ntsSlotLoadStation .. => [.draws, .keyWait, .ans, .nts].contains f
  | .ntsSlotLoadImport .. => [.draws, .keyWait, .ans, .nts].contains f
  | .ntsSlotMakeCurrent .. => [.draws, .keyWait, .ans, .nts].contains f
  | .ntsSlotRetire .. => [.draws, .keyWait, .ans, .nts].contains f
  | .slotRetireCheck => [.keyWait, .ans, .nts].contains f
  | .ntsStationSeedWrite .. => [.keyWait].contains f
  | .keyStoreWrite .. => [.flash, .keyWait].contains f
  | .drbgReseed .. => [.nts].contains f
  | .drbgRetry .. => [.nts].contains f
  | .ntsKeSyn .. => [.draws, .ports, .nts].contains f
  | .ntsKeRequest .. => [.draws, .nts].contains f
  | .ntsKeSessionTimeout .. => [.draws, .ports, .nts].contains f
  | .ntsKeKeyGenerate .. => [.draws, .keyWait, .nts, .pk].contains f
  | .ptpReceive .. => [.draws, .ports, .cals, .ptp, .ups, .sel, .steer, .txRings, .tails, .ptpIn].contains f
  | .grantExpiry .. => [.ptp].contains f
  | .ptpMessageDue .. => [.cals, .ptp, .txRings, .tails].contains f
  | .upstreamRenew .. => [.draws, .cals, .ptp, .ups, .sel, .txRings, .tails].contains f
  | .followUpTimeout .. => [.ups].contains f
  | .upstreamRetry .. => [.ups, .sel].contains f
  | .refinCompareEdge .. => [.refins, .tod, .sel, .steer].contains f
  | .refinStuck .. => [.refins, .sel].contains f
  | .refinConfigWrite .. => [.refins, .sel].contains f
  | .todInMessage .. => [.tod].contains f
  | .siblingStale .. => [.refins, .sel].contains f
  | .gnssSampleBlock .. => [.gnss, .sel].contains f
  | .checkChannelPass .. => [.gnss, .sel].contains f
  | .gnssSolutionEpoch .. => [.gnss, .sel, .steer].contains f
  | .channelRelease .. => [.gnss].contains f
  | .raimRejoin .. => [.gnss].contains f
  | .osnmaVerify .. => [.gnss].contains f
  | .osnmaFailExpiry .. => [.gnss].contains f
  | .antennaFaultPin .. => [.gnss, .sel].contains f
  | .gnssStoreSave .. => [.flash, .gnss].contains f
  | .gnssConfigWrite .. => [.gnss, .sel].contains f
  | .stabilityUpdate => [.sel].contains f
  | .slotSilent .. => [.sel].contains f
  | .asymEstimate .. => [.sel].contains f
  | .waitToRestoreEnd .. => [.sel].contains f
  | .acceptJump .. => [.sel].contains f
  | .clearWtr .. => [.sel].contains f
  | .resetStability .. => [.sel].contains f
  | .selForceWrite .. => [.sel].contains f
  | .restart .. => [.steer].contains f
  | .restartModel .. => [.model].contains f
  | .modelObservation => [.model].contains f
  | .synthLock .. => [.outs].contains f
  | .synthUnlock .. => [.outs].contains f
  | .ppsoutEdge .. => [.draws, .outs].contains f
  | .todOutMessage => [.outs].contains f
  | .ppsoutConfigWrite .. => [.outs].contains f
  | .modadd .. => [.pk].contains f
  | .modsub .. => [.pk].contains f
  | .modmul .. => [.pk].contains f
  | .modexp .. => [.pk].contains f
  | .modexpPub .. => [.pk].contains f
  | .modinv .. => [.pk].contains f
  | .rsaCrt .. => [.pk].contains f
  | .x25519 .. => [.pk].contains f
  | .ed25519Sign .. => [.pk].contains f
  | .ed25519Verify .. => [.pk].contains f
  | .ecdsaSignP256 .. => [.pk].contains f
  | .ecdsaVerifyP256 .. => [.pk].contains f
  | .ecdsaVerifyP384 .. => [.pk].contains f
  | .ecdsaVerifyP521 .. => [.pk].contains f
  | .keygenP256 .. => [.pk].contains f
  | .keygenEd25519 .. => [.pk].contains f
  | .keygenX25519 .. => [.pk].contains f
  | .clear .. => [.pk].contains f
  | .copy .. => [.pk].contains f
  | .clearRegion .. => [.pk].contains f
  | .pkDispatch => [.pk].contains f
  | .pkValidationEnd .. => [.pk].contains f
  | .pkComplete .. => [.draws, .keyWait, .nts, .pk].contains f
  | .pkAbort .. => [.draws, .pk].contains f
  | .pkPop .. => [.pk].contains f
  | .erase .. => [.keyWait, .pk].contains f
  | .pkDataWrite .. => [.pk].contains f
  | .functionLevelReset .. => [.draws, .rxRings, .txRings, .tails, .wins, .inbox].contains f
  | .pcieLinkDown => [.rxRings, .txRings, .tails, .wins, .inbox].contains f
  | .ringEnable .. => [.draws, .rxRings, .txRings].contains f
  | .ringDisable .. => [.draws, .rxRings, .txRings].contains f
  | .doorbellProd .. => [.rxRings, .txRings].contains f
  | .doorbellAck .. => [.rxRings, .txRings].contains f
  | .rxFrameDeliver .. => [.ports, .rxRings].contains f
  | .txDescTake .. => [.txRings].contains f
  | .tailPop .. => [.tails].contains f
  | .windowDoorbell .. => [.wins, .inbox].contains f
  | .dmaTimeout .. => [.rxRings, .txRings].contains f
  | .lanithRequest => [.draws, .ports, .keyWait, .wins, .inbox, .front].contains f
  | .read .. => [.front].contains f
  | .write .. => [.front].contains f
  | .timedWrite .. => [.front].contains f
  | .partStagingTimeout .. => [.front].contains f
  | .responseHoldExpiry .. => [.front].contains f
  | .writeQueueDrain => true
  | .fwReadDone => [.draws, .ports, .wins, .front].contains f
  | .dictObjectWrite .. => true
  | .credWrite .. => [.keyWait, .front].contains f
  | .save .. => [.flash, .front].contains f
  | .storeSaveDone .. => [.flash, .front].contains f
  | .factoryDefaults .. => [.flash, .front].contains f
  | .loadWindow .. => [.front].contains f
  | .segmentFrameRx .. => [.inbox].contains f
  | .publishRx => [.sibs, .inbox].contains f
  | .collision => [.draws].contains f
  | .scrubRead .. =>
    [.draws, .sched, .ports, .cls, .keyWait, .ans, .cals, .nts, .ptp, .gnss, .sel, .pk, .rxRings, .txRings, .tails, .wins, .front].contains f
  | .eclipseEntry => [.draws, .pins, .ports, .cals, .nts, .sel, .outs, .txRings, .tails, .wins, .front, .dump].contains f
  | .powerOnReset => true
  | .warmReset => true
  | .resetCommandWarm .. => true
  | .autoReset => true
  | .watchdogExpiry => [.draws, .boot, .flash, .nts, .dump].contains f
  | .pllLock .. => [.draws, .boot, .ans].contains f
  | .pllLockTimeout => [.boot].contains f
  | .ddrTrained .. => [.boot].contains f
  | .credentialsRestored .. => [.boot, .flash, .keyWait, .front].contains f
  | .imageVerified => [.boot].contains f
  | .storesRestored .. => [.boot, .flash, .calWait, .gnss, .model, .pk].contains f
  | .restoreTick =>
    [.draws, .pins, .boot, .flash, .tl, .cmpArmedAt, .sched, .cls, .lanes, .calWait, .keyWait, .ans, .cals, .nts, .ups, .refins,
     .tod, .gnss, .sel, .steer, .model, .outs, .pk, .rxRings, .txRings, .tails, .front, .dump].contains f
  | .monitorSample .. => [.mon].contains f
  | .thermTripRelease => [.pins].contains f
  | .avsLoop .. => [.mon].contains f
  | .fwImageDataWrite .. => [.flash, .front].contains f
  | .fwImageCommit .. => [.flash].contains f
  | .advanceRollback .. => true
  | .dumpNow .. => [.dump].contains f
  | .dumpCapture .. => [.flash, .dump].contains f
  | .dumpComplete => [.flash, .dump].contains f
  | .dumpClear .. => [.flash].contains f
  | .thermTrip => [.pins].contains f
  | .ddrPllLock => [.boot].contains f
  | .coresRestart => [.boot].contains f
  | .tailOverflowClear .. => [.tails].contains f
  | .windowRequestWrite .. => [.wins].contains f
  | .upstreamDelayReq .. => [.draws, .cals, .ptp, .ups, .txRings, .tails].contains f
  | .resetRelease .. => [.boot].contains f
  | _ => false

end Sys2Proof.Machine
end

