-- ==== Sys2Proof/Certificates/Slice0/Obligations.lean ====
section
/-! DEFINITION. The statements for the provers: what the device's commands do, by the rules of spec/. -/

section

open Sys2Proof Sys2Proof.Machine

/-! ## The queue, the clock and the fuses -/

/-- One step runs the command at the front of the queue on the state with the rest of the queue; with nothing waiting the block idles
(the model's choice, notes/assumptions/1.md). -/
def Obligations.StepRunsFrontCommand : Prop :=
  (∀ (s : State) (c : Instr) (rest : List Instr), step { s with pending := c :: rest } = exec c { s with pending := rest }) ∧
  ∀ s : State, s.pending = [] → step s = .next s

/-- A command leaves the queue of the commands that wait after it as it was.
Every command is answered with a next state: none stops the device with a fault or a refusal. -/
def Obligations.EveryCommandIsAnswered : Prop :=
  (∀ (c : Instr) (s t : State), exec c s = .next t → t.pending = s.pending) ∧
  (∀ (c : Instr) (s : State), ∃ t, exec c s = .next t)

/-- The tick counter and the moons' accumulators change by TICK, by STEER_BOUNDARY, and by a restart of the time clock alone (R22, R25,
R38): every other command leaves them.
No command changes a fuse but the rollback bits, and those are only ever blown, never lowered (R424, R427). -/
def Obligations.TimeAndFusesMoveByTheirCommands : Prop :=
  (∀ (c : Instr) (s t : State), exec c s = .next t →
      t.core = s.core ∨
      ((∃ u h, c = .tick u h) ∧ t.core = s.core.advance) ∨
      ((∃ inp, c = .steerBoundary inp) ∧ t.core = s.core.takeAll s.eng.tl) ∨
      (mayRestart c = true ∧ t.core = TimeCore.atReset)) ∧
  (∀ (c : Instr) (s t : State), exec c s = .next t → s.fuses.keeps t.fuses)

/-- While the device is in reset, every command but the resets, the release, the time-clock PLL's lock and its timeout, and the
temperature trip does nothing: the state is left as it was, and nothing leaves the pins (the model's choice for the commands that no rule
describes in reset, notes/assumptions/4.md). -/
def Obligations.ADeviceInResetIgnoresCommands : Prop :=
  ∀ (c : Instr) (s : State), s.eng.up = false → actsInReset c = false → exec c s = .next { s with eng := { s.eng with out := [] } }

/-- Every step keeps the time-clock domain whole: 32 moons, and a tick counter of 64 bits. -/
def Obligations.StepsKeepTheClockWhole : Prop :=
  ∀ s t : State, s.core.whole → step s = .next t → t.core.whole

/-- After reset every moon's accumulator is 0, every active and staged increment is 2^48, every moon is in FREE RUN, and moons 1 to 31 are
disabled (R40); the tick counter is 0, moon 0 alone advances, and the time-clock domain is whole. -/
def Obligations.ResetStartsTheClock : Prop :=
  State.reset.core.whole ∧ State.reset.core.tick = 0 ∧
  ∀ k : Fin 32, (State.reset.core.moon k).acc = 0 ∧ (State.reset.core.moon k).inc = BitVec.ofNat 64 (2 ^ 48) ∧
    State.reset.eng.n (Od.MOON_INC_STAGED k) = 2 ^ 48 ∧ (State.reset.eng.moon k).cur.state = .freeRun ∧
    (State.reset.core.moon k).adv = (k == 0) ∧ (k ≠ 0 → State.reset.eng.b (Od.MOON_CONFIG.enable k) = false)

/-- A command that writes one object, refused by steps 4 to 7 of R344 (no listed role, an access code that admits no write, a value its
type cannot hold, a reserved bit or a malformed text, the modes of R411 and R426), answers with that status and changes nothing but the
accounting of R362. -/
def Obligations.RefusedWritesOnlyAccount : Prop :=
  ∀ (c : Instr) (s : State) (k : Key) (v : Int) (roles : Nat) (r : ObjRow), writeOf c = some (k, v, roles) →
    s.eng.up = true → rowOf k = some r → s.eng.judge r k v roles ≠ stOk →
    ∃ t, exec c s = .next t ∧ t.eng.resp = ⟨s.eng.judge r k v roles, s.core.tick, 0, []⟩ ∧
      (∀ j, accounting j = false → t.eng.i j = s.eng.i j) ∧ s.eng.onlyObjects t.eng ∧ t.eng.out = [] ∧ s.beside t

/-- A command changes no field of the state but its own engine's, those its effect reaches, and the shared ones: every other engine's
queues, buffers, units and records are as they were. -/
def Obligations.CommandsChangeOnlyWhatTheyReach : Prop :=
  ∀ (c : Instr) (s t : State) (f : EngField), exec c s = .next t → owns f c = false → f.same s.eng t.eng

/-! ## Moons (spec/02_moons.md) -/

/-- The writes that stage a moon's change are accepted for a moon that does not follow moon 0, in the mode each needs, and store what
they say and nothing else: the enable of R39, the increment of R41 while the loop is open, the step of R45, the set of R68 by its value,
by its armed bit (0 cancels it) and by the whole record.
A follower takes no staged increment, step or set of its own, and a moon whose loop is closed takes no staged increment (R41, R42):
the write answers MODE, and the staged objects stay as they were. -/
def Obligations.StagedMoonWritesAreStored : Prop :=
  (∀ (s : State) (moon : Fin 32) (roles : Nat), s.eng.up = true →
      (∀ value : Nat, s.eng.admits (Od.MOON_CONFIG.enable moon) value roles = true →
        ∃ t, exec (.moonConfigEnableWrite moon value roles) s = .next t ∧ s.wrote t [(Od.MOON_CONFIG.enable moon, value)]) ∧
      (s.eng.follows moon = false →
        (∀ value : Nat, s.eng.admits (Od.MOON_INC_STAGED moon) value roles = true → s.eng.loopOpen moon = true →
          ∃ t, exec (.moonIncStagedWrite moon value roles) s = .next t ∧ s.wrote t [(Od.MOON_INC_STAGED moon, value)]) ∧
        (∀ value : Int, s.eng.admits (Od.MOON_STEP_STAGED moon) value roles = true →
          ∃ t, exec (.moonStepStagedWrite moon value roles) s = .next t ∧ s.wrote t [(Od.MOON_STEP_STAGED moon, value)]) ∧
        (∀ value : Nat, s.eng.admits (Od.MOON_SET.value moon) value roles = true →
          ∃ t, exec (.moonSetValueWrite moon value roles) s = .next t ∧
            s.wrote t [(Od.MOON_SET.value moon, value), (Od.MOON_SET.armed moon, 1)]) ∧
        (s.eng.admits (Od.MOON_SET.armed moon) 0 roles = true →
          ∃ t, exec (.moonSetArmedWrite moon 0 roles) s = .next t ∧ s.wrote t [(Od.MOON_SET.armed moon, 0)]) ∧
        ∀ armed value : Nat, s.eng.admitsAll [(Od.MOON_SET.armed moon, armed), (Od.MOON_SET.value moon, value)] roles = true →
          ∃ t, exec (.moonSetRecordWrite moon armed value roles) s = .next t ∧
            s.wrote t [(Od.MOON_SET.value moon, value), (Od.MOON_SET.armed moon, armed)])) ∧
  (∀ (s : State) (moon : Fin 32) (roles : Nat), s.eng.up = true →
      (∀ value : Nat, s.eng.admits (Od.MOON_INC_STAGED moon) value roles = true →
        s.eng.follows moon = true ∨ s.eng.loopOpen moon = false →
        ∃ t, exec (.moonIncStagedWrite moon value roles) s = .next t ∧ t.eng.resp.status = stMode ∧
          t.eng.i (Od.MOON_INC_STAGED moon) = s.eng.i (Od.MOON_INC_STAGED moon) ∧ s.eng.onlyObjects t.eng ∧ s.beside t) ∧
      (s.eng.follows moon = true →
        (∀ value : Int, s.eng.admits (Od.MOON_STEP_STAGED moon) value roles = true →
          ∃ t, exec (.moonStepStagedWrite moon value roles) s = .next t ∧ t.eng.resp.status = stMode ∧
            t.eng.i (Od.MOON_STEP_STAGED moon) = s.eng.i (Od.MOON_STEP_STAGED moon) ∧ s.eng.onlyObjects t.eng ∧ s.beside t) ∧
        ∀ value : Nat, s.eng.admits (Od.MOON_SET.value moon) value roles = true →
          ∃ t, exec (.moonSetValueWrite moon value roles) s = .next t ∧ t.eng.resp.status = stMode ∧
            t.eng.i (Od.MOON_SET.armed moon) = s.eng.i (Od.MOON_SET.armed moon) ∧ s.eng.onlyObjects t.eng ∧ s.beside t))

/-- A write of a jump-consent bound within the fused ceiling arms consent for ten seconds of moon 0 time, and a bound of zero disarms it;
when the ten seconds have passed the consent disarms, and nothing else changes (R47). -/
def Obligations.ConsentArmsForTenSeconds : Prop :=
  ∀ (s : State) (moon : Fin 32), s.eng.up = true →
    (∀ (bound : Int) (roles : Nat), s.eng.admits (Od.MOON_CONSENT.bound moon) bound roles = true → 0 < bound →
      bound ≤ s.fuses.ceilStep →
      ∃ t, exec (.moonConsentWrite moon bound roles) s = .next t ∧
        s.wrote t [(Od.MOON_CONSENT.bound moon, bound), (Od.MOON_CONSENT.armed moon, 1),
          (Od.MOON_CONSENT.expires moon, ((s.ctx.st 0 + 10 * unitsPerSec) % 2 ^ 64 : Nat))]) ∧
    (∀ roles : Nat, s.eng.admits (Od.MOON_CONSENT.bound moon) 0 roles = true →
      ∃ t, exec (.moonConsentWrite moon 0 roles) s = .next t ∧
        s.wrote t [(Od.MOON_CONSENT.bound moon, 0), (Od.MOON_CONSENT.armed moon, 0)]) ∧
    (s.eng.b (Od.MOON_CONSENT.armed moon) = true → stGe (s.ctx.st 0) (s.eng.n (Od.MOON_CONSENT.expires moon)) = true →
      ∃ t, exec (.consentExpiry moon) s = .next t ∧ t.eng.i (Od.MOON_CONSENT.armed moon) = 0 ∧
        (∀ k, k ≠ Od.MOON_CONSENT.armed moon → t.eng.i k = s.eng.i k) ∧
        t.eng = { s.eng with od := t.eng.od, out := [] } ∧ s.beside t)

/-- A write of a compare cell's target no more than 2^46 ns ahead arms the cell; a due cell fires: reached is set, the cell disarms, and
its moon's interrupt source latches (R61). -/
def Obligations.CompareCellsArmAndFire : Prop :=
  ∀ (s : State) (moon : Fin 32) (cell : Fin 4), s.eng.up = true →
    (∀ target roles : Nat, s.eng.admits (cmpTarget moon cell) target roles = true → stDiff target (s.ctx.st moon) ≤ (2 ^ 62 : Nat) →
      ∃ t, exec (.moonCmpTargetWrite moon cell target roles) s = .next t ∧ t.eng.resp.status = stOk ∧
        t.eng.i (cmpTarget moon cell) = target ∧ t.eng.i (cmpArmed moon cell) = 1 ∧
        tget t.eng.cmpArmedAt (4 * moon + cell) = some s.core.tick ∧
        (∀ k, k ≠ cmpTarget moon cell → k ≠ cmpArmed moon cell → accounting k = false → t.eng.i k = s.eng.i k) ∧
        s.eng.onlyObjects { t.eng with cmpArmedAt := s.eng.cmpArmedAt } ∧ s.beside t) ∧
    (s.eng.cmpDue s.ctx moon cell = true →
      ∃ t, exec (.compareCellFire moon cell) s = .next t ∧ t.eng.i (cmpReached moon cell) = 1 ∧ t.eng.i (cmpArmed moon cell) = 0 ∧
        t.eng.irq.latched = s.eng.irq.latched ||| 2 ^ (128 + moon.val) ∧
        (∀ k, k ≠ cmpReached moon cell → k ≠ cmpArmed moon cell → t.eng.i k = s.eng.i k) ∧
        t.eng = { s.eng with od := t.eng.od, irq := t.eng.irq, out := t.eng.out } ∧ s.beside t)

/-! ## The leap table and the schedule (spec/02_moons.md, spec/03_schedule.md) -/

/-- A write of LEAP_BASE or of a leap entry that Table 2-3 accepts stores what it says and re-arms the leap trackers: nothing else differs
but the moons' tracked points, the schedule with its overrun count, and the accounting (R54, R74).
A due leap tracker fires: its moon's interrupt source latches, the point becomes the last one fired, and the tracker goes to the moon's
following point (R74). -/
def Obligations.LeapWritesAreStoredAndPointsFire : Prop :=
  (∀ (s : State) (roles : Nat), s.eng.up = true →
      (∀ value : Int, s.eng.admits Od.LEAP_BASE value roles = true →
        s.eng.leapCheck s.ctx (s.eng.setAll [(Od.LEAP_BASE, value)]).od none = stOk →
        ∃ t, exec (.leapBaseWrite value roles) s = .next t ∧ t.eng.resp.status = stOk ∧ t.eng.i Od.LEAP_BASE = value ∧
          (∀ k, k ≠ Od.LEAP_BASE → k ≠ Od.SCHED_STATUS.overrun → k ≠ Od.SCHED_STATUS.sticky → accounting k = false →
            t.eng.i k = s.eng.i k) ∧
          s.eng.onlyObjects { t.eng with tl := s.eng.tl, sched := s.eng.sched } ∧ s.beside t) ∧
      ∀ (entry : Fin 32) (w : LeapWrite), s.eng.admitsAll (leapValues w entry) roles = true →
        s.eng.leapCheck s.ctx (s.eng.setAll (leapValues w entry)).od (some entry) = stOk →
        ∃ t, exec (.leapEntryWrite entry w roles) s = .next t ∧ t.eng.resp.status = stOk ∧
          (∀ p ∈ leapValues w entry, t.eng.i p.1 = p.2) ∧
          (∀ k, (∀ p ∈ leapValues w entry, k ≠ p.1) → k ≠ Od.SCHED_STATUS.overrun → k ≠ Od.SCHED_STATUS.sticky → accounting k = false →
            t.eng.i k = s.eng.i k) ∧
          s.eng.onlyObjects { t.eng with tl := s.eng.tl, sched := s.eng.sched } ∧ s.beside t) ∧
  (∀ (s : State) (moon : Fin 32), s.eng.up = true → s.eng.leapDue s.ctx moon = true →
      ∃ t, exec (.leapPoint moon) s = .next t ∧ t.eng.irq.latched = s.eng.irq.latched ||| 2 ^ (128 + moon.val) ∧
        (t.eng.entry (0x3E0 + moon)).fireTick = s.core.tick ∧
        (t.eng.entry (0x3E0 + moon)).fireCount = ((s.eng.entry (0x3E0 + moon)).fireCount + 1) % 2 ^ 32 ∧
        (moon.val < s.eng.tl.length → (t.eng.moon moon).leapFired = (s.eng.moon moon).leapPoint) ∧ s.beside t)

/-- The whole write of a user schedule entry that is not QUEUED and passes the checks of R71 and R75 stores its target, moon, action,
argument, period and repeat count with the writer's roles, and leaves the entry ARMED or QUEUED; every other entry and the rest of the
device stand (R70, R75). A write of 0 to member 7 of an entry that is not QUEUED empties it, keeping its other members (R70).
A write that names a device entry is refused with READ_ONLY and changes nothing but its accounting and the refusal's count (R69). -/
def Obligations.ScheduleEntriesAreWrittenAndEmptied : Prop :=
  (∀ (s : State) (entry : Fin 1024) (roles : Nat), s.eng.up = true → deviceEntry entry = false →
      (s.eng.entry entry).state ≠ .queued →
      (∀ (target moon action arg repeat_ : Nat) (period : Int) (e : SchedEntry),
        s.eng.admitsAll (schedValues (.whole target moon action arg period repeat_) entry) roles = true →
        e = { SchedEntry.empty with
          target := target, moon := moon, action := action, arg := arg, period := period, repeat_ := repeat_, roles := roles % 16 } →
        entryCheck e = stOk → targetCheck s.ctx e = stOk →
        ∃ t, exec (.schedEntryWrite entry (.whole target moon action arg period repeat_) roles) s = .next t ∧
          t.eng.resp.status = stOk ∧
          (∃ f, t.eng.entry entry = f ∧ f.target = target ∧ f.moon = moon ∧ f.action = action ∧ f.arg = arg ∧ f.period = period ∧
            f.repeat_ = repeat_ ∧ f.roles = roles % 16 ∧ (f.state = .armed ∨ f.state = .queued)) ∧
          (∀ j, j ≠ entry.val → t.eng.entry j = s.eng.entry j) ∧
          (∀ k, k ≠ Od.SCHED_STATUS.overrun → k ≠ Od.SCHED_STATUS.sticky → accounting k = false → t.eng.i k = s.eng.i k) ∧
          s.eng.onlyObjects { t.eng with sched := s.eng.sched } ∧ s.beside t) ∧
      (s.eng.admits (Od.SCHED_ENTRY.state entry) 0 roles = true →
        ∃ t, exec (.schedEntryEmpty entry 0 roles) s = .next t ∧ t.eng.resp.status = stOk ∧
          t.eng.entry entry = { s.eng.entry entry with state := .empty } ∧
          (∀ j, j ≠ entry.val → t.eng.entry j = s.eng.entry j) ∧
          (∀ k, accounting k = false → t.eng.i k = s.eng.i k) ∧
          s.eng.onlyObjects { t.eng with sched := s.eng.sched } ∧ s.beside t)) ∧
  (∀ (s : State) (entry : Fin 1024) (w : SchedWrite) (roles : Nat), s.eng.up = true → deviceEntry entry = true →
      s.eng.admitsAll (schedValues w entry) roles = true →
      ∃ t, exec (.schedEntryWrite entry w roles) s = .next t ∧ t.eng.resp.status = stReadOnly ∧ t.eng.sched = s.eng.sched ∧
        s.eng.onlyObjects t.eng ∧ s.beside t)

/-- The evaluation pass, at a tick that is a multiple of 1,024, puts every candidate in the firing queue, and leaves every other entry and
the rest of the device but the overrun count as it was (R76, R77). -/
def Obligations.EvaluationQueuesTheCandidates : Prop :=
  ∀ s : State, s.eng.up = true → s.core.tick % 1024 = 0 →
    ∃ t, exec .schedEvaluationPass s = .next t ∧
      (∀ c ∈ s.eng.candidates s.ctx, (t.eng.entry c.idx).state = .queued) ∧
      (∀ i, (∀ c ∈ s.eng.candidates s.ctx, c.idx ≠ i) → t.eng.entry i = s.eng.entry i) ∧
      (∀ k, k ≠ Od.SCHED_STATUS.overrun → k ≠ Od.SCHED_STATUS.sticky → t.eng.i k = s.eng.i k) ∧
      t.eng = { s.eng with od := t.eng.od, sched := t.eng.sched, out := [] } ∧ s.beside t

/-- A due entry fires: it is counted, its action's status becomes its result and the present tick its fire_tick, one more firing is in its
count, and without a period it is DONE (R71, R78). SNAPSHOT reads every moon's short time at that tick; WINDOW closes the counter windows of
its mask at it; EVENT latches interrupt source 224; PULSE places its edges on the outputs; CAL_WINDOW opens or closes the calibration
windows of existing ports; KEY_ROTATE makes a loaded slot current; SWITCH asks the selector for the slot its argument names. -/
def Obligations.DueEntriesFireWithTheirAction : Prop :=
  ∀ (s : State) (entry : Fin 1024) (f : SchedEntry), s.eng.up = true → s.eng.entry entry = f →
    let fired (t : State) (st : Nat) : Prop :=
      (t.eng.entry entry).result = st ∧ (t.eng.entry entry).fireTick = s.core.tick ∧
      (t.eng.entry entry).fireCount = (f.fireCount + 1) % 2 ^ 32 ∧ (f.period = 0 → (t.eng.entry entry).state = .done) ∧ s.beside t
    (s.eng.fireDue s.ctx entry 1 = true →
      ∃ t, exec (.pulse entry) s = .next t ∧ fired t stOk ∧ t.eng.outs = (pulseAct s.ctx true f s.eng).2.outs) ∧
    (s.eng.fireDue s.ctx entry 2 = true →
      ∃ t, exec (.snapshot entry) s = .next t ∧ fired t stOk ∧ t.eng.i Od.SCHED_SNAP.tick = s.core.tick ∧
        t.eng.i Od.SCHED_SNAP.entry = (entry : Nat) ∧ ∀ k : Fin 32, t.eng.i (Od.SCHED_SNAP_MOON k) = s.ctx.st k) ∧
    (s.eng.fireDue s.ctx entry 3 = true →
      ∃ t, exec (.window entry) s = .next t ∧ fired t stOk ∧
        ∀ w : Fin 64, bitOf (argField f.arg 0 8) w = true → t.eng.n (Od.CNT_WIN.close_tick w) = s.core.tick) ∧
    (s.eng.fireDue s.ctx entry 4 = true → argByte f.arg 4 ≤ 1 → s.eng.portsOnly (argField f.arg 0 4) = true →
      ∃ t, exec (.calWindow entry) s = .next t ∧ fired t stOk ∧
        t.eng.n Od.CAL_CTRL.open_mask = if argByte f.arg 4 = 1 then s.eng.n Od.CAL_CTRL.open_mask ||| argField f.arg 0 4
          else clearBits (s.eng.n Od.CAL_CTRL.open_mask) (argField f.arg 0 4)) ∧
    (s.eng.fireDue s.ctx entry 5 = true → s.eng.slotState (argByte f.arg 0) = 1 →
      ∃ t, exec (.keyRotate entry) s = .next t ∧ fired t stOk ∧ t.eng.i Od.NTS_STATUS.current_slot = (argByte f.arg 0 : Nat) ∧
        t.eng.i (Od.NTS_SLOT.state (argByte f.arg 0)) = 2) ∧
    (s.eng.fireDue s.ctx entry 6 = true → argByte f.arg 0 ≤ 31 →
      ∃ t, exec (.switch entry) s = .next t ∧ fired t stOk ∧
        t.eng.sel.moons = modNth s.eng.sel.moons (argByte f.arg 0) (fun m => { m with switchTo := some (argByte f.arg 1, entry) })) ∧
    (s.eng.fireDue s.ctx entry 8 = true →
      ∃ t, exec (.event entry) s = .next t ∧ fired t stOk ∧ t.eng.irq.latched = s.eng.irq.latched ||| 2 ^ 224)

/-- A due DICT_WRITE entry performs the write its argument names (R72): its status is the entry's result, and every object outside area 14
reads as the write leaves it, unless the write started a reset or blew rollback bits. -/
def Obligations.DueDictWritesWrite : Prop :=
  ∀ (s : State) (entry : Fin 1024) (f : SchedEntry) (w : WriteRes), s.eng.up = true → s.eng.entry entry = f →
    s.eng.fireDue s.ctx entry 7 = true → w = dictWriteAct s.ctx f (s.eng0.countFiring s.ctx entry f.late false) →
    w.2.boot.warmAsked = false → w.2.boot.rollbackTo = none →
    ∃ t, exec (.dictWrite entry) s = .next t ∧ (t.eng.entry entry).result = w.1 ∧ (t.eng.entry entry).fireTick = s.core.tick ∧
      (∀ k, Key.area k ≠ 0x14 → t.eng.i k = w.2.i k) ∧ s.beside t

/-! ## The tick, the closing tick and the boundary (spec/01_architecture.md, spec/02_moons.md) -/

/-- The tick counter, of 64 bits, goes up by one at every tick; every reset leaves it at 0, and nothing moves it from 0 until the PLL has
locked and the next tick comes. At a tick every moon that advances adds its increment to its accumulator, modulo 2^128, and no moon's
increment or advance changes. Rules: R22. -/
def Obligations.TheTickCounterCountsFromTheLock : Prop :=
  (∀ (s : State) (upsets : List CopyUpset) (hits : List TickHit), s.eng.up = true →
    ∃ t, exec (.tick upsets hits) s = .next t ∧ t.core.tick = (s.core.tick + 1) % 2 ^ 64 ∧
      (∀ k : Nat, (t.core.moon k).inc = (s.core.moon k).inc ∧ (t.core.moon k).adv = (s.core.moon k).adv ∧
        (t.core.moon k).acc = if (s.core.moon k).adv then (s.core.moon k).acc + (s.core.moon k).inc.setWidth 128
          else (s.core.moon k).acc) ∧
      t.eng.up = true ∧ t.fuses = s.fuses ∧ t.pending = s.pending) ∧
  (∀ s : State, (∃ t, exec .powerOnReset s = .next t ∧ t.core.tick = 0) ∧ ∃ t, exec .warmReset s = .next t ∧ t.core.tick = 0) ∧
  (∀ (c : Instr) (s t : State), s.eng.up = true → exec c s = .next t → t.eng.up = false → t.core.tick = 0) ∧
  ∀ (c : Instr) (s t : State), s.eng.up = false → s.core.tick = 0 → exec c s = .next t → t.core.tick = 0

/-- Time is what the ticks add up to: after any number of TICKs of a running device its tick counter has gone up by that number, modulo
2^64, and the accumulator of every moon that advances by that many times its increment, modulo 2^128; a moon that does not advance has
kept its accumulator. The linear count of 96 bits is the accumulator without its 32 fraction bits. Nothing else changes an accumulator but an
accepted step or set at a steer boundary, and a restart of the time clock. Rules: R38. -/
def Obligations.TicksCountTime : Prop :=
  (∀ (s : State) (hs : List (List CopyUpset × List TickHit)), s.core.whole → s.eng.up = true →
    ∃ t, execAll (hs.map (fun h => .tick h.1 h.2)) s = some t ∧ t.eng.up = true ∧
      t.core.tick = (s.core.tick + hs.length) % 2 ^ 64 ∧
      ∀ k : Fin 32, (t.core.moon k).inc = (s.core.moon k).inc ∧ (t.core.moon k).adv = (s.core.moon k).adv ∧
        (t.core.moon k).acc.toNat = ((s.core.moon k).acc.toNat +
          (if (s.core.moon k).adv then hs.length * (s.core.moon k).inc.toNat else 0)) % 2 ^ 128) ∧
  (∀ (s : State) (k : Nat), s.ctx.lin k = (s.core.moon k).acc.toNat / 2 ^ 32 ∧ s.ctx.lin k < 2 ^ 96) ∧
  ∀ (c : Instr) (s t : State) (k : Fin 32), exec c s = .next t → (t.core.moon k).acc ≠ (s.core.moon k).acc →
    (∃ upsets hits, c = .tick upsets hits) ∨
    (∃ inp d, c = .steerBoundary inp ∧ (s.eng.moon k).decision = some d ∧ (d.setTo.isSome = true ∨ d.delta ≠ 0)) ∨
    (mayRestart c = true ∧ t.core = TimeCore.atReset)

/-- At a closing tick every moon's decision for the next boundary is sealed, with the record that shows it. Rules: R24, R26. -/
def Obligations.ClosingTickSealsEveryMoon : Prop :=
  ∀ (s : State) (inp : ClosingInputs), s.eng.up = true → s.eng.closeDue s.ctx = true → s.eng.tl.length = 32 →
    ∃ t, exec (.closingTick inp) s = .next t ∧ t.eng.sealedFor = some (nextBoundary s.core.tick) ∧ s.beside t ∧
      ∀ k : Fin 32, (t.eng.moon k).next.boundary = nextBoundary s.core.tick ∧
        ∃ d, (t.eng.moon k).decision = some d ∧ (t.eng.moon k).next.inc = d.inc ∧ (t.eng.moon k).next.adv = d.adv

/-- At a boundary every moon takes its sealed decision at once: its set or its step, its increment and whether it advances; its records
move up by one. The one exception is a boundary at which a scheduled write restarts the device. Rules: R25, R26, R38. -/
def Obligations.BoundaryTakesTheSealedDecisions : Prop :=
  ∀ (s : State) (inp : BoundaryInputs), s.eng.up = true → s.eng.boundaryDue s.ctx = true → s.eng.tl.length = 32 →
    ∃ t, exec (.steerBoundary inp) s = .next t ∧ t.pending = s.pending ∧
      ((t.core = TimeCore.atReset ∧ t.eng.up = false) ∨
       (t.core.tick = s.core.tick ∧ t.eng.lastBoundary = boundaryOf s.core.tick ∧ t.eng.sealedFor = none ∧
        (∀ k : Nat, k < s.core.moons.length → ∀ d, (s.eng.moon k).decision = some d →
          t.core.moon k = (s.core.moon k).take d) ∧
        ∀ k : Fin 32, (t.eng.moon k).cur = (s.eng.moon k).next ∧ (t.eng.moon k).prev = (s.eng.moon k).cur))

/-- The increment a moon is given differs from its active one by no more than its configured rate ceiling allows, and outside FREE RUN no
step beyond the fused ceiling is applied. Rules: R43, R46. -/
def Obligations.CeilingsBoundEveryChange : Prop :=
  ∀ (e : Eng) (x : Ctx) (k : Nat),
    (((e.decideOwn x k).1.inc : Int) - x.inc k).natAbs ≤ ppbUnits (e.n (Od.MOON_CONFIG.rate_ceiling_ppb k)) ∧
    ((e.moon k).cur.state ≠ .freeRun → (e.decideOwn x k).1.lastStep.natAbs ≤ x.fuses.ceilStep)

/-! ## Clocks, supplies and temperatures (spec/01_architecture.md, spec/20_faults_eclipse.md, spec/21_boot_power_dump.md) -/

/-- The unlock of a PLL is a condition that stands until it locks again: the core PLL's and the time clock's stay, the DDR PLL's also
holds the cores, a SerDes PLL's drops the links of its lane group. The time clock's monitor keeps what it measured, and an error beyond
its limit in two comparisons running is a fatal fault of block 0: source 2 of its latch, and unless the device is in Eclipse a rail
change is asked for. The watchdog's expiry takes the firmware's cores down, ends its NTS-KE sessions and sets source 2 of block 18's
latch; the cores come up again by CORES_RESTART. Rules: R21, R35, R353, R396. -/
def Obligations.ClockAndCoreFailuresAreFound : Prop :=
  (∀ s : State, s.eng.up = true →
      (∃ t, exec .timeClockPllUnlock s = .next t ∧ t.eng.hasCond 0 4 0 = true ∧ s.eng.quiet t.eng ∧ s.beside t) ∧
      (∃ t, exec .corePllUnlock s = .next t ∧ t.eng.hasCond 20 1 0 = true ∧ s.eng.quiet t.eng ∧ s.beside t) ∧
      (∃ t, exec .ddrPllUnlock s = .next t ∧ t.eng.hasCond 20 2 0 = true ∧ t.eng.boot.coresHeld = true ∧ s.beside t) ∧
      (∃ t, exec .ddrPllLock s = .next t ∧ t.eng.hasCond 20 2 0 = false ∧ t.eng.boot.coresHeld = false ∧ s.beside t) ∧
      ∀ group : Fin 8,
        (∃ t, exec (.serdesPllUnlock group) s = .next t ∧ t.eng.hasCond 20 3 group = true ∧
          (∀ i : Fin 4, t.eng.b (Od.PORT_STATUS.link (4 * group + i)) = false) ∧ s.beside t) ∧
        (∃ t, exec (.serdesPllLock group) s = .next t ∧ t.eng.hasCond 20 3 group = false ∧ s.eng.quiet t.eng ∧ s.beside t)) ∧
  (∀ (s : State) (coreDev ringDev : Int), s.eng.up = true →
      ∃ t, exec (.timeClockMonitor coreDev ringDev) s = .next t ∧ s.beside t ∧
        t.eng.mon = { s.eng.mon with
          coreOut := decide (100000 < coreDev.natAbs), ringOut := decide (2000000 < ringDev.natAbs), ringPpb := ringDev } ∧
        ((100000 < coreDev.natAbs ∧ s.eng.mon.coreOut = true) ∨ (2000000 < ringDev.natAbs ∧ s.eng.mon.ringOut = true) →
          t.eng.n (Od.FLT_BLOCK.latch 0) = s.eng.n (Od.FLT_BLOCK.latch 0) ||| 4 ∧
          (s.eng.flt.eclipse = false → t.eng.flt.rail.isSome = true)) ∧
        (¬(100000 < coreDev.natAbs ∧ s.eng.mon.coreOut = true) → ¬(2000000 < ringDev.natAbs ∧ s.eng.mon.ringOut = true) →
          t.eng.od = s.eng.od ∧ t.eng.flt = s.eng.flt)) ∧
  (∀ s : State, s.eng.up = true →
      (s.eng.boot.fw = true → s.eng.boot.coresDown = false →
        ∃ t, exec .watchdogExpiry s = .next t ∧ t.eng.boot.coresDown = true ∧ t.eng.nts.sessions = [] ∧
          t.eng.n (Od.FLT_BLOCK.latch 18) = s.eng.n (Od.FLT_BLOCK.latch 18) ||| 4 ∧ s.beside t) ∧
      ∃ t, exec .coresRestart s = .next t ∧
        t = { s with eng := { s.eng with out := [], boot := { s.eng.boot with coresDown := false } } })

/-- A sample of the supplies and the sixteen sensors shows each temperature, and remembers which rails were out: a rail out in two
samples running is the supply condition of block 21. The temperature trip's pin goes low at the trip and high at its release, whatever
the device is doing, and nothing else changes. A pass of the voltage loop shows the slowest monitor's margin, as far as 16 bits hold it;
below the fused band it asks the supply for 5 mV more and above it for 5 mV less, within the fused limits, and shows the new voltage once
the supply acknowledges it. Rules: R418, R419. -/
def Obligations.SuppliesAndTemperaturesAreWatched : Prop :=
  (∀ (s : State) (rails : List Nat) (temps : List Int), s.eng.up = true → temps.length = 16 →
      ∃ t, exec (.monitorSample rails temps) s = .next t ∧ s.beside t ∧
        (∀ i : Fin 16, t.eng.i (Od.THERM.now i) = temps.getD i 0) ∧
        t.eng.mon.sampled = true ∧ t.eng.mon.railOut = s.eng.railsOut (rails.take 8) ∧
        ((∃ r ∈ s.eng.railsOut (rails.take 8), r ∈ s.eng.mon.railOut) ↔ t.eng.hasCond 21 1 0 = true)) ∧
  (∀ s : State,
      (∃ t, exec .thermTrip s = .next t ∧ t = { s with eng := { s.eng with out := [], pins := { s.eng.pins with thermTripN := false } } }) ∧
      ∃ t, exec .thermTripRelease s = .next t ∧
        t = { s with eng := { s.eng with out := [], pins := { s.eng.pins with thermTripN := true } } }) ∧
  (∀ (s : State) (margins : List Int) (acknowledged : Bool) (mv : Nat), s.eng.up = true →
      (∃ t, exec (.avsLoop margins acknowledged) s = .next t ∧ s.beside t ∧
        t.eng.i Od.PWR_STATUS.margin = max (-32768) (min 32767 (slowest margins))) ∧
      (s.eng.mon.avsRetry = none → slowest margins < s.fuses.avsLow → -32768 ≤ slowest margins → slowest margins ≤ 32767 →
        mv = s.eng.n Od.PWR_STATUS.vcore_mv + 5 → s.fuses.vMin ≤ mv → mv ≤ s.fuses.vMax →
        ∃ t, exec (.avsLoop margins true) s = .next t ∧ t.eng.n Od.PWR_STATUS.vcore_mv = mv ∧ t.eng.out = [.avs mv] ∧ s.beside t) ∧
      (s.eng.mon.avsRetry = none → s.fuses.avsLow ≤ slowest margins → s.fuses.avsHigh < slowest margins → -32768 ≤ slowest margins →
        slowest margins ≤ 32767 → mv + 5 = s.eng.n Od.PWR_STATUS.vcore_mv → s.fuses.vMin ≤ mv → mv ≤ s.fuses.vMax →
        ∃ t, exec (.avsLoop margins true) s = .next t ∧ t.eng.n Od.PWR_STATUS.vcore_mv = mv ∧ t.eng.out = [.avs mv] ∧ s.beside t))

/-! ## Reset, boot, firmware and the fatal dump (spec/21_boot_power_dump.md) -/

/-- POR holds the device in reset: the time clock restarts, every object reads its default but the warning temperature of an S part, and
neither the fuses, the waiting commands nor what the flash holds is lost. The warm resets of a running device restart the time clock,
keep the last Eclipse record as ECLIPSE_PREV, count themselves and name their cause: the RST_N pin (2) holds the device, the command (3)
and the automatic reset (4) go straight to the PLLs' lock. Rules: R421, R422. -/
def Obligations.ResetsHoldTheDeviceAndKeepTheRecord : Prop :=
  (∀ s : State, ∃ t, exec .powerOnReset s = .next t ∧ t.core = TimeCore.atReset ∧ t.eng.boot.phase = .held ∧
      t.fuses = s.fuses ∧ t.pending = s.pending ∧ (∀ k, k ≠ Od.THERM_CFG.warn_c → t.eng.i k = odDefault k) ∧
      t.eng.flash.images = s.eng.flash.images ∧ t.eng.flash.keyValues = s.eng.flash.keyValues ∧
      t.eng.flash.calValues = s.eng.flash.calValues ∧ t.eng.sched = [] ∧ t.eng.flt.eclipse = false ∧ t.eng.nts.sessions = []) ∧
  (∀ s : State, s.eng.up = true →
      let warm (t : State) (cause : Nat) (phase : Phase) : Prop :=
        t.core = TimeCore.atReset ∧ t.eng.boot.phase = phase ∧ t.pending = s.pending ∧
        t.eng.i Od.RESET_CTRL.last_cause = cause ∧ t.eng.n Od.RESET_CTRL.count = (s.eng.n Od.RESET_CTRL.count + 1) % 2 ^ 32 ∧
        (∀ m : Fin 11, t.eng.i (odKey 0x70 0x004 (m + 1)) = s.eng.i (odKey 0x70 0x003 (m + 1))) ∧
        t.eng.flash.images = s.eng.flash.images ∧ t.eng.sched = [] ∧ t.eng.flt.eclipse = false
      (∃ t, exec .warmReset s = .next t ∧ warm t 2 .held ∧ t.fuses = s.fuses) ∧
      (∀ value roles : Nat, s.eng.admits Od.RESET_CTRL.command value roles = true →
        ∃ t, exec (.resetCommandWarm value roles) s = .next t ∧ warm t 3 .locking ∧ t.eng.resp.status = stOk) ∧
      (s.eng.autoDue s.ctx = true → ∃ t, exec .autoReset s = .next t ∧ warm t 4 .locking ∧ t.fuses = s.fuses))

/-- From reset to running: the release starts the PLLs with the oscillator and image pins it samples, their lock starts the device if the
fuses read good, and bad fuses or a lock that times out leave it stuck. The boot steps after the lock: memory training, the credentials,
the choice of the first image that verifies, the stores, and the restore tick, after which the configuration holds. Rules: R22, R125,
R358, R423, R425, R446, R449. -/
def Obligations.TheDeviceStartsAndBoots : Prop :=
  (∀ s : State,
      (∀ (osc : Fin 4) (forceB : Bool), s.eng.boot.phase = .held →
        ∃ t, exec (.resetRelease osc forceB) s = .next t ∧ s.beside t ∧
          t.eng = { s.eng with out := [], boot := { s.eng.boot with phase := .locking, oscSel := osc, forceB := forceB } }) ∧
      (s.eng.boot.phase = .locking →
        (∃ t, exec (.pllLock true) s = .next t ∧ t.eng.up = true ∧ s.beside t ∧ t.eng.od = s.eng.od) ∧
        (∃ t, exec (.pllLock false) s = .next t ∧ t.eng.boot.phase = .stuck ∧ s.beside t ∧ t.eng.od = s.eng.od) ∧
        ∃ t, exec .pllLockTimeout s = .next t ∧ t.eng.boot.phase = .stuck ∧ s.beside t ∧ t.eng.od = s.eng.od)) ∧
  (∀ s : State, s.eng.up = true →
      (s.eng.boot.ddr = false → s.eng.boot.recovery = false →
        (∃ t, exec (.ddrTrained true) s = .next t ∧ t.eng.boot.ddr = true ∧ s.beside t ∧ t.eng.od = s.eng.od) ∧
        ∃ t, exec (.ddrTrained false) s = .next t ∧ t.eng.boot.recovery = true ∧ t.eng.i Od.BOOT_STATUS.state = 2 ∧ s.beside t) ∧
      (∀ keyA keyB : Bool, s.eng.boot.creds = false →
        ∃ t, exec (.credentialsRestored keyA keyB) s = .next t ∧ t.eng.boot.creds = true ∧
          t.eng.flash.keyBad = [!keyA, !keyB] ∧ s.beside t) ∧
      (∀ p : Nat, p = (if s.eng.boot.forceB then 1 else s.eng.flash.preferred) →
        s.eng.boot.ddr = true → s.eng.boot.fw = false → s.eng.boot.recovery = false →
        ∃ t, exec .imageVerified s = .next t ∧ s.beside t ∧
          ((s.eng.slotImage p).check s.ctx = 1 → t.eng.boot.fw = true ∧ t.eng.boot.slot = p ∧ t.eng.i Od.BOOT_STATUS.state = 1) ∧
          ((s.eng.slotImage p).check s.ctx ≠ 1 → (s.eng.slotImage (1 - p)).check s.ctx = 1 →
            t.eng.boot.fw = true ∧ t.eng.boot.slot = 1 - p ∧ t.eng.i Od.BOOT_STATUS.state = 1) ∧
          ((s.eng.slotImage p).check s.ctx ≠ 1 → (s.eng.slotImage (1 - p)).check s.ctx ≠ 1 →
            t.eng.boot.recovery = true ∧ t.eng.boot.fw = false ∧ t.eng.i Od.BOOT_STATUS.state = 2)) ∧
      (∀ calA calB : Bool, s.eng.fwRuns = true → s.eng.boot.stores = false →
        ∃ t, exec (.storesRestored calA calB) s = .next t ∧ t.eng.boot.stores = true ∧ t.eng.flash.calBad = [!calA, !calB] ∧ s.beside t) ∧
      (s.eng.fwRuns = true → s.eng.boot.stores = true → s.eng.boot.restored = false →
        ∃ t, exec .restoreTick s = .next t ∧ t.eng.boot.restored = true ∧ t.eng.i Od.BOOT_STATUS.restore_tick = s.core.tick ∧ s.beside t))

/-- An image's first part goes into its slot unless that slot runs; an image that checks and fits becomes the preferred one and
another is refused; the rollback
bits are raised to the running image's security version, never lowered, where the other slot holds no image. Rules: R427. -/
def Obligations.FirmwareIsStagedCommittedAndSealed : Prop :=
  ∀ (s : State) (roles slot : Nat), s.eng.up = true → slot = s.eng.n Od.FW_IMAGE.slot →
    (∀ bytes : Bytes, s.eng.admits Od.FW_IMAGE.data 0 roles = true → bytes.length ≤ 1024 → s.eng.slotRuns slot = false → slot < 2 →
      s.eng.flash.images.length = 2 →
      ∃ t, exec (.fwImageDataWrite 0 bytes roles) s = .next t ∧ s.accepted t ∧ (t.eng.slotImage slot).data = bytes ∧
        t.eng.slotImage (1 - slot) = s.eng.slotImage (1 - slot)) ∧
    (∀ bytes : Bytes, s.eng.admits Od.FW_IMAGE.data 0 roles = true → bytes.length ≤ 1024 → s.eng.slotRuns slot = true →
      ∃ t, exec (.fwImageDataWrite 0 bytes roles) s = .next t ∧ t.eng.resp.status = stInUse ∧ t.eng.flash = s.eng.flash ∧ s.beside t) ∧
    (s.eng.admits Od.FW_IMAGE.commit 1 roles = true → s.eng.slotRuns slot = false →
      let good : Prop := Config.imageField (s.eng.slotImage slot).data 7 ≤ slotBytes ∧ (s.eng.slotImage slot).check s.ctx = 1
      ∃ t, exec (.fwImageCommit 1 roles) s = .next t ∧ s.beside t ∧
        (good → t.eng.resp.status = stOk ∧ t.eng.flash = { s.eng.flash with preferred := slot }) ∧
        (¬good → t.eng.resp.status = stRange ∧ t.eng.flash = s.eng.flash)) ∧
    (s.eng.admits Od.FW_IMAGE.commit 0 roles = true →
      ∃ t, exec (.fwImageCommit 0 roles) s = .next t ∧ s.accepted t ∧ t.eng.flash = s.eng.flash) ∧
    (s.eng.admits Od.FUSE.advance_rollback 1 roles = true → s.eng.boot.warmAsked = false →
      (s.eng.slotImage (1 - s.eng.boot.slot)).data = [] →
      ∃ t, exec (.advanceRollback 1 roles) s = .next t ∧ t.eng.resp.status = stOk ∧ t.core = s.core ∧
        t.fuses = { s.fuses with rollback := max s.fuses.rollback (min 64 s.eng.image.secVersion) })

/-- A dump asked for by command is captured while the firmware runs, into the slot chosen by R430, with a sequence number above both; it
completes, can be read by chunk, and is cleared by slot unless one is being written. Rules: R429, R430, R431. -/
def Obligations.DumpsAreAskedCapturedAndCleared : Prop :=
  ∀ (s : State) (roles : Nat), s.eng.up = true → s.eng.flash.dumps.length = 2 →
    (s.eng.admits Od.DUMP_CTRL.dump_now 1 roles = true → s.eng.fwRuns = true → s.eng.dump.asked = none →
      ∃ t, exec (.dumpNow 1 roles) s = .next t ∧ s.accepted t ∧ t.eng.dump = { s.eng.dump with asked := some 2 }) ∧
    (∀ (log cores : Bytes) (unreadable : List Nat), s.eng.dumpDue = true →
      ∃ t, exec (.dumpCapture log cores unreadable) s = .next t ∧ s.beside t ∧ t.eng.od = s.eng.od ∧
        t.eng.dump = ⟨none, some s.eng.dumpTarget⟩ ∧ (t.eng.dumpSlot s.eng.dumpTarget).state = 1 ∧
        (t.eng.dumpSlot s.eng.dumpTarget).captureTick = s.core.tick ∧
        (t.eng.dumpSlot s.eng.dumpTarget).sequence =
          (max (s.eng.dumpSlot 0).sequence (s.eng.dumpSlot 1).sequence + 1) % 2 ^ 32 ∧
        t.eng.dumpSlot (1 - s.eng.dumpTarget) = s.eng.dumpSlot (1 - s.eng.dumpTarget)) ∧
    (∀ slot : Fin 2, s.eng.fwRuns = true → s.eng.dump.writing = some slot.val →
      ∃ t, exec .dumpComplete s = .next t ∧ s.beside t ∧ t.eng.dump.writing = none ∧
        t.eng.dumpSlot slot = { s.eng.dumpSlot slot with state := 2 }) ∧
    (∀ mask : Nat, s.eng.admits Od.DUMP_CTRL.clear mask roles = true → s.eng.dump.writing = none →
      ∃ t, exec (.dumpClear mask roles) s = .next t ∧ s.accepted t ∧
        ∀ i : Fin 2, t.eng.dumpSlot i = if bitOf mask i then DumpSlot.erased else s.eng.dumpSlot i) ∧
    (∀ mask : Nat, s.eng.admits Od.DUMP_CTRL.clear mask roles = true → s.eng.dump.writing.isSome = true →
      ∃ t, exec (.dumpClear mask roles) s = .next t ∧ t.eng.resp.status = stBusy ∧ t.eng.flash = s.eng.flash ∧ s.beside t) ∧
    ∀ index : Nat, s.eng.admits Od.DUMP_READ.chunk_index index roles = true →
      index < ceilDiv (s.eng.dumpSlot (s.eng.n Od.DUMP_READ.slot)).bytes.length 1024 →
      ∃ t, exec (.dumpChunkSelect index roles) s = .next t ∧ s.wrote t [(Od.DUMP_READ.chunk_index, index)]

/-! ## Ports, links and classification (spec/04_ethernet_ports.md) -/

/-- A write of a lane group's mode takes down the links of its four ports and empties their calendars; disabling a port, and a write of a
lane's interface, take down the port's link; each stores what it says. Rules: R85, R87, R118. -/
def Obligations.PortWritesTakeLinksDown : Prop :=
  ∀ (s : State) (roles : Nat), s.eng.up = true →
    (∀ (group : Fin 8) (value : Nat), s.eng.admits (Od.LANE_GROUP.mode group) value roles = true →
      ∃ t, exec (.laneGroupModeWrite group value roles) s = .next t ∧ s.accepted t ∧ t.eng.i (Od.LANE_GROUP.mode group) = value ∧
        ∀ i : Fin 4, t.eng.b (Od.PORT_STATUS.link (4 * group + i)) = false ∧ (t.eng.cal (4 * group + i)).resv = []) ∧
    (∀ port : Fin 32, s.eng.admits (Od.PORT_CONFIG.enable port) 0 roles = true →
      ∃ t, exec (.portEnableWrite port 0 roles) s = .next t ∧ s.accepted t ∧ t.eng.i (Od.PORT_CONFIG.enable port) = 0 ∧
        t.eng.b (Od.PORT_STATUS.link port) = false) ∧
    (∀ port : Fin 32, s.eng.admits (Od.PORT_CONFIG.enable port) 1 roles = true →
      ∃ t, exec (.portEnableWrite port 1 roles) s = .next t ∧ s.wrote t [(Od.PORT_CONFIG.enable port, 1)]) ∧
    ∀ (lane : Fin 32) (value : Nat), s.eng.admits (Od.LANE_IF lane) value roles = true →
      ∃ t, exec (.laneIfWrite lane value roles) s = .next t ∧ s.accepted t ∧ t.eng.i (Od.LANE_IF lane) = value ∧
        ∀ p, s.eng.portOfLane lane = some p → t.eng.b (Od.PORT_STATUS.link p) = false

/-- A link comes up on an enabled port whose SerDes clock is good, with the lanes and the rate of its group's mode; it goes down by the
loss of its alignment markers (event 26) or of its forward error correction, each counted as a link-down (event 25), and with it its
timestamps; other lane modes at the far end count as a link-down alone. Rules: R87, R107. -/
def Obligations.LinksRiseAndFall : Prop :=
  ∀ (s : State) (port : Fin 32), s.eng.up = true →
    (s.eng.linkMayRise port = true →
      ∃ t, exec (.linkUp port) s = .next t ∧ s.beside t ∧ t.eng.i (Od.PORT_STATUS.link port) = 1 ∧
        t.eng.n (Od.PORT_STATUS.lanes port) = s.eng.portLanes port ∧ t.eng.n (Od.PORT_STATUS.rate_gbps port) = s.eng.portRate port ∧
        t.eng.n (Od.PORT_STATUS.link_changes port) = (s.eng.n (Od.PORT_STATUS.link_changes port) + 1) % 2 ^ 32 ∧
        t.eng.n (Od.PORT_STATUS.last_change_tick port) = s.core.tick ∧
        t.eng.irq.latched = s.eng.irq.latched ||| 2 ^ 228) ∧
    (s.eng.linkMayRise port = true →
      ∃ t, exec (.linkDown port .otherModes) s = .next t ∧ s.beside t ∧
        t.eng.seen (32 * port + 25) = (s.eng.seen (32 * port + 25) + 1) % 2 ^ 48 ∧ s.eng.onlyObjects t.eng) ∧
    (s.eng.b (Od.PORT_STATUS.link port) = true →
      let fell (t : State) : Prop := t.eng.i (Od.PORT_STATUS.link port) = 0 ∧ t.eng.b (Od.PORT_STATUS.ts_valid port) = false ∧
        (t.eng.cal port).resv = [] ∧ t.eng.n (Od.PORT_STATUS.last_change_tick port) = s.core.tick ∧
        t.eng.seen (32 * port + 25) = (s.eng.seen (32 * port + 25) + 1) % 2 ^ 48 ∧ s.beside t
      (∃ t, exec (.linkDown port .marker) s = .next t ∧ fell t ∧
        t.eng.seen (32 * port + 26) = (s.eng.seen (32 * port + 26) + 1) % 2 ^ 48) ∧
      ∃ t, exec (.linkDown port .fec) s = .next t ∧ fell t)

/-- A frame received on a port whose link is up counts as one frame (event 0) and by its length in bytes (event 1). One that fails its
forward error correction (event 5), or its checksum where such frames are not for the host (event 2), is counted, and goes no further:
the device is changed in its counters and its sticky bits only. Rules: R88, R89, R99, R107. -/
def Obligations.ReceivedFramesAreCounted : Prop :=
  ∀ (s : State) (frame : RxFrame), s.eng.up = true → s.eng.b (Od.PORT_STATUS.link frame.port) = true →
    let counted (t : State) : Prop := s.beside t ∧
      t.eng.seen (32 * frame.port) = (s.eng.seen (32 * frame.port) + 1) % 2 ^ 48 ∧
      t.eng.seen (32 * frame.port + 1) = (s.eng.seen (32 * frame.port + 1) + frame.bytes.length) % 2 ^ 48
    (∃ t, exec (.frameReceive frame) s = .next t ∧ counted t) ∧
    (frame.fecFail = true →
      ∃ t, exec (.frameReceive frame) s = .next t ∧ counted t ∧
        t.eng.seen (32 * frame.port + 5) = (s.eng.seen (32 * frame.port + 5) + 1) % 2 ^ 48 ∧ s.eng.onlyObjects t.eng) ∧
    (frame.fecFail = false → fcsOk frame.bytes = false → s.eng.b (Od.PORT_CONFIG.fcs_err_to_host frame.port) = false →
      ∃ t, exec (.frameReceive frame) s = .next t ∧ counted t ∧
        t.eng.seen (32 * frame.port + 2) = (s.eng.seen (32 * frame.port + 2) + 1) % 2 ^ 48 ∧ s.eng.onlyObjects t.eng)

/-- A frame takes the first valid rule of the active bank that covers it and whose action can be done; a rule that drops counts itself
(event 0x400 + n) and the port's drop (event 31), and does nothing else. A frame that no rule takes counts event 11, and goes to the
default ring only where the port's default action says so. Rules: R101, R102, R103, R107. -/
def Obligations.FramesTakeTheFirstRule : Prop :=
  ∀ (e : Eng) (x : Ctx) (v : RxView), e.cls.newFrom ≤ v.rxLin → e.cls.badRules = [] →
    let takes (n : Nat) : Bool := (ruleOf e.od n).covers v && e.actionOk v (ruleOf e.od n).action
    (∀ (n : Nat) (before after : List Nat), listed e.od 0x30 0x800 1024 1 1 = before ++ n :: after →
      (∀ m ∈ before, takes m = false) → takes n = true → (ruleOf e.od n).action = 0 → bitOf (ruleOf e.od n).mirror 15 = false →
      v.port < 32 → n < 1024 →
      (e.classify x v).seen (0x400 + n) = (e.seen (0x400 + n) + 1) % 2 ^ 48 ∧
      (e.classify x v).seen (32 * v.port + 31) = (e.seen (32 * v.port + 31) + 1) % 2 ^ 48 ∧ e.onlyObjects (e.classify x v)) ∧
    ((∀ m ∈ listed e.od 0x30 0x800 1024 1 1, takes m = false) → e.n (Od.PORT_CONFIG.default_action v.port) ≠ 3 →
      (e.classify x v).seen (32 * v.port + 11) = (e.seen (32 * v.port + 11) + 1) % 2 ^ 48 ∧ e.onlyObjects (e.classify x v))

/-- A pause that the device asked for is repeated when it runs out, while the port still sends pauses, and forgotten otherwise; the
pauses that other stations asked for end at their instants. Five seconds without an information PDU make a port's received quality level
invalid (event 24); a port whose PDU is due, or whose level changed, counts one (event 23) and shows the level it carries. Rules: R93,
R94, R97, R98. -/
def Obligations.PausesAndQualityLevelsKeepTheirTimes : Prop :=
  (∀ (s : State) (port : Fin 32), s.eng.up = true →
      (∀ at_ : Nat, (s.eng.port port).xoff = some at_ → at_ ≤ s.ctx.lin 0 → s.eng.pauseTxOn port = true →
        ∃ t, exec (.pauseXoffRepeat port) s = .next t ∧ s.beside t ∧
          t.eng.out = [.frame port (withFcs (s.eng.pauseFrame s.ctx port 65535))] ∧
          t.eng.seen (32 * port + 16) = (s.eng.seen (32 * port + 16) + 1) % 2 ^ 48) ∧
      (∀ at_ : Nat, (s.eng.port port).xoff = some at_ → at_ ≤ s.ctx.lin 0 → s.eng.pauseTxOn port = false →
        ∃ t, exec (.pauseXoffRepeat port) s = .next t ∧ s.beside t ∧ (t.eng.port port).xoff = none ∧ t.eng.out = []) ∧
      ∃ t, exec (.pauseEnd port) s = .next t ∧
        t = { s with eng := { s.eng with
          out := [], ports := modNth s.eng.ports port (fun q => { q with pause := q.pause.filter (fun r => s.ctx.lin 0 < r.2) }) } }) ∧
  (∀ (s : State) (port : Fin 32), s.eng.up = true →
      (s.eng.esmcLate s.ctx port = true →
        ∃ t, exec (.esmcTimeout port) s = .next t ∧ s.beside t ∧ t.eng.i (Od.PORT_ESMC.ql_rx_valid port) = 0 ∧
          t.eng.seen (32 * port + 24) = (s.eng.seen (32 * port + 24) + 1) % 2 ^ 48 ∧ s.eng.onlyObjects t.eng) ∧
      (s.eng.b (Od.PORT_CONFIG.esmc_enable port) = true → s.eng.b (Od.PORT_STATUS.link port) = true →
        (s.ctx.passed (s.eng.port port).esmcSent unitsPerSec = true ∨
          s.eng.qlSent s.ctx port ≠ s.eng.n (Od.PORT_ESMC.ql_tx port)) →
        ∃ t, exec (.esmcInfoPdu port) s = .next t ∧ s.beside t ∧ t.eng.n (Od.PORT_ESMC.ql_tx port) = s.eng.qlSent s.ctx port ∧
          t.eng.seen (32 * port + 23) = (s.eng.seen (32 * port + 23) + 1) % 2 ^ 48 ∧
          (∀ q : Fin 32, q ≠ port → t.eng.port q = s.eng.port q)))

/-- A commit of an edit bank whose valid rules are all good is accepted and takes effect 4,096 ticks later: at that tick the active bank
is the other one, and every active rule reads as its edit rule; a bad rule refuses the commit and names itself; and from the commit to
the end of the copy a further commit is BUSY. The write of a service entry, or of one of its members, is stored where its VLAN is 0 to
0xFFF or 0xFFFF and no other enabled entry answers the same address on a shared port and VLAN; a write that would make such a pair is
refused DUPLICATE. Rules: R100, R105. -/
def Obligations.RuleBanksAndServiceEntriesAreChecked : Prop :=
  (∀ (s : State), s.eng.up = true →
      (∀ roles : Nat, s.eng.admits Od.RULE_COMMIT.commit 1 roles = true → s.eng.bankBusy = false →
        (∀ r ∈ listed (editAsActive s.eng.od) 0x30 0x800 1024 1 1, (ruleOf (editAsActive s.eng.od) r).bad = false) →
        ∃ t, exec (.ruleCommit 1 roles) s = .next t ∧
          s.stored t [(Od.RULE_COMMIT.commit_tick, ((s.core.tick + 4096) % 2 ^ 64 : Nat))] ∧
          t.eng.cls = { s.eng.cls with commitAt := some ((s.core.tick + 4096) % 2 ^ 64) }) ∧
      (∀ (roles r : Nat) (before after : List Nat), s.eng.admits Od.RULE_COMMIT.commit 1 roles = true → s.eng.bankBusy = false →
        listed (editAsActive s.eng.od) 0x30 0x800 1024 1 1 = before ++ r :: after →
        (∀ q ∈ before, (ruleOf (editAsActive s.eng.od) q).bad = false) → (ruleOf (editAsActive s.eng.od) r).bad = true →
        ∃ t, exec (.ruleCommit 1 roles) s = .next t ∧ t.eng.resp.status = stRange ∧ t.eng.i Od.RULE_COMMIT.bad_rule = r ∧
          t.eng.cls = s.eng.cls ∧ s.beside t) ∧
      (∀ roles : Nat, s.eng.admits Od.RULE_COMMIT.commit 1 roles = true → s.eng.bankBusy = true →
        ∃ t, exec (.ruleCommit 1 roles) s = .next t ∧ t.eng.resp.status = stBusy ∧ t.eng.cls = s.eng.cls ∧ s.beside t) ∧
      (∀ at_ : Nat, s.eng.cls.commitAt = some at_ → at_ ≤ s.core.tick → s.eng.od.wf = true →
        ∃ t, exec .ruleCommitTakeEffect s = .next t ∧ s.beside t ∧
          (∀ k, isActiveKey k = true → t.eng.i k = s.eng.i (k + 0x4000)) ∧
          t.eng.i Od.RULE_COMMIT.active_bank = 1 - s.eng.i Od.RULE_COMMIT.active_bank ∧
          t.eng.n Od.RULE_COMMIT.commit_count = (s.eng.n Od.RULE_COMMIT.commit_count + 1) % 2 ^ 32 ∧
          t.eng.cls.commitAt = none ∧ t.eng.cls.copyEnd = some (at_ + 2048)) ∧
      ∃ t, exec .ruleBankCopyDone s = .next t ∧
        t = { s with eng := { s.eng with out := [], cls := { s.eng.cls with copyEnd := none } } }) ∧
  (∀ (s : State) (v6 : Bool) (entry : Fin 256) (w : RecWrite) (roles : Nat) (vs : List (Key × Int)), s.eng.up = true →
      vs = recValues 0x30 ((if v6 then 0x500 else 0x400) + entry) w →
      s.eng.admitsRec 0x30 ((if v6 then 0x500 else 0x400) + entry) w roles = true →
      let f := s.eng.setAll vs
      let vid := if v6 then f.n (Od.SVC6.vid entry) else f.n (Od.SVC4.vid entry)
      vid ≤ 0xFFF ∨ vid = 0xFFFF →
      (f.svcDuplicate v6 entry = false →
        ∃ t, exec (.serviceEntryWrite v6 entry w roles) s = .next t ∧ s.stored t vs ∧
          s.eng.onlyObjects { t.eng with cls := s.eng.cls }) ∧
      (f.svcDuplicate v6 entry = true → names vs [Od.SVC4.enable entry, Od.SVC6.enable entry] = true →
        ∃ t, exec (.serviceEntryWrite v6 entry w roles) s = .next t ∧ t.eng.resp.status = stDuplicate ∧
          (∀ p ∈ vs, t.eng.i p.1 = s.eng.i p.1) ∧ s.eng.onlyObjects t.eng ∧ s.beside t))

/-! ## Timestamps and calibration (spec/05_wire_timestamps.md) -/

/-- An alignment marker on a lane of a port with a link is counted; a fourth closure error running makes the port's timestamps invalid.
The echo of a sent frame is counted and kept as the last; one more than 1 ns out, or one that does not come within 512 ticks, makes the
port's timestamps invalid. A calibration item is stored with its origin and waits for the store; the store's write takes every item to
flash and is counted; CAL_CTRL opens and closes the windows of existing ports, and refuses a mask that names another. Rules: R119, R120,
R124, R126. -/
def Obligations.EchoesAndCalibrationAreKept : Prop :=
  (∀ (s : State), s.eng.up = true →
      (∀ (lane : Fin 32) (ser closure : Int) (loopback : Option Int) (p : Nat), s.eng.portOfLane lane = some p →
        s.eng.b (Od.PORT_STATUS.link p) = true →
        ∃ t, exec (.alignmentMarkerRx lane ser closure loopback) s = .next t ∧ s.beside t ∧
          t.eng.n (Od.LANE_LIVE.markers lane) = (s.eng.n (Od.LANE_LIVE.markers lane) + 1) % 2 ^ 32 ∧
          (s.eng.closureOver lane closure = true → (s.eng.lane lane).closureRun = 3 → t.eng.b (Od.PORT_STATUS.ts_valid p) = false)) ∧
      (∀ (lane : Fin 32) (timed : Bool) (ser error : Int) (p : Nat), s.eng.portOfLane lane = some p →
        ∃ t, exec (.echoResult lane timed ser error) s = .next t ∧ s.beside t ∧
          t.eng.n (Od.TS_PORT.echo_count p) = (s.eng.n (Od.TS_PORT.echo_count p) + 1) % 2 ^ 32 ∧
          t.eng.i (Od.TS_PORT.echo_last p) = error ∧
          (65536 < error.natAbs → t.eng.b (Od.PORT_STATUS.ts_valid p) = false)) ∧
      ∀ (port : Fin 32) (a : Sent) (rest : List Sent), (s.eng.cal port).awaiting = a :: rest → a.tick + 512 ≤ s.core.tick →
        ∃ t, exec (.echoMissing port) s = .next t ∧ s.beside t ∧ (t.eng.cal port).awaiting = rest ∧
          t.eng.b (Od.PORT_STATUS.ts_valid port) = false ∧
          t.eng.n (Od.TS_PORT.faults port) = (s.eng.n (Od.TS_PORT.faults port) + 1) % 2 ^ 32) ∧
  (∀ (s : State) (roles : Nat), s.eng.up = true →
      (∀ (item : CalItem) (value : Int), s.eng.admits (calKey item) value roles = true →
        ∃ t, exec (.calItemWrite item value roles) s = .next t ∧ s.stored t [(calKey item, value), (calOrigin (calKey item), 1)] ∧
          t.eng.calWait.since.isSome = true ∧ s.eng.onlyObjects { t.eng with calWait := s.eng.calWait }) ∧
      (s.eng.calWait.since.isSome = true →
        ∃ t, exec .calStoreWrite s = .next t ∧ s.beside t ∧ t.eng.calWait.since = none ∧
          t.eng.flash = { s.eng.flash with calValues := s.eng.od.filter (fun p => isCalKey p.1), calBad := [false, false] } ∧
          t.eng.n Od.CAL_STORE.writes = (s.eng.n Od.CAL_STORE.writes + 1) % 2 ^ 32 ∧
          t.eng.n Od.CAL_STORE.last_write_tick = s.core.tick) ∧
      (∀ mask : Nat, s.eng.admits Od.CAL_CTRL.open_ mask roles = true → s.eng.portsOnly mask = true →
        ∃ t, exec (.calCtrlOpen mask roles) s = .next t ∧ s.accepted t ∧
          t.eng.n Od.CAL_CTRL.open_mask = s.eng.n Od.CAL_CTRL.open_mask ||| mask) ∧
      (∀ mask : Nat, s.eng.admits Od.CAL_CTRL.close mask roles = true → s.eng.portsOnly mask = true →
        ∃ t, exec (.calCtrlClose mask roles) s = .next t ∧ s.accepted t ∧ s.eng.onlyObjects t.eng ∧
          t.eng.n Od.CAL_CTRL.open_mask = clearBits (s.eng.n Od.CAL_CTRL.open_mask) mask) ∧
      ∀ mask : Nat, s.eng.admits Od.CAL_CTRL.open_ mask roles = true → s.eng.portsOnly mask = false →
        ∃ t, exec (.calCtrlOpen mask roles) s = .next t ∧ t.eng.resp.status = stNoObject ∧
          t.eng.n Od.CAL_CTRL.open_mask = s.eng.n Od.CAL_CTRL.open_mask ∧ s.eng.onlyObjects t.eng ∧ s.beside t)

/-! ## The answer engine and scheduled departure (spec/06_answer_engine.md, spec/07_scheduled_departure.md) -/

/-- A pipe in service takes the request at its queue's head in a free slot: the request leaves the queue, the slot is used, and the
slot's use counts as event 0x804 + 16 p. In Eclipse without linger the request is dropped, and nothing is placed. The checker's
comparison and its probe count one check each; a disagreement takes the pipe out of service and is counted with its tick; a write that
re-enables a pipe puts it into service, with a probe first. Rules: R133, R145, R146. -/
def Obligations.PipesTakeRequestsLeaveAndReturn : Prop :=
  (∀ (s : State) (pipe : Fin 16) (grid : List GridPoint) (crcFail : Bool) (q : AnsReq) (rest : List AnsReq), s.eng.up = true →
      s.eng.mayAccept pipe = true → (s.eng.pipe pipe).queue = q :: rest →
      ∃ t, exec (.answerRequest pipe grid crcFail) s = .next t ∧ s.beside t ∧ (t.eng.pipe pipe).queue = rest ∧
        (t.eng.pipe pipe).slotUsed = true ∧
        t.eng.seen (0x804 + 16 * pipe) = (s.eng.seen (0x804 + 16 * pipe) + 1) % 2 ^ 48 ∧
        (s.eng.flt.eclipse = true → s.eng.flt.lingering = false →
          t.eng.n Od.ANS_STATUS.dropped = (s.eng.n Od.ANS_STATUS.dropped + 1) % 2 ^ 64 ∧ t.eng.cals = s.eng.cals)) ∧
  (∀ (s : State) (pipe : Fin 16), s.eng.up = true →
      let failed (t : State) : Prop := t.eng.i (Od.PIPE.in_service pipe) = 0 ∧
        t.eng.n (Od.PIPE.check_fail pipe) = (s.eng.n (Od.PIPE.check_fail pipe) + 1) % 2 ^ 32 ∧
        t.eng.n (Od.PIPE.last_fail_tick pipe) = s.core.tick
      (∀ agrees : Bool, 0 < (s.eng.pipe pipe).toCheck →
        ∃ t, exec (.checkerCompare pipe agrees) s = .next t ∧ s.beside t ∧
          t.eng.n (Od.PIPE.checks pipe) = (s.eng.n (Od.PIPE.checks pipe) + 1) % 2 ^ 32 ∧
          (t.eng.pipe pipe).toCheck = (s.eng.pipe pipe).toCheck - 1 ∧ (agrees = false → failed t)) ∧
      (∀ agrees : Bool, s.eng.probeDue s.ctx pipe = true →
        ∃ t, exec (.checkerProbe pipe agrees) s = .next t ∧ s.beside t ∧
          t.eng.n (Od.PIPE.checks pipe) = (s.eng.n (Od.PIPE.checks pipe) + 1) % 2 ^ 32 ∧ (agrees = false → failed t)) ∧
      ∀ roles : Nat, s.eng.admits (Od.PIPE.reenable pipe) 1 roles = true → s.eng.b (Od.PIPE.in_service pipe) = false →
        s.eng.ans.pipes.length = 16 →
        ∃ t, exec (.pipeReenable pipe 1 roles) s = .next t ∧ s.accepted t ∧ t.eng.i (Od.PIPE.in_service pipe) = 1 ∧
          (t.eng.pipe pipe).probeFirst = true)

/-- The NTP header of an answer is 48 bytes: it returns the request's transmit timestamp as its origin timestamp, and carries the label
of the receive instant and the label of the departure instant, both of its rule's moon, as its receive and transmit timestamps. The NTP
timestamp of a count, era and 64 bits together, is the nearest multiple of 2^-32 s to the count moved to the NTP epoch, for every count
since that epoch. Rules: R63, R135, R136. -/
def Obligations.TimestampsAreNearestAndCarried : Prop :=
  (∀ (e : Eng) (v : AnsView) (r : AnsRule) (depart : Nat), 48 ≤ v.pl.length →
      let h := e.ntpHeader v r depart
      h.length = 48 ∧ slice h 24 8 = slice v.pl 40 8 ∧
        slice h 32 8 = ntpBytes (e.label r.moon (e.project r.moon v.q.rxLin).lin) ∧
        slice h 40 8 = ntpBytes (e.label r.moon (e.project r.moon depart).lin)) ∧
  (∀ x : Int, 0 ≤ x + 2208988800 * unitsPerSec →
      2 * (((ntpOf x).1 * 2 ^ 64 + (ntpOf x).2 : Nat) * (unitsPerSec : Int) -
        (x + 2208988800 * unitsPerSec) * (2 ^ 32 : Nat)).natAbs ≤ unitsPerSec)

/-- A rate limit's bucket lets a request pass only at the cost of one whole request, and is never filled beyond its burst. A rekey draws
a new key, empties every bucket and counts itself; the sweep refills a bucket that holds something, and touches nothing else; the rules'
records are stored, a DSCP beyond 63 but 0xFF refused; a peek stores its question and shows a bucket's index. Rules: R132, R139, R140,
R141, R143, R148. -/
def Obligations.BucketsAndRulesAreKept : Prop :=
  (∀ (e : Eng) (x : Ctx) (p key : Nat),
      let b := tget (e.charge x p key).2.ans.buckets (e.bucketIdx key)
      ∃ c, b = some c ∧ ((e.charge x p key).1 = true → c.level + 16 ≤ e.n (Od.ANS_RATE.burst p) * 16) ∧
        c.level ≤ e.n (Od.ANS_RATE.burst p) * 16) ∧
  (∀ (s : State) (roles : Nat), s.eng.up = true →
      (s.eng.admits Od.ANS_GLOBAL.rekey 1 roles = true →
        ∃ t, exec (.ansRekey 1 roles) s = .next t ∧ s.accepted t ∧ t.eng.ans.buckets = [] ∧ t.eng.draws = s.eng.draws + 1 ∧
          t.eng.n Od.ANS_STATUS.rekeys = (s.eng.n Od.ANS_STATUS.rekeys + 1) % 2 ^ 32) ∧
      (∀ (bucket : Fin 2097152) (profile : Fin 16),
        ∃ t, exec (.bucketSweep bucket profile) s = .next t ∧ s.beside t ∧
          tget t.eng.ans.buckets bucket = (tget s.eng.ans.buckets bucket).map (s.eng.refill s.ctx profile) ∧
          (∀ j, j ≠ bucket.val → tget t.eng.ans.buckets j = tget s.eng.ans.buckets j) ∧ t.eng.od = s.eng.od) ∧
      (∀ (rule : Fin 256) (w : RecWrite) (vs : List (Key × Int)), vs = recValues 0x40 (0x100 + rule) w →
        s.eng.admitsRec 0x40 (0x100 + rule) w roles = true →
        ((∀ v : Int, (Od.ANS_RULE.dscp rule, v) ∈ vs → v ≤ 63 ∨ v = 0xFF) →
          ∃ t, exec (.ansRuleWrite rule w roles) s = .next t ∧ s.stored t vs ∧ s.eng.onlyObjects { t.eng with ans := s.eng.ans }) ∧
        (∀ v : Int, (Od.ANS_RULE.dscp rule, v) ∈ vs → 63 < v → v ≠ 0xFF →
          ∃ t, exec (.ansRuleWrite rule w roles) s = .next t ∧ t.eng.resp.status = stRange ∧
            (∀ p ∈ vs, t.eng.i p.1 = s.eng.i p.1) ∧ s.eng.onlyObjects t.eng ∧ s.beside t)) ∧
      ∀ (w : RecWrite) (vs : List (Key × Int)), vs = recValues 0x40 0x003 w → s.eng.admitsRec 0x40 0x003 w roles = true →
        ∃ t, exec (.ansPeekWrite w roles) s = .next t ∧ s.accepted t ∧ (∀ p ∈ vs, t.eng.i p.1 = p.2) ∧
          t.eng.n Od.ANS_PEEK.index < 2 ^ 21 ∧ s.eng.onlyObjects t.eng)

/-- A launch frame that is ready is placed at its first launch point that keeps its launch time, leads long enough and fits: the point is
reserved for the host with the frame's bytes, and the frame leaves its ring's launch place. The retry after 1,024 ticks does the same;
and a frame for a port that is not ready is a miss of cause 15. The frame of a port's first reservation is fetched when its margin before
the release begins; it leaves at its release with its departure instant (event 0x902 + 16 p), or is a miss with the cause found at that
instant, and the reservation is gone either way. An untimed frame starts where the wire is free, no pause holds its priority and the next
reservation keeps its gap: it leaves with its checksum, and counts as a sent frame (event 16). A firmware frame beyond the fused ceiling
is dropped and counts event 21, with source 3 of block 2's latch. Rules: R157, R159, R160, R162. -/
def Obligations.FramesAreReservedReleasedAndStarted : Prop :=
  ((∀ (s : State) (ring : Fin 128) (l : LaunchFrame) (g : GridPoint), s.eng.up = true → (s.eng.txRing ring).launch = some l →
        s.eng.flt.eclipse = false →
        let lt : Int := (s.ctx.lin 0 : Int) + stDiff l.lt (s.ctx.st 0)
        let reserved (t : State) : Prop := s.beside t ∧ (t.eng.txRing ring).launch = none ∧
          ∃ r ∈ (t.eng.cal l.port).resv, r.at_ = g.at_ ∧ r.block = g.block ∧ r.frame = l.bytes ∧ r.host = true ∧
            r.origin = .host ring l.first l.tag l.lt
        let fits : Prop := s.eng.portReady l.port = true ∧ lt ≤ g.at_ ∧ (g.at_ : Int) < lt + (ns16 l.slack : Nat) ∧
          g.at_ ≤ s.ctx.lin 0 + ns16 64000 ∧ s.eng.buildLead l.port (s.ctx.lin 0) g = true ∧
          s.eng.fitsAt l.port (wireLen l.bytes) (s.eng.prioOf l.port (parseFrame s.eng.isTpid l.bytes).tags) true g = true ∧
          l.port < 32 ∧ s.eng.cals.length = 32
        (l.tried = none → s.eng.launchReady s.ctx ring = true →
          (fits → -((unitsPerSec : Nat) : Int) ≤ stDiff l.lt (s.ctx.st 0) →
            ∃ t, exec (.hostLaunchTake ring [g]) s = .next t ∧ reserved t) ∧
          (s.eng.portReady l.port = false → l.port < 32 → ∀ grid : List GridPoint,
            ∃ t, exec (.hostLaunchTake ring grid) s = .next t ∧ s.beside t ∧ (t.eng.txRing ring).launch = none ∧
              t.eng.i (Od.DEP_LIVE.last_miss_cause l.port) = 15 ∧ t.eng.n (Od.DEP_LIVE.last_miss_tick l.port) = s.core.tick)) ∧
        ∀ tried : Nat, l.tried = some tried → tried + 1024 ≤ s.core.tick → fits →
          ∃ t, exec (.hostLaunchRetry ring [g]) s = .next t ∧ reserved t) ∧
    (∀ (s : State) (port : Fin 32), s.eng.up = true →
        (∀ latency : Nat, s.eng.fetchDue s.ctx port = true →
          ∃ t, exec (.timedFetchStart port latency) s = .next t ∧ s.beside t ∧ t.eng.od = s.eng.od ∧
            (t.eng.cal port).fetchMax = max (s.eng.cal port).fetchMax latency ∧
            ∀ q : Fin 32, q ≠ port → t.eng.cal q = s.eng.cal q) ∧
        ∀ (r : Resv) (rest : List Resv), (s.eng.cal port).resv = r :: rest → s.ctx.reached r.releaseAt = true →
          (s.eng.releaseMiss s.ctx port r = none →
            ∃ t, exec (.frameRelease port false) s = .next t ∧ s.beside t ∧ (t.eng.cal port).resv = rest ∧
              .timedFrame port r.at_ (withFcs r.frame) ∈ t.eng.out ∧
              t.eng.seen (0x902 + 16 * port) = (s.eng.seen (0x902 + 16 * port) + 1) % 2 ^ 48) ∧
          ∀ cause : Nat, s.eng.releaseMiss s.ctx port r = some cause →
            ∃ t, exec (.frameRelease port false) s = .next t ∧ s.beside t ∧ (t.eng.cal port).resv = rest ∧
              t.eng.i (Od.DEP_LIVE.last_miss_cause port) = cause ∧
              t.eng.n (Od.DEP_STATUS.misses port) = (s.eng.n (Od.DEP_STATUS.misses port) + 1) % 2 ^ 64)) ∧
  (∀ (s : State) (port : Fin 32) (block : Nat) (f : UntimedFrame) (rest : List UntimedFrame), s.eng.up = true →
      s.eng.b (Od.PORT_STATUS.link port) = true → (s.eng.port port).lastSource = 128 → (s.eng.port port).untimed = f :: rest →
      s.eng.untimedFits s.ctx port block f = true →
      (f.fw = false ∨ s.eng.fwRoom s.ctx = true →
        ∃ t, exec (.untimedTxStart port block) s = .next t ∧ s.beside t ∧ (t.eng.port port).untimed = rest ∧
          (t.eng.port port).lastSource = 0 ∧ t.eng.out = [.frame port (withFcs f.bytes)] ∧
          t.eng.seen (32 * port + 16) = (s.eng.seen (32 * port + 16) + 1) % 2 ^ 48) ∧
      (f.fw = true → s.eng.fwRoom s.ctx = false →
        ∃ t, exec (.untimedTxStart port block) s = .next t ∧ s.beside t ∧ (t.eng.port port).untimed = rest ∧
          t.eng.seen (32 * port + 21) = (s.eng.seen (32 * port + 21) + 1) % 2 ^ 48 ∧
          t.eng.n (Od.FLT_BLOCK.latch 2) = s.eng.n (Od.FLT_BLOCK.latch 2) ||| 8))

/-! ## NTS (spec/08_nts.md) -/

/-- An empty NTS slot is loaded with a drawn key, with the key derived from the station's seed, or with the key imported for it, each
under its origin; a slot that is not empty is refused NOT_EMPTY, a missing seed NO_SEED and a missing import NO_KEY. A loaded slot
becomes the current one, and the slot it replaces stays loaded with the second at which it was left; a slot that is not current is
retired at once, the current one is refused CURRENT; and at a new second every slot left for longer than the configured time is retired,
the others kept. Rules: R172, R173, R174, R176. -/
def Obligations.NtsSlotsAreLoadedRotatedAndRetired : Prop :=
  (∀ (s : State) (slot : Fin 16) (roles : Nat), s.eng.up = true →
      let may (v : Nat) : Prop := s.eng.admits (Od.NTS_SLOT.command slot) v roles = true
      let loaded (t : State) (origin : Int) : Prop := s.accepted t ∧ t.eng.i (Od.NTS_SLOT.state slot) = 1 ∧
        t.eng.i (Od.NTS_SLOT.origin slot) = origin ∧ t.eng.keyWait.since.isSome = true ∧ tget t.eng.nts.imported slot = none
      (s.eng.slotState slot = 0 →
        (may 1 → ∃ t, exec (.ntsSlotLoadLocal slot roles) s = .next t ∧ loaded t 1 ∧ t.eng.n (Od.NTS_SLOT.key slot) < 2 ^ 256 ∧
          t.eng.draws = s.eng.draws + 1) ∧
        (may 2 → s.eng.b Od.NTS_STATION.seed_set = true →
          ∃ t, exec (.ntsSlotLoadStation slot roles) s = .next t ∧ loaded t 2 ∧ t.eng.i (Od.NTS_SLOT.key slot) =
            (leNat (stationKey (leBytes 32 (s.eng.n Od.NTS_STATION.seed)) (s.eng.n (Od.NTS_SLOT.generation slot))) : Nat)) ∧
        (may 2 → s.eng.b Od.NTS_STATION.seed_set = false →
          ∃ t, exec (.ntsSlotLoadStation slot roles) s = .next t ∧ t.eng.resp.status = stNoSeed ∧ s.eng.onlyObjects t.eng ∧ s.beside t) ∧
        (∀ key : Nat, may 3 → tget s.eng.nts.imported slot = some key →
          ∃ t, exec (.ntsSlotLoadImport slot roles) s = .next t ∧ loaded t 3 ∧ t.eng.i (Od.NTS_SLOT.key slot) = key) ∧
        (may 3 → tget s.eng.nts.imported slot = none →
          ∃ t, exec (.ntsSlotLoadImport slot roles) s = .next t ∧ t.eng.resp.status = stNoKey ∧ s.eng.onlyObjects t.eng ∧ s.beside t)) ∧
      (s.eng.slotState slot ≠ 0 → may 1 →
        ∃ t, exec (.ntsSlotLoadLocal slot roles) s = .next t ∧ t.eng.resp.status = stNotEmpty ∧ s.eng.onlyObjects t.eng ∧
          t.eng.i (Od.NTS_SLOT.key slot) = s.eng.i (Od.NTS_SLOT.key slot) ∧ s.beside t)) ∧
  (∀ (s : State), s.eng.up = true →
      (∀ (slot : Fin 16) (roles : Nat), s.eng.admits (Od.NTS_SLOT.command slot) 4 roles = true → s.eng.slotState slot = 1 →
        ∃ t, exec (.ntsSlotMakeCurrent slot roles) s = .next t ∧ s.accepted t ∧ t.eng.i (Od.NTS_SLOT.state slot) = 2 ∧
          t.eng.i Od.NTS_STATUS.current_slot = (slot : Nat) ∧
          ∀ c : Fin 16, s.eng.slotState c = 2 → (∀ d : Fin 16, d.val < c.val → s.eng.slotState d ≠ 2) →
            t.eng.i (Od.NTS_SLOT.state c) = 1 ∧
            t.eng.n (Od.NTS_SLOT.left_current c) = s.ctx.lin4096 / unitsPerSec % 2 ^ 48) ∧
      (∀ (slot : Fin 16) (roles : Nat), s.eng.admits (Od.NTS_SLOT.command slot) 5 roles = true → s.eng.slotState slot = 1 →
        ∃ t, exec (.ntsSlotRetire slot roles) s = .next t ∧ s.accepted t ∧ t.eng.i (Od.NTS_SLOT.state slot) = 0 ∧
          t.eng.i (Od.NTS_SLOT.key slot) = 0 ∧ t.eng.i (Od.NTS_SLOT.origin slot) = 0) ∧
      (∀ (slot : Fin 16) (roles : Nat), s.eng.admits (Od.NTS_SLOT.command slot) 5 roles = true → s.eng.slotState slot = 2 →
        ∃ t, exec (.ntsSlotRetire slot roles) s = .next t ∧ t.eng.resp.status = stCurrent ∧ s.eng.onlyObjects t.eng ∧
          t.eng.i (Od.NTS_SLOT.key slot) = s.eng.i (Od.NTS_SLOT.key slot) ∧ s.beside t) ∧
      (s.eng.retireDue s.ctx = true →
        ∃ t, exec .slotRetireCheck s = .next t ∧ s.beside t ∧ t.eng.nts.retireChecked = s.ctx.lin 0 / unitsPerSec ∧
          ∀ slot : Fin 16,
            let old : Prop := s.eng.n Od.NTS_GLOBAL.retire_after ≠ 0 ∧ s.eng.slotState slot = 1 ∧
              s.eng.n (Od.NTS_SLOT.left_current slot) + s.eng.n Od.NTS_GLOBAL.retire_after ≤ s.ctx.lin 0 / unitsPerSec % 2 ^ 48
            (old → t.eng.i (Od.NTS_SLOT.state slot) = 0 ∧ t.eng.i (Od.NTS_SLOT.key slot) = 0) ∧
            (¬old → t.eng.i (Od.NTS_SLOT.state slot) = s.eng.i (Od.NTS_SLOT.state slot) ∧
              t.eng.i (Od.NTS_SLOT.key slot) = s.eng.i (Od.NTS_SLOT.key slot))))

/-- The station's seed is stored and marked set. A good write of the key store takes the key objects to flash, and a failed one is a
fault of block 7: source 3 of its latch. A due reseeding starts the generator's count again; an unhealthy one stops it, with source 1 of
the latch (row 4), until a retry after a second finds 1,024 good samples. Rules: R175, R176, R178. -/
def Obligations.SeedsKeysAndTheGeneratorAreKept : Prop :=
  ∀ (s : State), s.eng.up = true →
    (∀ seed roles : Nat, s.eng.admits Od.NTS_STATION.seed seed roles = true →
      ∃ t, exec (.ntsStationSeedWrite seed roles) s = .next t ∧ s.accepted t ∧ t.eng.i Od.NTS_STATION.seed = seed ∧
        t.eng.i Od.NTS_STATION.seed_set = 1 ∧ t.eng.keyWait.since.isSome = true) ∧
    (s.eng.keyWait.since.isSome = true →
      (∃ t, exec (.keyStoreWrite true) s = .next t ∧ s.beside t ∧ t.eng.keyWait.since = none ∧ t.eng.od = s.eng.od ∧
        t.eng.flash = { s.eng.flash with
          keyValues := s.eng.od.filter (fun p => isKeyKey p.1), pkPriv := s.eng.pk.priv, keyBad := [false, false],
          marks := s.eng.front.creds.map (fun u => u.mark) }) ∧
      ∃ t, exec (.keyStoreWrite false) s = .next t ∧ s.beside t ∧ t.eng.flash = s.eng.flash ∧
        t.eng.keyWait.since = some (s.ctx.st 0) ∧
        t.eng.n (Od.FLT_BLOCK.latch 7) = s.eng.n (Od.FLT_BLOCK.latch 7) ||| 8) ∧
    (s.eng.reseedDue = true →
      ∃ t, exec (.drbgReseed true) s = .next t ∧ s.beside t ∧ t.eng.nts = { s.eng.nts with drbgBlocks := 0 } ∧ t.eng.od = s.eng.od) ∧
    (s.eng.b Od.NTS_STATUS.drbg_ok = true →
      ∃ t, exec (.drbgReseed false) s = .next t ∧ s.beside t ∧ t.eng.i Od.NTS_STATUS.drbg_ok = 0 ∧
        t.eng.nts = { s.eng.nts with drbgStopped := some (s.ctx.st 0) } ∧
        t.eng.n (Od.FLT_BLOCK.latch 7) = s.eng.n (Od.FLT_BLOCK.latch 7) ||| 2) ∧
    ∀ (good since : Nat), s.eng.nts.drbgStopped = some since → s.ctx.passed since unitsPerSec = true →
      ∃ t, exec (.drbgRetry good) s = .next t ∧ s.beside t ∧
        (1024 ≤ good → t.eng.nts.drbgStopped = none ∧ t.eng.i Od.NTS_STATUS.drbg_ok = 1) ∧
        (good < 1024 → t.eng.nts.drbgStopped = some (s.ctx.st 0) ∧ t.eng.od = s.eng.od)

/-- NTS-KE: a SYN to its port opens a session while there is room, and is refused and counted while the firmware sheds load; a completed
hello counts a handshake and answers, one without a hello is answered by alert 40; either ends its session, as ten seconds do. The
server's key is generated on command. Rules: R182, R183, R184. -/
def Obligations.KeyExchangeSessionsOpenAndEnd : Prop :=
  ∀ (s : State), s.eng.up = true →
    (∀ (port : Fin 32) (frame : Bytes) (p : Parsed), p = parseFrame s.eng.isTpid frame → s.eng.keOn = true →
      p.proto = some 6 → p.l4.isSome = true → beAt frame (p.l4.getD 0 + 2) 2 = s.eng.n Od.NTS_KE.tcp_port →
      byteAt frame (p.l4.getD 0 + 13) % 64 = 2 →
      (s.eng.b Od.NTS_KE_STATUS.shedding = false → (s.eng.keRecent s.ctx).length < s.eng.n Od.NTS_KE.max_rate →
        s.eng.nts.sessions.length < s.eng.n Od.NTS_KE.max_sessions →
        ∃ t, exec (.ntsKeSyn port frame) s = .next t ∧ s.beside t ∧ t.eng.od = s.eng.od ∧
          tget t.eng.nts.sessions (keSession p frame) = some ⟨s.ctx.st 0, port, frame⟩) ∧
      (s.eng.b Od.NTS_KE_STATUS.shedding = true →
        ∃ t, exec (.ntsKeSyn port frame) s = .next t ∧ s.beside t ∧ t.eng.nts.sessions = s.eng.nts.sessions ∧
          t.eng.n Od.NTS_KE_STATUS.refused_shed = (s.eng.n Od.NTS_KE_STATUS.refused_shed + 1) % 2 ^ 64)) ∧
    (∀ (session c2s s2c : Nat) (request : Bytes) (k : KeSession), tget s.eng.nts.sessions session = some k → s.eng.keOn = true →
      s.eng.b Od.NTS_KE_KEY.present = true →
      (∃ t, exec (.ntsKeRequest session .ok request c2s s2c) s = .next t ∧ s.beside t ∧ tget t.eng.nts.sessions session = none ∧
        t.eng.n Od.NTS_KE_STATUS.handshakes = (s.eng.n Od.NTS_KE_STATUS.handshakes + 1) % 2 ^ 64 ∧
        ∃ answer, t.eng.out = [.ntsKe session answer]) ∧
      ∃ t, exec (.ntsKeRequest session .none request c2s s2c) s = .next t ∧ s.beside t ∧ tget t.eng.nts.sessions session = none ∧
        t.eng.n Od.NTS_KE_STATUS.alerts = (s.eng.n Od.NTS_KE_STATUS.alerts + 1) % 2 ^ 64 ∧
        t.eng.out = [.ntsKe session [2, byte 40]]) ∧
    (∀ (session : Nat) (k : KeSession), tget s.eng.nts.sessions session = some k → s.eng.fwRuns = true →
      s.ctx.passed k.since (10 * unitsPerSec) = true →
      ∃ t, exec (.ntsKeSessionTimeout session) s = .next t ∧ s.beside t ∧ tget t.eng.nts.sessions session = none ∧
        t.eng.od = s.eng.od) ∧
    ∀ roles : Nat, s.eng.admits Od.NTS_KE_KEY.command 1 roles = true → s.eng.nts.drbgStopped = none →
      ∃ t, exec (.ntsKeKeyGenerate roles) s = .next t ∧ s.accepted t ∧ t.eng.i Od.NTS_KE_KEY.present = 1

/-! ## PTP (spec/09_ptp_service.md, spec/12_selection.md) -/

/-- A PTP message waiting for an instance that is off is dropped and counted; a multicast delay request on a port that the instance
serves is counted (event 0xB18); an Announce of its grandmaster is shown by the upstream unit it came for. Each leaves the queue. Rules:
R192. -/
def Obligations.PtpMessagesAreServed : Prop :=
  ∀ (s : State) (grid : List GridPoint) (f : PtpIn) (rest : List PtpIn) (v : PtpView) (m : Bytes), s.eng.up = true →
    s.eng.ptpIn = f :: rest → v = s.eng.ptpView f.bytes → m = v.msg →
    (f.target < 32 → s.eng.nAt (Od.PTP_INST.enable f.target) f.rxLin = 0 →
      ∃ t, exec (.ptpReceive grid) s = .next t ∧ s.beside t ∧ t.eng.ptpIn = rest ∧
        t.eng.n (Od.PTP_INST_STATS.dropped f.target) = (s.eng.n (Od.PTP_INST_STATS.dropped f.target) + 1) % 2 ^ 64) ∧
    (f.target < 32 → f.port < 32 → s.eng.flt.eclipse = false → s.eng.nAt (Od.PTP_INST.enable f.target) f.rxLin ≠ 0 →
      (s.core.moon (s.eng.nAt (Od.PTP_INST.moon f.target) f.rxLin)).adv = true →
      bitOf (s.eng.nAt (Od.PTP_INST.transports f.target) f.rxLin) (if v.ver = 4 then 0 else if v.ver = 6 then 1 else 2) = true →
      ptpShapeOk m = true → byteAt m 4 = s.eng.nAt (Od.PTP_INST.domain f.target) f.rxLin →
      s.eng.authOf (m.take (beAt m 2 2)) 44 = .absent → s.eng.nAt (Od.PTP_NEG.auth_required f.target) f.rxLin = 0 →
      ptpType m = 1 → bitOf (byteAt m 6) 2 = false →
      bitOf (s.eng.nAt (Od.PTP_INST.mc_port_mask f.target) f.rxLin) f.port = true →
      ∃ t, exec (.ptpReceive grid) s = .next t ∧ s.beside t ∧ t.eng.ptpIn = rest ∧
        t.eng.n (Od.PTP_INST_STATS.delay_req f.target) = (s.eng.n (Od.PTP_INST_STATS.delay_req f.target) + 1) % 2 ^ 64 ∧
        t.eng.seen 0xB18 = (s.eng.seen 0xB18 + 1) % 2 ^ 48) ∧
    ∀ u : Fin 16, f.target = 32 + u → s.eng.upOn u = true → ptpShapeOk m = true →
      byteAt (m.take (beAt m 2 2)) 4 = s.eng.n (Od.PTP_UP.domain u) → s.eng.n (Od.PTP_UP.auth_spp u) = 0xFF →
      ptpType (m.take (beAt m 2 2)) = 11 →
      ∃ t, exec (.ptpReceive grid) s = .next t ∧ s.beside t ∧ t.eng.ptpIn = rest ∧
        t.eng.n (Od.PTP_UP_STATUS.clock_class u) = byteAt (m.take (beAt m 2 2)) 48 ∧
        t.eng.n (Od.PTP_UP_STATUS.gm_identity u) = leNat (slice (m.take (beAt m 2 2)) 53 8)

/-- A granted message that comes due is issued once, and its next is due one interval later, with the next sequence number; the same
holds for a stream of multicast messages; and a grant that has run out leaves its client and is counted. Rules: R195, R197. -/
def Obligations.GrantsAndStreamsKeepTheirIntervals : Prop :=
  ∀ (s : State), s.eng.up = true →
    (∀ (i type : Nat) (grid : List GridPoint) (c : PtpClient) (g : Grant), s.eng.ptp.clients[i]? = some c →
      c.grant s.core.tick type = some g → g.due ≤ s.core.tick → type ≠ 9 →
      ∃ t, exec (.ptpMessageDue (.grant i type) grid) s = .next t ∧ s.beside t ∧
        ∃ d, t.eng.ptp.clients[i]? = some d ∧ d.same c = true ∧
          ∃ h ∈ d.grants, h.type = type ∧ h.due = g.due + logTicks g.log ∧ h.seq = (g.seq + 1) % 65536) ∧
    (∀ (inst port : Fin 32) (announce : Bool) (grid : List GridPoint) (due seq : Nat),
      tgetD s.eng.ptp.streams (streamKey inst port announce) ⟨s.core.tick, 0⟩ = ⟨due, seq⟩ → due ≤ s.core.tick →
      bitOf (s.eng.nAt (Od.PTP_INST.mc_port_mask inst) (s.ctx.lin 0)) port = true → s.eng.ptpMaySend s.ctx inst = true →
      s.eng.ptpRateOk s.ctx = true →
      ∃ t, exec (.ptpMessageDue (.multicast inst port announce) grid) s = .next t ∧ s.beside t ∧
        tget t.eng.ptp.streams (streamKey inst port announce) = some ⟨due + logTicks (s.eng.iAt
          (if announce then Od.PTP_INST.mc_log_announce inst else Od.PTP_INST.mc_log_sync inst) (s.ctx.lin 0)),
          (seq + 1) % 65536⟩) ∧
    ∀ (i type : Nat) (c : PtpClient), s.eng.ptp.clients[i]? = some c →
      (∃ g ∈ c.grants, g.type = type ∧ g.expiry ≤ s.core.tick) →
      ∃ t, exec (.grantExpiry i type) s = .next t ∧ s.beside t ∧
        t.eng.n Od.PTP_STATUS.expired = (s.eng.n Od.PTP_STATUS.expired + 1) % 2 ^ 64 ∧
        ∀ d ∈ t.eng.ptp.clients, c.same d = true → ∀ g ∈ d.grants, ¬(g.type = type ∧ g.expiry ≤ s.core.tick)

/-- An upstream unit that is on sends its delay requests one interval apart while it holds that grant, and its renewals with the next
sequence number, showing itself running while it holds all three grants; it forgets a Sync whose Follow_Up is a second late, and asks
again sixty seconds after a refusal. Rules: R207, R208. -/
def Obligations.UpstreamUnitsKeepTheirGrants : Prop :=
  ∀ (s : State) (unit_ : Fin 16), s.eng.up = true → s.eng.ups.length = 16 →
    (∀ grid : List GridPoint, s.eng.upOn unit_ = true → (s.eng.up_ unit_).holds s.core.tick 9 = true →
      (s.eng.up_ unit_).nextReq ≤ s.core.tick → s.eng.ptpRateOk s.ctx = true →
      ∃ t, exec (.upstreamDelayReq unit_ grid) s = .next t ∧ s.beside t ∧
        t.eng.up_ unit_ = { s.eng.up_ unit_ with
          nextReq := (s.eng.up_ unit_).nextReq + logTicks (s.eng.i (Od.PTP_UP.log_delay unit_)),
          reqSeq := ((s.eng.up_ unit_).reqSeq + 1) % 65536, inFlight := some ((s.eng.up_ unit_).reqSeq, none) }) ∧
    (∀ grid : List GridPoint, s.eng.upOn unit_ = true → (s.eng.up_ unit_).deniedAt = none →
      s.eng.upDueTypes s.ctx unit_ ≠ [] →
      ∃ t, exec (.upstreamRenew unit_ grid) s = .next t ∧ s.beside t ∧
        (t.eng.up_ unit_).sigSeq = ((s.eng.up_ unit_).sigSeq + 1) % 65536 ∧
        t.eng.n (Od.PTP_UP_STATUS.state unit_) =
          (if upTypes.all (fun k => (s.eng.up_ unit_).holds s.core.tick k) then 2 else 1)) ∧
    (s.eng.followLate s.ctx unit_ = true →
      ∃ t, exec (.followUpTimeout unit_) s = .next t ∧ s.beside t ∧ t.eng.up_ unit_ = { s.eng.up_ unit_ with sync := none } ∧
        t.eng.od = s.eng.od) ∧
    ∀ since : Nat, (s.eng.up_ unit_).deniedAt = some since → s.eng.upOn unit_ = true →
      s.ctx.passed since (60 * unitsPerSec) = true →
      ∃ t, exec (.upstreamRetry unit_) s = .next t ∧ s.beside t ∧ (t.eng.up_ unit_).deniedAt = none ∧
        t.eng.n (Od.PTP_UP_STATUS.state unit_) = 1

/-! ## Reference inputs and the TOD input (spec/10_reference_inputs.md) -/

/-- A compare edge of a qualified or qualifying input that is not early is counted and measured at its tick; an input whose edges stop
gets cause 0, one whose sibling is silent for three seconds cause 7, and either fails. The writes of an input's two records are stored
where their relations hold, and restart the input at the next boundary. A message of the time-of-day input with a framing error, or one
that does not read, counts as bad and changes nothing else. One that reads labels an edge: the next one, or the last one where it came
within 0.9 s of it, and that label is shown. Rules: R212, R214, R216, R222, R225. -/
def Obligations.TheInputsMeasureAndLabel : Prop :=
  (∀ (s : State) (input : Fin 8), s.eng.up = true →
      let caused (t : State) (bit : Nat) : Prop := s.beside t ∧ bitOf (t.eng.n (Od.REFIN_STATUS.causes input)) bit = true ∧
        (bitOf (s.eng.n (Od.REFIN_STATUS.causes input)) bit = false → t.eng.n (Od.REFIN_STATUS.state input) = 1 ∧
          t.eng.n (Od.REFIN_STATUS.last_fail_tick input) = s.core.tick)
      (∀ (capture width : Nat) (short : Bool), s.eng.n (Od.REFIN_STATUS.state input) ≠ 0 → (s.eng.refin input).restart = false →
        (∀ q, (s.eng.refin input).prev = some q → s.eng.n (Od.REFIN_CFG.mode input) = 0 →
          q + s.eng.refinPeriod input ≤ capture + s.eng.n (Od.REFIN_QUAL.window input)) →
        ∃ t, exec (.refinCompareEdge input capture short width) s = .next t ∧ s.beside t ∧
          t.eng.n (Od.REFIN_STATUS.edges input) = (s.eng.n (Od.REFIN_STATUS.edges input) + 1) % 2 ^ 64 ∧
          t.eng.n (Od.REFIN_MEAS.tick input) = s.core.tick) ∧
      (s.eng.stuckDue s.ctx input = true → ∃ t, exec (.refinStuck input) s = .next t ∧ caused t 0) ∧
      (s.eng.sibStale s.ctx input = true → ∃ t, exec (.siblingStale input) s = .next t ∧ caused t 7) ∧
      (∀ (w : RecWrite) (roles : Nat) (vs : List (Key × Int)), vs = recValues 0x20 (0x110 + input) w →
        s.eng.admitsRec 0x20 (0x110 + input) w roles = true →
        (s.eng.setAll vs).n (Od.REFIN_QUAL.window_fine input) ≤ (s.eng.setAll vs).n (Od.REFIN_QUAL.window input) →
        ∃ t, exec (.refinConfigWrite input true w roles) s = .next t ∧ s.stored t vs ∧ (t.eng.refin input).restart = true ∧
          s.eng.onlyObjects { t.eng with refins := s.eng.refins }) ∧
      ∀ (w : RecWrite) (roles : Nat) (vs : List (Key × Int)), vs = recValues 0x20 (0x100 + input) w →
        s.eng.admitsRec 0x20 (0x100 + input) w roles = true → (s.eng.setAll vs).refinAllowed input = true →
        (names vs [Od.REFIN_CFG.sibling input] = true → (s.eng.setAll vs).n (Od.REFIN_CFG.sibling input) ≠ s.eng.n Od.SEG.member) →
        slotCheck (s.eng.setAll vs).od (srcRefin input) ((s.eng.setAll vs).n (Od.REFIN_CFG.slot input)) = stOk →
        ∃ t, exec (.refinConfigWrite input false w roles) s = .next t ∧ s.accepted t ∧ (∀ p ∈ vs, t.eng.i p.1 = p.2) ∧
          (t.eng.refin input).restart = true) ∧
  (∀ (s : State) (text : Bytes), s.eng.up = true → s.eng.b Od.TOD_IN.enable = true →
      let bad (t : State) : Prop := s.beside t ∧ s.eng.onlyObjects t.eng ∧
        t.eng.n Od.TOD_STATUS.bad = (s.eng.n Od.TOD_STATUS.bad + 1) % 2 ^ 32 ∧
        t.eng.n Od.TOD_STATUS.sticky = s.eng.n Od.TOD_STATUS.sticky ||| 1
      (∃ t, exec (.todInMessage text true) s = .next t ∧ bad t) ∧
      (nmeaFields text = none → ∃ t, exec (.todInMessage text false) s = .next t ∧ bad t) ∧
      ∀ (fs : List (List Nat)) (l : TodLabel) (tai : Int), nmeaFields text = some fs →
        (if s.eng.n Od.TOD_IN.format = 1 then lineLabel fs else nmeaLabel fs) = some l → s.eng.labelTai l = some (tai, false) →
        (s.eng.n Od.TOD_IN.edge_rule = 1 →
          ∃ t, exec (.todInMessage text false) s = .next t ∧ s.beside t ∧
            t.eng = { s.eng with out := [], tod := { s.eng.tod with waiting := some (tai, s.ctx.lin 0) } }) ∧
        ∀ edge : Nat, s.eng.n Od.TOD_IN.edge_rule ≠ 1 → s.eng.tod.lastEdge = some edge →
          s.ctx.lin 0 ≤ edge + unitsPerSec * 9 / 10 →
          ∃ t, exec (.todInMessage text false) s = .next t ∧ s.beside t ∧ t.eng.tod.label = some (tai, s.eng.tod.edges) ∧
            t.eng.n Od.TOD_STATUS.good = (s.eng.n Od.TOD_STATUS.good + 1) % 2 ^ 32 ∧
            t.eng.n Od.TOD_STATUS.last_label = wtOf (tai * secU))

/-! ## GNSS (spec/11_gnss.md) -/

/-- A front end that is on shows the noise floor of its band; a satellite found takes the first idle channel, acquiring; a channel whose
checks fail three times running is released, with source 1 of block 10's latch; one that is due is released alone; one excluded from the
solution comes back after sixty seconds; and the antenna's fault pin is a cause while it is enabled. Rules: R230, R232, R234, R235, R247,
R250. -/
def Obligations.GnssChannelsAreTakenAndReleased : Prop :=
  ∀ (s : State), s.eng.up = true →
    (∀ (fe : Fin 2) (block : SampleBlock), s.eng.feState fe ≠ 0 →
      ∃ t, exec (.gnssSampleBlock fe block) s = .next t ∧ s.beside t ∧ t.eng.i (Od.GNSS_FE_STATUS.noise_floor fe) =
        if s.eng.bandOn fe 0 then block.floorUpper else block.floorLower) ∧
    (∀ (fe : Fin 2) (h : SearchHit) (c : Nat), 2 ≤ s.eng.feState fe → s.eng.hitOk s.ctx fe h = true →
      ((List.range 128).filter (fun c => s.eng.chanOf fe c)).length < s.eng.n (Od.GNSS_FE.channels_max fe) →
      (List.range 128).find? (fun c => s.eng.n (Od.GNSS_CHAN.state c) == 0) = some c →
      ∃ t, exec (.acquisitionDwell fe [h]) s = .next t ∧ s.beside t ∧ s.eng.onlyObjects t.eng ∧
        t.eng.n (Od.GNSS_CHAN.state c) = 1 ∧ t.eng.n (Od.GNSS_CHAN.fe c) = fe.val ∧ t.eng.n (Od.GNSS_CHAN.prn c) = h.prn ∧
        t.eng.n (Od.GNSS_CHAN.system c) = h.system.val ∧
        ∀ d : Fin 128, d.val ≠ c → t.eng.n (Od.GNSS_CHAN.state d) = s.eng.n (Od.GNSS_CHAN.state d)) ∧
    (∀ (channel : Fin 128) (run : Nat), s.eng.n (Od.GNSS_CHAN.state channel) ≠ 0 → s.eng.n (Od.GNSS_CHAN.fe channel) < 2 → 3 ≤ run →
      ∃ t, exec (.checkChannelPass channel run) s = .next t ∧ s.beside t ∧ t.eng.n (Od.GNSS_CHAN.state channel) = 0 ∧
        t.eng.n (Od.FLT_BLOCK.latch 10) = s.eng.n (Od.FLT_BLOCK.latch 10) ||| 2) ∧
    (∀ channel : Fin 128, s.eng.releaseDue s.ctx channel = true →
      ∃ t, exec (.channelRelease channel) s = .next t ∧ s.beside t ∧ t.eng.n (Od.GNSS_CHAN.state channel) = 0 ∧
        (∀ k, Key.area k ≠ 0x24 → t.eng.i k = s.eng.i k) ∧
        ∀ d : Fin 128, d ≠ channel → t.eng.n (Od.GNSS_CHAN.state d) = s.eng.n (Od.GNSS_CHAN.state d)) ∧
    (∀ (channel : Fin 128) (since : Nat), tget s.eng.gnss.excluded channel = some since →
      s.ctx.passed since (60 * unitsPerSec) = true → s.eng.n (Od.GNSS_CHAN.state channel) = 3 →
      ∃ t, exec (.raimRejoin channel) s = .next t ∧ s.beside t ∧ t.eng.n (Od.GNSS_CHAN.state channel) = 2 ∧
        tget t.eng.gnss.excluded channel = none ∧ ∀ k, k ≠ Od.GNSS_CHAN.state channel → t.eng.i k = s.eng.i k) ∧
    ∀ (fe : Fin 2) (low : Bool), s.eng.gnss.fes.length = 2 →
      ∃ t, exec (.antennaFaultPin fe low) s = .next t ∧ s.beside t ∧ (t.eng.fe fe).antLow = low ∧
        (low = true → s.eng.b (Od.GNSS_FE.antenna_fault fe) = true → s.eng.feState fe ≠ 0 →
          bitOf (t.eng.n (Od.GNSS_FE_STATUS.causes fe)) 10 = true)

/-- A solution epoch is worked once, and a front end that tracks nothing has too few satellites (cause 5). Navigation authentication
counts its tags, remembers a satellite whose tag failed, and forgets it after 300 s. The orbits are saved to flash every hour or on
command. The held position and the configuration are stored where their relations hold. Rules: R237, R240, R246, R248, R251. -/
def Obligations.GnssSolutionsAuthenticationAndStores : Prop :=
  ∀ (s : State), s.eng.up = true →
    let saved (t : State) : Prop := t.eng.flash = { s.eng.flash with gnss := s.eng.gnss.orbits } ∧
      t.eng.gnss = { s.eng.gnss with savedAt := s.ctx.st 0 } ∧ t.eng.n Od.GNSS_STORE.last_save_tick = s.core.tick
    (∀ (fe : Fin 2) (epoch : GnssEpoch), s.eng.gnss.fes.length = 2 → s.eng.feState fe ≠ 0 →
      (s.eng.fe fe).lastEpoch < s.eng.epochInstant s.ctx →
      ∃ t, exec (.gnssSolutionEpoch fe epoch) s = .next t ∧ s.beside t ∧ (t.eng.fe fe).lastEpoch = s.eng.epochInstant s.ctx ∧
        (s.eng.feState fe = 2 → bitOf (t.eng.n (Od.GNSS_FE_STATUS.causes fe)) 5 = true)) ∧
    (s.eng.n Od.GNSS_GLOBAL.osnma_policy ≠ 0 → s.eng.n Od.GNSS_OSNMA.merkle_root ≠ 0 →
      (∀ kt : Nat, ∃ t, exec (.osnmaVerify (.publicKey true kt)) s = .next t ∧ s.beside t ∧ s.eng.onlyObjects t.eng ∧
        t.eng.n Od.GNSS_OSNMA.key_type = kt % 256) ∧
      (∀ (prn : Nat) (complete : Bool), ∃ t, exec (.osnmaVerify (.tag prn true complete)) s = .next t ∧ s.beside t ∧
        s.eng.onlyObjects t.eng ∧ t.eng.n Od.GNSS_OSNMA.tags_ok = (s.eng.n Od.GNSS_OSNMA.tags_ok + 1) % 2 ^ 64) ∧
      ∀ (prn : Nat) (complete : Bool), ∃ t, exec (.osnmaVerify (.tag prn false complete)) s = .next t ∧ s.beside t ∧
        tget t.eng.gnss.failed prn = some (s.ctx.st 0) ∧
        t.eng.n Od.GNSS_OSNMA.tags_failed = (s.eng.n Od.GNSS_OSNMA.tags_failed + 1) % 2 ^ 32) ∧
    (∀ prn : Nat, s.eng.failOver s.ctx prn = true →
      ∃ t, exec (.osnmaFailExpiry prn) s = .next t ∧ s.beside t ∧ tget t.eng.gnss.failed prn = none ∧
        ∀ k, Key.area k ≠ 0x24 → t.eng.i k = s.eng.i k) ∧
    (s.ctx.passed s.eng.gnss.savedAt (3600 * unitsPerSec) = true →
      ∃ t, exec (.gnssStoreSave none) s = .next t ∧ s.beside t ∧ saved t) ∧
    (∀ roles : Nat, s.eng.admits Od.GNSS_STORE.save 1 roles = true →
      ∃ t, exec (.gnssStoreSave (some (1, roles))) s = .next t ∧ s.accepted t ∧ saved t) ∧
    (∀ (w : RecWrite) (roles : Nat) (vs : List (Key × Int)), vs = recValues 0x24 0x003 w → s.eng.admitsRec 0x24 0x003 w roles = true →
      ∃ t, exec (.gnssHeldWrite w roles) s = .next t ∧ s.accepted t ∧ s.eng.onlyObjects t.eng ∧
        (∀ p ∈ vs, p.1 ≠ Od.GNSS_HELD.origin → p.1 ≠ Od.GNSS_HELD.valid → t.eng.i p.1 = p.2) ∧
        (vs.any (fun p => p.1 == Od.GNSS_HELD.lat || p.1 == Od.GNSS_HELD.lon || p.1 == Od.GNSS_HELD.height) = true →
          t.eng.i Od.GNSS_HELD.origin = 2 ∧ t.eng.i Od.GNSS_HELD.valid = 1)) ∧
    (∀ (w : RecWrite) (roles : Nat) (vs : List (Key × Int)), vs = recValues 0x24 0x001 w → s.eng.admitsRec 0x24 0x001 w roles = true →
      let f := s.eng.setAll vs
      bitOf (f.n Od.GNSS_GLOBAL.systems) (f.n Od.GNSS_GLOBAL.time_ref) = true →
      f.n Od.GNSS_GLOBAL.cn0_min + 5 ≤ f.n Od.GNSS_GLOBAL.cn0_max →
      ∃ t, exec (.gnssConfigWrite none w roles) s = .next t ∧ s.stored t vs) ∧
    ∀ (fe : Fin 2) (w : RecWrite) (roles : Nat) (vs : List (Key × Int)), vs = recValues 0x24 (0x010 + fe) w →
      s.eng.admitsRec 0x24 (0x010 + fe) w roles = true →
      let f := s.eng.setAll vs
      f.n (Od.GNSS_FE.channels_max 0) + f.n (Od.GNSS_FE.channels_max 1) ≤ 128 → leverOk (f.n (Od.GNSS_FE.lever_mm fe)) = true →
      slotCheck f.od (srcGnss fe) (f.n (Od.GNSS_FE.slot fe)) = stOk →
      ∃ t, exec (.gnssConfigWrite (some fe) w roles) s = .next t ∧ s.accepted t ∧ ∀ p ∈ vs, t.eng.i p.1 = p.2

/-! ## Selection, steering and outputs (spec/12_selection.md to spec/14_outputs.md) -/

/-- A slot gets cause 6 when it is silent, and leaves its wait to restore when that is over or is cleared by command; an accepted jump
clears causes 3 and 4; an asymmetry estimate that is due goes to its next stage; its stability history keeps one mean a second and is
emptied by command; a forced slot must be one the moon lists; and a peek stores its question and answers from both slots' last
measurements. Rules: R260, R264, R265, R268, R269, R272, R277. -/
def Obligations.SlotsAreJudgedAndCommanded : Prop :=
  ∀ (s : State) (roles : Nat), s.eng.up = true →
    (∀ slot : Fin 64, s.eng.silentDue s.ctx slot = true →
      ∃ t, exec (.slotSilent slot) s = .next t ∧ s.beside t ∧ bitOf (t.eng.n (Od.SEL_SLOT_STATUS.causes slot)) 6 = true ∧
        (bitOf (s.eng.n (Od.SEL_SLOT_STATUS.causes slot)) 6 = false → t.eng.n (Od.SEL_SLOT_STATUS.state slot) = 1)) ∧
    (∀ slot : Fin 64, s.eng.waitOver s.ctx slot = true →
      ∃ t, exec (.waitToRestoreEnd slot) s = .next t ∧ s.beside t ∧ t.eng.n (Od.SEL_SLOT_STATUS.state slot) = 3 ∧
        t.eng.n (Od.SEL_SLOT_STATUS.wtr_remaining slot) = 0 ∧ (t.eng.slot slot).wait = none) ∧
    (∀ slot : Fin 64, s.eng.asymDue s.ctx slot = true →
      ∃ t, exec (.asymEstimate slot) s = .next t ∧ s.beside t ∧ t.eng.od = s.eng.od ∧
        (t.eng.slot slot).asym = (s.eng.slot slot).asym.map (fun a => { a with stage := 1 })) ∧
    (s.eng.sel.slots.length = 64 →
      ∃ t, exec .stabilityUpdate s = .next t ∧ s.beside t ∧ ∀ k : Fin 64,
        ((s.eng.slot k).second < s.ctx.lin 0 / unitsPerSec →
          (t.eng.slot k).second = s.ctx.lin 0 / unitsPerSec ∧ (t.eng.slot k).mean = Mean.zero) ∧
        (s.ctx.lin 0 / unitsPerSec ≤ (s.eng.slot k).second → t.eng.slot k = s.eng.slot k)) ∧
    (∀ slot : Fin 64, s.eng.admits (Od.SEL_SLOT_CMD slot) 1 roles = true →
      ∃ t, exec (.acceptJump slot roles) s = .next t ∧ s.accepted t ∧ bitOf (t.eng.n (Od.SEL_SLOT_STATUS.causes slot)) 3 = false ∧
        bitOf (t.eng.n (Od.SEL_SLOT_STATUS.causes slot)) 4 = false) ∧
    (∀ slot : Fin 64, s.eng.admits (Od.SEL_SLOT_CMD slot) 2 roles = true → s.eng.selState slot = 2 →
      ∃ t, exec (.clearWtr slot roles) s = .next t ∧ s.accepted t ∧ t.eng.n (Od.SEL_SLOT_STATUS.state slot) = 3) ∧
    (∀ slot : Fin 64, s.eng.admits (Od.SEL_SLOT_CMD slot) 3 roles = true →
      ∃ t, exec (.resetStability slot roles) s = .next t ∧ s.accepted t ∧ (t.eng.slot slot).samples = [] ∧
        ∀ m : Fin 10, t.eng.i (odKey 0x28 (0x200 + slot) (m + 1)) = 0) ∧
    (∀ (moon : Fin 32) (value : Nat), s.eng.admits (Od.SEL_MOON.force moon) value roles = true → s.eng.follows moon = false →
      (value = 0xFF ∨ value < 64 ∧ prioIn s.eng.od moon value ≠ 0 →
        ∃ t, exec (.selForceWrite moon value roles) s = .next t ∧ s.stored t [(Od.SEL_MOON.force moon, value)]) ∧
      (value < 64 → prioIn s.eng.od moon value = 0 →
        ∃ t, exec (.selForceWrite moon value roles) s = .next t ∧ t.eng.resp.status = stNotListed ∧ s.eng.onlyObjects t.eng ∧ s.beside t)) ∧
    ∀ (w : RecWrite) (vs : List (Key × Int)) (a b : RawMeas), vs = recValues 0x28 2 w → s.eng.admitsRec 0x28 2 w roles = true →
      (s.eng.slot ((s.eng.setAll vs).n Od.SEL_PEEK.row)).latest = some a →
      (s.eng.slot ((s.eng.setAll vs).n Od.SEL_PEEK.col)).latest = some b →
      ∃ t, exec (.selPeekWrite w roles) s = .next t ∧ s.accepted t ∧ s.eng.onlyObjects t.eng ∧
        t.eng.i Od.SEL_PEEK.ff = sat64 (a.ff - b.ff) ∧ t.eng.i Od.SEL_PEEK.tick = (a.tick : Nat)

/-- The steering mode of a moon that does not follow moon 0 is stored, its unit and the oscillator's model restart on command, and the
model looks at moon 0 once a second; a follower's mode and restart are refused MODE. A synthesizer that is on shows its lock; its loss of
lock is source 2 of block 13's latch. A pulse output's next edge is driven where its launch point has come, at least four ticks after the
last one, and is counted; a time-of-day message leaves when it is due; and a pulse output's record is stored where its period holds its
phase and its width. Rules: R279, R285, R293, R297, R300, R302, R305, R306. -/
def Obligations.SteeringAndOutputsAreDriven : Prop :=
  (∀ (s : State) (roles : Nat), s.eng.up = true →
      (∀ (moon : Fin 32) (value : Nat), s.eng.admits (Od.STEER_MOON.mode moon) value roles = true →
        (s.eng.follows moon = false →
          ∃ t, exec (.steerModeWrite moon value roles) s = .next t ∧ s.wrote t [(Od.STEER_MOON.mode moon, value)]) ∧
        (s.eng.follows moon = true →
          ∃ t, exec (.steerModeWrite moon value roles) s = .next t ∧ t.eng.resp.status = stMode ∧ s.eng.onlyObjects t.eng ∧
            t.eng.i (Od.STEER_MOON.mode moon) = s.eng.i (Od.STEER_MOON.mode moon) ∧ s.beside t)) ∧
      (∀ (moon : Fin 32) (value : Nat), s.eng.admits (Od.STEER_CMD moon) value roles = true →
        (s.eng.follows moon = false → s.eng.steer.length = 32 →
          ∃ t, exec (.restart moon value roles) s = .next t ∧ s.accepted t ∧
            t.eng.unit moon = { s.eng.unit moon with restart := true }) ∧
        (s.eng.follows moon = true →
          ∃ t, exec (.restart moon value roles) s = .next t ∧ t.eng.resp.status = stMode ∧ s.eng.onlyObjects t.eng ∧ s.beside t)) ∧
      (∀ value : Nat, s.eng.admits Od.STEER_OSC.command value roles = true →
        ∃ t, exec (.restartModel value roles) s = .next t ∧ s.accepted t ∧ t.eng.model = { s.eng.model with restart := true }) ∧
      (s.eng.model.second < s.ctx.lin 0 / unitsPerSec →
        ∃ t, exec .modelObservation s = .next t ∧ s.beside t ∧ t.eng.model.second = s.ctx.lin 0 / unitsPerSec ∧
          t.eng.model.sum = Mean.zero ∧ (s.eng.model.sum.n = 0 → t.eng.od = s.eng.od ∧ t.eng.model.coef = s.eng.model.coef))) ∧
  (∀ (s : State), s.eng.up = true →
      (∀ synth : Fin 4,
        (s.eng.outCfg (Od.SYNTH.enable synth) ≠ 0 →
          ∃ t, exec (.synthLock synth) s = .next t ∧ s.beside t ∧ t.eng.i (Od.SYNTH.locked synth) = 1 ∧
            ∀ k, k ≠ Od.SYNTH.locked synth → t.eng.i k = s.eng.i k) ∧
        (s.eng.b (Od.SYNTH.locked synth) = true →
          ∃ t, exec (.synthUnlock synth) s = .next t ∧ s.beside t ∧ t.eng.i (Od.SYNTH.locked synth) = 0 ∧
            t.eng.n (Od.FLT_BLOCK.latch 13) = s.eng.n (Od.FLT_BLOCK.latch 13) ||| 4)) ∧
      (∀ (output : Fin 4) (error : Int) (v : Nat) (rising : Bool) (rest : List (Nat × Bool)),
        (s.eng.pps output).edges = (v, rising) :: rest →
        let p := s.eng.placeAt (s.eng.launchOf s.ctx output v)
        p.1 ≤ s.core.tick → (∀ last, (s.eng.pps output).lastTick = some last → last + 4 ≤ p.1) → (s.eng.pps output).level ≠ rising →
        ∃ t, exec (.ppsoutEdge output error) s = .next t ∧ s.beside t ∧ (t.eng.pps output).edges = rest ∧
          (t.eng.pps output).level = rising ∧ .pulse output p.1 p.2 rising ∈ t.eng.out ∧
          t.eng.n (Od.PPSOUT.edges output) = (s.eng.n (Od.PPSOUT.edges output) + 1) % 2 ^ 32 ∧
          t.eng.i (Od.PPSOUT.echo_last output) = error) ∧
      (∀ (at_ : Nat) (bytes : Bytes) (bad : Bool), s.eng.outs.tod = some (at_, bytes, bad) → at_ ≤ s.ctx.lin 0 →
        s.eng.ppsSquelched (s.eng.outNat Od.TOD_OUT.ppsout) = false →
        ∃ t, exec .todOutMessage s = .next t ∧ s.beside t ∧ t.eng.out = [.tod bytes] ∧ t.eng.outs = { s.eng.outs with tod := none } ∧
          t.eng.n Od.TOD_OUT_STATUS.sent = (s.eng.n Od.TOD_OUT_STATUS.sent + 1) % 2 ^ 32) ∧
      ∀ (output : Fin 4) (w : RecWrite) (roles : Nat) (vs : List (Key × Int)), vs = recValues 0x18 (0x40 + output) w →
        s.eng.admitsRec 0x18 (0x40 + output) w roles = true →
        let f := s.eng.setAll vs
        0 ≤ f.i (Od.PPSOUT.phase output) → f.i (Od.PPSOUT.phase output) < f.i (Od.PPSOUT.period output) →
        6553600 ≤ f.i (Od.PPSOUT.width output) → f.i (Od.PPSOUT.width output) ≤ f.i (Od.PPSOUT.period output) - 6553600 →
        s.eng.outs.pps.length = 4 →
        ∃ t, exec (.ppsoutConfigWrite output w roles) s = .next t ∧ s.stored t vs ∧ (t.eng.pps output).rebuild = true ∧
          s.eng.onlyObjects { t.eng with outs := s.eng.outs })

/-! ## The public-key engine (spec/15_public_key_engine.md) -/

/-- A submission to the public-key engine (MODADD, MODSUB, MODMUL, MODEXP, MODEXP_PUB, MODINV, RSA_CRT, X25519, ED25519_SIGN,
ED25519_VERIFY, ECDSA_SIGN_P256, ECDSA_VERIFY_P256, ECDSA_VERIFY_P384, ECDSA_VERIFY_P521, KEYGEN_P256, KEYGEN_ED25519, KEYGEN_X25519,
CLEAR, COPY, CLEAR_REGION) that passes its checks joins the end of its queue with its tick and the next sequence number; one that does
not, or whose queue is full, is answered with its status and leaves the engine as it was. The host's queue is written as an object.
Rules: R308, R309, R310, R311. -/
def Obligations.PkSubmissionsJoinTheirQueue : Prop :=
  ∀ (c : Instr) (s : State) (op : Nat) (queue : Fin 4) (cmd : PkCmd) (roles : Nat), pkOf c = some (op, queue, cmd, roles) →
    s.eng.up = true → cmd.src.length = 7 →
    (queue = 3 → s.eng.admitsAll (recValues 0x50 0x020 (.whole (pkCmdValues op cmd))) roles = true) →
    (s.eng.pkCheck queue op cmd = stOk → s.eng.pk.full queue = false →
      ∃ t, exec c s = .next t ∧ s.accepted t ∧ s.eng.onlyObjects { t.eng with pk := s.eng.pk } ∧
        t.eng.pk = { s.eng.pk with
          queues := modNth s.eng.pk.queues queue (fun l => l ++ [⟨op, queue, s.eng.pk.seq, s.core.tick, cmd⟩]), seq := s.eng.pk.seq + 1 } ∧
        ∀ k, accounting k = false → t.eng.i k = s.eng.i k) ∧
    (s.eng.pkCheck queue op cmd ≠ stOk →
      ∃ t, exec c s = .next t ∧ t.eng.resp.status = s.eng.pkCheck queue op cmd ∧ t.eng.pk = s.eng.pk ∧ s.beside t) ∧
    (s.eng.pkCheck queue op cmd = stOk → s.eng.pk.full queue = true →
      ∃ t, exec c s = .next t ∧ t.eng.resp.status = stFull ∧ t.eng.pk = s.eng.pk ∧ s.beside t)

/-- A free unit takes the next command of the queue whose turn it is; validation ends in execution or in a refusal that is counted; a
command that ends leaves its unit free and counts as completed, its result in its destination, which is clean then; a unit's fault ends
it too, with source 1 of block 14's latch. A command still waiting is taken out by its tag, and an abort that finds none is counted.
Rules: R312, R316, R317, R319. -/
def Obligations.PkCommandsRunToTheirEnd : Prop :=
  ∀ (s : State), s.eng.up = true →
    (∀ (u q : Nat) (j : PkJob) (rest : List PkJob), s.eng.pk.units.findIdx? (fun u => u.run.isNone && !u.out) = some u →
      s.eng.pkTurn = some q → s.eng.pk.queue q = j :: rest →
      ∃ t, exec .pkDispatch s = .next t ∧ s.beside t ∧ t.eng.od = s.eng.od ∧ t.eng.pk.queue q = rest ∧
        ∃ executing, t.eng.pkRun u = some ⟨j, s.core.tick, executing⟩) ∧
    (∀ (unit_ : Fin 8) (r : PkRun), s.eng.pkRun unit_ = some r → r.job.queue < 4 →
      (r.executing = false → r.at_ + pkTicks (pkV r.job.op (s.eng.pkW r.job.op r.job.cmd)) ≤ s.core.tick →
        (s.eng.pkValidate r.job.op r.job.cmd = 0 → pkDraws r.job.op = false →
          ∃ t, exec (.pkValidationEnd unit_) s = .next t ∧ s.beside t ∧ t.eng.od = s.eng.od ∧
            t.eng.pkRun unit_ = some { r with executing := true }) ∧
        (1 ≤ s.eng.pkValidate r.job.op r.job.cmd → s.eng.pkValidate r.job.op r.job.cmd ≤ 5 →
          ∃ t, exec (.pkValidationEnd unit_) s = .next t ∧ s.beside t ∧ t.eng.pkRun unit_ = none ∧
            t.eng.n (Od.PK_Q.refused r.job.queue) = (s.eng.n (Od.PK_Q.refused r.job.queue) + 1) % 2 ^ 64)) ∧
      (∀ (d v : Nat) (st : Nat), r.executing = true → r.at_ + pkTicks (s.eng.pkCycles r.job) ≤ s.core.tick →
        r.job.op ≠ 32 → r.job.op ≠ 34 → pkKeygen r.job.op = false → pkDraws r.job.op = false → s.eng.pkDests r.job = [d] → d < 1024 →
        s.eng.pkResult r.job 0 0 = ⟨st, [v], none⟩ → st = 0 ∨ st = 7 →
        ∃ t, exec (.pkComplete unit_ .full) s = .next t ∧ s.beside t ∧ t.eng.pkRun unit_ = none ∧
          t.eng.pkVal d = v % 2 ^ (64 * s.eng.pkLen d) ∧ t.eng.i (Od.PK_SLOT.dirty d) = 0 ∧
          t.eng.n (Od.PK_Q.completed r.job.queue) = (s.eng.n (Od.PK_Q.completed r.job.queue) + 1) % 2 ^ 64) ∧
      ∀ cycles : Nat, (∀ d ∈ s.eng.pkDests r.job, d < 1024) →
        ∃ t, exec (.pkComplete unit_ (.fault cycles)) s = .next t ∧ s.beside t ∧ t.eng.pkRun unit_ = none ∧
          t.eng.n (Od.FLT_BLOCK.latch 14) = s.eng.n (Od.FLT_BLOCK.latch 14) ||| 2) ∧
    ∀ (queue : Fin 4) (tag roles : Nat), (queue = 3 → s.eng.admits Od.PK_HOST_CTRL.abort tag roles = true) →
      (s.eng.pk.jobs.filter (fun j => j.queue == queue.val && j.cmd.tag == tag) = [] →
        ∃ t, exec (.pkAbort queue tag roles) s = .next t ∧ s.beside t ∧ t.eng.pk = s.eng.pk ∧
          t.eng.n (Od.PK_Q.abort_missed queue) = (s.eng.n (Od.PK_Q.abort_missed queue) + 1) % 2 ^ 32) ∧
      ∀ j : PkJob, s.eng.pk.jobs.filter (fun j => j.queue == queue.val && j.cmd.tag == tag) = [j] →
        (∀ p ∈ s.eng.pk.units, ∀ r, p.run = some r → r.job.seq ≠ j.seq) →
        ∃ t, exec (.pkAbort queue tag roles) s = .next t ∧ s.beside t ∧
          t.eng.pk.queues = modNth s.eng.pk.queues queue (fun l => l.filter (fun k => k.seq != j.seq)) ∧
          t.eng.n (Od.PK_Q.aborted queue) = (s.eng.n (Od.PK_Q.aborted queue) + 1) % 2 ^ 64

/-- A pop takes the oldest completion from the host's; a held key is erased on command unless a command uses it, and a key of the
firmware's is not; a slot of the owner's region is placed and written while no command uses it and no other slot overlaps it, and the
data of a slot of the other side's region is not written. Rules: R307, R318, R323. -/
def Obligations.PkSlotsAndKeysAreKept : Prop :=
  ∀ (s : State) (roles : Nat), s.eng.up = true →
    (s.eng.admits Od.PK_HOST_CTRL.pop 1 roles = true →
      ∃ t, exec (.pkPop 1 roles) s = .next t ∧ s.accepted t ∧ t.eng.pk = { s.eng.pk with done := s.eng.pk.done.drop 1 }) ∧
    (∀ handle : Fin 16, s.eng.admits (Od.PK_KEY.command handle) 1 roles = true →
      (8 ≤ handle.val → s.eng.pk.jobs.any (fun j => j.cmd.key == handle.val) = false →
        ∃ t, exec (.erase handle roles) s = .next t ∧ s.stored t [(Od.PK_KEY.type handle, 0), (Od.PK_KEY.public_ handle, 0)] ∧
          t.eng.pk = { s.eng.pk with priv := tdel s.eng.pk.priv handle } ∧ t.eng.keyWait.since.isSome = true) ∧
      (8 ≤ handle.val → s.eng.pk.jobs.any (fun j => j.cmd.key == handle.val) = true →
        ∃ t, exec (.erase handle roles) s = .next t ∧ t.eng.resp.status = stInUse ∧ s.eng.onlyObjects t.eng ∧ s.beside t) ∧
      (handle.val < 8 →
        ∃ t, exec (.erase handle roles) s = .next t ∧ t.eng.resp.status = stDenied ∧ s.eng.onlyObjects t.eng ∧ s.beside t)) ∧
    (∀ (owner : Bool) (slot : Fin 1024) (w : RecWrite) (vs : List (Key × Int)), vs = recValues 0x50 (0x400 + slot) w →
      s.eng.admitsRec 0x50 (0x400 + slot) w roles = true → (owner ↔ (pkRegion slot).2.2 ≠ 1) → s.eng.pkInUse slot = false →
      let f := s.eng.setAll vs
      f.n (Od.PK_SLOT.base slot) + f.pkLen slot ≤ (pkRegion slot).2.1 → f.pkLen slot ≤ 128 →
      (∀ o ∈ s.eng.pkRegionSlots (pkRegion slot).2.2, o ≠ slot.val → f.pkLen slot ≠ 0 →
        s.eng.n (Od.PK_SLOT.base o) + s.eng.pkLen o ≤ f.n (Od.PK_SLOT.base slot) ∨
        f.n (Od.PK_SLOT.base slot) + f.pkLen slot ≤ s.eng.n (Od.PK_SLOT.base o)) →
      ∃ t, exec (.pkSlotDefine owner slot w roles) s = .next t ∧ s.beside t ∧ (∀ p ∈ vs, t.eng.i p.1 = p.2) ∧
        (∀ k, (∀ p ∈ vs, k ≠ p.1) → accounting k = false → t.eng.i k = s.eng.i k) ∧ s.eng.onlyObjects t.eng) ∧
    ∀ (owner : Bool) (slot : Fin 1024) (value : Nat),
      (owner = false → s.eng.admits (Od.PK_DATA slot) value roles = true) →
      ((owner ↔ (pkRegion slot).2.2 ≠ 1) → s.eng.pkInUse slot = false →
        ∃ t, exec (.pkDataWrite owner slot value roles) s = .next t ∧ s.beside t ∧
          t.eng.pkVal slot = value % 2 ^ (64 * s.eng.pkLen slot) ∧ t.eng.i (Od.PK_SLOT.dirty slot) = 0) ∧
      (¬(owner ↔ (pkRegion slot).2.2 ≠ 1) →
        ∃ t, exec (.pkDataWrite owner slot value roles) s = .next t ∧ s.beside t ∧ t.eng.pk = s.eng.pk)

/-! ## The host interface (spec/16_host_interface.md) -/

/-- The rings: an enable starts a disabled ring whose memory is aligned, a disable ends it; a doorbell moves the producer index no
further than the ring's size, a wrong one is counted, and an acknowledgement moves its index; a held frame leaves its port for the ring's
buffers and is counted; a frame's descriptors are taken for the wire or for their launch time; and a transfer that times out stops its
ring, with source 2 of block 15's latch. Rules: R328, R330, R332, R334, R335, R342. -/
def Obligations.RingsStartMoveAndStop : Prop :=
  ∀ (s : State) (ring : Fin 128), s.eng.up = true →
    (∀ (tx : Bool) (roles : Nat) (k : Key), k = (if tx then Od.TX_RING_CFG.enable ring else Od.RX_RING_CFG.enable ring) →
      (tx = false → s.eng.fwRing ring = false) →
      let state (e : Eng) : RingState := if tx then (e.txRing ring).state else (e.rxRing ring).state
      (s.eng.admits k 1 roles = true → state s.eng = .disabled → s.eng.ringOk tx ring = true →
        ∃ t, exec (.ringEnable tx ring roles) s = .next t ∧ s.stored t [(k, 1)] ∧ state t.eng = .running) ∧
      ∀ posted : List Nat, s.eng.admits k 0 roles = true →
        ∃ t, exec (.ringDisable tx ring posted roles) s = .next t ∧ s.accepted t ∧ t.eng.i k = 0 ∧ state t.eng = .disabled) ∧
    (∀ value : Nat, s.eng.irq.link = true →
      let g := s.eng.txRing ring
      let h := s.eng.rxRing ring
      (prodOk (2 ^ s.eng.n (Od.TX_RING_CFG.size_log2 ring)) g.prod g.cons (value % 2 ^ 32) = true →
        ∃ t, exec (.doorbellProd true ring value) s = .next t ∧ s.beside t ∧ t.eng.od = s.eng.od ∧
          t.eng.txRing ring = { g with prod := value % 2 ^ 32 }) ∧
      (prodOk (2 ^ s.eng.n (Od.TX_RING_CFG.size_log2 ring)) g.prod g.cons (value % 2 ^ 32) = false →
        ∃ t, exec (.doorbellProd true ring value) s = .next t ∧ s.beside t ∧ t.eng.txRing ring = g ∧
          t.eng.n (Od.TX_RING_STATUS.doorbell_err ring) = (s.eng.n (Od.TX_RING_STATUS.doorbell_err ring) + 1) % 2 ^ 32) ∧
      (s.eng.fwRing ring = false → prodOk (2 ^ s.eng.n (Od.RX_RING_CFG.size_log2 ring)) h.prod h.cons (value % 2 ^ 32) = true →
        ∃ t, exec (.doorbellProd false ring value) s = .next t ∧ s.beside t ∧ t.eng.od = s.eng.od ∧
          t.eng.rxRing ring = { h with prod := value % 2 ^ 32 }) ∧
      (s.eng.fwRing ring = false → prodOk (2 ^ s.eng.n (Od.RX_RING_CFG.size_log2 ring)) h.prod h.cons (value % 2 ^ 32) = false →
        ∃ t, exec (.doorbellProd false ring value) s = .next t ∧ s.beside t ∧ t.eng.rxRing ring = h ∧
          t.eng.n (Od.RX_RING_STATUS.doorbell_err ring) = (s.eng.n (Od.RX_RING_STATUS.doorbell_err ring) + 1) % 2 ^ 32) ∧
      (∃ t, exec (.doorbellAck true ring value) s = .next t ∧ s.beside t ∧ t.eng.od = s.eng.od ∧
        t.eng.txRing ring = { g with ack := value % 2 ^ 32 }) ∧
      (s.eng.fwRing ring = false →
        ∃ t, exec (.doorbellAck false ring value) s = .next t ∧ s.beside t ∧ t.eng.od = s.eng.od ∧
          t.eng.rxRing ring = { h with ack := value % 2 ^ 32 })) ∧
    (∀ (port : Fin 32) (bufs : List Nat) (f : HeldFrame) (rest : List HeldFrame) (n : Nat), (s.eng.port port).rxHeld = f :: rest →
      f.ring = ring.val → s.eng.fwRing ring = false → (s.eng.rxRing ring).state = .running →
      n = min (max 1 (ceilDiv f.bytes.length (s.eng.n (Od.RX_RING_CFG.buf_size ring))))
        (((s.eng.rxRing ring).prod + 2 ^ 32 - (s.eng.rxRing ring).cons) % 2 ^ 32) → n ≠ 0 →
      (∀ a ∈ bufs.take n, a % 64 = 0) →
      ∃ t, exec (.rxFrameDeliver port bufs) s = .next t ∧ s.beside t ∧ (t.eng.port port).rxHeld = rest ∧
        (t.eng.rxRing ring).cons = ((s.eng.rxRing ring).cons + n) % 2 ^ 32 ∧
        t.eng.n (Od.RX_RING_STATUS.frames ring) = (s.eng.n (Od.RX_RING_STATUS.frames ring) + 1) % 2 ^ 64) ∧
    (∀ (descs ds more : List TxDesc) (d l : TxDesc), ds = txFrameOf descs → ds = d :: more → ds.getLast? = some l → l.word3 % 2 = 1 →
      (s.eng.txRing ring).state = .running → s.eng.irq.link = true → (s.eng.txRing ring).launch = none →
      ds.length ≤ ((s.eng.txRing ring).prod + 2 ^ 32 - (s.eng.txRing ring).taken) % 2 ^ 32 →
      let port := d.word3 / 2 ^ 24 % 256
      let bytes := txBytes ds
      let first := (s.eng.txRing ring).taken
      (s.eng.txReject ds port (bitOf d.word3 1) bytes = none →
        ∃ t, exec (.txDescTake ring descs false) s = .next t ∧ s.beside t ∧ t.eng.od = s.eng.od ∧
          (t.eng.txRing ring).taken = (first + ds.length) % 2 ^ 32 ∧
          (bitOf d.word3 1 = true →
            (t.eng.txRing ring).launch = some ⟨port, bytes, d.lt % 2 ^ 64, d.slack, d.tag, first, none⟩) ∧
          (bitOf d.word3 1 = false → ∃ prio, (t.eng.txRing ring).waiting =
            (s.eng.txRing ring).waiting ++ [(port, first, ⟨some ring.val, bytes, prio, false⟩)])) ∧
      ∃ t, exec (.txDescTake ring descs true) s = .next t ∧ s.beside t ∧ (t.eng.txRing ring).state = .stopped ∧
        t.eng.n (Od.FLT_BLOCK.latch 15) = s.eng.n (Od.FLT_BLOCK.latch 15) ||| 4) ∧
    (s.eng.irq.link = true → (s.eng.txRing ring).state = .running → (s.eng.txRing ring).prod ≠ (s.eng.txRing ring).taken →
      ∃ t, exec (.dmaTimeout true ring) s = .next t ∧ s.beside t ∧ (t.eng.txRing ring).state = .stopped ∧ (t.eng.txRing ring).err = 1 ∧
        t.eng.n (Od.FLT_BLOCK.latch 15) = s.eng.n (Od.FLT_BLOCK.latch 15) ||| 4) ∧
    (s.eng.irq.link = true → s.eng.fwRing ring = false → (s.eng.rxRing ring).state = .running →
      (s.eng.rxRing ring).prod ≠ (s.eng.rxRing ring).cons →
      ∃ t, exec (.dmaTimeout false ring) s = .next t ∧ s.beside t ∧ (t.eng.rxRing ring).state = .stopped ∧ (t.eng.rxRing ring).err = 1 ∧
        t.eng.n (Od.FLT_BLOCK.latch 15) = s.eng.n (Od.FLT_BLOCK.latch 15) ||| 4)

/-- The PCI Express link's loss stops the host's rings and is a condition of block 15 until it is up again; a function reset disables
them and empties the host's queues. A vector that is armed, unmasked and past its holdoff sends its message when a source of it waits; a
mask keeps it pending. Sources are cleared by their bits, and the Tail queues and the windows by their writes. Rules: R324, R326, R335,
R336, R339, R341. -/
def Obligations.HostLinkInterruptsTailsAndWindows : Prop :=
  ∀ (s : State), s.eng.up = true →
    (s.eng.irq.link = true →
      (∃ t, exec .pcieLinkDown s = .next t ∧ s.beside t ∧ t.eng.irq.link = false ∧ t.eng.hasCond 15 6 0 = true ∧
        t.eng.i Od.HOST_STATUS.link_width = 0 ∧ t.eng.n Od.HOST_STATUS.sticky = s.eng.n Od.HOST_STATUS.sticky ||| 1 ∧
        ∀ r : Fin 128, (t.eng.txRing r).state = .stopped ∧ (s.eng.fwRing r = false → (t.eng.rxRing r).state = .stopped)) ∧
      ∀ posted : List (Nat × List Nat), ∃ t, exec (.functionLevelReset posted) s = .next t ∧ s.beside t ∧
        t.eng.irq.armed = 2 ^ 64 - 1 ∧ t.eng.irq.masked = 2 ^ 64 - 1 ∧ t.eng.irq.pba = 0 ∧ t.eng.wins = List.replicate 8 WinCtx.atReset ∧
        t.eng.n Od.HOST_STATUS.flr_count = (s.eng.n Od.HOST_STATUS.flr_count + 1) % 2 ^ 32 ∧
        (∀ r : Fin 128, (t.eng.txRing r).state = .disabled ∧ (s.eng.fwRing r = false → (t.eng.rxRing r).state = .disabled)) ∧
        ∀ p : Fin 32, (t.eng.tail p).entries = []) ∧
    (∀ width rate : Nat, ∃ t, exec (.pcieLinkUp width rate) s = .next t ∧ s.beside t ∧ t.eng.irq.link = true ∧
      t.eng.hasCond 15 6 0 = false ∧ t.eng.n Od.HOST_STATUS.link_width = min width 8 ∧
      t.eng.n Od.HOST_STATUS.link_rate_gts = min rate 32) ∧
    (∀ mask : Nat, s.eng.irq.link = true → (∀ v : Fin 64, s.eng.vecPending v = false) →
      ∃ t, exec (.vecArmWrite mask) s = .next t ∧ s.beside t ∧
        t.eng = { s.eng with out := [], irq := { s.eng.irq with armed := s.eng.irq.armed ||| mask % 2 ^ 64 } }) ∧
    (∀ vector : Fin 64, s.eng.vecPending vector = true → s.eng.vecReady s.ctx vector = true →
      (bitOf s.eng.irq.masked vector = false →
        ∃ t, exec (.vecHoldoffEnd vector) s = .next t ∧ s.beside t ∧ t.eng.out = [.msix vector] ∧ bitOf t.eng.irq.armed vector = false ∧
          t.eng.od = s.eng.od) ∧
      (bitOf s.eng.irq.masked vector = true →
        ∃ t, exec (.vecHoldoffEnd vector) s = .next t ∧ s.beside t ∧ t.eng.out = [] ∧ bitOf t.eng.irq.pba vector = true ∧
          t.eng.od = s.eng.od)) ∧
    (∀ (vector : Fin 64) (masked : Bool), s.eng.irq.link = true →
      ∃ t, exec (.msixMaskWrite vector masked) s = .next t ∧ s.beside t ∧ bitOf t.eng.irq.masked vector = masked ∧ t.eng.od = s.eng.od) ∧
    (∀ mask roles : Nat, s.eng.admits Od.HOST_IRQ_PENDING mask roles = true → (∀ p ∈ s.eng.irq.latchTick, p.2 ≠ s.core.tick) →
      ∃ t, exec (.irqPendingClear mask roles) s = .next t ∧ s.accepted t ∧
        t.eng.irq = { s.eng.irq with latched := clearBits s.eng.irq.latched mask }) ∧
    (∀ (port : Fin 32) (value : Nat), s.eng.irq.link = true →
      (∃ t, exec (.tailPop port value) s = .next t ∧ s.beside t ∧ t.eng.od = s.eng.od ∧
        (t.eng.tail port).entries = (s.eng.tail port).entries.drop (value % 128)) ∧
      ((s.eng.tail port).overflowTick ≠ s.core.tick →
        ∃ t, exec (.tailOverflowClear port) s = .next t ∧ s.beside t ∧ t.eng.od = s.eng.od ∧ (t.eng.tail port).overflow = false ∧
          (t.eng.tail port).entries = (s.eng.tail port).entries)) ∧
    ∀ (ctx : Fin 8), s.eng.irq.link = true → s.eng.wins.length = 8 →
      (∀ n : Nat, (s.eng.win ctx).state ≠ 1 →
        ∃ t, exec (.windowRequestWrite ctx (.reqLen n)) s = .next t ∧ s.beside t ∧
          t.eng.win ctx = { s.eng.win ctx with reqLen := n % 65536 }) ∧
      (∀ w : WindowWrite, (s.eng.win ctx).state = 1 →
        ∃ t, exec (.windowRequestWrite ctx w) s = .next t ∧ s.beside t ∧ t.eng.wins = s.eng.wins ∧
          t.eng.n Od.HOST_STATUS.window_err = (s.eng.n Od.HOST_STATUS.window_err + 1) % 2 ^ 32) ∧
      (s.eng.b Od.HOST_DICT.enable = true → (s.eng.win ctx).state ≠ 1 → 1 ≤ (s.eng.win ctx).reqLen → (s.eng.win ctx).reqLen ≤ 1452 →
        s.eng.boot.creds = true →
        ∃ t, exec (.windowDoorbell ctx 1) s = .next t ∧ s.beside t ∧ (t.eng.win ctx).state = 1 ∧ t.eng.od = s.eng.od ∧
          ∃ a, t.eng.inbox = s.eng.inbox ++ [a] ∧ a.path = .window ctx ∧ a.tick = s.core.tick ∧
            a.bytes = (padTo 1536 (s.eng.win ctx).request).take (s.eng.win ctx).reqLen) ∧
      (s.eng.b Od.HOST_DICT.enable = false → (s.eng.win ctx).state ≠ 1 →
        ∃ t, exec (.windowDoorbell ctx 1) s = .next t ∧ s.beside t ∧ (t.eng.win ctx).state = 3 ∧ (t.eng.win ctx).cause = 6)

/-! ## Counters (spec/19_counters.md) -/

/-- A capture of a page keeps its 64 values at one tick under the page's next sequence number and latches source 227; a view does the
same of a page its mask lets users see, and a page taken out of the mask is emptied. A window's close keeps its count and opens the next;
its next event is stored. An occupancy counter's record is stored where its source allows it, and its peak is cleared. The wrap bits of a
page are cleared by their bits. Rules: R340, R385, R386, R387, R388, R392. -/
def Obligations.CountersAreCapturedAndWindowed : Prop :=
  ∀ (s : State) (roles : Nat), s.eng.up = true →
    (∀ page : Fin 64, s.eng.irq.link = true → page.val ≤ 50 →
      ∃ t, exec (.counterPageSnap page) s = .next t ∧ s.beside t ∧
        tget t.eng.ctr.pages page = some (s.eng.capture s.ctx page (tgetD s.eng.ctr.pages page PageSnap.zero)) ∧
        t.eng.n Od.CNT_CTRL.last_snap_tick = s.core.tick ∧ t.eng.irq.latched = s.eng.irq.latched ||| 2 ^ 227) ∧
    (∀ (page : Fin 64) (mask : Nat), s.eng.irq.link = true → page.val ≤ 50 → page.val ≠ 49 →
      ∃ t, exec (.wrapClear page mask) s = .next t ∧ s.beside t ∧ t.eng.od = s.eng.od ∧
        ∀ i : Fin 64, bitOf (t.eng.pageWrap page) i =
          (bitOf (s.eng.pageWrap page) i && (!bitOf mask i || s.eng.wrapsNow s.core.tick page i))) ∧
    (∀ mask : Nat, s.eng.admits Od.CNT_CTRL.snap_mask mask roles = true →
      ∃ t, exec (.snapMaskWrite mask roles) s = .next t ∧ s.accepted t ∧
        ∀ page : Fin 51, bitOf mask page = true →
          (tgetD t.eng.ctr.pages page PageSnap.zero).tick = s.core.tick ∧
          (tgetD t.eng.ctr.pages page PageSnap.zero).sequence = ((tgetD s.eng.ctr.pages page PageSnap.zero).sequence + 1) % 2 ^ 32) ∧
    (∀ window : Fin 64, s.eng.admits (Od.CNT_WIN.close window) 1 roles = true → s.eng.n (Od.CNT_WIN.windows window) = 0 ∨
        s.eng.n (Od.CNT_WIN.close_tick window) ≠ s.core.tick →
      ∃ t, exec (.cntWinClose window 1 roles) s = .next t ∧ s.accepted t ∧
        t.eng.n (Od.CNT_WIN.last window) = (s.eng.winCtr window).value s.core.tick ∧
        t.eng.n (Od.CNT_WIN.close_tick window) = s.core.tick ∧ t.eng.n (Od.CNT_WIN.open_tick window) = s.core.tick ∧
        t.eng.i (Od.CNT_WIN.last_open window) = s.eng.i (Od.CNT_WIN.open_tick window) ∧
        t.eng.n (Od.CNT_WIN.windows window) = (s.eng.n (Od.CNT_WIN.windows window) + 1) % 2 ^ 32) ∧
    (∀ (window : Fin 64) (value : Nat), s.eng.admits (Od.CNT_WIN.event window) value roles = true →
      (value ≤ 0xBFF ∨ value = 0xFFFF →
        ∃ t, exec (.cntWinEventWrite window value roles) s = .next t ∧ s.stored t [(Od.CNT_WIN.event window, value)] ∧
          s.eng.onlyObjects t.eng) ∧
      (0xBFF < value → value ≠ 0xFFFF →
        ∃ t, exec (.cntWinEventWrite window value roles) s = .next t ∧ t.eng.resp.status = stRange ∧
          t.eng.i (Od.CNT_WIN.event window) = s.eng.i (Od.CNT_WIN.event window) ∧ s.eng.onlyObjects t.eng ∧ s.beside t)) ∧
    (∀ (occ : Fin 16) (w : RecWrite) (vs : List (Key × Int)) (r : Nat × Nat), vs = recValues 0x68 (0x140 + occ) w →
      s.eng.admitsRec 0x68 (0x140 + occ) w roles = true →
      let f := s.eng.setAll vs
      occRange (f.n (Od.CNT_OCC.source occ)) = some r → f.n (Od.CNT_OCC.instance_ occ) < r.1 →
      1 ≤ f.n (Od.CNT_OCC.threshold occ) → f.n (Od.CNT_OCC.threshold occ) ≤ r.2 →
      ∃ t, exec (.cntOccWrite occ w roles) s = .next t ∧ s.accepted t ∧
        (∀ p ∈ vs, p.1 ≠ Od.CNT_OCC.peak_clear occ → t.eng.i p.1 = p.2)) ∧
    (∀ occ : Fin 16, s.eng.admits (Od.CNT_OCC.peak_clear occ) 1 roles = true →
      ∃ t, exec (.peakClear occ 1 roles) s = .next t ∧ s.wrote t [(Od.CNT_OCC.peak occ, 0)]) ∧
    (∀ page : Fin 50, s.eng.irq.link = true → bitOf (s.eng.n Od.CNT_USER.mask) page = true →
      ∃ t, exec (.userViewSnap page) s = .next t ∧ s.beside t ∧ t.eng.od = s.eng.od ∧
        tget t.eng.ctr.views page = some (s.eng.capture s.ctx page (tgetD s.eng.ctr.views page PageSnap.zero))) ∧
    ∀ mask : Nat, s.eng.admits Od.CNT_USER.mask mask roles = true →
      ∃ t, exec (.cntUserMaskWrite mask roles) s = .next t ∧ s.stored t [(Od.CNT_USER.mask, mask)] ∧
        ∀ page : Fin 50, bitOf (s.eng.n Od.CNT_USER.mask) page = true → bitOf mask page = false →
          (tgetD t.eng.ctr.views page PageSnap.zero).values = []

/-! ## The dictionary and the front end (spec/17_dictionary.md) -/

/-- A read that is not refused answers at once with the object's bytes, or joins the firmware's reads where the object is the firmware's;
a write or a timed write that passes its checks joins the queue of 64 with the instant it came, and is BUSY where the queue is full. The
write at the queue's head is drained: it is applied, and its status is the answer. A request that arrived is taken once: a malformed one
is counted, an authenticated one with a new counter shows its credential's use. Parts, held responses and the firmware's reads end.
Rules: R344, R352, R353, R367, R370, R372, R374, R375. -/
def Obligations.RequestsAreTakenQueuedAndDrained : Prop :=
  ∀ (s : State), s.eng.up = true →
    (∀ (area im offset length roles : Nat) (k : Key), k = area % 256 * 65536 + im % 65536 →
      (s.eng.judgeRead k offset length roles = stOk → (objRows k).any (fun r => r.fw) = false →
        ∃ t, exec (.read area im offset length roles) s = .next t ∧ s.beside t ∧
          t.eng = { s.eng with out := [], resp := ⟨stOk, s.core.tick, 0, s.eng.readBytes s.ctx k offset length⟩ }) ∧
      (s.eng.judgeRead k offset length roles = stOk → (objRows k).any (fun r => r.fw) = true → s.eng.front.fwQueue.length < 16 →
        ∃ t, exec (.read area im offset length roles) s = .next t ∧ s.beside t ∧
          t.eng = { s.eng with
            out := [], front := { s.eng.front with fwQueue := s.eng.front.fwQueue ++ [⟨none, k, offset, length, none⟩] } }) ∧
      (s.eng.judgeRead k offset length roles ≠ stOk →
        ∃ t, exec (.read area im offset length roles) s = .next t ∧ s.beside t ∧ s.eng.onlyObjects t.eng ∧
          t.eng.resp.status = s.eng.judgeRead k offset length roles ∧ t.eng.resp.data = [])) ∧
    (∀ (area im offset : Nat) (bytes : Bytes) (roles : Nat) (k : Key), k = area % 256 * 65536 + im % 65536 →
      s.eng.judgeWrite k offset bytes roles = stOk →
      (s.eng.front.queue.length < 64 →
        ∃ t, exec (.write area im offset bytes roles) s = .next t ∧ s.beside t ∧
          t.eng.front.queue = s.eng.front.queue ++ [⟨none, k, offset, bytes, roles, none, s.ctx.st 0⟩] ∧
          ∀ j, j ≠ Od.DICT_STATUS.queue_peak → j ≠ Od.DICT_STATUS.sticky → t.eng.i j = s.eng.i j) ∧
      (64 ≤ s.eng.front.queue.length →
        ∃ t, exec (.write area im offset bytes roles) s = .next t ∧ s.beside t ∧ t.eng.resp.status = stBusy ∧
          t.eng.front = s.eng.front)) ∧
    (∀ (area im : Nat) (bytes : Bytes) (roles : Nat) (entry : Key), 13 ≤ bytes.length → bytes.length ≤ 24 →
      leNat (bytes.take 2) ≤ 1023 → byteAt bytes 3 = 0 → entry = odKey 0x14 (0x400 + leNat (bytes.take 2)) 0 →
      s.eng.judgeBytes entry (timedEntry (area % 256 * 65536 + im % 65536) bytes) roles = stOk → s.eng.front.queue.length < 64 →
      ∃ t, exec (.timedWrite area im bytes roles) s = .next t ∧ s.beside t ∧ t.eng.front.queue = s.eng.front.queue ++
        [⟨none, entry, 0, timedEntry (area % 256 * 65536 + im % 65536) bytes, roles, none, s.ctx.st 0⟩]) ∧
    (∀ (w : QueuedWrite) (rest : List QueuedWrite) (a : WriteRes), s.eng.served = true → s.eng.front.queue = w :: rest →
      a = (s.eng0.popWrite s.ctx rest).applyQueued s.ctx w → a.2.boot.warmAsked = false → a.2.boot.rollbackTo = none →
      ∃ t, exec .writeQueueDrain s = .next t ∧ s.beside t ∧ t.eng.resp.status = a.1 ∧ t.eng.front.queue = a.2.front.queue ∧
        ∀ k, Key.area k ≠ 0x60 → accounting k = false → t.eng.i k = a.2.i k) ∧
    (∀ (area im : Nat) (bytes : Bytes) (roles : Nat) (k : Key) (a : WriteRes), k = area % 256 * 65536 + im % 65536 →
      objSize k ≤ 1024 → a = s.eng0.step8Bytes s.ctx k bytes roles →
      (s.eng.judgeBytes k bytes roles = stOk → a.2.boot.warmAsked = false → a.2.boot.rollbackTo = none →
        ∃ t, exec (.dictObjectWrite area im bytes roles) s = .next t ∧ s.beside t ∧ t.eng.resp.status = a.1 ∧
          ∀ j, accounting j = false → t.eng.i j = a.2.i j) ∧
      (s.eng.judgeBytes k bytes roles ≠ stOk → s.eng.boot.warmAsked = false → s.eng.boot.rollbackTo = none →
        ∃ t, exec (.dictObjectWrite area im bytes roles) s = .next t ∧ s.beside t ∧
          t.eng.resp.status = s.eng.judgeBytes k bytes roles ∧ ∀ j, accounting j = false → t.eng.i j = s.eng.i j)) ∧
    (∀ (i : Nat) (a : Arrived), s.eng.nextArrival = some (i, a) →
      (pduOf a.path a.bytes = none →
        ∃ t, exec .lanithRequest s = .next t ∧ s.beside t ∧ t.eng.inbox = s.eng.inbox.eraseIdx i ∧
          t.eng.seen 0xB0A = (s.eng.seen 0xB0A + 1) % 2 ^ 48) ∧
      ∀ (p : Bytes) (ops : List ReqOp) (c : Fin 32) (roles : Nat) (key : Bytes), pduOf a.path a.bytes = some p →
        requestOps p = some ops → a.who = some (c.val, roles, key) → tagOk p key = true →
        0 < signed 32 (leNat (slice p 12 4) + 2 ^ 32 - (s.eng.credUnit c).h) →
        ∃ t, exec .lanithRequest s = .next t ∧ s.beside t ∧ t.eng.inbox = s.eng.inbox.eraseIdx i ∧
          t.eng.n (Od.CRED.last_use_tick c) = s.core.tick) ∧
    (∀ (area im : Nat) (g : Staging), tget s.eng.front.stages (area % 256 * 65536 + im % 65536) = some g →
      s.ctx.passed g.at_ tenSeconds = true →
      (∀ w ∈ s.eng.front.queue, w.key ≠ area % 256 * 65536 + im % 65536) →
      ∃ t, exec (.partStagingTimeout area im) s = .next t ∧ s.beside t ∧ t.eng.od = s.eng.od ∧
        tget t.eng.front.stages (area % 256 * 65536 + im % 65536) = none) ∧
    (∀ cred : Fin 32, ∃ t, exec (.responseHoldExpiry cred) s = .next t ∧ s.beside t ∧ t.eng.od = s.eng.od ∧
      ∀ h ∈ (t.eng.credUnit cred).held, h ∈ (s.eng.credUnit cred).held ∧ s.ctx.passed h.at_ (2 * unitsPerSec) = false) ∧
    ∀ (q : FwRead) (rest : List FwRead), s.eng.served = true → s.eng.front.fwQueue = q :: rest →
      ∃ t, exec .fwReadDone s = .next t ∧ s.beside t ∧ t.eng.front.fwQueue = rest ∧ (∀ k, accounting k = false → t.eng.i k = s.eng.i k) ∧
        t.eng.resp = ⟨stOk, s.core.tick, 0, s.eng.readBytes s.ctx q.key q.offset q.length⟩

/-- A credential's record is stored where its key number is its own, its key fits and a keyholder is left. A save takes the persistent
objects of its instant to the other copy of the store, one at a time; a failed one is source 3 of block 16's latch; the factory defaults
make both copies invalid. A chunk of the description is chosen by its number, and a number beyond the last is refused. The load's window shows the firmware's use, and sheds.
Rules: R348, R356, R357, R359, R360. -/
def Obligations.CredentialsStoreAndLoadAreKept : Prop :=
  ∀ (s : State) (roles : Nat), s.eng.up = true →
    (∀ (cred : Fin 32) (w : RecWrite) (vs : List (Key × Int)), vs = recValues 0x60 (0x010 + cred) w →
      s.eng.admitsRec 0x60 (0x010 + cred) w roles = true →
      let f := s.eng.setAll vs
      credClash f.od cred = false → (f.b (Od.CRED.enable cred) = true → (f.credKey cred).isSome = true) → hasKeyholder f.od = true →
      ∃ t, exec (.credWrite cred w roles) s = .next t ∧ s.stored t vs ∧ t.eng.keyWait.since.isSome = true) ∧
    (s.eng.admits Od.STORE.command 1 roles = true →
      (s.eng.front.save = none →
        ∃ t, exec (.save roles) s = .next t ∧ s.wrote { t with eng := { t.eng with front := s.eng.front } } [(Od.STORE.unsaved, 0)] ∧
          ∃ run, t.eng.front = { s.eng.front with save := some run } ∧ run.values = s.eng.persistent ∧ run.tick = s.core.tick) ∧
      (s.eng.front.save.isSome = true →
        ∃ t, exec (.save roles) s = .next t ∧ t.eng.resp.status = stSaving ∧ s.eng.onlyObjects t.eng ∧ s.beside t)) ∧
    (s.eng.admits Od.STORE.command 2 roles = true →
      ∃ t, exec (.factoryDefaults roles) s = .next t ∧ s.accepted t ∧ ∀ c ∈ t.eng.flash.stores, c.valid = false) ∧
    (∀ run : SaveRun, s.eng.front.save = some run →
      (∃ t, exec (.storeSaveDone true) s = .next t ∧ s.beside t ∧ t.eng.front.save = none ∧ t.eng.front.lastCopy = some run.copy ∧
        t.eng.flash = { s.eng.flash with stores := setNth s.eng.flash.stores run.copy ⟨true, run.generation, run.values⟩ } ∧
        t.eng.i Od.STORE.last_result = 1 ∧ t.eng.n Od.STORE.last_save_tick = run.tick ∧
        t.eng.n Od.STORE.generation = run.generation) ∧
      ∃ t, exec (.storeSaveDone false) s = .next t ∧ s.beside t ∧ t.eng.front.save = none ∧ t.eng.i Od.STORE.last_result = 2 ∧
        t.eng.n (Od.FLT_BLOCK.latch 16) = s.eng.n (Od.FLT_BLOCK.latch 16) ||| 8) ∧
    (∀ index : Nat, s.eng.admits Od.DESC.chunk_index index roles = true →
      ∃ t, exec (.descChunkSelect index roles) s = .next t ∧ s.beside t ∧ s.eng.onlyObjects t.eng ∧
        (index < ceilDiv (Config.descSize s.eng.image.fwVersion) 1024 → s.wrote t [(Od.DESC.chunk_index, index)]) ∧
        (ceilDiv (Config.descSize s.eng.image.fwVersion) 1024 ≤ index →
          t.eng.resp.status = stRange ∧ t.eng.i Od.DESC.chunk_index = s.eng.i Od.DESC.chunk_index)) ∧
    ∀ util : Nat, s.eng.fwRuns = true →
      ∃ t, exec (.loadWindow util) s = .next t ∧ s.beside t ∧ t.eng.n Od.MGMT_LOAD.util_pct = min util 100 ∧
        (s.eng.n Od.MGMT_LOAD.log_delay_pct ≤ util → s.eng.n Od.MGMT_LOAD.stage ≤ 2 →
          t.eng.n Od.MGMT_LOAD.stage = 2 ∧ t.eng.i Od.NTS_KE_STATUS.shedding = 1)

/-! ## The management segment (spec/18_management_segment.md) -/

/-- A frame received on the segment is counted, and one of another type counted as such; a publication of another member is kept as its
sibling's state. A publication leaves once a second. A transmission that collides backs off, one that collides late is dropped; its
backoff ends in a new attempt; a transmit opportunity starts the frame that waits. The link's loss drops what is being sent, and is a
condition until it is up. Rules: R364, R365, R366, R376, R377, R380. -/
def Obligations.TheSegmentSendsAndReceives : Prop :=
  ∀ (s : State), s.eng.up = true →
    (∀ frame : Bytes, s.eng.seg.link = true →
      ∃ t, exec (.segmentFrameRx frame) s = .next t ∧ s.beside t ∧ t.eng.seen 0xB00 = (s.eng.seen 0xB00 + 1) % 2 ^ 48 ∧
        (beAt frame 12 2 ≠ s.eng.n Od.SEG.ethertype → t.eng.seen 0xB06 = (s.eng.seen 0xB06 + 1) % 2 ^ 48 ∧ t.eng.inbox = s.eng.inbox) ∧
        (beAt frame 12 2 = s.eng.n Od.SEG.ethertype → beAt frame 0 6 = s.ctx.segMac → s.eng.boot.creds = true →
          ∃ a, t.eng.inbox = s.eng.inbox ++ [a] ∧ a.path = .segment (beAt frame 6 6) ∧ a.bytes = frame.drop 14)) ∧
    (∀ (i : Nat) (a : Arrived), s.eng.nextPub = some (i, a) →
      (pduOf a.path a.bytes = none →
        ∃ t, exec .publishRx s = .next t ∧ s.beside t ∧ t.eng.inbox = s.eng.inbox.eraseIdx i ∧
          t.eng.seen 0xB0A = (s.eng.seen 0xB0A + 1) % 2 ^ 48) ∧
      ∀ (p : Bytes) (c roles : Nat) (key : Bytes), pduOf a.path a.bytes = some p → a.who = some (c, roles, key) →
        bitOf roles 2 = true → tagOk p key = true → 56 ≤ p.length → byteAt p 16 ≠ s.eng.n Od.SEG.member →
        s.eng.pubAhead s.ctx (byteAt p 16) (leNat (slice p 12 4)) = true →
        ∃ t, exec .publishRx s = .next t ∧ s.beside t ∧ t.eng.inbox = s.eng.inbox.eraseIdx i ∧
          tget t.eng.sibs (byteAt p 16) = some ⟨byteAt p 17, signed 64 (leNat (slice p 24 8)), byteAt p 19, s.ctx.st 0⟩ ∧
          t.eng.seen 0xB0C = (s.eng.seen 0xB0C + 1) % 2 ^ 48) ∧
    (s.eng.pubDue s.ctx = true →
      ∃ t, exec .publishSend s = .next t ∧ s.beside t ∧ t.eng.seg.pubSecond = s.ctx.lin 0 / unitsPerSec ∧ t.eng.seg.tx = s.eng.seg.tx ∧
        ∀ c : Nat, s.eng.boot.recovery = false → s.eng.b Od.SEG.publish = true → s.eng.pubCred = some c →
          s.eng.seg.txFirst.length + s.eng.seg.tx.length < 32 →
          t.eng.seg.pubSeq = (s.eng.seg.pubSeq + 1) % 2 ^ 32 ∧ t.eng.seen 0xB0B = (s.eng.seen 0xB0B + 1) % 2 ^ 48 ∧
          ∃ p, t.eng.seg.txFirst = s.eng.seg.txFirst ++ [p]) ∧
    (∀ (since : Nat) (frame : Bytes), s.eng.b Od.SEG.plca_enable = false → s.eng.seg.sending = some (since, frame) →
      s.eng.seg.backoff = none →
      (s.core.tick - since ≤ 51200 → s.eng.seg.collisions + 1 ≠ 16 →
        ∃ t, exec .collision s = .next t ∧ s.beside t ∧ t.eng.seg.collisions = s.eng.seg.collisions + 1 ∧
          t.eng.seen 0xB02 = (s.eng.seen 0xB02 + 1) % 2 ^ 48 ∧ ∃ at_, t.eng.seg.backoff = some at_ ∧ s.core.tick ≤ at_) ∧
      (51200 < s.core.tick - since →
        ∃ t, exec .collision s = .next t ∧ s.beside t ∧ t.eng.seg.sending = none ∧
          t.eng.seen 0xB04 = (s.eng.seen 0xB04 + 1) % 2 ^ 48)) ∧
    (∀ (at_ since : Nat) (frame : Bytes), s.eng.seg.backoff = some at_ → at_ ≤ s.core.tick → s.eng.seg.sending = some (since, frame) →
      ∃ t, exec .backoffEnd s = .next t ∧ s.beside t ∧
        t.eng = { s.eng with out := [], seg := { s.eng.seg with sending := some (s.core.tick, frame), backoff := none } }) ∧
    (∀ (p : Bytes) (rest : List Bytes), s.eng.b Od.SEG.plca_enable = true → s.eng.n Od.SEG.plca_node_id < 16 → s.eng.seg.link = true →
      s.eng.seg.backoff = none → s.eng.seg.sending = none → s.eng.seg.txFirst = p :: rest →
      ∃ t, exec .plcaTxOpportunity s = .next t ∧ s.beside t ∧ t.eng.seg.txFirst = rest ∧ t.eng.seg.tx = s.eng.seg.tx ∧
        t.eng.seg.sending = some (s.core.tick, s.eng.segFrame s.ctx stationMac p)) ∧
    (∃ t, exec .segmentLinkLoss s = .next t ∧ s.beside t ∧ t.eng.seg.link = false ∧ t.eng.seg.sending = none ∧
      t.eng.hasCond 16 2 0 = true) ∧
    ∃ t, exec .segmentLinkUp s = .next t ∧ s.beside t ∧ t.eng.seg.link = true ∧ t.eng.seg.sending = s.eng.seg.sending ∧
      t.eng.hasCond 16 2 0 = false

/-! ## Faults and Eclipse (spec/20_faults_eclipse.md) -/

/-- A fault is forced while a test window is open, a fatal one always: its sources' latch bits are set. A rearm clears the first record
of a block in which nothing is detected at that tick, and its latch is cleared by its bits. A test window opens for its seconds, closes
and expires. A self-check that finds an unchecked row counts it; the scrubbers count their words, and one that is late is source 2 of
block 23. Rules: R400, R402, R404, R405, R406, R407. -/
def Obligations.FaultsAreForcedClearedAndTested : Prop :=
  ∀ (s : State) (roles : Nat), s.eng.up = true →
    (∀ (block : Fin 24) (value : Nat), s.eng.admits (Od.FLT_BLOCK.force block) value roles = true →
      (value / 16 % 4 = 3 ∨ s.eng.testOpen s.ctx = true → value / 16 % 4 ≠ 0 → value % 16 ≠ 0 →
        ∃ t, exec (.faultForce block value roles) s = .next t ∧ s.accepted t ∧
          t.eng.n (Od.FLT_BLOCK.latch block) = s.eng.n (Od.FLT_BLOCK.latch block) ||| value % 16) ∧
      (value / 16 % 4 = 1 ∨ value / 16 % 4 = 2 → value % 16 ≠ 0 → s.eng.testOpen s.ctx = false →
        ∃ t, exec (.faultForce block value roles) s = .next t ∧ t.eng.resp.status = stMode ∧ t.eng.flt = s.eng.flt ∧
          t.eng.i (Od.FLT_BLOCK.latch block) = s.eng.i (Od.FLT_BLOCK.latch block) ∧ s.eng.onlyObjects t.eng ∧ s.beside t)) ∧
    (∀ block : Fin 24, (∀ d ∈ s.eng.recent s.ctx, d.block ≠ block.val) →
      (s.eng.admits (Od.FLT_BLOCK.rearm block) 1 roles = true →
        ∃ t, exec (.faultRearm block 1 roles) s = .next t ∧ s.accepted t ∧ s.eng.onlyObjects t.eng ∧
          ∀ m : Fin 11, t.eng.i (odKey 0x70 (0x140 + block) (m + 1)) = 0) ∧
      ∀ mask : Nat, s.eng.admits (Od.FLT_BLOCK.latch block) mask roles = true →
        ∃ t, exec (.faultLatchClear block mask roles) s = .next t ∧
          s.wrote t [(Od.FLT_BLOCK.latch block, (clearBits (s.eng.n (Od.FLT_BLOCK.latch block)) mask : Nat))]) ∧
    (∀ seconds : Nat, s.eng.admits Od.FLT_TEST.open_s seconds roles = true →
      ∃ t, exec (.testWindowOpen seconds roles) s = .next t ∧ s.accepted t ∧
        t.eng.flt = { s.eng.flt with testEnd := some ((s.ctx.st 0 + seconds * unitsPerSec) % 2 ^ 64) }) ∧
    (s.eng.admits Od.FLT_TEST.close 1 roles = true →
      ∃ t, exec (.testWindowClose 1 roles) s = .next t ∧ s.accepted t ∧ t.eng.flt = { s.eng.flt with testEnd := none }) ∧
    (s.eng.testOver s.ctx = true →
      ∃ t, exec .testWindowExpiry s = .next t ∧ s.beside t ∧
        t.eng = { s.eng with out := [], flt := { s.eng.flt with testEnd := none } }) ∧
    (∀ (block : Fin 24) (row : Nat), s.eng.b Od.FLT_GLOBAL.selfcheck_enable = true →
      faultRows.any (fun q => q.block == block.val && q.row == row) = true →
      ∃ t, exec (.selfcheckPass [⟨block, [row]⟩]) s = .next t ∧ s.beside t ∧
        t.eng.n (Od.FLT_BLOCK.checker_fail block) = (s.eng.n (Od.FLT_BLOCK.checker_fail block) + 1) % 2 ^ 32 ∧
        t.eng.n (Od.FLT_BLOCK.latch block) = s.eng.n (Od.FLT_BLOCK.latch block) ||| 2 ^ (faultRow block row).src) ∧
    (∀ (memory : EccMemory) (c : ScrubCycle), s.eng.b Od.FLT_GLOBAL.scrub_enable = true → memory ≠ .state →
      tget s.eng.flt.scrubs (eccMemoryCode memory) = some c →
      (∃ t, exec (.scrubRead memory false none) s = .next t ∧ s.beside t ∧ t.eng.od = s.eng.od ∧
        tget t.eng.flt.scrubs (eccMemoryCode memory) = some { c with words := c.words + 1 }) ∧
      ∃ t, exec (.scrubRead memory true none) s = .next t ∧ s.beside t ∧ t.eng.od = s.eng.od ∧
        tget t.eng.flt.scrubs (eccMemoryCode memory) = some ⟨s.core.tick, s.ctx.st 0, 0, false⟩) ∧
    ∀ memory : EccMemory, s.eng.scrubLate s.ctx memory = true →
      ∃ t, exec (.scrubOverrun memory) s = .next t ∧ s.beside t ∧
        t.eng.n (Od.FLT_BLOCK.latch 23) = s.eng.n (Od.FLT_BLOCK.latch 23) ||| 4

/-- A rail pair fault fixes the tick of an Eclipse; eight ticks after it the device is in Eclipse: its record shows that tick, its
ECLIPSE_N and TIME_OK pins are low, its NTS-KE sessions are over and its write queue is empty; and the linger ends at its tick. Rules:
R409, R410, R412. -/
def Obligations.EclipseBeginsEightTicksAfterItsRail : Prop :=
  ∀ (s : State), s.eng.up = true →
    (s.eng.flt.eclipse = false → s.eng.flt.rail = none →
      ∃ t, exec .eclipseRailChange s = .next t ∧ s.beside t ∧ t.eng = { s.eng with
        out := [], flt := { s.eng.flt with rail := some ⟨s.core.tick, s.ctx.st 0, .rail, 0, 0xFF, 0xFF, 0⟩ } }) ∧
    (∀ r : RailChange, s.eng.flt.eclipse = false → s.eng.flt.rail = some r → r.tick + 8 ≤ s.core.tick →
      ∃ t, exec .eclipseEntry s = .next t ∧ s.beside t ∧ t.eng.flt.eclipse = true ∧ t.eng.i Od.FLT_ECLIPSE.valid = 1 ∧
        t.eng.n Od.FLT_ECLIPSE.detect_tick = r.tick ∧ t.eng.n Od.FLT_ECLIPSE.entry_tick = r.tick + 8 ∧
        t.eng.n Od.FLT_ECLIPSE.reason = r.reason.code ∧ t.eng.n Od.FLT_ECLIPSE.blocks = r.blocks ∧
        t.eng.pins.eclipseN = false ∧ t.eng.pins.timeOk = false ∧ t.eng.nts.sessions = [] ∧ t.eng.front.queue = [] ∧
        (r.noLinger = true → t.eng.flt.lingering = false)) ∧
    (s.eng.lingerDue s.ctx = true →
      ∃ t, exec .lingerEnd s = .next t ∧ s.beside t ∧ t.eng = { s.eng with out := [], flt := { s.eng.flt with lingering := false } })

end
end

