-- ==== Sys2Proof/Laws/State.lean ====
section
/-! SUPPORT. One lemma for each field and each plain update of the state: what the update leaves as it was, and what it stores. -/

namespace Sys2Proof.Machine

/-! ## Eng.set -/

@[simp] theorem Eng.set_resp (e : Eng) (k : Key) (v : Int) : (e.set k v).resp = e.resp := rfl
@[simp] theorem Eng.set_out (e : Eng) (k : Key) (v : Int) : (e.set k v).out = e.out := rfl
@[simp] theorem Eng.set_draws (e : Eng) (k : Key) (v : Int) : (e.set k v).draws = e.draws := rfl
@[simp] theorem Eng.set_pins (e : Eng) (k : Key) (v : Int) : (e.set k v).pins = e.pins := rfl
@[simp] theorem Eng.set_boot (e : Eng) (k : Key) (v : Int) : (e.set k v).boot = e.boot := rfl
@[simp] theorem Eng.set_flash (e : Eng) (k : Key) (v : Int) : (e.set k v).flash = e.flash := rfl
@[simp] theorem Eng.set_flt (e : Eng) (k : Key) (v : Int) : (e.set k v).flt = e.flt := rfl
@[simp] theorem Eng.set_tl (e : Eng) (k : Key) (v : Int) : (e.set k v).tl = e.tl := rfl
@[simp] theorem Eng.set_sealedFor (e : Eng) (k : Key) (v : Int) : (e.set k v).sealedFor = e.sealedFor := rfl
@[simp] theorem Eng.set_lastBoundary (e : Eng) (k : Key) (v : Int) : (e.set k v).lastBoundary = e.lastBoundary := rfl
@[simp] theorem Eng.set_cmpArmedAt (e : Eng) (k : Key) (v : Int) : (e.set k v).cmpArmedAt = e.cmpArmedAt := rfl
@[simp] theorem Eng.set_sched (e : Eng) (k : Key) (v : Int) : (e.set k v).sched = e.sched := rfl
@[simp] theorem Eng.set_ports (e : Eng) (k : Key) (v : Int) : (e.set k v).ports = e.ports := rfl
@[simp] theorem Eng.set_cls (e : Eng) (k : Key) (v : Int) : (e.set k v).cls = e.cls := rfl
@[simp] theorem Eng.set_lanes (e : Eng) (k : Key) (v : Int) : (e.set k v).lanes = e.lanes := rfl
@[simp] theorem Eng.set_calWait (e : Eng) (k : Key) (v : Int) : (e.set k v).calWait = e.calWait := rfl
@[simp] theorem Eng.set_keyWait (e : Eng) (k : Key) (v : Int) : (e.set k v).keyWait = e.keyWait := rfl
@[simp] theorem Eng.set_ans (e : Eng) (k : Key) (v : Int) : (e.set k v).ans = e.ans := rfl
@[simp] theorem Eng.set_fwTicks (e : Eng) (k : Key) (v : Int) : (e.set k v).fwTicks = e.fwTicks := rfl
@[simp] theorem Eng.set_cals (e : Eng) (k : Key) (v : Int) : (e.set k v).cals = e.cals := rfl
@[simp] theorem Eng.set_nts (e : Eng) (k : Key) (v : Int) : (e.set k v).nts = e.nts := rfl
@[simp] theorem Eng.set_ptp (e : Eng) (k : Key) (v : Int) : (e.set k v).ptp = e.ptp := rfl
@[simp] theorem Eng.set_ups (e : Eng) (k : Key) (v : Int) : (e.set k v).ups = e.ups := rfl
@[simp] theorem Eng.set_refins (e : Eng) (k : Key) (v : Int) : (e.set k v).refins = e.refins := rfl
@[simp] theorem Eng.set_synces (e : Eng) (k : Key) (v : Int) : (e.set k v).synces = e.synces := rfl
@[simp] theorem Eng.set_tod (e : Eng) (k : Key) (v : Int) : (e.set k v).tod = e.tod := rfl
@[simp] theorem Eng.set_sibs (e : Eng) (k : Key) (v : Int) : (e.set k v).sibs = e.sibs := rfl
@[simp] theorem Eng.set_gnss (e : Eng) (k : Key) (v : Int) : (e.set k v).gnss = e.gnss := rfl
@[simp] theorem Eng.set_sel (e : Eng) (k : Key) (v : Int) : (e.set k v).sel = e.sel := rfl
@[simp] theorem Eng.set_steer (e : Eng) (k : Key) (v : Int) : (e.set k v).steer = e.steer := rfl
@[simp] theorem Eng.set_model (e : Eng) (k : Key) (v : Int) : (e.set k v).model = e.model := rfl
@[simp] theorem Eng.set_outs (e : Eng) (k : Key) (v : Int) : (e.set k v).outs = e.outs := rfl
@[simp] theorem Eng.set_pk (e : Eng) (k : Key) (v : Int) : (e.set k v).pk = e.pk := rfl
@[simp] theorem Eng.set_irq (e : Eng) (k : Key) (v : Int) : (e.set k v).irq = e.irq := rfl
@[simp] theorem Eng.set_rxRings (e : Eng) (k : Key) (v : Int) : (e.set k v).rxRings = e.rxRings := rfl
@[simp] theorem Eng.set_txRings (e : Eng) (k : Key) (v : Int) : (e.set k v).txRings = e.txRings := rfl
@[simp] theorem Eng.set_tails (e : Eng) (k : Key) (v : Int) : (e.set k v).tails = e.tails := rfl
@[simp] theorem Eng.set_wins (e : Eng) (k : Key) (v : Int) : (e.set k v).wins = e.wins := rfl
@[simp] theorem Eng.set_inbox (e : Eng) (k : Key) (v : Int) : (e.set k v).inbox = e.inbox := rfl
@[simp] theorem Eng.set_ptpIn (e : Eng) (k : Key) (v : Int) : (e.set k v).ptpIn = e.ptpIn := rfl
@[simp] theorem Eng.set_front (e : Eng) (k : Key) (v : Int) : (e.set k v).front = e.front := rfl
@[simp] theorem Eng.set_seg (e : Eng) (k : Key) (v : Int) : (e.set k v).seg = e.seg := rfl
@[simp] theorem Eng.set_ctr (e : Eng) (k : Key) (v : Int) : (e.set k v).ctr = e.ctr := rfl
@[simp] theorem Eng.set_mon (e : Eng) (k : Key) (v : Int) : (e.set k v).mon = e.mon := rfl
@[simp] theorem Eng.set_dump (e : Eng) (k : Key) (v : Int) : (e.set k v).dump = e.dump := rfl

/-! ## Eng.add -/

@[simp] theorem Eng.add_resp (e : Eng) (w : Nat) (k : Key) (n : Nat) : (e.add w k n).resp = e.resp := rfl
@[simp] theorem Eng.add_out (e : Eng) (w : Nat) (k : Key) (n : Nat) : (e.add w k n).out = e.out := rfl
@[simp] theorem Eng.add_draws (e : Eng) (w : Nat) (k : Key) (n : Nat) : (e.add w k n).draws = e.draws := rfl
@[simp] theorem Eng.add_pins (e : Eng) (w : Nat) (k : Key) (n : Nat) : (e.add w k n).pins = e.pins := rfl
@[simp] theorem Eng.add_boot (e : Eng) (w : Nat) (k : Key) (n : Nat) : (e.add w k n).boot = e.boot := rfl
@[simp] theorem Eng.add_flash (e : Eng) (w : Nat) (k : Key) (n : Nat) : (e.add w k n).flash = e.flash := rfl
@[simp] theorem Eng.add_flt (e : Eng) (w : Nat) (k : Key) (n : Nat) : (e.add w k n).flt = e.flt := rfl
@[simp] theorem Eng.add_tl (e : Eng) (w : Nat) (k : Key) (n : Nat) : (e.add w k n).tl = e.tl := rfl
@[simp] theorem Eng.add_sealedFor (e : Eng) (w : Nat) (k : Key) (n : Nat) : (e.add w k n).sealedFor = e.sealedFor := rfl
@[simp] theorem Eng.add_lastBoundary (e : Eng) (w : Nat) (k : Key) (n : Nat) : (e.add w k n).lastBoundary = e.lastBoundary := rfl
@[simp] theorem Eng.add_cmpArmedAt (e : Eng) (w : Nat) (k : Key) (n : Nat) : (e.add w k n).cmpArmedAt = e.cmpArmedAt := rfl
@[simp] theorem Eng.add_sched (e : Eng) (w : Nat) (k : Key) (n : Nat) : (e.add w k n).sched = e.sched := rfl
@[simp] theorem Eng.add_ports (e : Eng) (w : Nat) (k : Key) (n : Nat) : (e.add w k n).ports = e.ports := rfl
@[simp] theorem Eng.add_cls (e : Eng) (w : Nat) (k : Key) (n : Nat) : (e.add w k n).cls = e.cls := rfl
@[simp] theorem Eng.add_lanes (e : Eng) (w : Nat) (k : Key) (n : Nat) : (e.add w k n).lanes = e.lanes := rfl
@[simp] theorem Eng.add_calWait (e : Eng) (w : Nat) (k : Key) (n : Nat) : (e.add w k n).calWait = e.calWait := rfl
@[simp] theorem Eng.add_keyWait (e : Eng) (w : Nat) (k : Key) (n : Nat) : (e.add w k n).keyWait = e.keyWait := rfl
@[simp] theorem Eng.add_ans (e : Eng) (w : Nat) (k : Key) (n : Nat) : (e.add w k n).ans = e.ans := rfl
@[simp] theorem Eng.add_fwTicks (e : Eng) (w : Nat) (k : Key) (n : Nat) : (e.add w k n).fwTicks = e.fwTicks := rfl
@[simp] theorem Eng.add_cals (e : Eng) (w : Nat) (k : Key) (n : Nat) : (e.add w k n).cals = e.cals := rfl
@[simp] theorem Eng.add_nts (e : Eng) (w : Nat) (k : Key) (n : Nat) : (e.add w k n).nts = e.nts := rfl
@[simp] theorem Eng.add_ptp (e : Eng) (w : Nat) (k : Key) (n : Nat) : (e.add w k n).ptp = e.ptp := rfl
@[simp] theorem Eng.add_ups (e : Eng) (w : Nat) (k : Key) (n : Nat) : (e.add w k n).ups = e.ups := rfl
@[simp] theorem Eng.add_refins (e : Eng) (w : Nat) (k : Key) (n : Nat) : (e.add w k n).refins = e.refins := rfl
@[simp] theorem Eng.add_synces (e : Eng) (w : Nat) (k : Key) (n : Nat) : (e.add w k n).synces = e.synces := rfl
@[simp] theorem Eng.add_tod (e : Eng) (w : Nat) (k : Key) (n : Nat) : (e.add w k n).tod = e.tod := rfl
@[simp] theorem Eng.add_sibs (e : Eng) (w : Nat) (k : Key) (n : Nat) : (e.add w k n).sibs = e.sibs := rfl
@[simp] theorem Eng.add_gnss (e : Eng) (w : Nat) (k : Key) (n : Nat) : (e.add w k n).gnss = e.gnss := rfl
@[simp] theorem Eng.add_sel (e : Eng) (w : Nat) (k : Key) (n : Nat) : (e.add w k n).sel = e.sel := rfl
@[simp] theorem Eng.add_steer (e : Eng) (w : Nat) (k : Key) (n : Nat) : (e.add w k n).steer = e.steer := rfl
@[simp] theorem Eng.add_model (e : Eng) (w : Nat) (k : Key) (n : Nat) : (e.add w k n).model = e.model := rfl
@[simp] theorem Eng.add_outs (e : Eng) (w : Nat) (k : Key) (n : Nat) : (e.add w k n).outs = e.outs := rfl
@[simp] theorem Eng.add_pk (e : Eng) (w : Nat) (k : Key) (n : Nat) : (e.add w k n).pk = e.pk := rfl
@[simp] theorem Eng.add_irq (e : Eng) (w : Nat) (k : Key) (n : Nat) : (e.add w k n).irq = e.irq := rfl
@[simp] theorem Eng.add_rxRings (e : Eng) (w : Nat) (k : Key) (n : Nat) : (e.add w k n).rxRings = e.rxRings := rfl
@[simp] theorem Eng.add_txRings (e : Eng) (w : Nat) (k : Key) (n : Nat) : (e.add w k n).txRings = e.txRings := rfl
@[simp] theorem Eng.add_tails (e : Eng) (w : Nat) (k : Key) (n : Nat) : (e.add w k n).tails = e.tails := rfl
@[simp] theorem Eng.add_wins (e : Eng) (w : Nat) (k : Key) (n : Nat) : (e.add w k n).wins = e.wins := rfl
@[simp] theorem Eng.add_inbox (e : Eng) (w : Nat) (k : Key) (n : Nat) : (e.add w k n).inbox = e.inbox := rfl
@[simp] theorem Eng.add_ptpIn (e : Eng) (w : Nat) (k : Key) (n : Nat) : (e.add w k n).ptpIn = e.ptpIn := rfl
@[simp] theorem Eng.add_front (e : Eng) (w : Nat) (k : Key) (n : Nat) : (e.add w k n).front = e.front := rfl
@[simp] theorem Eng.add_seg (e : Eng) (w : Nat) (k : Key) (n : Nat) : (e.add w k n).seg = e.seg := rfl
@[simp] theorem Eng.add_ctr (e : Eng) (w : Nat) (k : Key) (n : Nat) : (e.add w k n).ctr = e.ctr := rfl
@[simp] theorem Eng.add_mon (e : Eng) (w : Nat) (k : Key) (n : Nat) : (e.add w k n).mon = e.mon := rfl
@[simp] theorem Eng.add_dump (e : Eng) (w : Nat) (k : Key) (n : Nat) : (e.add w k n).dump = e.dump := rfl

/-! ## Eng.inc32 -/

@[simp] theorem Eng.inc32_resp (e : Eng) (k : Key) : (e.inc32 k).resp = e.resp := rfl
@[simp] theorem Eng.inc32_out (e : Eng) (k : Key) : (e.inc32 k).out = e.out := rfl
@[simp] theorem Eng.inc32_draws (e : Eng) (k : Key) : (e.inc32 k).draws = e.draws := rfl
@[simp] theorem Eng.inc32_pins (e : Eng) (k : Key) : (e.inc32 k).pins = e.pins := rfl
@[simp] theorem Eng.inc32_boot (e : Eng) (k : Key) : (e.inc32 k).boot = e.boot := rfl
@[simp] theorem Eng.inc32_flash (e : Eng) (k : Key) : (e.inc32 k).flash = e.flash := rfl
@[simp] theorem Eng.inc32_flt (e : Eng) (k : Key) : (e.inc32 k).flt = e.flt := rfl
@[simp] theorem Eng.inc32_tl (e : Eng) (k : Key) : (e.inc32 k).tl = e.tl := rfl
@[simp] theorem Eng.inc32_sealedFor (e : Eng) (k : Key) : (e.inc32 k).sealedFor = e.sealedFor := rfl
@[simp] theorem Eng.inc32_lastBoundary (e : Eng) (k : Key) : (e.inc32 k).lastBoundary = e.lastBoundary := rfl
@[simp] theorem Eng.inc32_cmpArmedAt (e : Eng) (k : Key) : (e.inc32 k).cmpArmedAt = e.cmpArmedAt := rfl
@[simp] theorem Eng.inc32_sched (e : Eng) (k : Key) : (e.inc32 k).sched = e.sched := rfl
@[simp] theorem Eng.inc32_ports (e : Eng) (k : Key) : (e.inc32 k).ports = e.ports := rfl
@[simp] theorem Eng.inc32_cls (e : Eng) (k : Key) : (e.inc32 k).cls = e.cls := rfl
@[simp] theorem Eng.inc32_lanes (e : Eng) (k : Key) : (e.inc32 k).lanes = e.lanes := rfl
@[simp] theorem Eng.inc32_calWait (e : Eng) (k : Key) : (e.inc32 k).calWait = e.calWait := rfl
@[simp] theorem Eng.inc32_keyWait (e : Eng) (k : Key) : (e.inc32 k).keyWait = e.keyWait := rfl
@[simp] theorem Eng.inc32_ans (e : Eng) (k : Key) : (e.inc32 k).ans = e.ans := rfl
@[simp] theorem Eng.inc32_fwTicks (e : Eng) (k : Key) : (e.inc32 k).fwTicks = e.fwTicks := rfl
@[simp] theorem Eng.inc32_cals (e : Eng) (k : Key) : (e.inc32 k).cals = e.cals := rfl
@[simp] theorem Eng.inc32_nts (e : Eng) (k : Key) : (e.inc32 k).nts = e.nts := rfl
@[simp] theorem Eng.inc32_ptp (e : Eng) (k : Key) : (e.inc32 k).ptp = e.ptp := rfl
@[simp] theorem Eng.inc32_ups (e : Eng) (k : Key) : (e.inc32 k).ups = e.ups := rfl
@[simp] theorem Eng.inc32_refins (e : Eng) (k : Key) : (e.inc32 k).refins = e.refins := rfl
@[simp] theorem Eng.inc32_synces (e : Eng) (k : Key) : (e.inc32 k).synces = e.synces := rfl
@[simp] theorem Eng.inc32_tod (e : Eng) (k : Key) : (e.inc32 k).tod = e.tod := rfl
@[simp] theorem Eng.inc32_sibs (e : Eng) (k : Key) : (e.inc32 k).sibs = e.sibs := rfl
@[simp] theorem Eng.inc32_gnss (e : Eng) (k : Key) : (e.inc32 k).gnss = e.gnss := rfl
@[simp] theorem Eng.inc32_sel (e : Eng) (k : Key) : (e.inc32 k).sel = e.sel := rfl
@[simp] theorem Eng.inc32_steer (e : Eng) (k : Key) : (e.inc32 k).steer = e.steer := rfl
@[simp] theorem Eng.inc32_model (e : Eng) (k : Key) : (e.inc32 k).model = e.model := rfl
@[simp] theorem Eng.inc32_outs (e : Eng) (k : Key) : (e.inc32 k).outs = e.outs := rfl
@[simp] theorem Eng.inc32_pk (e : Eng) (k : Key) : (e.inc32 k).pk = e.pk := rfl
@[simp] theorem Eng.inc32_irq (e : Eng) (k : Key) : (e.inc32 k).irq = e.irq := rfl
@[simp] theorem Eng.inc32_rxRings (e : Eng) (k : Key) : (e.inc32 k).rxRings = e.rxRings := rfl
@[simp] theorem Eng.inc32_txRings (e : Eng) (k : Key) : (e.inc32 k).txRings = e.txRings := rfl
@[simp] theorem Eng.inc32_tails (e : Eng) (k : Key) : (e.inc32 k).tails = e.tails := rfl
@[simp] theorem Eng.inc32_wins (e : Eng) (k : Key) : (e.inc32 k).wins = e.wins := rfl
@[simp] theorem Eng.inc32_inbox (e : Eng) (k : Key) : (e.inc32 k).inbox = e.inbox := rfl
@[simp] theorem Eng.inc32_ptpIn (e : Eng) (k : Key) : (e.inc32 k).ptpIn = e.ptpIn := rfl
@[simp] theorem Eng.inc32_front (e : Eng) (k : Key) : (e.inc32 k).front = e.front := rfl
@[simp] theorem Eng.inc32_seg (e : Eng) (k : Key) : (e.inc32 k).seg = e.seg := rfl
@[simp] theorem Eng.inc32_ctr (e : Eng) (k : Key) : (e.inc32 k).ctr = e.ctr := rfl
@[simp] theorem Eng.inc32_mon (e : Eng) (k : Key) : (e.inc32 k).mon = e.mon := rfl
@[simp] theorem Eng.inc32_dump (e : Eng) (k : Key) : (e.inc32 k).dump = e.dump := rfl

/-! ## Eng.inc64 -/

@[simp] theorem Eng.inc64_resp (e : Eng) (k : Key) : (e.inc64 k).resp = e.resp := rfl
@[simp] theorem Eng.inc64_out (e : Eng) (k : Key) : (e.inc64 k).out = e.out := rfl
@[simp] theorem Eng.inc64_draws (e : Eng) (k : Key) : (e.inc64 k).draws = e.draws := rfl
@[simp] theorem Eng.inc64_pins (e : Eng) (k : Key) : (e.inc64 k).pins = e.pins := rfl
@[simp] theorem Eng.inc64_boot (e : Eng) (k : Key) : (e.inc64 k).boot = e.boot := rfl
@[simp] theorem Eng.inc64_flash (e : Eng) (k : Key) : (e.inc64 k).flash = e.flash := rfl
@[simp] theorem Eng.inc64_flt (e : Eng) (k : Key) : (e.inc64 k).flt = e.flt := rfl
@[simp] theorem Eng.inc64_tl (e : Eng) (k : Key) : (e.inc64 k).tl = e.tl := rfl
@[simp] theorem Eng.inc64_sealedFor (e : Eng) (k : Key) : (e.inc64 k).sealedFor = e.sealedFor := rfl
@[simp] theorem Eng.inc64_lastBoundary (e : Eng) (k : Key) : (e.inc64 k).lastBoundary = e.lastBoundary := rfl
@[simp] theorem Eng.inc64_cmpArmedAt (e : Eng) (k : Key) : (e.inc64 k).cmpArmedAt = e.cmpArmedAt := rfl
@[simp] theorem Eng.inc64_sched (e : Eng) (k : Key) : (e.inc64 k).sched = e.sched := rfl
@[simp] theorem Eng.inc64_ports (e : Eng) (k : Key) : (e.inc64 k).ports = e.ports := rfl
@[simp] theorem Eng.inc64_cls (e : Eng) (k : Key) : (e.inc64 k).cls = e.cls := rfl
@[simp] theorem Eng.inc64_lanes (e : Eng) (k : Key) : (e.inc64 k).lanes = e.lanes := rfl
@[simp] theorem Eng.inc64_calWait (e : Eng) (k : Key) : (e.inc64 k).calWait = e.calWait := rfl
@[simp] theorem Eng.inc64_keyWait (e : Eng) (k : Key) : (e.inc64 k).keyWait = e.keyWait := rfl
@[simp] theorem Eng.inc64_ans (e : Eng) (k : Key) : (e.inc64 k).ans = e.ans := rfl
@[simp] theorem Eng.inc64_fwTicks (e : Eng) (k : Key) : (e.inc64 k).fwTicks = e.fwTicks := rfl
@[simp] theorem Eng.inc64_cals (e : Eng) (k : Key) : (e.inc64 k).cals = e.cals := rfl
@[simp] theorem Eng.inc64_nts (e : Eng) (k : Key) : (e.inc64 k).nts = e.nts := rfl
@[simp] theorem Eng.inc64_ptp (e : Eng) (k : Key) : (e.inc64 k).ptp = e.ptp := rfl
@[simp] theorem Eng.inc64_ups (e : Eng) (k : Key) : (e.inc64 k).ups = e.ups := rfl
@[simp] theorem Eng.inc64_refins (e : Eng) (k : Key) : (e.inc64 k).refins = e.refins := rfl
@[simp] theorem Eng.inc64_synces (e : Eng) (k : Key) : (e.inc64 k).synces = e.synces := rfl
@[simp] theorem Eng.inc64_tod (e : Eng) (k : Key) : (e.inc64 k).tod = e.tod := rfl
@[simp] theorem Eng.inc64_sibs (e : Eng) (k : Key) : (e.inc64 k).sibs = e.sibs := rfl
@[simp] theorem Eng.inc64_gnss (e : Eng) (k : Key) : (e.inc64 k).gnss = e.gnss := rfl
@[simp] theorem Eng.inc64_sel (e : Eng) (k : Key) : (e.inc64 k).sel = e.sel := rfl
@[simp] theorem Eng.inc64_steer (e : Eng) (k : Key) : (e.inc64 k).steer = e.steer := rfl
@[simp] theorem Eng.inc64_model (e : Eng) (k : Key) : (e.inc64 k).model = e.model := rfl
@[simp] theorem Eng.inc64_outs (e : Eng) (k : Key) : (e.inc64 k).outs = e.outs := rfl
@[simp] theorem Eng.inc64_pk (e : Eng) (k : Key) : (e.inc64 k).pk = e.pk := rfl
@[simp] theorem Eng.inc64_irq (e : Eng) (k : Key) : (e.inc64 k).irq = e.irq := rfl
@[simp] theorem Eng.inc64_rxRings (e : Eng) (k : Key) : (e.inc64 k).rxRings = e.rxRings := rfl
@[simp] theorem Eng.inc64_txRings (e : Eng) (k : Key) : (e.inc64 k).txRings = e.txRings := rfl
@[simp] theorem Eng.inc64_tails (e : Eng) (k : Key) : (e.inc64 k).tails = e.tails := rfl
@[simp] theorem Eng.inc64_wins (e : Eng) (k : Key) : (e.inc64 k).wins = e.wins := rfl
@[simp] theorem Eng.inc64_inbox (e : Eng) (k : Key) : (e.inc64 k).inbox = e.inbox := rfl
@[simp] theorem Eng.inc64_ptpIn (e : Eng) (k : Key) : (e.inc64 k).ptpIn = e.ptpIn := rfl
@[simp] theorem Eng.inc64_front (e : Eng) (k : Key) : (e.inc64 k).front = e.front := rfl
@[simp] theorem Eng.inc64_seg (e : Eng) (k : Key) : (e.inc64 k).seg = e.seg := rfl
@[simp] theorem Eng.inc64_ctr (e : Eng) (k : Key) : (e.inc64 k).ctr = e.ctr := rfl
@[simp] theorem Eng.inc64_mon (e : Eng) (k : Key) : (e.inc64 k).mon = e.mon := rfl
@[simp] theorem Eng.inc64_dump (e : Eng) (k : Key) : (e.inc64 k).dump = e.dump := rfl

/-! ## Eng.orb -/

@[simp] theorem Eng.orb_resp (e : Eng) (k : Key) (m : Nat) : (e.orb k m).resp = e.resp := rfl
@[simp] theorem Eng.orb_out (e : Eng) (k : Key) (m : Nat) : (e.orb k m).out = e.out := rfl
@[simp] theorem Eng.orb_draws (e : Eng) (k : Key) (m : Nat) : (e.orb k m).draws = e.draws := rfl
@[simp] theorem Eng.orb_pins (e : Eng) (k : Key) (m : Nat) : (e.orb k m).pins = e.pins := rfl
@[simp] theorem Eng.orb_boot (e : Eng) (k : Key) (m : Nat) : (e.orb k m).boot = e.boot := rfl
@[simp] theorem Eng.orb_flash (e : Eng) (k : Key) (m : Nat) : (e.orb k m).flash = e.flash := rfl
@[simp] theorem Eng.orb_flt (e : Eng) (k : Key) (m : Nat) : (e.orb k m).flt = e.flt := rfl
@[simp] theorem Eng.orb_tl (e : Eng) (k : Key) (m : Nat) : (e.orb k m).tl = e.tl := rfl
@[simp] theorem Eng.orb_sealedFor (e : Eng) (k : Key) (m : Nat) : (e.orb k m).sealedFor = e.sealedFor := rfl
@[simp] theorem Eng.orb_lastBoundary (e : Eng) (k : Key) (m : Nat) : (e.orb k m).lastBoundary = e.lastBoundary := rfl
@[simp] theorem Eng.orb_cmpArmedAt (e : Eng) (k : Key) (m : Nat) : (e.orb k m).cmpArmedAt = e.cmpArmedAt := rfl
@[simp] theorem Eng.orb_sched (e : Eng) (k : Key) (m : Nat) : (e.orb k m).sched = e.sched := rfl
@[simp] theorem Eng.orb_ports (e : Eng) (k : Key) (m : Nat) : (e.orb k m).ports = e.ports := rfl
@[simp] theorem Eng.orb_cls (e : Eng) (k : Key) (m : Nat) : (e.orb k m).cls = e.cls := rfl
@[simp] theorem Eng.orb_lanes (e : Eng) (k : Key) (m : Nat) : (e.orb k m).lanes = e.lanes := rfl
@[simp] theorem Eng.orb_calWait (e : Eng) (k : Key) (m : Nat) : (e.orb k m).calWait = e.calWait := rfl
@[simp] theorem Eng.orb_keyWait (e : Eng) (k : Key) (m : Nat) : (e.orb k m).keyWait = e.keyWait := rfl
@[simp] theorem Eng.orb_ans (e : Eng) (k : Key) (m : Nat) : (e.orb k m).ans = e.ans := rfl
@[simp] theorem Eng.orb_fwTicks (e : Eng) (k : Key) (m : Nat) : (e.orb k m).fwTicks = e.fwTicks := rfl
@[simp] theorem Eng.orb_cals (e : Eng) (k : Key) (m : Nat) : (e.orb k m).cals = e.cals := rfl
@[simp] theorem Eng.orb_nts (e : Eng) (k : Key) (m : Nat) : (e.orb k m).nts = e.nts := rfl
@[simp] theorem Eng.orb_ptp (e : Eng) (k : Key) (m : Nat) : (e.orb k m).ptp = e.ptp := rfl
@[simp] theorem Eng.orb_ups (e : Eng) (k : Key) (m : Nat) : (e.orb k m).ups = e.ups := rfl
@[simp] theorem Eng.orb_refins (e : Eng) (k : Key) (m : Nat) : (e.orb k m).refins = e.refins := rfl
@[simp] theorem Eng.orb_synces (e : Eng) (k : Key) (m : Nat) : (e.orb k m).synces = e.synces := rfl
@[simp] theorem Eng.orb_tod (e : Eng) (k : Key) (m : Nat) : (e.orb k m).tod = e.tod := rfl
@[simp] theorem Eng.orb_sibs (e : Eng) (k : Key) (m : Nat) : (e.orb k m).sibs = e.sibs := rfl
@[simp] theorem Eng.orb_gnss (e : Eng) (k : Key) (m : Nat) : (e.orb k m).gnss = e.gnss := rfl
@[simp] theorem Eng.orb_sel (e : Eng) (k : Key) (m : Nat) : (e.orb k m).sel = e.sel := rfl
@[simp] theorem Eng.orb_steer (e : Eng) (k : Key) (m : Nat) : (e.orb k m).steer = e.steer := rfl
@[simp] theorem Eng.orb_model (e : Eng) (k : Key) (m : Nat) : (e.orb k m).model = e.model := rfl
@[simp] theorem Eng.orb_outs (e : Eng) (k : Key) (m : Nat) : (e.orb k m).outs = e.outs := rfl
@[simp] theorem Eng.orb_pk (e : Eng) (k : Key) (m : Nat) : (e.orb k m).pk = e.pk := rfl
@[simp] theorem Eng.orb_irq (e : Eng) (k : Key) (m : Nat) : (e.orb k m).irq = e.irq := rfl
@[simp] theorem Eng.orb_rxRings (e : Eng) (k : Key) (m : Nat) : (e.orb k m).rxRings = e.rxRings := rfl
@[simp] theorem Eng.orb_txRings (e : Eng) (k : Key) (m : Nat) : (e.orb k m).txRings = e.txRings := rfl
@[simp] theorem Eng.orb_tails (e : Eng) (k : Key) (m : Nat) : (e.orb k m).tails = e.tails := rfl
@[simp] theorem Eng.orb_wins (e : Eng) (k : Key) (m : Nat) : (e.orb k m).wins = e.wins := rfl
@[simp] theorem Eng.orb_inbox (e : Eng) (k : Key) (m : Nat) : (e.orb k m).inbox = e.inbox := rfl
@[simp] theorem Eng.orb_ptpIn (e : Eng) (k : Key) (m : Nat) : (e.orb k m).ptpIn = e.ptpIn := rfl
@[simp] theorem Eng.orb_front (e : Eng) (k : Key) (m : Nat) : (e.orb k m).front = e.front := rfl
@[simp] theorem Eng.orb_seg (e : Eng) (k : Key) (m : Nat) : (e.orb k m).seg = e.seg := rfl
@[simp] theorem Eng.orb_ctr (e : Eng) (k : Key) (m : Nat) : (e.orb k m).ctr = e.ctr := rfl
@[simp] theorem Eng.orb_mon (e : Eng) (k : Key) (m : Nat) : (e.orb k m).mon = e.mon := rfl
@[simp] theorem Eng.orb_dump (e : Eng) (k : Key) (m : Nat) : (e.orb k m).dump = e.dump := rfl

/-! ## Eng.andc -/

@[simp] theorem Eng.andc_resp (e : Eng) (k : Key) (m : Nat) : (e.andc k m).resp = e.resp := rfl
@[simp] theorem Eng.andc_out (e : Eng) (k : Key) (m : Nat) : (e.andc k m).out = e.out := rfl
@[simp] theorem Eng.andc_draws (e : Eng) (k : Key) (m : Nat) : (e.andc k m).draws = e.draws := rfl
@[simp] theorem Eng.andc_pins (e : Eng) (k : Key) (m : Nat) : (e.andc k m).pins = e.pins := rfl
@[simp] theorem Eng.andc_boot (e : Eng) (k : Key) (m : Nat) : (e.andc k m).boot = e.boot := rfl
@[simp] theorem Eng.andc_flash (e : Eng) (k : Key) (m : Nat) : (e.andc k m).flash = e.flash := rfl
@[simp] theorem Eng.andc_flt (e : Eng) (k : Key) (m : Nat) : (e.andc k m).flt = e.flt := rfl
@[simp] theorem Eng.andc_tl (e : Eng) (k : Key) (m : Nat) : (e.andc k m).tl = e.tl := rfl
@[simp] theorem Eng.andc_sealedFor (e : Eng) (k : Key) (m : Nat) : (e.andc k m).sealedFor = e.sealedFor := rfl
@[simp] theorem Eng.andc_lastBoundary (e : Eng) (k : Key) (m : Nat) : (e.andc k m).lastBoundary = e.lastBoundary := rfl
@[simp] theorem Eng.andc_cmpArmedAt (e : Eng) (k : Key) (m : Nat) : (e.andc k m).cmpArmedAt = e.cmpArmedAt := rfl
@[simp] theorem Eng.andc_sched (e : Eng) (k : Key) (m : Nat) : (e.andc k m).sched = e.sched := rfl
@[simp] theorem Eng.andc_ports (e : Eng) (k : Key) (m : Nat) : (e.andc k m).ports = e.ports := rfl
@[simp] theorem Eng.andc_cls (e : Eng) (k : Key) (m : Nat) : (e.andc k m).cls = e.cls := rfl
@[simp] theorem Eng.andc_lanes (e : Eng) (k : Key) (m : Nat) : (e.andc k m).lanes = e.lanes := rfl
@[simp] theorem Eng.andc_calWait (e : Eng) (k : Key) (m : Nat) : (e.andc k m).calWait = e.calWait := rfl
@[simp] theorem Eng.andc_keyWait (e : Eng) (k : Key) (m : Nat) : (e.andc k m).keyWait = e.keyWait := rfl
@[simp] theorem Eng.andc_ans (e : Eng) (k : Key) (m : Nat) : (e.andc k m).ans = e.ans := rfl
@[simp] theorem Eng.andc_fwTicks (e : Eng) (k : Key) (m : Nat) : (e.andc k m).fwTicks = e.fwTicks := rfl
@[simp] theorem Eng.andc_cals (e : Eng) (k : Key) (m : Nat) : (e.andc k m).cals = e.cals := rfl
@[simp] theorem Eng.andc_nts (e : Eng) (k : Key) (m : Nat) : (e.andc k m).nts = e.nts := rfl
@[simp] theorem Eng.andc_ptp (e : Eng) (k : Key) (m : Nat) : (e.andc k m).ptp = e.ptp := rfl
@[simp] theorem Eng.andc_ups (e : Eng) (k : Key) (m : Nat) : (e.andc k m).ups = e.ups := rfl
@[simp] theorem Eng.andc_refins (e : Eng) (k : Key) (m : Nat) : (e.andc k m).refins = e.refins := rfl
@[simp] theorem Eng.andc_synces (e : Eng) (k : Key) (m : Nat) : (e.andc k m).synces = e.synces := rfl
@[simp] theorem Eng.andc_tod (e : Eng) (k : Key) (m : Nat) : (e.andc k m).tod = e.tod := rfl
@[simp] theorem Eng.andc_sibs (e : Eng) (k : Key) (m : Nat) : (e.andc k m).sibs = e.sibs := rfl
@[simp] theorem Eng.andc_gnss (e : Eng) (k : Key) (m : Nat) : (e.andc k m).gnss = e.gnss := rfl
@[simp] theorem Eng.andc_sel (e : Eng) (k : Key) (m : Nat) : (e.andc k m).sel = e.sel := rfl
@[simp] theorem Eng.andc_steer (e : Eng) (k : Key) (m : Nat) : (e.andc k m).steer = e.steer := rfl
@[simp] theorem Eng.andc_model (e : Eng) (k : Key) (m : Nat) : (e.andc k m).model = e.model := rfl
@[simp] theorem Eng.andc_outs (e : Eng) (k : Key) (m : Nat) : (e.andc k m).outs = e.outs := rfl
@[simp] theorem Eng.andc_pk (e : Eng) (k : Key) (m : Nat) : (e.andc k m).pk = e.pk := rfl
@[simp] theorem Eng.andc_irq (e : Eng) (k : Key) (m : Nat) : (e.andc k m).irq = e.irq := rfl
@[simp] theorem Eng.andc_rxRings (e : Eng) (k : Key) (m : Nat) : (e.andc k m).rxRings = e.rxRings := rfl
@[simp] theorem Eng.andc_txRings (e : Eng) (k : Key) (m : Nat) : (e.andc k m).txRings = e.txRings := rfl
@[simp] theorem Eng.andc_tails (e : Eng) (k : Key) (m : Nat) : (e.andc k m).tails = e.tails := rfl
@[simp] theorem Eng.andc_wins (e : Eng) (k : Key) (m : Nat) : (e.andc k m).wins = e.wins := rfl
@[simp] theorem Eng.andc_inbox (e : Eng) (k : Key) (m : Nat) : (e.andc k m).inbox = e.inbox := rfl
@[simp] theorem Eng.andc_ptpIn (e : Eng) (k : Key) (m : Nat) : (e.andc k m).ptpIn = e.ptpIn := rfl
@[simp] theorem Eng.andc_front (e : Eng) (k : Key) (m : Nat) : (e.andc k m).front = e.front := rfl
@[simp] theorem Eng.andc_seg (e : Eng) (k : Key) (m : Nat) : (e.andc k m).seg = e.seg := rfl
@[simp] theorem Eng.andc_ctr (e : Eng) (k : Key) (m : Nat) : (e.andc k m).ctr = e.ctr := rfl
@[simp] theorem Eng.andc_mon (e : Eng) (k : Key) (m : Nat) : (e.andc k m).mon = e.mon := rfl
@[simp] theorem Eng.andc_dump (e : Eng) (k : Key) (m : Nat) : (e.andc k m).dump = e.dump := rfl

/-! ## Eng.emit -/

@[simp] theorem Eng.emit_od (e : Eng) (o : Output) : (e.emit o).od = e.od := rfl
@[simp] theorem Eng.emit_resp (e : Eng) (o : Output) : (e.emit o).resp = e.resp := rfl
@[simp] theorem Eng.emit_draws (e : Eng) (o : Output) : (e.emit o).draws = e.draws := rfl
@[simp] theorem Eng.emit_pins (e : Eng) (o : Output) : (e.emit o).pins = e.pins := rfl
@[simp] theorem Eng.emit_boot (e : Eng) (o : Output) : (e.emit o).boot = e.boot := rfl
@[simp] theorem Eng.emit_flash (e : Eng) (o : Output) : (e.emit o).flash = e.flash := rfl
@[simp] theorem Eng.emit_flt (e : Eng) (o : Output) : (e.emit o).flt = e.flt := rfl
@[simp] theorem Eng.emit_tl (e : Eng) (o : Output) : (e.emit o).tl = e.tl := rfl
@[simp] theorem Eng.emit_sealedFor (e : Eng) (o : Output) : (e.emit o).sealedFor = e.sealedFor := rfl
@[simp] theorem Eng.emit_lastBoundary (e : Eng) (o : Output) : (e.emit o).lastBoundary = e.lastBoundary := rfl
@[simp] theorem Eng.emit_cmpArmedAt (e : Eng) (o : Output) : (e.emit o).cmpArmedAt = e.cmpArmedAt := rfl
@[simp] theorem Eng.emit_sched (e : Eng) (o : Output) : (e.emit o).sched = e.sched := rfl
@[simp] theorem Eng.emit_ports (e : Eng) (o : Output) : (e.emit o).ports = e.ports := rfl
@[simp] theorem Eng.emit_cls (e : Eng) (o : Output) : (e.emit o).cls = e.cls := rfl
@[simp] theorem Eng.emit_lanes (e : Eng) (o : Output) : (e.emit o).lanes = e.lanes := rfl
@[simp] theorem Eng.emit_calWait (e : Eng) (o : Output) : (e.emit o).calWait = e.calWait := rfl
@[simp] theorem Eng.emit_keyWait (e : Eng) (o : Output) : (e.emit o).keyWait = e.keyWait := rfl
@[simp] theorem Eng.emit_ans (e : Eng) (o : Output) : (e.emit o).ans = e.ans := rfl
@[simp] theorem Eng.emit_fwTicks (e : Eng) (o : Output) : (e.emit o).fwTicks = e.fwTicks := rfl
@[simp] theorem Eng.emit_cals (e : Eng) (o : Output) : (e.emit o).cals = e.cals := rfl
@[simp] theorem Eng.emit_nts (e : Eng) (o : Output) : (e.emit o).nts = e.nts := rfl
@[simp] theorem Eng.emit_ptp (e : Eng) (o : Output) : (e.emit o).ptp = e.ptp := rfl
@[simp] theorem Eng.emit_ups (e : Eng) (o : Output) : (e.emit o).ups = e.ups := rfl
@[simp] theorem Eng.emit_refins (e : Eng) (o : Output) : (e.emit o).refins = e.refins := rfl
@[simp] theorem Eng.emit_synces (e : Eng) (o : Output) : (e.emit o).synces = e.synces := rfl
@[simp] theorem Eng.emit_tod (e : Eng) (o : Output) : (e.emit o).tod = e.tod := rfl
@[simp] theorem Eng.emit_sibs (e : Eng) (o : Output) : (e.emit o).sibs = e.sibs := rfl
@[simp] theorem Eng.emit_gnss (e : Eng) (o : Output) : (e.emit o).gnss = e.gnss := rfl
@[simp] theorem Eng.emit_sel (e : Eng) (o : Output) : (e.emit o).sel = e.sel := rfl
@[simp] theorem Eng.emit_steer (e : Eng) (o : Output) : (e.emit o).steer = e.steer := rfl
@[simp] theorem Eng.emit_model (e : Eng) (o : Output) : (e.emit o).model = e.model := rfl
@[simp] theorem Eng.emit_outs (e : Eng) (o : Output) : (e.emit o).outs = e.outs := rfl
@[simp] theorem Eng.emit_pk (e : Eng) (o : Output) : (e.emit o).pk = e.pk := rfl
@[simp] theorem Eng.emit_irq (e : Eng) (o : Output) : (e.emit o).irq = e.irq := rfl
@[simp] theorem Eng.emit_rxRings (e : Eng) (o : Output) : (e.emit o).rxRings = e.rxRings := rfl
@[simp] theorem Eng.emit_txRings (e : Eng) (o : Output) : (e.emit o).txRings = e.txRings := rfl
@[simp] theorem Eng.emit_tails (e : Eng) (o : Output) : (e.emit o).tails = e.tails := rfl
@[simp] theorem Eng.emit_wins (e : Eng) (o : Output) : (e.emit o).wins = e.wins := rfl
@[simp] theorem Eng.emit_inbox (e : Eng) (o : Output) : (e.emit o).inbox = e.inbox := rfl
@[simp] theorem Eng.emit_ptpIn (e : Eng) (o : Output) : (e.emit o).ptpIn = e.ptpIn := rfl
@[simp] theorem Eng.emit_front (e : Eng) (o : Output) : (e.emit o).front = e.front := rfl
@[simp] theorem Eng.emit_seg (e : Eng) (o : Output) : (e.emit o).seg = e.seg := rfl
@[simp] theorem Eng.emit_ctr (e : Eng) (o : Output) : (e.emit o).ctr = e.ctr := rfl
@[simp] theorem Eng.emit_mon (e : Eng) (o : Output) : (e.emit o).mon = e.mon := rfl
@[simp] theorem Eng.emit_dump (e : Eng) (o : Output) : (e.emit o).dump = e.dump := rfl

/-! ## Eng.fresh -/

@[simp] theorem Eng.fresh_od (e : Eng) : (e.fresh).od = e.od := rfl
@[simp] theorem Eng.fresh_resp (e : Eng) : (e.fresh).resp = e.resp := rfl
@[simp] theorem Eng.fresh_draws (e : Eng) : (e.fresh).draws = e.draws := rfl
@[simp] theorem Eng.fresh_pins (e : Eng) : (e.fresh).pins = e.pins := rfl
@[simp] theorem Eng.fresh_boot (e : Eng) : (e.fresh).boot = e.boot := rfl
@[simp] theorem Eng.fresh_flash (e : Eng) : (e.fresh).flash = e.flash := rfl
@[simp] theorem Eng.fresh_flt (e : Eng) : (e.fresh).flt = e.flt := rfl
@[simp] theorem Eng.fresh_tl (e : Eng) : (e.fresh).tl = e.tl := rfl
@[simp] theorem Eng.fresh_sealedFor (e : Eng) : (e.fresh).sealedFor = e.sealedFor := rfl
@[simp] theorem Eng.fresh_lastBoundary (e : Eng) : (e.fresh).lastBoundary = e.lastBoundary := rfl
@[simp] theorem Eng.fresh_cmpArmedAt (e : Eng) : (e.fresh).cmpArmedAt = e.cmpArmedAt := rfl
@[simp] theorem Eng.fresh_sched (e : Eng) : (e.fresh).sched = e.sched := rfl
@[simp] theorem Eng.fresh_ports (e : Eng) : (e.fresh).ports = e.ports := rfl
@[simp] theorem Eng.fresh_cls (e : Eng) : (e.fresh).cls = e.cls := rfl
@[simp] theorem Eng.fresh_lanes (e : Eng) : (e.fresh).lanes = e.lanes := rfl
@[simp] theorem Eng.fresh_calWait (e : Eng) : (e.fresh).calWait = e.calWait := rfl
@[simp] theorem Eng.fresh_keyWait (e : Eng) : (e.fresh).keyWait = e.keyWait := rfl
@[simp] theorem Eng.fresh_ans (e : Eng) : (e.fresh).ans = e.ans := rfl
@[simp] theorem Eng.fresh_fwTicks (e : Eng) : (e.fresh).fwTicks = e.fwTicks := rfl
@[simp] theorem Eng.fresh_cals (e : Eng) : (e.fresh).cals = e.cals := rfl
@[simp] theorem Eng.fresh_nts (e : Eng) : (e.fresh).nts = e.nts := rfl
@[simp] theorem Eng.fresh_ptp (e : Eng) : (e.fresh).ptp = e.ptp := rfl
@[simp] theorem Eng.fresh_ups (e : Eng) : (e.fresh).ups = e.ups := rfl
@[simp] theorem Eng.fresh_refins (e : Eng) : (e.fresh).refins = e.refins := rfl
@[simp] theorem Eng.fresh_synces (e : Eng) : (e.fresh).synces = e.synces := rfl
@[simp] theorem Eng.fresh_tod (e : Eng) : (e.fresh).tod = e.tod := rfl
@[simp] theorem Eng.fresh_sibs (e : Eng) : (e.fresh).sibs = e.sibs := rfl
@[simp] theorem Eng.fresh_gnss (e : Eng) : (e.fresh).gnss = e.gnss := rfl
@[simp] theorem Eng.fresh_sel (e : Eng) : (e.fresh).sel = e.sel := rfl
@[simp] theorem Eng.fresh_steer (e : Eng) : (e.fresh).steer = e.steer := rfl
@[simp] theorem Eng.fresh_model (e : Eng) : (e.fresh).model = e.model := rfl
@[simp] theorem Eng.fresh_outs (e : Eng) : (e.fresh).outs = e.outs := rfl
@[simp] theorem Eng.fresh_pk (e : Eng) : (e.fresh).pk = e.pk := rfl
@[simp] theorem Eng.fresh_irq (e : Eng) : (e.fresh).irq = e.irq := rfl
@[simp] theorem Eng.fresh_rxRings (e : Eng) : (e.fresh).rxRings = e.rxRings := rfl
@[simp] theorem Eng.fresh_txRings (e : Eng) : (e.fresh).txRings = e.txRings := rfl
@[simp] theorem Eng.fresh_tails (e : Eng) : (e.fresh).tails = e.tails := rfl
@[simp] theorem Eng.fresh_wins (e : Eng) : (e.fresh).wins = e.wins := rfl
@[simp] theorem Eng.fresh_inbox (e : Eng) : (e.fresh).inbox = e.inbox := rfl
@[simp] theorem Eng.fresh_ptpIn (e : Eng) : (e.fresh).ptpIn = e.ptpIn := rfl
@[simp] theorem Eng.fresh_front (e : Eng) : (e.fresh).front = e.front := rfl
@[simp] theorem Eng.fresh_seg (e : Eng) : (e.fresh).seg = e.seg := rfl
@[simp] theorem Eng.fresh_ctr (e : Eng) : (e.fresh).ctr = e.ctr := rfl
@[simp] theorem Eng.fresh_mon (e : Eng) : (e.fresh).mon = e.mon := rfl
@[simp] theorem Eng.fresh_dump (e : Eng) : (e.fresh).dump = e.dump := rfl

/-! ## Eng.drawn -/

@[simp] theorem Eng.drawn_od (e : Eng) : (e.drawn).od = e.od := rfl
@[simp] theorem Eng.drawn_resp (e : Eng) : (e.drawn).resp = e.resp := rfl
@[simp] theorem Eng.drawn_out (e : Eng) : (e.drawn).out = e.out := rfl
@[simp] theorem Eng.drawn_pins (e : Eng) : (e.drawn).pins = e.pins := rfl
@[simp] theorem Eng.drawn_boot (e : Eng) : (e.drawn).boot = e.boot := rfl
@[simp] theorem Eng.drawn_flash (e : Eng) : (e.drawn).flash = e.flash := rfl
@[simp] theorem Eng.drawn_flt (e : Eng) : (e.drawn).flt = e.flt := rfl
@[simp] theorem Eng.drawn_tl (e : Eng) : (e.drawn).tl = e.tl := rfl
@[simp] theorem Eng.drawn_sealedFor (e : Eng) : (e.drawn).sealedFor = e.sealedFor := rfl
@[simp] theorem Eng.drawn_lastBoundary (e : Eng) : (e.drawn).lastBoundary = e.lastBoundary := rfl
@[simp] theorem Eng.drawn_cmpArmedAt (e : Eng) : (e.drawn).cmpArmedAt = e.cmpArmedAt := rfl
@[simp] theorem Eng.drawn_sched (e : Eng) : (e.drawn).sched = e.sched := rfl
@[simp] theorem Eng.drawn_ports (e : Eng) : (e.drawn).ports = e.ports := rfl
@[simp] theorem Eng.drawn_cls (e : Eng) : (e.drawn).cls = e.cls := rfl
@[simp] theorem Eng.drawn_lanes (e : Eng) : (e.drawn).lanes = e.lanes := rfl
@[simp] theorem Eng.drawn_calWait (e : Eng) : (e.drawn).calWait = e.calWait := rfl
@[simp] theorem Eng.drawn_keyWait (e : Eng) : (e.drawn).keyWait = e.keyWait := rfl
@[simp] theorem Eng.drawn_ans (e : Eng) : (e.drawn).ans = e.ans := rfl
@[simp] theorem Eng.drawn_fwTicks (e : Eng) : (e.drawn).fwTicks = e.fwTicks := rfl
@[simp] theorem Eng.drawn_cals (e : Eng) : (e.drawn).cals = e.cals := rfl
@[simp] theorem Eng.drawn_nts (e : Eng) : (e.drawn).nts = e.nts := rfl
@[simp] theorem Eng.drawn_ptp (e : Eng) : (e.drawn).ptp = e.ptp := rfl
@[simp] theorem Eng.drawn_ups (e : Eng) : (e.drawn).ups = e.ups := rfl
@[simp] theorem Eng.drawn_refins (e : Eng) : (e.drawn).refins = e.refins := rfl
@[simp] theorem Eng.drawn_synces (e : Eng) : (e.drawn).synces = e.synces := rfl
@[simp] theorem Eng.drawn_tod (e : Eng) : (e.drawn).tod = e.tod := rfl
@[simp] theorem Eng.drawn_sibs (e : Eng) : (e.drawn).sibs = e.sibs := rfl
@[simp] theorem Eng.drawn_gnss (e : Eng) : (e.drawn).gnss = e.gnss := rfl
@[simp] theorem Eng.drawn_sel (e : Eng) : (e.drawn).sel = e.sel := rfl
@[simp] theorem Eng.drawn_steer (e : Eng) : (e.drawn).steer = e.steer := rfl
@[simp] theorem Eng.drawn_model (e : Eng) : (e.drawn).model = e.model := rfl
@[simp] theorem Eng.drawn_outs (e : Eng) : (e.drawn).outs = e.outs := rfl
@[simp] theorem Eng.drawn_pk (e : Eng) : (e.drawn).pk = e.pk := rfl
@[simp] theorem Eng.drawn_irq (e : Eng) : (e.drawn).irq = e.irq := rfl
@[simp] theorem Eng.drawn_rxRings (e : Eng) : (e.drawn).rxRings = e.rxRings := rfl
@[simp] theorem Eng.drawn_txRings (e : Eng) : (e.drawn).txRings = e.txRings := rfl
@[simp] theorem Eng.drawn_tails (e : Eng) : (e.drawn).tails = e.tails := rfl
@[simp] theorem Eng.drawn_wins (e : Eng) : (e.drawn).wins = e.wins := rfl
@[simp] theorem Eng.drawn_inbox (e : Eng) : (e.drawn).inbox = e.inbox := rfl
@[simp] theorem Eng.drawn_ptpIn (e : Eng) : (e.drawn).ptpIn = e.ptpIn := rfl
@[simp] theorem Eng.drawn_front (e : Eng) : (e.drawn).front = e.front := rfl
@[simp] theorem Eng.drawn_seg (e : Eng) : (e.drawn).seg = e.seg := rfl
@[simp] theorem Eng.drawn_ctr (e : Eng) : (e.drawn).ctr = e.ctr := rfl
@[simp] theorem Eng.drawn_mon (e : Eng) : (e.drawn).mon = e.mon := rfl
@[simp] theorem Eng.drawn_dump (e : Eng) : (e.drawn).dump = e.dump := rfl

/-! ## Eng.setMoon -/

@[simp] theorem Eng.setMoon_od (e : Eng) (k : Nat) (m : MoonTl) : (e.setMoon k m).od = e.od := rfl
@[simp] theorem Eng.setMoon_resp (e : Eng) (k : Nat) (m : MoonTl) : (e.setMoon k m).resp = e.resp := rfl
@[simp] theorem Eng.setMoon_out (e : Eng) (k : Nat) (m : MoonTl) : (e.setMoon k m).out = e.out := rfl
@[simp] theorem Eng.setMoon_draws (e : Eng) (k : Nat) (m : MoonTl) : (e.setMoon k m).draws = e.draws := rfl
@[simp] theorem Eng.setMoon_pins (e : Eng) (k : Nat) (m : MoonTl) : (e.setMoon k m).pins = e.pins := rfl
@[simp] theorem Eng.setMoon_boot (e : Eng) (k : Nat) (m : MoonTl) : (e.setMoon k m).boot = e.boot := rfl
@[simp] theorem Eng.setMoon_flash (e : Eng) (k : Nat) (m : MoonTl) : (e.setMoon k m).flash = e.flash := rfl
@[simp] theorem Eng.setMoon_flt (e : Eng) (k : Nat) (m : MoonTl) : (e.setMoon k m).flt = e.flt := rfl
@[simp] theorem Eng.setMoon_sealedFor (e : Eng) (k : Nat) (m : MoonTl) : (e.setMoon k m).sealedFor = e.sealedFor := rfl
@[simp] theorem Eng.setMoon_lastBoundary (e : Eng) (k : Nat) (m : MoonTl) : (e.setMoon k m).lastBoundary = e.lastBoundary := rfl
@[simp] theorem Eng.setMoon_cmpArmedAt (e : Eng) (k : Nat) (m : MoonTl) : (e.setMoon k m).cmpArmedAt = e.cmpArmedAt := rfl
@[simp] theorem Eng.setMoon_sched (e : Eng) (k : Nat) (m : MoonTl) : (e.setMoon k m).sched = e.sched := rfl
@[simp] theorem Eng.setMoon_ports (e : Eng) (k : Nat) (m : MoonTl) : (e.setMoon k m).ports = e.ports := rfl
@[simp] theorem Eng.setMoon_cls (e : Eng) (k : Nat) (m : MoonTl) : (e.setMoon k m).cls = e.cls := rfl
@[simp] theorem Eng.setMoon_lanes (e : Eng) (k : Nat) (m : MoonTl) : (e.setMoon k m).lanes = e.lanes := rfl
@[simp] theorem Eng.setMoon_calWait (e : Eng) (k : Nat) (m : MoonTl) : (e.setMoon k m).calWait = e.calWait := rfl
@[simp] theorem Eng.setMoon_keyWait (e : Eng) (k : Nat) (m : MoonTl) : (e.setMoon k m).keyWait = e.keyWait := rfl
@[simp] theorem Eng.setMoon_ans (e : Eng) (k : Nat) (m : MoonTl) : (e.setMoon k m).ans = e.ans := rfl
@[simp] theorem Eng.setMoon_fwTicks (e : Eng) (k : Nat) (m : MoonTl) : (e.setMoon k m).fwTicks = e.fwTicks := rfl
@[simp] theorem Eng.setMoon_cals (e : Eng) (k : Nat) (m : MoonTl) : (e.setMoon k m).cals = e.cals := rfl
@[simp] theorem Eng.setMoon_nts (e : Eng) (k : Nat) (m : MoonTl) : (e.setMoon k m).nts = e.nts := rfl
@[simp] theorem Eng.setMoon_ptp (e : Eng) (k : Nat) (m : MoonTl) : (e.setMoon k m).ptp = e.ptp := rfl
@[simp] theorem Eng.setMoon_ups (e : Eng) (k : Nat) (m : MoonTl) : (e.setMoon k m).ups = e.ups := rfl
@[simp] theorem Eng.setMoon_refins (e : Eng) (k : Nat) (m : MoonTl) : (e.setMoon k m).refins = e.refins := rfl
@[simp] theorem Eng.setMoon_synces (e : Eng) (k : Nat) (m : MoonTl) : (e.setMoon k m).synces = e.synces := rfl
@[simp] theorem Eng.setMoon_tod (e : Eng) (k : Nat) (m : MoonTl) : (e.setMoon k m).tod = e.tod := rfl
@[simp] theorem Eng.setMoon_sibs (e : Eng) (k : Nat) (m : MoonTl) : (e.setMoon k m).sibs = e.sibs := rfl
@[simp] theorem Eng.setMoon_gnss (e : Eng) (k : Nat) (m : MoonTl) : (e.setMoon k m).gnss = e.gnss := rfl
@[simp] theorem Eng.setMoon_sel (e : Eng) (k : Nat) (m : MoonTl) : (e.setMoon k m).sel = e.sel := rfl
@[simp] theorem Eng.setMoon_steer (e : Eng) (k : Nat) (m : MoonTl) : (e.setMoon k m).steer = e.steer := rfl
@[simp] theorem Eng.setMoon_model (e : Eng) (k : Nat) (m : MoonTl) : (e.setMoon k m).model = e.model := rfl
@[simp] theorem Eng.setMoon_outs (e : Eng) (k : Nat) (m : MoonTl) : (e.setMoon k m).outs = e.outs := rfl
@[simp] theorem Eng.setMoon_pk (e : Eng) (k : Nat) (m : MoonTl) : (e.setMoon k m).pk = e.pk := rfl
@[simp] theorem Eng.setMoon_irq (e : Eng) (k : Nat) (m : MoonTl) : (e.setMoon k m).irq = e.irq := rfl
@[simp] theorem Eng.setMoon_rxRings (e : Eng) (k : Nat) (m : MoonTl) : (e.setMoon k m).rxRings = e.rxRings := rfl
@[simp] theorem Eng.setMoon_txRings (e : Eng) (k : Nat) (m : MoonTl) : (e.setMoon k m).txRings = e.txRings := rfl
@[simp] theorem Eng.setMoon_tails (e : Eng) (k : Nat) (m : MoonTl) : (e.setMoon k m).tails = e.tails := rfl
@[simp] theorem Eng.setMoon_wins (e : Eng) (k : Nat) (m : MoonTl) : (e.setMoon k m).wins = e.wins := rfl
@[simp] theorem Eng.setMoon_inbox (e : Eng) (k : Nat) (m : MoonTl) : (e.setMoon k m).inbox = e.inbox := rfl
@[simp] theorem Eng.setMoon_ptpIn (e : Eng) (k : Nat) (m : MoonTl) : (e.setMoon k m).ptpIn = e.ptpIn := rfl
@[simp] theorem Eng.setMoon_front (e : Eng) (k : Nat) (m : MoonTl) : (e.setMoon k m).front = e.front := rfl
@[simp] theorem Eng.setMoon_seg (e : Eng) (k : Nat) (m : MoonTl) : (e.setMoon k m).seg = e.seg := rfl
@[simp] theorem Eng.setMoon_ctr (e : Eng) (k : Nat) (m : MoonTl) : (e.setMoon k m).ctr = e.ctr := rfl
@[simp] theorem Eng.setMoon_mon (e : Eng) (k : Nat) (m : MoonTl) : (e.setMoon k m).mon = e.mon := rfl
@[simp] theorem Eng.setMoon_dump (e : Eng) (k : Nat) (m : MoonTl) : (e.setMoon k m).dump = e.dump := rfl

@[simp] theorem Eng.set_od (e : Eng) (k : Key) (v : Int) : (e.set k v).od = sset e.od k v := rfl
@[simp] theorem Eng.emit_out (e : Eng) (o : Output) : (e.emit o).out = e.out ++ [o] := rfl
@[simp] theorem Eng.fresh_out (e : Eng) : e.fresh.out = [] := rfl
@[simp] theorem Eng.drawn_draws (e : Eng) : e.drawn.draws = e.draws + 1 := rfl
@[simp] theorem Eng.setMoon_tl (e : Eng) (k : Nat) (m : MoonTl) : (e.setMoon k m).tl = setNth e.tl k m := rfl

/-! ## The state -/

@[simp] theorem State.ctx_core (s : State) : s.ctx.core = s.core := rfl
@[simp] theorem State.ctx_fuses (s : State) : s.ctx.fuses = s.fuses := rfl
@[simp] theorem State.ctx_tick (s : State) : s.ctx.tick = s.core.tick := rfl

end Sys2Proof.Machine
end

