-- ==== Sys2Proof/Laws/Ops.lean ====
section
/-! SUPPORT. What each shared operation can do, said once: the sparse tables and the object store, event counting, interrupts, the
accounting of a write, and the frames a command runs in. -/

namespace Sys2Proof.Machine

/-! ## Sparse tables -/

@[simp] theorem tget_nil {α : Type} (k : Nat) : tget ([] : Tbl α) k = none := rfl

theorem tget_tput_same {α : Type} (t : Tbl α) (k : Nat) (v : α) : tget (tput t k v) k = some v := by
  induction t with
  | nil => simp [tput, tget]
  | cons p t ih =>
    obtain ⟨a, x⟩ := p
    unfold tput
    split
    · simp [tget]
    · split
      · simp [tget]
      · simp [tget, *]

theorem tget_tput_other {α : Type} (t : Tbl α) (k j : Nat) (v : α) (h : j ≠ k) : tget (tput t k v) j = tget t j := by
  induction t with
  | nil => simp [tput, tget, h.symm]
  | cons p t ih =>
    obtain ⟨a, x⟩ := p
    unfold tput
    split
    · simp [tget, h.symm]
    · split
      · next h1 h2 => subst h2; simp [tget, h.symm]
      · simp [tget, ih]

theorem tget_tdel_same {α : Type} (t : Tbl α) (k : Nat) : tget (tdel t k) k = none := by
  induction t with
  | nil => rfl
  | cons p t ih =>
    obtain ⟨a, x⟩ := p
    by_cases h : a = k
    · subst h; simpa [tdel, List.filter_cons] using ih
    · simpa [tdel, List.filter_cons, h, tget] using ih

theorem tget_tdel_other {α : Type} (t : Tbl α) (k j : Nat) (h : j ≠ k) : tget (tdel t k) j = tget t j := by
  induction t with
  | nil => rfl
  | cons p t ih =>
    obtain ⟨a, x⟩ := p
    by_cases ha : a = k
    · subst ha; simpa [tdel, List.filter_cons, tget, h.symm] using ih
    · by_cases hj : a = j
      · subst hj; simp [tdel, tget, ha]
      · simpa [tdel, List.filter_cons, ha, tget, hj] using ih

/-! ## The object store -/

/-- What an object reads as after a write of an object. -/
theorem sget_sset (s : Store) (k j : Key) (v : Int) : sget (sset s k v) j = if j = k then v else sget s j := by
  unfold sget sset
  split
  · next h =>
    split
    · next hj => subst hj; rw [tget_tdel_same]; simpa using h.symm
    · next hj => rw [tget_tdel_other _ _ _ hj]
  · split
    · next hj => subst hj; rw [tget_tput_same]; rfl
    · next hj => rw [tget_tput_other _ _ _ _ hj]

theorem Eng.set_i (e : Eng) (k j : Key) (v : Int) : (e.set k v).i j = if j = k then v else e.i j := sget_sset ..

@[simp] theorem Eng.set_i_same (e : Eng) (k : Key) (v : Int) : (e.set k v).i k = v := by simp [Eng.set_i]

theorem Eng.set_i_other (e : Eng) (k j : Key) (v : Int) (h : j ≠ k) : (e.set k v).i j = e.i j := by simp [Eng.set_i, h]

theorem Eng.add_i (e : Eng) (w : Nat) (k j : Key) (n : Nat) :
    (e.add w k n).i j = if j = k then (((e.n k + n) % 2 ^ w : Nat) : Int) else e.i j := Eng.set_i ..

theorem Eng.inc32_i (e : Eng) (k j : Key) : (e.inc32 k).i j = if j = k then (((e.n k + 1) % 2 ^ 32 : Nat) : Int) else e.i j :=
  Eng.set_i ..

theorem Eng.inc64_i (e : Eng) (k j : Key) : (e.inc64 k).i j = if j = k then (((e.n k + 1) % 2 ^ 64 : Nat) : Int) else e.i j :=
  Eng.set_i ..

theorem Eng.orb_i (e : Eng) (k j : Key) (m : Nat) : (e.orb k m).i j = if j = k then ((e.n k ||| m : Nat) : Int) else e.i j :=
  Eng.set_i ..

theorem Eng.andc_i (e : Eng) (k j : Key) (m : Nat) : (e.andc k m).i j = if j = k then ((clearBits (e.n k) m : Nat) : Int) else e.i j :=
  Eng.set_i ..

@[simp] theorem Eng.fresh_i (e : Eng) (j : Key) : e.fresh.i j = e.i j := rfl
@[simp] theorem Eng.fresh_n (e : Eng) (j : Key) : e.fresh.n j = e.n j := rfl
@[simp] theorem Eng.fresh_b (e : Eng) (j : Key) : e.fresh.b j = e.b j := rfl
@[simp] theorem Eng.emit_i (e : Eng) (o : Output) (j : Key) : (e.emit o).i j = e.i j := rfl
@[simp] theorem Eng.drawn_i (e : Eng) (j : Key) : e.drawn.i j = e.i j := rfl
@[simp] theorem Eng.setMoon_i (e : Eng) (k : Nat) (m : MoonTl) (j : Key) : (e.setMoon k m).i j = e.i j := rfl
@[simp] theorem State.eng0_i (s : State) (j : Key) : s.eng0.i j = s.eng.i j := rfl
@[simp] theorem State.eng0_n (s : State) (j : Key) : s.eng0.n j = s.eng.n j := rfl
@[simp] theorem State.eng0_b (s : State) (j : Key) : s.eng0.b j = s.eng.b j := rfl

@[simp] theorem State.eng0_od (s : State) : s.eng0.od = s.eng.od := rfl
@[simp] theorem State.eng0_resp (s : State) : s.eng0.resp = s.eng.resp := rfl
@[simp] theorem State.eng0_draws (s : State) : s.eng0.draws = s.eng.draws := rfl
@[simp] theorem State.eng0_pins (s : State) : s.eng0.pins = s.eng.pins := rfl
@[simp] theorem State.eng0_boot (s : State) : s.eng0.boot = s.eng.boot := rfl
@[simp] theorem State.eng0_flash (s : State) : s.eng0.flash = s.eng.flash := rfl
@[simp] theorem State.eng0_flt (s : State) : s.eng0.flt = s.eng.flt := rfl
@[simp] theorem State.eng0_tl (s : State) : s.eng0.tl = s.eng.tl := rfl
@[simp] theorem State.eng0_sealedFor (s : State) : s.eng0.sealedFor = s.eng.sealedFor := rfl
@[simp] theorem State.eng0_lastBoundary (s : State) : s.eng0.lastBoundary = s.eng.lastBoundary := rfl
@[simp] theorem State.eng0_cmpArmedAt (s : State) : s.eng0.cmpArmedAt = s.eng.cmpArmedAt := rfl
@[simp] theorem State.eng0_sched (s : State) : s.eng0.sched = s.eng.sched := rfl
@[simp] theorem State.eng0_ports (s : State) : s.eng0.ports = s.eng.ports := rfl
@[simp] theorem State.eng0_cls (s : State) : s.eng0.cls = s.eng.cls := rfl
@[simp] theorem State.eng0_lanes (s : State) : s.eng0.lanes = s.eng.lanes := rfl
@[simp] theorem State.eng0_calWait (s : State) : s.eng0.calWait = s.eng.calWait := rfl
@[simp] theorem State.eng0_keyWait (s : State) : s.eng0.keyWait = s.eng.keyWait := rfl
@[simp] theorem State.eng0_ans (s : State) : s.eng0.ans = s.eng.ans := rfl
@[simp] theorem State.eng0_fwTicks (s : State) : s.eng0.fwTicks = s.eng.fwTicks := rfl
@[simp] theorem State.eng0_cals (s : State) : s.eng0.cals = s.eng.cals := rfl
@[simp] theorem State.eng0_nts (s : State) : s.eng0.nts = s.eng.nts := rfl
@[simp] theorem State.eng0_ptp (s : State) : s.eng0.ptp = s.eng.ptp := rfl
@[simp] theorem State.eng0_ups (s : State) : s.eng0.ups = s.eng.ups := rfl
@[simp] theorem State.eng0_refins (s : State) : s.eng0.refins = s.eng.refins := rfl
@[simp] theorem State.eng0_synces (s : State) : s.eng0.synces = s.eng.synces := rfl
@[simp] theorem State.eng0_tod (s : State) : s.eng0.tod = s.eng.tod := rfl
@[simp] theorem State.eng0_sibs (s : State) : s.eng0.sibs = s.eng.sibs := rfl
@[simp] theorem State.eng0_gnss (s : State) : s.eng0.gnss = s.eng.gnss := rfl
@[simp] theorem State.eng0_sel (s : State) : s.eng0.sel = s.eng.sel := rfl
@[simp] theorem State.eng0_steer (s : State) : s.eng0.steer = s.eng.steer := rfl
@[simp] theorem State.eng0_model (s : State) : s.eng0.model = s.eng.model := rfl
@[simp] theorem State.eng0_outs (s : State) : s.eng0.outs = s.eng.outs := rfl
@[simp] theorem State.eng0_pk (s : State) : s.eng0.pk = s.eng.pk := rfl
@[simp] theorem State.eng0_irq (s : State) : s.eng0.irq = s.eng.irq := rfl
@[simp] theorem State.eng0_rxRings (s : State) : s.eng0.rxRings = s.eng.rxRings := rfl
@[simp] theorem State.eng0_txRings (s : State) : s.eng0.txRings = s.eng.txRings := rfl
@[simp] theorem State.eng0_tails (s : State) : s.eng0.tails = s.eng.tails := rfl
@[simp] theorem State.eng0_wins (s : State) : s.eng0.wins = s.eng.wins := rfl
@[simp] theorem State.eng0_inbox (s : State) : s.eng0.inbox = s.eng.inbox := rfl
@[simp] theorem State.eng0_ptpIn (s : State) : s.eng0.ptpIn = s.eng.ptpIn := rfl
@[simp] theorem State.eng0_front (s : State) : s.eng0.front = s.eng.front := rfl
@[simp] theorem State.eng0_seg (s : State) : s.eng0.seg = s.eng.seg := rfl
@[simp] theorem State.eng0_ctr (s : State) : s.eng0.ctr = s.eng.ctr := rfl
@[simp] theorem State.eng0_mon (s : State) : s.eng0.mon = s.eng.mon := rfl
@[simp] theorem State.eng0_dump (s : State) : s.eng0.dump = s.eng.dump := rfl

/-! ## The canonical forms -/

theorem tsorted_cons {α : Type} (a : Nat) (x : α) (t : Tbl α) :
    tsorted ((a, x) :: t) = true ↔ (∀ p ∈ t, a < p.1) ∧ tsorted t = true := by
  induction t generalizing a x with
  | nil => simp [tsorted]
  | cons q t ih =>
    obtain ⟨b, y⟩ := q
    simp only [tsorted, Bool.and_eq_true, decide_eq_true_eq, List.mem_cons, forall_eq_or_imp]
    constructor
    · rintro ⟨h1, h2⟩
      exact ⟨⟨h1, fun p hp => Nat.lt_trans h1 (((ih b y).1 h2).1 p hp)⟩, h2⟩
    · rintro ⟨⟨h1, -⟩, h2⟩
      exact ⟨h1, h2⟩

theorem tput_mem {α : Type} (t : Tbl α) (k : Nat) (v : α) (p : Nat × α) (h : p ∈ tput t k v) : p = (k, v) ∨ p ∈ t := by
  induction t with
  | nil => simpa [tput] using h
  | cons q t ih =>
    obtain ⟨a, x⟩ := q
    unfold tput at h
    split at h
    · simpa using h
    · split at h
      · rcases List.mem_cons.1 h with h | h
        · exact .inl h
        · exact .inr (List.mem_cons_of_mem _ h)
      · rcases List.mem_cons.1 h with h | h
        · exact .inr (h ▸ List.mem_cons_self ..)
        · rcases ih h with h | h
          · exact .inl h
          · exact .inr (List.mem_cons_of_mem _ h)

/-- Putting an entry keeps the keys rising. -/
theorem tput_sorted {α : Type} (t : Tbl α) (k : Nat) (v : α) (h : tsorted t = true) : tsorted (tput t k v) = true := by
  induction t with
  | nil => rfl
  | cons q t ih =>
    obtain ⟨a, x⟩ := q
    have ⟨h1, h2⟩ := (tsorted_cons a x t).1 h
    unfold tput
    split
    · next hk =>
      refine (tsorted_cons ..).2 ⟨fun p hp => ?_, h⟩
      rcases List.mem_cons.1 hp with hp | hp
      · simpa [hp] using hk
      · exact Nat.lt_trans hk (h1 p hp)
    · split
      · next hk => subst hk; exact (tsorted_cons ..).2 ⟨h1, h2⟩
      · next hn hk =>
        refine (tsorted_cons ..).2 ⟨fun p hp => ?_, ih h2⟩
        rcases tput_mem t k v p hp with hp | hp
        · subst hp; show a < k; omega
        · exact h1 p hp

/-- Removing entries keeps the keys rising. -/
theorem tfilter_sorted {α : Type} (t : Tbl α) (f : Nat × α → Bool) (h : tsorted t = true) : tsorted (t.filter f) = true := by
  induction t with
  | nil => rfl
  | cons q t ih =>
    obtain ⟨a, x⟩ := q
    have ⟨h1, h2⟩ := (tsorted_cons a x t).1 h
    rw [List.filter_cons]
    split
    · exact (tsorted_cons ..).2 ⟨fun p hp => h1 p (List.mem_filter.1 hp).1, ih h2⟩
    · exact ih h2

/-- Writing an object keeps the store's canonical form. -/
theorem sset_wf (s : Store) (k : Key) (v : Int) (h : s.wf = true) : (sset s k v).wf = true := by
  simp only [Store.wf, Bool.and_eq_true, List.all_eq_true] at h ⊢
  unfold sset
  split
  · exact ⟨tfilter_sorted _ _ h.1, fun p hp => h.2 p (List.mem_filter.1 hp).1⟩
  · next hv =>
    refine ⟨tput_sorted _ _ _ h.1, fun p hp => ?_⟩
    rcases tput_mem s k v p hp with hp | hp
    · simpa [hp] using hv
    · exact h.2 p hp

/-! ## Event counting -/

/-- Setting a wrap bit touches the counter engine and CNT_STATUS.sticky alone. -/
theorem Eng.wrapBit_frame (e : Eng) (page i : Nat) :
    e.wrapBit page i = { e with od := (e.wrapBit page i).od, ctr := (e.wrapBit page i).ctr } := rfl

theorem Eng.wrapBit_i (e : Eng) (page i : Nat) (j : Key) (h : j ≠ Od.CNT_STATUS.sticky) : (e.wrapBit page i).i j = e.i j := by
  simp [Eng.wrapBit, Eng.orb_i, h]; rfl

/-- Counting touches the counter engine and CNT_STATUS.sticky alone. -/
theorem Eng.countWindows_frame (e : Eng) (t ev n : Nat) :
    (e.countWindows t ev n = { e with od := (e.countWindows t ev n).od, ctr := (e.countWindows t ev n).ctr }) ∧
    ∀ j, j ≠ Od.CNT_STATUS.sticky → (e.countWindows t ev n).i j = e.i j := by
  unfold Eng.countWindows
  generalize e.ctr.active.filter _ = l
  induction l generalizing e with
  | nil => exact ⟨rfl, fun _ _ => rfl⟩
  | cons p l ih =>
    simp only [List.foldl_cons]
    refine ⟨?_, fun j hj => ?_⟩
    · refine (ih _).1.trans ?_
      split <;> rfl
    · rw [(ih _).2 j hj]
      split
      · rfl
      · rw [Eng.wrapBit_i _ _ _ _ hj]; rfl

theorem Eng.countN_frame (e : Eng) (x : Ctx) (ev n : Nat) :
    e.countN x ev n = { e with od := (e.countN x ev n).od, ctr := (e.countN x ev n).ctr } := by
  unfold Eng.countN
  refine (Eng.countWindows_frame _ _ _ _).1.trans ?_
  dsimp only
  split <;> rfl

theorem Eng.countN_i (e : Eng) (x : Ctx) (ev n : Nat) (j : Key) (h : j ≠ Od.CNT_STATUS.sticky) : (e.countN x ev n).i j = e.i j := by
  unfold Eng.countN
  rw [(Eng.countWindows_frame _ _ _ _).2 j h]
  split
  · rfl
  · rw [Eng.wrapBit_i _ _ _ _ h]; rfl

theorem Eng.count_frame (e : Eng) (x : Ctx) (ev : Nat) :
    e.count x ev = { e with od := (e.count x ev).od, ctr := (e.count x ev).ctr } := Eng.countN_frame ..

theorem Eng.count_i (e : Eng) (x : Ctx) (ev : Nat) (j : Key) (h : j ≠ Od.CNT_STATUS.sticky) : (e.count x ev).i j = e.i j :=
  Eng.countN_i _ _ _ _ _ h

@[simp] theorem Eng.countN_resp (e : Eng) (x : Ctx) (ev n : Nat) : (e.countN x ev n).resp = e.resp := (congrArg Eng.resp (Eng.countN_frame e x ev n) :)
@[simp] theorem Eng.count_resp (e : Eng) (x : Ctx) (ev : Nat) : (e.count x ev).resp = e.resp := (congrArg Eng.resp (Eng.count_frame e x ev) :)
@[simp] theorem Eng.countN_out (e : Eng) (x : Ctx) (ev n : Nat) : (e.countN x ev n).out = e.out := (congrArg Eng.out (Eng.countN_frame e x ev n) :)
@[simp] theorem Eng.count_out (e : Eng) (x : Ctx) (ev : Nat) : (e.count x ev).out = e.out := (congrArg Eng.out (Eng.count_frame e x ev) :)
@[simp] theorem Eng.countN_draws (e : Eng) (x : Ctx) (ev n : Nat) : (e.countN x ev n).draws = e.draws := (congrArg Eng.draws (Eng.countN_frame e x ev n) :)
@[simp] theorem Eng.count_draws (e : Eng) (x : Ctx) (ev : Nat) : (e.count x ev).draws = e.draws := (congrArg Eng.draws (Eng.count_frame e x ev) :)
@[simp] theorem Eng.countN_pins (e : Eng) (x : Ctx) (ev n : Nat) : (e.countN x ev n).pins = e.pins := (congrArg Eng.pins (Eng.countN_frame e x ev n) :)
@[simp] theorem Eng.count_pins (e : Eng) (x : Ctx) (ev : Nat) : (e.count x ev).pins = e.pins := (congrArg Eng.pins (Eng.count_frame e x ev) :)
@[simp] theorem Eng.countN_boot (e : Eng) (x : Ctx) (ev n : Nat) : (e.countN x ev n).boot = e.boot := (congrArg Eng.boot (Eng.countN_frame e x ev n) :)
@[simp] theorem Eng.count_boot (e : Eng) (x : Ctx) (ev : Nat) : (e.count x ev).boot = e.boot := (congrArg Eng.boot (Eng.count_frame e x ev) :)
@[simp] theorem Eng.countN_flash (e : Eng) (x : Ctx) (ev n : Nat) : (e.countN x ev n).flash = e.flash := (congrArg Eng.flash (Eng.countN_frame e x ev n) :)
@[simp] theorem Eng.count_flash (e : Eng) (x : Ctx) (ev : Nat) : (e.count x ev).flash = e.flash := (congrArg Eng.flash (Eng.count_frame e x ev) :)
@[simp] theorem Eng.countN_flt (e : Eng) (x : Ctx) (ev n : Nat) : (e.countN x ev n).flt = e.flt := (congrArg Eng.flt (Eng.countN_frame e x ev n) :)
@[simp] theorem Eng.count_flt (e : Eng) (x : Ctx) (ev : Nat) : (e.count x ev).flt = e.flt := (congrArg Eng.flt (Eng.count_frame e x ev) :)
@[simp] theorem Eng.countN_tl (e : Eng) (x : Ctx) (ev n : Nat) : (e.countN x ev n).tl = e.tl := (congrArg Eng.tl (Eng.countN_frame e x ev n) :)
@[simp] theorem Eng.count_tl (e : Eng) (x : Ctx) (ev : Nat) : (e.count x ev).tl = e.tl := (congrArg Eng.tl (Eng.count_frame e x ev) :)
@[simp] theorem Eng.countN_sealedFor (e : Eng) (x : Ctx) (ev n : Nat) : (e.countN x ev n).sealedFor = e.sealedFor := (congrArg Eng.sealedFor (Eng.countN_frame e x ev n) :)
@[simp] theorem Eng.count_sealedFor (e : Eng) (x : Ctx) (ev : Nat) : (e.count x ev).sealedFor = e.sealedFor := (congrArg Eng.sealedFor (Eng.count_frame e x ev) :)
@[simp] theorem Eng.countN_lastBoundary (e : Eng) (x : Ctx) (ev n : Nat) : (e.countN x ev n).lastBoundary = e.lastBoundary := (congrArg Eng.lastBoundary (Eng.countN_frame e x ev n) :)
@[simp] theorem Eng.count_lastBoundary (e : Eng) (x : Ctx) (ev : Nat) : (e.count x ev).lastBoundary = e.lastBoundary := (congrArg Eng.lastBoundary (Eng.count_frame e x ev) :)
@[simp] theorem Eng.countN_cmpArmedAt (e : Eng) (x : Ctx) (ev n : Nat) : (e.countN x ev n).cmpArmedAt = e.cmpArmedAt := (congrArg Eng.cmpArmedAt (Eng.countN_frame e x ev n) :)
@[simp] theorem Eng.count_cmpArmedAt (e : Eng) (x : Ctx) (ev : Nat) : (e.count x ev).cmpArmedAt = e.cmpArmedAt := (congrArg Eng.cmpArmedAt (Eng.count_frame e x ev) :)
@[simp] theorem Eng.countN_sched (e : Eng) (x : Ctx) (ev n : Nat) : (e.countN x ev n).sched = e.sched := (congrArg Eng.sched (Eng.countN_frame e x ev n) :)
@[simp] theorem Eng.count_sched (e : Eng) (x : Ctx) (ev : Nat) : (e.count x ev).sched = e.sched := (congrArg Eng.sched (Eng.count_frame e x ev) :)
@[simp] theorem Eng.countN_ports (e : Eng) (x : Ctx) (ev n : Nat) : (e.countN x ev n).ports = e.ports := (congrArg Eng.ports (Eng.countN_frame e x ev n) :)
@[simp] theorem Eng.count_ports (e : Eng) (x : Ctx) (ev : Nat) : (e.count x ev).ports = e.ports := (congrArg Eng.ports (Eng.count_frame e x ev) :)
@[simp] theorem Eng.countN_cls (e : Eng) (x : Ctx) (ev n : Nat) : (e.countN x ev n).cls = e.cls := (congrArg Eng.cls (Eng.countN_frame e x ev n) :)
@[simp] theorem Eng.count_cls (e : Eng) (x : Ctx) (ev : Nat) : (e.count x ev).cls = e.cls := (congrArg Eng.cls (Eng.count_frame e x ev) :)
@[simp] theorem Eng.countN_lanes (e : Eng) (x : Ctx) (ev n : Nat) : (e.countN x ev n).lanes = e.lanes := (congrArg Eng.lanes (Eng.countN_frame e x ev n) :)
@[simp] theorem Eng.count_lanes (e : Eng) (x : Ctx) (ev : Nat) : (e.count x ev).lanes = e.lanes := (congrArg Eng.lanes (Eng.count_frame e x ev) :)
@[simp] theorem Eng.countN_calWait (e : Eng) (x : Ctx) (ev n : Nat) : (e.countN x ev n).calWait = e.calWait := (congrArg Eng.calWait (Eng.countN_frame e x ev n) :)
@[simp] theorem Eng.count_calWait (e : Eng) (x : Ctx) (ev : Nat) : (e.count x ev).calWait = e.calWait := (congrArg Eng.calWait (Eng.count_frame e x ev) :)
@[simp] theorem Eng.countN_keyWait (e : Eng) (x : Ctx) (ev n : Nat) : (e.countN x ev n).keyWait = e.keyWait := (congrArg Eng.keyWait (Eng.countN_frame e x ev n) :)
@[simp] theorem Eng.count_keyWait (e : Eng) (x : Ctx) (ev : Nat) : (e.count x ev).keyWait = e.keyWait := (congrArg Eng.keyWait (Eng.count_frame e x ev) :)
@[simp] theorem Eng.countN_ans (e : Eng) (x : Ctx) (ev n : Nat) : (e.countN x ev n).ans = e.ans := (congrArg Eng.ans (Eng.countN_frame e x ev n) :)
@[simp] theorem Eng.count_ans (e : Eng) (x : Ctx) (ev : Nat) : (e.count x ev).ans = e.ans := (congrArg Eng.ans (Eng.count_frame e x ev) :)
@[simp] theorem Eng.countN_fwTicks (e : Eng) (x : Ctx) (ev n : Nat) : (e.countN x ev n).fwTicks = e.fwTicks := (congrArg Eng.fwTicks (Eng.countN_frame e x ev n) :)
@[simp] theorem Eng.count_fwTicks (e : Eng) (x : Ctx) (ev : Nat) : (e.count x ev).fwTicks = e.fwTicks := (congrArg Eng.fwTicks (Eng.count_frame e x ev) :)
@[simp] theorem Eng.countN_cals (e : Eng) (x : Ctx) (ev n : Nat) : (e.countN x ev n).cals = e.cals := (congrArg Eng.cals (Eng.countN_frame e x ev n) :)
@[simp] theorem Eng.count_cals (e : Eng) (x : Ctx) (ev : Nat) : (e.count x ev).cals = e.cals := (congrArg Eng.cals (Eng.count_frame e x ev) :)
@[simp] theorem Eng.countN_nts (e : Eng) (x : Ctx) (ev n : Nat) : (e.countN x ev n).nts = e.nts := (congrArg Eng.nts (Eng.countN_frame e x ev n) :)
@[simp] theorem Eng.count_nts (e : Eng) (x : Ctx) (ev : Nat) : (e.count x ev).nts = e.nts := (congrArg Eng.nts (Eng.count_frame e x ev) :)
@[simp] theorem Eng.countN_ptp (e : Eng) (x : Ctx) (ev n : Nat) : (e.countN x ev n).ptp = e.ptp := (congrArg Eng.ptp (Eng.countN_frame e x ev n) :)
@[simp] theorem Eng.count_ptp (e : Eng) (x : Ctx) (ev : Nat) : (e.count x ev).ptp = e.ptp := (congrArg Eng.ptp (Eng.count_frame e x ev) :)
@[simp] theorem Eng.countN_ups (e : Eng) (x : Ctx) (ev n : Nat) : (e.countN x ev n).ups = e.ups := (congrArg Eng.ups (Eng.countN_frame e x ev n) :)
@[simp] theorem Eng.count_ups (e : Eng) (x : Ctx) (ev : Nat) : (e.count x ev).ups = e.ups := (congrArg Eng.ups (Eng.count_frame e x ev) :)
@[simp] theorem Eng.countN_refins (e : Eng) (x : Ctx) (ev n : Nat) : (e.countN x ev n).refins = e.refins := (congrArg Eng.refins (Eng.countN_frame e x ev n) :)
@[simp] theorem Eng.count_refins (e : Eng) (x : Ctx) (ev : Nat) : (e.count x ev).refins = e.refins := (congrArg Eng.refins (Eng.count_frame e x ev) :)
@[simp] theorem Eng.countN_synces (e : Eng) (x : Ctx) (ev n : Nat) : (e.countN x ev n).synces = e.synces := (congrArg Eng.synces (Eng.countN_frame e x ev n) :)
@[simp] theorem Eng.count_synces (e : Eng) (x : Ctx) (ev : Nat) : (e.count x ev).synces = e.synces := (congrArg Eng.synces (Eng.count_frame e x ev) :)
@[simp] theorem Eng.countN_tod (e : Eng) (x : Ctx) (ev n : Nat) : (e.countN x ev n).tod = e.tod := (congrArg Eng.tod (Eng.countN_frame e x ev n) :)
@[simp] theorem Eng.count_tod (e : Eng) (x : Ctx) (ev : Nat) : (e.count x ev).tod = e.tod := (congrArg Eng.tod (Eng.count_frame e x ev) :)
@[simp] theorem Eng.countN_sibs (e : Eng) (x : Ctx) (ev n : Nat) : (e.countN x ev n).sibs = e.sibs := (congrArg Eng.sibs (Eng.countN_frame e x ev n) :)
@[simp] theorem Eng.count_sibs (e : Eng) (x : Ctx) (ev : Nat) : (e.count x ev).sibs = e.sibs := (congrArg Eng.sibs (Eng.count_frame e x ev) :)
@[simp] theorem Eng.countN_gnss (e : Eng) (x : Ctx) (ev n : Nat) : (e.countN x ev n).gnss = e.gnss := (congrArg Eng.gnss (Eng.countN_frame e x ev n) :)
@[simp] theorem Eng.count_gnss (e : Eng) (x : Ctx) (ev : Nat) : (e.count x ev).gnss = e.gnss := (congrArg Eng.gnss (Eng.count_frame e x ev) :)
@[simp] theorem Eng.countN_sel (e : Eng) (x : Ctx) (ev n : Nat) : (e.countN x ev n).sel = e.sel := (congrArg Eng.sel (Eng.countN_frame e x ev n) :)
@[simp] theorem Eng.count_sel (e : Eng) (x : Ctx) (ev : Nat) : (e.count x ev).sel = e.sel := (congrArg Eng.sel (Eng.count_frame e x ev) :)
@[simp] theorem Eng.countN_steer (e : Eng) (x : Ctx) (ev n : Nat) : (e.countN x ev n).steer = e.steer := (congrArg Eng.steer (Eng.countN_frame e x ev n) :)
@[simp] theorem Eng.count_steer (e : Eng) (x : Ctx) (ev : Nat) : (e.count x ev).steer = e.steer := (congrArg Eng.steer (Eng.count_frame e x ev) :)
@[simp] theorem Eng.countN_model (e : Eng) (x : Ctx) (ev n : Nat) : (e.countN x ev n).model = e.model := (congrArg Eng.model (Eng.countN_frame e x ev n) :)
@[simp] theorem Eng.count_model (e : Eng) (x : Ctx) (ev : Nat) : (e.count x ev).model = e.model := (congrArg Eng.model (Eng.count_frame e x ev) :)
@[simp] theorem Eng.countN_outs (e : Eng) (x : Ctx) (ev n : Nat) : (e.countN x ev n).outs = e.outs := (congrArg Eng.outs (Eng.countN_frame e x ev n) :)
@[simp] theorem Eng.count_outs (e : Eng) (x : Ctx) (ev : Nat) : (e.count x ev).outs = e.outs := (congrArg Eng.outs (Eng.count_frame e x ev) :)
@[simp] theorem Eng.countN_pk (e : Eng) (x : Ctx) (ev n : Nat) : (e.countN x ev n).pk = e.pk := (congrArg Eng.pk (Eng.countN_frame e x ev n) :)
@[simp] theorem Eng.count_pk (e : Eng) (x : Ctx) (ev : Nat) : (e.count x ev).pk = e.pk := (congrArg Eng.pk (Eng.count_frame e x ev) :)
@[simp] theorem Eng.countN_irq (e : Eng) (x : Ctx) (ev n : Nat) : (e.countN x ev n).irq = e.irq := (congrArg Eng.irq (Eng.countN_frame e x ev n) :)
@[simp] theorem Eng.count_irq (e : Eng) (x : Ctx) (ev : Nat) : (e.count x ev).irq = e.irq := (congrArg Eng.irq (Eng.count_frame e x ev) :)
@[simp] theorem Eng.countN_rxRings (e : Eng) (x : Ctx) (ev n : Nat) : (e.countN x ev n).rxRings = e.rxRings := (congrArg Eng.rxRings (Eng.countN_frame e x ev n) :)
@[simp] theorem Eng.count_rxRings (e : Eng) (x : Ctx) (ev : Nat) : (e.count x ev).rxRings = e.rxRings := (congrArg Eng.rxRings (Eng.count_frame e x ev) :)
@[simp] theorem Eng.countN_txRings (e : Eng) (x : Ctx) (ev n : Nat) : (e.countN x ev n).txRings = e.txRings := (congrArg Eng.txRings (Eng.countN_frame e x ev n) :)
@[simp] theorem Eng.count_txRings (e : Eng) (x : Ctx) (ev : Nat) : (e.count x ev).txRings = e.txRings := (congrArg Eng.txRings (Eng.count_frame e x ev) :)
@[simp] theorem Eng.countN_tails (e : Eng) (x : Ctx) (ev n : Nat) : (e.countN x ev n).tails = e.tails := (congrArg Eng.tails (Eng.countN_frame e x ev n) :)
@[simp] theorem Eng.count_tails (e : Eng) (x : Ctx) (ev : Nat) : (e.count x ev).tails = e.tails := (congrArg Eng.tails (Eng.count_frame e x ev) :)
@[simp] theorem Eng.countN_wins (e : Eng) (x : Ctx) (ev n : Nat) : (e.countN x ev n).wins = e.wins := (congrArg Eng.wins (Eng.countN_frame e x ev n) :)
@[simp] theorem Eng.count_wins (e : Eng) (x : Ctx) (ev : Nat) : (e.count x ev).wins = e.wins := (congrArg Eng.wins (Eng.count_frame e x ev) :)
@[simp] theorem Eng.countN_inbox (e : Eng) (x : Ctx) (ev n : Nat) : (e.countN x ev n).inbox = e.inbox := (congrArg Eng.inbox (Eng.countN_frame e x ev n) :)
@[simp] theorem Eng.count_inbox (e : Eng) (x : Ctx) (ev : Nat) : (e.count x ev).inbox = e.inbox := (congrArg Eng.inbox (Eng.count_frame e x ev) :)
@[simp] theorem Eng.countN_ptpIn (e : Eng) (x : Ctx) (ev n : Nat) : (e.countN x ev n).ptpIn = e.ptpIn := (congrArg Eng.ptpIn (Eng.countN_frame e x ev n) :)
@[simp] theorem Eng.count_ptpIn (e : Eng) (x : Ctx) (ev : Nat) : (e.count x ev).ptpIn = e.ptpIn := (congrArg Eng.ptpIn (Eng.count_frame e x ev) :)
@[simp] theorem Eng.countN_front (e : Eng) (x : Ctx) (ev n : Nat) : (e.countN x ev n).front = e.front := (congrArg Eng.front (Eng.countN_frame e x ev n) :)
@[simp] theorem Eng.count_front (e : Eng) (x : Ctx) (ev : Nat) : (e.count x ev).front = e.front := (congrArg Eng.front (Eng.count_frame e x ev) :)
@[simp] theorem Eng.countN_seg (e : Eng) (x : Ctx) (ev n : Nat) : (e.countN x ev n).seg = e.seg := (congrArg Eng.seg (Eng.countN_frame e x ev n) :)
@[simp] theorem Eng.count_seg (e : Eng) (x : Ctx) (ev : Nat) : (e.count x ev).seg = e.seg := (congrArg Eng.seg (Eng.count_frame e x ev) :)
@[simp] theorem Eng.countN_mon (e : Eng) (x : Ctx) (ev n : Nat) : (e.countN x ev n).mon = e.mon := (congrArg Eng.mon (Eng.countN_frame e x ev n) :)
@[simp] theorem Eng.count_mon (e : Eng) (x : Ctx) (ev : Nat) : (e.count x ev).mon = e.mon := (congrArg Eng.mon (Eng.count_frame e x ev) :)
@[simp] theorem Eng.countN_dump (e : Eng) (x : Ctx) (ev n : Nat) : (e.countN x ev n).dump = e.dump := (congrArg Eng.dump (Eng.countN_frame e x ev n) :)
@[simp] theorem Eng.count_dump (e : Eng) (x : Ctx) (ev : Nat) : (e.count x ev).dump = e.dump := (congrArg Eng.dump (Eng.count_frame e x ev) :)

/-! ## Interrupts -/

/-- Poking a vector touches the interrupt logic and what leaves the pins alone. -/
theorem Eng.irqPoke_frame (e : Eng) (x : Ctx) (src : Nat) :
    e.irqPoke x src = { e with out := (e.irqPoke x src).out, irq := (e.irqPoke x src).irq } := by
  simp only [Eng.irqPoke, Eng.vecPoke]
  split
  · split
    · split <;> rfl
    · rfl
  · rfl

/-- Latching a source touches the interrupt logic and what leaves the pins alone. -/
theorem Eng.irqLatch_frame (e : Eng) (x : Ctx) (src : Nat) :
    e.irqLatch x src = { e with out := (e.irqLatch x src).out, irq := (e.irqLatch x src).irq } := by
  unfold Eng.irqLatch
  exact (Eng.irqPoke_frame ..).trans rfl

@[simp] theorem Eng.irqPoke_latched (e : Eng) (x : Ctx) (src : Nat) : (e.irqPoke x src).irq.latched = e.irq.latched := by
  simp only [Eng.irqPoke, Eng.vecPoke]
  split
  · split
    · split <;> rfl
    · rfl
  · rfl

/-- A latched source is set, and every source latched before stays. -/
@[simp] theorem Eng.irqLatch_latched (e : Eng) (x : Ctx) (src : Nat) :
    (e.irqLatch x src).irq.latched = e.irq.latched ||| 2 ^ src := by
  simp [Eng.irqLatch]

@[simp] theorem Eng.irqPoke_od (e : Eng) (x : Ctx) (n : Nat) : (e.irqPoke x n).od = e.od := (congrArg Eng.od (Eng.irqPoke_frame e x n) :)
@[simp] theorem Eng.irqLatch_od (e : Eng) (x : Ctx) (n : Nat) : (e.irqLatch x n).od = e.od := (congrArg Eng.od (Eng.irqLatch_frame e x n) :)
@[simp] theorem Eng.irqPoke_resp (e : Eng) (x : Ctx) (n : Nat) : (e.irqPoke x n).resp = e.resp := (congrArg Eng.resp (Eng.irqPoke_frame e x n) :)
@[simp] theorem Eng.irqLatch_resp (e : Eng) (x : Ctx) (n : Nat) : (e.irqLatch x n).resp = e.resp := (congrArg Eng.resp (Eng.irqLatch_frame e x n) :)
@[simp] theorem Eng.irqPoke_draws (e : Eng) (x : Ctx) (n : Nat) : (e.irqPoke x n).draws = e.draws := (congrArg Eng.draws (Eng.irqPoke_frame e x n) :)
@[simp] theorem Eng.irqLatch_draws (e : Eng) (x : Ctx) (n : Nat) : (e.irqLatch x n).draws = e.draws := (congrArg Eng.draws (Eng.irqLatch_frame e x n) :)
@[simp] theorem Eng.irqPoke_pins (e : Eng) (x : Ctx) (n : Nat) : (e.irqPoke x n).pins = e.pins := (congrArg Eng.pins (Eng.irqPoke_frame e x n) :)
@[simp] theorem Eng.irqLatch_pins (e : Eng) (x : Ctx) (n : Nat) : (e.irqLatch x n).pins = e.pins := (congrArg Eng.pins (Eng.irqLatch_frame e x n) :)
@[simp] theorem Eng.irqPoke_boot (e : Eng) (x : Ctx) (n : Nat) : (e.irqPoke x n).boot = e.boot := (congrArg Eng.boot (Eng.irqPoke_frame e x n) :)
@[simp] theorem Eng.irqLatch_boot (e : Eng) (x : Ctx) (n : Nat) : (e.irqLatch x n).boot = e.boot := (congrArg Eng.boot (Eng.irqLatch_frame e x n) :)
@[simp] theorem Eng.irqPoke_flash (e : Eng) (x : Ctx) (n : Nat) : (e.irqPoke x n).flash = e.flash := (congrArg Eng.flash (Eng.irqPoke_frame e x n) :)
@[simp] theorem Eng.irqLatch_flash (e : Eng) (x : Ctx) (n : Nat) : (e.irqLatch x n).flash = e.flash := (congrArg Eng.flash (Eng.irqLatch_frame e x n) :)
@[simp] theorem Eng.irqPoke_flt (e : Eng) (x : Ctx) (n : Nat) : (e.irqPoke x n).flt = e.flt := (congrArg Eng.flt (Eng.irqPoke_frame e x n) :)
@[simp] theorem Eng.irqLatch_flt (e : Eng) (x : Ctx) (n : Nat) : (e.irqLatch x n).flt = e.flt := (congrArg Eng.flt (Eng.irqLatch_frame e x n) :)
@[simp] theorem Eng.irqPoke_tl (e : Eng) (x : Ctx) (n : Nat) : (e.irqPoke x n).tl = e.tl := (congrArg Eng.tl (Eng.irqPoke_frame e x n) :)
@[simp] theorem Eng.irqLatch_tl (e : Eng) (x : Ctx) (n : Nat) : (e.irqLatch x n).tl = e.tl := (congrArg Eng.tl (Eng.irqLatch_frame e x n) :)
@[simp] theorem Eng.irqPoke_sealedFor (e : Eng) (x : Ctx) (n : Nat) : (e.irqPoke x n).sealedFor = e.sealedFor := (congrArg Eng.sealedFor (Eng.irqPoke_frame e x n) :)
@[simp] theorem Eng.irqLatch_sealedFor (e : Eng) (x : Ctx) (n : Nat) : (e.irqLatch x n).sealedFor = e.sealedFor := (congrArg Eng.sealedFor (Eng.irqLatch_frame e x n) :)
@[simp] theorem Eng.irqPoke_lastBoundary (e : Eng) (x : Ctx) (n : Nat) : (e.irqPoke x n).lastBoundary = e.lastBoundary := (congrArg Eng.lastBoundary (Eng.irqPoke_frame e x n) :)
@[simp] theorem Eng.irqLatch_lastBoundary (e : Eng) (x : Ctx) (n : Nat) : (e.irqLatch x n).lastBoundary = e.lastBoundary := (congrArg Eng.lastBoundary (Eng.irqLatch_frame e x n) :)
@[simp] theorem Eng.irqPoke_cmpArmedAt (e : Eng) (x : Ctx) (n : Nat) : (e.irqPoke x n).cmpArmedAt = e.cmpArmedAt := (congrArg Eng.cmpArmedAt (Eng.irqPoke_frame e x n) :)
@[simp] theorem Eng.irqLatch_cmpArmedAt (e : Eng) (x : Ctx) (n : Nat) : (e.irqLatch x n).cmpArmedAt = e.cmpArmedAt := (congrArg Eng.cmpArmedAt (Eng.irqLatch_frame e x n) :)
@[simp] theorem Eng.irqPoke_sched (e : Eng) (x : Ctx) (n : Nat) : (e.irqPoke x n).sched = e.sched := (congrArg Eng.sched (Eng.irqPoke_frame e x n) :)
@[simp] theorem Eng.irqLatch_sched (e : Eng) (x : Ctx) (n : Nat) : (e.irqLatch x n).sched = e.sched := (congrArg Eng.sched (Eng.irqLatch_frame e x n) :)
@[simp] theorem Eng.irqPoke_ports (e : Eng) (x : Ctx) (n : Nat) : (e.irqPoke x n).ports = e.ports := (congrArg Eng.ports (Eng.irqPoke_frame e x n) :)
@[simp] theorem Eng.irqLatch_ports (e : Eng) (x : Ctx) (n : Nat) : (e.irqLatch x n).ports = e.ports := (congrArg Eng.ports (Eng.irqLatch_frame e x n) :)
@[simp] theorem Eng.irqPoke_cls (e : Eng) (x : Ctx) (n : Nat) : (e.irqPoke x n).cls = e.cls := (congrArg Eng.cls (Eng.irqPoke_frame e x n) :)
@[simp] theorem Eng.irqLatch_cls (e : Eng) (x : Ctx) (n : Nat) : (e.irqLatch x n).cls = e.cls := (congrArg Eng.cls (Eng.irqLatch_frame e x n) :)
@[simp] theorem Eng.irqPoke_lanes (e : Eng) (x : Ctx) (n : Nat) : (e.irqPoke x n).lanes = e.lanes := (congrArg Eng.lanes (Eng.irqPoke_frame e x n) :)
@[simp] theorem Eng.irqLatch_lanes (e : Eng) (x : Ctx) (n : Nat) : (e.irqLatch x n).lanes = e.lanes := (congrArg Eng.lanes (Eng.irqLatch_frame e x n) :)
@[simp] theorem Eng.irqPoke_calWait (e : Eng) (x : Ctx) (n : Nat) : (e.irqPoke x n).calWait = e.calWait := (congrArg Eng.calWait (Eng.irqPoke_frame e x n) :)
@[simp] theorem Eng.irqLatch_calWait (e : Eng) (x : Ctx) (n : Nat) : (e.irqLatch x n).calWait = e.calWait := (congrArg Eng.calWait (Eng.irqLatch_frame e x n) :)
@[simp] theorem Eng.irqPoke_keyWait (e : Eng) (x : Ctx) (n : Nat) : (e.irqPoke x n).keyWait = e.keyWait := (congrArg Eng.keyWait (Eng.irqPoke_frame e x n) :)
@[simp] theorem Eng.irqLatch_keyWait (e : Eng) (x : Ctx) (n : Nat) : (e.irqLatch x n).keyWait = e.keyWait := (congrArg Eng.keyWait (Eng.irqLatch_frame e x n) :)
@[simp] theorem Eng.irqPoke_ans (e : Eng) (x : Ctx) (n : Nat) : (e.irqPoke x n).ans = e.ans := (congrArg Eng.ans (Eng.irqPoke_frame e x n) :)
@[simp] theorem Eng.irqLatch_ans (e : Eng) (x : Ctx) (n : Nat) : (e.irqLatch x n).ans = e.ans := (congrArg Eng.ans (Eng.irqLatch_frame e x n) :)
@[simp] theorem Eng.irqPoke_fwTicks (e : Eng) (x : Ctx) (n : Nat) : (e.irqPoke x n).fwTicks = e.fwTicks := (congrArg Eng.fwTicks (Eng.irqPoke_frame e x n) :)
@[simp] theorem Eng.irqLatch_fwTicks (e : Eng) (x : Ctx) (n : Nat) : (e.irqLatch x n).fwTicks = e.fwTicks := (congrArg Eng.fwTicks (Eng.irqLatch_frame e x n) :)
@[simp] theorem Eng.irqPoke_cals (e : Eng) (x : Ctx) (n : Nat) : (e.irqPoke x n).cals = e.cals := (congrArg Eng.cals (Eng.irqPoke_frame e x n) :)
@[simp] theorem Eng.irqLatch_cals (e : Eng) (x : Ctx) (n : Nat) : (e.irqLatch x n).cals = e.cals := (congrArg Eng.cals (Eng.irqLatch_frame e x n) :)
@[simp] theorem Eng.irqPoke_nts (e : Eng) (x : Ctx) (n : Nat) : (e.irqPoke x n).nts = e.nts := (congrArg Eng.nts (Eng.irqPoke_frame e x n) :)
@[simp] theorem Eng.irqLatch_nts (e : Eng) (x : Ctx) (n : Nat) : (e.irqLatch x n).nts = e.nts := (congrArg Eng.nts (Eng.irqLatch_frame e x n) :)
@[simp] theorem Eng.irqPoke_ptp (e : Eng) (x : Ctx) (n : Nat) : (e.irqPoke x n).ptp = e.ptp := (congrArg Eng.ptp (Eng.irqPoke_frame e x n) :)
@[simp] theorem Eng.irqLatch_ptp (e : Eng) (x : Ctx) (n : Nat) : (e.irqLatch x n).ptp = e.ptp := (congrArg Eng.ptp (Eng.irqLatch_frame e x n) :)
@[simp] theorem Eng.irqPoke_ups (e : Eng) (x : Ctx) (n : Nat) : (e.irqPoke x n).ups = e.ups := (congrArg Eng.ups (Eng.irqPoke_frame e x n) :)
@[simp] theorem Eng.irqLatch_ups (e : Eng) (x : Ctx) (n : Nat) : (e.irqLatch x n).ups = e.ups := (congrArg Eng.ups (Eng.irqLatch_frame e x n) :)
@[simp] theorem Eng.irqPoke_refins (e : Eng) (x : Ctx) (n : Nat) : (e.irqPoke x n).refins = e.refins := (congrArg Eng.refins (Eng.irqPoke_frame e x n) :)
@[simp] theorem Eng.irqLatch_refins (e : Eng) (x : Ctx) (n : Nat) : (e.irqLatch x n).refins = e.refins := (congrArg Eng.refins (Eng.irqLatch_frame e x n) :)
@[simp] theorem Eng.irqPoke_synces (e : Eng) (x : Ctx) (n : Nat) : (e.irqPoke x n).synces = e.synces := (congrArg Eng.synces (Eng.irqPoke_frame e x n) :)
@[simp] theorem Eng.irqLatch_synces (e : Eng) (x : Ctx) (n : Nat) : (e.irqLatch x n).synces = e.synces := (congrArg Eng.synces (Eng.irqLatch_frame e x n) :)
@[simp] theorem Eng.irqPoke_tod (e : Eng) (x : Ctx) (n : Nat) : (e.irqPoke x n).tod = e.tod := (congrArg Eng.tod (Eng.irqPoke_frame e x n) :)
@[simp] theorem Eng.irqLatch_tod (e : Eng) (x : Ctx) (n : Nat) : (e.irqLatch x n).tod = e.tod := (congrArg Eng.tod (Eng.irqLatch_frame e x n) :)
@[simp] theorem Eng.irqPoke_sibs (e : Eng) (x : Ctx) (n : Nat) : (e.irqPoke x n).sibs = e.sibs := (congrArg Eng.sibs (Eng.irqPoke_frame e x n) :)
@[simp] theorem Eng.irqLatch_sibs (e : Eng) (x : Ctx) (n : Nat) : (e.irqLatch x n).sibs = e.sibs := (congrArg Eng.sibs (Eng.irqLatch_frame e x n) :)
@[simp] theorem Eng.irqPoke_gnss (e : Eng) (x : Ctx) (n : Nat) : (e.irqPoke x n).gnss = e.gnss := (congrArg Eng.gnss (Eng.irqPoke_frame e x n) :)
@[simp] theorem Eng.irqLatch_gnss (e : Eng) (x : Ctx) (n : Nat) : (e.irqLatch x n).gnss = e.gnss := (congrArg Eng.gnss (Eng.irqLatch_frame e x n) :)
@[simp] theorem Eng.irqPoke_sel (e : Eng) (x : Ctx) (n : Nat) : (e.irqPoke x n).sel = e.sel := (congrArg Eng.sel (Eng.irqPoke_frame e x n) :)
@[simp] theorem Eng.irqLatch_sel (e : Eng) (x : Ctx) (n : Nat) : (e.irqLatch x n).sel = e.sel := (congrArg Eng.sel (Eng.irqLatch_frame e x n) :)
@[simp] theorem Eng.irqPoke_steer (e : Eng) (x : Ctx) (n : Nat) : (e.irqPoke x n).steer = e.steer := (congrArg Eng.steer (Eng.irqPoke_frame e x n) :)
@[simp] theorem Eng.irqLatch_steer (e : Eng) (x : Ctx) (n : Nat) : (e.irqLatch x n).steer = e.steer := (congrArg Eng.steer (Eng.irqLatch_frame e x n) :)
@[simp] theorem Eng.irqPoke_model (e : Eng) (x : Ctx) (n : Nat) : (e.irqPoke x n).model = e.model := (congrArg Eng.model (Eng.irqPoke_frame e x n) :)
@[simp] theorem Eng.irqLatch_model (e : Eng) (x : Ctx) (n : Nat) : (e.irqLatch x n).model = e.model := (congrArg Eng.model (Eng.irqLatch_frame e x n) :)
@[simp] theorem Eng.irqPoke_outs (e : Eng) (x : Ctx) (n : Nat) : (e.irqPoke x n).outs = e.outs := (congrArg Eng.outs (Eng.irqPoke_frame e x n) :)
@[simp] theorem Eng.irqLatch_outs (e : Eng) (x : Ctx) (n : Nat) : (e.irqLatch x n).outs = e.outs := (congrArg Eng.outs (Eng.irqLatch_frame e x n) :)
@[simp] theorem Eng.irqPoke_pk (e : Eng) (x : Ctx) (n : Nat) : (e.irqPoke x n).pk = e.pk := (congrArg Eng.pk (Eng.irqPoke_frame e x n) :)
@[simp] theorem Eng.irqLatch_pk (e : Eng) (x : Ctx) (n : Nat) : (e.irqLatch x n).pk = e.pk := (congrArg Eng.pk (Eng.irqLatch_frame e x n) :)
@[simp] theorem Eng.irqPoke_rxRings (e : Eng) (x : Ctx) (n : Nat) : (e.irqPoke x n).rxRings = e.rxRings := (congrArg Eng.rxRings (Eng.irqPoke_frame e x n) :)
@[simp] theorem Eng.irqLatch_rxRings (e : Eng) (x : Ctx) (n : Nat) : (e.irqLatch x n).rxRings = e.rxRings := (congrArg Eng.rxRings (Eng.irqLatch_frame e x n) :)
@[simp] theorem Eng.irqPoke_txRings (e : Eng) (x : Ctx) (n : Nat) : (e.irqPoke x n).txRings = e.txRings := (congrArg Eng.txRings (Eng.irqPoke_frame e x n) :)
@[simp] theorem Eng.irqLatch_txRings (e : Eng) (x : Ctx) (n : Nat) : (e.irqLatch x n).txRings = e.txRings := (congrArg Eng.txRings (Eng.irqLatch_frame e x n) :)
@[simp] theorem Eng.irqPoke_tails (e : Eng) (x : Ctx) (n : Nat) : (e.irqPoke x n).tails = e.tails := (congrArg Eng.tails (Eng.irqPoke_frame e x n) :)
@[simp] theorem Eng.irqLatch_tails (e : Eng) (x : Ctx) (n : Nat) : (e.irqLatch x n).tails = e.tails := (congrArg Eng.tails (Eng.irqLatch_frame e x n) :)
@[simp] theorem Eng.irqPoke_wins (e : Eng) (x : Ctx) (n : Nat) : (e.irqPoke x n).wins = e.wins := (congrArg Eng.wins (Eng.irqPoke_frame e x n) :)
@[simp] theorem Eng.irqLatch_wins (e : Eng) (x : Ctx) (n : Nat) : (e.irqLatch x n).wins = e.wins := (congrArg Eng.wins (Eng.irqLatch_frame e x n) :)
@[simp] theorem Eng.irqPoke_inbox (e : Eng) (x : Ctx) (n : Nat) : (e.irqPoke x n).inbox = e.inbox := (congrArg Eng.inbox (Eng.irqPoke_frame e x n) :)
@[simp] theorem Eng.irqLatch_inbox (e : Eng) (x : Ctx) (n : Nat) : (e.irqLatch x n).inbox = e.inbox := (congrArg Eng.inbox (Eng.irqLatch_frame e x n) :)
@[simp] theorem Eng.irqPoke_ptpIn (e : Eng) (x : Ctx) (n : Nat) : (e.irqPoke x n).ptpIn = e.ptpIn := (congrArg Eng.ptpIn (Eng.irqPoke_frame e x n) :)
@[simp] theorem Eng.irqLatch_ptpIn (e : Eng) (x : Ctx) (n : Nat) : (e.irqLatch x n).ptpIn = e.ptpIn := (congrArg Eng.ptpIn (Eng.irqLatch_frame e x n) :)
@[simp] theorem Eng.irqPoke_front (e : Eng) (x : Ctx) (n : Nat) : (e.irqPoke x n).front = e.front := (congrArg Eng.front (Eng.irqPoke_frame e x n) :)
@[simp] theorem Eng.irqLatch_front (e : Eng) (x : Ctx) (n : Nat) : (e.irqLatch x n).front = e.front := (congrArg Eng.front (Eng.irqLatch_frame e x n) :)
@[simp] theorem Eng.irqPoke_seg (e : Eng) (x : Ctx) (n : Nat) : (e.irqPoke x n).seg = e.seg := (congrArg Eng.seg (Eng.irqPoke_frame e x n) :)
@[simp] theorem Eng.irqLatch_seg (e : Eng) (x : Ctx) (n : Nat) : (e.irqLatch x n).seg = e.seg := (congrArg Eng.seg (Eng.irqLatch_frame e x n) :)
@[simp] theorem Eng.irqPoke_ctr (e : Eng) (x : Ctx) (n : Nat) : (e.irqPoke x n).ctr = e.ctr := (congrArg Eng.ctr (Eng.irqPoke_frame e x n) :)
@[simp] theorem Eng.irqLatch_ctr (e : Eng) (x : Ctx) (n : Nat) : (e.irqLatch x n).ctr = e.ctr := (congrArg Eng.ctr (Eng.irqLatch_frame e x n) :)
@[simp] theorem Eng.irqPoke_mon (e : Eng) (x : Ctx) (n : Nat) : (e.irqPoke x n).mon = e.mon := (congrArg Eng.mon (Eng.irqPoke_frame e x n) :)
@[simp] theorem Eng.irqLatch_mon (e : Eng) (x : Ctx) (n : Nat) : (e.irqLatch x n).mon = e.mon := (congrArg Eng.mon (Eng.irqLatch_frame e x n) :)
@[simp] theorem Eng.irqPoke_dump (e : Eng) (x : Ctx) (n : Nat) : (e.irqPoke x n).dump = e.dump := (congrArg Eng.dump (Eng.irqPoke_frame e x n) :)
@[simp] theorem Eng.irqLatch_dump (e : Eng) (x : Ctx) (n : Nat) : (e.irqLatch x n).dump = e.dump := (congrArg Eng.dump (Eng.irqLatch_frame e x n) :)
@[simp] theorem Eng.irqPoke_i (e : Eng) (x : Ctx) (n : Nat) (j : Key) : (e.irqPoke x n).i j = e.i j := by simp [Eng.i]
@[simp] theorem Eng.irqLatch_i (e : Eng) (x : Ctx) (n : Nat) (j : Key) : (e.irqLatch x n).i j = e.i j := by simp [Eng.i]

end Sys2Proof.Machine
end

