-- ==== Sys2Proof/Laws/Frame.lean ====
section
/-! SUPPORT. The frames: what counting, interrupts, faults, notifications and the accounting of a write leave alone; and what a write that
is admitted, or refused, does. -/

namespace Sys2Proof.Machine

/-! ## Quiet changes -/

theorem Eng.quiet_refl (e : Eng) : e.quiet e := rfl

theorem Eng.quiet_trans {a b c : Eng} (h1 : a.quiet b) (h2 : b.quiet c) : a.quiet c := by
  unfold Eng.quiet Eng.sharedWith at *
  rw [h1] at h2
  exact h2

theorem Eng.quiet_draws {e e' : Eng} (h : e.quiet e') : e'.draws = e.draws := (congrArg Eng.draws h :)
theorem Eng.quiet_pins {e e' : Eng} (h : e.quiet e') : e'.pins = e.pins := (congrArg Eng.pins h :)
theorem Eng.quiet_boot {e e' : Eng} (h : e.quiet e') : e'.boot = e.boot := (congrArg Eng.boot h :)
theorem Eng.quiet_flash {e e' : Eng} (h : e.quiet e') : e'.flash = e.flash := (congrArg Eng.flash h :)
theorem Eng.quiet_tl {e e' : Eng} (h : e.quiet e') : e'.tl = e.tl := (congrArg Eng.tl h :)
theorem Eng.quiet_sealedFor {e e' : Eng} (h : e.quiet e') : e'.sealedFor = e.sealedFor := (congrArg Eng.sealedFor h :)
theorem Eng.quiet_lastBoundary {e e' : Eng} (h : e.quiet e') : e'.lastBoundary = e.lastBoundary := (congrArg Eng.lastBoundary h :)
theorem Eng.quiet_cmpArmedAt {e e' : Eng} (h : e.quiet e') : e'.cmpArmedAt = e.cmpArmedAt := (congrArg Eng.cmpArmedAt h :)
theorem Eng.quiet_sched {e e' : Eng} (h : e.quiet e') : e'.sched = e.sched := (congrArg Eng.sched h :)
theorem Eng.quiet_ports {e e' : Eng} (h : e.quiet e') : e'.ports = e.ports := (congrArg Eng.ports h :)
theorem Eng.quiet_cls {e e' : Eng} (h : e.quiet e') : e'.cls = e.cls := (congrArg Eng.cls h :)
theorem Eng.quiet_lanes {e e' : Eng} (h : e.quiet e') : e'.lanes = e.lanes := (congrArg Eng.lanes h :)
theorem Eng.quiet_calWait {e e' : Eng} (h : e.quiet e') : e'.calWait = e.calWait := (congrArg Eng.calWait h :)
theorem Eng.quiet_keyWait {e e' : Eng} (h : e.quiet e') : e'.keyWait = e.keyWait := (congrArg Eng.keyWait h :)
theorem Eng.quiet_ans {e e' : Eng} (h : e.quiet e') : e'.ans = e.ans := (congrArg Eng.ans h :)
theorem Eng.quiet_fwTicks {e e' : Eng} (h : e.quiet e') : e'.fwTicks = e.fwTicks := (congrArg Eng.fwTicks h :)
theorem Eng.quiet_cals {e e' : Eng} (h : e.quiet e') : e'.cals = e.cals := (congrArg Eng.cals h :)
theorem Eng.quiet_nts {e e' : Eng} (h : e.quiet e') : e'.nts = e.nts := (congrArg Eng.nts h :)
theorem Eng.quiet_ptp {e e' : Eng} (h : e.quiet e') : e'.ptp = e.ptp := (congrArg Eng.ptp h :)
theorem Eng.quiet_ups {e e' : Eng} (h : e.quiet e') : e'.ups = e.ups := (congrArg Eng.ups h :)
theorem Eng.quiet_refins {e e' : Eng} (h : e.quiet e') : e'.refins = e.refins := (congrArg Eng.refins h :)
theorem Eng.quiet_synces {e e' : Eng} (h : e.quiet e') : e'.synces = e.synces := (congrArg Eng.synces h :)
theorem Eng.quiet_tod {e e' : Eng} (h : e.quiet e') : e'.tod = e.tod := (congrArg Eng.tod h :)
theorem Eng.quiet_sibs {e e' : Eng} (h : e.quiet e') : e'.sibs = e.sibs := (congrArg Eng.sibs h :)
theorem Eng.quiet_gnss {e e' : Eng} (h : e.quiet e') : e'.gnss = e.gnss := (congrArg Eng.gnss h :)
theorem Eng.quiet_sel {e e' : Eng} (h : e.quiet e') : e'.sel = e.sel := (congrArg Eng.sel h :)
theorem Eng.quiet_steer {e e' : Eng} (h : e.quiet e') : e'.steer = e.steer := (congrArg Eng.steer h :)
theorem Eng.quiet_model {e e' : Eng} (h : e.quiet e') : e'.model = e.model := (congrArg Eng.model h :)
theorem Eng.quiet_outs {e e' : Eng} (h : e.quiet e') : e'.outs = e.outs := (congrArg Eng.outs h :)
theorem Eng.quiet_pk {e e' : Eng} (h : e.quiet e') : e'.pk = e.pk := (congrArg Eng.pk h :)
theorem Eng.quiet_rxRings {e e' : Eng} (h : e.quiet e') : e'.rxRings = e.rxRings := (congrArg Eng.rxRings h :)
theorem Eng.quiet_txRings {e e' : Eng} (h : e.quiet e') : e'.txRings = e.txRings := (congrArg Eng.txRings h :)
theorem Eng.quiet_tails {e e' : Eng} (h : e.quiet e') : e'.tails = e.tails := (congrArg Eng.tails h :)
theorem Eng.quiet_wins {e e' : Eng} (h : e.quiet e') : e'.wins = e.wins := (congrArg Eng.wins h :)
theorem Eng.quiet_inbox {e e' : Eng} (h : e.quiet e') : e'.inbox = e.inbox := (congrArg Eng.inbox h :)
theorem Eng.quiet_ptpIn {e e' : Eng} (h : e.quiet e') : e'.ptpIn = e.ptpIn := (congrArg Eng.ptpIn h :)
theorem Eng.quiet_front {e e' : Eng} (h : e.quiet e') : e'.front = e.front := (congrArg Eng.front h :)
theorem Eng.quiet_mon {e e' : Eng} (h : e.quiet e') : e'.mon = e.mon := (congrArg Eng.mon h :)
theorem Eng.quiet_dump {e e' : Eng} (h : e.quiet e') : e'.dump = e.dump := (congrArg Eng.dump h :)

theorem Eng.quiet_set {a b : Eng} (h : a.quiet b) (k : Key) (v : Int) : a.quiet (b.set k v) := Eng.quiet_trans h rfl
theorem Eng.quiet_inc32 {a b : Eng} (h : a.quiet b) (k : Key) : a.quiet (b.inc32 k) := Eng.quiet_set h ..
theorem Eng.quiet_inc64 {a b : Eng} (h : a.quiet b) (k : Key) : a.quiet (b.inc64 k) := Eng.quiet_set h ..
theorem Eng.quiet_add {a b : Eng} (h : a.quiet b) (w : Nat) (k : Key) (n : Nat) : a.quiet (b.add w k n) := Eng.quiet_set h ..
theorem Eng.quiet_orb {a b : Eng} (h : a.quiet b) (k : Key) (m : Nat) : a.quiet (b.orb k m) := Eng.quiet_set h ..
theorem Eng.quiet_emit {a b : Eng} (h : a.quiet b) (o : Output) : a.quiet (b.emit o) := Eng.quiet_trans h rfl
theorem Eng.quiet_fresh {a b : Eng} (h : a.quiet b) : a.quiet b.fresh := Eng.quiet_trans h rfl
theorem Eng.quiet_flt {a b : Eng} (h : a.quiet b) (f : Faults) : a.quiet { b with flt := f } := Eng.quiet_trans h rfl
theorem Eng.quiet_seg {a b : Eng} (h : a.quiet b) (f : Segment) : a.quiet { b with seg := f } := Eng.quiet_trans h rfl
theorem Eng.quiet_resp {a b : Eng} (h : a.quiet b) (f : Resp) : a.quiet { b with resp := f } := Eng.quiet_trans h rfl

theorem Eng.quiet_countN {a b : Eng} (h : a.quiet b) (x : Ctx) (ev n : Nat) : a.quiet (b.countN x ev n) :=
  Eng.quiet_trans h (by unfold Eng.quiet Eng.sharedWith; rw [Eng.countN_frame])

theorem Eng.quiet_count {a b : Eng} (h : a.quiet b) (x : Ctx) (ev : Nat) : a.quiet (b.count x ev) := Eng.quiet_countN h ..

theorem Eng.quiet_irqPoke {a b : Eng} (h : a.quiet b) (x : Ctx) (src : Nat) : a.quiet (b.irqPoke x src) :=
  Eng.quiet_trans h (by unfold Eng.quiet Eng.sharedWith; rw [Eng.irqPoke_frame])

theorem Eng.quiet_irqLatch {a b : Eng} (h : a.quiet b) (x : Ctx) (src : Nat) : a.quiet (b.irqLatch x src) :=
  Eng.quiet_trans h (by unfold Eng.quiet Eng.sharedWith; rw [Eng.irqLatch_frame])

theorem Eng.quiet_ite {c : Prop} [Decidable c] {e a b : Eng} (ha : e.quiet a) (hb : e.quiet b) : e.quiet (if c then a else b) := by
  split <;> assumption

/-! ## Notifications and faults -/

/-- A notification or publication is queued, counted or dropped. -/
theorem Eng.quiet_publish {a e : Eng} (h : a.quiet e) (x : Ctx) (kind : Nat) (body : Bytes) : a.quiet (e.publish x kind body) := by
  unfold Eng.publish
  split
  · exact h
  · split
    · exact Eng.quiet_count h ..
    · dsimp only
      split
      · exact Eng.quiet_count (Eng.quiet_seg h _) ..
      · exact Eng.quiet_count (Eng.quiet_seg h _) ..

theorem Eng.quiet_notify {a e : Eng} (h : a.quiet e) (x : Ctx) (event : Nat) (extra : Bytes) : a.quiet (e.notify x event extra) :=
  Eng.quiet_publish h ..

theorem Eng.quiet_fillFirst {a e : Eng} (h : a.quiet e) (x : Ctx) (d : Detection) (p q r : Nat) : a.quiet (e.fillFirst x d p q r) := by
  unfold Eng.fillFirst
  dsimp only
  repeat' apply Eng.quiet_set
  exact h

theorem Eng.quiet_recordFirst {a e : Eng} (h : a.quiet e) (x : Ctx) (d : Detection) : a.quiet (e.recordFirst x d) := by
  unfold Eng.recordFirst
  dsimp only
  repeat' apply Eng.quiet_ite
  · exact Eng.quiet_fillFirst h ..
  · exact Eng.quiet_fillFirst h ..
  · exact Eng.quiet_orb h ..
  · exact Eng.quiet_orb h ..
  · exact Eng.quiet_fillFirst (Eng.quiet_set h _ _) ..
  · exact Eng.quiet_inc32 h ..

theorem Eng.quiet_railChange {a e : Eng} (h : a.quiet e) (x : Ctx) (r : EclReason) (p q s t : Nat) : a.quiet (e.railChange x r p q s t) := by
  unfold Eng.railChange
  dsimp only
  split
  · exact h
  · split
    · exact Eng.quiet_flt h _
    · exact Eng.quiet_ite (Eng.quiet_flt h _) h

theorem Eng.quiet_endLinger {a e : Eng} (h : a.quiet e) (b : Nat) : a.quiet (e.endLinger b) := by
  unfold Eng.endLinger
  exact Eng.quiet_ite (Eng.quiet_flt h _) h

theorem Eng.quiet_countDetection {a e : Eng} (h : a.quiet e) (x : Ctx) (d : Detection) : a.quiet (e.countDetection x d) := by
  unfold Eng.countDetection
  have h1 : a.quiet (match d.cls with
      | 1 => (e.inc32 (Od.FLT_BLOCK.corrected d.block)).count x 0xB1E
      | 2 => (e.inc32 (Od.FLT_BLOCK.contained d.block)).count x 0xB1F
      | _ => e) := by
    split
    · exact Eng.quiet_count (Eng.quiet_inc32 h _) ..
    · exact Eng.quiet_count (Eng.quiet_inc32 h _) ..
    · exact h
  dsimp only
  have h2 := Eng.quiet_ite (c := d.forced = true) (Eng.quiet_orb (Eng.quiet_inc32 h1 (Od.FLT_BLOCK.forced d.block)) Od.FLT_GLOBAL.sticky 2) h1
  exact Eng.quiet_ite (Eng.quiet_orb (Eng.quiet_inc32 h2 _) _ _) h2

theorem Eng.quiet_latchDetection {a e : Eng} (h : a.quiet e) (x : Ctx) (d : Detection) : a.quiet (e.latchDetection x d) :=
  Eng.quiet_orb (Eng.quiet_flt h _) ..

/-- Raising a fault touches only what every engine shares. -/
theorem Eng.quiet_raise {a e : Eng} (h : a.quiet e) (x : Ctx) (d : Detection) : a.quiet (e.raise x d) := by
  unfold Eng.raise
  have h2 := Eng.quiet_countDetection (Eng.quiet_latchDetection h x d) x d
  have h3 := Eng.quiet_recordFirst h2 x d
  dsimp only
  repeat' with_reducible first
    | exact h3
    | apply Eng.quiet_ite
    | apply Eng.quiet_endLinger
    | apply Eng.quiet_railChange
    | apply Eng.quiet_notify
    | apply Eng.quiet_irqPoke

theorem Eng.quiet_detect {a e : Eng} (h : a.quiet e) (x : Ctx) (b row inst : Nat) : a.quiet (e.detect x b row inst) := Eng.quiet_raise h ..

theorem Eng.quiet_condOn {a e : Eng} (h : a.quiet e) (x : Ctx) (b row inst : Nat) : a.quiet (e.condOn x b row inst) := by
  unfold Eng.condOn
  exact Eng.quiet_ite h (Eng.quiet_raise h ..)

theorem Eng.quiet_condOff {a e : Eng} (h : a.quiet e) (x : Ctx) (b row inst : Nat) : a.quiet (e.condOff x b row inst) := by
  unfold Eng.condOff
  exact Eng.quiet_ite (Eng.quiet_ite (Eng.quiet_set (Eng.quiet_flt h _) ..) (Eng.quiet_flt h _)) h

/-! ## The accounting of a write (R362) -/

theorem Eng.quiet_account {a e : Eng} (h : a.quiet e) (x : Ctx) (p : Bool) (st : Nat) : a.quiet (e.account x p st) := by
  have h := Eng.quiet_resp h ⟨st, x.tick, 0, []⟩
  unfold Eng.account
  dsimp only
  repeat' split
  · exact Eng.quiet_set (Eng.quiet_count (Eng.quiet_inc64 h _) ..) ..
  · exact Eng.quiet_count (Eng.quiet_inc64 h _) ..
  · exact Eng.quiet_orb (Eng.quiet_inc64 h _) ..
  · exact Eng.quiet_count (Eng.quiet_orb (Eng.quiet_inc64 h _) ..) ..
  · exact Eng.quiet_inc64 h _

theorem Eng.onlyObjects_refl (e : Eng) : e.onlyObjects e := rfl

theorem Eng.onlyObjects_trans {a b c : Eng} (h1 : a.onlyObjects b) (h2 : b.onlyObjects c) : a.onlyObjects c := by
  unfold Eng.onlyObjects at *
  rw [h1] at h2
  exact h2

theorem Eng.onlyObjects_set {a b : Eng} (h : a.onlyObjects b) (k : Key) (v : Int) : a.onlyObjects (b.set k v) :=
  Eng.onlyObjects_trans h rfl

theorem Eng.onlyObjects_fresh {a b : Eng} (h : a.onlyObjects b) : a.onlyObjects b.fresh := Eng.onlyObjects_trans h rfl

theorem Eng.onlyObjects_count {a b : Eng} (h : a.onlyObjects b) (x : Ctx) (ev : Nat) : a.onlyObjects (b.count x ev) :=
  Eng.onlyObjects_trans h (by unfold Eng.onlyObjects; rw [Eng.count_frame])

/-- The accounting of a write touches objects and counters, and the response. -/
theorem Eng.account_onlyObjects {a e : Eng} (h : a.onlyObjects e) (x : Ctx) (p : Bool) (st : Nat) : a.onlyObjects (e.account x p st) := by
  have h : a.onlyObjects { e with resp := ⟨st, x.tick, 0, []⟩ } := Eng.onlyObjects_trans h rfl
  unfold Eng.account
  dsimp only
  repeat' split
  · exact Eng.onlyObjects_set (Eng.onlyObjects_count (Eng.onlyObjects_set h ..) ..) ..
  · exact Eng.onlyObjects_count (Eng.onlyObjects_set h ..) ..
  · exact Eng.onlyObjects_set (Eng.onlyObjects_set h ..) ..
  · exact Eng.onlyObjects_count (Eng.onlyObjects_set (Eng.onlyObjects_set h ..) ..) ..
  · exact Eng.onlyObjects_set h ..

@[simp] theorem Eng.account_resp (e : Eng) (x : Ctx) (p : Bool) (st : Nat) : (e.account x p st).resp = ⟨st, x.tick, 0, []⟩ := by
  unfold Eng.account
  dsimp only
  repeat' split
  all_goals simp

@[simp] theorem Eng.account_out (e : Eng) (x : Ctx) (p : Bool) (st : Nat) : (e.account x p st).out = e.out := by
  unfold Eng.account
  dsimp only
  repeat' split
  all_goals simp

/-- No object but those of the accounting changes. -/
theorem Eng.account_i (e : Eng) (x : Ctx) (p : Bool) (st : Nat) (k : Key) (h : accounting k = false) :
    (e.account x p st).i k = e.i k := by
  simp only [accounting, Bool.or_eq_false_iff, beq_eq_false_iff_ne, ne_eq] at h
  obtain ⟨⟨⟨⟨⟨⟨h1, h2⟩, h3⟩, h4⟩, h5⟩, h6⟩, h7⟩ := h
  unfold Eng.account
  dsimp only
  repeat' split
  all_goals first
    | rw [Eng.set_i_other _ _ _ _ h6]
    | skip
  all_goals first
    | rw [Eng.count_i _ _ _ _ h7]
    | skip
  all_goals simp only [Eng.inc64_i, Eng.orb_i, h1, h2, h3, h4, h5, if_false]
  all_goals rfl

end Sys2Proof.Machine
end

