-- ==== Sys2Proof/Laws/Write.lean ====
section
/-! SUPPORT. A command's frame while the device runs, and what a write does: one that is admitted and accepted, and one that is refused. -/

namespace Sys2Proof.Machine

/-! ## The frame of a command -/

/-- While the device runs, a command's effect is its function's. -/
theorem lift_up {s : State} (h : s.eng.up = true) (f : Ctx → Eng → Eng) : lift f s = .next { s with eng := f s.ctx s.eng0 } := by
  simp [lift, h]

/-- In reset a command leaves everything but the record of what left the pins. -/
theorem lift_down {s : State} (h : s.eng.up = false) (f : Ctx → Eng → Eng) : lift f s = .next { s with eng := s.eng0 } := by
  simp [lift, h]

@[simp] theorem whenDue_true (f : Eng → Eng) (e : Eng) : whenDue true f e = f e := rfl
@[simp] theorem whenDue_false (f : Eng → Eng) (e : Eng) : whenDue false f e = e := rfl

/-! ## The store through a write -/

/-- Two object numbers of different areas, items or members differ. -/
theorem odKey_ne {a i m a' i' m' : Nat} (h : a * 65536 + i * 16 + m ≠ a' * 65536 + i' * 16 + m') : odKey a i m ≠ odKey a' i' m' := h

/-- The objects of the accounting lie in areas 60 and 68. -/
theorem accounting_area {a i m : Nat} (h : a ≠ 0x60 ∧ a ≠ 0x68) (hm : i * 16 + m < 65536) : accounting (odKey a i m) = false := by
  have ne (a' i' m' : Nat) (h' : a' = 0x60 ∨ a' = 0x68) (hm' : i' * 16 + m' < 65536) : (odKey a i m == odKey a' i' m') = false :=
    beq_eq_false_iff_ne.2 (odKey_ne (by omega))
  simp only [accounting, Od.DICT_STATUS.accepted, Od.DICT_STATUS.refused, Od.DICT_STATUS.busy, Od.DICT_STATUS.denied,
    Od.DICT_STATUS.sticky, Od.STORE.unsaved, Od.CNT_STATUS.sticky]
  simp [ne]

theorem Eng.i_eq (e : Eng) (k : Key) : e.i k = sget e.od k := rfl

@[simp] theorem Eng.refusedHook_ok (e : Eng) (k : Key) : e.refusedHook k stOk = e := rfl

/-- A write that is admitted and that its chapter accepts: the chapter's effect, accounted for as OK. -/
theorem Eng.writeCmd_ok {e e' : Eng} {k : Key} {v : Int} {roles : Nat} {op : Eng → WriteRes} (x : Ctx)
    (ha : e.admits k v roles = true) (ho : op e = (stOk, e')) : ∃ p, e.writeCmd x k v roles op = e'.account x p stOk := by
  unfold Eng.admits at ha
  unfold Eng.writeCmd
  cases hr : rowOf k with
  | none => simp [hr] at ha
  | some r =>
    simp only [hr, Bool.and_eq_true, beq_iff_eq] at ha
    exact ⟨r.persist == .store, by simp [ha.1, Eng.step8, ha.2, ho]⟩

/-- A write that is admitted: whatever its chapter answers is accounted for, a refusal after its chapter's own counters. -/
theorem Eng.writeCmd_admitted {e e' : Eng} {k : Key} {v : Int} {roles st : Nat} {op : Eng → WriteRes} (x : Ctx)
    (ha : e.admits k v roles = true) (ho : op e = (st, e')) :
    ∃ p, e.writeCmd x k v roles op = (e'.refusedHook k st).account x p st := by
  unfold Eng.admits at ha
  unfold Eng.writeCmd
  cases hr : rowOf k with
  | none => simp [hr] at ha
  | some r =>
    simp only [hr, Bool.and_eq_true, beq_iff_eq] at ha
    exact ⟨r.persist == .store, by simp [ha.1, Eng.step8, ha.2, ho]⟩

theorem Eng.refusedHook_onlyObjects {a e : Eng} (h : a.onlyObjects e) (k : Key) (st : Nat) : a.onlyObjects (e.refusedHook k st) := by
  unfold Eng.refusedHook
  dsimp only
  repeat' split
  all_goals first
    | exact h
    | exact Eng.onlyObjects_set h ..
    | exact Eng.onlyObjects_set (Eng.onlyObjects_set h ..) ..

theorem Eng.refusedHook_i (e : Eng) (k : Key) (st : Nat) (j : Key)
    (h : ∀ m, j ≠ Od.MOON_STATUS.refused m ∧ j ≠ Od.MOON_STATUS.sticky m) (hs : j ≠ Od.SCHED_STATUS.refused ∧ j ≠ Od.SCHED_STATUS.sticky) :
    (e.refusedHook k st).i j = e.i j := by
  unfold Eng.refusedHook
  dsimp only
  repeat' split
  all_goals simp [Eng.orb_i, Eng.inc32_i, h, hs]

/-- A write that steps 4 to 7 of R344 refuse changes nothing but its accounting. -/
theorem Eng.writeCmd_refused {e : Eng} {k : Key} {v : Int} {roles : Nat} {r : ObjRow} (x : Ctx) (op : Eng → WriteRes)
    (hr : rowOf k = some r) (hj : e.judge r k v roles ≠ stOk) :
    e.writeCmd x k v roles op = e.account x false (e.judge r k v roles) := by
  simp [Eng.writeCmd, hr, hj]

/-- A whole record that is admitted and accepted. -/
theorem Eng.writeRecCmd_ok {e e' : Eng} {k : Key} {vs : List (Key × Int)} {roles : Nat} {op : Eng → WriteRes} (x : Ctx)
    (ha : e.admitsAll vs roles = true) (ho : op e = (stOk, e')) :
    ∃ p, e.writeRecCmd x k vs roles op = e'.account x p stOk := by
  simp only [Eng.admitsAll, Bool.and_eq_true, beq_iff_eq] at ha
  exact ⟨persistAny vs, by simp [Eng.writeRecCmd, ha.1, ha.2, ho]⟩

/-! ## Writes that store objects and nothing else -/

theorem Eng.setAll_cons (e : Eng) (p : Key × Int) (vs : List (Key × Int)) : e.setAll (p :: vs) = (e.set p.1 p.2).setAll vs := rfl

theorem Eng.setAll_onlyObjects {a e : Eng} (h : a.onlyObjects e) (vs : List (Key × Int)) : a.onlyObjects (e.setAll vs) := by
  induction vs generalizing e with
  | nil => exact h
  | cons p vs ih => exact ih (Eng.onlyObjects_set h ..)

/-- An object that a list does not name keeps its value. -/
theorem Eng.setAll_i_other (e : Eng) (vs : List (Key × Int)) (k : Key) (h : ∀ p ∈ vs, k ≠ p.1) : (e.setAll vs).i k = e.i k := by
  induction vs generalizing e with
  | nil => rfl
  | cons p vs ih =>
    rw [Eng.setAll_cons, ih _ (fun q hq => h q (List.mem_cons_of_mem _ hq)), Eng.set_i_other _ _ _ _ (h p (List.mem_cons_self ..))]

/-- An object that a list names once holds its value. -/
theorem Eng.setAll_i_mem (e : Eng) (vs : List (Key × Int)) (hn : (vs.map Prod.fst).Nodup) (p : Key × Int) (hp : p ∈ vs) :
    (e.setAll vs).i p.1 = p.2 := by
  induction vs generalizing e with
  | nil => cases hp
  | cons q vs ih =>
    rw [List.map_cons, List.nodup_cons] at hn
    rw [Eng.setAll_cons]
    rcases List.mem_cons.1 hp with h | h
    · subst h
      rw [Eng.setAll_i_other _ _ _ (fun r hr he => hn.1 (List.mem_map.2 ⟨r, hr, he.symm⟩)), Eng.set_i_same]
    · exact ih _ hn.2 h

/-- What an accounted store of values leaves, in terms of the state it started from. -/
theorem State.wrote_account (s : State) (vs : List (Key × Int)) (p : Bool) (hn : (vs.map Prod.fst).Nodup)
    (hk : ∀ q ∈ vs, accounting q.1 = false) :
    s.wrote { s with eng := (s.eng0.setAll vs).account s.ctx p stOk } vs := by
  refine ⟨by simp, fun q hq => ?_, fun k h1 h2 => ?_, ?_, rfl, rfl, rfl⟩
  · dsimp only
    rw [Eng.account_i _ _ _ _ _ (hk q hq), Eng.setAll_i_mem _ _ hn _ hq]
  · dsimp only
    rw [Eng.account_i _ _ _ _ _ h2, Eng.setAll_i_other _ _ _ h1]
    rfl
  · exact Eng.account_onlyObjects (Eng.setAll_onlyObjects (e := s.eng0) (Eng.onlyObjects_fresh (Eng.onlyObjects_refl _)) _) s.ctx p stOk

/-- A command's write of one object that only stores values. -/
theorem lift_writeCmd_wrote {s : State} {k : Key} {v : Int} {roles : Nat} {op : Ctx → Eng → WriteRes} (vs : List (Key × Int))
    (hu : s.eng.up = true) (ha : s.eng.admits k v roles = true) (ho : op s.ctx s.eng0 = (stOk, s.eng0.setAll vs))
    (hn : (vs.map Prod.fst).Nodup) (hk : ∀ q ∈ vs, accounting q.1 = false) :
    ∃ t, lift (fun x e => e.writeCmd x k v roles (op x)) s = .next t ∧ s.wrote t vs := by
  obtain ⟨p, hp⟩ := Eng.writeCmd_ok (e := s.eng0) (k := k) (v := v) (roles := roles) s.ctx ha ho
  refine ⟨_, lift_up hu _, ?_⟩
  rw [hp]
  exact State.wrote_account s vs p hn hk

/-- A command's write of a whole record that only stores values. -/
theorem lift_writeRecCmd_wrote {s : State} {k : Key} {ws : List (Key × Int)} {roles : Nat} {op : Ctx → Eng → WriteRes}
    (vs : List (Key × Int)) (hu : s.eng.up = true) (ha : s.eng.admitsAll ws roles = true)
    (ho : op s.ctx s.eng0 = (stOk, s.eng0.setAll vs))
    (hn : (vs.map Prod.fst).Nodup) (hk : ∀ q ∈ vs, accounting q.1 = false) :
    ∃ t, lift (fun x e => e.writeRecCmd x k ws roles (op x)) s = .next t ∧ s.wrote t vs := by
  obtain ⟨p, hp⟩ := Eng.writeRecCmd_ok (e := s.eng0) (k := k) (vs := ws) (roles := roles) s.ctx ha ho
  refine ⟨_, lift_up hu _, ?_⟩
  rw [hp]
  exact State.wrote_account s vs p hn hk

end Sys2Proof.Machine
end

