-- ==== Sys2Proof/Laws/Exec.lean ====
section
/-! SUPPORT. The meaning of each command by name, and the frame its meaning runs in. -/

namespace Sys2Proof.Machine

/-! ## The meaning of a command -/

theorem exec_tick (upsets : List CopyUpset) (hits : List TickHit) (s : State) : exec (.tick upsets hits) s = execTick upsets hits s := rfl
theorem exec_closingTick (inp : ClosingInputs) (s : State) : exec (.closingTick inp) s = execClosingTick inp s := rfl
theorem exec_steerBoundary (inp : BoundaryInputs) (s : State) : exec (.steerBoundary inp) s = execSteerBoundary inp s := rfl
theorem exec_timeClockMonitor (coreDev ringDev : Int) (s : State) : exec (.timeClockMonitor coreDev ringDev) s = execTimeClockMonitor coreDev ringDev s := rfl
theorem exec_timeClockPllUnlock (s : State) : exec (.timeClockPllUnlock) s = execTimeClockPllUnlock s := rfl
theorem exec_corePllUnlock (s : State) : exec (.corePllUnlock) s = execCorePllUnlock s := rfl
theorem exec_ddrPllUnlock (s : State) : exec (.ddrPllUnlock) s = execDdrPllUnlock s := rfl
theorem exec_serdesPllUnlock (group : Fin 8) (s : State) : exec (.serdesPllUnlock group) s = execSerdesPllUnlock group s := rfl
theorem exec_consentExpiry (moon : Fin 32) (s : State) : exec (.consentExpiry moon) s = execConsentExpiry moon s := rfl
theorem exec_compareCellFire (moon : Fin 32) (cell : Fin 4) (s : State) : exec (.compareCellFire moon cell) s = execCompareCellFire moon cell s := rfl
theorem exec_moonConfigEnableWrite (moon : Fin 32) (value roles : Nat) (s : State) : exec (.moonConfigEnableWrite moon value roles) s = execMoonConfigEnableWrite moon value roles s := rfl
theorem exec_moonIncStagedWrite (moon : Fin 32) (value roles : Nat) (s : State) : exec (.moonIncStagedWrite moon value roles) s = execMoonIncStagedWrite moon value roles s := rfl
theorem exec_moonStepStagedWrite (moon : Fin 32) (value : Int) (roles : Nat) (s : State) : exec (.moonStepStagedWrite moon value roles) s = execMoonStepStagedWrite moon value roles s := rfl
theorem exec_moonConsentWrite (moon : Fin 32) (bound : Int) (roles : Nat) (s : State) : exec (.moonConsentWrite moon bound roles) s = execMoonConsentWrite moon bound roles s := rfl
theorem exec_moonSetValueWrite (moon : Fin 32) (value roles : Nat) (s : State) : exec (.moonSetValueWrite moon value roles) s = execMoonSetValueWrite moon value roles s := rfl
theorem exec_moonSetArmedWrite (moon : Fin 32) (value roles : Nat) (s : State) : exec (.moonSetArmedWrite moon value roles) s = execMoonSetArmedWrite moon value roles s := rfl
theorem exec_moonSetRecordWrite (moon : Fin 32) (armed value roles : Nat) (s : State) : exec (.moonSetRecordWrite moon armed value roles) s = execMoonSetRecordWrite moon armed value roles s := rfl
theorem exec_leapBaseWrite (value : Int) (roles : Nat) (s : State) : exec (.leapBaseWrite value roles) s = execLeapBaseWrite value roles s := rfl
theorem exec_leapEntryWrite (entry : Fin 32) (w : LeapWrite) (roles : Nat) (s : State) : exec (.leapEntryWrite entry w roles) s = execLeapEntryWrite entry w roles s := rfl
theorem exec_moonCmpTargetWrite (moon : Fin 32) (cell : Fin 4) (target roles : Nat) (s : State) : exec (.moonCmpTargetWrite moon cell target roles) s = execMoonCmpTargetWrite moon cell target roles s := rfl
theorem exec_schedEntryWrite (entry : Fin 1024) (w : SchedWrite) (roles : Nat) (s : State) : exec (.schedEntryWrite entry w roles) s = execSchedEntryWrite entry w roles s := rfl
theorem exec_schedEntryEmpty (entry : Fin 1024) (value roles : Nat) (s : State) : exec (.schedEntryEmpty entry value roles) s = execSchedEntryEmpty entry value roles s := rfl
theorem exec_schedEvaluationPass (s : State) : exec (.schedEvaluationPass) s = execSchedEvaluationPass s := rfl
theorem exec_pulse (entry : Fin 1024) (s : State) : exec (.pulse entry) s = execPulse entry s := rfl
theorem exec_snapshot (entry : Fin 1024) (s : State) : exec (.snapshot entry) s = execSnapshot entry s := rfl
theorem exec_window (entry : Fin 1024) (s : State) : exec (.window entry) s = execWindow entry s := rfl
theorem exec_calWindow (entry : Fin 1024) (s : State) : exec (.calWindow entry) s = execCalWindow entry s := rfl
theorem exec_keyRotate (entry : Fin 1024) (s : State) : exec (.keyRotate entry) s = execKeyRotate entry s := rfl
theorem exec_switch (entry : Fin 1024) (s : State) : exec (.switch entry) s = execSwitch entry s := rfl
theorem exec_dictWrite (entry : Fin 1024) (s : State) : exec (.dictWrite entry) s = execDictWrite entry s := rfl
theorem exec_event (entry : Fin 1024) (s : State) : exec (.event entry) s = execEvent entry s := rfl
theorem exec_leapPoint (moon : Fin 32) (s : State) : exec (.leapPoint moon) s = execLeapPoint moon s := rfl
theorem exec_laneGroupModeWrite (group : Fin 8) (value roles : Nat) (s : State) : exec (.laneGroupModeWrite group value roles) s = execLaneGroupModeWrite group value roles s := rfl
theorem exec_portEnableWrite (port : Fin 32) (value roles : Nat) (s : State) : exec (.portEnableWrite port value roles) s = execPortEnableWrite port value roles s := rfl
theorem exec_laneIfWrite (lane : Fin 32) (value roles : Nat) (s : State) : exec (.laneIfWrite lane value roles) s = execLaneIfWrite lane value roles s := rfl
theorem exec_linkUp (port : Fin 32) (s : State) : exec (.linkUp port) s = execLinkUp port s := rfl
theorem exec_linkDown (port : Fin 32) (cause : LinkLoss) (s : State) : exec (.linkDown port cause) s = execLinkDown port cause s := rfl
theorem exec_frameReceive (frame : RxFrame) (s : State) : exec (.frameReceive frame) s = execFrameReceive frame s := rfl
theorem exec_pauseXoffRepeat (port : Fin 32) (s : State) : exec (.pauseXoffRepeat port) s = execPauseXoffRepeat port s := rfl
theorem exec_pauseEnd (port : Fin 32) (s : State) : exec (.pauseEnd port) s = execPauseEnd port s := rfl
theorem exec_esmcTimeout (port : Fin 32) (s : State) : exec (.esmcTimeout port) s = execEsmcTimeout port s := rfl
theorem exec_esmcInfoPdu (port : Fin 32) (s : State) : exec (.esmcInfoPdu port) s = execEsmcInfoPdu port s := rfl
theorem exec_ruleCommit (value roles : Nat) (s : State) : exec (.ruleCommit value roles) s = execRuleCommit value roles s := rfl
theorem exec_ruleCommitTakeEffect (s : State) : exec (.ruleCommitTakeEffect) s = execRuleCommitTakeEffect s := rfl
theorem exec_ruleBankCopyDone (s : State) : exec (.ruleBankCopyDone) s = execRuleBankCopyDone s := rfl
theorem exec_serviceEntryWrite (v6 : Bool) (entry : Fin 256) (w : RecWrite) (roles : Nat) (s : State) : exec (.serviceEntryWrite v6 entry w roles) s = execServiceEntryWrite v6 entry w roles s := rfl
theorem exec_alignmentMarkerRx (lane : Fin 32) (serRx closure : Int) (loopback : Option Int) (s : State) : exec (.alignmentMarkerRx lane serRx closure loopback) s = execAlignmentMarkerRx lane serRx closure loopback s := rfl
theorem exec_echoResult (lane : Fin 32) (timed : Bool) (serTx error : Int) (s : State) : exec (.echoResult lane timed serTx error) s = execEchoResult lane timed serTx error s := rfl
theorem exec_echoMissing (port : Fin 32) (s : State) : exec (.echoMissing port) s = execEchoMissing port s := rfl
theorem exec_calItemWrite (item : CalItem) (value : Int) (roles : Nat) (s : State) : exec (.calItemWrite item value roles) s = execCalItemWrite item value roles s := rfl
theorem exec_calStoreWrite (s : State) : exec (.calStoreWrite) s = execCalStoreWrite s := rfl
theorem exec_calCtrlOpen (mask roles : Nat) (s : State) : exec (.calCtrlOpen mask roles) s = execCalCtrlOpen mask roles s := rfl
theorem exec_calCtrlClose (mask roles : Nat) (s : State) : exec (.calCtrlClose mask roles) s = execCalCtrlClose mask roles s := rfl
theorem exec_answerRequest (pipe : Fin 16) (grid : List GridPoint) (crcFail : Bool) (s : State) : exec (.answerRequest pipe grid crcFail) s = execAnswerRequest pipe grid crcFail s := rfl
theorem exec_checkerCompare (pipe : Fin 16) (agrees : Bool) (s : State) : exec (.checkerCompare pipe agrees) s = execCheckerCompare pipe agrees s := rfl
theorem exec_checkerProbe (pipe : Fin 16) (agrees : Bool) (s : State) : exec (.checkerProbe pipe agrees) s = execCheckerProbe pipe agrees s := rfl
theorem exec_pipeReenable (pipe : Fin 16) (value roles : Nat) (s : State) : exec (.pipeReenable pipe value roles) s = execPipeReenable pipe value roles s := rfl
theorem exec_ansRekey (value roles : Nat) (s : State) : exec (.ansRekey value roles) s = execAnsRekey value roles s := rfl
theorem exec_bucketSweep (bucket : Fin 2097152) (profile : Fin 16) (s : State) : exec (.bucketSweep bucket profile) s = execBucketSweep bucket profile s := rfl
theorem exec_ansRuleWrite (rule : Fin 256) (w : RecWrite) (roles : Nat) (s : State) : exec (.ansRuleWrite rule w roles) s = execAnsRuleWrite rule w roles s := rfl
theorem exec_ansPeekWrite (w : RecWrite) (roles : Nat) (s : State) : exec (.ansPeekWrite w roles) s = execAnsPeekWrite w roles s := rfl
theorem exec_hostLaunchTake (ring : Fin 128) (grid : List GridPoint) (s : State) : exec (.hostLaunchTake ring grid) s = execHostLaunchTake ring grid s := rfl
theorem exec_hostLaunchRetry (ring : Fin 128) (grid : List GridPoint) (s : State) : exec (.hostLaunchRetry ring grid) s = execHostLaunchRetry ring grid s := rfl
theorem exec_timedFetchStart (port : Fin 32) (latency : Nat) (s : State) : exec (.timedFetchStart port latency) s = execTimedFetchStart port latency s := rfl
theorem exec_frameRelease (port : Fin 32) (short : Bool) (s : State) : exec (.frameRelease port short) s = execFrameRelease port short s := rfl
theorem exec_untimedTxStart (port : Fin 32) (block : Nat) (s : State) : exec (.untimedTxStart port block) s = execUntimedTxStart port block s := rfl
theorem exec_ntsSlotLoadLocal (slot : Fin 16) (roles : Nat) (s : State) : exec (.ntsSlotLoadLocal slot roles) s = execNtsSlotLoadLocal slot roles s := rfl
theorem exec_ntsSlotLoadStation (slot : Fin 16) (roles : Nat) (s : State) : exec (.ntsSlotLoadStation slot roles) s = execNtsSlotLoadStation slot roles s := rfl
theorem exec_ntsSlotLoadImport (slot : Fin 16) (roles : Nat) (s : State) : exec (.ntsSlotLoadImport slot roles) s = execNtsSlotLoadImport slot roles s := rfl
theorem exec_ntsSlotMakeCurrent (slot : Fin 16) (roles : Nat) (s : State) : exec (.ntsSlotMakeCurrent slot roles) s = execNtsSlotMakeCurrent slot roles s := rfl
theorem exec_ntsSlotRetire (slot : Fin 16) (roles : Nat) (s : State) : exec (.ntsSlotRetire slot roles) s = execNtsSlotRetire slot roles s := rfl
theorem exec_slotRetireCheck (s : State) : exec (.slotRetireCheck) s = execSlotRetireCheck s := rfl
theorem exec_ntsStationSeedWrite (seed roles : Nat) (s : State) : exec (.ntsStationSeedWrite seed roles) s = execNtsStationSeedWrite seed roles s := rfl
theorem exec_keyStoreWrite (good : Bool) (s : State) : exec (.keyStoreWrite good) s = execKeyStoreWrite good s := rfl
theorem exec_drbgReseed (healthy : Bool) (s : State) : exec (.drbgReseed healthy) s = execDrbgReseed healthy s := rfl
theorem exec_drbgRetry (good : Nat) (s : State) : exec (.drbgRetry good) s = execDrbgRetry good s := rfl
theorem exec_ntsKeSyn (port : Fin 32) (frame : Bytes) (s : State) : exec (.ntsKeSyn port frame) s = execNtsKeSyn port frame s := rfl
theorem exec_ntsKeRequest (session : Nat) (hello : KeHello) (request : Bytes) (c2s s2c : Nat) (s : State) : exec (.ntsKeRequest session hello request c2s s2c) s = execNtsKeRequest session hello request c2s s2c s := rfl
theorem exec_ntsKeSessionTimeout (session : Nat) (s : State) : exec (.ntsKeSessionTimeout session) s = execNtsKeSessionTimeout session s := rfl
theorem exec_ntsKeKeyGenerate (roles : Nat) (s : State) : exec (.ntsKeKeyGenerate roles) s = execNtsKeKeyGenerate roles s := rfl
theorem exec_ptpReceive (grid : List GridPoint) (s : State) : exec (.ptpReceive grid) s = execPtpReceive grid s := rfl
theorem exec_grantExpiry (client type : Nat) (s : State) : exec (.grantExpiry client type) s = execGrantExpiry client type s := rfl
theorem exec_ptpMessageDue (due : PtpDue) (grid : List GridPoint) (s : State) : exec (.ptpMessageDue due grid) s = execPtpMessageDue due grid s := rfl
theorem exec_upstreamRenew (unit_ : Fin 16) (grid : List GridPoint) (s : State) : exec (.upstreamRenew unit_ grid) s = execUpstreamRenew unit_ grid s := rfl
theorem exec_followUpTimeout (unit_ : Fin 16) (s : State) : exec (.followUpTimeout unit_) s = execFollowUpTimeout unit_ s := rfl
theorem exec_upstreamRetry (unit_ : Fin 16) (s : State) : exec (.upstreamRetry unit_) s = execUpstreamRetry unit_ s := rfl
theorem exec_refinCompareEdge (input : Fin 8) (capture : Nat) (shortLevel : Bool) (width : Nat) (s : State) : exec (.refinCompareEdge input capture shortLevel width) s = execRefinCompareEdge input capture shortLevel width s := rfl
theorem exec_refinStuck (input : Fin 8) (s : State) : exec (.refinStuck input) s = execRefinStuck input s := rfl
theorem exec_refinConfigWrite (input : Fin 8) (qual : Bool) (w : RecWrite) (roles : Nat) (s : State) : exec (.refinConfigWrite input qual w roles) s = execRefinConfigWrite input qual w roles s := rfl
theorem exec_todInMessage (text : Bytes) (framingError : Bool) (s : State) : exec (.todInMessage text framingError) s = execTodInMessage text framingError s := rfl
theorem exec_siblingStale (input : Fin 8) (s : State) : exec (.siblingStale input) s = execSiblingStale input s := rfl
theorem exec_gnssSampleBlock (fe : Fin 2) (block : SampleBlock) (s : State) : exec (.gnssSampleBlock fe block) s = execGnssSampleBlock fe block s := rfl
theorem exec_checkChannelPass (channel : Fin 128) (run : Nat) (s : State) : exec (.checkChannelPass channel run) s = execCheckChannelPass channel run s := rfl
theorem exec_acquisitionDwell (fe : Fin 2) (hits : List SearchHit) (s : State) : exec (.acquisitionDwell fe hits) s = execAcquisitionDwell fe hits s := rfl
theorem exec_gnssSolutionEpoch (fe : Fin 2) (epoch : GnssEpoch) (s : State) : exec (.gnssSolutionEpoch fe epoch) s = execGnssSolutionEpoch fe epoch s := rfl
theorem exec_channelRelease (channel : Fin 128) (s : State) : exec (.channelRelease channel) s = execChannelRelease channel s := rfl
theorem exec_raimRejoin (channel : Fin 128) (s : State) : exec (.raimRejoin channel) s = execRaimRejoin channel s := rfl
theorem exec_osnmaVerify (result : OsnmaResult) (s : State) : exec (.osnmaVerify result) s = execOsnmaVerify result s := rfl
theorem exec_osnmaFailExpiry (prn : Nat) (s : State) : exec (.osnmaFailExpiry prn) s = execOsnmaFailExpiry prn s := rfl
theorem exec_antennaFaultPin (fe : Fin 2) (low : Bool) (s : State) : exec (.antennaFaultPin fe low) s = execAntennaFaultPin fe low s := rfl
theorem exec_gnssStoreSave (write : Option (Int × Nat)) (s : State) : exec (.gnssStoreSave write) s = execGnssStoreSave write s := rfl
theorem exec_gnssHeldWrite (w : RecWrite) (roles : Nat) (s : State) : exec (.gnssHeldWrite w roles) s = execGnssHeldWrite w roles s := rfl
theorem exec_gnssConfigWrite (fe : Option (Fin 2)) (w : RecWrite) (roles : Nat) (s : State) : exec (.gnssConfigWrite fe w roles) s = execGnssConfigWrite fe w roles s := rfl
theorem exec_stabilityUpdate (s : State) : exec (.stabilityUpdate) s = execStabilityUpdate s := rfl
theorem exec_slotSilent (slot : Fin 64) (s : State) : exec (.slotSilent slot) s = execSlotSilent slot s := rfl
theorem exec_asymEstimate (slot : Fin 64) (s : State) : exec (.asymEstimate slot) s = execAsymEstimate slot s := rfl
theorem exec_waitToRestoreEnd (slot : Fin 64) (s : State) : exec (.waitToRestoreEnd slot) s = execWaitToRestoreEnd slot s := rfl
theorem exec_acceptJump (slot : Fin 64) (roles : Nat) (s : State) : exec (.acceptJump slot roles) s = execAcceptJump slot roles s := rfl
theorem exec_clearWtr (slot : Fin 64) (roles : Nat) (s : State) : exec (.clearWtr slot roles) s = execClearWtr slot roles s := rfl
theorem exec_resetStability (slot : Fin 64) (roles : Nat) (s : State) : exec (.resetStability slot roles) s = execResetStability slot roles s := rfl
theorem exec_selPeekWrite (w : RecWrite) (roles : Nat) (s : State) : exec (.selPeekWrite w roles) s = execSelPeekWrite w roles s := rfl
theorem exec_selForceWrite (moon : Fin 32) (value roles : Nat) (s : State) : exec (.selForceWrite moon value roles) s = execSelForceWrite moon value roles s := rfl
theorem exec_steerModeWrite (moon : Fin 32) (value roles : Nat) (s : State) : exec (.steerModeWrite moon value roles) s = execSteerModeWrite moon value roles s := rfl
theorem exec_restart (moon : Fin 32) (value roles : Nat) (s : State) : exec (.restart moon value roles) s = execRestart moon value roles s := rfl
theorem exec_restartModel (value roles : Nat) (s : State) : exec (.restartModel value roles) s = execRestartModel value roles s := rfl
theorem exec_modelObservation (s : State) : exec (.modelObservation) s = execModelObservation s := rfl
theorem exec_synthLock (synth : Fin 4) (s : State) : exec (.synthLock synth) s = execSynthLock synth s := rfl
theorem exec_synthUnlock (synth : Fin 4) (s : State) : exec (.synthUnlock synth) s = execSynthUnlock synth s := rfl
theorem exec_ppsoutEdge (output : Fin 4) (error : Int) (s : State) : exec (.ppsoutEdge output error) s = execPpsoutEdge output error s := rfl
theorem exec_todOutMessage (s : State) : exec (.todOutMessage) s = execTodOutMessage s := rfl
theorem exec_ppsoutConfigWrite (output : Fin 4) (w : RecWrite) (roles : Nat) (s : State) : exec (.ppsoutConfigWrite output w roles) s = execPpsoutConfigWrite output w roles s := rfl
theorem exec_modadd (queue : Fin 4) (cmd : PkCmd) (roles : Nat) (s : State) : exec (.modadd queue cmd roles) s = execModadd queue cmd roles s := rfl
theorem exec_modsub (queue : Fin 4) (cmd : PkCmd) (roles : Nat) (s : State) : exec (.modsub queue cmd roles) s = execModsub queue cmd roles s := rfl
theorem exec_modmul (queue : Fin 4) (cmd : PkCmd) (roles : Nat) (s : State) : exec (.modmul queue cmd roles) s = execModmul queue cmd roles s := rfl
theorem exec_modexp (queue : Fin 4) (cmd : PkCmd) (roles : Nat) (s : State) : exec (.modexp queue cmd roles) s = execModexp queue cmd roles s := rfl
theorem exec_modexpPub (queue : Fin 4) (cmd : PkCmd) (roles : Nat) (s : State) : exec (.modexpPub queue cmd roles) s = execModexpPub queue cmd roles s := rfl
theorem exec_modinv (queue : Fin 4) (cmd : PkCmd) (roles : Nat) (s : State) : exec (.modinv queue cmd roles) s = execModinv queue cmd roles s := rfl
theorem exec_rsaCrt (queue : Fin 4) (cmd : PkCmd) (roles : Nat) (s : State) : exec (.rsaCrt queue cmd roles) s = execRsaCrt queue cmd roles s := rfl
theorem exec_x25519 (queue : Fin 4) (cmd : PkCmd) (roles : Nat) (s : State) : exec (.x25519 queue cmd roles) s = execX25519 queue cmd roles s := rfl
theorem exec_ed25519Sign (queue : Fin 4) (cmd : PkCmd) (roles : Nat) (s : State) : exec (.ed25519Sign queue cmd roles) s = execEd25519Sign queue cmd roles s := rfl
theorem exec_ed25519Verify (queue : Fin 4) (cmd : PkCmd) (roles : Nat) (s : State) : exec (.ed25519Verify queue cmd roles) s = execEd25519Verify queue cmd roles s := rfl
theorem exec_ecdsaSignP256 (queue : Fin 4) (cmd : PkCmd) (roles : Nat) (s : State) : exec (.ecdsaSignP256 queue cmd roles) s = execEcdsaSignP256 queue cmd roles s := rfl
theorem exec_ecdsaVerifyP256 (queue : Fin 4) (cmd : PkCmd) (roles : Nat) (s : State) : exec (.ecdsaVerifyP256 queue cmd roles) s = execEcdsaVerifyP256 queue cmd roles s := rfl
theorem exec_ecdsaVerifyP384 (queue : Fin 4) (cmd : PkCmd) (roles : Nat) (s : State) : exec (.ecdsaVerifyP384 queue cmd roles) s = execEcdsaVerifyP384 queue cmd roles s := rfl
theorem exec_ecdsaVerifyP521 (queue : Fin 4) (cmd : PkCmd) (roles : Nat) (s : State) : exec (.ecdsaVerifyP521 queue cmd roles) s = execEcdsaVerifyP521 queue cmd roles s := rfl
theorem exec_keygenP256 (queue : Fin 4) (cmd : PkCmd) (roles : Nat) (s : State) : exec (.keygenP256 queue cmd roles) s = execKeygenP256 queue cmd roles s := rfl
theorem exec_keygenEd25519 (queue : Fin 4) (cmd : PkCmd) (roles : Nat) (s : State) : exec (.keygenEd25519 queue cmd roles) s = execKeygenEd25519 queue cmd roles s := rfl
theorem exec_keygenX25519 (queue : Fin 4) (cmd : PkCmd) (roles : Nat) (s : State) : exec (.keygenX25519 queue cmd roles) s = execKeygenX25519 queue cmd roles s := rfl
theorem exec_clear (queue : Fin 4) (cmd : PkCmd) (roles : Nat) (s : State) : exec (.clear queue cmd roles) s = execClear queue cmd roles s := rfl
theorem exec_copy (queue : Fin 4) (cmd : PkCmd) (roles : Nat) (s : State) : exec (.copy queue cmd roles) s = execCopy queue cmd roles s := rfl
theorem exec_clearRegion (queue : Fin 4) (cmd : PkCmd) (roles : Nat) (s : State) : exec (.clearRegion queue cmd roles) s = execClearRegion queue cmd roles s := rfl
theorem exec_pkDispatch (s : State) : exec (.pkDispatch) s = execPkDispatch s := rfl
theorem exec_pkValidationEnd (unit_ : Fin 8) (s : State) : exec (.pkValidationEnd unit_) s = execPkValidationEnd unit_ s := rfl
theorem exec_pkComplete (unit_ : Fin 8) (how : PkEnd) (s : State) : exec (.pkComplete unit_ how) s = execPkComplete unit_ how s := rfl
theorem exec_pkAbort (queue : Fin 4) (tag roles : Nat) (s : State) : exec (.pkAbort queue tag roles) s = execPkAbort queue tag roles s := rfl
theorem exec_pkPop (value roles : Nat) (s : State) : exec (.pkPop value roles) s = execPkPop value roles s := rfl
theorem exec_erase (handle : Fin 16) (roles : Nat) (s : State) : exec (.erase handle roles) s = execErase handle roles s := rfl
theorem exec_pkSlotDefine (owner : Bool) (slot : Fin 1024) (w : RecWrite) (roles : Nat) (s : State) : exec (.pkSlotDefine owner slot w roles) s = execPkSlotDefine owner slot w roles s := rfl
theorem exec_pkDataWrite (owner : Bool) (slot : Fin 1024) (value roles : Nat) (s : State) : exec (.pkDataWrite owner slot value roles) s = execPkDataWrite owner slot value roles s := rfl
theorem exec_functionLevelReset (posted : List (Nat × List Nat)) (s : State) : exec (.functionLevelReset posted) s = execFunctionLevelReset posted s := rfl
theorem exec_pcieLinkDown (s : State) : exec (.pcieLinkDown) s = execPcieLinkDown s := rfl
theorem exec_pcieLinkUp (width rate : Nat) (s : State) : exec (.pcieLinkUp width rate) s = execPcieLinkUp width rate s := rfl
theorem exec_ringEnable (tx : Bool) (ring : Fin 128) (roles : Nat) (s : State) : exec (.ringEnable tx ring roles) s = execRingEnable tx ring roles s := rfl
theorem exec_ringDisable (tx : Bool) (ring : Fin 128) (posted : List Nat) (roles : Nat) (s : State) : exec (.ringDisable tx ring posted roles) s = execRingDisable tx ring posted roles s := rfl
theorem exec_doorbellProd (tx : Bool) (ring : Fin 128) (value : Nat) (s : State) : exec (.doorbellProd tx ring value) s = execDoorbellProd tx ring value s := rfl
theorem exec_doorbellAck (tx : Bool) (ring : Fin 128) (value : Nat) (s : State) : exec (.doorbellAck tx ring value) s = execDoorbellAck tx ring value s := rfl
theorem exec_rxFrameDeliver (port : Fin 32) (bufs : List Nat) (s : State) : exec (.rxFrameDeliver port bufs) s = execRxFrameDeliver port bufs s := rfl
theorem exec_txDescTake (ring : Fin 128) (descs : List TxDesc) (fail : Bool) (s : State) : exec (.txDescTake ring descs fail) s = execTxDescTake ring descs fail s := rfl
theorem exec_vecArmWrite (mask : Nat) (s : State) : exec (.vecArmWrite mask) s = execVecArmWrite mask s := rfl
theorem exec_vecHoldoffEnd (vector : Fin 64) (s : State) : exec (.vecHoldoffEnd vector) s = execVecHoldoffEnd vector s := rfl
theorem exec_irqPendingClear (mask roles : Nat) (s : State) : exec (.irqPendingClear mask roles) s = execIrqPendingClear mask roles s := rfl
theorem exec_tailPop (port : Fin 32) (value : Nat) (s : State) : exec (.tailPop port value) s = execTailPop port value s := rfl
theorem exec_counterPageSnap (page : Fin 64) (s : State) : exec (.counterPageSnap page) s = execCounterPageSnap page s := rfl
theorem exec_wrapClear (page : Fin 64) (mask : Nat) (s : State) : exec (.wrapClear page mask) s = execWrapClear page mask s := rfl
theorem exec_windowDoorbell (ctx : Fin 8) (value : Nat) (s : State) : exec (.windowDoorbell ctx value) s = execWindowDoorbell ctx value s := rfl
theorem exec_dmaTimeout (tx : Bool) (ring : Fin 128) (s : State) : exec (.dmaTimeout tx ring) s = execDmaTimeout tx ring s := rfl
theorem exec_lanithRequest (s : State) : exec (.lanithRequest) s = execLanithRequest s := rfl
theorem exec_read (area im offset length roles : Nat) (s : State) : exec (.read area im offset length roles) s = execRead area im offset length roles s := rfl
theorem exec_write (area im offset : Nat) (bytes : Bytes) (roles : Nat) (s : State) : exec (.write area im offset bytes roles) s = execWrite area im offset bytes roles s := rfl
theorem exec_timedWrite (area im : Nat) (bytes : Bytes) (roles : Nat) (s : State) : exec (.timedWrite area im bytes roles) s = execTimedWrite area im bytes roles s := rfl
theorem exec_partStagingTimeout (area im : Nat) (s : State) : exec (.partStagingTimeout area im) s = execPartStagingTimeout area im s := rfl
theorem exec_responseHoldExpiry (cred : Fin 32) (s : State) : exec (.responseHoldExpiry cred) s = execResponseHoldExpiry cred s := rfl
theorem exec_writeQueueDrain (s : State) : exec (.writeQueueDrain) s = execWriteQueueDrain s := rfl
theorem exec_fwReadDone (s : State) : exec (.fwReadDone) s = execFwReadDone s := rfl
theorem exec_dictObjectWrite (area im : Nat) (bytes : Bytes) (roles : Nat) (s : State) : exec (.dictObjectWrite area im bytes roles) s = execDictObjectWrite area im bytes roles s := rfl
theorem exec_credWrite (cred : Fin 32) (w : RecWrite) (roles : Nat) (s : State) : exec (.credWrite cred w roles) s = execCredWrite cred w roles s := rfl
theorem exec_save (roles : Nat) (s : State) : exec (.save roles) s = execSave roles s := rfl
theorem exec_storeSaveDone (good : Bool) (s : State) : exec (.storeSaveDone good) s = execStoreSaveDone good s := rfl
theorem exec_factoryDefaults (roles : Nat) (s : State) : exec (.factoryDefaults roles) s = execFactoryDefaults roles s := rfl
theorem exec_descChunkSelect (index roles : Nat) (s : State) : exec (.descChunkSelect index roles) s = execDescChunkSelect index roles s := rfl
theorem exec_loadWindow (util : Nat) (s : State) : exec (.loadWindow util) s = execLoadWindow util s := rfl
theorem exec_segmentFrameRx (frame : Bytes) (s : State) : exec (.segmentFrameRx frame) s = execSegmentFrameRx frame s := rfl
theorem exec_publishRx (s : State) : exec (.publishRx) s = execPublishRx s := rfl
theorem exec_publishSend (s : State) : exec (.publishSend) s = execPublishSend s := rfl
theorem exec_collision (s : State) : exec (.collision) s = execCollision s := rfl
theorem exec_backoffEnd (s : State) : exec (.backoffEnd) s = execBackoffEnd s := rfl
theorem exec_plcaTxOpportunity (s : State) : exec (.plcaTxOpportunity) s = execPlcaTxOpportunity s := rfl
theorem exec_segmentLinkLoss (s : State) : exec (.segmentLinkLoss) s = execSegmentLinkLoss s := rfl
theorem exec_snapMaskWrite (mask roles : Nat) (s : State) : exec (.snapMaskWrite mask roles) s = execSnapMaskWrite mask roles s := rfl
theorem exec_cntWinClose (window : Fin 64) (value roles : Nat) (s : State) : exec (.cntWinClose window value roles) s = execCntWinClose window value roles s := rfl
theorem exec_cntWinEventWrite (window : Fin 64) (value roles : Nat) (s : State) : exec (.cntWinEventWrite window value roles) s = execCntWinEventWrite window value roles s := rfl
theorem exec_cntOccWrite (occ : Fin 16) (w : RecWrite) (roles : Nat) (s : State) : exec (.cntOccWrite occ w roles) s = execCntOccWrite occ w roles s := rfl
theorem exec_peakClear (occ : Fin 16) (value roles : Nat) (s : State) : exec (.peakClear occ value roles) s = execPeakClear occ value roles s := rfl
theorem exec_userViewSnap (page : Fin 50) (s : State) : exec (.userViewSnap page) s = execUserViewSnap page s := rfl
theorem exec_cntUserMaskWrite (mask roles : Nat) (s : State) : exec (.cntUserMaskWrite mask roles) s = execCntUserMaskWrite mask roles s := rfl
theorem exec_faultForce (block : Fin 24) (value roles : Nat) (s : State) : exec (.faultForce block value roles) s = execFaultForce block value roles s := rfl
theorem exec_faultRearm (block : Fin 24) (value roles : Nat) (s : State) : exec (.faultRearm block value roles) s = execFaultRearm block value roles s := rfl
theorem exec_faultLatchClear (block : Fin 24) (mask roles : Nat) (s : State) : exec (.faultLatchClear block mask roles) s = execFaultLatchClear block mask roles s := rfl
theorem exec_testWindowOpen (seconds roles : Nat) (s : State) : exec (.testWindowOpen seconds roles) s = execTestWindowOpen seconds roles s := rfl
theorem exec_testWindowClose (value roles : Nat) (s : State) : exec (.testWindowClose value roles) s = execTestWindowClose value roles s := rfl
theorem exec_testWindowExpiry (s : State) : exec (.testWindowExpiry) s = execTestWindowExpiry s := rfl
theorem exec_selfcheckPass (wrong : List CheckerFail) (s : State) : exec (.selfcheckPass wrong) s = execSelfcheckPass wrong s := rfl
theorem exec_scrubRead (memory : EccMemory) (last : Bool) (found : Option (EccCell × Bool)) (s : State) : exec (.scrubRead memory last found) s = execScrubRead memory last found s := rfl
theorem exec_scrubOverrun (memory : EccMemory) (s : State) : exec (.scrubOverrun memory) s = execScrubOverrun memory s := rfl
theorem exec_eclipseRailChange (s : State) : exec (.eclipseRailChange) s = execEclipseRailChange s := rfl
theorem exec_eclipseEntry (s : State) : exec (.eclipseEntry) s = execEclipseEntry s := rfl
theorem exec_lingerEnd (s : State) : exec (.lingerEnd) s = execLingerEnd s := rfl
theorem exec_powerOnReset (s : State) : exec (.powerOnReset) s = execPowerOnReset s := rfl
theorem exec_warmReset (s : State) : exec (.warmReset) s = execWarmReset s := rfl
theorem exec_resetCommandWarm (value roles : Nat) (s : State) : exec (.resetCommandWarm value roles) s = execResetCommandWarm value roles s := rfl
theorem exec_autoReset (s : State) : exec (.autoReset) s = execAutoReset s := rfl
theorem exec_watchdogExpiry (s : State) : exec (.watchdogExpiry) s = execWatchdogExpiry s := rfl
theorem exec_pllLock (fuseGood : Bool) (s : State) : exec (.pllLock fuseGood) s = execPllLock fuseGood s := rfl
theorem exec_pllLockTimeout (s : State) : exec (.pllLockTimeout) s = execPllLockTimeout s := rfl
theorem exec_ddrTrained (good : Bool) (s : State) : exec (.ddrTrained good) s = execDdrTrained good s := rfl
theorem exec_credentialsRestored (keyA keyB : Bool) (s : State) : exec (.credentialsRestored keyA keyB) s = execCredentialsRestored keyA keyB s := rfl
theorem exec_imageVerified (s : State) : exec (.imageVerified) s = execImageVerified s := rfl
theorem exec_storesRestored (calA calB : Bool) (s : State) : exec (.storesRestored calA calB) s = execStoresRestored calA calB s := rfl
theorem exec_restoreTick (s : State) : exec (.restoreTick) s = execRestoreTick s := rfl
theorem exec_monitorSample (rails : List Nat) (temps : List Int) (s : State) : exec (.monitorSample rails temps) s = execMonitorSample rails temps s := rfl
theorem exec_thermTripRelease (s : State) : exec (.thermTripRelease) s = execThermTripRelease s := rfl
theorem exec_avsLoop (margins : List Int) (acknowledged : Bool) (s : State) : exec (.avsLoop margins acknowledged) s = execAvsLoop margins acknowledged s := rfl
theorem exec_fwImageDataWrite (offset : Nat) (bytes : Bytes) (roles : Nat) (s : State) : exec (.fwImageDataWrite offset bytes roles) s = execFwImageDataWrite offset bytes roles s := rfl
theorem exec_fwImageCommit (value roles : Nat) (s : State) : exec (.fwImageCommit value roles) s = execFwImageCommit value roles s := rfl
theorem exec_advanceRollback (value roles : Nat) (s : State) : exec (.advanceRollback value roles) s = execAdvanceRollback value roles s := rfl
theorem exec_dumpNow (value roles : Nat) (s : State) : exec (.dumpNow value roles) s = execDumpNow value roles s := rfl
theorem exec_dumpCapture (log cores : Bytes) (unreadable : List Nat) (s : State) : exec (.dumpCapture log cores unreadable) s = execDumpCapture log cores unreadable s := rfl
theorem exec_dumpComplete (s : State) : exec (.dumpComplete) s = execDumpComplete s := rfl
theorem exec_dumpClear (mask roles : Nat) (s : State) : exec (.dumpClear mask roles) s = execDumpClear mask roles s := rfl
theorem exec_dumpChunkSelect (index roles : Nat) (s : State) : exec (.dumpChunkSelect index roles) s = execDumpChunkSelect index roles s := rfl
theorem exec_thermTrip (s : State) : exec (.thermTrip) s = execThermTrip s := rfl
theorem exec_ddrPllLock (s : State) : exec (.ddrPllLock) s = execDdrPllLock s := rfl
theorem exec_serdesPllLock (group : Fin 8) (s : State) : exec (.serdesPllLock group) s = execSerdesPllLock group s := rfl
theorem exec_segmentLinkUp (s : State) : exec (.segmentLinkUp) s = execSegmentLinkUp s := rfl
theorem exec_coresRestart (s : State) : exec (.coresRestart) s = execCoresRestart s := rfl
theorem exec_msixMaskWrite (vector : Fin 64) (masked : Bool) (s : State) : exec (.msixMaskWrite vector masked) s = execMsixMaskWrite vector masked s := rfl
theorem exec_tailOverflowClear (port : Fin 32) (s : State) : exec (.tailOverflowClear port) s = execTailOverflowClear port s := rfl
theorem exec_windowRequestWrite (ctx : Fin 8) (w : WindowWrite) (s : State) : exec (.windowRequestWrite ctx w) s = execWindowRequestWrite ctx w s := rfl
theorem exec_upstreamDelayReq (unit_ : Fin 16) (grid : List GridPoint) (s : State) : exec (.upstreamDelayReq unit_ grid) s = execUpstreamDelayReq unit_ grid s := rfl
theorem exec_resetRelease (osc : Fin 4) (forceB : Bool) (s : State) : exec (.resetRelease osc forceB) s = execResetRelease osc forceB s := rfl

/-! ## The frame of a command -/

/-- The frames a command's meaning runs in. -/
inductive Framed (c : Instr) (s : State) (r : Host.Outcome State Fault Refusal) : Prop where
  | running (f : Ctx → Eng → Eng) (h : r = lift f s)
  | always (f : Ctx → Eng → Eng) (hc : actsInReset c = true) (h : r = liftAlways f s)
  | settling (f : Ctx → Eng → Eng) (hc : mayRestart c = true) (h : r = liftSettle f s)
  | tick (u : List CopyUpset) (d : List TickHit) (hc : c = .tick u d) (h : r = execTick u d s)
  | boundary (inp : BoundaryInputs) (hc : c = .steerBoundary inp) (h : r = execSteerBoundary inp s)
  | reset (e : Eng) (hc : mayRestart c = true) (ha : actsInReset c = true) (h : r = .next (s.restarted e))
  | autoReset (hc : c = .autoReset) (h : r = execAutoReset s)

theorem overLink_lift (g : Ctx → Eng → Eng) (s : State) : ∃ f, overLink g s = lift f s := ⟨_, rfl⟩

theorem pkCommand_lift (op : Nat) (queue : Fin 4) (cmd : PkCmd) (roles : Nat) (s : State) :
    ∃ f, pkCommand op queue cmd roles s = lift f s := ⟨_, rfl⟩

/-- Every command's meaning runs in one of the frames. -/
theorem exec_framed (c : Instr) (s : State) : Framed c s (exec c s) :=
  match c with
  | .tick _ _ => .tick _ _ rfl rfl
  | .closingTick inp => .running _ (exec_closingTick inp s)
  | .steerBoundary _ => .boundary _ rfl rfl
  | .timeClockMonitor coreDev ringDev => .running _ (exec_timeClockMonitor coreDev ringDev s)
  | .timeClockPllUnlock => .running _ (exec_timeClockPllUnlock s)
  | .corePllUnlock => .running _ (exec_corePllUnlock s)
  | .ddrPllUnlock => .running _ (exec_ddrPllUnlock s)
  | .serdesPllUnlock group => .running _ (exec_serdesPllUnlock group s)
  | .consentExpiry moon => .running _ (exec_consentExpiry moon s)
  | .compareCellFire moon cell => .running _ (exec_compareCellFire moon cell s)
  | .moonConfigEnableWrite moon value roles => .running _ (exec_moonConfigEnableWrite moon value roles s)
  | .moonIncStagedWrite moon value roles => .running _ (exec_moonIncStagedWrite moon value roles s)
  | .moonStepStagedWrite moon value roles => .running _ (exec_moonStepStagedWrite moon value roles s)
  | .moonConsentWrite moon bound roles => .running _ (exec_moonConsentWrite moon bound roles s)
  | .moonSetValueWrite moon value roles => .running _ (exec_moonSetValueWrite moon value roles s)
  | .moonSetArmedWrite moon value roles => .running _ (exec_moonSetArmedWrite moon value roles s)
  | .moonSetRecordWrite moon armed value roles => .running _ (exec_moonSetRecordWrite moon armed value roles s)
  | .leapBaseWrite value roles => .running _ (exec_leapBaseWrite value roles s)
  | .leapEntryWrite entry w roles => .running _ (exec_leapEntryWrite entry w roles s)
  | .moonCmpTargetWrite moon cell target roles => .running _ (exec_moonCmpTargetWrite moon cell target roles s)
  | .schedEntryWrite entry w roles => .running _ (exec_schedEntryWrite entry w roles s)
  | .schedEntryEmpty entry value roles => .running _ (exec_schedEntryEmpty entry value roles s)
  | .schedEvaluationPass => .running _ (exec_schedEvaluationPass s)
  | .pulse entry => .running _ (exec_pulse entry s)
  | .snapshot entry => .running _ (exec_snapshot entry s)
  | .window entry => .running _ (exec_window entry s)
  | .calWindow entry => .running _ (exec_calWindow entry s)
  | .keyRotate entry => .running _ (exec_keyRotate entry s)
  | .switch entry => .running _ (exec_switch entry s)
  | .dictWrite entry => .settling _ rfl (exec_dictWrite entry s)
  | .event entry => .running _ (exec_event entry s)
  | .leapPoint moon => .running _ (exec_leapPoint moon s)
  | .laneGroupModeWrite group value roles => .running _ (exec_laneGroupModeWrite group value roles s)
  | .portEnableWrite port value roles => .running _ (exec_portEnableWrite port value roles s)
  | .laneIfWrite lane value roles => .running _ (exec_laneIfWrite lane value roles s)
  | .linkUp port => .running _ (exec_linkUp port s)
  | .linkDown port cause => .running _ (exec_linkDown port cause s)
  | .frameReceive frame => .running _ (exec_frameReceive frame s)
  | .pauseXoffRepeat port => .running _ (exec_pauseXoffRepeat port s)
  | .pauseEnd port => .running _ (exec_pauseEnd port s)
  | .esmcTimeout port => .running _ (exec_esmcTimeout port s)
  | .esmcInfoPdu port => .running _ (exec_esmcInfoPdu port s)
  | .ruleCommit value roles => .running _ (exec_ruleCommit value roles s)
  | .ruleCommitTakeEffect => .running _ (exec_ruleCommitTakeEffect s)
  | .ruleBankCopyDone => .running _ (exec_ruleBankCopyDone s)
  | .serviceEntryWrite v6 entry w roles => .running _ (exec_serviceEntryWrite v6 entry w roles s)
  | .alignmentMarkerRx lane serRx closure loopback => .running _ (exec_alignmentMarkerRx lane serRx closure loopback s)
  | .echoResult lane timed serTx error => .running _ (exec_echoResult lane timed serTx error s)
  | .echoMissing port => .running _ (exec_echoMissing port s)
  | .calItemWrite item value roles => .running _ (exec_calItemWrite item value roles s)
  | .calStoreWrite => .running _ (exec_calStoreWrite s)
  | .calCtrlOpen mask roles => .running _ (exec_calCtrlOpen mask roles s)
  | .calCtrlClose mask roles => .running _ (exec_calCtrlClose mask roles s)
  | .answerRequest pipe grid crcFail => .running _ (exec_answerRequest pipe grid crcFail s)
  | .checkerCompare pipe agrees => .running _ (exec_checkerCompare pipe agrees s)
  | .checkerProbe pipe agrees => .running _ (exec_checkerProbe pipe agrees s)
  | .pipeReenable pipe value roles => .running _ (exec_pipeReenable pipe value roles s)
  | .ansRekey value roles => .running _ (exec_ansRekey value roles s)
  | .bucketSweep bucket profile => .running _ (exec_bucketSweep bucket profile s)
  | .ansRuleWrite rule w roles => .running _ (exec_ansRuleWrite rule w roles s)
  | .ansPeekWrite w roles => .running _ (exec_ansPeekWrite w roles s)
  | .hostLaunchTake ring grid => .running _ (exec_hostLaunchTake ring grid s)
  | .hostLaunchRetry ring grid => .running _ (exec_hostLaunchRetry ring grid s)
  | .timedFetchStart port latency => .running _ (exec_timedFetchStart port latency s)
  | .frameRelease port short => .running _ (exec_frameRelease port short s)
  | .untimedTxStart port block => .running _ (exec_untimedTxStart port block s)
  | .ntsSlotLoadLocal slot roles => .running _ (exec_ntsSlotLoadLocal slot roles s)
  | .ntsSlotLoadStation slot roles => .running _ (exec_ntsSlotLoadStation slot roles s)
  | .ntsSlotLoadImport slot roles => .running _ (exec_ntsSlotLoadImport slot roles s)
  | .ntsSlotMakeCurrent slot roles => .running _ (exec_ntsSlotMakeCurrent slot roles s)
  | .ntsSlotRetire slot roles => .running _ (exec_ntsSlotRetire slot roles s)
  | .slotRetireCheck => .running _ (exec_slotRetireCheck s)
  | .ntsStationSeedWrite seed roles => .running _ (exec_ntsStationSeedWrite seed roles s)
  | .keyStoreWrite good => .running _ (exec_keyStoreWrite good s)
  | .drbgReseed healthy => .running _ (exec_drbgReseed healthy s)
  | .drbgRetry good => .running _ (exec_drbgRetry good s)
  | .ntsKeSyn port frame => .running _ (exec_ntsKeSyn port frame s)
  | .ntsKeRequest session hello request c2s s2c => .running _ (exec_ntsKeRequest session hello request c2s s2c s)
  | .ntsKeSessionTimeout session => .running _ (exec_ntsKeSessionTimeout session s)
  | .ntsKeKeyGenerate roles => .running _ (exec_ntsKeKeyGenerate roles s)
  | .ptpReceive grid => .running _ (exec_ptpReceive grid s)
  | .grantExpiry client type => .running _ (exec_grantExpiry client type s)
  | .ptpMessageDue due grid => .running _ (exec_ptpMessageDue due grid s)
  | .upstreamRenew unit_ grid => .running _ (exec_upstreamRenew unit_ grid s)
  | .followUpTimeout unit_ => .running _ (exec_followUpTimeout unit_ s)
  | .upstreamRetry unit_ => .running _ (exec_upstreamRetry unit_ s)
  | .refinCompareEdge input capture shortLevel width => .running _ (exec_refinCompareEdge input capture shortLevel width s)
  | .refinStuck input => .running _ (exec_refinStuck input s)
  | .refinConfigWrite input qual w roles => .running _ (exec_refinConfigWrite input qual w roles s)
  | .todInMessage text framingError => .running _ (exec_todInMessage text framingError s)
  | .siblingStale input => .running _ (exec_siblingStale input s)
  | .gnssSampleBlock fe block => .running _ (exec_gnssSampleBlock fe block s)
  | .checkChannelPass channel run => .running _ (exec_checkChannelPass channel run s)
  | .acquisitionDwell fe hits => .running _ (exec_acquisitionDwell fe hits s)
  | .gnssSolutionEpoch fe epoch => .running _ (exec_gnssSolutionEpoch fe epoch s)
  | .channelRelease channel => .running _ (exec_channelRelease channel s)
  | .raimRejoin channel => .running _ (exec_raimRejoin channel s)
  | .osnmaVerify result => .running _ (exec_osnmaVerify result s)
  | .osnmaFailExpiry prn => .running _ (exec_osnmaFailExpiry prn s)
  | .antennaFaultPin fe low => .running _ (exec_antennaFaultPin fe low s)
  | .gnssStoreSave write => .running _ (exec_gnssStoreSave write s)
  | .gnssHeldWrite w roles => .running _ (exec_gnssHeldWrite w roles s)
  | .gnssConfigWrite fe w roles => .running _ (exec_gnssConfigWrite fe w roles s)
  | .stabilityUpdate => .running _ (exec_stabilityUpdate s)
  | .slotSilent slot => .running _ (exec_slotSilent slot s)
  | .asymEstimate slot => .running _ (exec_asymEstimate slot s)
  | .waitToRestoreEnd slot => .running _ (exec_waitToRestoreEnd slot s)
  | .acceptJump slot roles => .running _ (exec_acceptJump slot roles s)
  | .clearWtr slot roles => .running _ (exec_clearWtr slot roles s)
  | .resetStability slot roles => .running _ (exec_resetStability slot roles s)
  | .selPeekWrite w roles => .running _ (exec_selPeekWrite w roles s)
  | .selForceWrite moon value roles => .running _ (exec_selForceWrite moon value roles s)
  | .steerModeWrite moon value roles => .running _ (exec_steerModeWrite moon value roles s)
  | .restart moon value roles => .running _ (exec_restart moon value roles s)
  | .restartModel value roles => .running _ (exec_restartModel value roles s)
  | .modelObservation => .running _ (exec_modelObservation s)
  | .synthLock synth => .running _ (exec_synthLock synth s)
  | .synthUnlock synth => .running _ (exec_synthUnlock synth s)
  | .ppsoutEdge output error => .running _ (exec_ppsoutEdge output error s)
  | .todOutMessage => .running _ (exec_todOutMessage s)
  | .ppsoutConfigWrite output w roles => .running _ (exec_ppsoutConfigWrite output w roles s)
  | .modadd queue cmd roles => let ⟨f, h⟩ := pkCommand_lift 1 queue cmd roles s; .running f h
  | .modsub queue cmd roles => let ⟨f, h⟩ := pkCommand_lift 2 queue cmd roles s; .running f h
  | .modmul queue cmd roles => let ⟨f, h⟩ := pkCommand_lift 3 queue cmd roles s; .running f h
  | .modexp queue cmd roles => let ⟨f, h⟩ := pkCommand_lift 4 queue cmd roles s; .running f h
  | .modexpPub queue cmd roles => let ⟨f, h⟩ := pkCommand_lift 5 queue cmd roles s; .running f h
  | .modinv queue cmd roles => let ⟨f, h⟩ := pkCommand_lift 6 queue cmd roles s; .running f h
  | .rsaCrt queue cmd roles => let ⟨f, h⟩ := pkCommand_lift 7 queue cmd roles s; .running f h
  | .x25519 queue cmd roles => let ⟨f, h⟩ := pkCommand_lift 8 queue cmd roles s; .running f h
  | .ed25519Sign queue cmd roles => let ⟨f, h⟩ := pkCommand_lift 9 queue cmd roles s; .running f h
  | .ed25519Verify queue cmd roles => let ⟨f, h⟩ := pkCommand_lift 10 queue cmd roles s; .running f h
  | .ecdsaSignP256 queue cmd roles => let ⟨f, h⟩ := pkCommand_lift 11 queue cmd roles s; .running f h
  | .ecdsaVerifyP256 queue cmd roles => let ⟨f, h⟩ := pkCommand_lift 12 queue cmd roles s; .running f h
  | .ecdsaVerifyP384 queue cmd roles => let ⟨f, h⟩ := pkCommand_lift 13 queue cmd roles s; .running f h
  | .ecdsaVerifyP521 queue cmd roles => let ⟨f, h⟩ := pkCommand_lift 14 queue cmd roles s; .running f h
  | .keygenP256 queue cmd roles => let ⟨f, h⟩ := pkCommand_lift 15 queue cmd roles s; .running f h
  | .keygenEd25519 queue cmd roles => let ⟨f, h⟩ := pkCommand_lift 16 queue cmd roles s; .running f h
  | .keygenX25519 queue cmd roles => let ⟨f, h⟩ := pkCommand_lift 17 queue cmd roles s; .running f h
  | .clear queue cmd roles => let ⟨f, h⟩ := pkCommand_lift 32 queue cmd roles s; .running f h
  | .copy queue cmd roles => let ⟨f, h⟩ := pkCommand_lift 33 queue cmd roles s; .running f h
  | .clearRegion queue cmd roles => let ⟨f, h⟩ := pkCommand_lift 34 queue cmd roles s; .running f h
  | .pkDispatch => .running _ (exec_pkDispatch s)
  | .pkValidationEnd unit_ => .running _ (exec_pkValidationEnd unit_ s)
  | .pkComplete unit_ how => .running _ (exec_pkComplete unit_ how s)
  | .pkAbort queue tag roles => .running _ (exec_pkAbort queue tag roles s)
  | .pkPop value roles => .running _ (exec_pkPop value roles s)
  | .erase handle roles => .running _ (exec_erase handle roles s)
  | .pkSlotDefine owner slot w roles => .running _ (exec_pkSlotDefine owner slot w roles s)
  | .pkDataWrite owner slot value roles => .running _ (exec_pkDataWrite owner slot value roles s)
  | .functionLevelReset posted => let ⟨f, h⟩ := overLink_lift _ s; .running f ((exec_functionLevelReset posted s).trans h)
  | .pcieLinkDown => .running _ (exec_pcieLinkDown s)
  | .pcieLinkUp width rate => .running _ (exec_pcieLinkUp width rate s)
  | .ringEnable tx ring roles => .running (fun x e => e.writeCmd x (if tx then Od.TX_RING_CFG.enable ring else Od.RX_RING_CFG.enable ring) 1 roles (ringWrite x tx ring [] [(if tx then Od.TX_RING_CFG.enable ring else Od.RX_RING_CFG.enable ring, 1)])) rfl
  | .ringDisable tx ring posted roles => .running (fun x e => e.writeCmd x (if tx then Od.TX_RING_CFG.enable ring else Od.RX_RING_CFG.enable ring) 0 roles (ringWrite x tx ring posted [(if tx then Od.TX_RING_CFG.enable ring else Od.RX_RING_CFG.enable ring, 0)])) rfl
  | .doorbellProd tx ring value => let ⟨f, h⟩ := overLink_lift _ s; .running f ((exec_doorbellProd tx ring value s).trans h)
  | .doorbellAck tx ring value => let ⟨f, h⟩ := overLink_lift _ s; .running f ((exec_doorbellAck tx ring value s).trans h)
  | .rxFrameDeliver port bufs => .running _ (exec_rxFrameDeliver port bufs s)
  | .txDescTake ring descs fail => .running _ (exec_txDescTake ring descs fail s)
  | .vecArmWrite mask => let ⟨f, h⟩ := overLink_lift _ s; .running f ((exec_vecArmWrite mask s).trans h)
  | .vecHoldoffEnd vector => .running _ (exec_vecHoldoffEnd vector s)
  | .irqPendingClear mask roles => .running _ (exec_irqPendingClear mask roles s)
  | .tailPop port value => let ⟨f, h⟩ := overLink_lift _ s; .running f ((exec_tailPop port value s).trans h)
  | .counterPageSnap page => let ⟨f, h⟩ := overLink_lift _ s; .running f ((exec_counterPageSnap page s).trans h)
  | .wrapClear page mask => let ⟨f, h⟩ := overLink_lift _ s; .running f ((exec_wrapClear page mask s).trans h)
  | .windowDoorbell ctx value => let ⟨f, h⟩ := overLink_lift _ s; .running f ((exec_windowDoorbell ctx value s).trans h)
  | .dmaTimeout tx ring => .running _ (exec_dmaTimeout tx ring s)
  | .lanithRequest => .running _ (exec_lanithRequest s)
  | .read area im offset length roles => .running _ (exec_read area im offset length roles s)
  | .write area im offset bytes roles => .running _ (exec_write area im offset bytes roles s)
  | .timedWrite area im bytes roles => .running _ (exec_timedWrite area im bytes roles s)
  | .partStagingTimeout area im => .running _ (exec_partStagingTimeout area im s)
  | .responseHoldExpiry cred => .running _ (exec_responseHoldExpiry cred s)
  | .writeQueueDrain => .settling _ rfl (exec_writeQueueDrain s)
  | .fwReadDone => .running _ (exec_fwReadDone s)
  | .dictObjectWrite area im bytes roles => .settling _ rfl (exec_dictObjectWrite area im bytes roles s)
  | .credWrite cred w roles => .running _ (exec_credWrite cred w roles s)
  | .save roles => .running _ (exec_save roles s)
  | .storeSaveDone good => .running _ (exec_storeSaveDone good s)
  | .factoryDefaults roles => .running _ (exec_factoryDefaults roles s)
  | .descChunkSelect index roles => .running _ (exec_descChunkSelect index roles s)
  | .loadWindow util => .running _ (exec_loadWindow util s)
  | .segmentFrameRx frame => .running _ (exec_segmentFrameRx frame s)
  | .publishRx => .running _ (exec_publishRx s)
  | .publishSend => .running _ (exec_publishSend s)
  | .collision => .running _ (exec_collision s)
  | .backoffEnd => .running _ (exec_backoffEnd s)
  | .plcaTxOpportunity => .running _ (exec_plcaTxOpportunity s)
  | .segmentLinkLoss => .running _ (exec_segmentLinkLoss s)
  | .snapMaskWrite mask roles => .running _ (exec_snapMaskWrite mask roles s)
  | .cntWinClose window value roles => .running _ (exec_cntWinClose window value roles s)
  | .cntWinEventWrite window value roles => .running _ (exec_cntWinEventWrite window value roles s)
  | .cntOccWrite occ w roles => .running _ (exec_cntOccWrite occ w roles s)
  | .peakClear occ value roles => .running _ (exec_peakClear occ value roles s)
  | .userViewSnap page => let ⟨f, h⟩ := overLink_lift _ s; .running f ((exec_userViewSnap page s).trans h)
  | .cntUserMaskWrite mask roles => .running _ (exec_cntUserMaskWrite mask roles s)
  | .faultForce block value roles => .running _ (exec_faultForce block value roles s)
  | .faultRearm block value roles => .running _ (exec_faultRearm block value roles s)
  | .faultLatchClear block mask roles => .running _ (exec_faultLatchClear block mask roles s)
  | .testWindowOpen seconds roles => .running _ (exec_testWindowOpen seconds roles s)
  | .testWindowClose value roles => .running _ (exec_testWindowClose value roles s)
  | .testWindowExpiry => .running _ (exec_testWindowExpiry s)
  | .selfcheckPass wrong => .running _ (exec_selfcheckPass wrong s)
  | .scrubRead memory last found => .running _ (exec_scrubRead memory last found s)
  | .scrubOverrun memory => .running _ (exec_scrubOverrun memory s)
  | .eclipseRailChange => .running _ (exec_eclipseRailChange s)
  | .eclipseEntry => .running _ (exec_eclipseEntry s)
  | .lingerEnd => .running _ (exec_lingerEnd s)
  | .powerOnReset => .reset _ rfl rfl rfl
  | .warmReset => .reset _ rfl rfl rfl
  | .resetCommandWarm value roles => .settling _ rfl (exec_resetCommandWarm value roles s)
  | .autoReset => .autoReset rfl rfl
  | .watchdogExpiry => .running _ (exec_watchdogExpiry s)
  | .pllLock fuseGood => .always _ rfl (exec_pllLock fuseGood s)
  | .pllLockTimeout => .always _ rfl (exec_pllLockTimeout s)
  | .ddrTrained good => .running _ (exec_ddrTrained good s)
  | .credentialsRestored keyA keyB => .running _ (exec_credentialsRestored keyA keyB s)
  | .imageVerified => .running _ (exec_imageVerified s)
  | .storesRestored calA calB => .running _ (exec_storesRestored calA calB s)
  | .restoreTick => .running _ (exec_restoreTick s)
  | .monitorSample rails temps => .running _ (exec_monitorSample rails temps s)
  | .thermTripRelease => .always _ rfl (exec_thermTripRelease s)
  | .avsLoop margins acknowledged => .running _ (exec_avsLoop margins acknowledged s)
  | .fwImageDataWrite offset bytes roles => .running _ (exec_fwImageDataWrite offset bytes roles s)
  | .fwImageCommit value roles => .running _ (exec_fwImageCommit value roles s)
  | .advanceRollback value roles => .settling _ rfl (exec_advanceRollback value roles s)
  | .dumpNow value roles => .running _ (exec_dumpNow value roles s)
  | .dumpCapture log cores unreadable => .running _ (exec_dumpCapture log cores unreadable s)
  | .dumpComplete => .running _ (exec_dumpComplete s)
  | .dumpClear mask roles => .running _ (exec_dumpClear mask roles s)
  | .dumpChunkSelect index roles => .running _ (exec_dumpChunkSelect index roles s)
  | .thermTrip => .always _ rfl (exec_thermTrip s)
  | .ddrPllLock => .running _ (exec_ddrPllLock s)
  | .serdesPllLock group => .running _ (exec_serdesPllLock group s)
  | .segmentLinkUp => .running _ (exec_segmentLinkUp s)
  | .coresRestart => .running _ (exec_coresRestart s)
  | .msixMaskWrite vector masked => let ⟨f, h⟩ := overLink_lift _ s; .running f ((exec_msixMaskWrite vector masked s).trans h)
  | .tailOverflowClear port => let ⟨f, h⟩ := overLink_lift _ s; .running f ((exec_tailOverflowClear port s).trans h)
  | .windowRequestWrite ctx w => let ⟨f, h⟩ := overLink_lift _ s; .running f ((exec_windowRequestWrite ctx w s).trans h)
  | .upstreamDelayReq unit_ grid => .running _ (exec_upstreamDelayReq unit_ grid s)
  | .resetRelease osc forceB => .always _ rfl (exec_resetRelease osc forceB s)

/-- The write of one object is judged, applied and accounted for by R344's frame. -/
theorem exec_writeOf (c : Instr) (s : State) (k : Key) (v : Int) (roles : Nat) (h : writeOf c = some (k, v, roles)) :
    ∃ op : Ctx → Eng → WriteRes, exec c s = lift (fun x e => e.writeCmd x k v roles (op x)) s :=
  match c, h with
  | .moonConfigEnableWrite moon value _, rfl => ⟨fun _ => (moonEnableWrite moon value), rfl⟩
  | .moonIncStagedWrite moon value _, rfl => ⟨fun _ => (moonIncWrite moon value), rfl⟩
  | .moonStepStagedWrite moon value _, rfl => ⟨fun _ => (moonStepWrite moon value), rfl⟩
  | .moonConsentWrite moon bound _, rfl => ⟨fun x => (moonConsentWrite x moon bound), rfl⟩
  | .moonSetValueWrite moon value _, rfl => ⟨fun _ => (moonSetWrite moon value 1), rfl⟩
  | .moonSetArmedWrite moon value _, rfl => ⟨fun _ => (moonSetArmedWrite moon value), rfl⟩
  | .leapBaseWrite value _, rfl => ⟨fun x => (leapWrite x none [(Od.LEAP_BASE, value)]), rfl⟩
  | .moonCmpTargetWrite moon cell target _, rfl => ⟨fun x => (cmpTargetWrite x moon cell target), rfl⟩
  | .schedEntryEmpty entry value _, rfl => ⟨fun _ => (schedEmptyWrite entry value), rfl⟩
  | .laneGroupModeWrite group value _, rfl => ⟨fun x => (laneGroupWrite x group value), rfl⟩
  | .portEnableWrite port value _, rfl => ⟨fun x => (portEnableWrite x port value), rfl⟩
  | .laneIfWrite lane value _, rfl => ⟨fun x => (laneIfWrite x lane value), rfl⟩
  | .ruleCommit value _, rfl => ⟨fun x => (ruleCommitWrite x value), rfl⟩
  | .calItemWrite item value _, rfl => ⟨fun x => (calWrite x [((calKey item), value)]), rfl⟩
  | .calCtrlOpen mask _, rfl => ⟨fun x => (calOpenWrite x mask), rfl⟩
  | .calCtrlClose mask _, rfl => ⟨fun x => (calCloseWrite x mask), rfl⟩
  | .pipeReenable pipe value _, rfl => ⟨fun x => (pipeReenable x pipe value), rfl⟩
  | .ansRekey value _, rfl => ⟨fun x => (ansRekey x value), rfl⟩
  | .ntsSlotLoadLocal slot _, rfl => ⟨fun x => (slotCommand x slot 1), rfl⟩
  | .ntsSlotLoadStation slot _, rfl => ⟨fun x => (slotCommand x slot 2), rfl⟩
  | .ntsSlotLoadImport slot _, rfl => ⟨fun x => (slotCommand x slot 3), rfl⟩
  | .ntsSlotMakeCurrent slot _, rfl => ⟨fun x => (slotCommand x slot 4), rfl⟩
  | .ntsSlotRetire slot _, rfl => ⟨fun x => (slotCommand x slot 5), rfl⟩
  | .ntsStationSeedWrite seed _, rfl => ⟨fun x => (seedWrite x seed), rfl⟩
  | .ntsKeKeyGenerate _, rfl => ⟨fun x => (keGenerate x), rfl⟩
  | .acceptJump slot _, rfl => ⟨fun x => (selCmd x slot 1), rfl⟩
  | .clearWtr slot _, rfl => ⟨fun x => (selCmd x slot 2), rfl⟩
  | .resetStability slot _, rfl => ⟨fun x => (selCmd x slot 3), rfl⟩
  | .selForceWrite moon value _, rfl => ⟨fun _ => (selMoonWrite moon [(Od.SEL_MOON.force moon, value)]), rfl⟩
  | .steerModeWrite moon value _, rfl => ⟨fun _ => (steerMoonWrite moon [(Od.STEER_MOON.mode moon, value)]), rfl⟩
  | .restart moon _ _, rfl => ⟨fun _ => (steerCmd moon), rfl⟩
  | .restartModel _ _, rfl => ⟨fun _ => modelCmd, rfl⟩
  | .pkPop value _, rfl => ⟨fun _ => (pkPopWrite value), rfl⟩
  | .erase handle _, rfl => ⟨fun x => (pkErase x handle), rfl⟩
  | .irqPendingClear mask _, rfl => ⟨fun x => (irqClear x mask), rfl⟩
  | .save _, rfl => ⟨fun x => (storeWrite x 1), rfl⟩
  | .factoryDefaults _, rfl => ⟨fun x => (storeWrite x 2), rfl⟩
  | .descChunkSelect index _, rfl => ⟨fun _ => (descChunkWrite index), rfl⟩
  | .snapMaskWrite mask _, rfl => ⟨fun x => (snapMaskWrite x mask), rfl⟩
  | .cntWinClose window value _, rfl => ⟨fun x => (cntWinWrite x window [(Od.CNT_WIN.close window, (value : Int))]), rfl⟩
  | .cntWinEventWrite window value _, rfl => ⟨fun x => (cntWinWrite x window [(Od.CNT_WIN.event window, (value : Int))]), rfl⟩
  | .peakClear occ value _, rfl => ⟨fun _ => (cntOccWrite occ [(Od.CNT_OCC.peak_clear occ, (value : Int))]), rfl⟩
  | .cntUserMaskWrite mask _, rfl => ⟨fun _ => (cntUserWrite mask), rfl⟩
  | .faultForce block value _, rfl => ⟨fun x => (forceWrite x block value), rfl⟩
  | .faultRearm block value _, rfl => ⟨fun x => (rearmWrite x block value), rfl⟩
  | .faultLatchClear block mask _, rfl => ⟨fun x => (latchClear x block mask), rfl⟩
  | .testWindowOpen seconds _, rfl => ⟨fun x => (testOpenWrite x seconds), rfl⟩
  | .testWindowClose value _, rfl => ⟨fun _ => (testCloseWrite value), rfl⟩
  | .fwImageDataWrite offset bytes _, rfl => ⟨fun x => (fun e => if partOk imageSize offset bytes.length then fwStage x offset bytes (x.st 0) e else (stRange, e)), rfl⟩
  | .fwImageCommit value _, rfl => ⟨fun x => (fwCommit x value), rfl⟩
  | .dumpNow value _, rfl => ⟨fun _ => (dumpNowWrite value), rfl⟩
  | .dumpClear mask _, rfl => ⟨fun _ => (dumpClearWrite mask), rfl⟩
  | .dumpChunkSelect index _, rfl => ⟨fun _ => (dumpReadWrite [(Od.DUMP_READ.chunk_index, (index : Int))]), rfl⟩
  | .ringEnable tx ring _, rfl => ⟨fun x => (ringWrite x tx ring [] [(if tx then Od.TX_RING_CFG.enable ring else Od.RX_RING_CFG.enable ring, 1)]), rfl⟩
  | .ringDisable tx ring posted _, rfl => ⟨fun x => (ringWrite x tx ring posted [(if tx then Od.TX_RING_CFG.enable ring else Od.RX_RING_CFG.enable ring, 0)]), rfl⟩

end Sys2Proof.Machine
end

