-- ==== Sys2Proof/Laws/Schedule.lean ====
section
/-! SUPPORT. What arming, queueing, firing and re-arming a schedule entry can do: the entry they leave, and everything they leave alone. -/

namespace Sys2Proof.Machine

/-! ## Only the schedule and its counters -/

/-- Nothing but the schedule and objects differs, and of the objects only the overrun count and the sticky bits of SCHED_STATUS. -/
def Eng.schedOnly (e e' : Eng) : Prop :=
  e' = { e with od := e'.od, sched := e'.sched } ∧
  ∀ k, k ≠ Od.SCHED_STATUS.overrun → k ≠ Od.SCHED_STATUS.sticky → e'.i k = e.i k

theorem Eng.schedOnly_refl (e : Eng) : e.schedOnly e := ⟨rfl, fun _ _ _ => rfl⟩

theorem Eng.schedOnly_trans {a b c : Eng} (h1 : a.schedOnly b) (h2 : b.schedOnly c) : a.schedOnly c := by
  refine ⟨?_, fun k p q => (h2.2 k p q).trans (h1.2 k p q)⟩
  have h := h2.1
  rw [h1.1] at h
  exact h

theorem Eng.schedOnly_setEntry {a e : Eng} (h : a.schedOnly e) (i : Nat) (s : SchedEntry) : a.schedOnly (e.setEntry i s) :=
  Eng.schedOnly_trans h ⟨rfl, fun _ _ _ => rfl⟩

theorem Eng.schedOnly_enqueue {a e : Eng} (h : a.schedOnly e) (i : Nat) (s : SchedEntry) (t inst : Nat) (late : Bool) :
    a.schedOnly (e.enqueue i s t inst late) := by
  unfold Eng.enqueue
  dsimp only
  split
  · exact Eng.schedOnly_setEntry h ..
  · refine Eng.schedOnly_trans h ⟨rfl, fun k p q => ?_⟩
    rw [Eng.orb_i, if_neg q, Eng.inc32_i, if_neg p]
    rfl

theorem Eng.schedOnly_armEntry {a e : Eng} (h : a.schedOnly e) (x : Ctx) (i : Nat) (s : SchedEntry) : a.schedOnly (e.armEntry x i s) := by
  unfold Eng.armEntry
  dsimp only
  split
  · exact Eng.schedOnly_setEntry h ..
  · split
    · exact Eng.schedOnly_enqueue h ..
    · exact Eng.schedOnly_setEntry h ..

theorem Eng.schedOnly_idleTracker {a e : Eng} (h : a.schedOnly e) (i : Nat) : a.schedOnly (e.idleTracker i) := by
  unfold Eng.idleTracker
  split
  · exact h
  · exact Eng.schedOnly_setEntry h ..

theorem Eng.schedOnly_armTracker {a e : Eng} (h : a.schedOnly e) (x : Ctx) (k : Nat) : a.schedOnly (e.armTracker x k) := by
  unfold Eng.armTracker
  dsimp only
  split
  · exact Eng.schedOnly_idleTracker h _
  · split
    · split
      · exact h
      · exact Eng.schedOnly_armEntry h ..
    · exact Eng.schedOnly_idleTracker h _

theorem Eng.schedOnly_rearm {a e : Eng} (h : a.schedOnly e) (x : Ctx) (i : Nat) (s : SchedEntry) : a.schedOnly (e.rearm x i s) := by
  unfold Eng.rearm
  split
  · exact Eng.schedOnly_setEntry h ..
  · exact Eng.schedOnly_armEntry h ..

/-- Recomputing the trackers touches the trackers, the moons' leap points and the schedule's overrun counter alone. -/
theorem Eng.recomputeTracker_i (e : Eng) (x : Ctx) (k : Nat) (j : Key) (h : j ≠ Od.SCHED_STATUS.overrun) (h' : j ≠ Od.SCHED_STATUS.sticky) :
    (e.recomputeTracker x k).i j = e.i j := by
  unfold Eng.recomputeTracker
  exact ((Eng.schedOnly_armTracker (Eng.schedOnly_idleTracker (Eng.schedOnly_refl _) _) x k).2 j h h').trans rfl

/-- Nothing but objects, the schedule and the moons' timelines differs. -/
def Eng.timelineOnly (e e' : Eng) : Prop := e' = { e with od := e'.od, sched := e'.sched, tl := e'.tl }

theorem Eng.timelineOnly_refl (e : Eng) : e.timelineOnly e := rfl

theorem Eng.timelineOnly_trans {a b c : Eng} (h1 : a.timelineOnly b) (h2 : b.timelineOnly c) : a.timelineOnly c := by
  unfold Eng.timelineOnly at *
  rw [h1] at h2
  exact h2

theorem Eng.timelineOnly_of {a b : Eng} (h : a.schedOnly b) : a.timelineOnly b := by
  have ht : b.tl = a.tl := (congrArg Eng.tl h.1 :)
  unfold Eng.timelineOnly
  rw [ht]
  exact h.1

theorem Eng.recomputeTracker_frame (e : Eng) (x : Ctx) (k : Nat) : e.timelineOnly (e.recomputeTracker x k) := by
  unfold Eng.recomputeTracker
  exact Eng.timelineOnly_trans (b := e.setMoon k { e.moon k with leapPoint := e.nextLeapPoint x k }) rfl
    (Eng.timelineOnly_of (Eng.schedOnly_armTracker (Eng.schedOnly_idleTracker (Eng.schedOnly_refl _) _) x k))

theorem Eng.recomputeTrackers_spec (e : Eng) (x : Ctx) :
    (∀ j, j ≠ Od.SCHED_STATUS.overrun → j ≠ Od.SCHED_STATUS.sticky → (e.recomputeTrackers x).i j = e.i j) ∧
    e.timelineOnly (e.recomputeTrackers x) := by
  unfold Eng.recomputeTrackers
  generalize List.range 32 = l
  induction l generalizing e with
  | nil => exact ⟨fun _ _ _ => rfl, rfl⟩
  | cons k l ih =>
    exact ⟨fun j p q => ((ih _).1 j p q).trans (Eng.recomputeTracker_i e x k j p q),
      Eng.timelineOnly_trans (Eng.recomputeTracker_frame e x k) (ih _).2⟩

/-! ## The entry that is left -/

@[simp] theorem Eng.setEntry_entry (e : Eng) (i : Nat) (s : SchedEntry) : (e.setEntry i s).entry i = s := by
  simp [Eng.entry, Eng.setEntry, tgetD, tget_tput_same]

theorem Eng.setEntry_entry_other (e : Eng) (i j : Nat) (s : SchedEntry) (h : j ≠ i) : (e.setEntry i s).entry j = e.entry j := by
  simp [Eng.entry, Eng.setEntry, tgetD, tget_tput_other _ _ _ _ h]

@[simp] theorem Eng.set_entry (e : Eng) (k : Key) (v : Int) (i : Nat) : (e.set k v).entry i = e.entry i := rfl
@[simp] theorem Eng.orb_entry (e : Eng) (k : Key) (m : Nat) (i : Nat) : (e.orb k m).entry i = e.entry i := rfl
@[simp] theorem Eng.inc32_entry (e : Eng) (k : Key) (i : Nat) : (e.inc32 k).entry i = e.entry i := rfl

/-- An enqueued entry is QUEUED, and keeps what it was written with and what its last firing left. -/
theorem Eng.enqueue_entry (e : Eng) (i : Nat) (s : SchedEntry) (t inst : Nat) (late : Bool) :
    ∃ f l o, (e.enqueue i s t inst late).entry i = { s with state := .queued, fireAt := f, inst := inst, late := l, overrun := o } := by
  unfold Eng.enqueue
  dsimp only
  split
  · exact ⟨_, _, _, Eng.setEntry_entry ..⟩
  · refine ⟨e.freeTick 8 t, true, true, ?_⟩
    simp

theorem Eng.enqueue_entry_other (e : Eng) (i j : Nat) (s : SchedEntry) (t inst : Nat) (late : Bool) (h : j ≠ i) :
    (e.enqueue i s t inst late).entry j = e.entry j := by
  unfold Eng.enqueue
  dsimp only
  split
  · exact Eng.setEntry_entry_other _ _ _ _ h
  · simp [Eng.setEntry_entry_other _ _ _ _ h]

/-- An armed entry is ARMED or QUEUED, and keeps what it was written with and what its last firing left. -/
theorem Eng.armEntry_entry (e : Eng) (x : Ctx) (i : Nat) (s : SchedEntry) :
    ∃ st f n l o, (st = .armed ∨ st = .queued) ∧
      (e.armEntry x i s).entry i = { s with state := st, fireAt := f, inst := n, late := l, overrun := o } := by
  unfold Eng.armEntry
  dsimp only
  split
  · exact ⟨.armed, s.fireAt, s.inst, s.late, s.overrun, .inl rfl, by simp⟩
  · split
    · obtain ⟨f, l, o, h⟩ := Eng.enqueue_entry e i s (max (e.reachTick x s.moon s.target) (x.tick + 2048)) (e.reachInst x s.moon s.target) true
      exact ⟨.queued, f, _, l, o, .inr rfl, h⟩
    · exact ⟨.armed, s.fireAt, s.inst, s.late, s.overrun, .inl rfl, by simp⟩

theorem Eng.armEntry_entry_other (e : Eng) (x : Ctx) (i j : Nat) (s : SchedEntry) (h : j ≠ i) :
    (e.armEntry x i s).entry j = e.entry j := by
  unfold Eng.armEntry
  dsimp only
  split
  · exact Eng.setEntry_entry_other _ _ _ _ h
  · split
    · exact Eng.enqueue_entry_other _ _ _ _ _ _ _ h
    · exact Eng.setEntry_entry_other _ _ _ _ h

/-- A fired entry is DONE, ARMED or QUEUED, and keeps what its firing left. -/
theorem Eng.rearm_entry (e : Eng) (x : Ctx) (i : Nat) (s : SchedEntry) :
    ((e.rearm x i s).entry i).fireTick = s.fireTick ∧ ((e.rearm x i s).entry i).fireCount = s.fireCount ∧
    ((e.rearm x i s).entry i).result = s.result ∧ ((e.rearm x i s).entry i).flags = s.flags ∧
    (s.finished = true → ((e.rearm x i s).entry i).state = .done) := by
  unfold Eng.rearm
  split
  · simp
  · next hf =>
    obtain ⟨st, f, n, l, o, -, h⟩ := Eng.armEntry_entry e x i { s with target := (s.target + s.period.toNat) % 2 ^ 64, late := false, overrun := false }
    rw [h]
    exact ⟨rfl, rfl, rfl, rfl, fun h => absurd h hf⟩

/-! ## Firing -/

/-- Nothing but objects and the event counters differs. -/
def Eng.countsOnly (e e' : Eng) : Prop := e' = { e with od := e'.od, ctr := e'.ctr }

theorem Eng.countsOnly_trans {a b c : Eng} (h1 : a.countsOnly b) (h2 : b.countsOnly c) : a.countsOnly c := by
  unfold Eng.countsOnly at *
  rw [h1] at h2
  exact h2

theorem Eng.countsOnly_set {a b : Eng} (h : a.countsOnly b) (k : Key) (v : Int) : a.countsOnly (b.set k v) := Eng.countsOnly_trans h rfl

theorem Eng.countsOnly_count {a b : Eng} (h : a.countsOnly b) (x : Ctx) (ev : Nat) : a.countsOnly (b.count x ev) :=
  Eng.countsOnly_trans h (Eng.count_frame ..)

theorem Eng.countsOnly_inc32 {a b : Eng} (h : a.countsOnly b) (k : Key) : a.countsOnly (b.inc32 k) := Eng.countsOnly_set h ..

theorem Eng.countsOnly_orb {a b : Eng} (h : a.countsOnly b) (k : Key) (m : Nat) : a.countsOnly (b.orb k m) := Eng.countsOnly_set h ..

theorem Eng.countsOnly_ite {c : Prop} [Decidable c] {e a b : Eng} (ha : e.countsOnly a) (hb : e.countsOnly b) :
    e.countsOnly (if c then a else b) := by
  split <;> assumption

/-- Counting a firing touches objects and the event counters alone. -/
theorem Eng.countFiring_frame (e : Eng) (x : Ctx) (i : Nat) (late stepped : Bool) : e.countsOnly (e.countFiring x i late stepped) := by
  unfold Eng.countFiring
  have h := Eng.countsOnly_set (Eng.countsOnly_set (Eng.countsOnly_count (Eng.countsOnly_inc32 (rfl : e.countsOnly e)
    Od.SCHED_STATUS.fired) x 0xB19) Od.SCHED_STATUS.last_entry i) Od.SCHED_STATUS.last_tick x.tick
  have h2 := Eng.countsOnly_ite (c := late = true)
    (Eng.countsOnly_count (Eng.countsOnly_orb (Eng.countsOnly_inc32 h Od.SCHED_STATUS.late) Od.SCHED_STATUS.sticky 1) x 0xB1A) h
  exact Eng.countsOnly_ite (Eng.countsOnly_orb (Eng.countsOnly_inc32 h2 _) ..) h2

@[simp] theorem Eng.countFiring_entry (e : Eng) (x : Ctx) (i j : Nat) (late stepped : Bool) :
    (e.countFiring x i late stepped).entry j = e.entry j := by
  have h : (e.countFiring x i late stepped).sched = e.sched := (congrArg Eng.sched (Eng.countFiring_frame e x i late stepped) :)
  simp [Eng.entry, h]

/-- A firing leaves its result, its tick, and one more in the count, in its entry (R71, R78). -/
theorem Eng.fire_entry (e : Eng) (x : Ctx) (i : Nat) (act : SchedEntry → Eng → WriteRes) :
    ((e.fire x i act).entry i).fireTick = x.tick ∧ ((e.fire x i act).entry i).fireCount = ((e.entry i).fireCount + 1) % 2 ^ 32 ∧
    ((e.fire x i act).entry i).result = (act (e.entry i) (e.countFiring x i (e.entry i).late false)).1 ∧
    ((e.entry i).period = 0 → ((e.fire x i act).entry i).state = .done) := by
  unfold Eng.fire
  dsimp only
  obtain ⟨h1, h2, h3, -, h5⟩ := Eng.rearm_entry ((act (e.entry i) (e.countFiring x i (e.entry i).late false)).2.countRefusedAction
    (act (e.entry i) (e.countFiring x i (e.entry i).late false)).1) x i
    ((e.entry i).fired x false (act (e.entry i) (e.countFiring x i (e.entry i).late false)).1)
  refine ⟨h1, h2, h3, fun hp => h5 ?_⟩
  simp [SchedEntry.finished, SchedEntry.fired, hp]

end Sys2Proof.Machine
end

