-- ==== Sys2Proof/Tests/Slice0.lean ====
section
/-! SUPPORT. Small tests, and for every statement of Obligations.lean with hypotheses a concrete state and operands that meet them: each
`clause` names a state, the hypotheses, the command, and what the manual says holds after it. -/

namespace Sys2Proof.Tests

open Sys2Proof Sys2Proof.Machine

set_option Elab.async false

/-! ## Small states -/

/-- A booted device at tick 1,024,000, its moon 0 at 1,000 s. -/
def w0 : State :=
  { State.reset with
    core := { tick := 1024000, moons := modNth State.reset.core.moons 0 (fun m => { m with acc := BitVec.ofNat 128 (1000 * unitsPerSec * 2 ^ 32) }) }
    eng := { State.reset.eng with
      boot := { State.reset.eng.boot with phase := .running, ddr := true, creds := true, fw := true, stores := true, restored := true } } }

/-- The state with objects set. -/
def put (vs : List (Key × Int)) (s : State) : State := { s with eng := s.eng.setAll vs }

/-- The state with its engines changed. -/
def eng (f : Eng → Eng) (s : State) : State := { s with eng := f s.eng }

/-- The state at a tick. -/
def tickAt (t : Nat) (s : State) : State := { s with core := { s.core with tick := t } }

/-- The state with a moon's linear count. -/
def linAt (k v : Nat) (s : State) : State :=
  { s with core := { s.core with moons := modNth s.core.moons k (fun m => { m with acc := BitVec.ofNat 128 (v * 2 ^ 32) }) } }

/-- One clause: the hypotheses hold of the state, and the command answers a next state of which the rest holds. -/
def clause (s : State) (h : State → Bool) (c : Instr) (q : State → State → Bool) : Bool :=
  h s && match exec c s with
    | .next t => q s t
    | _ => false

/-- The state after a command. -/
def after (c : Instr) (s : State) : State :=
  match exec c s with
  | .next t => t
  | _ => s

/-- Every clause of a list holds. -/
def checks (l : List Bool) : Bool := l.all id

/-- Nothing outside the engines differs. -/
def beside (s t : State) : Bool := t.core == s.core && t.fuses == s.fuses && t.pending == s.pending

/-- Nothing but the objects, the response, what left the pins and the event counters differs. -/
def only (s t : State) : Bool := t.eng == { s.eng with od := t.eng.od, resp := t.eng.resp, out := t.eng.out, ctr := t.eng.ctr }

/-- Every object but those named and those of the accounting reads as before. -/
def kept (s t : State) (ks : List Key) : Bool :=
  (s.eng.od ++ t.eng.od).all (fun p => ks.contains p.1 || accounting p.1 || s.eng.i p.1 == t.eng.i p.1)

/-- A write answered OK, and stored exactly these values. -/
def stored (s t : State) (vs : List (Key × Int)) : Bool :=
  t.eng.resp.status == stOk && vs.all (fun p => t.eng.i p.1 == p.2) && kept s t (vs.map Prod.fst) && beside s t

def wrote (s t : State) (vs : List (Key × Int)) : Bool := stored s t vs && only s t

/-- A write answered with a status, and left the objects named and all but the accounting as they were. -/
def refusedAs (s t : State) (st : Nat) : Bool := t.eng.resp.status == st && kept s t [] && only s t && beside s t

/-- A write answered with a status, and left the objects named and every engine as they were. -/
def turnedAway (s t : State) (st : Nat) (ks : List Key) : Bool :=
  t.eng.resp.status == st && ks.all (fun k => t.eng.i k == s.eng.i k) && only s t && beside s t

def accepted (s t : State) : Bool := t.eng.resp.status == stOk && beside s t

/-- One more event counted. -/
def once (s t : State) (ev : Nat) : Bool := t.eng.seen ev == (s.eng.seen ev + 1) % 2 ^ 48

/-- A 32-bit or 64-bit count in an object went up by one. -/
def up (s t : State) (k : Key) (w : Nat) : Bool := t.eng.n k == (s.eng.n k + 1) % 2 ^ w

/-! ## Well-formedness: one ill-formed term for each check -/

theorem test_wf_accepts : checks [
    Instr.wf (.tick [⟨31, .split⟩] [.counter 8191]), Instr.wf (.moonIncStagedWrite 31 (2 ^ 64 - 1) 15), Instr.wf (.leapBaseWrite (-32768) 0),
    Instr.wf (.schedEntryWrite 0 (.single 12) 1), Instr.wf (.ansPeekWrite (.member 15 0) 1), Instr.wf (.timedWrite 255 65535 [] 0)] = true := by
  decide +kernel

theorem test_wf_refuses : checks ([
    Instr.wf (.moonConfigEnableWrite 0 (2 ^ 64) 15), Instr.wf (.moonConfigEnableWrite 0 1 16), Instr.wf (.moonStepStagedWrite 0 (2 ^ 63) 15),
    Instr.wf (.moonSetValueWrite 0 (2 ^ 96) 15), Instr.wf (.leapEntryWrite 0 (.valid 256) 15), Instr.wf (.leapBaseWrite 32768 15),
    Instr.wf (.schedEntryWrite 0 (.whole 0 256 0 0 0 0) 15), Instr.wf (.schedEntryWrite 0 (.single 13) 15),
    Instr.wf (.serviceEntryWrite false 0 (.member 16 0) 15), Instr.wf (.serviceEntryWrite false 0 (.whole (List.replicate 16 0)) 15),
    Instr.wf (.tick [] [.counter 8192]), Instr.wf (.answerRequest 0 [⟨0, 0, 0, 0, 2, 2, 1⟩] false),
    Instr.wf (.answerRequest 0 [⟨0, 0, 0, 0, 0, 1, 0⟩] false), Instr.wf (.frameReceive ⟨0, [], false, 0, 0, 0, 2 ^ 96, 0, 0, 0⟩),
    Instr.wf (.modadd 0 ⟨2 ^ 32, 0, 0, List.replicate 7 0, 0, 0⟩ 15), Instr.wf (.modadd 0 ⟨0, 0, 0, List.replicate 6 0, 0, 0⟩ 15),
    Instr.wf (.txDescTake 0 [⟨2 ^ 64, 0, 0, 0, 0, 0, []⟩] false), Instr.wf (.windowRequestWrite 0 (.request 1536 [0])),
    Instr.wf (.windowRequestWrite 0 (.reqLen (2 ^ 32))), Instr.wf (.steerBoundary ⟨[], [], [], [(40, 0)], 0, []⟩),
    Instr.wf (.pkDataWrite true 0 (2 ^ 8192) 15), Instr.wf (.read 256 0 0 0 15), Instr.wf (.doorbellProd true 0 (2 ^ 32)),
    Instr.wf (.functionLevelReset [(256, [])]), Instr.wf (.monitorSample [2 ^ 64] []), Instr.wf (.wrapClear 0 (2 ^ 32))
    ].map Bool.not) = true := by decide +kernel

/-! ## The queue, the clock and the fuses -/

theorem test_queue : checks [
    match step { w0 with pending := [.thermTrip, .eclipseRailChange] } with
      | .next t => t.pending == [.eclipseRailChange] && !t.eng.pins.thermTripN
      | _ => false,
    match step w0 with
      | .next t => w0.pending == [] && t == w0
      | _ => false] = true := by decide +kernel

/-- A device in reset ignores a tick; a running one counts it, and keeps its clock whole. -/
theorem test_reset_and_whole : checks [
    clause State.reset (fun s => !s.eng.up && !actsInReset (.tick [] [])) (.tick [] []) (fun s t => t == s),
    clause (tickAt (2 ^ 64 - 1) w0) (fun s => s.eng.up && s.core.moons.length == 32) (.tick [] []) (fun s t => t.core.tick == 0 &&
      t.core.moons.length == 32 && (t.core.moon 0).acc == (s.core.moon 0).acc + 2 ^ 48 && (t.core.moon 1).acc == 0)] = true := by
  decide +kernel

theorem test_reset_whole : State.reset.core.whole := ⟨by decide +kernel, by decide +kernel⟩

theorem test_refused_write : checks [
    clause w0 (fun s => writeOf (.moonIncStagedWrite 31 1 0) == some (Od.MOON_INC_STAGED 31, 1, 0) && (rowOf (Od.MOON_INC_STAGED 31)).isSome &&
        match rowOf (Od.MOON_INC_STAGED 31) with | some r => s.eng.judge r (Od.MOON_INC_STAGED 31) 1 0 != stOk | none => false)
      (.moonIncStagedWrite 31 1 0) (fun s t => refusedAs s t stDenied && t.eng.out == [] && t.eng.resp.tick == s.core.tick),
    owns .pk (.tailPop 0 0) == false, clause w0 (fun s => s.eng.up) (.tailPop 0 0) (fun s t => s.eng.pk == t.eng.pk)] = true := by decide +kernel

/-! ## Moons -/

theorem test_staged_moon_writes : checks [
    clause w0 (fun s => s.eng.admits (Od.MOON_CONFIG.enable 31) 1 15) (.moonConfigEnableWrite 31 1 15)
      (fun s t => wrote s t [(Od.MOON_CONFIG.enable 31, 1)]),
    clause (eng (fun e => { e with steer := modNth e.steer 1 (fun u => { u with isOpen := true }) }) w0)
      (fun s => s.eng.admits (Od.MOON_INC_STAGED 1) (2 ^ 49 - 1) 15 && !s.eng.follows 1 && s.eng.loopOpen 1) (.moonIncStagedWrite 1 (2 ^ 49 - 1) 15)
      (fun s t => wrote s t [(Od.MOON_INC_STAGED 1, 2 ^ 49 - 1)]),
    clause w0 (fun s => s.eng.admits (Od.MOON_INC_STAGED 1) (2 ^ 48) 15 && !s.eng.loopOpen 1) (.moonIncStagedWrite 1 (2 ^ 48) 15)
      (fun s t => turnedAway s t stMode [Od.MOON_INC_STAGED 1]),
    clause w0 (fun s => s.eng.admits (Od.MOON_STEP_STAGED 1) (-(2 ^ 62)) 15 && !s.eng.follows 1) (.moonStepStagedWrite 1 (-(2 ^ 62)) 15)
      (fun s t => wrote s t [(Od.MOON_STEP_STAGED 1, -(2 ^ 62))]),
    clause w0 (fun s => s.eng.admits (Od.MOON_SET.value 0) (2 ^ 95) 15 && !s.eng.follows 0) (.moonSetValueWrite 0 (2 ^ 95) 15)
      (fun s t => wrote s t [(Od.MOON_SET.value 0, 2 ^ 95), (Od.MOON_SET.armed 0, 1)]),
    clause (put [(Od.MOON_SET.armed 0, 1)] w0) (fun s => s.eng.admits (Od.MOON_SET.armed 0) 0 15) (.moonSetArmedWrite 0 0 15)
      (fun s t => wrote s t [(Od.MOON_SET.armed 0, 0)]),
    clause w0 (fun s => s.eng.admitsAll [(Od.MOON_SET.armed 0, 1), (Od.MOON_SET.value 0, 5)] 15) (.moonSetRecordWrite 0 1 5 15)
      (fun s t => wrote s t [(Od.MOON_SET.value 0, 5), (Od.MOON_SET.armed 0, 1)]),
    clause (put [(Od.MOON_CONFIG.steer_source 2, 1)] w0) (fun s => s.eng.follows 2 && s.eng.admits (Od.MOON_INC_STAGED 2) (2 ^ 48) 15)
      (.moonIncStagedWrite 2 (2 ^ 48) 15) (fun s t => turnedAway s t stMode [Od.MOON_INC_STAGED 2]),
    clause (put [(Od.MOON_CONFIG.steer_source 2, 1)] w0) (fun s => s.eng.follows 2 && s.eng.admits (Od.MOON_STEP_STAGED 2) 1 15)
      (.moonStepStagedWrite 2 1 15) (fun s t => turnedAway s t stMode [Od.MOON_STEP_STAGED 2]),
    clause (put [(Od.MOON_CONFIG.steer_source 2, 1)] w0) (fun s => s.eng.follows 2 && s.eng.admits (Od.MOON_SET.value 2) 1 15)
      (.moonSetValueWrite 2 1 15) (fun s t => turnedAway s t stMode [Od.MOON_SET.armed 2])] = true := by decide +kernel

theorem test_consent : checks [
    clause w0 (fun s => s.eng.admits (Od.MOON_CONSENT.bound 0) s.fuses.ceilStep 15) (.moonConsentWrite 0 w0.fuses.ceilStep 15)
      (fun s t => wrote s t [(Od.MOON_CONSENT.bound 0, s.fuses.ceilStep), (Od.MOON_CONSENT.armed 0, 1),
        (Od.MOON_CONSENT.expires 0, (1010 * unitsPerSec : Nat))]),
    clause w0 (fun s => s.eng.admits (Od.MOON_CONSENT.bound 31) 0 15) (.moonConsentWrite 31 0 15)
      (fun s t => wrote s t [(Od.MOON_CONSENT.bound 31, 0), (Od.MOON_CONSENT.armed 31, 0)]),
    clause (put [(Od.MOON_CONSENT.armed 0, 1), (Od.MOON_CONSENT.expires 0, (1000 * unitsPerSec : Nat))] w0)
      (fun s => s.eng.b (Od.MOON_CONSENT.armed 0) && stGe (s.ctx.st 0) (s.eng.n (Od.MOON_CONSENT.expires 0))) (.consentExpiry 0)
      (fun s t => t.eng.i (Od.MOON_CONSENT.armed 0) == 0 && kept s t [Od.MOON_CONSENT.armed 0] && beside s t)] = true := by decide +kernel

theorem test_compare_cells : checks [
    clause w0 (fun s => s.eng.admits (cmpTarget 1 3) (2 ^ 62 : Nat) 15 && stDiff (2 ^ 62) (s.ctx.st 1) ≤ (2 ^ 62 : Nat)) (.moonCmpTargetWrite 1 3 (2 ^ 62) 15)
      (fun s t => t.eng.i (cmpTarget 1 3) == 2 ^ 62 && t.eng.i (cmpArmed 1 3) == 1 && tget t.eng.cmpArmedAt 7 == some s.core.tick && beside s t),
    clause (put [(cmpTarget 0 0, (1000 * unitsPerSec : Nat)), (cmpArmed 0 0, 1)] w0) (fun s => s.eng.cmpDue s.ctx 0 0) (.compareCellFire 0 0)
      (fun s t => t.eng.i (cmpReached 0 0) == 1 && t.eng.i (cmpArmed 0 0) == 0 && t.eng.irq.latched == 2 ^ 128 && beside s t)] = true := by
  decide +kernel

/-! ## The leap table and the schedule -/

/-- An entry of the schedule that is queued and due, with an action and its argument. -/
def dueEntry (i action arg : Nat) (s : State) : State :=
  eng (fun e => { e with sched := tput e.sched i { SchedEntry.empty with
    action := action, arg := arg, state := .queued, fireAt := s.core.tick, inst := 1000 * unitsPerSec * 2 ^ 32, roles := 15 } }) s

theorem test_leap : checks [
    clause w0 (fun s => s.eng.admits Od.LEAP_BASE 37 15 && s.eng.leapCheck s.ctx (s.eng.setAll [(Od.LEAP_BASE, 37)]).od none == stOk) (.leapBaseWrite 37 15)
      (fun s t => t.eng.i Od.LEAP_BASE == 37 && kept s t [Od.LEAP_BASE] && beside s t),
    clause w0 (fun s => s.eng.admitsAll (leapValues (.offset (-1)) 31) 15 &&
        s.eng.leapCheck s.ctx (s.eng.setAll (leapValues (.offset (-1)) 31)).od (some 31) == stOk) (.leapEntryWrite 31 (.offset (-1)) 15)
      (fun s t => t.eng.i (Od.LEAP_ENTRY.offset 31) == -1 && kept s t [Od.LEAP_ENTRY.offset 31] && beside s t),
    clause (dueEntry 0x3E0 9 0 w0) (fun s => s.eng.leapDue s.ctx 0) (.leapPoint 0)
      (fun s t => t.eng.irq.latched == 2 ^ 128 && (t.eng.entry 0x3E0).fireTick == s.core.tick && (t.eng.entry 0x3E0).fireCount == 1 &&
        (t.eng.moon 0).leapFired == (s.eng.moon 0).leapPoint && beside s t)] = true := by decide +kernel

/-- The entry that the test writes: one second ahead of moon 0, EVENT, every 4,096 ns. -/
def anEntry : SchedEntry :=
  { SchedEntry.empty with target := 1001 * unitsPerSec, action := 8, period := 268435456, repeat_ := 2, roles := 15 }

theorem test_schedule_writes : checks [
    clause w0 (fun s => !deviceEntry 959 && (s.eng.entry 959).state != .queued &&
        s.eng.admitsAll (schedValues (.whole (1001 * unitsPerSec) 0 8 0 268435456 2) 959) 15 && entryCheck anEntry == stOk && targetCheck s.ctx anEntry == stOk)
      (.schedEntryWrite 959 (.whole (1001 * unitsPerSec) 0 8 0 268435456 2) 15)
      (fun s t => accepted s t && t.eng.entry 959 == { anEntry with state := .armed, flags := 2 } && kept s t []),
    clause w0 (fun s => s.eng.admits (Od.SCHED_ENTRY.state 0) 0 15) (.schedEntryEmpty 0 0 15)
      (fun s t => accepted s t && (t.eng.entry 0).state == .empty && kept s t []),
    clause w0 (fun s => deviceEntry 960 && s.eng.admitsAll (schedValues (.single 1) 960) 15) (.schedEntryWrite 960 (.single 1) 15)
      (fun s t => t.eng.resp.status == stReadOnly && t.eng.sched == s.eng.sched && only s t && beside s t),
    clause (eng (fun e => { e with sched := [(5, { anEntry with target := 1000 * unitsPerSec, state := .armed })] }) w0)
      (fun s => s.core.tick % 1024 == 0 && (s.eng.candidates s.ctx).map (fun c => c.idx) == [5]) .schedEvaluationPass
      (fun s t => (t.eng.entry 5).state == .queued && kept s t [] && beside s t)] = true := by decide +kernel

/-- What a due entry of an action leaves: its firing counted, its result OK, no more firings. -/
def fires (action arg : Nat) (c : Fin 1024 → Instr) (h : State → Bool) (q : State → State → Bool) (s : State) : Bool :=
  clause (dueEntry 7 action arg s) (fun s => h s && s.eng.fireDue s.ctx 7 action) (c 7)
    (fun s t => (t.eng.entry 7).result == stOk && (t.eng.entry 7).fireTick == s.core.tick && (t.eng.entry 7).fireCount == 1 &&
      (t.eng.entry 7).state == .done && beside s t && q s t)

theorem test_actions : checks [
    fires 1 0x0101 .pulse (fun _ => true) (fun s t => t.eng.outs == (pulseAct s.ctx true (s.eng.entry 7) s.eng).2.outs) w0,
    fires 2 0 .snapshot (fun _ => true) (fun s t => t.eng.i Od.SCHED_SNAP.tick == s.core.tick && t.eng.i Od.SCHED_SNAP.entry == 7 &&
      t.eng.i (Od.SCHED_SNAP_MOON 0) == (1000 * unitsPerSec : Nat)) w0,
    fires 3 (2 ^ 63) .window (fun _ => true) (fun s t => t.eng.n (Od.CNT_WIN.close_tick 63) == s.core.tick) w0,
    fires 4 0x100000001 .calWindow (fun s => s.eng.portsOnly 1) (fun _ t => t.eng.n Od.CAL_CTRL.open_mask == 1) w0,
    fires 5 3 .keyRotate (fun s => s.eng.slotState 3 == 1) (fun _ t => t.eng.i Od.NTS_STATUS.current_slot == 3 && t.eng.i (Od.NTS_SLOT.state 3) == 2)
      (put [(Od.NTS_SLOT.state 3, 1)] w0),
    fires 6 0x3F1F .switch (fun _ => true) (fun _ t => (t.eng.sel.moons.getD 31 SelMoon.atReset).switchTo == some (0x3F, 7)) w0,
    fires 8 0 .event (fun _ => true) (fun s t => t.eng.irq.latched == s.eng.irq.latched ||| 2 ^ 224) w0,
    -- DICT_WRITE: MOON_STEP_STAGED of moon 1 becomes 1
    fires 7 (2 ^ 32 + Od.MOON_STEP_STAGED 1) .dictWrite (fun s => dictTarget (s.eng.entry 7).arg == Od.MOON_STEP_STAGED 1)
      (fun _ t => t.eng.i (Od.MOON_STEP_STAGED 1) == 1) w0] = true := by decide +kernel

/-! ## The closing tick, the boundary, clocks and supplies -/

/-- A tick at which staging closes (R24), and the boundary it closes for, sealed. -/
def wClose : State := tickAt 983040 w0
def wEdge : State := tickAt (2 ^ 20) (after (.closingTick ⟨false, [], false⟩) (put [(Od.MOON_CONFIG.enable 5, 1)] wClose))

theorem test_ticks : checks [
    clause w0 (fun s => s.eng.up) (.tick [] []) (fun s t => t.core.tick == s.core.tick + 1 && t.fuses == s.fuses),
    clause State.reset (fun s => !s.eng.up && s.core.tick == 0) (.resetRelease 0 false) (fun _ t => t.core.tick == 0),
    clause w0 (fun s => s.eng.up) .warmReset (fun _ t => !t.eng.up && t.core.tick == 0),
    clause w0 (fun s => s.eng.up) .powerOnReset (fun _ t => t.core.tick == 0),
    clause wClose (fun s => s.eng.closeDue s.ctx && s.eng.tl.length == 32) (.closingTick ⟨true, [31], true⟩)
      (fun s t => t.eng.sealedFor == some 1 && beside s t && (List.finRange 32).all (fun k => (t.eng.moon k).next.boundary == 1 &&
        match (t.eng.moon k).decision with
        | some d => (t.eng.moon k).next.inc == d.inc && (t.eng.moon k).next.adv == d.adv
        | none => false)),
    [wEdge].all (fun s => s.eng.boundaryDue s.ctx && s.eng.tl.length == 32 && (s.eng.moon 5).decision.isSome)] = true := by decide +kernel

/-- A ceiling holds of a moon outside FREE RUN. -/
theorem test_ceiling : checks [(eng (fun e => { e with tl := modNth e.tl 0 (fun m => { m with cur := { m.cur with state := .locked } }) })
    (put [(Od.MOON_STEP_STAGED 0, 65536000000001)] w0) |> fun s => (s.eng.moon 0).cur.state != .freeRun &&
      (s.eng.decideOwn s.ctx 0).1.lastStep == 0 && (s.eng.decideOwn s.ctx 0).1.ceiling)] = true := by decide +kernel

theorem test_failures : checks [
    clause w0 (fun s => s.eng.up) .timeClockPllUnlock (fun s t => t.eng.hasCond 0 4 0 && beside s t),
    clause w0 (fun s => s.eng.up) .corePllUnlock (fun s t => t.eng.hasCond 20 1 0 && beside s t),
    clause w0 (fun s => s.eng.up) .ddrPllUnlock (fun s t => t.eng.hasCond 20 2 0 && t.eng.boot.coresHeld && beside s t),
    clause (after .ddrPllUnlock w0) (fun s => s.eng.boot.coresHeld) .ddrPllLock (fun _ t => !t.eng.hasCond 20 2 0 && !t.eng.boot.coresHeld),
    clause (put [(Od.PORT_STATUS.link 28, 1)] w0) (fun s => s.eng.up) (.serdesPllUnlock 7)
      (fun s t => t.eng.hasCond 20 3 7 && !t.eng.b (Od.PORT_STATUS.link 28) && beside s t),
    clause (after (.serdesPllUnlock 7) w0) (fun s => s.eng.hasCond 20 3 7) (.serdesPllLock 7) (fun _ t => !t.eng.hasCond 20 3 7),
    clause w0 (fun s => !s.eng.mon.coreOut) (.timeClockMonitor (-100001) 2000000)
      (fun s t => t.eng.mon.coreOut && !t.eng.mon.ringOut && t.eng.mon.ringPpb == 2000000 && t.eng.od == s.eng.od),
    clause (after (.timeClockMonitor 100001 0) w0) (fun s => s.eng.mon.coreOut && !s.eng.flt.eclipse) (.timeClockMonitor 100001 0)
      (fun s t => t.eng.n (Od.FLT_BLOCK.latch 0) == s.eng.n (Od.FLT_BLOCK.latch 0) ||| 4 && t.eng.flt.rail.isSome),
    clause w0 (fun s => s.eng.boot.fw && !s.eng.boot.coresDown) .watchdogExpiry
      (fun s t => t.eng.boot.coresDown && t.eng.n (Od.FLT_BLOCK.latch 18) == s.eng.n (Od.FLT_BLOCK.latch 18) ||| 4),
    clause (after .watchdogExpiry w0) (fun s => s.eng.boot.coresDown) .coresRestart (fun _ t => !t.eng.boot.coresDown)] = true := by decide +kernel

/-- A core supply (rail 0) a millivolt under its window, and one within every window. -/
theorem test_supplies : checks [
    clause w0 (fun s => s.eng.up) (.monitorSample [0] (List.replicate 16 (-40)))
      (fun s t => t.eng.mon.railOut == [0] && !t.eng.hasCond 21 1 0 && t.eng.i (Od.THERM.now 15) == -40 && beside s t),
    clause (after (.monitorSample [0] (List.replicate 16 0)) w0) (fun s => s.eng.mon.railOut == [0]) (.monitorSample [0] (List.replicate 16 0))
      (fun _ t => t.eng.hasCond 21 1 0),
    clause State.reset (fun s => !s.eng.up) .thermTrip (fun s t => !t.eng.pins.thermTripN && beside s t),
    clause State.reset (fun s => !s.eng.up) .thermTripRelease (fun s t => t.eng.pins.thermTripN && beside s t),
    clause { w0 with fuses := { w0.fuses with avsLow := 10, avsHigh := 20 } } (fun s => s.eng.mon.avsRetry == none && s.fuses.vMin ≤ 805)
      (.avsLoop [12, 9] true) (fun s t => t.eng.n Od.PWR_STATUS.vcore_mv == s.eng.n Od.PWR_STATUS.vcore_mv + 5 && t.eng.out == [.avs 805] &&
        t.eng.i Od.PWR_STATUS.margin == 9),
    clause { w0 with fuses := { w0.fuses with avsLow := 10, avsHigh := 20 } } (fun s => s.eng.mon.avsRetry == none) (.avsLoop [40000, 21] true)
      (fun s t => t.eng.n Od.PWR_STATUS.vcore_mv + 5 == s.eng.n Od.PWR_STATUS.vcore_mv && t.eng.out == [.avs 795])] = true := by decide +kernel

/-! ## Reset, boot, firmware and the fatal dump -/

/-- The device from power-on to tick 0: released, its PLLs locking; then locked, before its boot. -/
def wLocking : State := after (.resetRelease 3 true) State.reset
def wTick0 : State := after (.pllLock true) wLocking

theorem test_resets : checks [
    clause (put [(Od.RESET_CTRL.count, 2 ^ 32 - 1), (Od.FLT_ECLIPSE.valid, 1)] w0) (fun s => s.eng.up) .warmReset (fun s t =>
      t.eng.boot.phase == .held && t.eng.i Od.RESET_CTRL.last_cause == 2 && t.eng.i Od.RESET_CTRL.count == 0 &&
      t.core == State.reset.core && t.fuses == s.fuses && (List.finRange 11).all (fun m => t.eng.i (odKey 0x70 0x004 (m + 1)) == s.eng.i (odKey 0x70 0x003 (m + 1)))),
    clause w0 (fun s => s.eng.admits Od.RESET_CTRL.command 1 15) (.resetCommandWarm 1 15)
      (fun _ t => t.eng.boot.phase == .locking && t.eng.i Od.RESET_CTRL.last_cause == 3 && t.eng.resp.status == stOk),
    clause (eng (fun e => { e with flt := { e.flt with autoAt := some (1000 * unitsPerSec) } }) w0) (fun s => s.eng.autoDue s.ctx) .autoReset
      (fun _ t => t.eng.boot.phase == .locking && t.eng.i Od.RESET_CTRL.last_cause == 4),
    clause State.reset (fun s => s.eng.boot.phase == .held) (.resetRelease 3 true)
      (fun _ t => t.eng.boot.phase == .locking && t.eng.boot.oscSel == 3 && t.eng.boot.forceB),
    clause wLocking (fun s => s.eng.boot.phase == .locking) (.pllLock true) (fun s t => t.eng.up && beside s t && t.eng.od == s.eng.od),
    clause wLocking (fun s => s.eng.boot.phase == .locking) (.pllLock false) (fun _ t => t.eng.boot.phase == .stuck),
    clause wLocking (fun s => s.eng.boot.phase == .locking) .pllLockTimeout (fun _ t => t.eng.boot.phase == .stuck)] = true := by decide +kernel

theorem test_boot : checks [
    clause wTick0 (fun s => s.eng.up && !s.eng.boot.ddr && !s.eng.boot.recovery) (.ddrTrained true) (fun _ t => t.eng.boot.ddr),
    clause wTick0 (fun s => !s.eng.boot.ddr && !s.eng.boot.recovery) (.ddrTrained false) (fun _ t => t.eng.boot.recovery && t.eng.i Od.BOOT_STATUS.state == 2),
    clause wTick0 (fun s => !s.eng.boot.creds) (.credentialsRestored false true) (fun _ t => t.eng.boot.creds && t.eng.flash.keyBad == [true, false]),
    -- no image in the flash: recovery
    clause (after (.ddrTrained true) wTick0) (fun s => s.eng.boot.ddr && !s.eng.boot.fw && !s.eng.boot.recovery && (s.eng.slotImage 1).check s.ctx == 2)
      .imageVerified (fun _ t => t.eng.boot.recovery && !t.eng.boot.fw && t.eng.i Od.BOOT_STATUS.state == 2),
    clause (eng (fun e => { e with boot := { e.boot with stores := false, restored := false } }) w0) (fun s => s.eng.fwRuns && !s.eng.boot.stores)
      (.storesRestored true false) (fun _ t => t.eng.boot.stores && t.eng.flash.calBad == [false, true]),
    clause (eng (fun e => { e with boot := { e.boot with restored := false } }) w0) (fun s => s.eng.fwRuns && s.eng.boot.stores && !s.eng.boot.restored)
      .restoreTick (fun s t => t.eng.boot.restored && t.eng.i Od.BOOT_STATUS.restore_tick == s.core.tick)] = true := by decide +kernel

/-- A device whose selected slot is the other one; and one with a dump asked for. -/
def wOther : State := put [(Od.FW_IMAGE.slot, 1)] w0
def wAsked : State := eng (fun e => { e with dump := ⟨some 2, none⟩ }) w0

theorem test_firmware : checks [
    clause wOther (fun s => s.eng.admits Od.FW_IMAGE.data 0 15 && !s.eng.slotRuns 1 && s.eng.flash.images.length == 2) (.fwImageDataWrite 0 ([7, 8]) 15)
      (fun s t => accepted s t && (t.eng.slotImage 1).data == [7, 8] && t.eng.slotImage 0 == s.eng.slotImage 0),
    clause w0 (fun s => s.eng.admits Od.FW_IMAGE.data 0 15 && s.eng.slotRuns 0) (.fwImageDataWrite 0 [1] 15)
      (fun s t => t.eng.resp.status == stInUse && t.eng.flash == s.eng.flash),
    -- an empty slot holds no image of the fused key
    [wOther].all (fun s => s.eng.admits Od.FW_IMAGE.commit 1 15 && !s.eng.slotRuns 1),
    clause wOther (fun s => s.eng.admits Od.FW_IMAGE.commit 0 15) (.fwImageCommit 0 15) (fun s t => accepted s t && t.eng.flash == s.eng.flash),
    [w0].all (fun s => s.eng.admits Od.FUSE.advance_rollback 1 15 && !s.eng.boot.warmAsked && (s.eng.slotImage 1).data == [])] = true := by decide +kernel

theorem test_dumps : checks [
    clause w0 (fun s => s.eng.admits Od.DUMP_CTRL.dump_now 1 15 && s.eng.fwRuns && s.eng.dump.asked == none) (.dumpNow 1 15)
      (fun s t => accepted s t && t.eng.dump.asked == some 2),
    clause wAsked (fun s => s.eng.dumpDue && s.eng.flash.dumps.length == 2) (.dumpCapture [1] [2] [5]) (fun s t => t.eng.dump == ⟨none, some 0⟩ &&
      (t.eng.dumpSlot 0).state == 1 && (t.eng.dumpSlot 0).captureTick == s.core.tick && (t.eng.dumpSlot 0).sequence == 1 && t.eng.od == s.eng.od),
    clause (eng (fun e => { e with dump := ⟨none, some 1⟩ }) w0) (fun s => s.eng.fwRuns && s.eng.dump.writing == some 1) .dumpComplete
      (fun _ t => t.eng.dump.writing == none && (t.eng.dumpSlot 1).state == 2),
    clause w0 (fun s => s.eng.admits Od.DUMP_CTRL.clear 3 15 && s.eng.dump.writing == none) (.dumpClear 3 15)
      (fun s t => accepted s t && t.eng.dumpSlot 1 == DumpSlot.erased),
    clause (eng (fun e => { e with dump := ⟨none, some 1⟩ }) w0) (fun s => s.eng.admits Od.DUMP_CTRL.clear 1 15 && s.eng.dump.writing.isSome) (.dumpClear 1 15)
      (fun s t => t.eng.resp.status == stBusy && t.eng.flash == s.eng.flash),
    clause (eng (fun e => { e with flash := { e.flash with dumps := [⟨2, 1, 0, 0, List.replicate 1025 0⟩, DumpSlot.erased] } }) w0)
      (fun s => s.eng.admits Od.DUMP_READ.chunk_index 1 15 && 1 < ceilDiv (s.eng.dumpSlot (s.eng.n Od.DUMP_READ.slot)).bytes.length 1024) (.dumpChunkSelect 1 15)
      (fun s t => wrote s t [(Od.DUMP_READ.chunk_index, 1)])] = true := by decide +kernel

/-! ## Ports, links and classification -/

/-- Port 0's link up with good timestamps. -/
def wLink : State := put [(Od.PORT_STATUS.link 0, 1), (Od.PORT_STATUS.ts_valid 0, 1)] w0

theorem test_ports : checks [
    clause (put [(Od.PORT_STATUS.link 28, 1)] w0) (fun s => s.eng.admits (Od.LANE_GROUP.mode 7) 4 15) (.laneGroupModeWrite 7 4 15)
      (fun s t => accepted s t && t.eng.i (Od.LANE_GROUP.mode 7) == 4 && !t.eng.b (Od.PORT_STATUS.link 28) && (t.eng.cal 31).resv == []),
    clause wLink (fun s => s.eng.admits (Od.PORT_CONFIG.enable 0) 0 15) (.portEnableWrite 0 0 15)
      (fun s t => accepted s t && t.eng.i (Od.PORT_CONFIG.enable 0) == 0 && !t.eng.b (Od.PORT_STATUS.link 0)),
    clause (put [(Od.PORT_CONFIG.enable 31, 0)] w0) (fun s => s.eng.admits (Od.PORT_CONFIG.enable 31) 1 15) (.portEnableWrite 31 1 15)
      (fun s t => wrote s t [(Od.PORT_CONFIG.enable 31, 1)]),
    clause wLink (fun s => s.eng.admits (Od.LANE_IF 3) 1 15 && s.eng.portOfLane 3 == some 0) (.laneIfWrite 3 1 15)
      (fun s t => accepted s t && t.eng.i (Od.LANE_IF 3) == 1 && !t.eng.b (Od.PORT_STATUS.link 0)),
    clause w0 (fun s => s.eng.linkMayRise 28) (.linkUp 28) (fun s t => beside s t && t.eng.i (Od.PORT_STATUS.link 28) == 1 &&
      t.eng.n (Od.PORT_STATUS.lanes 28) == 4 && t.eng.n (Od.PORT_STATUS.rate_gbps 28) == 800 && up s t (Od.PORT_STATUS.link_changes 28) 32 &&
      t.eng.n (Od.PORT_STATUS.last_change_tick 28) == s.core.tick && t.eng.irq.latched == 2 ^ 228),
    clause w0 (fun s => s.eng.linkMayRise 0) (.linkDown 0 .otherModes) (fun s t => beside s t && once s t 25 && only s t),
    clause wLink (fun s => s.eng.b (Od.PORT_STATUS.link 0)) (.linkDown 0 .marker)
      (fun s t => beside s t && !t.eng.b (Od.PORT_STATUS.link 0) && !t.eng.b (Od.PORT_STATUS.ts_valid 0) && once s t 25 && once s t 26),
    clause wLink (fun s => s.eng.b (Od.PORT_STATUS.link 0)) (.linkDown 0 .fec) (fun s t => once s t 25 && !once s t 26)] = true := by decide +kernel

/-- A frame of 60 bytes with the FCS the manual gives it (IEEE 802.3), and the same with a wrong FCS. -/
def aFrame : Bytes := withFcs (padTo 60 (beBytes 6 0xFFFFFFFFFFFF ++ beBytes 6 0x020000000001 ++ [0x12, 0x34]))
def badFrame : Bytes := aFrame.take 63 ++ [0]

theorem test_frames : checks [
    clause wLink (fun s => s.eng.b (Od.PORT_STATUS.link 0)) (.frameReceive ⟨0, aFrame, false, 0, 0, 0, 65536, 0, 0, 0⟩) (fun s t => beside s t && once s t 0 &&
      t.eng.seen 1 == s.eng.seen 1 + 64 && !once s t 2),
    clause wLink (fun s => s.eng.up) (.frameReceive ⟨0, aFrame, true, 0, 1, 0, 65536, 0, 0, 0⟩) (fun s t => once s t 0 && once s t 5 && only s t),
    clause wLink (fun s => !fcsOk badFrame && !s.eng.b (Od.PORT_CONFIG.fcs_err_to_host 0)) (.frameReceive ⟨0, badFrame, false, 0, 0, 0, 65536, 0, 0, 0⟩)
      (fun s t => once s t 0 && once s t 2 && only s t)] = true := by decide +kernel

/-- Rule 7 of the active bank: every frame of port 0, dropped. Rule 9 likewise, and valid. -/
def wRules : State := put [(Od.RULE_ACTIVE.valid 7, 1), (Od.RULE_ACTIVE.port_mask 7, 2), (Od.RULE_ACTIVE.valid 9, 1),
  (Od.RULE_ACTIVE.port_mask 9, 1), (Od.RULE_ACTIVE.dst 9, 0x300), (Od.RULE_ACTIVE.ip_proto 9, 0xFF), (Od.RULE_ACTIVE.dport_hi 9, 0xFFFF)] wLink

/-- The frame as the classifier sees it. -/
def aView : RxView := ⟨0, padTo 60 [], parseFrame (fun _ => false) aFrame, 65536, false, false, none, true⟩

theorem test_classifier :
    (wRules.eng.cls.newFrom ≤ aView.rxLin ∧ wRules.eng.cls.badRules = [] ∧ listed wRules.eng.od 0x30 0x800 1024 1 1 = [7] ++ 9 :: [] ∧
      (ruleOf wRules.eng.od 7).covers aView = false ∧ (ruleOf wRules.eng.od 9).covers aView = true ∧ wRules.eng.actionOk aView 0 = true ∧
      (ruleOf wRules.eng.od 9).action = 0 ∧ bitOf (ruleOf wRules.eng.od 9).mirror 15 = false ∧
      (wRules.eng.classify wRules.ctx aView).seen 0x409 = 1 ∧ (wRules.eng.classify wRules.ctx aView).seen 31 = 1) ∧
    listed wLink.eng.od 0x30 0x800 1024 1 1 = [] ∧ wLink.eng.n (Od.PORT_CONFIG.default_action 0) ≠ 3 ∧
    (wLink.eng.classify wLink.ctx aView).seen 11 = 1 := by decide +kernel

/-- Port 0 sends pauses, its XOFF is to be repeated, another station's pause of priority 3 has ended, and ESMC runs. -/
def wPause : State := eng (fun e => { e with ports := modNth e.ports 0 (fun q => { q with xoff := some (1000 * unitsPerSec), pause := [(3, 1000 * unitsPerSec)] }) })
  (put [(Od.PORT_CONFIG.pause_tx 0, 1), (Od.PORT_CONFIG.flow_mode 0, 1), (Od.PORT_CONFIG.esmc_enable 0, 1), (Od.PORT_ESMC.ql_rx_valid 0, 1)] wLink)

theorem test_pauses : checks [
    clause wPause (fun s => (s.eng.port 0).xoff == some (1000 * unitsPerSec) && 1000 * unitsPerSec ≤ s.ctx.lin 0 && s.eng.pauseTxOn 0) (.pauseXoffRepeat 0)
      (fun s t => t.eng.out == [.frame 0 (withFcs (s.eng.pauseFrame s.ctx 0 65535))] && once s t 16),
    clause (put [(Od.PORT_CONFIG.pause_tx 0, 0)] wPause) (fun s => !s.eng.pauseTxOn 0) (.pauseXoffRepeat 0) (fun _ t => (t.eng.port 0).xoff == none && t.eng.out == []),
    clause wPause (fun s => s.eng.up) (.pauseEnd 0) (fun _ t => (t.eng.port 0).pause == []),
    clause wPause (fun s => s.eng.esmcLate s.ctx 0) (.esmcTimeout 0) (fun s t => t.eng.i (Od.PORT_ESMC.ql_rx_valid 0) == 0 && once s t 24 && only s t),
    clause wPause (fun s => s.ctx.passed (s.eng.port 0).esmcSent unitsPerSec) (.esmcInfoPdu 0)
      (fun s t => t.eng.n (Od.PORT_ESMC.ql_tx 0) == s.eng.qlSent s.ctx 0 && once s t 23 && t.eng.port 31 == s.eng.port 31)] = true := by decide +kernel

/-- Edit rules 1 (good) and 3 (action 6: bad); two IPv4 service entries of one address on one VLAN, the second still off. -/
def wEdit : State := put [(Od.RULE_EDIT.valid 1, 1), (Od.RULE_EDIT.port_mask 1, 1)] w0
def wBad : State := put [(Od.RULE_EDIT.valid 3, 1), (Od.RULE_EDIT.action 3, 6)] wEdit
def wSvc : State := put [(Od.SVC4.enable 0, 1), (Od.SVC4.address 0, 0x0A000001), (Od.SVC4.port_mask 0, 1), (Od.SVC4.address 255, 0x0A000001),
  (Od.SVC4.port_mask 255, 1)] w0

theorem test_rule_banks : checks [
    clause wEdit (fun s => s.eng.admits Od.RULE_COMMIT.commit 1 15 && !s.eng.bankBusy && (listed (editAsActive s.eng.od) 0x30 0x800 1024 1 1).all
        (fun r => !(ruleOf (editAsActive s.eng.od) r).bad)) (.ruleCommit 1 15)
      (fun s t => stored s t [(Od.RULE_COMMIT.commit_tick, (s.core.tick + 4096 : Nat))] && t.eng.cls.commitAt == some (s.core.tick + 4096)),
    clause wBad (fun s => listed (editAsActive s.eng.od) 0x30 0x800 1024 1 1 == [1] ++ 3 :: [] && (ruleOf (editAsActive s.eng.od) 3).bad) (.ruleCommit 1 15)
      (fun s t => t.eng.resp.status == stRange && t.eng.i Od.RULE_COMMIT.bad_rule == 3 && t.eng.cls == s.eng.cls),
    clause (after (.ruleCommit 1 15) wEdit) (fun s => s.eng.bankBusy) (.ruleCommit 1 15) (fun s t => t.eng.resp.status == stBusy && t.eng.cls == s.eng.cls),
    clause (tickAt (1024000 + 4096) (after (.ruleCommit 1 15) wEdit)) (fun s => s.eng.cls.commitAt == some s.core.tick && s.eng.od.wf) .ruleCommitTakeEffect
      (fun s t => t.eng.i (Od.RULE_ACTIVE.valid 1) == 1 && t.eng.i Od.RULE_COMMIT.active_bank == 1 - s.eng.i Od.RULE_COMMIT.active_bank &&
        t.eng.cls.copyEnd == some (s.core.tick + 2048)),
    clause (eng (fun e => { e with cls := { e.cls with copyEnd := some 1024000 } }) w0) (fun s => s.eng.bankBusy) .ruleBankCopyDone (fun _ t => !t.eng.bankBusy),
    clause wSvc (fun s => s.eng.admitsRec 0x30 0x4FF (.member 3 0xFFF) 15 && !(s.eng.setAll [(Od.SVC4.vid 255, 0xFFF)]).svcDuplicate false 255)
      (.serviceEntryWrite false 255 (.member 3 0xFFF) 15) (fun s t => stored s t [(Od.SVC4.vid 255, 0xFFF)]),
    clause wSvc (fun s => s.eng.admitsRec 0x30 0x4FF (.member 1 1) 15 && (s.eng.setAll [(Od.SVC4.enable 255, 1)]).svcDuplicate false 255 &&
        (s.eng.setAll [(Od.SVC4.enable 255, 1)]).n (Od.SVC4.vid 255) == 0xFFFF) (.serviceEntryWrite false 255 (.member 1 1) 15)
      (fun s t => t.eng.resp.status == stDuplicate && t.eng.i (Od.SVC4.enable 255) == 0 && only s t)] = true := by decide +kernel

/-! ## Timestamps and calibration -/

theorem test_markers_and_echoes : checks [
    clause (eng (fun e => { e with lanes := modNth e.lanes 3 (fun u => { u with closureRun := 3 }) }) wLink)
      (fun s => s.eng.portOfLane 3 == some 0 && s.eng.closureOver 3 200000) (.alignmentMarkerRx 3 0 200000 (some 7))
      (fun s t => up s t (Od.LANE_LIVE.markers 3) 32 && !t.eng.b (Od.PORT_STATUS.ts_valid 0) && beside s t),
    clause wLink (fun s => s.eng.portOfLane 0 == some 0) (.echoResult 0 true 0 (-65536))
      (fun s t => up s t (Od.TS_PORT.echo_count 0) 32 && t.eng.i (Od.TS_PORT.echo_last 0) == -65536 && t.eng.b (Od.PORT_STATUS.ts_valid 0)),
    clause wLink (fun s => s.eng.portOfLane 0 == some 0) (.echoResult 0 true 0 65537) (fun _ t => !t.eng.b (Od.PORT_STATUS.ts_valid 0)),
    clause (eng (fun e => { e with cals := modNth e.cals 0 (fun c => { c with awaiting := [⟨0, 1024000 - 512, 0, .ptp 0⟩] }) }) wLink)
      (fun s => match (s.eng.cal 0).awaiting with | a :: _ => a.tick + 512 ≤ s.core.tick | [] => false) (.echoMissing 0)
      (fun s t => (t.eng.cal 0).awaiting == [] && !t.eng.b (Od.PORT_STATUS.ts_valid 0) && up s t (Od.TS_PORT.faults 0) 32)] = true := by decide +kernel

theorem test_calibration : checks [
    clause w0 (fun s => s.eng.admits (calKey (.seed 5)) (-1) 15) (.calItemWrite (.seed 5) (-1) 15)
      (fun s t => stored s t [(calKey (.seed 5), -1), (calOrigin (calKey (.seed 5)), 1)] && t.eng.calWait.since.isSome),
    clause (after (.calItemWrite (.laneRx 31) 5 15) w0) (fun s => s.eng.calWait.since.isSome) .calStoreWrite (fun s t => t.eng.calWait.since == none &&
      t.eng.flash.calValues == s.eng.od.filter (fun p => isCalKey p.1) && up s t Od.CAL_STORE.writes 32 && t.eng.n Od.CAL_STORE.last_write_tick == s.core.tick),
    clause w0 (fun s => s.eng.admits Od.CAL_CTRL.open_ (2 ^ 28) 15 && s.eng.portsOnly (2 ^ 28)) (.calCtrlOpen (2 ^ 28) 15)
      (fun s t => accepted s t && t.eng.n Od.CAL_CTRL.open_mask == 2 ^ 28),
    clause (put [(Od.CAL_CTRL.open_mask, 17)] w0) (fun s => s.eng.admits Od.CAL_CTRL.close 16 15 && s.eng.portsOnly 16) (.calCtrlClose 16 15)
      (fun s t => accepted s t && t.eng.n Od.CAL_CTRL.open_mask == 1 && only s t),
    clause w0 (fun s => s.eng.admits Od.CAL_CTRL.open_ (2 ^ 31) 15 && !s.eng.portsOnly (2 ^ 31)) (.calCtrlOpen (2 ^ 31) 15)
      (fun s t => refusedAs s t stNoObject)] = true := by decide +kernel

/-! ## The answer engine and scheduled departure -/

/-- A request waits in pipe 15, which has also a response to check and a probe due. -/
def wPipe : State := eng (fun e => { e with ans := { e.ans with pipes := modNth e.ans.pipes 15 (fun q => { q with
  queue := [⟨0, 0, false, 0, aFrame, 65536⟩], toCheck := 1, lastSample := 0 }) } }) (put [(Od.PIPE.in_service 15, 1)] wLink)

theorem test_pipes : checks [
    clause wPipe (fun s => s.eng.mayAccept 15) (.answerRequest 15 [] false)
      (fun s t => (t.eng.pipe 15).queue == [] && (t.eng.pipe 15).slotUsed && once s t (0x804 + 240) && beside s t),
    clause (eng (fun e => { e with flt := { e.flt with eclipse := true } }) wPipe) (fun s => s.eng.mayAccept 15 && !s.eng.flt.lingering)
      (.answerRequest 15 [] false) (fun s t => up s t Od.ANS_STATUS.dropped 64 && t.eng.cals == s.eng.cals),
    clause wPipe (fun s => 0 < (s.eng.pipe 15).toCheck) (.checkerCompare 15 true) (fun s t => up s t (Od.PIPE.checks 15) 32 && t.eng.b (Od.PIPE.in_service 15)),
    clause wPipe (fun s => 0 < (s.eng.pipe 15).toCheck) (.checkerCompare 15 false) (fun s t => t.eng.i (Od.PIPE.in_service 15) == 0 &&
      up s t (Od.PIPE.check_fail 15) 32 && t.eng.n (Od.PIPE.last_fail_tick 15) == s.core.tick),
    clause wPipe (fun s => s.eng.probeDue s.ctx 15) (.checkerProbe 15 false) (fun s t => up s t (Od.PIPE.checks 15) 32 && t.eng.i (Od.PIPE.in_service 15) == 0),
    clause (put [(Od.PIPE.in_service 15, 0)] wPipe) (fun s => s.eng.admits (Od.PIPE.reenable 15) 1 15 && s.eng.ans.pipes.length == 16) (.pipeReenable 15 1 15)
      (fun s t => accepted s t && t.eng.i (Od.PIPE.in_service 15) == 1 && (t.eng.pipe 15).probeFirst)] = true := by decide +kernel

/-- An NTP request of 48 bytes in UDP; and a count of 1900-01-01, the first of the NTP era, with the era's last fraction (R63). -/
def aRequest : AnsView := ⟨⟨0, 0, false, 0, [], 1000 * unitsPerSec⟩, parseFrame (fun _ => false) [], 0, padTo 56 []⟩

theorem test_timestamps : 48 ≤ aRequest.pl.length ∧ ntpOf (-(2208988800 * unitsPerSec : Nat)) = (0, 0) ∧
    ntpOf (unitsPerSec / 2 : Nat) = (0, 2208988800 * 2 ^ 32 + 2 ^ 31) ∧
    ntpOf ((2 ^ 32 - 2208988800) * unitsPerSec - 1 : Nat) = (1, 0) := by decide +kernel

theorem test_buckets_and_rules : checks [
    clause w0 (fun s => s.eng.admits Od.ANS_GLOBAL.rekey 1 15) (.ansRekey 1 15)
      (fun s t => accepted s t && t.eng.ans.buckets == [] && t.eng.draws == s.eng.draws + 1 && up s t Od.ANS_STATUS.rekeys 32),
    clause (eng (fun e => { e with ans := { e.ans with buckets := [(2097151, ⟨16, 0, 0, 0⟩)] } }) w0) (fun s => s.eng.up) (.bucketSweep 2097151 15) (fun s t =>
      tget t.eng.ans.buckets 2097151 == (tget s.eng.ans.buckets 2097151).map (s.eng.refill s.ctx 15) && t.eng.od == s.eng.od),
    clause w0 (fun s => s.eng.admitsRec 0x40 0x1FF (.member (Od.ANS_RULE.dscp 255 % 16) 63) 15) (.ansRuleWrite 255 (.member (Od.ANS_RULE.dscp 255 % 16) 63) 15)
      (fun s t => stored s t [(Od.ANS_RULE.dscp 255, 63)]),
    clause w0 (fun s => s.eng.admitsRec 0x40 0x1FF (.member (Od.ANS_RULE.dscp 255 % 16) 64) 15) (.ansRuleWrite 255 (.member (Od.ANS_RULE.dscp 255 % 16) 64) 15)
      (fun s t => refusedAs s t stRange),
    [w0].all (fun s => s.eng.admitsRec 0x40 0x003 (.member 1 4) 15)] = true := by decide +kernel

/-- A grid point 60,000 ns ahead on port 0, and a launch frame that asks for the 100 ns before it. -/
def aPoint : GridPoint := ⟨1000 * unitsPerSec + ns16 60000, 1000, 0, 0, 10, 1000, 65536⟩
def aLaunch (tried : Option Nat) : LaunchFrame := ⟨0, padTo 60 [], 1000 * unitsPerSec + ns16 59900, 1000, 7, 3, tried⟩
def wLaunch (tried : Option Nat) : State :=
  eng (fun e => { e with txRings := tput e.txRings 127 { TxRing.atReset with launch := some (aLaunch tried) } }) wLink

theorem test_launch : checks [
    clause (wLaunch none) (fun s => s.eng.launchReady s.ctx 127 && s.eng.portReady 0 && stDiff (aLaunch none).lt (s.ctx.st 0) ≤ ns16 60000 &&
        aPoint.at_ ≤ s.ctx.lin 0 + ns16 64000 && s.eng.buildLead 0 (s.ctx.lin 0) aPoint && s.eng.fitsAt 0 64 0 true aPoint && s.eng.cals.length == 32 &&
        s.eng.prioOf 0 [] == 0 && wireLen (aLaunch none).bytes == 64) (.hostLaunchTake 127 [aPoint])
      (fun _ t => (t.eng.txRing 127).launch == none && (t.eng.cal 0).resv.map (fun r => (r.at_, r.block, r.host, r.origin)) ==
        [(aPoint.at_, 1000, true, .host 127 3 7 (aLaunch none).lt)]),
    clause (put [(Od.PORT_STATUS.ts_valid 0, 0)] (wLaunch none)) (fun s => s.eng.launchReady s.ctx 127 && !s.eng.portReady 0) (.hostLaunchTake 127 [aPoint])
      (fun s t => (t.eng.txRing 127).launch == none && t.eng.i (Od.DEP_LIVE.last_miss_cause 0) == 15 && t.eng.n (Od.DEP_LIVE.last_miss_tick 0) == s.core.tick),
    clause (wLaunch (some (1024000 - 1024))) (fun s => s.eng.portReady 0 && s.eng.fitsAt 0 64 0 true aPoint) (.hostLaunchRetry 127 [aPoint])
      (fun _ t => (t.eng.txRing 127).launch == none && (t.eng.cal 0).resv.length == 1)] = true := by decide +kernel

/-- A reservation of port 0 whose release has come, its frame fetched in time; and one whose fetch has not begun. -/
def aResv (fetch : Option Nat) : Resv := ⟨1000 * unitsPerSec, 1000, 64, 0, 0, 0, 0, 0, true, .host 0 0 0 0, padTo 60 [], fetch⟩
def wResv (fetch : Option Nat) : State := eng (fun e => { e with cals := modNth e.cals 0 (fun c => { c with resv := [aResv fetch] }) }) wLink

/-- An untimed frame waits at port 0, its turn next. -/
def wUntimed (fw : Bool) : State :=
  eng (fun e => { e with ports := modNth e.ports 0 (fun q => { q with lastSource := 128, untimed := [⟨none, padTo 60 [], 0, fw⟩] }) }) wLink

theorem test_departures : checks [
    clause (wResv none) (fun s => s.eng.fetchDue s.ctx 0) (.timedFetchStart 0 5)
      (fun s t => (t.eng.cal 0).fetchMax == 5 && t.eng.cal 31 == s.eng.cal 31 && t.eng.od == s.eng.od),
    clause (wResv (some 0)) (fun s => s.ctx.reached (aResv none).releaseAt && s.eng.releaseMiss s.ctx 0 (aResv (some 0)) == none) (.frameRelease 0 false)
      (fun s t => (t.eng.cal 0).resv == [] && t.eng.out.contains (.timedFrame 0 (1000 * unitsPerSec) (withFcs (padTo 60 []))) && once s t 0x902),
    clause (wResv none) (fun s => s.eng.releaseMiss s.ctx 0 (aResv none) == some 8) (.frameRelease 0 false)
      (fun s t => (t.eng.cal 0).resv == [] && t.eng.i (Od.DEP_LIVE.last_miss_cause 0) == 8 && up s t (Od.DEP_STATUS.misses 0) 64),
    clause (wUntimed false) (fun s => s.eng.untimedFits s.ctx 0 0 ⟨none, padTo 60 [], 0, false⟩) (.untimedTxStart 0 0)
      (fun s t => t.eng.out == [.frame 0 (withFcs (padTo 60 []))] && once s t 16 && (t.eng.port 0).untimed == [] && (t.eng.port 0).lastSource == 0),
    clause { wUntimed true with fuses := { w0.fuses with ceilFrames := 0 } } (fun s => !s.eng.fwRoom s.ctx) (.untimedTxStart 0 0) (fun s t => once s t 21 &&
      (t.eng.port 0).untimed == [] && t.eng.n (Od.FLT_BLOCK.latch 2) == s.eng.n (Od.FLT_BLOCK.latch 2) ||| 8)] = true := by decide +kernel

/-! ## NTS -/

/-- Slots 3 (loaded, left at second 1) and 15 (current) of the key store hold keys, slot 0 an import; retirement after 999 s. -/
def wKeys : State := eng (fun e => { e with nts := { e.nts with imported := [(0, 77)] } })
  (put [(Od.NTS_SLOT.state 3, 1), (Od.NTS_SLOT.key 3, 5), (Od.NTS_SLOT.left_current 3, 1), (Od.NTS_SLOT.state 15, 2), (Od.NTS_SLOT.key 15, 6),
    (Od.NTS_STATUS.current_slot, 15), (Od.NTS_GLOBAL.retire_after, 999)] w0)

theorem test_nts_slots : checks [
    [wKeys].all (fun s => s.eng.admits (Od.NTS_SLOT.command 0) 1 15 && s.eng.slotState 0 == 0),
    clause (put [(Od.NTS_STATION.seed_set, 1)] wKeys) (fun s => s.eng.admits (Od.NTS_SLOT.command 0) 2 15 && s.eng.b Od.NTS_STATION.seed_set)
      (.ntsSlotLoadStation 0 15) (fun s t => accepted s t && t.eng.i (Od.NTS_SLOT.origin 0) == 2),
    clause wKeys (fun s => s.eng.admits (Od.NTS_SLOT.command 0) 2 15 && !s.eng.b Od.NTS_STATION.seed_set) (.ntsSlotLoadStation 0 15)
      (fun s t => refusedAs s t stNoSeed),
    clause wKeys (fun s => s.eng.admits (Od.NTS_SLOT.command 0) 3 15 && tget s.eng.nts.imported 0 == some 77) (.ntsSlotLoadImport 0 15)
      (fun s t => accepted s t && t.eng.i (Od.NTS_SLOT.key 0) == 77 && t.eng.i (Od.NTS_SLOT.origin 0) == 3),
    clause wKeys (fun s => tget s.eng.nts.imported 1 == none) (.ntsSlotLoadImport 1 15) (fun s t => refusedAs s t stNoKey),
    clause wKeys (fun s => s.eng.slotState 3 != 0 && s.eng.admits (Od.NTS_SLOT.command 3) 1 15) (.ntsSlotLoadLocal 3 15) (fun s t => refusedAs s t stNotEmpty),
    clause wKeys (fun s => s.eng.slotState 3 == 1 && s.eng.admits (Od.NTS_SLOT.command 3) 4 15) (.ntsSlotMakeCurrent 3 15) (fun s t => accepted s t &&
      t.eng.i (Od.NTS_SLOT.state 3) == 2 && t.eng.i (Od.NTS_SLOT.state 15) == 1 && t.eng.n (Od.NTS_SLOT.left_current 15) == s.ctx.lin4096 / unitsPerSec),
    clause wKeys (fun s => s.eng.admits (Od.NTS_SLOT.command 3) 5 15) (.ntsSlotRetire 3 15)
      (fun s t => accepted s t && t.eng.i (Od.NTS_SLOT.state 3) == 0 && t.eng.i (Od.NTS_SLOT.key 3) == 0),
    clause wKeys (fun s => s.eng.slotState 15 == 2 && s.eng.admits (Od.NTS_SLOT.command 15) 5 15) (.ntsSlotRetire 15 15) (fun s t => refusedAs s t stCurrent),
    clause wKeys (fun s => s.eng.retireDue s.ctx) .slotRetireCheck
      (fun s t => t.eng.i (Od.NTS_SLOT.state 3) == 0 && t.eng.i (Od.NTS_SLOT.state 15) == 2 && t.eng.nts.retireChecked == 1000 && beside s t)] = true := by
  decide +kernel

/-- The generator stopped a second ago. -/
def wStopped : State := eng (fun e => { e with nts := { e.nts with drbgStopped := some (999 * unitsPerSec) } }) w0

theorem test_keys_and_generator : checks [
    clause w0 (fun s => s.eng.admits Od.NTS_STATION.seed (2 ^ 256 - 1) 15) (.ntsStationSeedWrite (2 ^ 256 - 1) 15)
      (fun s t => accepted s t && t.eng.i Od.NTS_STATION.seed == 2 ^ 256 - 1 && t.eng.i Od.NTS_STATION.seed_set == 1),
    clause (after (.ntsStationSeedWrite 5 15) w0) (fun s => s.eng.keyWait.since.isSome) (.keyStoreWrite true)
      (fun s t => t.eng.keyWait.since == none && t.eng.flash.keyValues == s.eng.od.filter (fun p => isKeyKey p.1) && t.eng.od == s.eng.od),
    clause (after (.ntsStationSeedWrite 5 15) w0) (fun s => s.eng.keyWait.since.isSome) (.keyStoreWrite false) (fun s t => t.eng.flash == s.eng.flash &&
      t.eng.keyWait.since == some (s.ctx.st 0) && t.eng.n (Od.FLT_BLOCK.latch 7) == s.eng.n (Od.FLT_BLOCK.latch 7) ||| 8),
    clause (eng (fun e => { e with nts := { e.nts with drbgBlocks := 2 ^ 28 } }) (put [(Od.NTS_STATUS.drbg_ok, 1)] w0)) (fun s => s.eng.reseedDue) (.drbgReseed true)
      (fun s t => t.eng.nts.drbgBlocks == 0 && t.eng.od == s.eng.od),
    clause (put [(Od.NTS_STATUS.drbg_ok, 1)] w0) (fun s => s.eng.b Od.NTS_STATUS.drbg_ok) (.drbgReseed false) (fun s t => t.eng.i Od.NTS_STATUS.drbg_ok == 0 &&
      t.eng.n (Od.FLT_BLOCK.latch 7) == s.eng.n (Od.FLT_BLOCK.latch 7) ||| 2),
    clause wStopped (fun s => s.ctx.passed (999 * unitsPerSec) unitsPerSec) (.drbgRetry 1024)
      (fun _ t => t.eng.nts.drbgStopped == none && t.eng.i Od.NTS_STATUS.drbg_ok == 1),
    clause wStopped (fun s => s.eng.nts.drbgStopped.isSome) (.drbgRetry 1023) (fun s t => t.eng.nts.drbgStopped == some (s.ctx.st 0) && t.eng.od == s.eng.od)] = true := by
  decide +kernel

/-- NTS-KE on, with its key; a SYN of an IPv4 client to its port; a session ten seconds old. -/
def aSyn : Bytes := padTo 60 (beBytes 12 0 ++ [8, 0] ++ [0x45, 0, 0, 40, 0, 0, 0, 0, 64, 6, 0, 0, 10, 0, 0, 1, 10, 0, 0, 2] ++ beBytes 2 50000 ++
  beBytes 2 (w0.eng.n Od.NTS_KE.tcp_port) ++ beBytes 8 0 ++ [0x50, 2])
def wKe : State := eng (fun e => { e with nts := { e.nts with sessions := [(9, ⟨990 * unitsPerSec, 0, aSyn⟩)] } })
  (put [(Od.NTS_KE.enable, 1), (Od.NTS_KE_KEY.present, 1)] w0)

theorem test_key_exchange : checks [
    clause wKe (fun s => let p := parseFrame s.eng.isTpid aSyn
        s.eng.keOn && p.proto == some 6 && p.l4.isSome && beAt aSyn (p.l4.getD 0 + 2) 2 == s.eng.n Od.NTS_KE.tcp_port &&
          byteAt aSyn (p.l4.getD 0 + 13) % 64 == 2 && !s.eng.b Od.NTS_KE_STATUS.shedding && (s.eng.keRecent s.ctx).length < s.eng.n Od.NTS_KE.max_rate &&
          s.eng.nts.sessions.length < s.eng.n Od.NTS_KE.max_sessions) (.ntsKeSyn 31 aSyn)
      (fun s t => tget t.eng.nts.sessions (keSession (parseFrame s.eng.isTpid aSyn) aSyn) == some ⟨s.ctx.st 0, 31, aSyn⟩ && t.eng.od == s.eng.od),
    clause (put [(Od.NTS_KE_STATUS.shedding, 1)] wKe) (fun s => s.eng.keOn) (.ntsKeSyn 31 aSyn)
      (fun s t => t.eng.nts.sessions == s.eng.nts.sessions && up s t Od.NTS_KE_STATUS.refused_shed 64),
    clause wKe (fun s => s.eng.keOn && (tget s.eng.nts.sessions 9).isSome && s.eng.b Od.NTS_KE_KEY.present) (.ntsKeRequest 9 .ok [] 1 2)
      (fun s t => tget t.eng.nts.sessions 9 == none && up s t Od.NTS_KE_STATUS.handshakes 64 && t.eng.out.length == 1),
    clause wKe (fun s => s.eng.keOn) (.ntsKeRequest 9 .none [] 1 2)
      (fun s t => tget t.eng.nts.sessions 9 == none && up s t Od.NTS_KE_STATUS.alerts 64 && t.eng.out == [.ntsKe 9 [2, byte 40]]),
    clause wKe (fun s => s.eng.fwRuns && s.ctx.passed (990 * unitsPerSec) (10 * unitsPerSec)) (.ntsKeSessionTimeout 9)
      (fun s t => tget t.eng.nts.sessions 9 == none && t.eng.od == s.eng.od),
    [w0].all (fun s => s.eng.admits Od.NTS_KE_KEY.command 1 15 && s.eng.nts.drbgStopped == none)] = true := by decide +kernel

/-! ## PTP -/

/-- A PTP message in an Ethernet frame: its type, its length and its domain. -/
def ptpFrame (type len domain : Nat) : Bytes :=
  padTo (14 + len) (beBytes 12 0 ++ [0x88, 0xF7] ++ [byte type, 0x12] ++ beBytes 2 len ++ [byte domain])

/-- A message at the front of the PTP engine's queue. -/
def wPtp (target : Nat) (m : Bytes) (s : State) : State := eng (fun e => { e with ptpIn := [⟨target, 31, 0, m, 1000 * unitsPerSec⟩] }) s

/-- Instance 31 serves multicast on port 31 over Ethernet in domain 24; unit 15 listens in domain 24. -/
def wInst : State := put [(Od.PTP_INST.enable 31, 1), (Od.PTP_INST.transports 31, 4), (Od.PTP_INST.domain 31, 24), (Od.PTP_INST.mc_port_mask 31, 2 ^ 31),
  (Od.PTP_UP.enable 15, 1), (Od.PTP_UP.domain 15, 24)] w0

theorem test_ptp_receive : checks [
    clause (wPtp 31 (ptpFrame 1 44 24) w0) (fun s => s.eng.nAt (Od.PTP_INST.enable 31) (1000 * unitsPerSec) == 0) (.ptpReceive [])
      (fun s t => t.eng.ptpIn == [] && up s t (Od.PTP_INST_STATS.dropped 31) 64),
    clause (wPtp 31 (ptpFrame 1 44 24) wInst) (fun s => let v := s.eng.ptpView (ptpFrame 1 44 24)
        let m := v.msg
        let r := 1000 * unitsPerSec
        !s.eng.flt.eclipse && s.eng.nAt (Od.PTP_INST.enable 31) r != 0 && (s.core.moon (s.eng.nAt (Od.PTP_INST.moon 31) r)).adv &&
          bitOf (s.eng.nAt (Od.PTP_INST.transports 31) r) (if v.ver = 4 then 0 else if v.ver = 6 then 1 else 2) && ptpShapeOk m &&
          byteAt m 4 == s.eng.nAt (Od.PTP_INST.domain 31) r && s.eng.authOf (m.take (beAt m 2 2)) 44 == .absent &&
          s.eng.nAt (Od.PTP_NEG.auth_required 31) r == 0 && ptpType m == 1 && !bitOf (byteAt m 6) 2 && bitOf (s.eng.nAt (Od.PTP_INST.mc_port_mask 31) r) 31)
      (.ptpReceive []) (fun s t => t.eng.ptpIn == [] && up s t (Od.PTP_INST_STATS.delay_req 31) 64 && once s t 0xB18),
    clause (wPtp 47 (ptpFrame 11 64 24) wInst) (fun s => let m := (s.eng.ptpView (ptpFrame 11 64 24)).msg
        s.eng.upOn 15 && ptpShapeOk m && byteAt (m.take (beAt m 2 2)) 4 == s.eng.n (Od.PTP_UP.domain 15) && s.eng.n (Od.PTP_UP.auth_spp 15) == 0xFF &&
          ptpType (m.take (beAt m 2 2)) == 11) (.ptpReceive [])
      (fun s t => t.eng.ptpIn == [] && t.eng.n (Od.PTP_UP_STATUS.clock_class 15) == 0 && beside s t)] = true := by decide +kernel

/-- A client with a Sync grant that is due, and one that has run out; a multicast stream that is due. -/
def aClient : PtpClient := ⟨31, 0, 4, [], [], [], 0, 0, [], [⟨0, -7, 2000000, 1024000, 65535, none⟩, ⟨11, 0, 1024000, 0, 0, none⟩]⟩
def wGrants : State := eng (fun e => { e with ptp := { e.ptp with clients := [aClient], streams := [(streamKey 31 31 true, ⟨1024000, 65535⟩)] } }) wInst

/-- Unit 15 holds its Delay_Resp grant; a Sync waits for its Follow_Up since 999 s; and a unit refused at 940 s. -/
def wUnit (f : UpUnit → UpUnit) : State :=
  eng (fun e => { e with ups := modNth e.ups 15 (fun u => f { u with granted := [(9, 2000000)], sync := some ⟨0, 0, 0, 0, 0, some (999 * unitsPerSec)⟩ }) }) wInst

theorem test_grants_and_units : checks [
    clause wGrants (fun s => s.eng.ptp.clients[0]? == some aClient && aClient.grant s.core.tick 0 == some ⟨0, -7, 2000000, 1024000, 65535, none⟩)
      (.ptpMessageDue (.grant 0 0) []) (fun s t => beside s t && match t.eng.ptp.clients[0]? with
        | some d => d.same aClient && d.grants.any (fun h => h.type == 0 && h.due == 1024000 + 1000000000 / 128 && h.seq == 0)
        | none => false),
    clause wGrants (fun s => s.eng.ptpMaySend s.ctx 31 && s.eng.ptpRateOk s.ctx && bitOf (s.eng.nAt (Od.PTP_INST.mc_port_mask 31) (s.ctx.lin 0)) 31)
      (.ptpMessageDue (.multicast 31 31 true) []) (fun s t => tget t.eng.ptp.streams (streamKey 31 31 true) ==
        some ⟨1024000 + logTicks (s.eng.iAt (Od.PTP_INST.mc_log_announce 31) (s.ctx.lin 0)), 0⟩),
    clause wGrants (fun s => aClient.grants.any (fun g => g.type == 11 && g.expiry ≤ s.core.tick)) (.grantExpiry 0 11)
      (fun s t => up s t Od.PTP_STATUS.expired 64 && t.eng.ptp.clients.all (fun d => d.grants.all (fun g => g.type != 11))),
    clause (wUnit id) (fun s => s.eng.upOn 15 && (s.eng.up_ 15).holds s.core.tick 9 && (s.eng.up_ 15).nextReq ≤ s.core.tick && s.eng.ptpRateOk s.ctx)
      (.upstreamDelayReq 15 []) (fun s t => (t.eng.up_ 15).inFlight == some (0, none) && (t.eng.up_ 15).reqSeq == 1 && beside s t),
    clause (wUnit id) (fun s => s.eng.upDueTypes s.ctx 15 != [] && (s.eng.up_ 15).deniedAt == none) (.upstreamRenew 15 [])
      (fun _ t => (t.eng.up_ 15).sigSeq == 1 && t.eng.n (Od.PTP_UP_STATUS.state 15) == 1),
    clause (wUnit id) (fun s => s.eng.followLate s.ctx 15) (.followUpTimeout 15) (fun s t => (t.eng.up_ 15).sync == none && t.eng.od == s.eng.od),
    clause (wUnit (fun u => { u with deniedAt := some (940 * unitsPerSec) })) (fun s => s.ctx.passed (940 * unitsPerSec) (60 * unitsPerSec)) (.upstreamRetry 15)
      (fun _ t => (t.eng.up_ 15).deniedAt == none && t.eng.n (Od.PTP_UP_STATUS.state 15) == 1)] = true := by decide +kernel

/-! ## Reference inputs -/

/-- REFIN 7 qualifying, its last edge at 999 s; one fed by sibling 3, last heard at 997 s. -/
def wRefin : State := eng (fun e => { e with refins := modNth e.refins 7 (fun u => { u with prev := some (999 * unitsPerSec), restart := false }) })
  (put [(Od.REFIN_STATUS.state 7, 1), (Od.REFIN_CFG.enable 7, 1)] w0)
def wSibling : State := eng (fun e => { e with sibs := [(3, ⟨0, 0, 0, 997 * unitsPerSec⟩)] }) (put [(Od.REFIN_CFG.source 7, 1), (Od.REFIN_CFG.sibling 7, 3)] wRefin)

/-- A ZDA sentence that labels a UTC second of a device whose base offset is 37 s. -/
def aZda : Bytes := strBytes "$GPZDA,000000.00,02,01,1970,00,00*6A"
def wTod (rule : Int) : State := eng (fun e => { e with tod := { e.tod with lastEdge := some (1000 * unitsPerSec - unitsPerSec * 9 / 10), edges := 4 } })
  (put [(Od.TOD_IN.enable, 1), (Od.TOD_IN.edge_rule, rule)] w0)

theorem test_refin : checks [
    clause wRefin (fun s => s.eng.n (Od.REFIN_STATUS.state 7) != 0 && !(s.eng.refin 7).restart &&
        999 * unitsPerSec + s.eng.refinPeriod 7 ≤ 1000 * unitsPerSec + s.eng.n (Od.REFIN_QUAL.window 7)) (.refinCompareEdge 7 (1000 * unitsPerSec) false 0)
      (fun s t => up s t (Od.REFIN_STATUS.edges 7) 64 && t.eng.n (Od.REFIN_MEAS.tick 7) == s.core.tick && beside s t),
    clause (linAt 0 (1001 * unitsPerSec) wRefin) (fun s => s.eng.stuckDue s.ctx 7 && !bitOf (s.eng.n (Od.REFIN_STATUS.causes 7)) 0) (.refinStuck 7)
      (fun s t => bitOf (t.eng.n (Od.REFIN_STATUS.causes 7)) 0 && t.eng.n (Od.REFIN_STATUS.state 7) == 1 && t.eng.n (Od.REFIN_STATUS.last_fail_tick 7) == s.core.tick),
    clause wSibling (fun s => s.eng.sibStale s.ctx 7) (.siblingStale 7) (fun _ t => bitOf (t.eng.n (Od.REFIN_STATUS.causes 7)) 7),
    clause w0 (fun s => s.eng.admitsRec 0x20 0x117 (.member (Od.REFIN_QUAL.window_fine 7 % 16) (s.eng.i (Od.REFIN_QUAL.window 7))) 15)
      (.refinConfigWrite 7 true (.member (Od.REFIN_QUAL.window_fine 7 % 16) (w0.eng.i (Od.REFIN_QUAL.window 7))) 15)
      (fun s t => stored s t [(Od.REFIN_QUAL.window_fine 7, s.eng.i (Od.REFIN_QUAL.window 7))] && (t.eng.refin 7).restart),
    clause w0 (fun s => s.eng.admitsRec 0x20 0x107 (.member 9 63) 15 && (s.eng.setAll [(Od.REFIN_CFG.slot 7, 63)]).refinAllowed 7 &&
        !names [(Od.REFIN_CFG.slot 7, 63)] [Od.REFIN_CFG.sibling 7] && slotCheck (s.eng.setAll [(Od.REFIN_CFG.slot 7, 63)]).od (srcRefin 7) 63 == stOk)
      (.refinConfigWrite 7 false (.member 9 63) 15) (fun s t => accepted s t && t.eng.i (Od.REFIN_CFG.slot 7) == 63 && (t.eng.refin 7).restart)] = true := by
  decide +kernel

theorem test_time_of_day : checks [
    clause (wTod 0) (fun s => s.eng.b Od.TOD_IN.enable) (.todInMessage aZda true) (fun s t => up s t Od.TOD_STATUS.bad 32 && only s t),
    clause (wTod 0) (fun _ => nmeaFields (strBytes "$GPZDA*00") == none) (.todInMessage (strBytes "$GPZDA*00") false) (fun s t => up s t Od.TOD_STATUS.bad 32 && only s t),
    clause (wTod 1) (fun s => match nmeaFields aZda with
        | some fs => s.eng.n Od.TOD_IN.format != 1 && nmeaLabel fs == some ⟨86400, true, none, false⟩ && s.eng.labelTai ⟨86400, true, none, false⟩ == some (86437, false)
        | none => false) (.todInMessage aZda false) (fun s t => t.eng.tod.waiting == some (86437, s.ctx.lin 0) && t.eng.od == s.eng.od),
    clause (wTod 0) (fun s => s.eng.tod.lastEdge.isSome && s.ctx.lin 0 ≤ s.eng.tod.lastEdge.getD 0 + unitsPerSec * 9 / 10) (.todInMessage aZda false)
      (fun s t => t.eng.tod.label == some (86437, 4) && up s t Od.TOD_STATUS.good 32 && t.eng.n Od.TOD_STATUS.last_label == wtOf (86437 * secU))] = true := by
  decide +kernel

/-! ## GNSS -/

/-- Front end 1 tracks GPS; channel 127 below the mask, channel 5 excluded a minute ago, Galileo satellite 36 FAILED at 700 s. -/
def wGnss (st : Int) : State := eng (fun e => { e with gnss := { e.gnss with excluded := [(5, 940 * unitsPerSec)], failed := [(36, 700 * unitsPerSec)] } })
  (put [(Od.GNSS_FE_STATUS.state 1, st), (Od.GNSS_FE.enable 1, 1), (Od.GNSS_CHAN.state 0, 2), (Od.GNSS_CHAN.fe 0, 1), (Od.GNSS_CHAN.state 5, 3), (Od.GNSS_CHAN.fe 5, 1),
    (Od.GNSS_CHAN.state 127, 2), (Od.GNSS_CHAN.fe 127, 1), (Od.GNSS_CHAN.elevation 127, -1000), (Od.GNSS_GLOBAL.osnma_policy, 1), (Od.GNSS_OSNMA.merkle_root, 1),
    (Od.GNSS_FE.antenna_fault 1, 1)] w0)
def aHit : SearchHit := ⟨false, 0, 32, true, 4500, none, 0, 250⟩
def aBand : BandStats := ⟨List.replicate 16 1, List.replicate 16 1, false⟩

theorem test_gnss_channels : checks [
    clause (wGnss 3) (fun s => s.eng.feState 1 != 0) (.gnssSampleBlock 1 ⟨aBand, aBand, 7, 9, []⟩)
      (fun s t => t.eng.i (Od.GNSS_FE_STATUS.noise_floor 1) == (if s.eng.bandOn 1 0 then 7 else 9) && beside s t),
    clause (wGnss 2) (fun s => 2 ≤ s.eng.feState 1 && s.eng.hitOk s.ctx 1 aHit && ((List.range 128).filter (fun c => s.eng.chanOf 1 c)).length < s.eng.n (Od.GNSS_FE.channels_max 1) &&
        (List.range 128).find? (fun c => s.eng.n (Od.GNSS_CHAN.state c) == 0) == some 1) (.acquisitionDwell 1 [aHit])
      (fun s t => t.eng.n (Od.GNSS_CHAN.state 1) == 1 && t.eng.n (Od.GNSS_CHAN.fe 1) == 1 && t.eng.n (Od.GNSS_CHAN.prn 1) == 32 && only s t),
    clause (wGnss 3) (fun s => s.eng.n (Od.GNSS_CHAN.fe 0) < 2) (.checkChannelPass 0 3)
      (fun s t => t.eng.n (Od.GNSS_CHAN.state 0) == 0 && t.eng.n (Od.FLT_BLOCK.latch 10) == s.eng.n (Od.FLT_BLOCK.latch 10) ||| 2),
    clause (wGnss 3) (fun s => s.eng.releaseDue s.ctx 127) (.channelRelease 127) (fun _ t => t.eng.n (Od.GNSS_CHAN.state 127) == 0 && t.eng.n (Od.GNSS_CHAN.state 0) == 2),
    clause (wGnss 3) (fun s => s.ctx.passed (940 * unitsPerSec) (60 * unitsPerSec) && s.eng.n (Od.GNSS_CHAN.state 5) == 3) (.raimRejoin 5)
      (fun s t => t.eng.n (Od.GNSS_CHAN.state 5) == 2 && tget t.eng.gnss.excluded 5 == none && kept s t [Od.GNSS_CHAN.state 5]),
    clause (wGnss 3) (fun s => s.eng.gnss.fes.length == 2 && s.eng.b (Od.GNSS_FE.antenna_fault 1)) (.antennaFaultPin 1 true)
      (fun _ t => (t.eng.fe 1).antLow && bitOf (t.eng.n (Od.GNSS_FE_STATUS.causes 1)) 10)] = true := by decide +kernel

def anEpoch : GnssEpoch := ⟨true, 0, 0, none, [], none, 0, 0, 0, 0, 0, 0, 0, 0, 0, []⟩

theorem test_gnss_solutions : checks [
    clause (wGnss 2) (fun s => s.eng.feState 1 == 2 && (s.eng.fe 1).lastEpoch < s.eng.epochInstant s.ctx) (.gnssSolutionEpoch 1 anEpoch)
      (fun s t => (t.eng.fe 1).lastEpoch == s.eng.epochInstant s.ctx && bitOf (t.eng.n (Od.GNSS_FE_STATUS.causes 1)) 5),
    clause (wGnss 3) (fun s => s.eng.n Od.GNSS_GLOBAL.osnma_policy != 0 && s.eng.n Od.GNSS_OSNMA.merkle_root != 0) (.osnmaVerify (.publicKey true 257))
      (fun s t => t.eng.n Od.GNSS_OSNMA.key_type == 1 && only s t),
    clause (wGnss 3) (fun s => s.eng.up) (.osnmaVerify (.tag 1 true true)) (fun s t => up s t Od.GNSS_OSNMA.tags_ok 64 && only s t),
    clause (wGnss 3) (fun s => s.eng.up) (.osnmaVerify (.tag 1 false false)) (fun s t => up s t Od.GNSS_OSNMA.tags_failed 32 && tget t.eng.gnss.failed 1 == some (s.ctx.st 0)),
    clause (wGnss 3) (fun s => s.eng.failOver s.ctx 36) (.osnmaFailExpiry 36) (fun s t => tget t.eng.gnss.failed 36 == none && beside s t),
    clause (linAt 0 (3600 * unitsPerSec) w0) (fun s => s.ctx.passed s.eng.gnss.savedAt (3600 * unitsPerSec)) (.gnssStoreSave none)
      (fun s t => t.eng.gnss.savedAt == s.ctx.st 0 && t.eng.n Od.GNSS_STORE.last_save_tick == s.core.tick),
    clause w0 (fun s => s.eng.admits Od.GNSS_STORE.save 1 15) (.gnssStoreSave (some (1, 15))) (fun s t => accepted s t && t.eng.gnss.savedAt == s.ctx.st 0),
    clause w0 (fun s => s.eng.admitsRec 0x24 0x003 (.member 3 (-100)) 15) (.gnssHeldWrite (.member 3 (-100)) 15)
      (fun s t => accepted s t && t.eng.i Od.GNSS_HELD.height == -100 && t.eng.i Od.GNSS_HELD.origin == 2 && t.eng.i Od.GNSS_HELD.valid == 1),
    clause w0 (fun s => s.eng.admitsRec 0x24 0x001 (.member 7 (s.eng.i Od.GNSS_GLOBAL.cn0_min + 5)) 15 && bitOf (s.eng.n Od.GNSS_GLOBAL.systems) (s.eng.n Od.GNSS_GLOBAL.time_ref))
      (.gnssConfigWrite none (.member 7 (w0.eng.i Od.GNSS_GLOBAL.cn0_min + 5)) 15) (fun s t => stored s t [(Od.GNSS_GLOBAL.cn0_max, s.eng.i Od.GNSS_GLOBAL.cn0_min + 5)]),
    clause w0 (fun s => s.eng.admitsRec 0x24 0x011 (.member 9 100000) 15 && leverOk 100000 &&
        s.eng.n (Od.GNSS_FE.channels_max 0) + s.eng.n (Od.GNSS_FE.channels_max 1) ≤ 128 && slotCheck s.eng.od (srcGnss 1) (s.eng.n (Od.GNSS_FE.slot 1)) == stOk)
      (.gnssConfigWrite (some 1) (.member 9 100000) 15) (fun s t => accepted s t && t.eng.i (Od.GNSS_FE.lever_mm 1) == 100000)] = true := by decide +kernel

/-! ## Selection, steering and outputs -/

/-- Slot 63 last heard at 998 s, waiting to restore since 0 s, its path changed at 0 s; its last measurement and slot 0's. -/
def slotWas (u : SelSlot) : SelSlot :=
  { u with source := srcRefin 0, heard := 0, wait := some 0, asym := some ⟨1, 0, 0, 0, 0, false⟩, latest := some ⟨9, 0, 2 ^ 63 - 1, true, true, 0⟩, samples := [1] }
def wSlot : State :=
  put [(Od.SEL_SLOT_STATUS.state 63, 2), (Od.SEL_SLOT_STATUS.causes 63, (2 ^ cPath + 8 : Nat)), (Od.SEL_PRIO 0, 2 ^ 504)]
    (eng (fun e => { e with sel := { e.sel with
      slots := modNth (modNth e.sel.slots 0 (fun u => { u with latest := some ⟨5, 0, 1, true, true, 0⟩ })) 63 slotWas } }) w0)

theorem test_slots : checks [
    clause wSlot (fun s => s.eng.silentDue s.ctx 63) (.slotSilent 63) (fun _ t => bitOf (t.eng.n (Od.SEL_SLOT_STATUS.causes 63)) 6 && t.eng.n (Od.SEL_SLOT_STATUS.state 63) == 1),
    clause wSlot (fun s => s.eng.waitOver s.ctx 63) (.waitToRestoreEnd 63) (fun _ t => t.eng.n (Od.SEL_SLOT_STATUS.state 63) == 3 && (t.eng.slot 63).wait == none),
    clause wSlot (fun s => s.eng.asymDue s.ctx 63) (.asymEstimate 63) (fun s t => (t.eng.slot 63).asym.map (fun a => a.stage) == some 1 && t.eng.od == s.eng.od),
    clause wSlot (fun s => s.eng.sel.slots.length == 64 && (s.eng.slot 63).second < 1000) .stabilityUpdate (fun _ t => (t.eng.slot 63).second == 1000),
    clause wSlot (fun s => s.eng.admits (Od.SEL_SLOT_CMD 63) 1 15) (.acceptJump 63 15) (fun s t => accepted s t && !bitOf (t.eng.n (Od.SEL_SLOT_STATUS.causes 63)) 3),
    clause wSlot (fun s => s.eng.admits (Od.SEL_SLOT_CMD 63) 2 15 && s.eng.selState 63 == 2) (.clearWtr 63 15)
      (fun s t => accepted s t && t.eng.n (Od.SEL_SLOT_STATUS.state 63) == 3),
    clause wSlot (fun s => s.eng.admits (Od.SEL_SLOT_CMD 63) 3 15) (.resetStability 63 15) (fun s t => accepted s t && (t.eng.slot 63).samples == []),
    clause wSlot (fun s => s.eng.admits (Od.SEL_MOON.force 0) 63 15 && !s.eng.follows 0 && prioIn s.eng.od 0 63 != 0) (.selForceWrite 0 63 15)
      (fun s t => stored s t [(Od.SEL_MOON.force 0, 63)]),
    clause wSlot (fun s => prioIn s.eng.od 0 62 == 0) (.selForceWrite 0 62 15) (fun s t => refusedAs s t stNotListed),
    clause wSlot (fun s => s.eng.admitsRec 0x28 2 (.whole [63, 0]) 15) (.selPeekWrite (.whole [63, 0]) 15)
      (fun s t => accepted s t && t.eng.i Od.SEL_PEEK.ff == 2 ^ 63 - 2 && t.eng.i Od.SEL_PEEK.tick == 9 && only s t)] = true := by decide +kernel

theorem test_steering : checks [
    clause w0 (fun s => s.eng.admits (Od.STEER_MOON.mode 31) 1 15 && !s.eng.follows 31) (.steerModeWrite 31 1 15) (fun s t => wrote s t [(Od.STEER_MOON.mode 31, 1)]),
    clause (put [(Od.MOON_CONFIG.steer_source 31, 1)] w0) (fun s => s.eng.follows 31 && s.eng.admits (Od.STEER_MOON.mode 31) 1 15) (.steerModeWrite 31 1 15)
      (fun s t => refusedAs s t stMode),
    clause w0 (fun s => s.eng.admits (Od.STEER_CMD 31) 1 15 && s.eng.steer.length == 32) (.restart 31 1 15) (fun s t => accepted s t && (t.eng.unit 31).restart),
    clause (put [(Od.MOON_CONFIG.steer_source 31, 1)] w0) (fun s => s.eng.follows 31 && s.eng.admits (Od.STEER_CMD 31) 1 15) (.restart 31 1 15)
      (fun s t => refusedAs s t stMode),
    clause w0 (fun s => s.eng.admits Od.STEER_OSC.command 1 15) (.restartModel 1 15) (fun s t => accepted s t && t.eng.model.restart),
    clause w0 (fun s => s.eng.model.second < s.ctx.lin 0 / unitsPerSec && s.eng.model.sum.n == 0) .modelObservation
      (fun s t => t.eng.model.second == 1000 && t.eng.od == s.eng.od)] = true := by decide +kernel

/-- Synthesizer 3 on; pulse output 3 with an edge at 1 ms, which has come, and a message of the time-of-day output. -/
def wOut : State := eng (fun e => { e with outs := { e.outs with
    cfg := sset (sset e.outs.cfg (Od.SYNTH.enable 3) 1) (Od.PPSOUT.enable (e.outNat Od.TOD_OUT.ppsout)) 1,
    pps := modNth e.outs.pps 3 (fun u => { u with edges := [(2 ^ 48 * 1000000, true)], lastTick := some 999996 }), tod := some (5, [1], false) } })
  (put [(Od.SYNTH.locked 3, 1)] w0)

theorem test_outputs : checks [
    clause (put [(Od.SYNTH.locked 3, 0)] wOut) (fun s => s.eng.outCfg (Od.SYNTH.enable 3) != 0) (.synthLock 3) (fun s t => t.eng.i (Od.SYNTH.locked 3) == 1 && kept s t [Od.SYNTH.locked 3]),
    clause wOut (fun s => s.eng.b (Od.SYNTH.locked 3)) (.synthUnlock 3)
      (fun s t => t.eng.i (Od.SYNTH.locked 3) == 0 && t.eng.n (Od.FLT_BLOCK.latch 13) == s.eng.n (Od.FLT_BLOCK.latch 13) ||| 4),
    clause wOut (fun s => s.eng.placeAt (s.eng.launchOf s.ctx 3 (2 ^ 48 * 1000000)) == (1000000, 0) && !(s.eng.pps 3).level) (.ppsoutEdge 3 (-12))
      (fun s t => (t.eng.pps 3).edges == [] && (t.eng.pps 3).level && t.eng.out.contains (.pulse 3 1000000 0 true) && up s t (Od.PPSOUT.edges 3) 32 && t.eng.i (Od.PPSOUT.echo_last 3) == -12),
    clause wOut (fun s => !s.eng.ppsSquelched (s.eng.outNat Od.TOD_OUT.ppsout)) .todOutMessage
      (fun s t => t.eng.out == [.tod [1]] && t.eng.outs.tod == none && up s t Od.TOD_OUT_STATUS.sent 32),
    clause w0 (fun s => s.eng.admitsRec 0x18 0x043 (.member 5 6553600) 15 && s.eng.i (Od.PPSOUT.phase 3) < s.eng.i (Od.PPSOUT.period 3) && s.eng.outs.pps.length == 4)
      (.ppsoutConfigWrite 3 (.member 5 6553600) 15) (fun s t => stored s t [(Od.PPSOUT.width 3, 6553600)] && (t.eng.pps 3).rebuild)] = true := by decide +kernel

/-! ## The public-key engine -/

/-- Host slots 512 to 515 of one word, at words 0 to 3 of the host's region, holding 5, 9 and 11; host key 15 held. -/
def wPk : State := eng (fun e => { e with pk := { e.pk with mem := [(16384, 5), (16385, 9), (16386, 11)] } })
  (put ((List.range 4).flatMap (fun i => [(Od.PK_SLOT.base (512 + i), (i : Int)), (Od.PK_SLOT.length (512 + i), 1)]) ++
    [(Od.PK_KEY.type 15, 1)]) w0)

/-- MODADD of slots 512 and 513 modulo slot 514 into slot 515. -/
def aCmd : PkCmd := ⟨77, 515, 0xFFFF, [512, 513, 514, 0xFFFF, 0xFFFF, 0xFFFF, 0xFFFF], 0xFF, 0⟩
def aJob : PkJob := ⟨1, 3, 0, 0, aCmd⟩
def wQueued : State := eng (fun e => { e with pk := { e.pk with queues := [[], [], [], [aJob]] } }) wPk
def wRunning (executing : Bool) (cmd : PkCmd) : State :=
  eng (fun e => { e with pk := { e.pk with units := modNth e.pk.units 7 (fun u => { u with run := some ⟨{ aJob with cmd := cmd }, 0, executing⟩ }) } }) wPk

theorem test_pk_submit : checks [
    clause wPk (fun s => pkOf (.modadd 3 aCmd 15) == some (1, 3, aCmd, 15) && aCmd.src.length == 7 &&
        s.eng.admitsAll (recValues 0x50 0x020 (.whole (pkCmdValues 1 aCmd))) 15 && s.eng.pkCheck 3 1 aCmd == stOk && !s.eng.pk.full 3) (.modadd 3 aCmd 15)
      (fun s t => accepted s t && t.eng.pk.queue 3 == [⟨1, 3, s.eng.pk.seq, s.core.tick, aCmd⟩] && kept s t []),
    clause wPk (fun s => s.eng.pkCheck 3 1 { aCmd with dst0 := 516 } == stSlot) (.modadd 3 { aCmd with dst0 := 516 } 15)
      (fun s t => t.eng.resp.status == stSlot && t.eng.pk == s.eng.pk),
    clause (eng (fun e => { e with pk := { e.pk with queues := [[], [], [], List.replicate 64 aJob] } }) wPk) (fun s => s.eng.pk.full 3 && s.eng.pkCheck 3 1 aCmd == stOk)
      (.modadd 3 aCmd 15) (fun s t => t.eng.resp.status == stFull && t.eng.pk == s.eng.pk)] = true := by decide +kernel

theorem test_pk_runs : checks [
    clause wQueued (fun s => s.eng.pk.units.findIdx? (fun u => u.run.isNone && !u.out) == some 0 && s.eng.pkTurn == some 3 && s.eng.pk.queue 3 == [aJob]) .pkDispatch
      (fun s t => t.eng.pk.queue 3 == [] && (t.eng.pkRun 0).map (fun r => (r.job, r.at_)) == some (aJob, s.core.tick) && t.eng.od == s.eng.od),
    clause (wRunning false aCmd) (fun s => s.eng.pkValidate 1 aCmd == 0 && !pkDraws 1 && pkTicks (pkV 1 (s.eng.pkW 1 aCmd)) ≤ s.core.tick) (.pkValidationEnd 7)
      (fun s t => (t.eng.pkRun 7).map (fun r => r.executing) == some true && t.eng.od == s.eng.od),
    -- 11 is not below the modulus 9
    clause (wRunning false { aCmd with src := [514, 512, 513, 0xFFFF, 0xFFFF, 0xFFFF, 0xFFFF] })
      (fun s => s.eng.pkValidate 1 { aCmd with src := [514, 512, 513, 0xFFFF, 0xFFFF, 0xFFFF, 0xFFFF] } == 4) (.pkValidationEnd 7)
      (fun s t => t.eng.pkRun 7 == none && up s t (Od.PK_Q.refused 3) 64),
    -- 5 + 9 = 3 modulo 11
    clause (wRunning true aCmd) (fun s => s.eng.pkDests aJob == [515] && s.eng.pkResult aJob 0 0 == ⟨0, [3], none⟩ && pkTicks (s.eng.pkCycles aJob) ≤ s.core.tick &&
        !pkKeygen 1) (.pkComplete 7 .full)
      (fun s t => t.eng.pkRun 7 == none && t.eng.pkVal 515 == 3 && t.eng.i (Od.PK_SLOT.dirty 515) == 0 && up s t (Od.PK_Q.completed 3) 64),
    clause (wRunning true aCmd) (fun s => s.eng.pkDests aJob == [515]) (.pkComplete 7 (.fault 9))
      (fun s t => t.eng.pkRun 7 == none && t.eng.n (Od.FLT_BLOCK.latch 14) == s.eng.n (Od.FLT_BLOCK.latch 14) ||| 2),
    clause wQueued (fun s => s.eng.admits Od.PK_HOST_CTRL.abort 76 15 && s.eng.pk.jobs.filter (fun j => j.queue == 3 && j.cmd.tag == 76) == []) (.pkAbort 3 76 15)
      (fun s t => t.eng.pk == s.eng.pk && up s t (Od.PK_Q.abort_missed 3) 32),
    clause wQueued (fun s => s.eng.admits Od.PK_HOST_CTRL.abort 77 15 && s.eng.pk.jobs.filter (fun j => j.queue == 3 && j.cmd.tag == 77) == [aJob] &&
        s.eng.pk.units.all (fun p => p.run.isNone)) (.pkAbort 3 77 15) (fun s t => t.eng.pk.queue 3 == [] && up s t (Od.PK_Q.aborted 3) 64)] = true := by decide +kernel

theorem test_pk_slots : checks [
    clause (eng (fun e => { e with pk := { e.pk with done := [⟨1, 1, 0, 0, 0, 0⟩] } }) wPk) (fun s => s.eng.admits Od.PK_HOST_CTRL.pop 1 15) (.pkPop 1 15)
      (fun s t => accepted s t && t.eng.pk.done == []),
    clause wPk (fun s => s.eng.admits (Od.PK_KEY.command 15) 1 15 && !s.eng.pk.jobs.any (fun j => j.cmd.key == 15)) (.erase 15 15)
      (fun s t => stored s t [(Od.PK_KEY.type 15, 0), (Od.PK_KEY.public_ 15, 0)] && tget t.eng.pk.priv 15 == none),
    clause (wRunning true { aCmd with key := 15 }) (fun s => s.eng.pk.jobs.any (fun j => j.cmd.key == 15)) (.erase 15 15) (fun s t => refusedAs s t stInUse),
    clause wPk (fun s => s.eng.admits (Od.PK_KEY.command 7) 1 15) (.erase 7 15) (fun s t => refusedAs s t stDenied),
    clause wPk (fun s => s.eng.admitsRec 0x50 (0x400 + 959) (.whole [12160, 128]) 15 && (pkRegion 959).2.2 == 1 && !s.eng.pkInUse 959 && 12160 + 128 ≤ (pkRegion 959).2.1 &&
        (s.eng.pkRegionSlots 1).all (fun o => s.eng.n (Od.PK_SLOT.base o) + s.eng.pkLen o ≤ 12160)) (.pkSlotDefine false 959 (.whole [12160, 128]) 15)
      (fun s t => t.eng.i (Od.PK_SLOT.base 959) == 12160 && t.eng.i (Od.PK_SLOT.length 959) == 128 && only s t),
    clause wPk (fun s => s.eng.admits (Od.PK_DATA 515) (2 ^ 65 - 1) 15 && !s.eng.pkInUse 515) (.pkDataWrite false 515 (2 ^ 65 - 1) 15)
      (fun _ t => t.eng.pkVal 515 == 2 ^ 64 - 1 && t.eng.i (Od.PK_SLOT.dirty 515) == 0),
    clause wPk (fun _ => (pkRegion 515).2.2 == 1) (.pkDataWrite true 515 1 15) (fun s t => t.eng.pk == s.eng.pk)] = true := by decide +kernel

/-! ## The host interface -/

/-- Ring 127 of each direction runs with 256 entries, the link up; a held frame and posted buffers. -/
def wHost : State := eng (fun e => { e with
    irq := { e.irq with link := true }, rxRings := [(127, { RxRing.atReset with state := .running, prod := 3 })],
    txRings := [(127, { TxRing.atReset with state := .running, prod := 1 })],
    ports := modNth e.ports 31 (fun q => { q with rxHeld := [⟨127, padTo 60 [], 0, 0, 0, 0, .rule, none⟩] }) })
  (put [(Od.TX_RING_CFG.size_log2 127, 8), (Od.RX_RING_CFG.size_log2 127, 8), (Od.RX_RING_CFG.buf_size 127, 64)] wLink)
def aDesc (flags : Nat) : TxDesc := ⟨0, 7, 60, 9, 5, flags + 1, padTo 60 []⟩

theorem test_rings : checks [
    clause wHost (fun s => s.eng.admits (Od.TX_RING_CFG.enable 0) 1 15 && s.eng.ringOk true 0 && (s.eng.txRing 0).state == .disabled) (.ringEnable true 0 15)
      (fun s t => stored s t [(Od.TX_RING_CFG.enable 0, 1)] && (t.eng.txRing 0).state == .running),
    clause wHost (fun s => s.eng.admits (Od.RX_RING_CFG.enable 127) 0 15 && !s.eng.fwRing 127) (.ringDisable false 127 [] 15)
      (fun s t => accepted s t && (t.eng.rxRing 127).state == .disabled),
    clause wHost (fun s => prodOk 256 1 0 256 && s.eng.irq.link) (.doorbellProd true 127 256) (fun s t => (t.eng.txRing 127).prod == 256 && t.eng.od == s.eng.od),
    clause wHost (fun _ => !prodOk 256 1 0 257) (.doorbellProd true 127 257) (fun s t => t.eng.txRing 127 == s.eng.txRing 127 && up s t (Od.TX_RING_STATUS.doorbell_err 127) 32),
    clause wHost (fun s => prodOk 256 3 0 256 && !s.eng.fwRing 127) (.doorbellProd false 127 256) (fun _ t => (t.eng.rxRing 127).prod == 256),
    clause wHost (fun _ => !prodOk 256 3 0 2) (.doorbellProd false 127 2) (fun s t => t.eng.rxRing 127 == s.eng.rxRing 127 && up s t (Od.RX_RING_STATUS.doorbell_err 127) 32),
    clause wHost (fun s => s.eng.irq.link) (.doorbellAck true 127 1) (fun _ t => (t.eng.txRing 127).ack == 1),
    clause wHost (fun s => s.eng.irq.link) (.doorbellAck false 127 1) (fun _ t => (t.eng.rxRing 127).ack == 1),
    clause wHost (fun s => (s.eng.port 31).rxHeld.length == 1 && (s.eng.rxRing 127).state == .running && !s.eng.fwRing 127) (.rxFrameDeliver 31 [64])
      (fun s t => (t.eng.port 31).rxHeld == [] && (t.eng.rxRing 127).cons == 1 && up s t (Od.RX_RING_STATUS.frames 127) 64),
    clause wHost (fun s => s.eng.txReject [aDesc 2] 0 true (txBytes [aDesc 2]) == none) (.txDescTake 127 [aDesc 2] false)
      (fun s t => (t.eng.txRing 127).launch == some ⟨0, padTo 60 [], 7, 9, 5, 0, none⟩ && (t.eng.txRing 127).taken == 1 && t.eng.od == s.eng.od),
    clause wHost (fun s => s.eng.txReject [aDesc 0] 0 false (txBytes [aDesc 0]) == none) (.txDescTake 127 [aDesc 0] false)
      (fun _ t => (t.eng.txRing 127).waiting.map (fun w => (w.1, w.2.1, w.2.2.bytes)) == [(0, 0, padTo 60 [])]),
    clause wHost (fun s => s.eng.up) (.txDescTake 127 [aDesc 0] true)
      (fun s t => (t.eng.txRing 127).state == .stopped && t.eng.n (Od.FLT_BLOCK.latch 15) == s.eng.n (Od.FLT_BLOCK.latch 15) ||| 4),
    clause wHost (fun s => (s.eng.txRing 127).prod != (s.eng.txRing 127).taken) (.dmaTimeout true 127) (fun _ t => (t.eng.txRing 127).state == .stopped && (t.eng.txRing 127).err == 1),
    clause wHost (fun s => (s.eng.rxRing 127).prod != (s.eng.rxRing 127).cons) (.dmaTimeout false 127)
      (fun _ t => (t.eng.rxRing 127).state == .stopped && (t.eng.rxRing 127).err == 1)] = true := by decide +kernel

/-- Source 224 waits for vector 63, armed; a Tail entry and its overflow; a window request of one byte. -/
def wVec (masked : Nat) : State := eng (fun e => { e with
    irq := { e.irq with latched := 2 ^ 224, armed := 2 ^ 63, masked := masked },
    tails := modNth e.tails 31 (fun q => { q with entries := [⟨0, 0, 0, 0, 0, 0, 0, 0, false, false⟩], overflow := true, overflowTick := 7 }),
    wins := modNth e.wins 7 (fun w => { w with reqLen := 1, request := [9] }) })
  (put [(Od.IRQ_ROUTE.vector 224, 63), (Od.HOST_DICT.enable, 1)] wHost)

/-- No vector is pending: no source of any is. -/
theorem test_no_vector_pending : ∀ v : Fin 64, wHost.eng.vecPending v = false := by
  have h : ∀ i : Fin 231, wHost.eng.irqPending i = false := by decide +kernel
  intro v
  simp only [Eng.vecPending, List.any_eq_false, List.mem_range]
  intro i hi
  have := h ⟨i, hi⟩
  simp_all

theorem test_host : checks [
    clause (eng (fun e => { e with irq := { e.irq with link := false } }) wHost) (fun s => s.eng.up) (.pcieLinkUp 16 32)
      (fun _ t => t.eng.irq.link && t.eng.n Od.HOST_STATUS.link_width == 8 && t.eng.n Od.HOST_STATUS.link_rate_gts == 32),
    clause (wVec 0) (fun s => s.eng.vecPending 63 && s.eng.vecReady s.ctx 63) (.vecHoldoffEnd 63) (fun _ t => t.eng.out == [.msix 63] && !bitOf t.eng.irq.armed 63),
    clause (wVec (2 ^ 63)) (fun s => s.eng.vecReady s.ctx 63) (.vecHoldoffEnd 63) (fun _ t => t.eng.out == [] && bitOf t.eng.irq.pba 63),
    clause wHost (fun s => s.eng.irq.link) (.msixMaskWrite 63 true) (fun _ t => bitOf t.eng.irq.masked 63),
    clause (wVec 0) (fun s => s.eng.admits Od.HOST_IRQ_PENDING (2 ^ 224) 15 && s.eng.irq.latchTick.all (fun p => p.2 != s.core.tick)) (.irqPendingClear (2 ^ 224) 15)
      (fun s t => accepted s t && t.eng.irq.latched == 0),
    clause (wVec 0) (fun s => s.eng.irq.link) (.tailPop 31 1) (fun _ t => (t.eng.tail 31).entries == []),
    clause (wVec 0) (fun s => (s.eng.tail 31).overflowTick != s.core.tick) (.tailOverflowClear 31) (fun _ t => !(t.eng.tail 31).overflow && (t.eng.tail 31).entries.length == 1),
    clause wHost (fun s => (s.eng.win 7).state != 1 && s.eng.wins.length == 8) (.windowRequestWrite 7 (.reqLen 65537)) (fun _ t => (t.eng.win 7).reqLen == 1),
    clause (after (.windowDoorbell 7 1) (wVec 0)) (fun s => (s.eng.win 7).state == 1) (.windowRequestWrite 7 (.reqLen 2))
      (fun s t => t.eng.wins == s.eng.wins && up s t Od.HOST_STATUS.window_err 32),
    clause (wVec 0) (fun s => s.eng.b Od.HOST_DICT.enable && s.eng.boot.creds) (.windowDoorbell 7 1)
      (fun s t => (t.eng.win 7).state == 1 && t.eng.inbox.map (fun a => (a.path, a.tick, a.bytes)) == [(.window 7, s.core.tick, [9])]),
    clause (put [(Od.HOST_DICT.enable, 0)] (wVec 0)) (fun s => (s.eng.win 7).state != 1) (.windowDoorbell 7 1)
      (fun _ t => (t.eng.win 7).state == 3 && (t.eng.win 7).cause == 6)] = true := by decide +kernel

/-! ## Counters -/

/-- Event 0 has been counted five times, its wrap bit stands; users may see pages 0 and 49. -/
def wCount : State := eng (fun e => { e with ctr := { e.ctr with ev := [(0, ⟨5, 0, 0⟩)], wrap := [(0, 3)], win := [(63, ⟨9, 0, 0⟩)] } })
  (put [(Od.CNT_USER.mask, 2 ^ 49 + 1), (Od.CNT_OCC.peak 15, 3)] wHost)

theorem test_counters : checks [
    clause wCount (fun s => s.eng.irq.link) (.counterPageSnap 50)
      (fun s t => (tget t.eng.ctr.pages 50).map (fun q => (q.sequence, q.tick)) == some (1, s.core.tick) && t.eng.irq.latched == 2 ^ 227),
    clause wCount (fun s => s.eng.irq.link) (.wrapClear 0 1) (fun s t => t.eng.pageWrap 0 == 2 && t.eng.od == s.eng.od),
    clause wCount (fun s => s.eng.admits Od.CNT_CTRL.snap_mask (2 ^ 50 + 1) 15) (.snapMaskWrite (2 ^ 50 + 1) 15)
      (fun s t => accepted s t && (tgetD t.eng.ctr.pages 0 PageSnap.zero).values.head? == some 5 && (tgetD t.eng.ctr.pages 50 PageSnap.zero).sequence == 1),
    clause wCount (fun s => s.eng.admits (Od.CNT_WIN.close 63) 1 15 && s.eng.n (Od.CNT_WIN.windows 63) == 0) (.cntWinClose 63 1 15)
      (fun s t => accepted s t && t.eng.n (Od.CNT_WIN.last 63) == 9 && t.eng.n (Od.CNT_WIN.close_tick 63) == s.core.tick && up s t (Od.CNT_WIN.windows 63) 32),
    clause wCount (fun s => s.eng.admits (Od.CNT_WIN.event 63) 0xBFF 15) (.cntWinEventWrite 63 0xBFF 15) (fun s t => stored s t [(Od.CNT_WIN.event 63, 0xBFF)]),
    clause wCount (fun s => s.eng.admits (Od.CNT_WIN.event 63) 0xC00 15) (.cntWinEventWrite 63 0xC00 15) (fun s t => refusedAs s t stRange),
    clause (put [(Od.CNT_OCC.source 15, 1), (Od.CNT_OCC.instance_ 15, 15)] wCount) (fun s => s.eng.admits (Od.CNT_OCC.threshold 15) 64 15 &&
        occRange (s.eng.n (Od.CNT_OCC.source 15)) == some (16, 64) && s.eng.n (Od.CNT_OCC.instance_ 15) < 16)
      (.cntOccWrite 15 (.member (Od.CNT_OCC.threshold 15 % 16) 64) 15) (fun s t => accepted s t && t.eng.i (Od.CNT_OCC.threshold 15) == 64),
    clause wCount (fun s => s.eng.admits (Od.CNT_OCC.peak_clear 15) 1 15) (.peakClear 15 1 15) (fun s t => wrote s t [(Od.CNT_OCC.peak 15, 0)]),
    clause wCount (fun s => bitOf (s.eng.n Od.CNT_USER.mask) 49) (.userViewSnap 49) (fun s t => (tgetD t.eng.ctr.views 49 PageSnap.zero).sequence == 1 && t.eng.od == s.eng.od),
    clause (after (.userViewSnap 0) wCount) (fun s => s.eng.admits Od.CNT_USER.mask (2 ^ 49) 15 && bitOf (s.eng.n Od.CNT_USER.mask) 0) (.cntUserMaskWrite (2 ^ 49) 15)
      (fun s t => stored s t [(Od.CNT_USER.mask, 2 ^ 49)] && (tgetD t.eng.ctr.views 0 PageSnap.zero).values == [])] = true := by decide +kernel

/-! ## The dictionary and the front end -/

/-- The object LEAP_BASE by its item and member. -/
def kLeap : Nat := Od.LEAP_BASE % 65536

/-- A write of LEAP_BASE waits at the queue's head. -/
def wWrite (n : Nat) : State :=
  eng (fun e => { e with front := { e.front with queue := List.replicate n ⟨none, Od.LEAP_BASE, 0, [36, 0], 15, none, 1000 * unitsPerSec⟩ } }) w0

theorem test_dictionary : checks [
    clause w0 (fun s => s.eng.judgeRead Od.LEAP_BASE 0 2 15 == stOk && !(objRows Od.LEAP_BASE).any (fun r => r.fw)) (.read 0x10 kLeap 0 2 15)
      (fun s t => t.eng.resp == ⟨stOk, s.core.tick, 0, [37, 0]⟩ && beside s t),
    clause w0 (fun s => s.eng.judgeRead Od.LOG.count 0 8 15 == stOk && (objRows Od.LOG.count).any (fun r => r.fw) && s.eng.front.fwQueue.length < 16)
      (.read (Od.LOG.count / 65536) (Od.LOG.count % 65536) 0 8 15) (fun s t => t.eng.front.fwQueue == [⟨none, Od.LOG.count, 0, 8, none⟩] && beside s t),
    clause w0 (fun s => s.eng.judgeRead Od.LEAP_BASE 0 2 0 != stOk) (.read 0x10 kLeap 0 2 0) (fun s t => t.eng.resp.status == stDenied && t.eng.resp.data == [] && only s t),
    clause (wWrite 63) (fun s => s.eng.judgeWrite Od.LEAP_BASE 0 [36, 0] 15 == stOk && s.eng.front.queue.length < 64) (.write 0x10 kLeap 0 [36, 0] 15)
      (fun s t => t.eng.front.queue.length == 64 && t.eng.front.queue.getLast? == some ⟨none, Od.LEAP_BASE, 0, [36, 0], 15, none, s.ctx.st 0⟩ && beside s t),
    clause (wWrite 64) (fun s => 64 ≤ s.eng.front.queue.length) (.write 0x10 kLeap 0 [36, 0] 15) (fun s t => t.eng.resp.status == stBusy && t.eng.front == s.eng.front),
    clause w0 (fun s => s.eng.judgeBytes (odKey 0x14 0x400 0) (timedEntry Od.LEAP_BASE (leBytes 12 0 ++ [36, 0])) 15 == stOk) (.timedWrite 0x10 kLeap (leBytes 12 0 ++ [36, 0]) 15)
      (fun s t => t.eng.front.queue == [⟨none, odKey 0x14 0x400 0, 0, timedEntry Od.LEAP_BASE (leBytes 12 0 ++ [36, 0]), 15, none, s.ctx.st 0⟩]),
    clause (wWrite 1) (fun s => let a := (s.eng0.popWrite s.ctx []).applyQueued s.ctx ⟨none, Od.LEAP_BASE, 0, [36, 0], 15, none, 1000 * unitsPerSec⟩
        s.eng.served && !a.2.boot.warmAsked && a.2.boot.rollbackTo == none && a.1 == stOk) .writeQueueDrain
      (fun _ t => t.eng.resp.status == stOk && t.eng.front.queue == [] && t.eng.i Od.LEAP_BASE == 36),
    clause w0 (fun s => let a := s.eng0.step8Bytes s.ctx Od.LEAP_BASE [36, 0] 15
        objSize Od.LEAP_BASE ≤ 1024 && s.eng.judgeBytes Od.LEAP_BASE [36, 0] 15 == stOk && !a.2.boot.warmAsked && a.2.boot.rollbackTo == none)
      (.dictObjectWrite 0x10 kLeap [36, 0] 15) (fun s t => accepted s t && t.eng.i Od.LEAP_BASE == 36),
    clause w0 (fun s => s.eng.judgeBytes Od.LEAP_BASE [36] 15 == stSize && !s.eng.boot.warmAsked && s.eng.boot.rollbackTo == none) (.dictObjectWrite 0x10 kLeap [36] 15)
      (fun s t => refusedAs s t stSize)] = true := by decide +kernel

/-- A request of one read, with its counter and tag under a key; one of a wrong version; and a publication of member 15. -/
def aKey : Bytes := List.replicate 32 7
def aPdu : Bytes :=
  let body : Bytes := [1, 0, 40, 0] ++ leBytes 8 0 ++ leBytes 4 1 ++ [1, 0x10] ++ leBytes 2 kLeap ++ [0, 0, 2, 0]
  body ++ (hmacSha256 aKey body).take 16
def aPublication : Bytes :=
  let body : Bytes := [1, 2, 56, 0] ++ leBytes 8 0 ++ leBytes 4 9 ++ [15, 2, 0, 4] ++ leBytes 4 0 ++ leBytes 8 1000 ++ leBytes 8 0
  body ++ (hmacSha256 aKey body).take 16
def wInbox (bytes : Bytes) : State := eng (fun e => { e with inbox := [⟨.segment 5, 1024000, bytes, some (31, 15, aKey)⟩] }) w0

/-- A part of the image staged at 990 s; a response of credential 31 held since 998 s; a read that waits for firmware. -/
def wStage : State := eng (fun e => { e with front := { e.front with
  stages := [(Od.FW_IMAGE.data, ⟨0, [], 990 * unitsPerSec⟩)]
  creds := modNth e.front.creds 31 (fun c => { c with held := [⟨0, 0, 998 * unitsPerSec, []⟩] })
  fwQueue := [⟨none, Od.LEAP_BASE, 0, 2, none⟩] } }) w0

theorem test_requests : checks [
    clause (wInbox [1]) (fun s => s.eng.nextArrival.map (fun p => p.1) == some 0 && pduOf (.segment 5) [1] == none) .lanithRequest (fun s t => t.eng.inbox == [] && once s t 0xB0A),
    clause (wInbox aPdu) (fun s => pduOf (.segment 5) (padTo 46 aPdu) == some aPdu && (requestOps aPdu).isSome && tagOk aPdu aKey && (s.eng.credUnit 31).h == 0) .lanithRequest
      (fun s t => t.eng.inbox == [] && t.eng.n (Od.CRED.last_use_tick 31) == s.core.tick && beside s t),
    clause wStage (fun s => s.ctx.passed (990 * unitsPerSec) tenSeconds && s.eng.front.queue == []) (.partStagingTimeout (Od.FW_IMAGE.data / 65536) (Od.FW_IMAGE.data % 65536))
      (fun s t => t.eng.front.stages == [] && t.eng.od == s.eng.od),
    clause wStage (fun s => s.eng.up) (.responseHoldExpiry 31) (fun _ t => (t.eng.credUnit 31).held == []),
    clause wStage (fun s => s.eng.served) .fwReadDone (fun s t => t.eng.front.fwQueue == [] && t.eng.resp == ⟨stOk, s.core.tick, 0, [37, 0]⟩)] = true := by decide +kernel

/-- A SAVE in progress to copy B. -/
def wSaving : State := eng (fun e => { e with front := { e.front with save := some ⟨[(Od.LEAP_BASE, 36)], 1, 1, 4⟩ } }) w0

theorem test_credentials_and_store : checks [
    clause w0 (fun s => let f := s.eng.setAll [(Od.CRED.key 31, 5)]
        s.eng.admitsRec 0x60 0x02F (.member 4 5) 15 && !credClash f.od 31 && !f.b (Od.CRED.enable 31) && hasKeyholder f.od) (.credWrite 31 (.member 4 5) 15)
      (fun s t => stored s t [(Od.CRED.key 31, 5)] && t.eng.keyWait.since.isSome),
    clause w0 (fun s => s.eng.admits Od.STORE.command 1 15 && s.eng.front.save == none) (.save 15)
      (fun s t => accepted s t && (t.eng.front.save.map (fun r => (r.values, r.tick)) == some (s.eng.persistent, s.core.tick))),
    clause wSaving (fun s => s.eng.front.save.isSome) (.save 15) (fun s t => refusedAs s t stSaving),
    clause w0 (fun s => s.eng.admits Od.STORE.command 2 15) (.factoryDefaults 15) (fun s t => accepted s t && t.eng.flash.stores.all (fun c => !c.valid)),
    clause wSaving (fun s => s.eng.front.save.isSome) (.storeSaveDone true) (fun _ t => t.eng.front.save == none && t.eng.front.lastCopy == some 1 &&
      t.eng.flash.stores.getD 1 ⟨false, 0, []⟩ == ⟨true, 4, [(Od.LEAP_BASE, 36)]⟩ && t.eng.i Od.STORE.last_result == 1 && t.eng.n Od.STORE.generation == 4),
    clause wSaving (fun s => s.eng.front.save.isSome) (.storeSaveDone false) (fun s t => t.eng.i Od.STORE.last_result == 2 &&
      t.eng.n (Od.FLT_BLOCK.latch 16) == s.eng.n (Od.FLT_BLOCK.latch 16) ||| 8),
    [w0].all (fun s => s.eng.admits Od.DESC.chunk_index 0 15),
    clause w0 (fun s => s.eng.fwRuns && s.eng.n Od.MGMT_LOAD.log_delay_pct ≤ 101 && s.eng.n Od.MGMT_LOAD.stage ≤ 2) (.loadWindow 101)
      (fun _ t => t.eng.n Od.MGMT_LOAD.util_pct == 100 && t.eng.n Od.MGMT_LOAD.stage == 2 && t.eng.i Od.NTS_KE_STATUS.shedding == 1)] = true := by decide +kernel

/-! ## The management segment -/

/-- A frame is on the wire since a tick, with collisions so far; and a boundary tick at which a publication is due. -/
def wSending (since n : Nat) (backoff : Option Nat) : State :=
  eng (fun e => { e with seg := { e.seg with sending := some (since, [1]), collisions := n, backoff := backoff } }) w0
def wPublish : State := eng (fun e => { e with lastBoundary := 1 }) (tickAt (2 ^ 20) w0)

theorem test_segment : checks [
    clause w0 (fun s => s.eng.seg.link && beAt (beBytes 14 0) 12 2 != s.eng.n Od.SEG.ethertype) (.segmentFrameRx (beBytes 14 0)) (fun s t => once s t 0xB00 && once s t 0xB06),
    clause w0 (fun s => s.eng.boot.creds) (.segmentFrameRx (beBytes 6 w0.ctx.segMac ++ beBytes 6 9 ++ beBytes 2 (w0.eng.n Od.SEG.ethertype) ++ [1, 0]))
      (fun _ t => t.eng.inbox.map (fun a => (a.path, a.bytes)) == [(.segment 9, [1, 0])]),
    clause (wInbox [1, 2]) (fun s => s.eng.nextPub.isSome && pduOf (.segment 5) [1, 2] == none) .publishRx (fun s t => t.eng.inbox == [] && once s t 0xB0A),
    clause (wInbox aPublication) (fun s => pduOf (.segment 5) aPublication == some aPublication && tagOk aPublication aKey && s.eng.n Od.SEG.member != 15 && s.eng.pubAhead s.ctx 15 9)
      .publishRx (fun s t => t.eng.inbox == [] && tget t.eng.sibs 15 == some ⟨2, 1000, 4, s.ctx.st 0⟩ && once s t 0xB0C),
    [wPublish].all (fun s => s.eng.pubDue s.ctx && s.eng.b Od.SEG.publish && s.eng.pubCred == some 0 && s.eng.seg.tx.length < 32 && !s.eng.boot.recovery),
    clause (wSending (1024000 - 51200) 14 none) (fun s => !s.eng.b Od.SEG.plca_enable) .collision
      (fun s t => t.eng.seg.collisions == 15 && once s t 0xB02),
    clause (wSending (1024000 - 51201) 0 none) (fun s => s.eng.seg.backoff == none) .collision (fun s t => t.eng.seg.sending == none && once s t 0xB04),
    clause (wSending 0 1 (some 1024000)) (fun s => s.eng.seg.sending.isSome) .backoffEnd (fun s t => t.eng.seg.sending == some (s.core.tick, [1]) && t.eng.seg.backoff == none),
    clause (eng (fun e => { e with seg := { e.seg with txFirst := [[1]] } }) (put [(Od.SEG.plca_enable, 1)] w0)) (fun s => s.eng.n Od.SEG.plca_node_id < 16 && s.eng.seg.link)
      .plcaTxOpportunity (fun s t => t.eng.seg.txFirst == [] && t.eng.seg.sending == some (s.core.tick, s.eng.segFrame s.ctx stationMac [1])),
    clause w0 (fun s => s.eng.up) .segmentLinkLoss (fun _ t => !t.eng.seg.link && t.eng.hasCond 16 2 0),
    clause (after .segmentLinkLoss w0) (fun s => s.eng.hasCond 16 2 0) .segmentLinkUp (fun _ t => t.eng.seg.link && !t.eng.hasCond 16 2 0)] = true := by decide +kernel

/-! ## Faults and Eclipse -/

/-- A test window open to 1,001 s; a scrub of the packet memory begun at 992 s. -/
def wTest (until_ : Nat) : State := eng (fun e => { e with flt := { e.flt with testEnd := some (until_ * unitsPerSec), scrubs := [(11, ⟨0, 992 * unitsPerSec, 3, false⟩)] } }) w0

theorem test_faults : checks [
    clause w0 (fun s => s.eng.admits (Od.FLT_BLOCK.force 23) 0x38 15) (.faultForce 23 0x38 15)
      (fun s t => accepted s t && t.eng.n (Od.FLT_BLOCK.latch 23) == s.eng.n (Od.FLT_BLOCK.latch 23) ||| 8),
    clause (wTest 1001) (fun s => s.eng.admits (Od.FLT_BLOCK.force 0) 0x1F 15 && s.eng.testOpen s.ctx) (.faultForce 0 0x1F 15) (fun s t => accepted s t && t.eng.n (Od.FLT_BLOCK.latch 0) == 15),
    clause w0 (fun s => s.eng.admits (Od.FLT_BLOCK.force 0) 0x21 15 && !s.eng.testOpen s.ctx) (.faultForce 0 0x21 15) (fun s t => turnedAway s t stMode [Od.FLT_BLOCK.latch 0]),
    clause (put [(odKey 0x70 (0x140 + 23) 11, 1), (Od.FLT_BLOCK.latch 23, 6)] w0) (fun s => s.eng.admits (Od.FLT_BLOCK.rearm 23) 1 15 && s.eng.recent s.ctx == []) (.faultRearm 23 1 15)
      (fun s t => accepted s t && t.eng.i (odKey 0x70 (0x140 + 23) 11) == 0),
    clause (put [(Od.FLT_BLOCK.latch 23, 6)] w0) (fun s => s.eng.admits (Od.FLT_BLOCK.latch 23) 4 15) (.faultLatchClear 23 4 15) (fun s t => wrote s t [(Od.FLT_BLOCK.latch 23, 2)]),
    clause w0 (fun s => s.eng.admits Od.FLT_TEST.open_s 600 15) (.testWindowOpen 600 15) (fun s t => accepted s t && t.eng.flt.testEnd == some (1600 * unitsPerSec)),
    clause (wTest 1001) (fun s => s.eng.admits Od.FLT_TEST.close 1 15) (.testWindowClose 1 15) (fun s t => accepted s t && t.eng.flt.testEnd == none),
    clause (wTest 1000) (fun s => s.eng.testOver s.ctx) .testWindowExpiry (fun s t => t.eng.flt.testEnd == none && t.eng.od == s.eng.od),
    clause w0 (fun s => s.eng.b Od.FLT_GLOBAL.selfcheck_enable && faultRows.any (fun q => q.block == 23 && q.row == 1)) (.selfcheckPass [⟨23, [1]⟩])
      (fun s t => up s t (Od.FLT_BLOCK.checker_fail 23) 32 && bitOf (t.eng.n (Od.FLT_BLOCK.latch 23)) (faultRow 23 1).src),
    clause (wTest 1001) (fun s => s.eng.b Od.FLT_GLOBAL.scrub_enable && (tget s.eng.flt.scrubs (eccMemoryCode .packet)).isSome) (.scrubRead .packet false none)
      (fun s t => tget t.eng.flt.scrubs 11 == some ⟨0, 992 * unitsPerSec, 4, false⟩ && t.eng.od == s.eng.od),
    clause (wTest 1001) (fun s => s.eng.b Od.FLT_GLOBAL.scrub_enable) (.scrubRead .packet true none) (fun s t => tget t.eng.flt.scrubs 11 == some ⟨s.core.tick, s.ctx.st 0, 0, false⟩),
    clause (wTest 1001) (fun s => s.eng.scrubLate s.ctx .packet) (.scrubOverrun .packet) (fun s t => t.eng.n (Od.FLT_BLOCK.latch 23) == s.eng.n (Od.FLT_BLOCK.latch 23) ||| 4)] = true := by
  decide +kernel

/-- Eight ticks after a rail change; and a linger that ends now. -/
def wRail : State := tickAt 1024008 (after .eclipseRailChange w0)
def wLinger : State := eng (fun e => { e with flt := { e.flt with eclipse := true, lingering := true, lingerEnd := 1024000 } }) w0

theorem test_eclipse : checks [
    clause w0 (fun s => !s.eng.flt.eclipse && s.eng.flt.rail == none) .eclipseRailChange
      (fun s t => t.eng.flt.rail == some ⟨s.core.tick, s.ctx.st 0, .rail, 0, 0xFF, 0xFF, 0⟩ && t.eng.od == s.eng.od),
    clause wRail (fun s => s.eng.flt.rail.map (fun r => (r.tick + 8, r.noLinger)) == some (s.core.tick, true)) .eclipseEntry (fun s t => t.eng.flt.eclipse && !t.eng.flt.lingering &&
      t.eng.i Od.FLT_ECLIPSE.valid == 1 && t.eng.n Od.FLT_ECLIPSE.detect_tick == 1024000 && t.eng.n Od.FLT_ECLIPSE.entry_tick == s.core.tick &&
      !t.eng.pins.eclipseN && !t.eng.pins.timeOk && t.eng.front.queue == []),
    clause (tickAt 1024007 (after .eclipseRailChange w0)) (fun s => s.eng.flt.rail.isSome) .eclipseEntry (fun _ t => !t.eng.flt.eclipse),
    clause wLinger (fun s => s.eng.lingerDue s.ctx) .lingerEnd (fun _ t => !t.eng.flt.lingering)] = true := by decide +kernel

/-! ## The manual's worked examples -/

/-- The example under R11: one part in a million is this many increment units. -/
theorem test_example_increment : checks [
    incOf (fxOf 1 1000000) == 0x000100_0010C6F7A1] = true := by decide +kernel

/-- The leap of 2031-01-01: p, the smear window, and both labels at a quarter of it, at p and at its end (R55, R56). -/
theorem test_example_smear :
    let l : Leap := ⟨1924992000, 37, 1⟩
    checks [
    l.switchAt == 1924992037 * secU, l.smearStart == 1924948837 * secU, l.smearEnd == 1925035237 * secU,
    labelAt 2 37 [l] (1924970437 * secU) == 1924970399 * secU + secU * 3 / 4, labelAt 1 37 [l] (1924970437 * secU) == 1924970400 * secU,
    labelAt 2 37 [l] (1924992037 * secU) == 1924991999 * secU + secU / 2, labelAt 1 37 [l] (1924992037 * secU) == 1924991999 * secU,
    inLeapAt [l] (1924992037 * secU), labelAt 2 37 [l] (1925035237 * secU) == 1925035199 * secU,
    labelAt 1 37 [l] (1925035237 * secU) == 1925035199 * secU] = true := by decide +kernel

/-- The step of −150 µs: refused with no consent, admitted under one of 200 µs, and not under a jump limit alone (R46, R47). -/
theorem test_example_jump : checks [
    stepOutcome w0.ctx false false false 65536000 0 (-9830400000) == .refused,
    stepOutcome w0.ctx false false true 65536000 13107200000 (-9830400000) == .consented] = true := by decide +kernel

/-- The receive timestamp example (R113): L_rx is 3,076,836 units. -/
theorem test_example_receive_timestamp :
    let s := eng (fun e => { e with lanes := List.replicate 32 { LaneUnit.atReset with
      prev := ⟨4063, 2720, 133530, 511, 0, 0, 0, 0⟩, live := ⟨4063, 2720, 133530, 511, 0, 0, 0, 0⟩ } }) w0
    checks [s.eng.rxStamp ⟨0, [], false, 0, 0, 0, ns16 412007318 + 16384, 2, 125829, 2516582 + 293601⟩ ==
      ns16 412007271 + 19740] = true := by decide +kernel

/-- The classifier example: frames A, B and C, and the events of R107. -/
def wClassify : State :=
  put [(Od.PORT_STATUS.link 0, 1), (Od.PORT_STATUS.link 4, 1), (Od.PORT_STATUS.link 8, 1), (Od.PORT_STATUS.ts_valid 4, 1),
    (Od.SVC4.enable 5, 1), (Od.SVC4.address 5, 0xC6336428), (Od.SVC4.vid 5, 210), (Od.SVC4.port_mask 5, 0x11), (Od.SVC4.mac 5, 0x0500007C1A02),
    (Od.RULE_ACTIVE.valid 10, 1), (Od.RULE_ACTIVE.port_mask 10, 0x11), (Od.RULE_ACTIVE.vlan 10, 0x20D2), (Od.RULE_ACTIVE.l3 10, 1),
    (Od.RULE_ACTIVE.dst 10, 5), (Od.RULE_ACTIVE.ip_proto 10, 17), (Od.RULE_ACTIVE.dport_lo 10, 123), (Od.RULE_ACTIVE.dport_hi 10, 123),
    (Od.RULE_ACTIVE.action 10, 1), (Od.RULE_ACTIVE.arg 10, 3),
    (Od.RULE_ACTIVE.valid 11, 1), (Od.RULE_ACTIVE.port_mask 11, 0x11), (Od.RULE_ACTIVE.vlan 11, 0x20D2), (Od.RULE_ACTIVE.l3 11, 1),
    (Od.RULE_ACTIVE.dst 11, 0x100), (Od.RULE_ACTIVE.ip_proto 11, 17), (Od.RULE_ACTIVE.dport_lo 11, 0), (Od.RULE_ACTIVE.dport_hi 11, 0xFFFF),
    (Od.RULE_ACTIVE.action 11, 3), (Od.RULE_ACTIVE.arg 11, 7)] w0

def anRequest (more : Bool) : Bytes :=
  withFcs (buildEth 0x021A7C000005 0x020000000001 [(0x8100, 210)] 0x0800
    (let ip := buildIp4 0 64 [203, 0, 113, 77] [198, 51, 100, 40]
       (buildUdp 4 [203, 0, 113, 77] [198, 51, 100, 40] 50123 123 ([byte 0x23, 0, 6, 0] ++ padTo 44 []))
     let flagged := ip.take 6 ++ [0x20, 0] ++ slice ip 8 2
     if more then flagged ++ beBytes 2 (inetSum (flagged ++ [0, 0] ++ slice ip 12 8)) ++ ip.drop 12 else ip))

theorem test_example_classifier : checks [
    clause wClassify (fun s => s.eng.up) (.frameReceive ⟨4, anRequest false, false, 0, 0, 0, ns16 412007318, 2, 0, 0⟩)
      (fun s t => once s t 0x40A && once s t 0x09C && t.eng.seen 0x40B == 0 && t.eng.seen 0x09E == 0 && (t.eng.port 4).rxHeld == []),
    [wClassify.eng.view wClassify.ctx ⟨4, anRequest true, false, 0, 0, 0, ns16 412007318, 2, 0, 0⟩ ((anRequest true).take 94) false].all (fun v =>
      v.p.hdrOk && !v.answerable && (ruleOf wClassify.eng.od 11).covers v && !(ruleOf (wClassify.eng.set (Od.RULE_ACTIVE.dport_lo 11) 123).od 11).covers v),
    clause wClassify (fun s => s.eng.up) (.frameReceive ⟨8, anRequest false, false, 0, 0, 0, ns16 412007318, 2, 0, 0⟩)
      (fun s t => once s t 0x10B && t.eng.seen 0x40A == 0 && t.eng.seen 0x40B == 0)] = true := by decide +kernel

/-- The bucket example of R143: 152 refilled to 154, charged to 138, its time 1,907 units on. -/
theorem test_example_bucket : checks [
    Bucket.refill ⟨152, 16, 1000, 7⟩ 2953 64 16 1000 == ⟨154, 16, 2907, 7⟩] = true := by decide +kernel

/-- The NTP times of one exchange (R63): receive, transmit and reference, with era 0. -/
theorem test_example_ntp_times : checks [
    ntpOf (1805103012 * secU + (ns16 412007271 + 19740 : Nat)) == (0, 0xEF422E2469794EFC),
    ntpOf (1805103012 * secU + (ns16 412009271 + 32768 : Nat)) == (0, 0xEF422E246979708B),
    ntpOf (1805103012 * secU + (ns16 411250000 : Nat)) == (0, 0xEF422E246947AE14)] = true := by decide +kernel

/-- The departure example, the other answer taken to be of 97 bytes: the blocks at .340 and before are held, so the frame goes at .500 and neither at .340 nor at .420
(R149, R152). -/
theorem test_example_departure :
    let c : Calendar := { Calendar.atReset with resv := [⟨0, 100, 97, 0, 0, 0, 5243, 0, false, .ptp 0, [], none⟩] }
    checks [(c.gaps 112 94).isNone, (c.gaps 113 94).isNone, c.gaps 114 94 == some 5] = true := by decide +kernel

/-- The PTP example of R201: the receive timestamp of a Delay_Req, and the correction of its Delay_Resp. -/
theorem test_example_ptp : checks [
    ptpOf (1805103049 * unitsPerSec + ns16 412207271 + 19740) == (0x6B97AFC9, 0x1891C8A7, 19740),
    (stampOf (1805103049 * unitsPerSec + ns16 412309271 + 32768)) == ([0, 0, 0x6B, 0x97, 0xAF, 0xC9, 0x18, 0x93, 0x57, 0x17], 0x8000)] = true := by
  decide +kernel

/-- The slicer example of R213: a sine of 500 mV whose threshold has come within 2 mV of its midpoint walks 4,172 units, 63.66 ps. -/
theorem test_example_slicer :
    let s := put [(Od.REFIN_CFG.f_nom 3, 10000000), (Od.REFIN_QUAL.amp_min_mv 3, 100), (Od.REFIN_STATUS.vth_mv 3, -1)] w0
    checks [(s.eng.sliceStep s.ctx 3 496 (-504)).i (Od.REFIN_STATUS.walk 3) == 4172,
      (s.eng.sliceStep s.ctx 3 496 (-504)).i (Od.REFIN_STATUS.vth_mv 3) == -2] = true := by decide +kernel

/-- The frequency example of R215: a phase that rises 1 ns in 1 s is −1 ppb. -/
theorem test_example_frequency : checks [
    wrapTo (ns16 1000000) ((ns16 123000003 : Nat) - 154010 - 4172) == 38426, ffOf (103962 - 38426) 1000 (ns16 1000000) == -18446744074] = true := by
  decide +kernel

/-- The hardware delay example of R241: 54.2 ns and 55.9 ns make 52.05698 ns. -/
theorem test_example_delay : checks [
    (hardwareDelay 3552051 3663462 0 0 - 3411606).natAbs == 0] = true := by decide +kernel

/-- The synthesizer example of R297. -/
theorem test_example_synth :
    let s := eng (fun e => { e with outs := { e.outs with cfg := sset e.outs.cfg (Od.SYNTH.vco_hz 1) 6250000000 } })
      { w0 with core := { w0.core with moons := modNth w0.core.moons 0 (fun m => { m with inc := 0x0001000010C6F7A1 }) } }
    checks [s.eng.synthRatio s.ctx 1 == 1759220363660206] = true := by decide +kernel

/-- The RSA example of chapter 15: 96 cycles of validation and 299,305 in all. -/
theorem test_example_rsa :
    let s := put ([(520, 32), (521, 32), (522, 16), (523, 16), (524, 16), (525, 16), (526, 16), (527, 32)].map
      (fun p => (Od.PK_SLOT.length p.1, (p.2 : Int)))) w0
    let j : PkJob := ⟨7, 1, 0, 0, ⟨0xA01, 527, 0xFFFF, [520, 521, 522, 523, 524, 525, 526], 0xFF, 0⟩⟩
    checks [pkV 7 32 == 96, s.eng.pkT j == 299305, pkTicks 96 == 64] = true := by decide +kernel

/-- The receive ring example of R333: three buffers of 2,048 bytes take 6,144 of 9,014 bytes. -/
theorem test_example_rx_ring :
    let s := eng (fun e => { e with
      irq := { e.irq with link := true }, rxRings := [(12, ⟨.running, 1000, 997, 0, 0⟩)],
      ports := modNth e.ports 4 (fun q => { q with rxHeld := [⟨12, List.replicate 9014 1, 77, 0, 0, 37, .rule, none⟩] }) })
      (put [(Od.RX_RING_CFG.buf_size 12, 2048), (Od.RX_RING_CFG.size_log2 12, 8), (Od.RX_RING_CFG.base 12, 4096)] w0)
    checks [
    clause s (fun s => s.eng.irq.link) (.rxFrameDeliver 4 [65536, 131072, 196608])
      (fun _ t => t.eng.out.filterMap (fun o => match o with | .hostMem a b => if b.length = 32 then some (a, b) else none | _ => none) == [
          (4096 + 32 * 229, leBytes 8 77 ++ leBytes 4 0x08000481 ++ leBytes 4 997 ++ leBytes 8 0 ++ leBytes 8 (37 * 2 ^ 32)),
          (4096 + 32 * 230, leBytes 8 0 ++ leBytes 4 0x08000480 ++ leBytes 4 998 ++ leBytes 8 0 ++ leBytes 8 (37 * 2 ^ 32)),
          (4096 + 32 * 231, leBytes 8 0 ++ leBytes 4 0x08000482 ++ leBytes 4 999 ++ leBytes 8 (32 * 65536) ++ leBytes 8 (6144 * 2 ^ 48 + 37 * 2 ^ 32))] &&
        (t.eng.rxRing 12).cons == 1000 && t.eng.n (Od.RX_RING_STATUS.trunc_frames 12) == 1 && t.eng.n (Od.RX_RING_STATUS.trunc_bytes 12) == 2870)] = true := by
  decide +kernel

/-- The retry hint of R354: 3 ms while the mean drain time is 40 µs, and 100 ms once 10 ms have passed. -/
theorem test_example_hint :
    let s := eng (fun e => { e with front := { e.front with drains := [40000, 40000], lastDrain := some 1000000 } }) (tickAt 7540000 w0)
    checks [s.eng.hint s.ctx == 3, s.eng.hint (tickAt 11000000 s).ctx == 100] = true := by decide +kernel

/-- The counters of R371: 70,001, then 69,990 twice, then 69,900; and 135,538 after a reset at the mark 131,072. -/
theorem test_example_counters :
    let s := eng (fun e => { e with front := { e.front with creds := setNth e.front.creds 3 ⟨70000, 1, 131072, []⟩ } }) w0
    let d (e : Eng) (c : Nat) : Int := signed 32 (c + 2 ^ 32 - (e.credUnit 3).h)
    let e1 := s.eng.takeCounter s.ctx 3 70001 (d s.eng 70001)
    let e2 := e1.takeCounter s.ctx 3 69990 (d e1 69990)
    checks [(e1.credUnit 3).h == 70001, d e1 69990 == -11, !bitOf (e1.credUnit 3).seen 11, bitOf (e2.credUnit 3).seen 11, d e2 69900 == -101,
      (e2.credUnit 3).h == 70001] = true := by decide +kernel

/-- The PCIe example of R403: the link loss takes the record over a correction of the same tick, whichever is raised first. -/
theorem test_example_fault_record :
    let first (e : Eng) : List Int := [e.i (Od.FLT_FIRST.source 15), e.i (Od.FLT_FIRST.class_ 15), e.i (Od.FLT_FIRST.cause 15),
      e.i (Od.FLT_FIRST.same_tick 15), e.i (Od.FLT_FIRST.clear_tick 15), e.i (Od.FLT_BLOCK.latch 15)]
    let link (e : Eng) : Eng := e.condOn w0.ctx 15 6 0
    let fix (e : Eng) : Eng := e.detect w0.ctx 15 1 0
    checks [first (fix (link w0.eng)) == [3, 2, 0x600, 1, 0, 9], first (link (fix w0.eng)) == [3, 2, 0x600, 1, 0, 9],
      (fix (link w0.eng)).fltCurrent w0.ctx 15 == 9] = true := by decide +kernel

/-- The schedule example of R79: entries at 40.900 and 41.000 lie in the span stepped over, 41.500 does not, and the periodic one re-arms to
42.000. -/
theorem test_example_stepped :
    let ms (n : Nat) : Nat := n * ns16 1000000
    checks [steppedOver (ms 40400) (ms 41150) (ms 40900), steppedOver (ms 40400) (ms 41150) (ms 41000), !steppedOver (ms 40400) (ms 41150) (ms 41500),
      periodsPast (ms 150) (ms 1000) == 1, !steppedOver (ms 40400) (ms 39650) (ms 41000)] = true := by decide +kernel

/-- The holdover example of R286: 30 ns, and 391.5 ns after 3,600 s. -/
theorem test_example_holdover :
    let h : HoldEntry := ⟨0, 0, ns16 30, 0, fxOf 1 10000000000, fxOf 2 100000000000, 0, fxMul (fxOf 1 10000000000) (3600 * fxOne), 3600 * fxOne, 0, 0⟩
    checks [((h.value - (ns16 391500 / 1000 : Nat)).natAbs ≤ 6554 : Bool)] = true := by decide +kernel


end Sys2Proof.Tests
end

section
/-! # The architecture's statements

The lemmas on which the statements about the queue, the time clock and the fuses rest come first: what the frames of `exec_framed` do
to the parts of the state beside the engines. -/

namespace Sys2Proof.Machine

/-! ## What the fuses and the warm reset of a command do -/

section Settle

variable (s : State)

theorem State.blow_core : s.blow.core = s.core := by
  unfold State.blow; split <;> rfl

theorem State.blow_pending : s.blow.pending = s.pending := by
  unfold State.blow; split <;> rfl

/-- Blowing rollback bits changes the boot's request alone among the engines. -/
theorem State.blow_eng : s.blow.eng = { s.eng with boot := { s.eng.boot with rollbackTo := none } } := by
  unfold State.blow
  split
  next h => simp [← h]
  next => rfl

theorem Fuses.keeps_refl (f : Fuses) : f.keeps f := ⟨rfl, Nat.le_refl _⟩

theorem State.blow_fuses : s.fuses.keeps s.blow.fuses := by
  unfold State.blow
  split
  next => exact s.fuses.keeps_refl
  next v _ => exact ⟨rfl, Nat.le_max_left _ _⟩

/-- What a command asked for happens: the fuses are blown, and where a warm reset was asked for, the time clock restarts. -/
theorem State.settle_cases :
    (s.eng.boot.warmAsked = false ∧ s.settle = s.blow) ∨
    (s.eng.boot.warmAsked = true ∧ s.settle = s.blow.restarted (s.blow.eng.warm s.blow.ctx 3 .locking)) := by
  have hw : s.blow.eng.boot.warmAsked = s.eng.boot.warmAsked := by rw [State.blow_eng]
  cases h : s.eng.boot.warmAsked with
  | false => exact .inl ⟨rfl, by simp [State.settle, hw, h]⟩
  | true => exact .inr ⟨rfl, by simp [State.settle, hw, h]⟩

theorem State.settle_core : s.settle.core = s.core ∨ s.settle.core = TimeCore.atReset := by
  obtain ⟨-, h⟩ | ⟨-, h⟩ := s.settle_cases <;> rw [h]
  · exact .inl s.blow_core
  · exact .inr rfl

theorem State.settle_pending : s.settle.pending = s.pending := by
  obtain ⟨-, h⟩ | ⟨-, h⟩ := s.settle_cases <;> rw [h]
  · exact s.blow_pending
  · exact s.blow_pending

theorem State.settle_fuses : s.fuses.keeps s.settle.fuses := by
  obtain ⟨-, h⟩ | ⟨-, h⟩ := s.settle_cases <;> rw [h]
  · exact s.blow_fuses
  · exact s.blow_fuses

end Settle

/-! ## What each frame does beside the engines -/

section Frames

variable {f : Ctx → Eng → Eng} {s t : State}

/-- A command that acts under a condition ends in the state it makes, or in the one it makes where the condition fails. -/
theorem next_ite {b : Bool} {u v : State}
    (h : (if b then (.next u : Host.Outcome State Fault Refusal) else .next v) = .next t) :
    (b = true ∧ t = u) ∨ (b = false ∧ t = v) := by
  cases b with
  | true => exact .inl ⟨rfl, (Host.Outcome.next.inj h).symm⟩
  | false => exact .inr ⟨rfl, (Host.Outcome.next.inj h).symm⟩

theorem lift_cases (h : lift f s = .next t) :
    (s.eng.up = true ∧ t = { s with eng := f s.ctx s.eng0 }) ∨ (s.eng.up = false ∧ t = { s with eng := s.eng0 }) :=
  next_ite h

theorem lift_beside (h : lift f s = .next t) : s.beside t := by
  obtain ⟨-, rfl⟩ | ⟨-, rfl⟩ := lift_cases h <;> exact ⟨rfl, rfl, rfl⟩

theorem liftAlways_eq (h : liftAlways f s = .next t) : t = { s with eng := f s.ctx s.eng0 } :=
  (Host.Outcome.next.inj h).symm

theorem liftAlways_beside (h : liftAlways f s = .next t) : s.beside t := by
  obtain rfl := liftAlways_eq h
  exact ⟨rfl, rfl, rfl⟩

/-- A command that may ask for a reset settles an engine change, or finds the device in reset. -/
theorem liftSettle_cases (h : liftSettle f s = .next t) :
    (s.eng.up = true ∧ t = ({ s with eng := f s.ctx s.eng0 } : State).settle) ∨
    (s.eng.up = false ∧ t = { s with eng := s.eng0 }) :=
  next_ite h

theorem execTick_cases {u : List CopyUpset} {d : List TickHit} (h : execTick u d s = .next t) :
    (s.eng.up = true ∧ t = { s with core := s.core.advance, eng := s.eng0.tickEnds s.ctx u d }) ∨
    (s.eng.up = false ∧ t = { s with eng := s.eng0 }) :=
  next_ite h

theorem execSteerBoundary_cases {inp : BoundaryInputs} (h : execSteerBoundary inp s = .next t) :
    ((s.eng.up && s.eng.boundaryDue s.ctx) = true ∧ t = (s.boundary inp).settle) ∨
    ((s.eng.up && s.eng.boundaryDue s.ctx) = false ∧ t = { s with eng := s.eng0 }) :=
  next_ite h

theorem execAutoReset_cases (h : execAutoReset s = .next t) :
    ((s.eng.up && s.eng.autoDue s.ctx) = true ∧ t = s.restarted (s.eng0.warm s.ctx 4 .locking)) ∨
    ((s.eng.up && s.eng.autoDue s.ctx) = false ∧ t = { s with eng := s.eng0 }) :=
  next_ite h

theorem State.boundary_core (s : State) (inp : BoundaryInputs) : (s.boundary inp).core = s.core.takeAll s.eng.tl := rfl

theorem State.boundary_fuses (s : State) (inp : BoundaryInputs) : (s.boundary inp).fuses = s.fuses := rfl

end Frames

/-! ## The time clock and the fuses under every command -/

/-- The ways a command moves the time clock (R22, R25, R38). -/
theorem exec_core {c : Instr} {s t : State} (h : exec c s = .next t) :
    t.core = s.core ∨
    ((∃ u d, c = .tick u d) ∧ t.core = s.core.advance) ∨
    ((∃ inp, c = .steerBoundary inp) ∧ t.core = s.core.takeAll s.eng.tl) ∨
    (mayRestart c = true ∧ t.core = TimeCore.atReset) := by
  cases exec_framed c s with
  | running f hf => exact .inl (lift_beside (hf.symm.trans h)).1
  | always f _ hf => exact .inl (liftAlways_beside (hf.symm.trans h)).1
  | settling f hc hf =>
    obtain ⟨-, ht⟩ | ⟨-, ht⟩ := liftSettle_cases (hf.symm.trans h) <;> rw [ht]
    · obtain hcore | hcore := State.settle_core _
      · exact .inl hcore
      · exact .inr (.inr (.inr ⟨hc, hcore⟩))
    · exact .inl rfl
  | tick u d hc hf =>
    obtain ⟨-, ht⟩ | ⟨-, ht⟩ := execTick_cases (hf.symm.trans h) <;> rw [ht]
    · exact .inr (.inl ⟨⟨u, d, hc⟩, rfl⟩)
    · exact .inl rfl
  | boundary inp hc hf =>
    obtain ⟨-, ht⟩ | ⟨-, ht⟩ := execSteerBoundary_cases (hf.symm.trans h) <;> rw [ht]
    · obtain hcore | hcore := (s.boundary inp).settle_core
      · exact .inr (.inr (.inl ⟨⟨inp, hc⟩, hcore.trans (s.boundary_core inp)⟩))
      · exact .inr (.inr (.inr ⟨hc ▸ rfl, hcore⟩))
    · exact .inl rfl
  | reset e hc _ hf =>
    rw [← Host.Outcome.next.inj (hf.symm.trans h)]
    exact .inr (.inr (.inr ⟨hc, rfl⟩))
  | autoReset hc hf =>
    obtain ⟨-, ht⟩ | ⟨-, ht⟩ := execAutoReset_cases (hf.symm.trans h) <;> rw [ht]
    · exact .inr (.inr (.inr ⟨hc ▸ rfl, rfl⟩))
    · exact .inl rfl

/-- No command lowers the rollback bits or changes another fuse (R424, R427). -/
theorem exec_fuses {c : Instr} {s t : State} (h : exec c s = .next t) : s.fuses.keeps t.fuses := by
  cases exec_framed c s with
  | running f hf => rw [(lift_beside (hf.symm.trans h)).2.1]; exact s.fuses.keeps_refl
  | always f _ hf => rw [(liftAlways_beside (hf.symm.trans h)).2.1]; exact s.fuses.keeps_refl
  | settling f _ hf =>
    obtain ⟨-, ht⟩ | ⟨-, ht⟩ := liftSettle_cases (hf.symm.trans h) <;> rw [ht]
    · exact ({ s with eng := f s.ctx s.eng0 } : State).settle_fuses
    · exact s.fuses.keeps_refl
  | tick u d _ hf =>
    obtain ⟨-, ht⟩ | ⟨-, ht⟩ := execTick_cases (hf.symm.trans h) <;> rw [ht] <;> exact s.fuses.keeps_refl
  | boundary inp _ hf =>
    obtain ⟨-, ht⟩ | ⟨-, ht⟩ := execSteerBoundary_cases (hf.symm.trans h) <;> rw [ht]
    · have hk := (s.boundary inp).settle_fuses
      rwa [State.boundary_fuses] at hk
    · exact s.fuses.keeps_refl
  | reset e _ _ hf =>
    rw [← Host.Outcome.next.inj (hf.symm.trans h)]
    exact s.fuses.keeps_refl
  | autoReset _ hf =>
    obtain ⟨-, ht⟩ | ⟨-, ht⟩ := execAutoReset_cases (hf.symm.trans h) <;> rw [ht] <;> exact s.fuses.keeps_refl

/-! ## The time-clock domain stays whole -/

theorem TimeCore.advance_whole {c : TimeCore} (h : c.whole) : c.advance.whole :=
  ⟨(List.length_map _).trans h.1, Nat.mod_lt _ (Nat.two_pow_pos 64)⟩

theorem TimeCore.takeAll_whole {c : TimeCore} (h : c.whole) (tl : List MoonTl) : (c.takeAll tl).whole :=
  ⟨(by simp [TimeCore.takeAll, tabulate, h.1]), h.2⟩

theorem TimeCore.atReset_whole : TimeCore.atReset.whole := ⟨rfl, Nat.two_pow_pos 64⟩

/-- Every command keeps the time-clock domain whole, for it moves the clock in one of the ways `exec_core` lists. -/
theorem exec_whole {c : Instr} {s t : State} (hs : s.core.whole) (h : exec c s = .next t) : t.core.whole := by
  obtain hc | ⟨-, hc⟩ | ⟨-, hc⟩ | ⟨-, hc⟩ := exec_core h <;> rw [hc]
  · exact hs
  · exact TimeCore.advance_whole hs
  · exact TimeCore.takeAll_whole hs _
  · exact TimeCore.atReset_whole

/-! ## The statements about the queue, the clock and the fuses -/

/-- Settles O5: the invariant of the time-clock domain is kept by an idle step, and by every command. -/
theorem stepsKeepTheClockWhole : Obligations.StepsKeepTheClockWhole := by
  intro s t hs h
  unfold step at h
  split at h
  next => cases h; exact hs
  next => exact exec_whole (by exact hs) h

/-- Settles O3, by the frame each command's meaning runs in. -/
theorem timeAndFusesMoveByTheirCommands : Obligations.TimeAndFusesMoveByTheirCommands :=
  ⟨fun _ _ _ h => exec_core h, fun _ _ _ h => exec_fuses h⟩

/-- Settles O1: a step takes the front command off the queue, and an empty queue idles. -/
theorem stepRunsFrontCommand : Obligations.StepRunsFrontCommand := by
  refine ⟨fun s c rest => rfl, fun s h => ?_⟩
  unfold step
  rw [h]

end Sys2Proof.Machine
end

section
/-! # What each function of the model leaves unchanged

A facet of the engines is a field of the state that a command may own (`EngField`), or one of two readings of such a field that most
changes of it keep: the boot's phase, and the epoch records of the moons. Each function of the model has one lemma here, `<name>_keeps`: it
keeps every facet but those its statement excludes. The statements about what a command changes are assembled from these. -/

namespace Sys2Proof.Machine

/-- The facets of the engines. -/
inductive Facet where
  | draws
  | pins
  | boot
  | flash
  | tl
  | sealedFor
  | lastBoundary
  | cmpArmedAt
  | sched
  | ports
  | cls
  | lanes
  | calWait
  | keyWait
  | ans
  | fwTicks
  | cals
  | nts
  | ptp
  | ups
  | refins
  | synces
  | tod
  | sibs
  | gnss
  | sel
  | steer
  | model
  | outs
  | pk
  | rxRings
  | txRings
  | tails
  | wins
  | inbox
  | ptpIn
  | front
  | mon
  | dump
  | phase
  | records
  deriving DecidableEq

/-- What a facet holds. -/
def Facet.Ty : Facet → Type
  | .draws => Nat
  | .pins => Pins
  | .boot => Boot
  | .flash => Flash
  | .tl => List MoonTl
  | .sealedFor => Option Nat
  | .lastBoundary => Nat
  | .cmpArmedAt => Tbl Nat
  | .sched => Tbl SchedEntry
  | .ports => List Port
  | .cls => Classifier
  | .lanes => List LaneUnit
  | .calWait => StoreWait
  | .keyWait => StoreWait
  | .ans => Answer
  | .fwTicks => List Nat
  | .cals => List Calendar
  | .nts => Nts
  | .ptp => Ptp
  | .ups => List UpUnit
  | .refins => List RefinUnit
  | .synces => List SynceUnit
  | .tod => TodUnit
  | .sibs => Tbl SibPub
  | .gnss => Gnss
  | .sel => Selector
  | .steer => List SteerUnit
  | .model => OscModel
  | .outs => Outs
  | .pk => Pk
  | .rxRings => Tbl RxRing
  | .txRings => Tbl TxRing
  | .tails => List Tail
  | .wins => List WinCtx
  | .inbox => List Arrived
  | .ptpIn => List PtpIn
  | .front => Front
  | .mon => Monitors
  | .dump => DumpRun
  | .phase => Phase
  | .records => List (EpochRec × EpochRec)

/-- A facet, read. -/
def Facet.of : (φ : Facet) → Eng → φ.Ty
  | .draws, e => e.draws
  | .pins, e => e.pins
  | .boot, e => e.boot
  | .flash, e => e.flash
  | .tl, e => e.tl
  | .sealedFor, e => e.sealedFor
  | .lastBoundary, e => e.lastBoundary
  | .cmpArmedAt, e => e.cmpArmedAt
  | .sched, e => e.sched
  | .ports, e => e.ports
  | .cls, e => e.cls
  | .lanes, e => e.lanes
  | .calWait, e => e.calWait
  | .keyWait, e => e.keyWait
  | .ans, e => e.ans
  | .fwTicks, e => e.fwTicks
  | .cals, e => e.cals
  | .nts, e => e.nts
  | .ptp, e => e.ptp
  | .ups, e => e.ups
  | .refins, e => e.refins
  | .synces, e => e.synces
  | .tod, e => e.tod
  | .sibs, e => e.sibs
  | .gnss, e => e.gnss
  | .sel, e => e.sel
  | .steer, e => e.steer
  | .model, e => e.model
  | .outs, e => e.outs
  | .pk, e => e.pk
  | .rxRings, e => e.rxRings
  | .txRings, e => e.txRings
  | .tails, e => e.tails
  | .wins, e => e.wins
  | .inbox, e => e.inbox
  | .ptpIn, e => e.ptpIn
  | .front, e => e.front
  | .mon, e => e.mon
  | .dump, e => e.dump
  | .phase, e => e.boot.phase
  | .records, e => e.tl.map (fun m => (m.prev, m.cur))

/-- The facet that a field of the state is. -/
def EngField.facet : EngField → Facet
  | .draws => .draws
  | .pins => .pins
  | .boot => .boot
  | .flash => .flash
  | .tl => .tl
  | .sealedFor => .sealedFor
  | .lastBoundary => .lastBoundary
  | .cmpArmedAt => .cmpArmedAt
  | .sched => .sched
  | .ports => .ports
  | .cls => .cls
  | .lanes => .lanes
  | .calWait => .calWait
  | .keyWait => .keyWait
  | .ans => .ans
  | .fwTicks => .fwTicks
  | .cals => .cals
  | .nts => .nts
  | .ptp => .ptp
  | .ups => .ups
  | .refins => .refins
  | .synces => .synces
  | .tod => .tod
  | .sibs => .sibs
  | .gnss => .gnss
  | .sel => .sel
  | .steer => .steer
  | .model => .model
  | .outs => .outs
  | .pk => .pk
  | .rxRings => .rxRings
  | .txRings => .txRings
  | .tails => .tails
  | .wins => .wins
  | .inbox => .inbox
  | .ptpIn => .ptpIn
  | .front => .front
  | .mon => .mon
  | .dump => .dump

/-- To agree in a field is to agree in its facet. -/
theorem EngField.same_iff (f : EngField) (e e' : Eng) : f.same e e' ↔ f.facet.of e' = f.facet.of e := by
  cases f <;> exact Iff.rfl

/-- Different fields are different facets: each facet of a field names its field. -/
theorem EngField.facet_injective : Function.Injective EngField.facet :=
  Function.LeftInverse.injective (g := fun φ => EngField.ofNat φ.ctorIdx) (fun f => by cases f <;> rfl)

/-- The facet is none of the fields of a list. -/
def Facet.avoids (φ : Facet) : List EngField → Prop
  | [] => True
  | [f] => φ ≠ f.facet
  | f :: g :: l => φ ≠ f.facet ∧ φ.avoids (g :: l)

/-- The facet of a field avoids a list the field is not in. -/
theorem EngField.avoids {f : EngField} : {l : List EngField} → l.contains f = false → f.facet.avoids l
  | [], _ => trivial
  | [g], h => fun hfg => by
    rw [EngField.facet_injective hfg, List.contains_cons, beq_self_eq_true, Bool.true_or] at h
    cases h
  | g :: g' :: l, h => by
    rw [List.contains_cons, Bool.or_eq_false_iff, beq_eq_false_iff_ne] at h
    exact ⟨fun hfg => h.1 (EngField.facet_injective hfg), EngField.avoids h.2⟩

/-- A facet no scheduled action reaches. -/
theorem Facet.avoids_acted {φ : Facet} : φ.avoids EngField.acted ↔
    φ ≠ .draws ∧ φ ≠ .boot ∧ φ ≠ .flash ∧ φ ≠ .tl ∧ φ ≠ .cmpArmedAt ∧ φ ≠ .sched ∧ φ ≠ .cls ∧ φ ≠ .lanes ∧ φ ≠ .calWait ∧
    φ ≠ .keyWait ∧ φ ≠ .ans ∧ φ ≠ .cals ∧ φ ≠ .nts ∧ φ ≠ .ups ∧ φ ≠ .refins ∧ φ ≠ .tod ∧ φ ≠ .gnss ∧ φ ≠ .sel ∧ φ ≠ .steer ∧
    φ ≠ .model ∧ φ ≠ .outs ∧ φ ≠ .pk ∧ φ ≠ .rxRings ∧ φ ≠ .txRings ∧ φ ≠ .tails ∧ φ ≠ .front ∧ φ ≠ .dump :=
  Iff.rfl

section
variable {φ : Facet} (e : Eng)

/-! ## The change of one field -/

theorem Facet.with_od (v : Store) : φ.of { e with od := v } = φ.of e := by
  cases φ <;> rfl

theorem Facet.with_resp (v : Resp) : φ.of { e with resp := v } = φ.of e := by
  cases φ <;> rfl

theorem Facet.with_out (v : List Output) : φ.of { e with out := v } = φ.of e := by
  cases φ <;> rfl

theorem Facet.with_draws (v : Nat) (h : φ ≠ .draws) : φ.of { e with draws := v } = φ.of e := by
  cases φ with
  | draws => exact absurd rfl h
  | _ => rfl

theorem Facet.with_pins (v : Pins) (h : φ ≠ .pins) : φ.of { e with pins := v } = φ.of e := by
  cases φ with
  | pins => exact absurd rfl h
  | _ => rfl

theorem Facet.with_boot (v : Boot) (h : φ ≠ .boot) (hp : v.phase = e.boot.phase) : φ.of { e with boot := v } = φ.of e := by
  cases φ with
  | boot => exact absurd rfl h
  | phase => exact hp
  | _ => rfl

theorem Facet.with_flash (v : Flash) (h : φ ≠ .flash) : φ.of { e with flash := v } = φ.of e := by
  cases φ with
  | flash => exact absurd rfl h
  | _ => rfl

theorem Facet.with_flt (v : Faults) : φ.of { e with flt := v } = φ.of e := by
  cases φ <;> rfl

theorem Facet.with_tl (v : List MoonTl) (h : φ ≠ .tl) (hr : φ ≠ .records) : φ.of { e with tl := v } = φ.of e := by
  cases φ with
  | tl => exact absurd rfl h
  | records => exact absurd rfl hr
  | _ => rfl

theorem Facet.with_sealedFor (v : Option Nat) (h : φ ≠ .sealedFor) : φ.of { e with sealedFor := v } = φ.of e := by
  cases φ with
  | sealedFor => exact absurd rfl h
  | _ => rfl

theorem Facet.with_lastBoundary (v : Nat) (h : φ ≠ .lastBoundary) : φ.of { e with lastBoundary := v } = φ.of e := by
  cases φ with
  | lastBoundary => exact absurd rfl h
  | _ => rfl

theorem Facet.with_cmpArmedAt (v : Tbl Nat) (h : φ ≠ .cmpArmedAt) : φ.of { e with cmpArmedAt := v } = φ.of e := by
  cases φ with
  | cmpArmedAt => exact absurd rfl h
  | _ => rfl

theorem Facet.with_sched (v : Tbl SchedEntry) (h : φ ≠ .sched) : φ.of { e with sched := v } = φ.of e := by
  cases φ with
  | sched => exact absurd rfl h
  | _ => rfl

theorem Facet.with_ports (v : List Port) (h : φ ≠ .ports) : φ.of { e with ports := v } = φ.of e := by
  cases φ with
  | ports => exact absurd rfl h
  | _ => rfl

theorem Facet.with_cls (v : Classifier) (h : φ ≠ .cls) : φ.of { e with cls := v } = φ.of e := by
  cases φ with
  | cls => exact absurd rfl h
  | _ => rfl

theorem Facet.with_lanes (v : List LaneUnit) (h : φ ≠ .lanes) : φ.of { e with lanes := v } = φ.of e := by
  cases φ with
  | lanes => exact absurd rfl h
  | _ => rfl

theorem Facet.with_calWait (v : StoreWait) (h : φ ≠ .calWait) : φ.of { e with calWait := v } = φ.of e := by
  cases φ with
  | calWait => exact absurd rfl h
  | _ => rfl

theorem Facet.with_keyWait (v : StoreWait) (h : φ ≠ .keyWait) : φ.of { e with keyWait := v } = φ.of e := by
  cases φ with
  | keyWait => exact absurd rfl h
  | _ => rfl

theorem Facet.with_ans (v : Answer) (h : φ ≠ .ans) : φ.of { e with ans := v } = φ.of e := by
  cases φ with
  | ans => exact absurd rfl h
  | _ => rfl

theorem Facet.with_fwTicks (v : List Nat) (h : φ ≠ .fwTicks) : φ.of { e with fwTicks := v } = φ.of e := by
  cases φ with
  | fwTicks => exact absurd rfl h
  | _ => rfl

theorem Facet.with_cals (v : List Calendar) (h : φ ≠ .cals) : φ.of { e with cals := v } = φ.of e := by
  cases φ with
  | cals => exact absurd rfl h
  | _ => rfl

theorem Facet.with_nts (v : Nts) (h : φ ≠ .nts) : φ.of { e with nts := v } = φ.of e := by
  cases φ with
  | nts => exact absurd rfl h
  | _ => rfl

theorem Facet.with_ptp (v : Ptp) (h : φ ≠ .ptp) : φ.of { e with ptp := v } = φ.of e := by
  cases φ with
  | ptp => exact absurd rfl h
  | _ => rfl

theorem Facet.with_ups (v : List UpUnit) (h : φ ≠ .ups) : φ.of { e with ups := v } = φ.of e := by
  cases φ with
  | ups => exact absurd rfl h
  | _ => rfl

theorem Facet.with_refins (v : List RefinUnit) (h : φ ≠ .refins) : φ.of { e with refins := v } = φ.of e := by
  cases φ with
  | refins => exact absurd rfl h
  | _ => rfl

theorem Facet.with_synces (v : List SynceUnit) (h : φ ≠ .synces) : φ.of { e with synces := v } = φ.of e := by
  cases φ with
  | synces => exact absurd rfl h
  | _ => rfl

theorem Facet.with_tod (v : TodUnit) (h : φ ≠ .tod) : φ.of { e with tod := v } = φ.of e := by
  cases φ with
  | tod => exact absurd rfl h
  | _ => rfl

theorem Facet.with_sibs (v : Tbl SibPub) (h : φ ≠ .sibs) : φ.of { e with sibs := v } = φ.of e := by
  cases φ with
  | sibs => exact absurd rfl h
  | _ => rfl

theorem Facet.with_gnss (v : Gnss) (h : φ ≠ .gnss) : φ.of { e with gnss := v } = φ.of e := by
  cases φ with
  | gnss => exact absurd rfl h
  | _ => rfl

theorem Facet.with_sel (v : Selector) (h : φ ≠ .sel) : φ.of { e with sel := v } = φ.of e := by
  cases φ with
  | sel => exact absurd rfl h
  | _ => rfl

theorem Facet.with_steer (v : List SteerUnit) (h : φ ≠ .steer) : φ.of { e with steer := v } = φ.of e := by
  cases φ with
  | steer => exact absurd rfl h
  | _ => rfl

theorem Facet.with_model (v : OscModel) (h : φ ≠ .model) : φ.of { e with model := v } = φ.of e := by
  cases φ with
  | model => exact absurd rfl h
  | _ => rfl

theorem Facet.with_outs (v : Outs) (h : φ ≠ .outs) : φ.of { e with outs := v } = φ.of e := by
  cases φ with
  | outs => exact absurd rfl h
  | _ => rfl

theorem Facet.with_pk (v : Pk) (h : φ ≠ .pk) : φ.of { e with pk := v } = φ.of e := by
  cases φ with
  | pk => exact absurd rfl h
  | _ => rfl

theorem Facet.with_irq (v : Irq) : φ.of { e with irq := v } = φ.of e := by
  cases φ <;> rfl

theorem Facet.with_rxRings (v : Tbl RxRing) (h : φ ≠ .rxRings) : φ.of { e with rxRings := v } = φ.of e := by
  cases φ with
  | rxRings => exact absurd rfl h
  | _ => rfl

theorem Facet.with_txRings (v : Tbl TxRing) (h : φ ≠ .txRings) : φ.of { e with txRings := v } = φ.of e := by
  cases φ with
  | txRings => exact absurd rfl h
  | _ => rfl

theorem Facet.with_tails (v : List Tail) (h : φ ≠ .tails) : φ.of { e with tails := v } = φ.of e := by
  cases φ with
  | tails => exact absurd rfl h
  | _ => rfl

theorem Facet.with_wins (v : List WinCtx) (h : φ ≠ .wins) : φ.of { e with wins := v } = φ.of e := by
  cases φ with
  | wins => exact absurd rfl h
  | _ => rfl

theorem Facet.with_inbox (v : List Arrived) (h : φ ≠ .inbox) : φ.of { e with inbox := v } = φ.of e := by
  cases φ with
  | inbox => exact absurd rfl h
  | _ => rfl

theorem Facet.with_ptpIn (v : List PtpIn) (h : φ ≠ .ptpIn) : φ.of { e with ptpIn := v } = φ.of e := by
  cases φ with
  | ptpIn => exact absurd rfl h
  | _ => rfl

theorem Facet.with_front (v : Front) (h : φ ≠ .front) : φ.of { e with front := v } = φ.of e := by
  cases φ with
  | front => exact absurd rfl h
  | _ => rfl

theorem Facet.with_seg (v : Segment) : φ.of { e with seg := v } = φ.of e := by
  cases φ <;> rfl

theorem Facet.with_ctr (v : Counters) : φ.of { e with ctr := v } = φ.of e := by
  cases φ <;> rfl

theorem Facet.with_mon (v : Monitors) (h : φ ≠ .mon) : φ.of { e with mon := v } = φ.of e := by
  cases φ with
  | mon => exact absurd rfl h
  | _ => rfl

theorem Facet.with_dump (v : DumpRun) (h : φ ≠ .dump) : φ.of { e with dump := v } = φ.of e := by
  cases φ with
  | dump => exact absurd rfl h
  | _ => rfl

/-- A change of the boot that may change its phase. -/
theorem Facet.with_boot_phase (v : Boot) (h : φ ≠ .boot) (hp : φ ≠ .phase) : φ.of { e with boot := v } = φ.of e := by
  cases φ with
  | boot => exact absurd rfl h
  | phase => exact absurd rfl hp
  | _ => rfl

/-! ## The change of several fields -/

theorem Facet.with_boot_flash (u : Boot) (v : Flash) (hu : φ ≠ .boot) (hp : u.phase = e.boot.phase) (hv : φ ≠ .flash) :
    φ.of { e with boot := u, flash := v } = φ.of e :=
  (Facet.with_flash { e with boot := u } v hv).trans (Facet.with_boot e u hu hp)

theorem Facet.with_draws_nts (u : Nat) (v : Nts) (hu : φ ≠ .draws) (hv : φ ≠ .nts) :
    φ.of { e with draws := u, nts := v } = φ.of e :=
  (Facet.with_nts { e with draws := u } v hv).trans (Facet.with_draws e u hu)

theorem Facet.with_pins_outs (u : Pins) (v : Outs) (hu : φ ≠ .pins) (hv : φ ≠ .outs) :
    φ.of { e with pins := u, outs := v } = φ.of e :=
  (Facet.with_outs { e with pins := u } v hv).trans (Facet.with_pins e u hu)

theorem Facet.with_flt_nts (u : Faults) (v : Nts) (hv : φ ≠ .nts) :
    φ.of { e with flt := u, nts := v } = φ.of e :=
  (Facet.with_nts { e with flt := u } v hv).trans (Facet.with_flt e u)

theorem Facet.with_tails_wins_inbox (u : List Tail) (v : List WinCtx) (w : List Arrived) (hu : φ ≠ .tails) (hv : φ ≠ .wins)
    (hw : φ ≠ .inbox) :
    φ.of { e with tails := u, wins := v, inbox := w } = φ.of e :=
  (Facet.with_inbox { e with tails := u, wins := v } w hw).trans ((Facet.with_wins { e with tails := u } v hv).trans
    (Facet.with_tails e u hu))

theorem Facet.with_pins_boot_front (u : Pins) (v : Boot) (w : Front) (hu : φ ≠ .pins) (hv : φ ≠ .boot) (hp : v.phase = e.boot.phase)
    (hw : φ ≠ .front) :
    φ.of { e with pins := u, boot := v, front := w } = φ.of e :=
  (Facet.with_front { e with pins := u, boot := v } w hw).trans ((Facet.with_boot { e with pins := u } v hv hp).trans
    (Facet.with_pins e u hu))

theorem Facet.with_flash_gnss (u : Flash) (v : Gnss) (hu : φ ≠ .flash) (hv : φ ≠ .gnss) :
    φ.of { e with flash := u, gnss := v } = φ.of e :=
  (Facet.with_gnss { e with flash := u } v hv).trans (Facet.with_flash e u hu)

theorem Facet.with_sibs_seg (u : Tbl SibPub) (v : Segment) (hu : φ ≠ .sibs) :
    φ.of { e with sibs := u, seg := v } = φ.of e :=
  (Facet.with_seg { e with sibs := u } v).trans (Facet.with_sibs e u hu)

theorem Facet.with_flash_calWait (u : Flash) (v : StoreWait) (hu : φ ≠ .flash) (hv : φ ≠ .calWait) :
    φ.of { e with flash := u, calWait := v } = φ.of e :=
  (Facet.with_calWait { e with flash := u } v hv).trans (Facet.with_flash e u hu)

theorem Facet.with_od_cls (u : Store) (v : Classifier) (hv : φ ≠ .cls) :
    φ.of { e with od := u, cls := v } = φ.of e :=
  (Facet.with_cls { e with od := u } v hv).trans (Facet.with_od e u)

theorem Facet.with_boot_nts (u : Boot) (v : Nts) (hu : φ ≠ .boot) (hp : u.phase = e.boot.phase) (hv : φ ≠ .nts) :
    φ.of { e with boot := u, nts := v } = φ.of e :=
  (Facet.with_nts { e with boot := u } v hv).trans (Facet.with_boot e u hu hp)

theorem Facet.with_sealedFor_lastBoundary_sel (u : Option Nat) (v : Nat) (w : Selector) (hu : φ ≠ .sealedFor) (hv : φ ≠ .lastBoundary)
    (hw : φ ≠ .sel) :
    φ.of { e with sealedFor := u, lastBoundary := v, sel := w } = φ.of e :=
  (Facet.with_sel { e with sealedFor := u, lastBoundary := v } w hw).trans ((Facet.with_lastBoundary { e with sealedFor := u } v hv).trans
    (Facet.with_sealedFor e u hu))

theorem Facet.with_boot_gnss_model (u : Boot) (v : Gnss) (w : OscModel) (hu : φ ≠ .boot) (hp : u.phase = e.boot.phase) (hv : φ ≠ .gnss)
    (hw : φ ≠ .model) :
    φ.of { e with boot := u, gnss := v, model := w } = φ.of e :=
  (Facet.with_model { e with boot := u, gnss := v } w hw).trans ((Facet.with_gnss { e with boot := u } v hv).trans
    (Facet.with_boot e u hu hp))

theorem Facet.with_flash_keyWait (u : Flash) (v : StoreWait) (hu : φ ≠ .flash) (hv : φ ≠ .keyWait) :
    φ.of { e with flash := u, keyWait := v } = φ.of e :=
  (Facet.with_keyWait { e with flash := u } v hv).trans (Facet.with_flash e u hu)

theorem Facet.with_ans_outs (u : Answer) (v : Outs) (hu : φ ≠ .ans) (hv : φ ≠ .outs) :
    φ.of { e with ans := u, outs := v } = φ.of e :=
  (Facet.with_outs { e with ans := u } v hv).trans (Facet.with_ans e u hu)

theorem Facet.with_boot_ans_ctr (u : Boot) (v : Answer) (w : Counters) (hu : φ ≠ .boot) (hp : φ ≠ .phase) (hv : φ ≠ .ans) :
    φ.of { e with boot := u, ans := v, ctr := w } = φ.of e :=
  (Facet.with_ctr { e with boot := u, ans := v } w).trans ((Facet.with_ans { e with boot := u } v hv).trans
    (Facet.with_boot_phase e u hu hp))

/-! ## Branches, pairs, folds -/

theorem Facet.of_ite (c : Prop) [Decidable c] (a b : Eng) : φ.of (if c then a else b) = if c then φ.of a else φ.of b := apply_ite ..

theorem Facet.of_foldl {β : Type} (f : Eng → β → Eng) (h : ∀ e b, φ.of (f e b) = φ.of e) (l : List β) : φ.of (l.foldl f e) = φ.of e := by
  induction l generalizing e with
  | nil => rfl
  | cons b l ih => exact (ih _).trans (h e b)

theorem Facet.of_foldl_snd {α β : Type} (f : α × Eng → β → α × Eng) (h : ∀ a b, φ.of (f a b).2 = φ.of a.2) (l : List β) (a : α × Eng) :
    φ.of (l.foldl f a).2 = φ.of a.2 := by
  induction l generalizing a with
  | nil => rfl
  | cons b l ih => exact (ih _).trans (h a b)

theorem Facet.of_ite_snd {α : Type} (c : Prop) [Decidable c] (a b : α × Eng) :
    φ.of (if c then a else b).2 = if c then φ.of a.2 else φ.of b.2 := by split <;> rfl

theorem Facet.of_mk_snd {α : Type} (a : α) : φ.of (a, e).2 = φ.of e := rfl

/-- How a facet is read through the steps a definition is made of: a branch, a pair, a fold. -/
theorem Facet.push :
    (∀ (c : Prop) [Decidable c] (a b : Eng), φ.of (if c then a else b) = if c then φ.of a else φ.of b) ∧
    (∀ {α : Type} (c : Prop) [Decidable c] (a b : α × Eng), φ.of (if c then a else b).2 = if c then φ.of a.2 else φ.of b.2) ∧
    (∀ {α : Type} (a : α) (e : Eng), φ.of (a, e).2 = φ.of e) ∧
    (∀ {β : Type} (f : Eng → β → Eng) (_ : ∀ e b, φ.of (f e b) = φ.of e) (l : List β) (e : Eng), φ.of (l.foldl f e) = φ.of e) ∧
    ∀ {α β : Type} (f : α × Eng → β → α × Eng) (_ : ∀ a b, φ.of (f a b).2 = φ.of a.2) (l : List β) (a : α × Eng),
      φ.of (l.foldl f a).2 = φ.of a.2 :=
  ⟨fun c _ a b => Facet.of_ite c a b, fun c _ a b => Facet.of_ite_snd c a b, fun a e => Facet.of_mk_snd e a,
    fun f h l e => Facet.of_foldl e f h l, fun f h l a => Facet.of_foldl_snd f h l a⟩

/-- What closes a side condition of the frame lemmas, and a branch both of whose sides keep the facet. -/
theorem Facet.tidy :
    (∀ {α : Type} (c : Prop) [Decidable c] (a : α), (if c then a else a) = a) ∧ (∀ φ ψ : Facet, (φ ≠ ψ) = ¬φ = ψ) ∧
    ((¬False) = True) ∧ (∀ p : Prop, (p ∧ p) = p) ∧ ∀ α : Type, (α → True) = True :=
  ⟨fun _ _ _ => ite_self _, fun _ _ => rfl, not_false_eq_true, and_self, fun _ => implies_true _⟩

/-- What every engine shares is no facet: a quiet change keeps them all. -/
theorem Facet.of_quiet {e e' : Eng} (h : e.quiet e') : φ.of e' = φ.of e := by
  rw [show e' = e.sharedWith e' from h]
  cases φ <;> rfl

end

theorem Eng.moon_of_quiet {e e' : Eng} (h : e.quiet e') (k : Nat) : e'.moon k = e.moon k := by
  rw [Eng.moon, Eng.quiet_tl h, Eng.moon]

theorem Eng.moon_of_tl {e e' : Eng} (h : Facet.tl.of e' = Facet.tl.of e) (k : Nat) : e'.moon k = e.moon k :=
  congrArg (fun l => nth l k (MoonTl.atReset k)) h

section
variable {φ : Facet} (e : Eng) (x : Ctx) {s t : State}

/-! ## The frames of a command -/

theorem State.eng0_keeps (s : State) : φ.of s.eng0 = φ.of s.eng := Facet.with_out ..

theorem lift_keeps {g : Ctx → Eng → Eng} (h : lift g s = .next t) (hg : φ.of (g s.ctx s.eng0) = φ.of s.eng0) : φ.of t.eng = φ.of s.eng := by
  obtain ⟨-, rfl⟩ | ⟨-, rfl⟩ := lift_cases h
  · exact hg.trans s.eng0_keeps
  · exact s.eng0_keeps

theorem liftAlways_keeps {g : Ctx → Eng → Eng} (h : liftAlways g s = .next t) (hg : φ.of (g s.ctx s.eng0) = φ.of s.eng0) :
    φ.of t.eng = φ.of s.eng := by
  obtain rfl := liftAlways_eq h
  exact hg.trans s.eng0_keeps

theorem overLink_keeps {g : Ctx → Eng → Eng} (h : overLink g s = .next t) (hg : φ.of (g s.ctx s.eng0) = φ.of s.eng0) :
    φ.of t.eng = φ.of s.eng :=
  lift_keeps h (by simp only [↓Facet.push, hg, Facet.tidy])

/-! ## The basic operations -/

theorem Eng.set_keeps (k v) : φ.of (e.set k v) = φ.of e :=
  Facet.of_quiet (Eng.quiet_set (Eng.quiet_refl e) ..)

theorem Eng.add_keeps (w k n) : φ.of (e.add w k n) = φ.of e :=
  Facet.of_quiet (Eng.quiet_add (Eng.quiet_refl e) ..)

theorem Eng.inc32_keeps (k) : φ.of (e.inc32 k) = φ.of e :=
  Facet.of_quiet (Eng.quiet_inc32 (Eng.quiet_refl e) ..)

theorem Eng.inc64_keeps (k) : φ.of (e.inc64 k) = φ.of e :=
  Facet.of_quiet (Eng.quiet_inc64 (Eng.quiet_refl e) ..)

theorem Eng.orb_keeps (k mask) : φ.of (e.orb k mask) = φ.of e :=
  Facet.of_quiet (Eng.quiet_orb (Eng.quiet_refl e) ..)

theorem Eng.andc_keeps (k mask) : φ.of (e.andc k mask) = φ.of e := by
  unfold Eng.andc
  simp only [↓Eng.set_keeps]

theorem Eng.emit_keeps (o) : φ.of (e.emit o) = φ.of e :=
  Facet.of_quiet (Eng.quiet_emit (Eng.quiet_refl e) ..)

theorem Eng.drawn_keeps (hφ : φ ≠ .draws) : φ.of e.drawn = φ.of e := by
  unfold Eng.drawn
  simp only [↓Facet.with_draws, Facet.tidy, hφ]

theorem Eng.setMoon_keeps (k : Nat) (m : MoonTl) (hφ : φ ≠ .tl) (hr : φ ≠ .records) : φ.of (e.setMoon k m) = φ.of e :=
  Facet.with_tl _ _ hφ hr

/-- A change of a moon's timeline that leaves its present and its previous record keeps the records. -/
theorem Eng.setMoon_keeps_records (k : Nat) (m : MoonTl) (hφ : φ ≠ .tl) (hp : m.prev = (e.moon k).prev) (hc : m.cur = (e.moon k).cur) :
    φ.of (e.setMoon k m) = φ.of e := by
  by_cases hr : φ = .records
  · subst hr
    change (e.tl.set k m).map (fun m => (m.prev, m.cur)) = e.tl.map (fun m => (m.prev, m.cur))
    refine List.ext_getElem (by simp) fun i h1 h2 => ?_
    by_cases hk : k = i
    · subst hk
      simp [hp, hc, Eng.moon, nth, List.getElem?_eq_getElem (by simpa using h2 : k < e.tl.length)]
    · simp [List.getElem_set_ne hk]
  · exact e.setMoon_keeps k m hφ hr

theorem Eng.wrapBit_keeps (page i) : φ.of (e.wrapBit page i) = φ.of e := by
  unfold Eng.wrapBit
  dsimp only
  simp only [↓Facet.with_ctr, ↓Eng.orb_keeps]

theorem Eng.countN_keeps (ev n) : φ.of (e.countN x ev n) = φ.of e :=
  Facet.of_quiet (Eng.quiet_countN (Eng.quiet_refl e) ..)

theorem Eng.count_keeps (ev) : φ.of (e.count x ev) = φ.of e :=
  Facet.of_quiet (Eng.quiet_count (Eng.quiet_refl e) ..)

theorem Eng.vecPoke_keeps (v) : φ.of (e.vecPoke x v) = φ.of e := by
  unfold Eng.vecPoke
  dsimp only
  simp only [↓Facet.push, ↓Facet.with_irq, ↓Eng.emit_keeps, Facet.tidy]

theorem Eng.irqPoke_keeps (src) : φ.of (e.irqPoke x src) = φ.of e :=
  Facet.of_quiet (Eng.quiet_irqPoke (Eng.quiet_refl e) ..)

theorem Eng.irqLatch_keeps (src) : φ.of (e.irqLatch x src) = φ.of e :=
  Facet.of_quiet (Eng.quiet_irqLatch (Eng.quiet_refl e) ..)

theorem whenDue_keeps (due : Bool) (f : Eng → Eng) (hf : φ.of (f e) = φ.of e) : φ.of (whenDue due f e) = φ.of e := by
  unfold whenDue
  simp only [↓Facet.push, hf, Facet.tidy]

/-! ## Notifications -/

theorem Eng.arrive_keeps (path bytes) (hφ : φ ≠ .inbox) : φ.of (e.arrive x path bytes) = φ.of e := by
  unfold Eng.arrive
  simp only [↓Facet.push, ↓Facet.with_inbox, Facet.tidy, hφ]

theorem Eng.publish_keeps (kind body) : φ.of (e.publish x kind body) = φ.of e :=
  Facet.of_quiet (Eng.quiet_publish (Eng.quiet_refl e) ..)

theorem Eng.notify_keeps (event extra) : φ.of (e.notify x event extra) = φ.of e :=
  Facet.of_quiet (Eng.quiet_notify (Eng.quiet_refl e) ..)

/-! ## Faults -/

theorem Eng.recordFirst_keeps (d) : φ.of (e.recordFirst x d) = φ.of e :=
  Facet.of_quiet (Eng.quiet_recordFirst (Eng.quiet_refl e) ..)

theorem Eng.railChange_keeps (reason blocks first src cause) : φ.of (e.railChange x reason blocks first src cause) = φ.of e :=
  Facet.of_quiet (Eng.quiet_railChange (Eng.quiet_refl e) ..)

theorem Eng.endLinger_keeps (b) : φ.of (e.endLinger b) = φ.of e :=
  Facet.of_quiet (Eng.quiet_endLinger (Eng.quiet_refl e) ..)

theorem Eng.raise_keeps (d) : φ.of (e.raise x d) = φ.of e :=
  Facet.of_quiet (Eng.quiet_raise (Eng.quiet_refl e) ..)

theorem Eng.detect_keeps (b row inst) : φ.of (e.detect x b row inst) = φ.of e :=
  Facet.of_quiet (Eng.quiet_detect (Eng.quiet_refl e) ..)

theorem Eng.condOn_keeps (b row inst) : φ.of (e.condOn x b row inst) = φ.of e :=
  Facet.of_quiet (Eng.quiet_condOn (Eng.quiet_refl e) ..)

theorem Eng.condOff_keeps (b row inst) : φ.of (e.condOff x b row inst) = φ.of e :=
  Facet.of_quiet (Eng.quiet_condOff (Eng.quiet_refl e) ..)

/-! ## Operands -/

theorem Eng.account_keeps (persistent status) : φ.of (e.account x persistent status) = φ.of e :=
  Facet.of_quiet (Eng.quiet_account (Eng.quiet_refl e) ..)

theorem Eng.refusedHook_keeps (k st) : φ.of (e.refusedHook k st) = φ.of e := by
  unfold Eng.refusedHook
  dsimp only
  simp only [↓Facet.push, ↓Eng.inc32_keeps, ↓Eng.orb_keeps, Facet.tidy]

theorem Eng.step8_keeps (r : ObjRow) (k : Key) (v : Int) (op : Eng → WriteRes) (hop : φ.of (op e).2 = φ.of e) :
    φ.of (e.step8 r k v op).2 = φ.of e := by
  unfold Eng.step8
  dsimp only
  simp only [↓Facet.push, ↓Eng.refusedHook_keeps, hop, Facet.tidy]

theorem Eng.writeCmd_keeps (k : Key) (v : Int) (roles : Nat) (op : Eng → WriteRes) (hop : φ.of (op e).2 = φ.of e) :
    φ.of (e.writeCmd x k v roles op) = φ.of e := by
  unfold Eng.writeCmd
  dsimp only
  split <;> simp only [↓Facet.push, ↓Eng.account_keeps, ↓Eng.step8_keeps, hop, Facet.tidy]

theorem Eng.writeRecCmd_keeps (k : Key) (vs : List (Key × Int)) (roles : Nat) (op : Eng → WriteRes) (hop : φ.of (op e).2 = φ.of e) :
    φ.of (e.writeRecCmd x k vs roles op) = φ.of e := by
  unfold Eng.writeRecCmd
  dsimp only
  simp only [↓Facet.push, ↓Eng.account_keeps, ↓Eng.refusedHook_keeps, hop, Facet.tidy]

theorem Eng.setAll_keeps (vs) : φ.of (e.setAll vs) = φ.of e := by
  unfold Eng.setAll
  simp only [↓Facet.push, ↓Eng.set_keeps, Facet.tidy]

theorem Eng.recCmd_keeps (area : Nat) (item : Nat) (w : RecWrite) (roles : Nat) (op : List (Key × Int) → Eng → WriteRes) (hop : ∀ vs,
    φ.of (op vs e).2 = φ.of e) :
    φ.of (e.recCmd x area item w roles op) = φ.of e := by
  unfold Eng.recCmd
  dsimp only
  split <;> simp only [↓Facet.push, ↓Eng.writeCmd_keeps, ↓Eng.account_keeps, ↓Eng.writeRecCmd_keeps, hop, Facet.tidy]

/-! ## Flags -/

theorem Eng.moonSticky_keeps (k c) : φ.of (e.moonSticky k c) = φ.of e := by
  unfold Eng.moonSticky
  simp only [↓Eng.orb_keeps]

theorem Eng.moonRefused_keeps (k c) : φ.of (e.moonRefused k c) = φ.of e := by
  unfold Eng.moonRefused
  simp only [↓Eng.moonSticky_keeps, ↓Eng.inc32_keeps]

/-! ## The moons -/

theorem moonEnableWrite_keeps (k v) : φ.of (moonEnableWrite k v e).2 = φ.of e := by
  unfold moonEnableWrite
  simp only [↓Facet.push, ↓Eng.set_keeps]

theorem moonIncWrite_keeps (k v) : φ.of (moonIncWrite k v e).2 = φ.of e := by
  unfold moonIncWrite
  simp only [↓Facet.push, ↓Eng.set_keeps, Facet.tidy]

theorem moonStepWrite_keeps (k v) : φ.of (moonStepWrite k v e).2 = φ.of e := by
  unfold moonStepWrite
  simp only [↓Facet.push, ↓Eng.set_keeps, Facet.tidy]

theorem moonConsentWrite_keeps (k v) : φ.of (moonConsentWrite x k v e).2 = φ.of e := by
  unfold moonConsentWrite
  dsimp only
  simp only [↓Facet.push, ↓Eng.set_keeps, Facet.tidy]

theorem moonSetWrite_keeps (k v armed) : φ.of (moonSetWrite k v armed e).2 = φ.of e := by
  unfold moonSetWrite
  simp only [↓Facet.push, ↓Eng.set_keeps, Facet.tidy]

theorem moonSetArmedWrite_keeps (k v) : φ.of (moonSetArmedWrite k v e).2 = φ.of e := by
  unfold moonSetArmedWrite
  simp only [↓Facet.push, ↓Eng.set_keeps, Facet.tidy]

theorem jumpLimitWrite_keeps (k v) : φ.of (jumpLimitWrite x k v e).2 = φ.of e := by
  unfold jumpLimitWrite
  simp only [↓Facet.push, ↓Eng.set_keeps, Facet.tidy]

theorem cmpTargetWrite_keeps (k c v) (hφ : φ ≠ .cmpArmedAt) : φ.of (cmpTargetWrite x k c v e).2 = φ.of e := by
  unfold cmpTargetWrite
  dsimp only
  simp only [↓Facet.push, ↓Facet.with_cmpArmedAt, ↓Eng.set_keeps, Facet.tidy, hφ]

theorem Eng.cmpFire_keeps (k c) : φ.of (e.cmpFire x k c) = φ.of e := by
  unfold Eng.cmpFire
  simp only [↓Eng.irqLatch_keeps, ↓Eng.set_keeps]

theorem Eng.cmpDisarm_keeps (k) : φ.of (e.cmpDisarm k) = φ.of e := by
  unfold Eng.cmpDisarm
  simp only [↓Facet.push, ↓Eng.set_keeps, Facet.tidy]

theorem Eng.consumeConsent_keeps (k) : φ.of (e.consumeConsent k) = φ.of e := by
  unfold Eng.consumeConsent
  simp only [↓Eng.set_keeps]

theorem Eng.decideOwn_keeps (k) : φ.of (e.decideOwn x k).2 = φ.of e := by
  unfold Eng.decideOwn
  dsimp only
  simp only [↓Facet.push, ↓Eng.moonSticky_keeps, ↓Eng.inc32_keeps, Facet.tidy]
  split <;> simp only [↓Facet.push, ↓Eng.set_keeps, ↓Eng.moonRefused_keeps, ↓Eng.consumeConsent_keeps, Facet.tidy]

theorem Eng.decideFollower_keeps (k b d0) : φ.of (e.decideFollower x k b d0).2 = φ.of e := by
  unfold Eng.decideFollower
  dsimp only
  simp only [↓Facet.push, ↓Eng.set_keeps, Facet.tidy]

theorem Eng.sealMoon_keeps (k b d st bound) (hφ : φ ≠ .tl ∧ φ ≠ .records) : φ.of (e.sealMoon x k b d st bound) = φ.of e := by
  unfold Eng.sealMoon
  dsimp only
  simp only [↓Eng.setMoon_keeps, Facet.tidy, hφ]

theorem Eng.swapMoon_keeps (k) (hφ : φ ≠ .tl ∧ φ ≠ .records) : φ.of (e.swapMoon x k) = φ.of e := by
  unfold Eng.swapMoon
  dsimp only
  simp only [↓Facet.push, ↓Eng.detect_keeps, ↓Eng.set_keeps, ↓Eng.setMoon_keeps, Facet.tidy, hφ]

theorem Eng.copiesSplit_keeps (k) : φ.of (e.copiesSplit x k) = φ.of e := by
  unfold Eng.copiesSplit
  simp only [↓Eng.detect_keeps]

theorem Eng.copyOdd_keeps (k c) (hφ : φ ≠ .tl) : φ.of (e.copyOdd x k c) = φ.of e := by
  have hm : ((e.inc32 (Od.MOON_STATUS.votes_corrected k)).detect x 0 1 k).moon k = e.moon k :=
    Eng.moon_of_quiet (Eng.quiet_detect (Eng.quiet_inc32 (Eng.quiet_refl e) _) x 0 1 k) k
  unfold Eng.copyOdd
  dsimp only
  split <;>
    simp only [↓Facet.push, ↓Eng.copiesSplit_keeps, ↓Eng.detect_keeps, ↓Eng.moonSticky_keeps, ↓Eng.set_keeps,
      ↓Eng.setMoon_keeps_records, ↓Eng.inc32_keeps, Facet.tidy, hφ, hm]

theorem Eng.upset_keeps (u) (hφ : φ ≠ .tl) : φ.of (e.upset x u) = φ.of e := by
  unfold Eng.upset
  split <;> simp only [↓Eng.copyOdd_keeps, ↓Eng.copiesSplit_keeps, Facet.tidy, hφ]

theorem execMoonConfigEnableWrite_keeps (moon value roles) (h : execMoonConfigEnableWrite moon value roles s = .next t) :
    φ.of t.eng = φ.of s.eng :=
  lift_keeps h (by simp only [↓Eng.writeCmd_keeps, ↓moonEnableWrite_keeps])

theorem execMoonIncStagedWrite_keeps (moon value roles) (h : execMoonIncStagedWrite moon value roles s = .next t) :
    φ.of t.eng = φ.of s.eng :=
  lift_keeps h (by simp only [↓Eng.writeCmd_keeps, ↓moonIncWrite_keeps])

theorem execMoonStepStagedWrite_keeps (moon value roles) (h : execMoonStepStagedWrite moon value roles s = .next t) :
    φ.of t.eng = φ.of s.eng :=
  lift_keeps h (by simp only [↓Eng.writeCmd_keeps, ↓moonStepWrite_keeps])

theorem execMoonConsentWrite_keeps (moon bound roles) (h : execMoonConsentWrite moon bound roles s = .next t) : φ.of t.eng = φ.of s.eng :=
  lift_keeps h (by simp only [↓Eng.writeCmd_keeps, ↓moonConsentWrite_keeps])

theorem execMoonSetValueWrite_keeps (moon value roles) (h : execMoonSetValueWrite moon value roles s = .next t) : φ.of t.eng = φ.of s.eng :=
  lift_keeps h (by simp only [↓Eng.writeCmd_keeps, ↓moonSetWrite_keeps])

theorem execMoonSetArmedWrite_keeps (moon value roles) (h : execMoonSetArmedWrite moon value roles s = .next t) : φ.of t.eng = φ.of s.eng :=
  lift_keeps h (by simp only [↓Eng.writeCmd_keeps, ↓moonSetArmedWrite_keeps])

theorem execMoonSetRecordWrite_keeps (moon armed value roles) (h : execMoonSetRecordWrite moon armed value roles s = .next t) :
    φ.of t.eng = φ.of s.eng :=
  lift_keeps h (by simp only [↓Eng.writeRecCmd_keeps, ↓moonSetWrite_keeps])

theorem execMoonCmpTargetWrite_keeps (moon cell target roles) (hφ : φ ≠ .cmpArmedAt)
    (h : execMoonCmpTargetWrite moon cell target roles s = .next t) :
    φ.of t.eng = φ.of s.eng :=
  lift_keeps h (by simp only [↓Eng.writeCmd_keeps, ↓cmpTargetWrite_keeps, Facet.tidy, hφ])

theorem execCompareCellFire_keeps (moon cell) (h : execCompareCellFire moon cell s = .next t) : φ.of t.eng = φ.of s.eng :=
  lift_keeps h (by simp only [↓whenDue_keeps, ↓Eng.cmpFire_keeps])

theorem execConsentExpiry_keeps (moon) (h : execConsentExpiry moon s = .next t) : φ.of t.eng = φ.of s.eng :=
  lift_keeps h (by simp only [↓whenDue_keeps, ↓Eng.set_keeps])

/-! ## The schedule -/

theorem Eng.setEntry_keeps (i s) (hφ : φ ≠ .sched) : φ.of (e.setEntry i s) = φ.of e := by
  unfold Eng.setEntry
  simp only [↓Facet.with_sched, Facet.tidy, hφ]

theorem Eng.enqueue_keeps (i s t inst late) (hφ : φ ≠ .sched) : φ.of (e.enqueue i s t inst late) = φ.of e := by
  unfold Eng.enqueue
  dsimp only
  simp only [↓Facet.push, ↓Eng.setEntry_keeps, ↓Eng.orb_keeps, ↓Eng.inc32_keeps, Facet.tidy, hφ]

theorem Eng.armEntry_keeps (i s) (hφ : φ ≠ .sched) : φ.of (e.armEntry x i s) = φ.of e := by
  unfold Eng.armEntry
  dsimp only
  simp only [↓Facet.push, ↓Eng.setEntry_keeps, ↓Eng.enqueue_keeps, Facet.tidy, hφ]

theorem schedWhole_keeps (i s) (hφ : φ ≠ .sched) : φ.of (schedWhole x i s e).2 = φ.of e := by
  unfold schedWhole
  dsimp only
  simp only [↓Facet.push, ↓Eng.armEntry_keeps, Facet.tidy, hφ]

theorem schedWrite_keeps (i w roles) (hφ : φ ≠ .sched) : φ.of (schedWrite x i w roles e).2 = φ.of e := by
  unfold schedWrite
  dsimp only
  repeat' split
  all_goals simp only [↓Facet.push, ↓schedWhole_keeps, Facet.tidy, hφ]

theorem schedEmptyWrite_keeps (i v) (hφ : φ ≠ .sched) : φ.of (schedEmptyWrite i v e).2 = φ.of e := by
  unfold schedEmptyWrite
  dsimp only
  simp only [↓Facet.push, ↓Facet.with_sched, Facet.tidy, hφ]

theorem Eng.evaluationPass_keeps (hφ : φ ≠ .sched) : φ.of (e.evaluationPass x) = φ.of e := by
  unfold Eng.evaluationPass
  simp only [↓Facet.push, ↓Eng.enqueue_keeps, Facet.tidy, hφ]

theorem Eng.countFiring_keeps (i late stepped) : φ.of (e.countFiring x i late stepped) = φ.of e := by
  unfold Eng.countFiring
  dsimp only
  simp only [↓Facet.push, ↓Eng.count_keeps, ↓Eng.inc32_keeps, ↓Eng.set_keeps, ↓Eng.orb_keeps, Facet.tidy]

theorem Eng.rearm_keeps (i s) (hφ : φ ≠ .sched) : φ.of (e.rearm x i s) = φ.of e := by
  unfold Eng.rearm
  simp only [↓Facet.push, ↓Eng.setEntry_keeps, ↓Eng.armEntry_keeps, Facet.tidy, hφ]

theorem Eng.countRefusedAction_keeps (status) : φ.of (e.countRefusedAction status) = φ.of e := by
  unfold Eng.countRefusedAction
  simp only [↓Facet.push, ↓Eng.orb_keeps, ↓Eng.inc32_keeps, Facet.tidy]

theorem Eng.fire_keeps (i : Nat) (act : SchedEntry → Eng → WriteRes) (hφ : φ ≠ .sched) (hact : ∀ s e, φ.of (act s e).2 = φ.of e) :
    φ.of (e.fire x i act) = φ.of e := by
  unfold Eng.fire
  dsimp only
  simp only [↓Eng.countFiring_keeps, ↓Eng.rearm_keeps, ↓Eng.countRefusedAction_keeps, hact, Facet.tidy, hφ]

theorem Eng.fireStepped_keeps (i : Nat) (hi : Nat) (act : SchedEntry → Eng → WriteRes) (hφ : φ ≠ .sched) (hact : ∀ s e,
    φ.of (act s e).2 = φ.of e) :
    φ.of (e.fireStepped x i hi act) = φ.of e := by
  unfold Eng.fireStepped
  dsimp only
  simp only [↓Facet.push, ↓Eng.countFiring_keeps, ↓Eng.countRefusedAction_keeps, ↓Eng.setEntry_keeps, ↓Eng.armEntry_keeps, hact, Facet.tidy,
    hφ]

theorem Eng.voidUser_keeps (k) (hφ : φ ≠ .sched) : φ.of (e.voidUser k) = φ.of e := by
  unfold Eng.voidUser
  dsimp only
  simp only [↓Facet.push, ↓Eng.orb_keeps, ↓Eng.inc32_keeps, ↓Eng.setEntry_keeps, Facet.tidy, hφ]

theorem Eng.requeue_keeps (k) (hφ : φ ≠ .sched) : φ.of (e.requeue x k) = φ.of e := by
  unfold Eng.requeue
  dsimp only
  simp only [↓Facet.push, ↓Eng.armEntry_keeps, Facet.tidy, hφ]

theorem Eng.haltEntries_keeps (k) (hφ : φ ≠ .sched) : φ.of (e.haltEntries k) = φ.of e := by
  unfold Eng.haltEntries
  dsimp only
  simp only [↓Facet.push, ↓Eng.setEntry_keeps, Facet.tidy, hφ]

theorem Eng.judgeResumed_keeps (k) (hφ : φ ≠ .sched) : φ.of (e.judgeResumed x k) = φ.of e := by
  unfold Eng.judgeResumed
  dsimp only
  simp only [↓Facet.push, ↓Eng.inc32_keeps, ↓Eng.setEntry_keeps, ↓Eng.enqueue_keeps, Facet.tidy, hφ]

theorem Eng.idleTracker_keeps (i) (hφ : φ ≠ .sched) : φ.of (e.idleTracker i) = φ.of e := by
  unfold Eng.idleTracker
  dsimp only
  simp only [↓Facet.push, ↓Eng.setEntry_keeps, Facet.tidy, hφ]

theorem Eng.armTracker_keeps (k) (hφ : φ ≠ .sched) : φ.of (e.armTracker x k) = φ.of e := by
  unfold Eng.armTracker
  dsimp only
  split <;> simp only [↓Facet.push, ↓Eng.idleTracker_keeps, ↓Eng.armEntry_keeps, Facet.tidy, hφ]

theorem Eng.recomputeTracker_keeps (k) (hφ : φ ≠ .tl ∧ φ ≠ .sched) : φ.of (e.recomputeTracker x k) = φ.of e := by
  unfold Eng.recomputeTracker
  dsimp only
  simp only [↓Eng.setMoon_keeps_records, ↓Eng.armTracker_keeps, ↓Eng.idleTracker_keeps, Facet.tidy, hφ]

theorem Eng.recomputeTrackers_keeps (hφ : φ ≠ .tl ∧ φ ≠ .sched) : φ.of (e.recomputeTrackers x) = φ.of e := by
  unfold Eng.recomputeTrackers
  simp only [↓Facet.push, ↓Eng.recomputeTracker_keeps, Facet.tidy, hφ]

theorem Eng.fireLeap_keeps (k stepped) (hφ : φ ≠ .tl ∧ φ ≠ .sched) : φ.of (e.fireLeap x k stepped) = φ.of e := by
  unfold Eng.fireLeap
  dsimp only
  simp only [↓Eng.irqLatch_keeps, ↓Eng.countFiring_keeps, ↓Eng.setEntry_keeps, ↓Eng.recomputeTracker_keeps, ↓Eng.setMoon_keeps_records,
    Facet.tidy, hφ]

theorem leapWrite_keeps (i vs) (hφ : φ ≠ .tl ∧ φ ≠ .sched) : φ.of (leapWrite x i vs e).2 = φ.of e := by
  unfold leapWrite
  dsimp only
  simp only [↓Facet.push, ↓Facet.with_od, ↓Eng.recomputeTrackers_keeps, Facet.tidy, hφ]

theorem execLeapBaseWrite_keeps (value roles) (hφ : φ ≠ .tl ∧ φ ≠ .sched) (h : execLeapBaseWrite value roles s = .next t) :
    φ.of t.eng = φ.of s.eng :=
  lift_keeps h (by simp only [↓Eng.writeCmd_keeps, ↓leapWrite_keeps, Facet.tidy, hφ])

theorem execLeapEntryWrite_keeps (entry w roles) (hφ : φ ≠ .tl ∧ φ ≠ .sched) (h : execLeapEntryWrite entry w roles s = .next t) :
    φ.of t.eng = φ.of s.eng :=
  lift_keeps h (by simp only [↓Eng.writeRecCmd_keeps, ↓leapWrite_keeps, Facet.tidy, hφ])

theorem execSchedEntryWrite_keeps (entry w roles) (hφ : φ ≠ .sched) (h : execSchedEntryWrite entry w roles s = .next t) :
    φ.of t.eng = φ.of s.eng :=
  lift_keeps h (by simp only [↓Eng.writeRecCmd_keeps, ↓schedWrite_keeps, Facet.tidy, hφ])

theorem execSchedEntryEmpty_keeps (entry value roles) (hφ : φ ≠ .sched) (h : execSchedEntryEmpty entry value roles s = .next t) :
    φ.of t.eng = φ.of s.eng :=
  lift_keeps h (by simp only [↓Eng.writeCmd_keeps, ↓schedEmptyWrite_keeps, Facet.tidy, hφ])

theorem execSchedEvaluationPass_keeps (hφ : φ ≠ .sched) (h : execSchedEvaluationPass s = .next t) : φ.of t.eng = φ.of s.eng :=
  lift_keeps h (by simp only [↓whenDue_keeps, ↓Eng.evaluationPass_keeps, Facet.tidy, hφ])

theorem execLeapPoint_keeps (moon) (hφ : φ ≠ .tl ∧ φ ≠ .sched) (h : execLeapPoint moon s = .next t) : φ.of t.eng = φ.of s.eng :=
  lift_keeps h (by simp only [↓whenDue_keeps, ↓Eng.fireLeap_keeps, Facet.tidy, hφ])

/-! ## The calendars -/

theorem Eng.modPort_keeps (p f) (hφ : φ ≠ .ports) : φ.of (e.modPort p f) = φ.of e := by
  unfold Eng.modPort
  simp only [↓Facet.with_ports, Facet.tidy, hφ]

theorem Eng.modLane_keeps (l f) (hφ : φ ≠ .lanes) : φ.of (e.modLane l f) = φ.of e := by
  unfold Eng.modLane
  simp only [↓Facet.with_lanes, Facet.tidy, hφ]

theorem Eng.setFrom_keeps (k v from_) (hφ : φ ≠ .ans) : φ.of (e.setFrom x k v from_) = φ.of e := by
  unfold Eng.setFrom
  dsimp only
  simp only [↓Facet.with_ans, ↓Eng.set_keeps, Facet.tidy, hφ]

theorem Eng.setLater_keeps (k v) (hφ : φ ≠ .ans) : φ.of (e.setLater x k v) = φ.of e := by
  unfold Eng.setLater
  simp only [↓Eng.setFrom_keeps, Facet.tidy, hφ]

theorem Eng.modTx_keeps (r f) (hφ : φ ≠ .txRings) : φ.of (e.modTx r f) = φ.of e := by
  unfold Eng.modTx
  simp only [↓Facet.with_txRings, Facet.tidy, hφ]

theorem Eng.countTxDone_keeps (r status) : φ.of (e.countTxDone r status) = φ.of e := by
  unfold Eng.countTxDone
  dsimp only
  simp only [↓Facet.push, ↓Eng.inc64_keeps, ↓Eng.orb_keeps, Facet.tidy]

theorem Eng.txWriteBack_keeps (r n) (hφ : φ ≠ .txRings) : φ.of (e.txWriteBack x r n) = φ.of e := by
  induction n generalizing e with
  | zero => rfl
  | succ n ih =>
    unfold Eng.txWriteBack
    dsimp only
    repeat' split
    all_goals simp only [↓Facet.with_out, ↓Eng.modTx_keeps, ↓Eng.irqPoke_keeps, ↓ih, Facet.tidy, hφ]

theorem Eng.txFinish_keeps (r first status) (hφ : φ ≠ .txRings) : φ.of (e.txFinish x r first status) = φ.of e := by
  unfold Eng.txFinish
  dsimp only
  simp only [↓Eng.modTx_keeps, ↓Eng.txWriteBack_keeps, ↓Eng.countTxDone_keeps, Facet.tidy, hφ]

theorem Eng.tailAdd_keeps (p y) (hφ : φ ≠ .tails) : φ.of (e.tailAdd x p y) = φ.of e := by
  unfold Eng.tailAdd
  simp only [↓Facet.with_tails, ↓Eng.irqPoke_keeps, Facet.tidy, hφ]

theorem Eng.modCal_keeps (p f) (hφ : φ ≠ .cals) : φ.of (e.modCal p f) = φ.of e := by
  unfold Eng.modCal
  simp only [↓Facet.with_cals, Facet.tidy, hφ]

theorem Eng.depCount_keeps (p k) : φ.of (e.depCount x p k) = φ.of e := by
  unfold Eng.depCount
  simp only [↓Eng.count_keeps]

theorem Eng.depMiss_keeps (p k) : φ.of (e.depMiss x p k) = φ.of e := by
  unfold Eng.depMiss
  dsimp only
  simp only [↓Eng.inc64_keeps, ↓Eng.depCount_keeps, ↓Eng.set_keeps, ↓Eng.orb_keeps]

theorem Eng.slotCount_keeps (pipe k) : φ.of (e.slotCount x pipe k) = φ.of e := by
  unfold Eng.slotCount
  simp only [↓Eng.count_keeps]

theorem Eng.ansDropped_keeps (pipe rule k) : φ.of (e.ansDropped x pipe rule k) = φ.of e := by
  unfold Eng.ansDropped
  simp only [↓Eng.inc64_keeps, ↓Eng.slotCount_keeps]

theorem Eng.depTell_keeps (p k o) (hφ : φ ≠ .txRings ∧ φ ≠ .tails) : φ.of (e.depTell x p k o) = φ.of e := by
  unfold Eng.depTell
  split <;> simp only [↓Eng.ansDropped_keeps, ↓Eng.inc64_keeps, ↓Eng.txFinish_keeps, ↓Eng.tailAdd_keeps, Facet.tidy, hφ]

theorem Eng.resvDiscard_keeps (p k r) (hφ : φ ≠ .txRings ∧ φ ≠ .tails) : φ.of (e.resvDiscard x p k r) = φ.of e := by
  unfold Eng.resvDiscard
  simp only [↓Eng.depTell_keeps, ↓Eng.depMiss_keeps, Facet.tidy, hφ]

theorem Eng.discardAll_keeps (p k which) (hφ : φ ≠ .cals ∧ φ ≠ .txRings ∧ φ ≠ .tails) : φ.of (e.discardAll x p k which) = φ.of e := by
  unfold Eng.discardAll
  dsimp only
  simp only [↓Facet.push, ↓Eng.modCal_keeps, ↓Eng.resvDiscard_keeps, Facet.tidy, hφ]

theorem Eng.withdraw_keeps (p block) (hφ : φ ≠ .cals) : φ.of (e.withdraw x p block) = φ.of e := by
  unfold Eng.withdraw
  simp only [↓Eng.depCount_keeps, ↓Eng.modCal_keeps, Facet.tidy, hφ]

theorem Eng.reserve_keeps (p g frame prio host o) (hφ : φ ≠ .cals) : φ.of (e.reserve x p g frame prio host o) = φ.of e := by
  unfold Eng.reserve
  dsimp only
  simp only [↓Eng.modCal_keeps, ↓Eng.set_keeps, ↓Eng.depCount_keeps, Facet.tidy, hφ]

/-! ## The ports -/

theorem Eng.portCount_keeps (p off) : φ.of (e.portCount x p off) = φ.of e := by
  unfold Eng.portCount
  simp only [↓Eng.count_keeps]

theorem Eng.tsFall_keeps (p) (hφ : φ ≠ .lanes ∧ φ ≠ .cals ∧ φ ≠ .txRings ∧ φ ≠ .tails) : φ.of (e.tsFall x p) = φ.of e := by
  unfold Eng.tsFall
  dsimp only
  simp only [↓Facet.push, ↓Eng.set_keeps, ↓Eng.modLane_keeps, ↓Eng.discardAll_keeps, Facet.tidy, hφ]

theorem Eng.linkChanged_keeps (p) : φ.of (e.linkChanged x p) = φ.of e := by
  unfold Eng.linkChanged
  simp only [↓Eng.irqLatch_keeps, ↓Eng.set_keeps, ↓Eng.inc32_keeps]

theorem Eng.linkFall_keeps (p) (hφ : φ ≠ .lanes ∧ φ ≠ .cals ∧ φ ≠ .txRings ∧ φ ≠ .tails) : φ.of (e.linkFall x p) = φ.of e := by
  unfold Eng.linkFall
  dsimp only
  simp only [↓Facet.push, ↓Eng.set_keeps, ↓Eng.linkChanged_keeps, ↓Eng.orb_keeps, ↓Eng.portCount_keeps, ↓Eng.tsFall_keeps,
    ↓Eng.discardAll_keeps, ↓Eng.modLane_keeps, Facet.tidy, hφ]

theorem Eng.linkRise_keeps (p) (hφ : φ ≠ .lanes) : φ.of (e.linkRise x p) = φ.of e := by
  unfold Eng.linkRise
  dsimp only
  simp only [↓Facet.push, ↓Eng.set_keeps, ↓Eng.modLane_keeps, ↓Eng.linkChanged_keeps, Facet.tidy, hφ]

theorem Eng.groupDown_keeps (g) (hφ : φ ≠ .lanes ∧ φ ≠ .cals ∧ φ ≠ .txRings ∧ φ ≠ .tails) : φ.of (e.groupDown x g) = φ.of e := by
  unfold Eng.groupDown
  simp only [↓Facet.push, ↓Eng.linkFall_keeps, Facet.tidy, hφ]

theorem laneGroupWrite_keeps (g v) (hφ : φ ≠ .lanes ∧ φ ≠ .cals ∧ φ ≠ .txRings ∧ φ ≠ .tails) :
    φ.of (laneGroupWrite x g v e).2 = φ.of e := by
  unfold laneGroupWrite
  dsimp only
  simp only [↓Facet.push, ↓Facet.with_tails, ↓Eng.groupDown_keeps, ↓Eng.discardAll_keeps, ↓Eng.set_keeps, ↓Eng.modCal_keeps, Facet.tidy, hφ]

theorem portEnableWrite_keeps (p v) (hφ : φ ≠ .lanes ∧ φ ≠ .cals ∧ φ ≠ .txRings ∧ φ ≠ .tails) :
    φ.of (portEnableWrite x p v e).2 = φ.of e := by
  unfold portEnableWrite
  dsimp only
  simp only [↓Facet.push, ↓Eng.set_keeps, ↓Eng.linkFall_keeps, Facet.tidy, hφ]

theorem laneIfWrite_keeps (l v) (hφ : φ ≠ .lanes ∧ φ ≠ .cals ∧ φ ≠ .txRings ∧ φ ≠ .tails) : φ.of (laneIfWrite x l v e).2 = φ.of e := by
  unfold laneIfWrite
  dsimp only
  split <;> simp only [↓Eng.linkFall_keeps, ↓Eng.set_keeps, Facet.tidy, hφ]

theorem svcWrite_keeps (v6 i vs) (hφ : φ ≠ .cls) : φ.of (svcWrite v6 i vs e).2 = φ.of e := by
  unfold svcWrite
  dsimp only
  simp only [↓Facet.push, ↓Facet.with_cls, ↓Eng.setAll_keeps, Facet.tidy, hφ]

theorem ruleEditWrite_keeps (vs) : φ.of (ruleEditWrite vs e).2 = φ.of e := by
  unfold ruleEditWrite
  simp only [↓Facet.push, ↓Eng.setAll_keeps, Facet.tidy]

theorem ruleCommitWrite_keeps (v) (hφ : φ ≠ .cls) : φ.of (ruleCommitWrite x v e).2 = φ.of e := by
  unfold ruleCommitWrite
  dsimp only
  repeat' split
  all_goals simp only [↓Facet.push, ↓Facet.with_cls, ↓Eng.set_keeps, Facet.tidy, hφ]

theorem Eng.bankSwap_keeps (t) (hφ : φ ≠ .cls) : φ.of (e.bankSwap x t) = φ.of e := by
  unfold Eng.bankSwap
  dsimp only
  simp only [↓Facet.with_od_cls, ↓Eng.inc32_keeps, ↓Eng.set_keeps, Facet.tidy, hφ]

theorem Eng.sendPause_keeps (p quanta) (hφ : φ ≠ .ports) : φ.of (e.sendPause x p quanta) = φ.of e := by
  unfold Eng.sendPause
  dsimp only
  simp only [↓Facet.push, ↓Eng.emit_keeps, ↓Eng.portCount_keeps, ↓Eng.countN_keeps, ↓Eng.modPort_keeps, Facet.tidy, hφ]

theorem Eng.hold_keeps (p h) (hφ : φ ≠ .ports) : φ.of (e.hold x p h) = φ.of e := by
  unfold Eng.hold
  dsimp only
  simp only [↓Facet.push, ↓Eng.orb_keeps, ↓Eng.inc64_keeps, ↓Eng.modPort_keeps, ↓Eng.sendPause_keeps, Facet.tidy, hφ]

theorem Eng.toRing_keeps (v ring rule o) (hφ : φ ≠ .ports) : φ.of (e.toRing x v ring rule o) = φ.of e := by
  unfold Eng.toRing
  dsimp only
  split <;> simp only [↓Eng.hold_keeps, Facet.tidy, hφ]

theorem Eng.sendUntimed_keeps (p fw prio bytes) (hφ : φ ≠ .ports) : φ.of (e.sendUntimed p fw prio bytes) = φ.of e := by
  unfold Eng.sendUntimed
  simp only [↓Eng.modPort_keeps, Facet.tidy, hφ]

theorem Eng.modPipe_keeps (i f) (hφ : φ ≠ .ans) : φ.of (e.modPipe i f) = φ.of e := by
  unfold Eng.modPipe
  dsimp only
  simp only [↓Facet.with_ans, Facet.tidy, hφ]

theorem Eng.dispatch_keeps (q) (hφ : φ ≠ .ans) : φ.of (e.dispatch q) = φ.of e := by
  unfold Eng.dispatch
  dsimp only
  split <;> simp only [↓Facet.with_ans, ↓Eng.modPipe_keeps, ↓Eng.orb_keeps, ↓Eng.inc64_keeps, Facet.tidy, hφ]

theorem Eng.inBand_keeps (v mac) (hφ : φ ≠ .inbox) : φ.of (e.inBand x v mac) = φ.of e := by
  unfold Eng.inBand
  dsimp only
  repeat' split
  all_goals simp only [↓Eng.portCount_keeps, ↓Eng.inc32_keeps, ↓Eng.count_keeps, ↓Eng.arrive_keeps, Facet.tidy, hφ]

theorem Eng.act_keeps (v n r) (hφ : φ ≠ .ports ∧ φ ≠ .ans ∧ φ ≠ .inbox ∧ φ ≠ .ptpIn) : φ.of (e.act x v n r) = φ.of e := by
  unfold Eng.act
  dsimp only
  repeat' split
  all_goals simp only [↓Facet.with_ptpIn, ↓Eng.dispatch_keeps, ↓Eng.portCount_keeps, ↓Eng.toRing_keeps, ↓Eng.sendUntimed_keeps,
    ↓Eng.inBand_keeps, Facet.tidy, hφ]

theorem Eng.mirror_keeps (v n r) (hφ : φ ≠ .ports ∧ φ ≠ .cls) : φ.of (e.mirror x v n r) = φ.of e := by
  unfold Eng.mirror
  dsimp only
  simp only [↓Facet.push, ↓Facet.with_cls, ↓Eng.toRing_keeps, Facet.tidy, hφ]

theorem Eng.classify_keeps (v) (hφ : φ ≠ .ports ∧ φ ≠ .cls ∧ φ ≠ .ans ∧ φ ≠ .inbox ∧ φ ≠ .ptpIn) : φ.of (e.classify x v) = φ.of e := by
  unfold Eng.classify
  dsimp only
  split <;> simp only [↓Facet.push, ↓Eng.portCount_keeps, ↓Eng.act_keeps, ↓Eng.mirror_keeps, ↓Eng.count_keeps, ↓Eng.toRing_keeps,
    Facet.tidy, hφ]

theorem Eng.flowControl_keeps (p bs) (hφ : φ ≠ .ports) : φ.of (e.flowControl x p bs) = φ.of e := by
  unfold Eng.flowControl
  dsimp only
  simp only [↓Facet.push, ↓Eng.portCount_keeps, ↓Eng.modPort_keeps, Facet.tidy, hφ]

theorem Eng.esmcRx_keeps (p bs) (hφ : φ ≠ .ports) : φ.of (e.esmcRx x p bs) = φ.of e := by
  unfold Eng.esmcRx
  dsimp only
  simp only [↓Eng.portCount_keeps, ↓Eng.set_keeps, ↓Eng.modPort_keeps, Facet.tidy, hφ]

theorem Eng.rxStages_keeps (f body oversize) (hφ : φ ≠ .ports ∧ φ ≠ .cls ∧ φ ≠ .ans ∧ φ ≠ .inbox ∧ φ ≠ .ptpIn) :
    φ.of (e.rxStages x f body oversize) = φ.of e := by
  unfold Eng.rxStages
  dsimp only
  simp only [↓Facet.push, ↓Eng.flowControl_keeps, ↓Eng.esmcRx_keeps, ↓Eng.orb_keeps, ↓Eng.portCount_keeps, ↓Eng.classify_keeps, Facet.tidy,
    hφ]

theorem Eng.receive_keeps (f) (hφ : φ ≠ .ports ∧ φ ≠ .cls ∧ φ ≠ .ans ∧ φ ≠ .inbox ∧ φ ≠ .ptpIn) : φ.of (e.receive x f) = φ.of e := by
  unfold Eng.receive
  dsimp only
  simp only [↓Facet.push, ↓Eng.countN_keeps, ↓Eng.portCount_keeps, ↓Eng.orb_keeps, ↓Eng.hold_keeps, ↓Eng.rxStages_keeps, Facet.tidy, hφ]

theorem execLaneGroupModeWrite_keeps (group value roles) (hφ : φ ≠ .lanes ∧ φ ≠ .cals ∧ φ ≠ .txRings ∧ φ ≠ .tails)
    (h : execLaneGroupModeWrite group value roles s = .next t) :
    φ.of t.eng = φ.of s.eng :=
  lift_keeps h (by simp only [↓Eng.writeCmd_keeps, ↓laneGroupWrite_keeps, Facet.tidy, hφ])

theorem execPortEnableWrite_keeps (port value roles) (hφ : φ ≠ .lanes ∧ φ ≠ .cals ∧ φ ≠ .txRings ∧ φ ≠ .tails)
    (h : execPortEnableWrite port value roles s = .next t) :
    φ.of t.eng = φ.of s.eng :=
  lift_keeps h (by simp only [↓Eng.writeCmd_keeps, ↓portEnableWrite_keeps, Facet.tidy, hφ])

theorem execLaneIfWrite_keeps (lane value roles) (hφ : φ ≠ .lanes ∧ φ ≠ .cals ∧ φ ≠ .txRings ∧ φ ≠ .tails)
    (h : execLaneIfWrite lane value roles s = .next t) :
    φ.of t.eng = φ.of s.eng :=
  lift_keeps h (by simp only [↓Eng.writeCmd_keeps, ↓laneIfWrite_keeps, Facet.tidy, hφ])

theorem execLinkUp_keeps (port) (hφ : φ ≠ .lanes) (h : execLinkUp port s = .next t) : φ.of t.eng = φ.of s.eng :=
  lift_keeps h (by simp only [↓whenDue_keeps, ↓Eng.linkRise_keeps, Facet.tidy, hφ])

theorem execLinkDown_keeps (port cause) (hφ : φ ≠ .lanes ∧ φ ≠ .cals ∧ φ ≠ .txRings ∧ φ ≠ .tails)
    (h : execLinkDown port cause s = .next t) :
    φ.of t.eng = φ.of s.eng := by
  refine lift_keeps h ?_
  split
  · exact whenDue_keeps _ _ _ (by simp only [↓Eng.portCount_keeps])
  · exact whenDue_keeps _ _ _ (by simp only [↓Eng.linkFall_keeps, ↓Eng.orb_keeps, ↓Eng.portCount_keeps, Facet.tidy, hφ])
  · simp only [↓Eng.linkFall_keeps, Facet.tidy, hφ]

theorem execFrameReceive_keeps (frame) (hφ : φ ≠ .ports ∧ φ ≠ .cls ∧ φ ≠ .ans ∧ φ ≠ .inbox ∧ φ ≠ .ptpIn)
    (h : execFrameReceive frame s = .next t) :
    φ.of t.eng = φ.of s.eng :=
  lift_keeps h (by simp only [↓Eng.receive_keeps, Facet.tidy, hφ])

theorem execPauseXoffRepeat_keeps (port) (hφ : φ ≠ .ports) (h : execPauseXoffRepeat port s = .next t) : φ.of t.eng = φ.of s.eng :=
  lift_keeps h (by simp only [↓whenDue_keeps, ↓Eng.sendPause_keeps, Facet.tidy, hφ])

theorem execPauseEnd_keeps (port) (hφ : φ ≠ .ports) (h : execPauseEnd port s = .next t) : φ.of t.eng = φ.of s.eng :=
  lift_keeps h (by simp only [↓Eng.modPort_keeps, Facet.tidy, hφ])

theorem execRuleCommit_keeps (value roles) (hφ : φ ≠ .cls) (h : execRuleCommit value roles s = .next t) : φ.of t.eng = φ.of s.eng :=
  lift_keeps h (by simp only [↓Eng.writeCmd_keeps, ↓ruleCommitWrite_keeps, Facet.tidy, hφ])

theorem execRuleCommitTakeEffect_keeps (hφ : φ ≠ .cls) (h : execRuleCommitTakeEffect s = .next t) : φ.of t.eng = φ.of s.eng := by
  refine lift_keeps h ?_
  split
  · exact whenDue_keeps _ _ _ (by simp only [↓Eng.bankSwap_keeps, Facet.tidy, hφ])
  · rfl

theorem execRuleBankCopyDone_keeps (hφ : φ ≠ .cls) (h : execRuleBankCopyDone s = .next t) : φ.of t.eng = φ.of s.eng :=
  lift_keeps h (by simp only [↓Facet.with_cls, Facet.tidy, hφ])

theorem execServiceEntryWrite_keeps (v6 entry w roles) (hφ : φ ≠ .cls) (h : execServiceEntryWrite v6 entry w roles s = .next t) :
    φ.of t.eng = φ.of s.eng :=
  lift_keeps h (by simp only [↓Eng.recCmd_keeps, ↓svcWrite_keeps, Facet.tidy, hφ])

/-! ## The wire -/

theorem Eng.tsFault_keeps (p row sticky) (hφ : φ ≠ .lanes ∧ φ ≠ .cals ∧ φ ≠ .txRings ∧ φ ≠ .tails) :
    φ.of (e.tsFault x p row sticky) = φ.of e := by
  unfold Eng.tsFault
  simp only [↓Eng.tsFall_keeps, ↓Eng.detect_keeps, ↓Eng.orb_keeps, ↓Eng.inc32_keeps, Facet.tidy, hφ]

theorem Eng.rttSample_keeps (p l v) (hφ : φ ≠ .lanes) : φ.of (e.rttSample p l v) = φ.of e := by
  unfold Eng.rttSample
  dsimp only
  simp only [↓Facet.push, ↓Eng.orb_keeps, ↓Eng.inc32_keeps, ↓Eng.modLane_keeps, ↓Eng.set_keeps, Facet.tidy, hφ]

theorem Eng.marker_keeps (p l ser closure loopback) (hφ : φ ≠ .lanes ∧ φ ≠ .cals ∧ φ ≠ .txRings ∧ φ ≠ .tails) :
    φ.of (e.marker x p l ser closure loopback) = φ.of e := by
  unfold Eng.marker
  dsimp only
  repeat' split
  all_goals simp only [↓Eng.inc32_keeps, ↓Eng.modLane_keeps, ↓Eng.rttSample_keeps, ↓Eng.tsFault_keeps, ↓Eng.orb_keeps, Facet.tidy, hφ]

theorem Eng.echoNote_keeps (p l ser err) (hφ : φ ≠ .lanes) : φ.of (e.echoNote p l ser err) = φ.of e := by
  unfold Eng.echoNote
  dsimp only
  simp only [↓Facet.push, ↓Eng.set_keeps, ↓Eng.inc32_keeps, ↓Eng.modLane_keeps, Facet.tidy, hφ]

theorem Eng.echoCheck_keeps (p err) (hφ : φ ≠ .ports ∧ φ ≠ .lanes ∧ φ ≠ .cals ∧ φ ≠ .txRings ∧ φ ≠ .tails) :
    φ.of (e.echoCheck x p err) = φ.of e := by
  unfold Eng.echoCheck
  dsimp only
  simp only [↓Facet.push, ↓Eng.modPort_keeps, ↓Eng.orb_keeps, ↓Eng.inc32_keeps, ↓Eng.tsFault_keeps, Facet.tidy, hφ]

theorem Eng.tailSent_keeps (p s err beyond) (hφ : φ ≠ .tails) : φ.of (e.tailSent x p s err beyond) = φ.of e := by
  unfold Eng.tailSent
  dsimp only
  split <;> simp only [↓Eng.tailAdd_keeps, Facet.tidy, hφ]

theorem Eng.echoTimed_keeps (p err) (hφ : φ ≠ .cals ∧ φ ≠ .tails) : φ.of (e.echoTimed x p err) = φ.of e := by
  unfold Eng.echoTimed
  dsimp only
  split <;> simp only [↓Eng.modCal_keeps, ↓Eng.tailSent_keeps, Facet.tidy, hφ]

theorem Eng.echoMissing_keeps (p) (hφ : φ ≠ .draws ∧ φ ≠ .lanes ∧ φ ≠ .cals ∧ φ ≠ .txRings ∧ φ ≠ .tails) :
    φ.of (e.echoMissing x p) = φ.of e := by
  unfold Eng.echoMissing
  dsimp only
  split <;> simp only [↓Eng.modCal_keeps, ↓Eng.tsFault_keeps, ↓Eng.tailSent_keeps, ↓Eng.drawn_keeps, Facet.tidy, hφ]

theorem Eng.sealLanes_keeps (hφ : φ ≠ .lanes) : φ.of e.sealLanes = φ.of e := by
  unfold Eng.sealLanes
  simp only [↓Facet.with_lanes, Facet.tidy, hφ]

theorem Eng.takeLanes_keeps (hφ : φ ≠ .lanes) : φ.of e.takeLanes = φ.of e := by
  unfold Eng.takeLanes
  simp only [↓Facet.with_lanes, Facet.tidy, hφ]

theorem Eng.eqStep_keeps (q) (hφ : φ ≠ .lanes) : φ.of (e.eqStep q) = φ.of e := by
  unfold Eng.eqStep
  dsimp only
  simp only [↓Eng.modLane_keeps, ↓Eng.inc32_keeps, ↓Eng.set_keeps, Facet.tidy, hφ]

theorem Eng.showLane_keeps (b l) : φ.of (e.showLane b l) = φ.of e := by
  unfold Eng.showLane
  dsimp only
  simp only [↓Eng.setAll_keeps]

theorem Eng.wireBoundary_keeps (b steps) (hφ : φ ≠ .lanes) : φ.of (e.wireBoundary b steps) = φ.of e := by
  unfold Eng.wireBoundary
  dsimp only
  simp only [↓Facet.push, ↓Eng.eqStep_keeps, ↓Eng.takeLanes_keeps, ↓Eng.showLane_keeps, Facet.tidy, hφ]

theorem Eng.tsRise_keeps (b p) : φ.of (e.tsRise b p) = φ.of e := by
  unfold Eng.tsRise
  dsimp only
  simp only [↓Facet.push, ↓Eng.set_keeps, Facet.tidy]

theorem Eng.tsRiseAll_keeps (b) : φ.of (e.tsRiseAll b) = φ.of e := by
  unfold Eng.tsRiseAll
  simp only [↓Facet.push, ↓Eng.tsRise_keeps, Facet.tidy]

theorem calWrite_keeps (vs) (hφ : φ ≠ .calWait) : φ.of (calWrite x vs e).2 = φ.of e := by
  unfold calWrite
  dsimp only
  simp only [↓Facet.push, ↓Facet.with_calWait, ↓Eng.set_keeps, Facet.tidy, hφ]

theorem Eng.calStore_keeps (hφ : φ ≠ .flash ∧ φ ≠ .calWait) : φ.of (e.calStore x) = φ.of e := by
  unfold Eng.calStore
  dsimp only
  simp only [↓Facet.with_flash_calWait, ↓Eng.set_keeps, ↓Eng.inc32_keeps, Facet.tidy, hφ]

theorem Eng.calOpen_keeps (mask) (hφ : φ ≠ .lanes) : φ.of (e.calOpen x mask) = φ.of e := by
  unfold Eng.calOpen
  simp only [↓Eng.orb_keeps]
  exact Facet.of_foldl e _ (fun e p => by simp only [↓Facet.push, ↓Eng.modLane_keeps, ↓Eng.setAll_keeps, Facet.tidy, hφ]) _

theorem Eng.calClose_keeps (mask) : φ.of (e.calClose x mask) = φ.of e := by
  unfold Eng.calClose
  dsimp only
  simp only [↓Facet.push, ↓Eng.set_keeps, ↓Eng.andc_keeps, Facet.tidy]

theorem calOpenWrite_keeps (v) (hφ : φ ≠ .lanes) : φ.of (calOpenWrite x v e).2 = φ.of e := by
  unfold calOpenWrite
  simp only [↓Facet.push, ↓Eng.calOpen_keeps, Facet.tidy, hφ]

theorem calCloseWrite_keeps (v) : φ.of (calCloseWrite x v e).2 = φ.of e := by
  unfold calCloseWrite
  simp only [↓Facet.push, ↓Eng.calClose_keeps, Facet.tidy]

theorem tsStickyClear_keeps (p v) : φ.of (tsStickyClear p v e).2 = φ.of e := by
  unfold tsStickyClear
  dsimp only
  simp only [↓Facet.push, ↓Eng.andc_keeps, ↓Eng.set_keeps, Facet.tidy]

theorem execAlignmentMarkerRx_keeps (lane serRx closure loopback) (hφ : φ ≠ .lanes ∧ φ ≠ .cals ∧ φ ≠ .txRings ∧ φ ≠ .tails)
    (h : execAlignmentMarkerRx lane serRx closure loopback s = .next t) :
    φ.of t.eng = φ.of s.eng := by
  refine lift_keeps h ?_
  split
  · exact whenDue_keeps _ _ _ (by simp only [↓Eng.marker_keeps, Facet.tidy, hφ])
  · rfl

theorem execEchoResult_keeps (lane timed serTx error) (hφ : φ ≠ .ports ∧ φ ≠ .lanes ∧ φ ≠ .cals ∧ φ ≠ .txRings ∧ φ ≠ .tails)
    (h : execEchoResult lane timed serTx error s = .next t) :
    φ.of t.eng = φ.of s.eng := by
  refine lift_keeps h ?_
  dsimp only
  split <;> simp only [↓Facet.push, ↓Eng.echoNote_keeps, ↓Eng.echoTimed_keeps, ↓Eng.echoCheck_keeps, Facet.tidy, hφ]

theorem execEchoMissing_keeps (port) (hφ : φ ≠ .draws ∧ φ ≠ .lanes ∧ φ ≠ .cals ∧ φ ≠ .txRings ∧ φ ≠ .tails)
    (h : execEchoMissing port s = .next t) :
    φ.of t.eng = φ.of s.eng :=
  lift_keeps h (by simp only [↓whenDue_keeps, ↓Eng.echoMissing_keeps, Facet.tidy, hφ])

theorem execCalItemWrite_keeps (item value roles) (hφ : φ ≠ .calWait) (h : execCalItemWrite item value roles s = .next t) :
    φ.of t.eng = φ.of s.eng :=
  lift_keeps h (by simp only [↓Eng.writeCmd_keeps, ↓calWrite_keeps, Facet.tidy, hφ])

theorem execCalStoreWrite_keeps (hφ : φ ≠ .flash ∧ φ ≠ .calWait) (h : execCalStoreWrite s = .next t) : φ.of t.eng = φ.of s.eng :=
  lift_keeps h (by simp only [↓whenDue_keeps, ↓Eng.calStore_keeps, Facet.tidy, hφ])

theorem execCalCtrlOpen_keeps (mask roles) (hφ : φ ≠ .lanes) (h : execCalCtrlOpen mask roles s = .next t) : φ.of t.eng = φ.of s.eng :=
  lift_keeps h (by simp only [↓Eng.writeCmd_keeps, ↓calOpenWrite_keeps, Facet.tidy, hφ])

theorem execCalCtrlClose_keeps (mask roles) (h : execCalCtrlClose mask roles s = .next t) : φ.of t.eng = φ.of s.eng :=
  lift_keeps h (by simp only [↓Eng.writeCmd_keeps, ↓calCloseWrite_keeps])

/-! ## NTS -/

theorem Eng.keyTouched_keeps (hφ : φ ≠ .keyWait) : φ.of (e.keyTouched x) = φ.of e := by
  unfold Eng.keyTouched
  simp only [↓Facet.with_keyWait, Facet.tidy, hφ]

theorem Eng.slotLoad_keeps (s key origin) (hφ : φ ≠ .keyWait ∧ φ ≠ .nts) : φ.of (e.slotLoad x s key origin) = φ.of e := by
  unfold Eng.slotLoad
  dsimp only
  simp only [↓Facet.with_nts, ↓Eng.keyTouched_keeps, ↓Eng.setAll_keeps, Facet.tidy, hφ]

theorem slotLoadLocal_keeps (s) (hφ : φ ≠ .draws ∧ φ ≠ .keyWait ∧ φ ≠ .nts) : φ.of (slotLoadLocal x s e).2 = φ.of e := by
  unfold slotLoadLocal
  simp only [↓Facet.push, ↓Eng.slotLoad_keeps, ↓Eng.drawn_keeps, Facet.tidy, hφ]

theorem slotLoadStation_keeps (s) (hφ : φ ≠ .keyWait ∧ φ ≠ .nts) : φ.of (slotLoadStation x s e).2 = φ.of e := by
  unfold slotLoadStation
  simp only [↓Facet.push, ↓Eng.slotLoad_keeps, Facet.tidy, hφ]

theorem slotLoadImport_keeps (s) (hφ : φ ≠ .keyWait ∧ φ ≠ .nts) : φ.of (slotLoadImport x s e).2 = φ.of e := by
  unfold slotLoadImport
  repeat' split
  all_goals simp only [↓Facet.push, ↓Eng.slotLoad_keeps, Facet.tidy, hφ]

theorem slotRotate_keeps (s from_) (hφ : φ ≠ .keyWait ∧ φ ≠ .ans) : φ.of (slotRotate x s from_ e).2 = φ.of e := by
  unfold slotRotate
  dsimp only
  repeat' split
  all_goals simp only [↓Facet.push, ↓Eng.set_keeps, ↓Eng.setFrom_keeps, ↓Eng.keyTouched_keeps, Facet.tidy, hφ]

theorem Eng.slotClear_keeps (s from_) (hφ : φ ≠ .keyWait ∧ φ ≠ .ans ∧ φ ≠ .nts) : φ.of (e.slotClear x s from_) = φ.of e := by
  unfold Eng.slotClear
  dsimp only
  simp only [↓Facet.with_nts, ↓Eng.setFrom_keeps, ↓Eng.keyTouched_keeps, ↓Eng.set_keeps, Facet.tidy, hφ]

theorem slotRetire_keeps (s) (hφ : φ ≠ .keyWait ∧ φ ≠ .ans ∧ φ ≠ .nts) : φ.of (slotRetire x s e).2 = φ.of e := by
  unfold slotRetire
  simp only [↓Facet.push, ↓Eng.slotClear_keeps, Facet.tidy, hφ]

theorem slotCommand_keeps (s v) (hφ : φ ≠ .draws ∧ φ ≠ .keyWait ∧ φ ≠ .ans ∧ φ ≠ .nts) : φ.of (slotCommand x s v e).2 = φ.of e := by
  unfold slotCommand
  split <;> simp only [↓slotLoadLocal_keeps, ↓slotLoadStation_keeps, ↓slotLoadImport_keeps, ↓slotRotate_keeps, ↓slotRetire_keeps,
    Facet.tidy, hφ]

theorem slotGenWrite_keeps (s v) (hφ : φ ≠ .keyWait) : φ.of (slotGenWrite x s v e).2 = φ.of e := by
  unfold slotGenWrite
  simp only [↓Facet.push, ↓Eng.keyTouched_keeps, ↓Eng.set_keeps, Facet.tidy, hφ]

theorem slotKeyWrite_keeps (s v) (hφ : φ ≠ .nts) : φ.of (slotKeyWrite s v e).2 = φ.of e := by
  unfold slotKeyWrite
  dsimp only
  simp only [↓Facet.with_nts, Facet.tidy, hφ]

theorem seedWrite_keeps (v) (hφ : φ ≠ .keyWait) : φ.of (seedWrite x v e).2 = φ.of e := by
  unfold seedWrite
  dsimp only
  simp only [↓Eng.keyTouched_keeps, ↓Eng.setAll_keeps, Facet.tidy, hφ]

theorem Eng.retireCheck_keeps (hφ : φ ≠ .keyWait ∧ φ ≠ .ans ∧ φ ≠ .nts) : φ.of (e.retireCheck x) = φ.of e := by
  unfold Eng.retireCheck
  dsimp only
  simp only [↓Facet.push, ↓Facet.with_nts, ↓Eng.slotClear_keeps, Facet.tidy, hφ]

theorem Eng.keyStore_keeps (good) (hφ : φ ≠ .flash ∧ φ ≠ .keyWait) : φ.of (e.keyStore x good) = φ.of e := by
  unfold Eng.keyStore
  dsimp only
  simp only [↓Facet.push, ↓Facet.with_flash_keyWait, ↓Eng.detect_keeps, Facet.tidy, hφ]

theorem Eng.drbg_keeps (n) (hφ : φ ≠ .draws ∧ φ ≠ .nts) : φ.of (e.drbg n).2 = φ.of e := by
  unfold Eng.drbg
  dsimp only
  simp only [↓Facet.with_draws_nts, Facet.tidy, hφ]

theorem Eng.drbgReseed_keeps (healthy) (hφ : φ ≠ .nts) : φ.of (e.drbgReseed x healthy) = φ.of e := by
  unfold Eng.drbgReseed
  dsimp only
  simp only [↓Facet.push, ↓Facet.with_nts, ↓Eng.orb_keeps, ↓Eng.set_keeps, ↓Eng.detect_keeps, Facet.tidy, hφ]

theorem Eng.drbgRetry_keeps (good) (hφ : φ ≠ .nts) : φ.of (e.drbgRetry x good) = φ.of e := by
  unfold Eng.drbgRetry
  dsimp only
  split <;> simp only [↓Facet.push, ↓Facet.with_nts, ↓Eng.set_keeps, Facet.tidy, hφ]

theorem Eng.ntsCount_keeps (c) : φ.of (e.ntsCount c) = φ.of e := by
  unfold Eng.ntsCount
  split <;> simp only [↓Eng.orb_keeps, ↓Eng.inc64_keeps]

theorem Eng.aesCommit_keeps (p cost) (hφ : φ ≠ .ans) : φ.of (e.aesCommit x p cost) = φ.of e := by
  unfold Eng.aesCommit
  dsimp only
  simp only [↓Eng.modPipe_keeps, Facet.tidy, hφ]

theorem Eng.ntsCheck_keeps (p rx pl) (hφ : φ ≠ .ans) : φ.of (e.ntsCheck x p rx pl).2 = φ.of e := by
  unfold Eng.ntsCheck
  dsimp only
  split <;> simp only [↓Facet.push, ↓Eng.aesCommit_keeps, Facet.tidy, hφ]

theorem Eng.sealCookie_keeps (rx slot keys) (hφ : φ ≠ .draws ∧ φ ≠ .nts) : φ.of (e.sealCookie rx slot keys).2 = φ.of e := by
  unfold Eng.sealCookie
  dsimp only
  simp only [↓Eng.drbg_keeps, ↓Eng.inc64_keeps, Facet.tidy, hφ]

theorem Eng.sealCookies_keeps (rx slot keys n) (hφ : φ ≠ .draws ∧ φ ≠ .nts) : φ.of (e.sealCookies rx slot keys n).2 = φ.of e := by
  induction n generalizing e with
  | zero => rfl
  | succ n ih =>
    unfold Eng.sealCookies
    simp only [↓ih, ↓Eng.sealCookie_keeps, Facet.tidy, hφ]

theorem execNtsSlotLoadLocal_keeps (slot roles) (hφ : φ ≠ .draws ∧ φ ≠ .keyWait ∧ φ ≠ .ans ∧ φ ≠ .nts)
    (h : execNtsSlotLoadLocal slot roles s = .next t) :
    φ.of t.eng = φ.of s.eng :=
  lift_keeps h (by simp only [↓Eng.writeCmd_keeps, ↓slotCommand_keeps, Facet.tidy, hφ])

theorem execNtsSlotLoadStation_keeps (slot roles) (hφ : φ ≠ .draws ∧ φ ≠ .keyWait ∧ φ ≠ .ans ∧ φ ≠ .nts)
    (h : execNtsSlotLoadStation slot roles s = .next t) :
    φ.of t.eng = φ.of s.eng :=
  lift_keeps h (by simp only [↓Eng.writeCmd_keeps, ↓slotCommand_keeps, Facet.tidy, hφ])

theorem execNtsSlotLoadImport_keeps (slot roles) (hφ : φ ≠ .draws ∧ φ ≠ .keyWait ∧ φ ≠ .ans ∧ φ ≠ .nts)
    (h : execNtsSlotLoadImport slot roles s = .next t) :
    φ.of t.eng = φ.of s.eng :=
  lift_keeps h (by simp only [↓Eng.writeCmd_keeps, ↓slotCommand_keeps, Facet.tidy, hφ])

theorem execNtsSlotMakeCurrent_keeps (slot roles) (hφ : φ ≠ .draws ∧ φ ≠ .keyWait ∧ φ ≠ .ans ∧ φ ≠ .nts)
    (h : execNtsSlotMakeCurrent slot roles s = .next t) :
    φ.of t.eng = φ.of s.eng :=
  lift_keeps h (by simp only [↓Eng.writeCmd_keeps, ↓slotCommand_keeps, Facet.tidy, hφ])

theorem execNtsSlotRetire_keeps (slot roles) (hφ : φ ≠ .draws ∧ φ ≠ .keyWait ∧ φ ≠ .ans ∧ φ ≠ .nts)
    (h : execNtsSlotRetire slot roles s = .next t) :
    φ.of t.eng = φ.of s.eng :=
  lift_keeps h (by simp only [↓Eng.writeCmd_keeps, ↓slotCommand_keeps, Facet.tidy, hφ])

theorem execSlotRetireCheck_keeps (hφ : φ ≠ .keyWait ∧ φ ≠ .ans ∧ φ ≠ .nts) (h : execSlotRetireCheck s = .next t) :
    φ.of t.eng = φ.of s.eng :=
  lift_keeps h (by simp only [↓whenDue_keeps, ↓Eng.retireCheck_keeps, Facet.tidy, hφ])

theorem execNtsStationSeedWrite_keeps (seed roles) (hφ : φ ≠ .keyWait) (h : execNtsStationSeedWrite seed roles s = .next t) :
    φ.of t.eng = φ.of s.eng :=
  lift_keeps h (by simp only [↓Eng.writeCmd_keeps, ↓seedWrite_keeps, Facet.tidy, hφ])

theorem execKeyStoreWrite_keeps (good) (hφ : φ ≠ .flash ∧ φ ≠ .keyWait) (h : execKeyStoreWrite good s = .next t) :
    φ.of t.eng = φ.of s.eng :=
  lift_keeps h (by simp only [↓whenDue_keeps, ↓Eng.keyStore_keeps, Facet.tidy, hφ])

theorem execDrbgReseed_keeps (healthy) (hφ : φ ≠ .nts) (h : execDrbgReseed healthy s = .next t) : φ.of t.eng = φ.of s.eng :=
  lift_keeps h (by simp only [↓Eng.drbgReseed_keeps, Facet.tidy, hφ])

theorem execDrbgRetry_keeps (good) (hφ : φ ≠ .nts) (h : execDrbgRetry good s = .next t) : φ.of t.eng = φ.of s.eng :=
  lift_keeps h (by simp only [↓Eng.drbgRetry_keeps, Facet.tidy, hφ])

/-! ## The public-key engine -/

theorem Eng.pkPut_keeps (s v) (hφ : φ ≠ .pk) : φ.of (e.pkPut s v) = φ.of e := by
  unfold Eng.pkPut
  simp only [↓Facet.with_pk, Facet.tidy, hφ]

theorem pkSubmit_keeps (q op c) (hφ : φ ≠ .pk) : φ.of (pkSubmit x q op c e).2 = φ.of e := by
  unfold pkSubmit
  dsimp only
  simp only [↓Facet.push, ↓Facet.with_pk, Facet.tidy, hφ]

theorem Eng.modPkUnit_keeps (u f) (hφ : φ ≠ .pk) : φ.of (e.modPkUnit u f) = φ.of e := by
  unfold Eng.modPkUnit
  dsimp only
  simp only [↓Facet.with_pk, Facet.tidy, hφ]

theorem Eng.pkEnded_keeps (j status cycles doneTick) (hφ : φ ≠ .pk) : φ.of (e.pkEnded x j status cycles doneTick) = φ.of e := by
  unfold Eng.pkEnded
  dsimp only
  repeat' split
  all_goals simp only [↓Facet.with_pk, ↓Eng.count_keeps, ↓Eng.inc64_keeps, ↓Eng.orb_keeps, ↓Eng.irqPoke_keeps, Facet.tidy, hφ]

theorem Eng.pkFinish_keeps (u r status cycles) (hφ : φ ≠ .pk) : φ.of (e.pkFinish x u r status cycles) = φ.of e := by
  unfold Eng.pkFinish
  simp only [↓Eng.pkEnded_keeps, ↓Eng.modPkUnit_keeps, Facet.tidy, hφ]

theorem Eng.pkDirty_keeps (ss v) : φ.of (e.pkDirty ss v) = φ.of e := by
  unfold Eng.pkDirty
  simp only [↓Facet.push, ↓Eng.set_keeps, Facet.tidy]

theorem Eng.pkFill_keeps (h k) (hφ : φ ≠ .keyWait ∧ φ ≠ .pk) : φ.of (e.pkFill x h k) = φ.of e := by
  unfold Eng.pkFill
  dsimp only
  simp only [↓Facet.with_pk, ↓Eng.set_keeps, ↓Eng.keyTouched_keeps, Facet.tidy, hφ]

theorem Eng.pkDrawn_keeps (op) (hφ : φ ≠ .draws ∧ φ ≠ .nts) : φ.of (e.pkDrawn op).2.2 = φ.of e := by
  unfold Eng.pkDrawn
  split <;> simp only [↓Eng.drbg_keeps, Facet.tidy, hφ]

theorem Eng.pkComplete_keeps (u r) (hφ : φ ≠ .draws ∧ φ ≠ .keyWait ∧ φ ≠ .nts ∧ φ ≠ .pk) : φ.of (e.pkComplete x u r) = φ.of e := by
  unfold Eng.pkComplete
  dsimp only
  split <;> simp only [↓Facet.push, ↓Eng.pkDrawn_keeps, ↓Eng.pkPut_keeps, ↓Eng.pkDirty_keeps, ↓Eng.pkFill_keeps, ↓Eng.pkFinish_keeps,
    Facet.tidy, hφ]

theorem Eng.pkPartial_keeps (j cycles) (hφ : φ ≠ .draws ∧ φ ≠ .pk) : φ.of (e.pkPartial j cycles) = φ.of e := by
  unfold Eng.pkPartial
  dsimp only
  simp only [↓Facet.push, ↓Eng.drawn_keeps, ↓Eng.pkPut_keeps, Facet.tidy, hφ]

theorem Eng.pkStop_keeps (u r status cycles) (hφ : φ ≠ .draws ∧ φ ≠ .pk) : φ.of (e.pkStop x u r status cycles) = φ.of e := by
  unfold Eng.pkStop
  dsimp only
  simp only [↓Facet.push, ↓Eng.pkPartial_keeps, ↓Eng.pkDirty_keeps, ↓Eng.pkFinish_keeps, Facet.tidy, hφ]

theorem Eng.pkFault_keeps (u r cycles) (hφ : φ ≠ .draws ∧ φ ≠ .pk) : φ.of (e.pkFault x u r cycles) = φ.of e := by
  unfold Eng.pkFault
  dsimp only
  simp only [↓Facet.push, ↓Eng.detect_keeps, ↓Eng.pkStop_keeps, ↓Eng.modPkUnit_keeps, ↓Eng.orb_keeps, ↓Eng.set_keeps, Facet.tidy, hφ]

theorem Eng.pkDispatch_keeps (hφ : φ ≠ .pk) : φ.of (e.pkDispatch x) = φ.of e := by
  unfold Eng.pkDispatch
  dsimp only
  repeat' split
  all_goals simp only [↓Facet.with_pk, ↓Eng.modPkUnit_keeps, Facet.tidy, hφ]

theorem Eng.pkValidated_keeps (u) (hφ : φ ≠ .pk) : φ.of (e.pkValidated x u) = φ.of e := by
  unfold Eng.pkValidated
  dsimp only
  split <;> simp only [↓Facet.push, ↓Eng.pkFinish_keeps, ↓Eng.modPkUnit_keeps, Facet.tidy, hφ]

theorem Eng.pkEnd_keeps (u how) (hφ : φ ≠ .draws ∧ φ ≠ .keyWait ∧ φ ≠ .nts ∧ φ ≠ .pk) : φ.of (e.pkEnd x u how) = φ.of e := by
  unfold Eng.pkEnd
  dsimp only
  repeat' split
  all_goals simp only [↓Facet.with_pk, ↓Eng.pkComplete_keeps, ↓Eng.detect_keeps, ↓Eng.pkStop_keeps, ↓Eng.pkFault_keeps, Facet.tidy, hφ]

theorem Eng.pkMissed_keeps (q) : φ.of (e.pkMissed q) = φ.of e := by
  unfold Eng.pkMissed
  simp only [↓Eng.orb_keeps, ↓Eng.inc32_keeps]

theorem Eng.pkAbort_keeps (q tag) (hφ : φ ≠ .draws ∧ φ ≠ .pk) : φ.of (e.pkAbort x q tag) = φ.of e := by
  unfold Eng.pkAbort
  dsimp only
  repeat' split
  all_goals simp only [↓Facet.with_pk, ↓Eng.pkMissed_keeps, ↓Eng.pkEnded_keeps, ↓Eng.drawn_keeps, ↓Eng.pkStop_keeps, Facet.tidy, hφ]

theorem pkHostSubmit_keeps (vs) (hφ : φ ≠ .pk) : φ.of (pkHostSubmit x vs e).2 = φ.of e := by
  unfold pkHostSubmit
  dsimp only
  simp only [↓Facet.push, ↓pkSubmit_keeps, Facet.tidy, hφ]

theorem pkSlotWrite_keeps (owner s vs) : φ.of (pkSlotWrite owner s vs e).2 = φ.of e := by
  unfold pkSlotWrite
  dsimp only
  simp only [↓Facet.push, ↓Eng.setAll_keeps, Facet.tidy]

theorem pkDataWrite_keeps (owner s v) (hφ : φ ≠ .pk) : φ.of (pkDataWrite owner s v e).2 = φ.of e := by
  unfold pkDataWrite
  simp only [↓Facet.push, ↓Eng.set_keeps, ↓Eng.pkPut_keeps, Facet.tidy, hφ]

theorem pkPopWrite_keeps (v) (hφ : φ ≠ .pk) : φ.of (pkPopWrite v e).2 = φ.of e := by
  unfold pkPopWrite
  dsimp only
  simp only [↓Facet.push, ↓Facet.with_pk, Facet.tidy, hφ]

theorem pkErase_keeps (h) (hφ : φ ≠ .keyWait ∧ φ ≠ .pk) : φ.of (pkErase x h e).2 = φ.of e := by
  unfold pkErase
  dsimp only
  simp only [↓Facet.push, ↓Facet.with_pk, ↓Eng.set_keeps, ↓Eng.keyTouched_keeps, Facet.tidy, hφ]

theorem pkCommand_keeps (op queue cmd roles) (hφ : φ ≠ .pk) (h : pkCommand op queue cmd roles s = .next t) : φ.of t.eng = φ.of s.eng :=
  lift_keeps h (by simp only [↓Facet.push, ↓Facet.with_resp, ↓Eng.recCmd_keeps, ↓pkHostSubmit_keeps, ↓pkSubmit_keeps, Facet.tidy, hφ])

theorem execPkDispatch_keeps (hφ : φ ≠ .pk) (h : execPkDispatch s = .next t) : φ.of t.eng = φ.of s.eng :=
  lift_keeps h (by simp only [↓Eng.pkDispatch_keeps, Facet.tidy, hφ])

theorem execPkValidationEnd_keeps (unit_) (hφ : φ ≠ .pk) (h : execPkValidationEnd unit_ s = .next t) : φ.of t.eng = φ.of s.eng :=
  lift_keeps h (by simp only [↓Eng.pkValidated_keeps, Facet.tidy, hφ])

theorem execPkComplete_keeps (unit_ how) (hφ : φ ≠ .draws ∧ φ ≠ .keyWait ∧ φ ≠ .nts ∧ φ ≠ .pk) (h : execPkComplete unit_ how s = .next t) :
    φ.of t.eng = φ.of s.eng :=
  lift_keeps h (by simp only [↓Eng.pkEnd_keeps, Facet.tidy, hφ])

theorem execPkAbort_keeps (queue tag roles) (hφ : φ ≠ .draws ∧ φ ≠ .pk) (h : execPkAbort queue tag roles s = .next t) :
    φ.of t.eng = φ.of s.eng :=
  lift_keeps h (by simp only [↓Facet.push, ↓Eng.writeCmd_keeps, ↓Eng.pkAbort_keeps, Facet.tidy, hφ])

theorem execPkPop_keeps (value roles) (hφ : φ ≠ .pk) (h : execPkPop value roles s = .next t) : φ.of t.eng = φ.of s.eng :=
  lift_keeps h (by simp only [↓Eng.writeCmd_keeps, ↓pkPopWrite_keeps, Facet.tidy, hφ])

theorem execErase_keeps (handle roles) (hφ : φ ≠ .keyWait ∧ φ ≠ .pk) (h : execErase handle roles s = .next t) : φ.of t.eng = φ.of s.eng :=
  lift_keeps h (by simp only [↓Eng.writeCmd_keeps, ↓pkErase_keeps, Facet.tidy, hφ])

theorem execPkSlotDefine_keeps (owner slot w roles) (h : execPkSlotDefine owner slot w roles s = .next t) : φ.of t.eng = φ.of s.eng :=
  lift_keeps h (by simp only [↓Facet.push, ↓pkSlotWrite_keeps, ↓Eng.recCmd_keeps, Facet.tidy])

theorem execPkDataWrite_keeps (owner slot value roles) (hφ : φ ≠ .pk) (h : execPkDataWrite owner slot value roles s = .next t) :
    φ.of t.eng = φ.of s.eng :=
  lift_keeps h (by simp only [↓Facet.push, ↓pkDataWrite_keeps, ↓Eng.writeCmd_keeps, Facet.tidy, hφ])

/-! ## NTS-KE -/

theorem Eng.keReset_keeps (port frame fresh) (hφ : φ ≠ .draws ∧ φ ≠ .ports) : φ.of (e.keReset port frame fresh) = φ.of e := by
  unfold Eng.keReset
  dsimp only
  simp only [↓Facet.push, ↓Eng.drawn_keeps, ↓Eng.sendUntimed_keeps, Facet.tidy, hφ]

theorem Eng.keSyn_keeps (port frame) (hφ : φ ≠ .draws ∧ φ ≠ .ports ∧ φ ≠ .nts) : φ.of (e.keSyn x port frame) = φ.of e := by
  unfold Eng.keSyn
  dsimp only
  simp only [↓Facet.push, ↓Facet.with_nts, ↓Eng.keReset_keeps, ↓Eng.inc64_keeps, Facet.tidy, hφ]

theorem Eng.keCookies_keeps (rx slot keys n) (hφ : φ ≠ .draws ∧ φ ≠ .nts) : φ.of (e.keCookies rx slot keys n).2 = φ.of e := by
  induction n generalizing e with
  | zero => rfl
  | succ n ih =>
    unfold Eng.keCookies
    simp only [↓ih, ↓Eng.sealCookie_keeps, Facet.tidy, hφ]

theorem Eng.keAnswer_keeps (v6 request keys) (hφ : φ ≠ .draws ∧ φ ≠ .nts) : φ.of (e.keAnswer x v6 request keys).2.2 = φ.of e := by
  unfold Eng.keAnswer
  dsimp only
  repeat' split
  all_goals simp only [↓Eng.keCookies_keeps, Facet.tidy, hφ]

theorem Eng.keAlert_keeps (session code) : φ.of (e.keAlert session code) = φ.of e := by
  unfold Eng.keAlert
  simp only [↓Eng.emit_keeps, ↓Eng.inc64_keeps]

theorem Eng.keRequest_keeps (session hello request c2s s2c) (hφ : φ ≠ .draws ∧ φ ≠ .nts) :
    φ.of (e.keRequest x session hello request c2s s2c) = φ.of e := by
  unfold Eng.keRequest
  dsimp only
  repeat' split
  all_goals simp only [↓Facet.with_nts, ↓Eng.keAlert_keeps, ↓Eng.keAnswer_keeps, ↓Eng.inc64_keeps, ↓Eng.emit_keeps, Facet.tidy, hφ]

theorem keGenerate_keeps (hφ : φ ≠ .draws ∧ φ ≠ .keyWait ∧ φ ≠ .nts ∧ φ ≠ .pk) : φ.of (keGenerate x e).2 = φ.of e := by
  unfold keGenerate
  dsimp only
  simp only [↓Facet.push, ↓Eng.drbg_keeps, ↓Eng.pkFill_keeps, ↓Eng.set_keeps, Facet.tidy, hφ]

theorem ntsKeWrite_keeps (vs) : φ.of (ntsKeWrite vs e).2 = φ.of e := by
  unfold ntsKeWrite
  dsimp only
  simp only [↓Facet.push, ↓Eng.setAll_keeps, Facet.tidy]

theorem execNtsKeSyn_keeps (port frame) (hφ : φ ≠ .draws ∧ φ ≠ .ports ∧ φ ≠ .nts) (h : execNtsKeSyn port frame s = .next t) :
    φ.of t.eng = φ.of s.eng :=
  lift_keeps h (by simp only [↓Eng.keSyn_keeps, Facet.tidy, hφ])

theorem execNtsKeRequest_keeps (session hello request c2s s2c) (hφ : φ ≠ .draws ∧ φ ≠ .nts)
    (h : execNtsKeRequest session hello request c2s s2c s = .next t) :
    φ.of t.eng = φ.of s.eng :=
  lift_keeps h (by simp only [↓Eng.keRequest_keeps, Facet.tidy, hφ])

theorem execNtsKeSessionTimeout_keeps (session) (hφ : φ ≠ .draws ∧ φ ≠ .ports ∧ φ ≠ .nts)
    (h : execNtsKeSessionTimeout session s = .next t) :
    φ.of t.eng = φ.of s.eng := by
  refine lift_keeps h ?_
  dsimp only
  split <;> simp only [↓Facet.with_nts, ↓whenDue_keeps, ↓Eng.keReset_keeps, Facet.tidy, hφ]

theorem execNtsKeKeyGenerate_keeps (roles) (hφ : φ ≠ .draws ∧ φ ≠ .keyWait ∧ φ ≠ .nts ∧ φ ≠ .pk)
    (h : execNtsKeKeyGenerate roles s = .next t) :
    φ.of t.eng = φ.of s.eng :=
  lift_keeps h (by simp only [↓Eng.writeCmd_keeps, ↓keGenerate_keeps, Facet.tidy, hφ])

/-! ## The host interface -/

theorem Eng.modRx_keeps (r f) (hφ : φ ≠ .rxRings) : φ.of (e.modRx r f) = φ.of e := by
  unfold Eng.modRx
  simp only [↓Facet.with_rxRings, Facet.tidy, hφ]

theorem Eng.vecScan_keeps (v) : φ.of (e.vecScan x v) = φ.of e := by
  unfold Eng.vecScan
  simp only [↓Facet.push, ↓Eng.vecPoke_keeps, Facet.tidy]

theorem Eng.vecArm_keeps (mask) : φ.of (e.vecArm x mask) = φ.of e := by
  unfold Eng.vecArm
  dsimp only
  simp only [↓Facet.push, ↓Facet.with_irq, ↓Eng.vecScan_keeps, Facet.tidy]

theorem Eng.vecMask_keeps (v masked) : φ.of (e.vecMask x v masked) = φ.of e := by
  unfold Eng.vecMask
  dsimp only
  simp only [↓Facet.push, ↓Facet.with_irq, ↓Eng.vecPoke_keeps, Facet.tidy]

theorem irqClear_keeps (v) : φ.of (irqClear x v e).2 = φ.of e := by
  unfold irqClear
  dsimp only
  simp only [↓Facet.with_irq]

theorem irqRouteWrite_keeps (vs) : φ.of (irqRouteWrite x vs e).2 = φ.of e := by
  unfold irqRouteWrite
  simp only [↓Facet.push, ↓Eng.vecScan_keeps, ↓Eng.setAll_keeps, Facet.tidy]

theorem Eng.stopTx_keeps (r err) (hφ : φ ≠ .txRings) : φ.of (e.stopTx x r err) = φ.of e := by
  unfold Eng.stopTx
  simp only [↓Eng.irqLatch_keeps, ↓Eng.orb_keeps, ↓Eng.modTx_keeps, Facet.tidy, hφ]

theorem Eng.stopRx_keeps (r err) (hφ : φ ≠ .rxRings) : φ.of (e.stopRx x r err) = φ.of e := by
  unfold Eng.stopRx
  simp only [↓Eng.irqLatch_keeps, ↓Eng.orb_keeps, ↓Eng.modRx_keeps, Facet.tidy, hφ]

theorem Eng.disableRx_keeps (r) (hφ : φ ≠ .rxRings) : φ.of (e.disableRx r) = φ.of e := by
  unfold Eng.disableRx
  simp only [↓Eng.modRx_keeps, Facet.tidy, hφ]

theorem Eng.disableTx_keeps (r posted) (hφ : φ ≠ .draws ∧ φ ≠ .txRings) : φ.of (e.disableTx x r posted) = φ.of e := by
  unfold Eng.disableTx
  dsimp only
  repeat' split
  all_goals simp only [↓Facet.push, ↓Facet.with_draws, ↓Eng.modTx_keeps, ↓Eng.txFinish_keeps, ↓Eng.txWriteBack_keeps, ↓Eng.add_keeps,
    Facet.tidy, hφ]

theorem Eng.startTx_keeps (r) (hφ : φ ≠ .txRings) : φ.of (e.startTx r) = φ.of e := by
  unfold Eng.startTx
  dsimp only
  simp only [↓Eng.modTx_keeps, Facet.tidy, hφ]

theorem Eng.startRx_keeps (r) (hφ : φ ≠ .rxRings) : φ.of (e.startRx r) = φ.of e := by
  unfold Eng.startRx
  dsimp only
  simp only [↓Eng.modRx_keeps, Facet.tidy, hφ]

theorem ringWrite_keeps (tx r posted vs) (hφ : φ ≠ .draws ∧ φ ≠ .rxRings ∧ φ ≠ .txRings) :
    φ.of (ringWrite x tx r posted vs e).2 = φ.of e := by
  unfold ringWrite
  dsimp only
  simp only [↓Facet.push, ↓Eng.setAll_keeps, ↓Eng.disableTx_keeps, ↓Eng.disableRx_keeps, ↓Eng.startTx_keeps, ↓Eng.startRx_keeps, Facet.tidy,
    hφ]

theorem Eng.doorRx_keeps (r v) (hφ : φ ≠ .rxRings) : φ.of (e.doorRx r v) = φ.of e := by
  unfold Eng.doorRx
  dsimp only
  simp only [↓Facet.push, ↓Eng.inc32_keeps, ↓Eng.modRx_keeps, ↓Eng.orb_keeps, Facet.tidy, hφ]

theorem Eng.doorTx_keeps (r v) (hφ : φ ≠ .txRings) : φ.of (e.doorTx r v) = φ.of e := by
  unfold Eng.doorTx
  dsimp only
  simp only [↓Facet.push, ↓Eng.modTx_keeps, ↓Eng.orb_keeps, ↓Eng.inc32_keeps, Facet.tidy, hφ]

theorem Eng.doorAck_keeps (tx r v) (hφ : φ ≠ .rxRings ∧ φ ≠ .txRings) : φ.of (e.doorAck x tx r v) = φ.of e := by
  unfold Eng.doorAck
  dsimp only
  simp only [↓Facet.push, ↓Eng.modTx_keeps, ↓Eng.irqPoke_keeps, ↓Eng.inc32_keeps, ↓Eng.modRx_keeps, Facet.tidy, hφ]

theorem Eng.rxNoBuffer_keeps (p h) : φ.of (e.rxNoBuffer x p h) = φ.of e := by
  unfold Eng.rxNoBuffer
  dsimp only
  simp only [↓Facet.push, ↓Eng.orb_keeps, ↓Eng.inc64_keeps, ↓Eng.portCount_keeps, Facet.tidy]

theorem Eng.rxWrite_keeps (p h bufs) (hφ : φ ≠ .rxRings) : φ.of (e.rxWrite x p h bufs) = φ.of e := by
  unfold Eng.rxWrite
  dsimp only
  simp only [↓Facet.push, ↓Facet.with_out, ↓Eng.rxNoBuffer_keeps, ↓Eng.stopRx_keeps, ↓Eng.modRx_keeps, ↓Eng.inc64_keeps, ↓Eng.orb_keeps,
    ↓Eng.add_keeps, ↓Eng.irqPoke_keeps, Facet.tidy, hφ]

theorem Eng.rxDeliver_keeps (p bufs) (hφ : φ ≠ .ports ∧ φ ≠ .rxRings) : φ.of (e.rxDeliver x p bufs) = φ.of e := by
  unfold Eng.rxDeliver
  dsimp only
  split <;> simp only [↓Facet.push, ↓Eng.modPort_keeps, ↓Eng.inc64_keeps, ↓Eng.rxWrite_keeps, ↓Eng.sendPause_keeps, Facet.tidy, hφ]

theorem Eng.txTake_keeps (r descs fail) (hφ : φ ≠ .txRings) : φ.of (e.txTake x r descs fail) = φ.of e := by
  unfold Eng.txTake
  dsimp only
  repeat' split
  all_goals simp only [↓Eng.detect_keeps, ↓Eng.stopTx_keeps, ↓Eng.countTxDone_keeps, ↓Eng.modTx_keeps, ↓Eng.txFinish_keeps,
    ↓Eng.portCount_keeps, Facet.tidy, hφ]

theorem Eng.dmaTimeout_keeps (tx r) (hφ : φ ≠ .rxRings ∧ φ ≠ .txRings) : φ.of (e.dmaTimeout x tx r) = φ.of e := by
  unfold Eng.dmaTimeout
  dsimp only
  simp only [↓Facet.push, ↓Eng.detect_keeps, ↓Eng.stopTx_keeps, ↓Eng.countTxDone_keeps, ↓Eng.stopRx_keeps, Facet.tidy, hφ]

theorem Eng.hostEmpty_keeps (hφ : φ ≠ .tails ∧ φ ≠ .wins ∧ φ ≠ .inbox) : φ.of e.hostEmpty = φ.of e := by
  unfold Eng.hostEmpty
  simp only [↓Facet.with_tails_wins_inbox, Facet.tidy, hφ]

theorem Eng.functionReset_keeps (posted) (hφ : φ ≠ .draws ∧ φ ≠ .rxRings ∧ φ ≠ .txRings ∧ φ ≠ .tails ∧ φ ≠ .wins ∧ φ ≠ .inbox) :
    φ.of (e.functionReset x posted) = φ.of e := by
  unfold Eng.functionReset
  dsimp only
  simp only [↓Facet.push, ↓Facet.with_irq, ↓Eng.disableRx_keeps, ↓Eng.disableTx_keeps, ↓Eng.hostEmpty_keeps, ↓Eng.orb_keeps,
    ↓Eng.inc32_keeps, Facet.tidy, hφ]

theorem Eng.pcieDown_keeps (hφ : φ ≠ .rxRings ∧ φ ≠ .txRings ∧ φ ≠ .tails ∧ φ ≠ .wins ∧ φ ≠ .inbox) : φ.of (e.pcieDown x) = φ.of e := by
  unfold Eng.pcieDown
  dsimp only
  simp only [↓Facet.push, ↓Facet.with_irq, ↓Eng.stopRx_keeps, ↓Eng.stopTx_keeps, ↓Eng.hostEmpty_keeps, ↓Eng.set_keeps, ↓Eng.condOn_keeps,
    ↓Eng.orb_keeps, Facet.tidy, hφ]

theorem Eng.pcieUp_keeps (width rate) : φ.of (e.pcieUp x width rate) = φ.of e := by
  unfold Eng.pcieUp
  dsimp only
  simp only [↓Facet.push, ↓Facet.with_irq, ↓Eng.set_keeps, ↓Eng.condOff_keeps, ↓Eng.vecScan_keeps, Facet.tidy]

theorem Eng.tailPop_keeps (p n) (hφ : φ ≠ .tails) : φ.of (e.tailPop p n) = φ.of e := by
  unfold Eng.tailPop
  simp only [↓Facet.with_tails, Facet.tidy, hφ]

theorem Eng.tailClear_keeps (p) (hφ : φ ≠ .tails) : φ.of (e.tailClear x p) = φ.of e := by
  unfold Eng.tailClear
  simp only [↓Facet.with_tails, Facet.tidy, hφ]

theorem Eng.modWin_keeps (c f) (hφ : φ ≠ .wins) : φ.of (e.modWin c f) = φ.of e := by
  unfold Eng.modWin
  simp only [↓Facet.with_wins, Facet.tidy, hφ]

theorem Eng.winError_keeps (c cause) (hφ : φ ≠ .wins) : φ.of (e.winError c cause) = φ.of e := by
  unfold Eng.winError
  simp only [↓Eng.modWin_keeps, Facet.tidy, hφ]

theorem Eng.winDone_keeps (c bytes) (hφ : φ ≠ .wins) : φ.of (e.winDone x c bytes) = φ.of e := by
  unfold Eng.winDone
  simp only [↓Eng.irqLatch_keeps, ↓Eng.modWin_keeps, Facet.tidy, hφ]

theorem Eng.winWrite_keeps (c w) (hφ : φ ≠ .wins) : φ.of (e.winWrite c w) = φ.of e := by
  unfold Eng.winWrite
  dsimp only
  repeat' split
  all_goals simp only [↓Eng.orb_keeps, ↓Eng.inc32_keeps, ↓Eng.modWin_keeps, Facet.tidy, hφ]

theorem Eng.winSubmit_keeps (c) (hφ : φ ≠ .wins ∧ φ ≠ .inbox) : φ.of (e.winSubmit x c) = φ.of e := by
  unfold Eng.winSubmit
  dsimp only
  simp only [↓Facet.push, ↓Eng.winError_keeps, ↓Eng.modWin_keeps, ↓Eng.arrive_keeps, Facet.tidy, hφ]

theorem execFunctionLevelReset_keeps (posted) (hφ : φ ≠ .draws ∧ φ ≠ .rxRings ∧ φ ≠ .txRings ∧ φ ≠ .tails ∧ φ ≠ .wins ∧ φ ≠ .inbox)
    (h : execFunctionLevelReset posted s = .next t) :
    φ.of t.eng = φ.of s.eng :=
  overLink_keeps h (by simp only [↓Eng.functionReset_keeps, Facet.tidy, hφ])

theorem execPcieLinkDown_keeps (hφ : φ ≠ .rxRings ∧ φ ≠ .txRings ∧ φ ≠ .tails ∧ φ ≠ .wins ∧ φ ≠ .inbox) (h : execPcieLinkDown s = .next t) :
    φ.of t.eng = φ.of s.eng :=
  lift_keeps h (by simp only [↓Eng.pcieDown_keeps, Facet.tidy, hφ])

theorem execPcieLinkUp_keeps (width rate) (h : execPcieLinkUp width rate s = .next t) : φ.of t.eng = φ.of s.eng :=
  lift_keeps h (by simp only [↓Eng.pcieUp_keeps])

theorem execRingEnable_keeps (tx ring roles) (hφ : φ ≠ .draws ∧ φ ≠ .rxRings ∧ φ ≠ .txRings)
    (h : execRingEnable tx ring roles s = .next t) :
    φ.of t.eng = φ.of s.eng := by
  unfold execRingEnable at h
  exact lift_keeps h (by simp only [↓Eng.writeCmd_keeps, ↓ringWrite_keeps, Facet.tidy, hφ])

theorem execRingDisable_keeps (tx ring posted roles) (hφ : φ ≠ .draws ∧ φ ≠ .rxRings ∧ φ ≠ .txRings)
    (h : execRingDisable tx ring posted roles s = .next t) :
    φ.of t.eng = φ.of s.eng := by
  unfold execRingDisable at h
  exact lift_keeps h (by simp only [↓Eng.writeCmd_keeps, ↓ringWrite_keeps, Facet.tidy, hφ])

theorem execDoorbellProd_keeps (tx ring value) (hφ : φ ≠ .rxRings ∧ φ ≠ .txRings) (h : execDoorbellProd tx ring value s = .next t) :
    φ.of t.eng = φ.of s.eng :=
  overLink_keeps h (by simp only [↓Facet.push, ↓Eng.doorTx_keeps, ↓Eng.doorRx_keeps, Facet.tidy, hφ])

theorem execDoorbellAck_keeps (tx ring value) (hφ : φ ≠ .rxRings ∧ φ ≠ .txRings) (h : execDoorbellAck tx ring value s = .next t) :
    φ.of t.eng = φ.of s.eng :=
  overLink_keeps h (by simp only [↓Eng.doorAck_keeps, Facet.tidy, hφ])

theorem execRxFrameDeliver_keeps (port bufs) (hφ : φ ≠ .ports ∧ φ ≠ .rxRings) (h : execRxFrameDeliver port bufs s = .next t) :
    φ.of t.eng = φ.of s.eng :=
  lift_keeps h (by simp only [↓Eng.rxDeliver_keeps, Facet.tidy, hφ])

theorem execTxDescTake_keeps (ring descs fail) (hφ : φ ≠ .txRings) (h : execTxDescTake ring descs fail s = .next t) :
    φ.of t.eng = φ.of s.eng :=
  lift_keeps h (by simp only [↓Eng.txTake_keeps, Facet.tidy, hφ])

theorem execVecArmWrite_keeps (mask) (h : execVecArmWrite mask s = .next t) : φ.of t.eng = φ.of s.eng :=
  overLink_keeps h (by simp only [↓Eng.vecArm_keeps])

theorem execVecHoldoffEnd_keeps (vector) (h : execVecHoldoffEnd vector s = .next t) : φ.of t.eng = φ.of s.eng :=
  lift_keeps h (by simp only [↓Eng.vecScan_keeps])

theorem execIrqPendingClear_keeps (mask roles) (h : execIrqPendingClear mask roles s = .next t) : φ.of t.eng = φ.of s.eng :=
  lift_keeps h (by simp only [↓Eng.writeCmd_keeps, ↓irqClear_keeps])

theorem execMsixMaskWrite_keeps (vector masked) (h : execMsixMaskWrite vector masked s = .next t) : φ.of t.eng = φ.of s.eng :=
  overLink_keeps h (by simp only [↓Eng.vecMask_keeps])

theorem execTailPop_keeps (port value) (hφ : φ ≠ .tails) (h : execTailPop port value s = .next t) : φ.of t.eng = φ.of s.eng :=
  overLink_keeps h (by simp only [↓Eng.tailPop_keeps, Facet.tidy, hφ])

theorem execTailOverflowClear_keeps (port) (hφ : φ ≠ .tails) (h : execTailOverflowClear port s = .next t) : φ.of t.eng = φ.of s.eng :=
  overLink_keeps h (by simp only [↓Eng.tailClear_keeps, Facet.tidy, hφ])

theorem execWindowRequestWrite_keeps (ctx w) (hφ : φ ≠ .wins) (h : execWindowRequestWrite ctx w s = .next t) : φ.of t.eng = φ.of s.eng :=
  overLink_keeps h (by simp only [↓Eng.winWrite_keeps, Facet.tidy, hφ])

theorem execWindowDoorbell_keeps (ctx value) (hφ : φ ≠ .wins ∧ φ ≠ .inbox) (h : execWindowDoorbell ctx value s = .next t) :
    φ.of t.eng = φ.of s.eng :=
  overLink_keeps h (by simp only [↓Facet.push, ↓Eng.winSubmit_keeps, Facet.tidy, hφ])

theorem execDmaTimeout_keeps (tx ring) (hφ : φ ≠ .rxRings ∧ φ ≠ .txRings) (h : execDmaTimeout tx ring s = .next t) :
    φ.of t.eng = φ.of s.eng :=
  lift_keeps h (by simp only [↓Eng.dmaTimeout_keeps, Facet.tidy, hφ])

/-! ## The counters -/

theorem Eng.snapPage_keeps (g) : φ.of (e.snapPage x g) = φ.of e := by
  unfold Eng.snapPage
  dsimp only
  simp only [↓Facet.push, ↓Facet.with_ctr, ↓Eng.irqLatch_keeps, ↓Eng.set_keeps, Facet.tidy]

theorem Eng.snapMask_keeps (mask) : φ.of (e.snapMask x mask) = φ.of e := by
  unfold Eng.snapMask
  simp only [↓Facet.push, ↓Eng.snapPage_keeps, Facet.tidy]

theorem Eng.wrapClear_keeps (g mask) : φ.of (e.wrapClear x g mask) = φ.of e := by
  unfold Eng.wrapClear
  dsimp only
  simp only [↓Facet.push, ↓Facet.with_ctr, Facet.tidy]

theorem Eng.closeWindow_keeps (w) : φ.of (e.closeWindow x w) = φ.of e := by
  unfold Eng.closeWindow
  dsimp only
  simp only [↓Facet.push, ↓Facet.with_ctr, ↓Eng.setAll_keeps, ↓Eng.inc32_keeps, Facet.tidy]

theorem Eng.closeWindows_keeps (mask) : φ.of (e.closeWindows x mask) = φ.of e := by
  unfold Eng.closeWindows
  simp only [↓Facet.push, ↓Eng.closeWindow_keeps, Facet.tidy]

theorem cntWinWrite_keeps (w vs) : φ.of (cntWinWrite x w vs e).2 = φ.of e := by
  unfold cntWinWrite
  dsimp only
  simp only [↓Facet.push, ↓Eng.set_keeps, ↓Eng.orb_keeps, ↓Eng.closeWindow_keeps, Facet.tidy]

theorem cntStickyClear_keeps (v) : φ.of (cntStickyClear v e).2 = φ.of e := by
  unfold cntStickyClear
  dsimp only
  simp only [↓Facet.push, ↓Eng.andc_keeps, ↓Eng.orb_keeps, Facet.tidy]

theorem Eng.occCount_keeps (k i) : φ.of (e.occCount k i) = φ.of e := by
  unfold Eng.occCount
  dsimp only
  simp only [↓Facet.push, ↓Eng.set_keeps, ↓Eng.wrapBit_keeps, Facet.tidy]

theorem Eng.occSample_keeps (o) : φ.of (e.occSample x o) = φ.of e := by
  unfold Eng.occSample
  dsimp only
  simp only [↓Facet.push, ↓Facet.with_ctr, ↓Eng.set_keeps, ↓Eng.occCount_keeps, ↓Eng.irqLatch_keeps, Facet.tidy]

theorem Eng.occSampleAll_keeps : φ.of (e.occSampleAll x) = φ.of e := by
  unfold Eng.occSampleAll
  simp only [↓Facet.push, ↓Eng.occSample_keeps, Facet.tidy]

theorem cntOccWrite_keeps (o vs) : φ.of (cntOccWrite o vs e).2 = φ.of e := by
  unfold cntOccWrite
  dsimp only
  simp only [↓Facet.push, ↓Facet.with_ctr, ↓Eng.set_keeps, Facet.tidy]

theorem Eng.snapView_keeps (g) : φ.of (e.snapView x g) = φ.of e := by
  unfold Eng.snapView
  dsimp only
  simp only [↓Facet.push, ↓Facet.with_ctr, Facet.tidy]

theorem cntUserWrite_keeps (v) : φ.of (cntUserWrite v e).2 = φ.of e := by
  unfold cntUserWrite
  dsimp only
  simp only [↓Facet.with_ctr, ↓Eng.set_keeps]

theorem Eng.counterParity_keeps (which) : φ.of (e.counterParity x which) = φ.of e := by
  unfold Eng.counterParity
  dsimp only
  simp only [↓Eng.set_keeps, ↓Eng.inc32_keeps, ↓Eng.detect_keeps, ↓Eng.orb_keeps]

theorem Eng.countTick_keeps : φ.of (e.countTick x) = φ.of e := by
  unfold Eng.countTick
  simp only [↓Eng.countN_keeps, ↓Eng.count_keeps]

theorem execCounterPageSnap_keeps (page) (h : execCounterPageSnap page s = .next t) : φ.of t.eng = φ.of s.eng :=
  overLink_keeps h (by simp only [↓Eng.snapPage_keeps])

theorem execWrapClear_keeps (page mask) (h : execWrapClear page mask s = .next t) : φ.of t.eng = φ.of s.eng :=
  overLink_keeps h (by simp only [↓Eng.wrapClear_keeps])

theorem snapMaskWrite_keeps (v) : φ.of (snapMaskWrite x v e).2 = φ.of e := by
  unfold snapMaskWrite
  simp only [↓Facet.push, ↓Eng.snapMask_keeps]

theorem execSnapMaskWrite_keeps (mask roles) (h : execSnapMaskWrite mask roles s = .next t) : φ.of t.eng = φ.of s.eng :=
  lift_keeps h (by simp only [↓Eng.writeCmd_keeps, ↓snapMaskWrite_keeps])

theorem execCntWinClose_keeps (window value roles) (h : execCntWinClose window value roles s = .next t) : φ.of t.eng = φ.of s.eng :=
  lift_keeps h (by simp only [↓Eng.writeCmd_keeps, ↓cntWinWrite_keeps])

theorem execCntWinEventWrite_keeps (window value roles) (h : execCntWinEventWrite window value roles s = .next t) :
    φ.of t.eng = φ.of s.eng :=
  lift_keeps h (by simp only [↓Eng.writeCmd_keeps, ↓cntWinWrite_keeps])

theorem execCntOccWrite_keeps (occ w roles) (h : execCntOccWrite occ w roles s = .next t) : φ.of t.eng = φ.of s.eng :=
  lift_keeps h (by simp only [↓Eng.recCmd_keeps, ↓cntOccWrite_keeps, Facet.tidy])

theorem execPeakClear_keeps (occ value roles) (h : execPeakClear occ value roles s = .next t) : φ.of t.eng = φ.of s.eng :=
  lift_keeps h (by simp only [↓Eng.writeCmd_keeps, ↓cntOccWrite_keeps])

theorem execUserViewSnap_keeps (page) (h : execUserViewSnap page s = .next t) : φ.of t.eng = φ.of s.eng :=
  overLink_keeps h (by simp only [↓Eng.snapView_keeps])

theorem execCntUserMaskWrite_keeps (mask roles) (h : execCntUserMaskWrite mask roles s = .next t) : φ.of t.eng = φ.of s.eng :=
  lift_keeps h (by simp only [↓Eng.writeCmd_keeps, ↓cntUserWrite_keeps])

/-! ## The oscillator -/

theorem Eng.modModel_keeps (f) (hφ : φ ≠ .model) : φ.of (e.modModel f) = φ.of e := by
  unfold Eng.modModel
  simp only [↓Facet.with_model, Facet.tidy, hφ]

theorem Eng.excludeDies_keeps (dies) (hφ : φ ≠ .model) : φ.of (e.excludeDies x dies) = φ.of e := by
  unfold Eng.excludeDies
  dsimp only
  simp only [↓Facet.push, ↓Eng.condOn_keeps, ↓Eng.orb_keeps, ↓Eng.modModel_keeps, Facet.tidy, hφ]

theorem Eng.checkTherm_keeps (r) : φ.of (e.checkTherm x r) = φ.of e := by
  unfold Eng.checkTherm
  simp only [↓Facet.push, ↓Eng.orb_keeps, ↓Eng.condOn_keeps, ↓Eng.condOff_keeps, Facet.tidy]

theorem Eng.sampleTemp_keeps (r dies) (hφ : φ ≠ .model) : φ.of (e.sampleTemp x r dies) = φ.of e := by
  unfold Eng.sampleTemp
  dsimp only
  simp only [↓Facet.push, ↓Eng.checkTherm_keeps, ↓Eng.excludeDies_keeps, ↓Eng.modModel_keeps, ↓Eng.set_keeps, Facet.tidy, hφ]

theorem Eng.modelSeed_keeps (hφ : φ ≠ .model) : φ.of e.modelSeed = φ.of e := by
  unfold Eng.modelSeed
  simp only [↓Eng.modModel_keeps, Facet.tidy, hφ]

theorem Eng.showModel_keeps : φ.of e.showModel = φ.of e := by
  unfold Eng.showModel
  dsimp only
  simp only [↓Eng.setAll_keeps, ↓Eng.set_keeps]

theorem Eng.modelBoundary_keeps (hφ : φ ≠ .model) : φ.of (e.modelBoundary x) = φ.of e := by
  unfold Eng.modelBoundary
  dsimp only
  simp only [↓Facet.push, ↓Eng.modelSeed_keeps, ↓Eng.set_keeps, ↓Eng.showModel_keeps, ↓Eng.modModel_keeps, Facet.tidy, hφ]

/-! ## The slots -/

theorem Eng.modSlot_keeps (s f) (hφ : φ ≠ .sel) : φ.of (e.modSlot s f) = φ.of e := by
  unfold Eng.modSlot
  dsimp only
  simp only [↓Facet.with_sel, Facet.tidy, hφ]

theorem Eng.modSelMoon_keeps (k f) (hφ : φ ≠ .sel) : φ.of (e.modSelMoon k f) = φ.of e := by
  unfold Eng.modSelMoon
  dsimp only
  simp only [↓Facet.with_sel, Facet.tidy, hφ]

theorem Eng.modUnit_keeps (k f) (hφ : φ ≠ .steer) : φ.of (e.modUnit k f) = φ.of e := by
  unfold Eng.modUnit
  simp only [↓Facet.with_steer, Facet.tidy, hφ]

theorem Eng.keepPast_keeps (b) (hφ : φ ≠ .sel) : φ.of (e.keepPast x b) = φ.of e := by
  unfold Eng.keepPast
  dsimp only
  simp only [↓Facet.with_sel, Facet.tidy, hφ]

/-! ## Steering -/

theorem Eng.loopFeed_keeps (k s r) (hφ : φ ≠ .sel ∧ φ ≠ .steer) : φ.of (e.loopFeed k s r) = φ.of e := by
  unfold Eng.loopFeed
  dsimp only
  simp only [↓Facet.push, ↓Eng.modUnit_keeps, ↓Eng.modSelMoon_keeps, ↓Eng.set_keeps, Facet.tidy, hφ]

theorem Eng.trackUnit_keeps (k) (hφ : φ ≠ .steer) : φ.of (e.trackUnit x k) = φ.of e := by
  unfold Eng.trackUnit
  dsimp only
  simp only [↓Eng.modUnit_keeps, Facet.tidy, hφ]

theorem Eng.stageReturn_keeps (k) : φ.of (e.stageReturn x k) = φ.of e := by
  unfold Eng.stageReturn
  dsimp only
  simp only [↓Facet.push, ↓Eng.orb_keeps, ↓Eng.set_keeps, Facet.tidy]

theorem Eng.loopCopies_keeps (k bad) (hφ : φ ≠ .steer) : φ.of (e.loopCopies x k bad) = φ.of e := by
  unfold Eng.loopCopies
  dsimp only
  simp only [↓Facet.push, ↓Eng.modUnit_keeps, ↓Eng.detect_keeps, ↓Eng.orb_keeps, ↓Eng.set_keeps, Facet.tidy, hφ]

theorem Eng.modelCopies_keeps (bad) (hφ : φ ≠ .model) : φ.of (e.modelCopies x bad) = φ.of e := by
  unfold Eng.modelCopies
  dsimp only
  simp only [↓Facet.push, ↓Eng.modModel_keeps, ↓Eng.orb_keeps, ↓Eng.detect_keeps, Facet.tidy, hφ]

theorem Eng.closeModel_keeps (hφ : φ ≠ .model) : φ.of e.closeModel = φ.of e := by
  unfold Eng.closeModel
  simp only [↓Facet.push, ↓Eng.modModel_keeps, Facet.tidy, hφ]

theorem Eng.unitMode_keeps (k) (hφ : φ ≠ .steer) : φ.of (e.unitMode x k) = φ.of e := by
  unfold Eng.unitMode
  dsimp only
  simp only [↓Eng.modUnit_keeps, Facet.tidy, hφ]

theorem Eng.unitClamp_keeps (k) (hφ : φ ≠ .steer ∧ φ ≠ .model) : φ.of (e.unitClamp x k) = φ.of e := by
  unfold Eng.unitClamp
  dsimp only
  simp only [↓Facet.push, ↓Eng.modUnit_keeps, ↓Eng.orb_keeps, ↓Eng.modModel_keeps, Facet.tidy, hφ]

theorem Eng.unitState_keeps (k) (hφ : φ ≠ .steer) : φ.of (e.unitState x k) = φ.of e := by
  unfold Eng.unitState
  dsimp only
  simp only [↓Facet.push, ↓Eng.modUnit_keeps, ↓Eng.set_keeps, ↓Eng.inc32_keeps, ↓Eng.orb_keeps, Facet.tidy, hφ]

theorem Eng.unitRun_keeps (k) (hφ : φ ≠ .steer ∧ φ ≠ .model) : φ.of (e.unitRun x k) = φ.of e := by
  unfold Eng.unitRun
  dsimp only
  simp only [↓Facet.push, ↓Eng.modUnit_keeps, ↓Eng.modModel_keeps, Facet.tidy, hφ]

theorem Eng.showUnit_keeps (k) : φ.of (e.showUnit x k) = φ.of e := by
  unfold Eng.showUnit
  dsimp only
  simp only [↓Facet.push, ↓Eng.orb_keeps, ↓Eng.setAll_keeps, Facet.tidy]

theorem Eng.unitBoundary_keeps (k) (hφ : φ ≠ .steer ∧ φ ≠ .model) : φ.of (e.unitBoundary x k) = φ.of e := by
  unfold Eng.unitBoundary
  dsimp only
  simp only [↓Facet.push, ↓Eng.set_keeps, ↓Eng.unitRun_keeps, ↓Eng.unitState_keeps, ↓Eng.unitClamp_keeps, ↓Eng.unitMode_keeps,
    ↓Eng.showUnit_keeps, Facet.tidy, hφ]

theorem Eng.steerUnits_keeps (therm dies) (hφ : φ ≠ .steer ∧ φ ≠ .model) : φ.of (e.steerUnits x therm dies) = φ.of e := by
  unfold Eng.steerUnits
  dsimp only
  simp only [↓Facet.push, ↓Eng.modelBoundary_keeps, ↓Eng.sampleTemp_keeps, ↓Eng.unitBoundary_keeps, Facet.tidy, hφ]

theorem Eng.observe_keeps (hφ : φ ≠ .model) : φ.of (e.observe x) = φ.of e := by
  unfold Eng.observe
  dsimp only
  simp only [↓Facet.push, ↓Eng.modModel_keeps, ↓Eng.orb_keeps, ↓Eng.showModel_keeps, Facet.tidy, hφ]

theorem steerMoonWrite_keeps (k vs) : φ.of (steerMoonWrite k vs e).2 = φ.of e := by
  unfold steerMoonWrite
  dsimp only
  simp only [↓Facet.push, ↓Eng.setAll_keeps, Facet.tidy]

theorem steerCmd_keeps (k) (hφ : φ ≠ .steer) : φ.of (steerCmd k e).2 = φ.of e := by
  unfold steerCmd
  simp only [↓Facet.push, ↓Eng.modUnit_keeps, Facet.tidy, hφ]

theorem modelCmd_keeps (hφ : φ ≠ .model) : φ.of (modelCmd e).2 = φ.of e := by
  unfold modelCmd
  simp only [↓Facet.push, ↓Eng.modModel_keeps, Facet.tidy, hφ]

theorem execSteerModeWrite_keeps (moon value roles) (h : execSteerModeWrite moon value roles s = .next t) : φ.of t.eng = φ.of s.eng :=
  lift_keeps h (by simp only [↓Eng.writeCmd_keeps, ↓steerMoonWrite_keeps])

theorem execRestart_keeps (moon value roles) (hφ : φ ≠ .steer) (h : execRestart moon value roles s = .next t) : φ.of t.eng = φ.of s.eng :=
  lift_keeps h (by simp only [↓Eng.writeCmd_keeps, ↓steerCmd_keeps, Facet.tidy, hφ])

theorem execRestartModel_keeps (value roles) (hφ : φ ≠ .model) (h : execRestartModel value roles s = .next t) : φ.of t.eng = φ.of s.eng :=
  lift_keeps h (by simp only [↓Eng.writeCmd_keeps, ↓modelCmd_keeps, Facet.tidy, hφ])

theorem execModelObservation_keeps (hφ : φ ≠ .model) (h : execModelObservation s = .next t) : φ.of t.eng = φ.of s.eng :=
  lift_keeps h (by simp only [↓Eng.observe_keeps, Facet.tidy, hφ])

/-! ## The selector -/

theorem Eng.noFigures_keeps (s) : φ.of (e.noFigures s) = φ.of e := by
  unfold Eng.noFigures
  simp only [↓Eng.setAll_keeps]

theorem Eng.slotDown_keeps (s) (hφ : φ ≠ .sel) : φ.of (e.slotDown x s) = φ.of e := by
  unfold Eng.slotDown
  dsimp only
  simp only [↓Facet.push, ↓Eng.inc32_keeps, ↓Eng.set_keeps, ↓Eng.modSlot_keeps, ↓Eng.noFigures_keeps, ↓Eng.modSelMoon_keeps, Facet.tidy, hφ]

theorem Eng.setCause_keeps (s c) (hφ : φ ≠ .sel) : φ.of (e.setCause x s c) = φ.of e := by
  unfold Eng.setCause
  dsimp only
  simp only [↓Facet.push, ↓Eng.orb_keeps, ↓Eng.inc32_keeps, ↓Eng.slotDown_keeps, Facet.tidy, hφ]

theorem Eng.slotEligible_keeps (s) (hφ : φ ≠ .sel) : φ.of (e.slotEligible s) = φ.of e := by
  unfold Eng.slotEligible
  simp only [↓Eng.modSlot_keeps, ↓Eng.set_keeps, Facet.tidy, hφ]

theorem Eng.clearCauses_keeps (s mask direct) (hφ : φ ≠ .sel) : φ.of (e.clearCauses x s mask direct) = φ.of e := by
  unfold Eng.clearCauses
  dsimp only
  simp only [↓Facet.push, ↓Eng.andc_keeps, ↓Eng.slotEligible_keeps, ↓Eng.modSlot_keeps, ↓Eng.set_keeps, Facet.tidy, hφ]

theorem Eng.clearCause_keeps (s c) (hφ : φ ≠ .sel) : φ.of (e.clearCause x s c) = φ.of e := by
  unfold Eng.clearCause
  simp only [↓Eng.clearCauses_keeps, Facet.tidy, hφ]

theorem Eng.sourceChanged_keeps (s) (hφ : φ ≠ .sel) : φ.of (e.sourceChanged x s) = φ.of e := by
  unfold Eng.sourceChanged
  simp only [↓Facet.push, ↓Eng.clearCause_keeps, ↓Eng.modSlot_keeps, ↓Eng.setCause_keeps, Facet.tidy, hφ]

theorem Eng.rebind_keeps (hφ : φ ≠ .sel) : φ.of (e.rebind x) = φ.of e := by
  unfold Eng.rebind
  dsimp only
  simp only [↓Facet.push, ↓Eng.modSlot_keeps, ↓Eng.setAll_keeps, ↓Eng.sourceChanged_keeps, ↓Eng.setCause_keeps, Facet.tidy, hφ]

theorem Eng.rebase_keeps (s mask direct) (hφ : φ ≠ .sel) : φ.of (e.rebase x s mask direct) = φ.of e := by
  unfold Eng.rebase
  simp only [↓Eng.clearCauses_keeps, ↓Eng.modSlot_keeps, Facet.tidy, hφ]

theorem Eng.testJump_keeps (s r) (hφ : φ ≠ .sel) : φ.of (e.testJump x s r).2 = φ.of e := by
  unfold Eng.testJump
  dsimp only
  split <;> simp only [↓Facet.push, ↓Eng.modSlot_keeps, ↓Eng.rebase_keeps, ↓Eng.orb_keeps, ↓Eng.setCause_keeps, Facet.tidy, hφ]

theorem Eng.testPath_keeps (s mpd) (hφ : φ ≠ .sel) : φ.of (e.testPath x s mpd).2 = φ.of e := by
  unfold Eng.testPath
  dsimp only
  simp only [↓Facet.push, ↓Eng.set_keeps, ↓Eng.modSlot_keeps, ↓Eng.setCause_keeps, Facet.tidy, hφ]

theorem Eng.addSample_keeps (c a r) (hφ : φ ≠ .sel) : φ.of (e.addSample c a r) = φ.of e := by
  unfold Eng.addSample
  dsimp only
  split <;> simp only [↓Eng.modSlot_keeps, Facet.tidy, hφ]

theorem Eng.asymSample_keeps (c r) (hφ : φ ≠ .sel) : φ.of (e.asymSample x c r) = φ.of e := by
  unfold Eng.asymSample
  dsimp only
  repeat' split
  all_goals simp only [↓Eng.setCause_keeps, ↓Eng.modSlot_keeps, ↓Eng.addSample_keeps, Facet.tidy, hφ]

theorem Eng.asymStage_keeps (c stage) (hφ : φ ≠ .sel) : φ.of (e.asymStage c stage) = φ.of e := by
  unfold Eng.asymStage
  simp only [↓Eng.modSlot_keeps, Facet.tidy, hφ]

theorem Eng.asymClose_keeps (hφ : φ ≠ .sel) : φ.of e.asymClose = φ.of e := by
  unfold Eng.asymClose
  simp only [↓Facet.push, ↓Eng.asymStage_keeps, Facet.tidy, hφ]

theorem Eng.asymClear_keeps (c d direct) (hφ : φ ≠ .sel) : φ.of (e.asymClear x c d direct) = φ.of e := by
  unfold Eng.asymClear
  simp only [↓Eng.rebase_keeps, ↓Eng.modSlot_keeps, Facet.tidy, hφ]

theorem Eng.asymApply_keeps (c was) (hφ : φ ≠ .sel) : φ.of (e.asymApply x c was) = φ.of e := by
  unfold Eng.asymApply
  dsimp only
  split <;> simp only [↓Facet.push, ↓Facet.with_sel, ↓Eng.asymClear_keeps, ↓Eng.set_keeps, ↓Eng.orb_keeps, ↓Eng.inc32_keeps, Facet.tidy, hφ]

theorem Eng.asymBoundary_keeps (old) (hφ : φ ≠ .sel) : φ.of (e.asymBoundary x old) = φ.of e := by
  unfold Eng.asymBoundary
  simp only [↓Facet.push, ↓Eng.asymApply_keeps, Facet.tidy, hφ]

theorem Eng.feedLoops_keeps (s r) (hφ : φ ≠ .sel ∧ φ ≠ .steer) : φ.of (e.feedLoops s r) = φ.of e := by
  unfold Eng.feedLoops
  simp only [↓Facet.push, ↓Eng.loopFeed_keeps, Facet.tidy, hφ]

theorem Eng.deliver_keeps (s m) (hφ : φ ≠ .sel ∧ φ ≠ .steer) : φ.of (e.deliver x s m) = φ.of e := by
  unfold Eng.deliver
  dsimp only
  repeat' split
  all_goals simp only [↓Facet.push, ↓Eng.orb_keeps, ↓Eng.modSlot_keeps, ↓Eng.clearCause_keeps, ↓Eng.setAll_keeps, ↓Eng.testPath_keeps,
    ↓Eng.asymSample_keeps, ↓Eng.testJump_keeps, ↓Eng.feedLoops_keeps, Facet.tidy, hφ]

theorem Eng.stabFigures_keeps (s sec) : φ.of (e.stabFigures s sec) = φ.of e := by
  unfold Eng.stabFigures
  dsimp only
  simp only [↓Facet.push, ↓Eng.set_keeps, Facet.tidy]

theorem Eng.stability_keeps (hφ : φ ≠ .sel) : φ.of (e.stability x) = φ.of e := by
  unfold Eng.stability
  dsimp only
  simp only [↓Facet.push, ↓Eng.modSlot_keeps, ↓Eng.stabFigures_keeps, Facet.tidy, hφ]

theorem Eng.dwellCause_keeps (s c out in_) (hφ : φ ≠ .sel) : φ.of (e.dwellCause x s c out in_) = φ.of e := by
  unfold Eng.dwellCause
  dsimp only
  simp only [↓Facet.push, ↓Eng.setCause_keeps, ↓Eng.clearCause_keeps, Facet.tidy, hφ]

theorem Eng.judgeSlot_keeps (s) (hφ : φ ≠ .sel) : φ.of (e.judgeSlot x s) = φ.of e := by
  unfold Eng.judgeSlot
  dsimp only
  simp only [↓Facet.push, ↓Eng.sourceChanged_keeps, ↓Eng.setCause_keeps, ↓Eng.clearCause_keeps, ↓Eng.modSlot_keeps, ↓Eng.dwellCause_keeps,
    ↓Eng.orb_keeps, ↓Eng.setAll_keeps, Facet.tidy, hφ]

theorem Eng.anchorMoon_keeps (k) (hφ : φ ≠ .sel) : φ.of (e.anchorMoon x k) = φ.of e := by
  unfold Eng.anchorMoon
  dsimp only
  simp only [↓Facet.push, ↓Eng.modSelMoon_keeps, Facet.tidy, hφ]

theorem Eng.showSelMoon_keeps (k) : φ.of (e.showSelMoon x k) = φ.of e := by
  unfold Eng.showSelMoon
  dsimp only
  simp only [↓Eng.setAll_keeps]

theorem Eng.selBoundary_keeps (hφ : φ ≠ .sel) : φ.of (e.selBoundary x) = φ.of e := by
  unfold Eng.selBoundary
  dsimp only
  simp only [↓Facet.push, ↓Eng.anchorMoon_keeps, ↓Eng.judgeSlot_keeps, ↓Eng.showSelMoon_keeps, Facet.tidy, hφ]

theorem Eng.applySwitch_keeps (k) (hφ : φ ≠ .sched ∧ φ ≠ .sel) : φ.of (e.applySwitch k).2 = φ.of e := by
  unfold Eng.applySwitch
  dsimp only
  split <;> simp only [↓Facet.push, ↓Facet.with_sched, ↓Eng.modSelMoon_keeps, ↓Eng.set_keeps, ↓Eng.orb_keeps, ↓Eng.inc32_keeps, Facet.tidy,
    hφ]

theorem Eng.selectMoon_keeps (k) (hφ : φ ≠ .sched ∧ φ ≠ .sel) : φ.of (e.selectMoon x k) = φ.of e := by
  unfold Eng.selectMoon
  dsimp only
  simp only [↓Facet.push, ↓Eng.modSelMoon_keeps, ↓Eng.applySwitch_keeps, Facet.tidy, hφ]

theorem Eng.stageSet_keeps (k b) : φ.of (e.stageSet x k b) = φ.of e := by
  unfold Eng.stageSet
  dsimp only
  repeat' split
  all_goals simp only [↓Eng.set_keeps]

theorem Eng.stageJump_keeps (k s) (hφ : φ ≠ .sel) : φ.of (e.stageJump x k s) = φ.of e := by
  unfold Eng.stageJump
  dsimp only
  split <;> simp only [↓Facet.push, ↓Eng.modSlot_keeps, ↓Eng.set_keeps, Facet.tidy, hφ]

theorem Eng.selClose_keeps (b bad) (hφ : φ ≠ .sched ∧ φ ≠ .sel) : φ.of (e.selClose x b bad) = φ.of e := by
  have hj (e : Eng) (s : Nat) : φ.of ((e.slot s).jumpMoons.foldl (fun e k => e.stageJump x k s) e) = φ.of e :=
    Facet.of_foldl e _ (fun e k => e.stageJump_keeps x k s hφ.2) _
  unfold Eng.selClose
  dsimp only
  simp only [↓Facet.push, ↓Facet.with_sel, ↓hj, ↓Eng.detect_keeps, ↓Eng.inc32_keeps, ↓Eng.orb_keeps, ↓Eng.selectMoon_keeps,
    ↓Eng.stageSet_keeps, Facet.tidy, hφ]

theorem Eng.takeSelection_keeps (b k) (hφ : φ ≠ .sel) : φ.of (e.takeSelection x b k) = φ.of e := by
  unfold Eng.takeSelection
  dsimp only
  split <;> simp only [↓Facet.push, ↓Eng.setAll_keeps, ↓Eng.inc32_keeps, ↓Eng.orb_keeps, ↓Eng.irqLatch_keeps, ↓Eng.modSelMoon_keeps,
    Facet.tidy, hφ]

theorem Eng.takeSelections_keeps (b) (hφ : φ ≠ .sel) : φ.of (e.takeSelections x b) = φ.of e := by
  unfold Eng.takeSelections
  simp only [↓Facet.push, ↓Eng.takeSelection_keeps, Facet.tidy, hφ]

theorem Eng.jumpSteps_keeps (hφ : φ ≠ .sel) : φ.of (e.jumpSteps x) = φ.of e := by
  unfold Eng.jumpSteps
  refine Facet.of_foldl e _ (fun e s => ?_) _
  split <;> simp only [↓Facet.push, ↓Eng.rebase_keeps, Facet.tidy, hφ]

theorem selSlotWrite_keeps (s vs) (hφ : φ ≠ .sel) : φ.of (selSlotWrite x s vs e).2 = φ.of e := by
  unfold selSlotWrite
  dsimp only
  simp only [↓Facet.push, ↓Eng.setAll_keeps, ↓Eng.set_keeps, ↓Eng.modSlot_keeps, Facet.tidy, hφ]

theorem selMoonWrite_keeps (k vs) (hφ : φ ≠ .sel) : φ.of (selMoonWrite k vs e).2 = φ.of e := by
  unfold selMoonWrite
  dsimp only
  simp only [↓Facet.push, ↓Facet.with_sel, ↓Eng.setAll_keeps, Facet.tidy, hφ]

theorem selCmd_keeps (s v) (hφ : φ ≠ .sel) : φ.of (selCmd x s v e).2 = φ.of e := by
  unfold selCmd
  simp only [↓Facet.push, ↓Eng.rebase_keeps, ↓Eng.modSlot_keeps, ↓Eng.slotEligible_keeps, ↓Eng.noFigures_keeps, Facet.tidy, hφ]

theorem selPeek_keeps (vs) : φ.of (selPeek vs e).2 = φ.of e := by
  unfold selPeek
  dsimp only
  simp only [↓Eng.setAll_keeps]

theorem execStabilityUpdate_keeps (hφ : φ ≠ .sel) (h : execStabilityUpdate s = .next t) : φ.of t.eng = φ.of s.eng :=
  lift_keeps h (by simp only [↓Eng.stability_keeps, Facet.tidy, hφ])

theorem execSlotSilent_keeps (slot) (hφ : φ ≠ .sel) (h : execSlotSilent slot s = .next t) : φ.of t.eng = φ.of s.eng :=
  lift_keeps h (by simp only [↓whenDue_keeps, ↓Eng.setCause_keeps, Facet.tidy, hφ])

theorem execAsymEstimate_keeps (slot) (hφ : φ ≠ .sel) (h : execAsymEstimate slot s = .next t) : φ.of t.eng = φ.of s.eng :=
  lift_keeps h (by simp only [↓whenDue_keeps, ↓Eng.asymStage_keeps, Facet.tidy, hφ])

theorem execWaitToRestoreEnd_keeps (slot) (hφ : φ ≠ .sel) (h : execWaitToRestoreEnd slot s = .next t) : φ.of t.eng = φ.of s.eng :=
  lift_keeps h (by simp only [↓whenDue_keeps, ↓Eng.slotEligible_keeps, Facet.tidy, hφ])

theorem execAcceptJump_keeps (slot roles) (hφ : φ ≠ .sel) (h : execAcceptJump slot roles s = .next t) : φ.of t.eng = φ.of s.eng :=
  lift_keeps h (by simp only [↓Eng.writeCmd_keeps, ↓selCmd_keeps, Facet.tidy, hφ])

theorem execClearWtr_keeps (slot roles) (hφ : φ ≠ .sel) (h : execClearWtr slot roles s = .next t) : φ.of t.eng = φ.of s.eng :=
  lift_keeps h (by simp only [↓Eng.writeCmd_keeps, ↓selCmd_keeps, Facet.tidy, hφ])

theorem execResetStability_keeps (slot roles) (hφ : φ ≠ .sel) (h : execResetStability slot roles s = .next t) : φ.of t.eng = φ.of s.eng :=
  lift_keeps h (by simp only [↓Eng.writeCmd_keeps, ↓selCmd_keeps, Facet.tidy, hφ])

theorem execSelPeekWrite_keeps (w roles) (h : execSelPeekWrite w roles s = .next t) : φ.of t.eng = φ.of s.eng :=
  lift_keeps h (by simp only [↓Eng.recCmd_keeps, ↓selPeek_keeps, Facet.tidy])

theorem execSelForceWrite_keeps (moon value roles) (hφ : φ ≠ .sel) (h : execSelForceWrite moon value roles s = .next t) :
    φ.of t.eng = φ.of s.eng :=
  lift_keeps h (by simp only [↓Eng.writeCmd_keeps, ↓selMoonWrite_keeps, Facet.tidy, hφ])

/-! ## The reference inputs -/

theorem Eng.modRefin_keeps (n f) (hφ : φ ≠ .refins) : φ.of (e.modRefin n f) = φ.of e := by
  unfold Eng.modRefin
  simp only [↓Facet.with_refins, Facet.tidy, hφ]

theorem Eng.modSynce_keeps (c f) (hφ : φ ≠ .synces) : φ.of (e.modSynce c f) = φ.of e := by
  unfold Eng.modSynce
  simp only [↓Facet.with_synces, Facet.tidy, hφ]

theorem Eng.refinState_keeps (n st) (hφ : φ ≠ .sel) : φ.of (e.refinState x n st) = φ.of e := by
  unfold Eng.refinState
  simp only [↓Eng.sourceChanged_keeps, ↓Eng.set_keeps, Facet.tidy, hφ]

theorem Eng.refinCause_keeps (n bit) (hφ : φ ≠ .refins ∧ φ ≠ .sel) : φ.of (e.refinCause x n bit) = φ.of e := by
  unfold Eng.refinCause
  dsimp only
  simp only [↓Facet.push, ↓Eng.modRefin_keeps, ↓Eng.orb_keeps, ↓Eng.set_keeps, ↓Eng.inc32_keeps, ↓Eng.refinState_keeps, Facet.tidy, hφ]

theorem Eng.refinCauseIf_keeps (n bit present) (hφ : φ ≠ .refins ∧ φ ≠ .sel) : φ.of (e.refinCauseIf x n bit present) = φ.of e := by
  unfold Eng.refinCauseIf
  simp only [↓Facet.push, ↓Eng.refinCause_keeps, Facet.tidy, hφ]

theorem Eng.sibCauses_keeps (n) (hφ : φ ≠ .refins ∧ φ ≠ .sel) : φ.of (e.sibCauses x n) = φ.of e := by
  unfold Eng.sibCauses
  split <;> simp only [↓Eng.refinCauseIf_keeps, Facet.tidy, hφ]

theorem Eng.refinClear_keeps (n bit) (hφ : φ ≠ .refins) : φ.of (e.refinClear x n bit) = φ.of e := by
  unfold Eng.refinClear
  simp only [↓Facet.push, ↓Eng.modRefin_keeps, ↓Eng.andc_keeps, Facet.tidy, hφ]

theorem Eng.refinTick_keeps (n) (hφ : φ ≠ .refins ∧ φ ≠ .sel) : φ.of (e.refinTick x n) = φ.of e := by
  unfold Eng.refinTick
  dsimp only
  simp only [↓Facet.push, ↓Eng.sibCauses_keeps, ↓Eng.refinClear_keeps, ↓Eng.refinState_keeps, ↓Eng.modRefin_keeps, Facet.tidy, hφ]

theorem Eng.refTick_keeps (hφ : φ ≠ .refins ∧ φ ≠ .sel) : φ.of (e.refTick x) = φ.of e := by
  unfold Eng.refTick
  simp only [↓Facet.push, ↓Eng.refinTick_keeps, Facet.tidy, hφ]

theorem Eng.modTod_keeps (f) (hφ : φ ≠ .tod) : φ.of (e.modTod f) = φ.of e := by
  unfold Eng.modTod
  simp only [↓Facet.with_tod, Facet.tidy, hφ]

theorem Eng.todAccept_keeps (tai n) (hφ : φ ≠ .tod) : φ.of (e.todAccept tai n) = φ.of e := by
  unfold Eng.todAccept
  dsimp only
  simp only [↓Facet.push, ↓Eng.set_keeps, ↓Eng.inc32_keeps, ↓Eng.modTod_keeps, ↓Eng.orb_keeps, Facet.tidy, hφ]

theorem Eng.todEdge_keeps (lin) (hφ : φ ≠ .tod) : φ.of (e.todEdge lin) = φ.of e := by
  unfold Eng.todEdge
  dsimp only
  simp only [↓Facet.push, ↓Eng.modTod_keeps, ↓Eng.orb_keeps, Facet.tidy, hφ]

theorem Eng.todEdgeLabelled_keeps (lin) (hφ : φ ≠ .tod) : φ.of (e.todEdgeLabelled lin) = φ.of e := by
  unfold Eng.todEdgeLabelled
  dsimp only
  split <;> simp only [↓Facet.push, ↓Eng.todEdge_keeps, ↓Eng.todAccept_keeps, ↓Eng.orb_keeps, ↓Eng.inc32_keeps, Facet.tidy, hφ]

theorem Eng.todMessage_keeps (text framing) (hφ : φ ≠ .tod) : φ.of (e.todMessage x text framing) = φ.of e := by
  unfold Eng.todMessage
  dsimp only
  repeat' split
  all_goals simp only [↓Eng.orb_keeps, ↓Eng.inc32_keeps, ↓Eng.modTod_keeps, ↓Eng.todAccept_keeps, Facet.tidy, hφ]

theorem Eng.refinMeasure_keeps (n c) (hφ : φ ≠ .refins ∧ φ ≠ .tod ∧ φ ≠ .sel ∧ φ ≠ .steer) : φ.of (e.refinMeasure x n c) = φ.of e := by
  unfold Eng.refinMeasure
  dsimp only
  simp only [↓Facet.push, ↓Eng.modRefin_keeps, ↓Eng.refinCauseIf_keeps, ↓Eng.todEdgeLabelled_keeps, ↓Eng.set_keeps, ↓Eng.setAll_keeps,
    ↓Eng.deliver_keeps, Facet.tidy, hφ]

theorem Eng.refinEdge_keeps (n c short width) (hφ : φ ≠ .refins ∧ φ ≠ .tod ∧ φ ≠ .sel ∧ φ ≠ .steer) :
    φ.of (e.refinEdge x n c short width) = φ.of e := by
  unfold Eng.refinEdge
  dsimp only
  simp only [↓Facet.push, ↓Eng.refinCauseIf_keeps, ↓Eng.refinMeasure_keeps, ↓Eng.sibCauses_keeps, ↓Eng.inc64_keeps, Facet.tidy, hφ]

theorem Eng.sliceStep_keeps (n hi lo) (hφ : φ ≠ .draws ∧ φ ≠ .refins ∧ φ ≠ .sel) : φ.of (e.sliceStep x n hi lo) = φ.of e := by
  unfold Eng.sliceStep
  dsimp only
  simp only [↓Facet.push, ↓Eng.set_keeps, ↓Eng.refinCause_keeps, ↓Eng.drawn_keeps, Facet.tidy, hφ]

theorem Eng.refinRestart_keeps (n) (hφ : φ ≠ .refins ∧ φ ≠ .sel) : φ.of (e.refinRestart x n) = φ.of e := by
  unfold Eng.refinRestart
  dsimp only
  simp only [↓Eng.modRefin_keeps, ↓Eng.setAll_keeps, ↓Eng.refinState_keeps, Facet.tidy, hφ]

theorem Eng.refinBoundary_keeps (n) (hφ : φ ≠ .draws ∧ φ ≠ .refins ∧ φ ≠ .sel) : φ.of (e.refinBoundary x n) = φ.of e := by
  unfold Eng.refinBoundary
  dsimp only
  repeat' split
  all_goals simp only [↓Eng.modRefin_keeps, ↓Eng.refinRestart_keeps, ↓Eng.sliceStep_keeps, ↓Eng.refinState_keeps, ↓Eng.set_keeps,
    Facet.tidy, hφ]

theorem Eng.takePeaks_keeps (ps) (hφ : φ ≠ .refins) : φ.of (e.takePeaks ps) = φ.of e := by
  unfold Eng.takePeaks
  simp only [↓Facet.push, ↓Eng.modRefin_keeps, Facet.tidy, hφ]

theorem Eng.testEdge_keeps (u ps) (hφ : φ ≠ .refins ∧ φ ≠ .synces ∧ φ ≠ .sel) : φ.of (e.testEdge x u ps) = φ.of e := by
  unfold Eng.testEdge
  dsimp only
  simp only [↓Facet.push, ↓Eng.modRefin_keeps, ↓Eng.refinCause_keeps, ↓Eng.detect_keeps, ↓Eng.modSynce_keeps, Facet.tidy, hφ]

theorem Eng.synceState_keeps (c st) (hφ : φ ≠ .sel) : φ.of (e.synceState x c st) = φ.of e := by
  unfold Eng.synceState
  simp only [↓Eng.sourceChanged_keeps, ↓Eng.set_keeps, Facet.tidy, hφ]

theorem Eng.synceCause_keeps (c bit present) (hφ : φ ≠ .synces ∧ φ ≠ .sel) : φ.of (e.synceCause x c bit present) = φ.of e := by
  unfold Eng.synceCause
  dsimp only
  simp only [↓Facet.push, ↓Eng.modSynce_keeps, ↓Eng.orb_keeps, ↓Eng.synceState_keeps, ↓Eng.andc_keeps, Facet.tidy, hφ]

theorem Eng.synceBoundary_keeps (c phase) (hφ : φ ≠ .synces ∧ φ ≠ .sel ∧ φ ≠ .steer) : φ.of (e.synceBoundary x c phase) = φ.of e := by
  unfold Eng.synceBoundary
  repeat' split
  all_goals simp only [↓Facet.push, ↓Eng.synceState_keeps, ↓Eng.modSynce_keeps, ↓Eng.setAll_keeps, ↓Eng.synceCause_keeps,
    ↓Eng.deliver_keeps, Facet.tidy, hφ]

theorem Eng.refBoundary_keeps (inp) (hφ : φ ≠ .draws ∧ φ ≠ .refins ∧ φ ≠ .synces ∧ φ ≠ .sel ∧ φ ≠ .steer) :
    φ.of (e.refBoundary x inp) = φ.of e := by
  unfold Eng.refBoundary
  dsimp only
  simp only [↓Facet.push, ↓Eng.testEdge_keeps, ↓Eng.takePeaks_keeps, ↓Eng.refinBoundary_keeps, ↓Eng.synceBoundary_keeps, Facet.tidy, hφ]

theorem refinCfgWrite_keeps (n vs) (hφ : φ ≠ .refins ∧ φ ≠ .sel) : φ.of (refinCfgWrite x n vs e).2 = φ.of e := by
  unfold refinCfgWrite
  dsimp only
  simp only [↓Facet.push, ↓Eng.setAll_keeps, ↓Eng.rebind_keeps, ↓Eng.modRefin_keeps, Facet.tidy, hφ]

theorem refinQualWrite_keeps (n vs) (hφ : φ ≠ .refins) : φ.of (refinQualWrite n vs e).2 = φ.of e := by
  unfold refinQualWrite
  dsimp only
  simp only [↓Facet.push, ↓Eng.setAll_keeps, ↓Eng.modRefin_keeps, Facet.tidy, hφ]

theorem synceWrite_keeps (c vs) (hφ : φ ≠ .sel) : φ.of (synceWrite x c vs e).2 = φ.of e := by
  unfold synceWrite
  dsimp only
  simp only [↓Facet.push, ↓Eng.setAll_keeps, ↓Eng.rebind_keeps, Facet.tidy, hφ]

theorem todInWrite_keeps (vs) (hφ : φ ≠ .tod) : φ.of (todInWrite vs e).2 = φ.of e := by
  unfold todInWrite
  dsimp only
  simp only [↓Facet.push, ↓Eng.setAll_keeps, ↓Eng.modTod_keeps, Facet.tidy, hφ]

theorem execRefinCompareEdge_keeps (input capture shortLevel width) (hφ : φ ≠ .refins ∧ φ ≠ .tod ∧ φ ≠ .sel ∧ φ ≠ .steer)
    (h : execRefinCompareEdge input capture shortLevel width s = .next t) :
    φ.of t.eng = φ.of s.eng :=
  lift_keeps h (by simp only [↓Eng.refinEdge_keeps, Facet.tidy, hφ])

theorem execRefinStuck_keeps (input) (hφ : φ ≠ .refins ∧ φ ≠ .sel) (h : execRefinStuck input s = .next t) : φ.of t.eng = φ.of s.eng :=
  lift_keeps h (by simp only [↓whenDue_keeps, ↓Eng.refinCause_keeps, Facet.tidy, hφ])

theorem execRefinConfigWrite_keeps (input qual w roles) (hφ : φ ≠ .refins ∧ φ ≠ .sel)
    (h : execRefinConfigWrite input qual w roles s = .next t) :
    φ.of t.eng = φ.of s.eng :=
  lift_keeps h (by simp only [↓Facet.push, ↓Eng.recCmd_keeps, ↓refinQualWrite_keeps, ↓refinCfgWrite_keeps, Facet.tidy, hφ])

theorem execTodInMessage_keeps (text framingError) (hφ : φ ≠ .tod) (h : execTodInMessage text framingError s = .next t) :
    φ.of t.eng = φ.of s.eng :=
  lift_keeps h (by simp only [↓Eng.todMessage_keeps, Facet.tidy, hφ])

theorem execSiblingStale_keeps (input) (hφ : φ ≠ .refins ∧ φ ≠ .sel) (h : execSiblingStale input s = .next t) : φ.of t.eng = φ.of s.eng :=
  lift_keeps h (by simp only [↓whenDue_keeps, ↓Eng.refinCause_keeps, Facet.tidy, hφ])

/-! ## GNSS -/

theorem Eng.modFe_keeps (f g) (hφ : φ ≠ .gnss) : φ.of (e.modFe f g) = φ.of e := by
  unfold Eng.modFe
  dsimp only
  simp only [↓Facet.with_gnss, Facet.tidy, hφ]

theorem Eng.feTo_keeps (f st) (hφ : φ ≠ .gnss ∧ φ ≠ .sel) : φ.of (e.feTo x f st) = φ.of e := by
  unfold Eng.feTo
  dsimp only
  simp only [↓Facet.push, ↓Eng.modFe_keeps, ↓Eng.sourceChanged_keeps, ↓Eng.set_keeps, Facet.tidy, hφ]

theorem Eng.feCause_keeps (f bit) (hφ : φ ≠ .gnss ∧ φ ≠ .sel) : φ.of (e.feCause x f bit) = φ.of e := by
  unfold Eng.feCause
  dsimp only
  simp only [↓Facet.push, ↓Eng.modFe_keeps, ↓Eng.inc32_keeps, ↓Eng.orb_keeps, ↓Eng.feTo_keeps, Facet.tidy, hφ]

theorem Eng.feCauseIf_keeps (f bit present) (hφ : φ ≠ .gnss ∧ φ ≠ .sel) : φ.of (e.feCauseIf x f bit present) = φ.of e := by
  unfold Eng.feCauseIf
  simp only [↓Facet.push, ↓Eng.feCause_keeps, Facet.tidy, hφ]

theorem Eng.antennaCause_keeps (f) (hφ : φ ≠ .gnss ∧ φ ≠ .sel) : φ.of (e.antennaCause x f) = φ.of e := by
  unfold Eng.antennaCause
  simp only [↓Eng.feCauseIf_keeps, Facet.tidy, hφ]

theorem Eng.feClear_keeps (f) (hφ : φ ≠ .gnss ∧ φ ≠ .sel) : φ.of (e.feClear x f) = φ.of e := by
  unfold Eng.feClear
  dsimp only
  simp only [↓Facet.push, ↓Eng.set_keeps, ↓Eng.modFe_keeps, ↓Eng.feTo_keeps, Facet.tidy, hφ]

theorem Eng.sampleTests_keeps (f bl) (hφ : φ ≠ .gnss ∧ φ ≠ .sel) : φ.of (e.sampleTests x f bl) = φ.of e := by
  unfold Eng.sampleTests
  dsimp only
  simp only [↓Eng.feCauseIf_keeps, ↓Eng.modFe_keeps, Facet.tidy, hφ]

theorem Eng.chanIdle_keeps (c) (hφ : φ ≠ .gnss) : φ.of (e.chanIdle c) = φ.of e := by
  unfold Eng.chanIdle
  dsimp only
  simp only [↓Facet.with_gnss, ↓Eng.setAll_keeps, Facet.tidy, hφ]

theorem Eng.chanObserve_keeps (f o) (hφ : φ ≠ .gnss) : φ.of (e.chanObserve x f o) = φ.of e := by
  unfold Eng.chanObserve
  dsimp only
  simp only [↓Facet.push, ↓Facet.with_gnss, ↓Eng.setAll_keeps, Facet.tidy, hφ]

theorem Eng.takeHit_keeps (f h) : φ.of (e.takeHit x f h) = φ.of e := by
  unfold Eng.takeHit
  dsimp only
  repeat' split
  all_goals simp only [↓Eng.setAll_keeps]

theorem Eng.dwell_keeps (f hits) : φ.of (e.dwell x f hits) = φ.of e := by
  unfold Eng.dwell
  simp only [↓Facet.push, ↓Eng.takeHit_keeps, Facet.tidy]

theorem Eng.trackState_keeps (f) (hφ : φ ≠ .gnss ∧ φ ≠ .sel) : φ.of (e.trackState x f) = φ.of e := by
  unfold Eng.trackState
  dsimp only
  simp only [↓Facet.push, ↓Eng.modFe_keeps, ↓Eng.feTo_keeps, Facet.tidy, hφ]

theorem Eng.navItem_keeps (now f n) (hφ : φ ≠ .gnss) : φ.of (e.navItem now f n) = φ.of e := by
  unfold Eng.navItem
  dsimp only
  split <;> simp only [↓Facet.push, ↓Facet.with_gnss, ↓Eng.setAll_keeps, ↓Eng.orb_keeps, Facet.tidy, hφ]

theorem Eng.showStore_keeps (now) : φ.of (e.showStore now) = φ.of e := by
  unfold Eng.showStore
  dsimp only
  simp only [↓Eng.set_keeps]

theorem Eng.gnssSave_keeps (hφ : φ ≠ .flash ∧ φ ≠ .gnss) : φ.of (e.gnssSave x) = φ.of e := by
  unfold Eng.gnssSave
  dsimp only
  simp only [↓Facet.with_flash_gnss, ↓Eng.set_keeps, Facet.tidy, hφ]

theorem Eng.keepFloor_keeps (f) (hφ : φ ≠ .gnss) : φ.of (e.keepFloor x f) = φ.of e := by
  unfold Eng.keepFloor
  dsimp only
  simp only [↓Eng.modFe_keeps, Facet.tidy, hφ]

theorem Eng.markUsed_keeps (f u excl) (hφ : φ ≠ .gnss) : φ.of (e.markUsed x f u excl) = φ.of e := by
  unfold Eng.markUsed
  dsimp only
  simp only [↓Facet.push, ↓Facet.with_gnss, ↓Eng.set_keeps, Facet.tidy, hφ]

theorem Eng.surveyRun_keeps (f p single) (hφ : φ ≠ .gnss) : φ.of (e.surveyRun x f p single) = φ.of e := by
  unfold Eng.surveyRun
  dsimp only
  simp only [↓Facet.push, ↓Eng.modFe_keeps, ↓Eng.set_keeps, ↓Eng.setAll_keeps, Facet.tidy, hφ]

theorem Eng.positionTest_keeps (f p) (hφ : φ ≠ .gnss ∧ φ ≠ .sel) : φ.of (e.positionTest x f p) = φ.of e := by
  unfold Eng.positionTest
  dsimp only
  simp only [↓Facet.push, ↓Eng.modFe_keeps, ↓Eng.feCause_keeps, ↓Eng.set_keeps, Facet.tidy, hφ]

theorem Eng.solved_keeps (f p t off used single noRaim) (hφ : φ ≠ .gnss ∧ φ ≠ .sel ∧ φ ≠ .steer) :
    φ.of (e.solved x f p t off used single noRaim) = φ.of e := by
  unfold Eng.solved
  dsimp only
  simp only [↓Facet.push, ↓Eng.feTo_keeps, ↓Eng.modFe_keeps, ↓Eng.feCauseIf_keeps, ↓Eng.positionTest_keeps, ↓Eng.surveyRun_keeps,
    ↓Eng.setAll_keeps, ↓Eng.deliver_keeps, Facet.tidy, hφ]

theorem Eng.unsolved_keeps (f) (hφ : φ ≠ .gnss) : φ.of (e.unsolved f) = φ.of e := by
  unfold Eng.unsolved
  simp only [↓Eng.modFe_keeps, Facet.tidy, hφ]

theorem Eng.solve_keeps (f p) (hφ : φ ≠ .gnss ∧ φ ≠ .sel ∧ φ ≠ .steer) : φ.of (e.solve x f p) = φ.of e := by
  unfold Eng.solve
  dsimp only
  repeat' split
  all_goals simp only [↓Eng.feCauseIf_keeps, ↓Eng.unsolved_keeps, ↓Eng.feCause_keeps, ↓Eng.detect_keeps, ↓Eng.markUsed_keeps,
    ↓Eng.solved_keeps, Facet.tidy, hφ]

theorem Eng.epoch_keeps (f p) (hφ : φ ≠ .gnss ∧ φ ≠ .sel ∧ φ ≠ .steer) : φ.of (e.epoch x f p) = φ.of e := by
  unfold Eng.epoch
  dsimp only
  simp only [↓Facet.push, ↓Eng.modFe_keeps, ↓Eng.showStore_keeps, ↓Eng.navItem_keeps, ↓Eng.keepFloor_keeps, ↓Eng.feCauseIf_keeps,
    ↓Eng.antennaCause_keeps, ↓Eng.solve_keeps, ↓Eng.unsolved_keeps, ↓Eng.feCause_keeps, ↓Eng.feClear_keeps, Facet.tidy, hφ]

theorem Eng.markAuth_keeps (prn st) : φ.of (e.markAuth prn st) = φ.of e := by
  unfold Eng.markAuth
  simp only [↓Facet.push, ↓Eng.set_keeps, Facet.tidy]

theorem Eng.osnma_keeps (r) (hφ : φ ≠ .gnss) : φ.of (e.osnma x r) = φ.of e := by
  unfold Eng.osnma
  dsimp only
  repeat' split
  all_goals simp only [↓Facet.push, ↓Facet.with_gnss, ↓Eng.set_keeps, ↓Eng.inc64_keeps, ↓Eng.markAuth_keeps, ↓Eng.inc32_keeps,
    ↓Eng.modFe_keeps, Facet.tidy, hφ]

theorem Eng.feBoundary_keeps (f) (hφ : φ ≠ .gnss ∧ φ ≠ .sel) : φ.of (e.feBoundary x f) = φ.of e := by
  unfold Eng.feBoundary
  dsimp only
  simp only [↓Facet.push, ↓Eng.modFe_keeps, ↓Eng.feTo_keeps, ↓Eng.set_keeps, Facet.tidy, hφ]

theorem Eng.gnssBoundary_keeps (hφ : φ ≠ .gnss ∧ φ ≠ .sel) : φ.of (e.gnssBoundary x) = φ.of e := by
  unfold Eng.gnssBoundary
  simp only [↓Eng.feBoundary_keeps, Facet.tidy, hφ]

theorem Eng.feRestarts_keeps (hφ : φ ≠ .gnss) : φ.of e.feRestarts = φ.of e := by
  unfold Eng.feRestarts
  simp only [↓Facet.push, ↓Eng.modFe_keeps, Facet.tidy, hφ]

theorem gnssFeWrite_keeps (f vs) (hφ : φ ≠ .gnss ∧ φ ≠ .sel) : φ.of (gnssFeWrite x f vs e).2 = φ.of e := by
  unfold gnssFeWrite
  dsimp only
  simp only [↓Facet.push, ↓Eng.setAll_keeps, ↓Eng.rebind_keeps, ↓Eng.feRestarts_keeps, Facet.tidy, hφ]

theorem gnssGlobalWrite_keeps (vs) (hφ : φ ≠ .gnss) : φ.of (gnssGlobalWrite vs e).2 = φ.of e := by
  unfold gnssGlobalWrite
  dsimp only
  simp only [↓Facet.push, ↓Eng.setAll_keeps, ↓Eng.feRestarts_keeps, Facet.tidy, hφ]

theorem gnssPosWrite_keeps (vs) (hφ : φ ≠ .gnss) : φ.of (gnssPosWrite vs e).2 = φ.of e := by
  unfold gnssPosWrite
  dsimp only
  simp only [↓Facet.push, ↓Eng.setAll_keeps, ↓Eng.modFe_keeps, Facet.tidy, hφ]

theorem gnssHeldWrite_keeps (vs) : φ.of (gnssHeldWrite vs e).2 = φ.of e := by
  unfold gnssHeldWrite
  dsimp only
  simp only [↓Facet.push, ↓Eng.setAll_keeps, ↓Eng.set_keeps, Facet.tidy]

theorem gnssRootWrite_keeps (v) (hφ : φ ≠ .draws) : φ.of (gnssRootWrite v e).2 = φ.of e := by
  unfold gnssRootWrite
  dsimp only
  simp only [↓Facet.push, ↓Eng.set_keeps, ↓Eng.drawn_keeps, Facet.tidy, hφ]

theorem gnssSaveWrite_keeps (v) (hφ : φ ≠ .flash ∧ φ ≠ .gnss) : φ.of (gnssSaveWrite x v e).2 = φ.of e := by
  unfold gnssSaveWrite
  simp only [↓Facet.push, ↓Eng.gnssSave_keeps, Facet.tidy, hφ]

theorem execGnssSampleBlock_keeps (fe block) (hφ : φ ≠ .gnss ∧ φ ≠ .sel) (h : execGnssSampleBlock fe block s = .next t) :
    φ.of t.eng = φ.of s.eng :=
  lift_keeps h (by simp only [↓Facet.push, ↓Eng.sampleTests_keeps, ↓Eng.trackState_keeps, ↓Eng.chanObserve_keeps, ↓Eng.set_keeps,
    ↓Eng.modFe_keeps, Facet.tidy, hφ])

theorem execCheckChannelPass_keeps (channel run) (hφ : φ ≠ .gnss ∧ φ ≠ .sel) (h : execCheckChannelPass channel run s = .next t) :
    φ.of t.eng = φ.of s.eng :=
  lift_keeps h (by simp only [↓Facet.push, ↓Eng.feCause_keeps, ↓Eng.detect_keeps, ↓Eng.chanIdle_keeps, Facet.tidy, hφ])

theorem execAcquisitionDwell_keeps (fe hits) (h : execAcquisitionDwell fe hits s = .next t) : φ.of t.eng = φ.of s.eng :=
  lift_keeps h (by simp only [↓Eng.dwell_keeps])

theorem execGnssSolutionEpoch_keeps (fe epoch) (hφ : φ ≠ .gnss ∧ φ ≠ .sel ∧ φ ≠ .steer) (h : execGnssSolutionEpoch fe epoch s = .next t) :
    φ.of t.eng = φ.of s.eng :=
  lift_keeps h (by simp only [↓Eng.epoch_keeps, Facet.tidy, hφ])

theorem execChannelRelease_keeps (channel) (hφ : φ ≠ .gnss) (h : execChannelRelease channel s = .next t) : φ.of t.eng = φ.of s.eng :=
  lift_keeps h (by simp only [↓whenDue_keeps, ↓Eng.chanIdle_keeps, Facet.tidy, hφ])

theorem execRaimRejoin_keeps (channel) (hφ : φ ≠ .gnss) (h : execRaimRejoin channel s = .next t) : φ.of t.eng = φ.of s.eng := by
  refine lift_keeps h ?_
  dsimp only
  split <;> simp only [↓Facet.push, ↓Facet.with_gnss, ↓Eng.set_keeps, Facet.tidy, hφ]

theorem execOsnmaVerify_keeps (result) (hφ : φ ≠ .gnss) (h : execOsnmaVerify result s = .next t) : φ.of t.eng = φ.of s.eng :=
  lift_keeps h (by simp only [↓Eng.osnma_keeps, Facet.tidy, hφ])

theorem execOsnmaFailExpiry_keeps (prn) (hφ : φ ≠ .gnss) (h : execOsnmaFailExpiry prn s = .next t) : φ.of t.eng = φ.of s.eng :=
  lift_keeps h (by simp only [↓Facet.with_gnss, ↓whenDue_keeps, ↓Eng.markAuth_keeps, Facet.tidy, hφ])

theorem execAntennaFaultPin_keeps (fe low) (hφ : φ ≠ .gnss ∧ φ ≠ .sel) (h : execAntennaFaultPin fe low s = .next t) :
    φ.of t.eng = φ.of s.eng :=
  lift_keeps h (by simp only [↓Eng.antennaCause_keeps, ↓Eng.modFe_keeps, Facet.tidy, hφ])

theorem execGnssStoreSave_keeps (write) (hφ : φ ≠ .flash ∧ φ ≠ .gnss) (h : execGnssStoreSave write s = .next t) :
    φ.of t.eng = φ.of s.eng := by
  refine lift_keeps h ?_
  split
  · simp only [↓Eng.writeCmd_keeps, ↓gnssSaveWrite_keeps, Facet.tidy, hφ]
  · exact whenDue_keeps _ _ _ (by simp only [↓Eng.gnssSave_keeps, Facet.tidy, hφ])

theorem execGnssHeldWrite_keeps (w roles) (h : execGnssHeldWrite w roles s = .next t) : φ.of t.eng = φ.of s.eng :=
  lift_keeps h (by simp only [↓Eng.recCmd_keeps, ↓gnssHeldWrite_keeps, Facet.tidy])

theorem execGnssConfigWrite_keeps (fe w roles) (hφ : φ ≠ .gnss ∧ φ ≠ .sel) (h : execGnssConfigWrite fe w roles s = .next t) :
    φ.of t.eng = φ.of s.eng := by
  refine lift_keeps h ?_
  split
  · simp only [↓Eng.recCmd_keeps, ↓gnssFeWrite_keeps, Facet.tidy, hφ]
  · simp only [↓Eng.recCmd_keeps, ↓gnssGlobalWrite_keeps, Facet.tidy, hφ]

/-! ## The answer engine -/

theorem Eng.setBucket_keeps (i b) (hφ : φ ≠ .ans) : φ.of (e.setBucket i b) = φ.of e := by
  unfold Eng.setBucket
  dsimp only
  simp only [↓Facet.with_ans, Facet.tidy, hφ]

theorem Eng.charge_keeps (p key) (hφ : φ ≠ .ans) : φ.of (e.charge x p key).2 = φ.of e := by
  unfold Eng.charge
  extract_lets i tag held e1 b
  clear_value held
  have h1 : φ.of e1 = φ.of e := by
    cases held <;> simp only [e1, ↓Facet.push, ↓Eng.orb_keeps, ↓Eng.inc32_keeps, Facet.tidy]
  clear_value e1
  split <;> simp only [↓Eng.orb_keeps, ↓Eng.setBucket_keeps, ↓h1, Facet.tidy, hφ]

theorem Eng.takeKod_keeps (p key) (hφ : φ ≠ .ans) : φ.of (e.takeKod p key).2 = φ.of e := by
  unfold Eng.takeKod
  dsimp only
  simp only [↓Facet.push, ↓Eng.setBucket_keeps, Facet.tidy, hφ]

theorem Eng.punt_keeps (pipe v r cause) (hφ : φ ≠ .ports) : φ.of (e.punt x pipe v r cause) = φ.of e := by
  unfold Eng.punt
  dsimp only
  simp only [↓Eng.inc64_keeps, ↓Eng.slotCount_keeps, ↓Eng.hold_keeps, Facet.tidy, hφ]

theorem Eng.dropOrHost_keeps (pipe v r host cause) (hφ : φ ≠ .ports) : φ.of (e.dropOrHost x pipe v r host cause) = φ.of e := by
  unfold Eng.dropOrHost
  simp only [↓Facet.push, ↓Eng.punt_keeps, ↓Eng.ansDropped_keeps, Facet.tidy, hφ]

theorem Eng.placeAndBuild_keeps (pipe : Nat) (v : AnsView) (r : AnsRule) (kind : AnsKind) (payloadLen : Nat)
    (grid : List GridPoint) (crcFail : Bool) (build : Nat → Eng → Option (Bytes × Eng)) (hφ : φ ≠ .ans ∧ φ ≠ .cals) (hbuild : ∀ t pl e',
    build t e = some (pl, e') → φ.of e' = φ.of e) :
    φ.of (e.placeAndBuild x pipe v r kind payloadLen grid crcFail build) = φ.of e := by
  unfold Eng.placeAndBuild
  extract_lets prio len
  split
  · simp only [↓Eng.ansDropped_keeps, ↓Eng.depMiss_keeps]
  · split
    · simp only [↓Eng.ansDropped_keeps, ↓Eng.withdraw_keeps, ↓Eng.reserve_keeps, Facet.tidy, hφ]
    · next hb =>
      simp only [↓Facet.push, ↓Eng.ansDropped_keeps, ↓Eng.withdraw_keeps, ↓Eng.reserve_keeps, ↓Eng.set_keeps, ↓Eng.orb_keeps,
        ↓Eng.inc32_keeps, ↓Eng.detect_keeps, ↓Eng.modPipe_keeps, ↓hbuild _ _ _ hb, Facet.tidy, hφ]

theorem Eng.answerPlain_keeps (pipe v r grid crcFail) (hφ : φ ≠ .ans ∧ φ ≠ .cals) : φ.of (e.answerPlain x pipe v r grid crcFail) = φ.of e :=
  e.placeAndBuild_keeps x pipe v r _ _ grid crcFail _ hφ (fun t pl e' h => by split at h <;> cases h; rfl)

theorem Eng.answerNts_keeps (pipe v r q keys grid crcFail) (hφ : φ ≠ .draws ∧ φ ≠ .ans ∧ φ ≠ .cals ∧ φ ≠ .nts) :
    φ.of (e.answerNts x pipe v r q keys grid crcFail) = φ.of e :=
  e.placeAndBuild_keeps x pipe v r _ _ grid crcFail _ (by simp only [hφ, Facet.tidy]) (fun t pl e' h => by
    split at h <;> cases h
    simp only [↓Eng.drbg_keeps, ↓Eng.sealCookies_keeps, Facet.tidy, hφ])

theorem Eng.answerNak_keeps (pipe v r uid grid crcFail) (hφ : φ ≠ .ans ∧ φ ≠ .cals) :
    φ.of (e.answerNak x pipe v r uid grid crcFail) = φ.of e := by
  have hb (p : Nat) (e : Eng) (b : Bytes) : φ.of (e.placeAndBuild x pipe v r .nak p grid crcFail (fun _ e => some (b, e))) = φ.of e :=
    e.placeAndBuild_keeps x pipe v r _ _ grid crcFail _ hφ (fun t pl e' h => by cases h; rfl)
  unfold Eng.answerNak
  dsimp only
  simp only [↓Facet.push, ↓hb, ↓Eng.takeKod_keeps, ↓Eng.inc64_keeps, ↓Eng.ansDropped_keeps, Facet.tidy, hφ]

theorem Eng.overLimit_keeps (pipe v r grid crcFail) (hφ : φ ≠ .ans ∧ φ ≠ .cals) : φ.of (e.overLimit x pipe v r grid crcFail) = φ.of e := by
  have hb (e : Eng) (b : Eng → Bytes) : φ.of (e.placeAndBuild x pipe v r .kod 48 grid crcFail (fun _ e => some (b e, e))) = φ.of e :=
    e.placeAndBuild_keeps x pipe v r _ _ grid crcFail _ hφ (fun t pl e' h => by cases h; rfl)
  unfold Eng.overLimit
  dsimp only
  simp only [↓Facet.push, ↓hb, ↓Eng.takeKod_keeps, ↓Eng.ansDropped_keeps, Facet.tidy, hφ]

theorem Eng.ansNts_keeps (pipe v r grid crcFail) (hφ : φ ≠ .draws ∧ φ ≠ .ports ∧ φ ≠ .ans ∧ φ ≠ .cals ∧ φ ≠ .nts) :
    φ.of (e.ansNts x pipe v r grid crcFail) = φ.of e := by
  unfold Eng.ansNts
  dsimp only
  repeat' split
  all_goals simp only [↓Eng.ansDropped_keeps, ↓Eng.ntsCheck_keeps, ↓Eng.answerNts_keeps, ↓Eng.inc64_keeps, ↓Eng.ntsCount_keeps,
    ↓Eng.dropOrHost_keeps, ↓Eng.answerNak_keeps, Facet.tidy, hφ]

theorem Eng.ansProtocol_keeps (pipe v r grid crcFail) (hφ : φ ≠ .draws ∧ φ ≠ .ports ∧ φ ≠ .ans ∧ φ ≠ .cals ∧ φ ≠ .nts) :
    φ.of (e.ansProtocol x pipe v r grid crcFail) = φ.of e := by
  unfold Eng.ansProtocol
  dsimp only
  repeat' split
  all_goals simp only [↓Eng.answerPlain_keeps, ↓Eng.ansDropped_keeps, ↓Eng.dropOrHost_keeps, ↓Eng.ansNts_keeps, Facet.tidy, hφ]

theorem Eng.ansMode_keeps (pipe v r grid crcFail) (hφ : φ ≠ .draws ∧ φ ≠ .ports ∧ φ ≠ .ans ∧ φ ≠ .cals ∧ φ ≠ .nts) :
    φ.of (e.ansMode x pipe v r grid crcFail) = φ.of e := by
  unfold Eng.ansMode
  dsimp only
  simp only [↓Facet.push, ↓Eng.dropOrHost_keeps, ↓Eng.ansDropped_keeps, ↓Eng.ansProtocol_keeps, Facet.tidy, hφ]

theorem Eng.answer_keeps (pipe q grid crcFail) (hφ : φ ≠ .draws ∧ φ ≠ .ports ∧ φ ≠ .ans ∧ φ ≠ .cals ∧ φ ≠ .nts) :
    φ.of (e.answer x pipe q grid crcFail) = φ.of e := by
  unfold Eng.answer
  dsimp only
  simp only [↓Facet.push, ↓Eng.ansDropped_keeps, ↓Eng.ansMode_keeps, ↓Eng.charge_keeps, ↓Eng.overLimit_keeps, Facet.tidy, hφ]

theorem Eng.accept_keeps (p grid crcFail) (hφ : φ ≠ .draws ∧ φ ≠ .ports ∧ φ ≠ .ans ∧ φ ≠ .cals ∧ φ ≠ .nts) :
    φ.of (e.accept x p grid crcFail) = φ.of e := by
  unfold Eng.accept
  dsimp only
  split <;> simp only [↓Eng.modPipe_keeps, ↓Eng.answer_keeps, ↓Eng.slotCount_keeps, Facet.tidy, hφ]

theorem Eng.ansReleased_keeps (pipe rule kind) (hφ : φ ≠ .ans) : φ.of (e.ansReleased x pipe rule kind) = φ.of e := by
  unfold Eng.ansReleased
  dsimp only
  split <;> simp only [↓Facet.push, ↓Eng.inc64_keeps, ↓Eng.slotCount_keeps, ↓Eng.modPipe_keeps, Facet.tidy, hφ]

theorem Eng.pipesShown_keeps : φ.of (e.pipesShown x) = φ.of e := by
  unfold Eng.pipesShown
  dsimp only
  simp only [↓Facet.push, ↓Eng.set_keeps, ↓Eng.condOn_keeps, ↓Eng.condOff_keeps, Facet.tidy]

theorem Eng.checkFail_keeps (p) : φ.of (e.checkFail x p) = φ.of e := by
  unfold Eng.checkFail
  dsimp only
  simp only [↓Eng.set_keeps, ↓Eng.inc32_keeps, ↓Eng.orb_keeps, ↓Eng.pipesShown_keeps, ↓Eng.detect_keeps]

theorem Eng.checkCompare_keeps (p agrees) (hφ : φ ≠ .ans) : φ.of (e.checkCompare x p agrees) = φ.of e := by
  unfold Eng.checkCompare
  dsimp only
  simp only [↓Facet.push, ↓Eng.modPipe_keeps, ↓Eng.slotCount_keeps, ↓Eng.inc32_keeps, ↓Eng.checkFail_keeps, Facet.tidy, hφ]

theorem Eng.probe_keeps (p agrees) (hφ : φ ≠ .ans) : φ.of (e.probe x p agrees) = φ.of e := by
  unfold Eng.probe
  dsimp only
  simp only [↓Facet.push, ↓Eng.slotCount_keeps, ↓Eng.modPipe_keeps, ↓Eng.inc32_keeps, ↓Eng.checkFail_keeps, Facet.tidy, hφ]

theorem pipeReenable_keeps (p v) (hφ : φ ≠ .ans) : φ.of (pipeReenable x p v e).2 = φ.of e := by
  unfold pipeReenable
  simp only [↓Facet.push, ↓Eng.pipesShown_keeps, ↓Eng.modPipe_keeps, ↓Eng.set_keeps, Facet.tidy, hφ]

theorem ansRekey_keeps (v) (hφ : φ ≠ .draws ∧ φ ≠ .ans) : φ.of (ansRekey x v e).2 = φ.of e := by
  unfold ansRekey
  dsimp only
  simp only [↓Facet.push, ↓Facet.with_ans, ↓Eng.inc32_keeps, ↓Eng.drawn_keeps, Facet.tidy, hφ]

theorem Eng.sweep_keeps (i p) (hφ : φ ≠ .ans) : φ.of (e.sweep x i p) = φ.of e := by
  unfold Eng.sweep
  split <;> simp only [↓Eng.setBucket_keeps, Facet.tidy, hφ]

theorem ansRuleWrite_keeps (r vs) (hφ : φ ≠ .ans) : φ.of (ansRuleWrite x r vs e).2 = φ.of e := by
  unfold ansRuleWrite
  dsimp only
  simp only [↓Facet.push, ↓Facet.with_ans, ↓Eng.setLater_keeps, Facet.tidy, hφ]

theorem ansPeekWrite_keeps (vs) : φ.of (ansPeekWrite vs e).2 = φ.of e := by
  unfold ansPeekWrite
  dsimp only
  simp only [↓Eng.setAll_keeps, ↓Eng.set_keeps]

theorem Eng.latchRef_keeps (k) : φ.of (e.latchRef k) = φ.of e := by
  unfold Eng.latchRef
  dsimp only
  simp only [↓Facet.push, ↓Eng.set_keeps, Facet.tidy]

theorem Eng.latchRefs_keeps : φ.of e.latchRefs = φ.of e := by
  unfold Eng.latchRefs
  simp only [↓Facet.push, ↓Eng.latchRef_keeps, Facet.tidy]

theorem Eng.slotPasses_keeps (p) (hφ : φ ≠ .ans) : φ.of (e.slotPasses x p) = φ.of e := by
  unfold Eng.slotPasses
  simp only [↓Facet.push, ↓Eng.modPipe_keeps, ↓Eng.slotCount_keeps, Facet.tidy, hφ]

theorem execAnswerRequest_keeps (pipe grid crcFail) (hφ : φ ≠ .draws ∧ φ ≠ .ports ∧ φ ≠ .ans ∧ φ ≠ .cals ∧ φ ≠ .nts)
    (h : execAnswerRequest pipe grid crcFail s = .next t) :
    φ.of t.eng = φ.of s.eng :=
  lift_keeps h (by simp only [↓whenDue_keeps, ↓Eng.pipesShown_keeps, ↓Eng.accept_keeps, Facet.tidy, hφ])

theorem execCheckerCompare_keeps (pipe agrees) (hφ : φ ≠ .ans) (h : execCheckerCompare pipe agrees s = .next t) : φ.of t.eng = φ.of s.eng :=
  lift_keeps h (by simp only [↓whenDue_keeps, ↓Eng.checkCompare_keeps, Facet.tidy, hφ])

theorem execCheckerProbe_keeps (pipe agrees) (hφ : φ ≠ .ans) (h : execCheckerProbe pipe agrees s = .next t) : φ.of t.eng = φ.of s.eng :=
  lift_keeps h (by simp only [↓whenDue_keeps, ↓Eng.probe_keeps, Facet.tidy, hφ])

theorem execPipeReenable_keeps (pipe value roles) (hφ : φ ≠ .ans) (h : execPipeReenable pipe value roles s = .next t) :
    φ.of t.eng = φ.of s.eng :=
  lift_keeps h (by simp only [↓Eng.writeCmd_keeps, ↓pipeReenable_keeps, Facet.tidy, hφ])

theorem execAnsRekey_keeps (value roles) (hφ : φ ≠ .draws ∧ φ ≠ .ans) (h : execAnsRekey value roles s = .next t) :
    φ.of t.eng = φ.of s.eng :=
  lift_keeps h (by simp only [↓Eng.writeCmd_keeps, ↓ansRekey_keeps, Facet.tidy, hφ])

theorem execBucketSweep_keeps (bucket profile) (hφ : φ ≠ .ans) (h : execBucketSweep bucket profile s = .next t) : φ.of t.eng = φ.of s.eng :=
  lift_keeps h (by simp only [↓Eng.sweep_keeps, Facet.tidy, hφ])

theorem execAnsRuleWrite_keeps (rule w roles) (hφ : φ ≠ .ans) (h : execAnsRuleWrite rule w roles s = .next t) : φ.of t.eng = φ.of s.eng :=
  lift_keeps h (by simp only [↓Eng.recCmd_keeps, ↓ansRuleWrite_keeps, Facet.tidy, hφ])

theorem execAnsPeekWrite_keeps (w roles) (h : execAnsPeekWrite w roles s = .next t) : φ.of t.eng = φ.of s.eng :=
  lift_keeps h (by simp only [↓Eng.recCmd_keeps, ↓ansPeekWrite_keeps, Facet.tidy])

/-! ## PTP -/

theorem Eng.ptpRateTake_keeps (hφ : φ ≠ .ptp) : φ.of (e.ptpRateTake x) = φ.of e := by
  unfold Eng.ptpRateTake
  dsimp only
  simp only [↓Facet.with_ptp, Facet.tidy, hφ]

theorem Eng.ptpSend_keeps (n d rx seq unicast event grid body) (hφ : φ ≠ .cals ∧ φ ≠ .ptp ∧ φ ≠ .txRings ∧ φ ≠ .tails) :
    φ.of (e.ptpSend x n d rx seq unicast event grid body).2 = φ.of e := by
  unfold Eng.ptpSend
  dsimp only
  repeat' split
  all_goals simp only [↓Facet.push, ↓Eng.orb_keeps, ↓Eng.inc64_keeps, ↓Eng.depTell_keeps, ↓Eng.depMiss_keeps, ↓Eng.reserve_keeps,
    ↓Eng.ptpRateTake_keeps, Facet.tidy, hφ]

theorem Eng.sendSync_keeps (n d seq unicast log grid) (hφ : φ ≠ .cals ∧ φ ≠ .ptp ∧ φ ≠ .txRings ∧ φ ≠ .tails) :
    φ.of (e.sendSync x n d seq unicast log grid) = φ.of e := by
  unfold Eng.sendSync
  dsimp only
  split <;> simp only [↓Eng.ptpSend_keeps, Facet.tidy, hφ]

theorem Eng.sendAnnounce_keeps (n d seq unicast log grid) (hφ : φ ≠ .cals ∧ φ ≠ .ptp ∧ φ ≠ .txRings ∧ φ ≠ .tails) :
    φ.of (e.sendAnnounce x n d seq unicast log grid) = φ.of e := by
  unfold Eng.sendAnnounce
  dsimp only
  simp only [↓Eng.ptpSend_keeps, Facet.tidy, hφ]

theorem Eng.ptpShow_keeps (n) : φ.of (e.ptpShow x n) = φ.of e := by
  unfold Eng.ptpShow
  simp only [↓Eng.set_keeps]

theorem Eng.setClient_keeps (c) (hφ : φ ≠ .ptp) : φ.of (e.setClient c) = φ.of e := by
  unfold Eng.setClient
  dsimp only
  simp only [↓Facet.with_ptp, Facet.tidy, hφ]

theorem Eng.grantTo_keeps (c type log dur rx) (hφ : φ ≠ .draws ∧ φ ≠ .ptp) : φ.of (e.grantTo x c type log dur rx) = φ.of e := by
  unfold Eng.grantTo
  dsimp only
  split <;> simp only [↓Eng.setClient_keeps, ↓Eng.drawn_keeps, Facet.tidy, hφ]

theorem Eng.negotiate_keeps (c rx t) (hφ : φ ≠ .draws ∧ φ ≠ .ptp) : φ.of (e.negotiate x c rx t).2 = φ.of e := by
  unfold Eng.negotiate
  dsimp only
  repeat' split
  all_goals simp only [↓Facet.push, ↓Eng.grantTo_keeps, ↓Eng.inc64_keeps, ↓Eng.orb_keeps, ↓Eng.setClient_keeps, Facet.tidy, hφ]

theorem Eng.negotiateAll_keeps (c rx n) (hφ : φ ≠ .draws ∧ φ ≠ .ptp) : φ.of (e.negotiateAll x c rx n).2 = φ.of e := by
  induction n generalizing e with
  | nil => rfl
  | cons t ts ih =>
    unfold Eng.negotiateAll
    simp only [↓ih, ↓Eng.negotiate_keeps, Facet.tidy, hφ]

theorem Eng.ptpDrop_keeps (n) : φ.of (e.ptpDrop n) = φ.of e := by
  unfold Eng.ptpDrop
  simp only [↓Eng.inc64_keeps]

theorem Eng.ptpOther_keeps (n f cause) (hφ : φ ≠ .ports) : φ.of (e.ptpOther x n f cause) = φ.of e := by
  unfold Eng.ptpOther
  dsimp only
  simp only [↓Facet.push, ↓Eng.ptpDrop_keeps, ↓Eng.hold_keeps, Facet.tidy, hφ]

theorem Eng.delayResp_keeps (n f v unicast log grid) (hφ : φ ≠ .cals ∧ φ ≠ .ptp ∧ φ ≠ .txRings ∧ φ ≠ .tails) :
    φ.of (e.delayResp x n f v unicast log grid) = φ.of e := by
  unfold Eng.delayResp
  dsimp only
  simp only [↓Eng.ptpSend_keeps, Facet.tidy, hφ]

theorem Eng.delayReq_keeps (n f v grid) (hφ : φ ≠ .cals ∧ φ ≠ .ptp ∧ φ ≠ .txRings ∧ φ ≠ .tails) :
    φ.of (e.delayReq x n f v grid) = φ.of e := by
  unfold Eng.delayReq
  dsimp only
  repeat' split
  all_goals simp only [↓Eng.ptpDrop_keeps, ↓Eng.delayResp_keeps, ↓Eng.count_keeps, ↓Eng.inc64_keeps, ↓Eng.setClient_keeps, ↓Eng.orb_keeps,
    Facet.tidy, hφ]

theorem Eng.signaling_keeps (n f v grid) (hφ : φ ≠ .draws ∧ φ ≠ .ports ∧ φ ≠ .cals ∧ φ ≠ .ptp ∧ φ ≠ .txRings ∧ φ ≠ .tails) :
    φ.of (e.signaling x n f v grid) = φ.of e := by
  unfold Eng.signaling
  dsimp only
  split <;> simp only [↓Facet.push, ↓Facet.with_ptp, ↓Eng.ptpOther_keeps, ↓Eng.negotiateAll_keeps, ↓Eng.ptpShow_keeps, ↓Eng.ptpSend_keeps,
    Facet.tidy, hφ]

theorem Eng.ptpServe_keeps (n f grid) (hφ : φ ≠ .draws ∧ φ ≠ .ports ∧ φ ≠ .cals ∧ φ ≠ .ptp ∧ φ ≠ .txRings ∧ φ ≠ .tails) :
    φ.of (e.ptpServe x n f grid) = φ.of e := by
  unfold Eng.ptpServe
  dsimp only
  simp only [↓Facet.push, ↓Eng.ptpDrop_keeps, ↓Eng.orb_keeps, ↓Eng.inc64_keeps, ↓Eng.delayReq_keeps, ↓Eng.signaling_keeps,
    ↓Eng.ptpOther_keeps, Facet.tidy, hφ]

theorem Eng.grantDue_keeps (i type grid) (hφ : φ ≠ .cals ∧ φ ≠ .ptp ∧ φ ≠ .txRings ∧ φ ≠ .tails) :
    φ.of (e.grantDue x i type grid) = φ.of e := by
  unfold Eng.grantDue
  dsimp only
  repeat' split
  all_goals simp only [↓Facet.with_ptp, ↓Eng.sendSync_keeps, ↓Eng.sendAnnounce_keeps, Facet.tidy, hφ]

theorem Eng.mcDue_keeps (n p announce grid) (hφ : φ ≠ .cals ∧ φ ≠ .ptp ∧ φ ≠ .txRings ∧ φ ≠ .tails) :
    φ.of (e.mcDue x n p announce grid) = φ.of e := by
  unfold Eng.mcDue
  dsimp only
  simp only [↓Facet.push, ↓Facet.with_ptp, ↓Eng.sendAnnounce_keeps, ↓Eng.sendSync_keeps, Facet.tidy, hφ]

theorem Eng.grantExpire_keeps (i type) (hφ : φ ≠ .ptp) : φ.of (e.grantExpire x i type) = φ.of e := by
  unfold Eng.grantExpire
  split <;> simp only [↓Facet.push, ↓Eng.ptpShow_keeps, ↓Eng.inc64_keeps, ↓Eng.setClient_keeps, Facet.tidy, hφ]

theorem ptpInstWrite_keeps (n vs) (hφ : φ ≠ .ans) : φ.of (ptpInstWrite x n vs e).2 = φ.of e := by
  unfold ptpInstWrite
  dsimp only
  simp only [↓Facet.push, ↓Eng.ptpShow_keeps, ↓Eng.setLater_keeps, Facet.tidy, hφ]

theorem ptpNegWrite_keeps (n vs) (hφ : φ ≠ .ans) : φ.of (ptpNegWrite x n vs e).2 = φ.of e := by
  unfold ptpNegWrite
  dsimp only
  simp only [↓Facet.push, ↓Eng.setLater_keeps, Facet.tidy, hφ]

theorem ptpSaWrite_keeps (vs) (hφ : φ ≠ .keyWait) : φ.of (ptpSaWrite x vs e).2 = φ.of e := by
  unfold ptpSaWrite
  simp only [↓Facet.push, ↓Eng.keyTouched_keeps, ↓Eng.setAll_keeps, Facet.tidy, hφ]

theorem execGrantExpiry_keeps (client type) (hφ : φ ≠ .ptp) (h : execGrantExpiry client type s = .next t) : φ.of t.eng = φ.of s.eng :=
  lift_keeps h (by simp only [↓Eng.grantExpire_keeps, Facet.tidy, hφ])

/-! ## The upstream PTP units -/

theorem Eng.modUp_keeps (u f) (hφ : φ ≠ .ups) : φ.of (e.modUp u f) = φ.of e := by
  unfold Eng.modUp
  simp only [↓Facet.with_ups, Facet.tidy, hφ]

theorem Eng.upTo_keeps (u st) (hφ : φ ≠ .sel) : φ.of (e.upTo x u st) = φ.of e := by
  unfold Eng.upTo
  simp only [↓Facet.push, ↓Eng.sourceChanged_keeps, ↓Eng.set_keeps, Facet.tidy, hφ]

theorem Eng.upJudge_keeps (u) (hφ : φ ≠ .sel) : φ.of (e.upJudge x u) = φ.of e := by
  unfold Eng.upJudge
  simp only [↓Facet.push, ↓Eng.upTo_keeps, Facet.tidy, hφ]

theorem Eng.upEnds_keeps (u) (hφ : φ ≠ .draws) : φ.of (e.upEnds x u).2 = φ.of e := by
  unfold Eng.upEnds
  dsimp only
  simp only [↓Facet.with_draws, Facet.tidy, hφ]

theorem Eng.upSend_keeps (u type seq body grid) (hφ : φ ≠ .draws ∧ φ ≠ .cals ∧ φ ≠ .ptp ∧ φ ≠ .txRings ∧ φ ≠ .tails) :
    φ.of (e.upSend x u type seq body grid) = φ.of e := by
  unfold Eng.upSend
  dsimp only
  repeat' split
  all_goals simp only [↓Eng.upEnds_keeps, ↓Eng.depTell_keeps, ↓Eng.depMiss_keeps, ↓Eng.reserve_keeps, ↓Eng.ptpRateTake_keeps, Facet.tidy,
    hφ]

theorem Eng.upRenew_keeps (u grid) (hφ : φ ≠ .draws ∧ φ ≠ .cals ∧ φ ≠ .ptp ∧ φ ≠ .ups ∧ φ ≠ .sel ∧ φ ≠ .txRings ∧ φ ≠ .tails) :
    φ.of (e.upRenew x u grid) = φ.of e := by
  unfold Eng.upRenew
  dsimp only
  simp only [↓Facet.push, ↓Eng.upJudge_keeps, ↓Eng.modUp_keeps, ↓Eng.upSend_keeps, Facet.tidy, hφ]

theorem Eng.upDelayReq_keeps (u grid) (hφ : φ ≠ .draws ∧ φ ≠ .cals ∧ φ ≠ .ptp ∧ φ ≠ .ups ∧ φ ≠ .txRings ∧ φ ≠ .tails) :
    φ.of (e.upDelayReq x u grid) = φ.of e := by
  unfold Eng.upDelayReq
  dsimp only
  simp only [↓Facet.push, ↓Eng.modUp_keeps, ↓Eng.upSend_keeps, Facet.tidy, hφ]

theorem Eng.upDiscard_keeps (u) : φ.of (e.upDiscard u) = φ.of e := by
  unfold Eng.upDiscard
  simp only [↓Eng.inc64_keeps]

theorem Eng.upOffset_keeps (u t2 t1) (hφ : φ ≠ .sel ∧ φ ≠ .steer) : φ.of (e.upOffset x u t2 t1) = φ.of e := by
  unfold Eng.upOffset
  dsimp only
  split <;> simp only [↓Eng.setAll_keeps, ↓Eng.deliver_keeps, ↓Eng.inc64_keeps, Facet.tidy, hφ]

theorem Eng.upSync_keeps (u f m) (hφ : φ ≠ .ups ∧ φ ≠ .sel ∧ φ ≠ .steer) : φ.of (e.upSync x u f m) = φ.of e := by
  unfold Eng.upSync
  simp only [↓Facet.push, ↓Eng.modUp_keeps, ↓Eng.upOffset_keeps, Facet.tidy, hφ]

theorem Eng.upFollow_keeps (u m) (hφ : φ ≠ .ups ∧ φ ≠ .sel ∧ φ ≠ .steer) : φ.of (e.upFollow x u m) = φ.of e := by
  unfold Eng.upFollow
  split <;> simp only [↓Facet.push, ↓Eng.upDiscard_keeps, ↓Eng.upOffset_keeps, ↓Eng.modUp_keeps, Facet.tidy, hφ]

theorem Eng.upDelayResp_keeps (u m) (hφ : φ ≠ .ups) : φ.of (e.upDelayResp x u m) = φ.of e := by
  unfold Eng.upDelayResp
  repeat' split
  all_goals simp only [↓Eng.upDiscard_keeps, ↓Eng.modUp_keeps, Facet.tidy, hφ]

theorem Eng.upAnnounce_keeps (u m) : φ.of (e.upAnnounce u m) = φ.of e := by
  unfold Eng.upAnnounce
  simp only [↓Eng.set_keeps]

theorem Eng.upTlv_keeps (u t) (hφ : φ ≠ .ups ∧ φ ≠ .sel) : φ.of (e.upTlv x u t) = φ.of e := by
  unfold Eng.upTlv
  dsimp only
  simp only [↓Facet.push, ↓Eng.upTo_keeps, ↓Eng.orb_keeps, ↓Eng.modUp_keeps, Facet.tidy, hφ]

theorem Eng.upServe_keeps (u f) (hφ : φ ≠ .ups ∧ φ ≠ .sel ∧ φ ≠ .steer) : φ.of (e.upServe x u f) = φ.of e := by
  unfold Eng.upServe
  dsimp only
  repeat' split
  all_goals simp only [↓Facet.push, ↓Eng.upDiscard_keeps, ↓Eng.modUp_keeps, ↓Eng.upSync_keeps, ↓Eng.upFollow_keeps, ↓Eng.upDelayResp_keeps,
    ↓Eng.upAnnounce_keeps, ↓Eng.upJudge_keeps, ↓Eng.upTlv_keeps, Facet.tidy, hφ]

theorem upWrite_keeps (u vs) (hφ : φ ≠ .ups ∧ φ ≠ .sel) : φ.of (upWrite x u vs e).2 = φ.of e := by
  unfold upWrite
  dsimp only
  simp only [↓Facet.push, ↓Eng.setAll_keeps, ↓Eng.modUp_keeps, ↓Eng.upTo_keeps, ↓Eng.rebind_keeps, Facet.tidy, hφ]

theorem execPtpReceive_keeps (grid) (hφ : φ ≠ .draws ∧ φ ≠ .ports ∧ φ ≠ .cals ∧ φ ≠ .ptp ∧ φ ≠ .ups ∧ φ ≠ .sel ∧ φ ≠ .steer ∧ φ ≠ .txRings ∧
    φ ≠ .tails ∧ φ ≠ .ptpIn) (h : execPtpReceive grid s = .next t) :
    φ.of t.eng = φ.of s.eng := by
  refine lift_keeps h ?_
  dsimp only
  split <;> simp only [↓Facet.push, ↓Facet.with_ptpIn, ↓Eng.ptpServe_keeps, ↓Eng.upServe_keeps, Facet.tidy, hφ]

theorem execPtpMessageDue_keeps (due grid) (hφ : φ ≠ .cals ∧ φ ≠ .ptp ∧ φ ≠ .txRings ∧ φ ≠ .tails)
    (h : execPtpMessageDue due grid s = .next t) :
    φ.of t.eng = φ.of s.eng := by
  refine lift_keeps h ?_
  split
  · simp only [↓Eng.grantDue_keeps, Facet.tidy, hφ]
  · simp only [↓Eng.mcDue_keeps, Facet.tidy, hφ]

theorem execUpstreamDelayReq_keeps (unit_ grid) (hφ : φ ≠ .draws ∧ φ ≠ .cals ∧ φ ≠ .ptp ∧ φ ≠ .ups ∧ φ ≠ .txRings ∧ φ ≠ .tails)
    (h : execUpstreamDelayReq unit_ grid s = .next t) :
    φ.of t.eng = φ.of s.eng :=
  lift_keeps h (by simp only [↓Eng.upDelayReq_keeps, Facet.tidy, hφ])

theorem execUpstreamRenew_keeps (unit_ grid) (hφ : φ ≠ .draws ∧ φ ≠ .cals ∧ φ ≠ .ptp ∧ φ ≠ .ups ∧ φ ≠ .sel ∧ φ ≠ .txRings ∧ φ ≠ .tails)
    (h : execUpstreamRenew unit_ grid s = .next t) :
    φ.of t.eng = φ.of s.eng :=
  lift_keeps h (by simp only [↓Eng.upRenew_keeps, Facet.tidy, hφ])

theorem execFollowUpTimeout_keeps (unit_) (hφ : φ ≠ .ups) (h : execFollowUpTimeout unit_ s = .next t) : φ.of t.eng = φ.of s.eng :=
  lift_keeps h (by simp only [↓whenDue_keeps, ↓Eng.modUp_keeps, Facet.tidy, hφ])

theorem execUpstreamRetry_keeps (unit_) (hφ : φ ≠ .ups ∧ φ ≠ .sel) (h : execUpstreamRetry unit_ s = .next t) : φ.of t.eng = φ.of s.eng := by
  refine lift_keeps h ?_
  split
  · simp only [↓Facet.push, ↓Eng.upTo_keeps, ↓Eng.modUp_keeps, Facet.tidy, hφ]
  · rfl

/-! ## Departures -/

theorem Eng.launchEnd_keeps (r k l) (hφ : φ ≠ .txRings ∧ φ ≠ .tails) : φ.of (e.launchEnd x r k l) = φ.of e := by
  unfold Eng.launchEnd
  simp only [↓Eng.depTell_keeps, ↓Eng.depMiss_keeps, ↓Eng.modTx_keeps, Facet.tidy, hφ]

theorem Eng.launchTry_keeps (r l grid) (hφ : φ ≠ .cals ∧ φ ≠ .txRings ∧ φ ≠ .tails) : φ.of (e.launchTry x r l grid) = φ.of e := by
  unfold Eng.launchTry
  dsimp only
  repeat' split
  all_goals simp only [↓Eng.launchEnd_keeps, ↓Eng.reserve_keeps, ↓Eng.modTx_keeps, Facet.tidy, hφ]

theorem Eng.fetchStart_keeps (p latency) (hφ : φ ≠ .cals) : φ.of (e.fetchStart x p latency) = φ.of e := by
  unfold Eng.fetchStart
  split <;> simp only [↓Eng.modCal_keeps, Facet.tidy, hφ]

theorem Eng.releaseTell_keeps (r) (hφ : φ ≠ .ans ∧ φ ≠ .ups ∧ φ ≠ .txRings) : φ.of (e.releaseTell x r) = φ.of e := by
  unfold Eng.releaseTell
  split <;> simp only [↓Eng.ansReleased_keeps, ↓Eng.count_keeps, ↓Eng.inc64_keeps, ↓Eng.modUp_keeps, ↓Eng.txFinish_keeps, Facet.tidy, hφ]

theorem Eng.txCount_keeps (p len) : φ.of (e.txCount x p len) = φ.of e := by
  unfold Eng.txCount
  simp only [↓Eng.countN_keeps, ↓Eng.portCount_keeps]

theorem Eng.release_keeps (p short) (hφ : φ ≠ .ans ∧ φ ≠ .cals ∧ φ ≠ .ups ∧ φ ≠ .txRings ∧ φ ≠ .tails) :
    φ.of (e.release x p short) = φ.of e := by
  unfold Eng.release
  dsimp only
  repeat' split
  all_goals simp only [↓Eng.resvDiscard_keeps, ↓Eng.modCal_keeps, ↓Eng.emit_keeps, ↓Eng.txCount_keeps, ↓Eng.detect_keeps,
    ↓Eng.depTell_keeps, ↓Eng.depMiss_keeps, ↓Eng.releaseTell_keeps, ↓Eng.depCount_keeps, Facet.tidy, hφ]

theorem Eng.popUntimed_keeps (p src) (hφ : φ ≠ .ports ∧ φ ≠ .txRings) : φ.of (e.popUntimed p src) = φ.of e := by
  unfold Eng.popUntimed
  simp only [↓Facet.push, ↓Eng.modPort_keeps, ↓Eng.modTx_keeps, Facet.tidy, hφ]

theorem Eng.untimedStart_keeps (p block) (hφ : φ ≠ .ports ∧ φ ≠ .fwTicks ∧ φ ≠ .cals ∧ φ ≠ .txRings) :
    φ.of (e.untimedStart x p block) = φ.of e := by
  unfold Eng.untimedStart
  dsimp only
  repeat' split
  all_goals simp only [↓Facet.with_fwTicks, ↓Eng.modPort_keeps, ↓Eng.popUntimed_keeps, ↓Eng.detect_keeps, ↓Eng.portCount_keeps,
    ↓Eng.modCal_keeps, ↓Eng.emit_keeps, ↓Eng.depCount_keeps, ↓Eng.txCount_keeps, ↓Eng.txFinish_keeps, Facet.tidy, hφ]

theorem Eng.sealMargin_keeps (p) (hφ : φ ≠ .cals) : φ.of (e.sealMargin x p) = φ.of e := by
  unfold Eng.sealMargin
  dsimp only
  simp only [↓Facet.push, ↓Eng.modCal_keeps, ↓Eng.orb_keeps, ↓Eng.depCount_keeps, Facet.tidy, hφ]

theorem Eng.sealMargins_keeps (hφ : φ ≠ .cals) : φ.of (e.sealMargins x) = φ.of e := by
  unfold Eng.sealMargins
  simp only [↓Facet.push, ↓Eng.sealMargin_keeps, Facet.tidy, hφ]

theorem Eng.calBoundary_keeps (b p) (hφ : φ ≠ .cals) : φ.of (e.calBoundary b p) = φ.of e := by
  unfold Eng.calBoundary
  dsimp only
  split <;> simp only [↓Eng.set_keeps, ↓Eng.modCal_keeps, Facet.tidy, hφ]

theorem Eng.calBoundaries_keeps (b) (hφ : φ ≠ .cals) : φ.of (e.calBoundaries b) = φ.of e := by
  unfold Eng.calBoundaries
  simp only [↓Facet.push, ↓Eng.calBoundary_keeps, Facet.tidy, hφ]

theorem depPortWrite_keeps (p vs) (hφ : φ ≠ .ans) : φ.of (depPortWrite x p vs e).2 = φ.of e := by
  unfold depPortWrite
  dsimp only
  simp only [↓Facet.push, ↓Eng.setLater_keeps, ↓Eng.set_keeps, Facet.tidy, hφ]

theorem depStickyClear_keeps (p v) : φ.of (depStickyClear p v e).2 = φ.of e := by
  unfold depStickyClear
  dsimp only
  simp only [↓Facet.push, ↓Eng.andc_keeps, ↓Eng.set_keeps, Facet.tidy]

theorem execHostLaunchTake_keeps (ring grid) (hφ : φ ≠ .cals ∧ φ ≠ .txRings ∧ φ ≠ .tails) (h : execHostLaunchTake ring grid s = .next t) :
    φ.of t.eng = φ.of s.eng := by
  refine lift_keeps h ?_
  split
  · simp only [↓Facet.push, ↓Eng.launchTry_keeps, Facet.tidy, hφ]
  · rfl

theorem execHostLaunchRetry_keeps (ring grid) (hφ : φ ≠ .cals ∧ φ ≠ .txRings ∧ φ ≠ .tails) (h : execHostLaunchRetry ring grid s = .next t) :
    φ.of t.eng = φ.of s.eng := by
  refine lift_keeps h ?_
  repeat' split
  all_goals simp only [↓Eng.launchTry_keeps, hφ, Facet.tidy]

theorem execTimedFetchStart_keeps (port latency) (hφ : φ ≠ .cals) (h : execTimedFetchStart port latency s = .next t) :
    φ.of t.eng = φ.of s.eng :=
  lift_keeps h (by simp only [↓whenDue_keeps, ↓Eng.fetchStart_keeps, Facet.tidy, hφ])

theorem execFrameRelease_keeps (port short) (hφ : φ ≠ .ans ∧ φ ≠ .cals ∧ φ ≠ .ups ∧ φ ≠ .txRings ∧ φ ≠ .tails)
    (h : execFrameRelease port short s = .next t) :
    φ.of t.eng = φ.of s.eng :=
  lift_keeps h (by simp only [↓Eng.release_keeps, Facet.tidy, hφ])

theorem execUntimedTxStart_keeps (port block) (hφ : φ ≠ .ports ∧ φ ≠ .fwTicks ∧ φ ≠ .cals ∧ φ ≠ .txRings)
    (h : execUntimedTxStart port block s = .next t) :
    φ.of t.eng = φ.of s.eng :=
  lift_keeps h (by simp only [↓Eng.untimedStart_keeps, Facet.tidy, hφ])

/-! ## ESMC -/

theorem Eng.esmcSend_keeps (p) (hφ : φ ≠ .ports) : φ.of (e.esmcSend x p) = φ.of e := by
  unfold Eng.esmcSend
  dsimp only
  simp only [↓Facet.push, ↓Eng.portCount_keeps, ↓Eng.set_keeps, ↓Eng.modPort_keeps, ↓Eng.sendUntimed_keeps, Facet.tidy, hφ]

theorem Eng.clampShown_keeps : φ.of (e.clampShown x) = φ.of e := by
  unfold Eng.clampShown
  simp only [↓Facet.push, ↓Eng.orb_keeps, Facet.tidy]

theorem portGlobalWrite_keeps (vs) : φ.of (portGlobalWrite vs e).2 = φ.of e := by
  unfold portGlobalWrite
  dsimp only
  split <;> simp only [↓Facet.push, ↓Eng.set_keeps, ↓Eng.setAll_keeps, Facet.tidy]

theorem qlOverrideWrite_keeps (p v) : φ.of (qlOverrideWrite p v e).2 = φ.of e := by
  unfold qlOverrideWrite
  simp only [↓Facet.push, ↓Eng.set_keeps, Facet.tidy]

theorem synceLaneWrite_keeps (p v) : φ.of (synceLaneWrite p v e).2 = φ.of e := by
  unfold synceLaneWrite
  simp only [↓Facet.push, ↓Eng.set_keeps, Facet.tidy]

theorem execEsmcTimeout_keeps (port) (h : execEsmcTimeout port s = .next t) : φ.of t.eng = φ.of s.eng :=
  lift_keeps h (by simp only [↓whenDue_keeps, ↓Eng.orb_keeps, ↓Eng.portCount_keeps, ↓Eng.set_keeps])

theorem execEsmcInfoPdu_keeps (port) (hφ : φ ≠ .ports) (h : execEsmcInfoPdu port s = .next t) : φ.of t.eng = φ.of s.eng :=
  lift_keeps h (by simp only [↓Eng.esmcSend_keeps, Facet.tidy, hφ])

/-! ## The outputs -/

theorem Eng.modClk_keeps (o f) (hφ : φ ≠ .outs) : φ.of (e.modClk o f) = φ.of e := by
  unfold Eng.modClk
  dsimp only
  simp only [↓Facet.with_outs, Facet.tidy, hφ]

theorem Eng.modPps_keeps (n f) (hφ : φ ≠ .outs) : φ.of (e.modPps n f) = φ.of e := by
  unfold Eng.modPps
  dsimp only
  simp only [↓Facet.with_outs, Facet.tidy, hφ]

theorem Eng.clkRelease_keeps (o) (hφ : φ ≠ .outs) : φ.of (e.clkRelease x o) = φ.of e := by
  unfold Eng.clkRelease
  simp only [↓Facet.push, ↓Eng.modClk_keeps, Facet.tidy, hφ]

theorem Eng.synthLock_keeps (y) (hφ : φ ≠ .outs) : φ.of (e.synthLock x y) = φ.of e := by
  unfold Eng.synthLock
  simp only [↓Facet.push, ↓Eng.clkRelease_keeps, ↓Eng.set_keeps, Facet.tidy, hφ]

theorem Eng.clkHold_keeps (o) (hφ : φ ≠ .outs) : φ.of (e.clkHold o) = φ.of e := by
  unfold Eng.clkHold
  simp only [↓Eng.modClk_keeps, Facet.tidy, hφ]

theorem Eng.synthHold_keeps (y) (hφ : φ ≠ .outs) : φ.of (e.synthHold y) = φ.of e := by
  unfold Eng.synthHold
  simp only [↓Facet.push, ↓Eng.clkHold_keeps, ↓Eng.set_keeps, Facet.tidy, hφ]

theorem Eng.synthUnlock_keeps (y) (hφ : φ ≠ .outs) : φ.of (e.synthUnlock x y) = φ.of e := by
  unfold Eng.synthUnlock
  simp only [↓Facet.push, ↓Eng.detect_keeps, ↓Eng.orb_keeps, ↓Eng.synthHold_keeps, Facet.tidy, hφ]

theorem Eng.placeEdge_keeps (n v rising) (hφ : φ ≠ .outs) : φ.of (e.placeEdge n v rising) = φ.of e := by
  unfold Eng.placeEdge
  simp only [↓Eng.modPps_keeps, Facet.tidy, hφ]

theorem Eng.pulseOn_keeps (n kind v) (hφ : φ ≠ .outs) : φ.of (e.pulseOn n kind v) = φ.of e := by
  unfold Eng.pulseOn
  dsimp only
  split <;> simp only [↓Facet.push, ↓Eng.placeEdge_keeps, Facet.tidy, hφ]

theorem Eng.todMark_keeps (n v) (hφ : φ ≠ .draws ∧ φ ≠ .outs) : φ.of (e.todMark n v) = φ.of e := by
  unfold Eng.todMark
  dsimp only
  simp only [↓Facet.push, ↓Facet.with_outs, ↓Eng.drawn_keeps, Facet.tidy, hφ]

theorem Eng.todSend_keeps (hφ : φ ≠ .outs) : φ.of (e.todSend x) = φ.of e := by
  unfold Eng.todSend
  dsimp only
  split <;> simp only [↓Facet.push, ↓Facet.with_outs, ↓Eng.emit_keeps, ↓Eng.inc32_keeps, ↓Eng.orb_keeps, Facet.tidy, hφ]

theorem Eng.edgeEcho_keeps (n error) (hφ : φ ≠ .outs) : φ.of (e.edgeEcho x n error) = φ.of e := by
  unfold Eng.edgeEcho
  dsimp only
  simp only [↓Facet.push, ↓Eng.set_keeps, ↓Eng.inc32_keeps, ↓Eng.orb_keeps, ↓Eng.modPps_keeps, ↓Eng.detect_keeps, Facet.tidy, hφ]

theorem Eng.launchEdge_keeps (n error) (hφ : φ ≠ .draws ∧ φ ≠ .outs) : φ.of (e.launchEdge x n error) = φ.of e := by
  unfold Eng.launchEdge
  dsimp only
  split <;> simp only [↓Facet.push, ↓Eng.modPps_keeps, ↓Eng.orb_keeps, ↓Eng.inc32_keeps, ↓Eng.emit_keeps, ↓Eng.edgeEcho_keeps,
    ↓Eng.todMark_keeps, Facet.tidy, hφ]

theorem Eng.synthTake_keeps (old y) (hφ : φ ≠ .outs) : φ.of (e.synthTake old y) = φ.of e := by
  unfold Eng.synthTake
  dsimp only
  simp only [↓Facet.push, ↓Eng.synthHold_keeps, ↓Eng.clkHold_keeps, Facet.tidy, hφ]

theorem Eng.realign_keeps (hφ : φ ≠ .outs) : φ.of (e.realign x) = φ.of e := by
  unfold Eng.realign
  simp only [↓Facet.push, ↓Eng.orb_keeps, ↓Eng.modClk_keeps, Facet.tidy, hφ]

theorem Eng.ppsRebuild_keeps (n) (hφ : φ ≠ .sched ∧ φ ≠ .outs) : φ.of (e.ppsRebuild x n) = φ.of e := by
  unfold Eng.ppsRebuild
  dsimp only
  simp only [↓Facet.push, ↓Facet.with_sched, ↓Eng.modPps_keeps, ↓Eng.armEntry_keeps, Facet.tidy, hφ]

theorem Eng.outBoundary_keeps (stepped sets) (hφ : φ ≠ .pins ∧ φ ≠ .sched ∧ φ ≠ .outs) : φ.of (e.outBoundary x stepped sets) = φ.of e := by
  unfold Eng.outBoundary
  dsimp only
  simp only [↓Facet.push, ↓Facet.with_pins, ↓Facet.with_outs, ↓Eng.synthTake_keeps, ↓Eng.realign_keeps, ↓Eng.modPps_keeps,
    ↓Eng.ppsRebuild_keeps, Facet.tidy, hφ]

theorem Eng.outEclipse_keeps (hφ : φ ≠ .pins ∧ φ ≠ .outs) : φ.of e.outEclipse = φ.of e := by
  unfold Eng.outEclipse
  dsimp only
  simp only [↓Facet.with_pins_outs, Facet.tidy, hφ]

theorem synthWrite_keeps (y vs) : φ.of (synthWrite y vs e).2 = φ.of e := by
  unfold synthWrite
  dsimp only
  simp only [↓Facet.push, ↓Eng.setAll_keeps, Facet.tidy]

theorem ppsoutWrite_keeps (n vs) (hφ : φ ≠ .outs) : φ.of (ppsoutWrite n vs e).2 = φ.of e := by
  unfold ppsoutWrite
  dsimp only
  simp only [↓Facet.push, ↓Eng.setAll_keeps, ↓Eng.modPps_keeps, Facet.tidy, hφ]

theorem todOutWrite_keeps (vs) : φ.of (todOutWrite vs e).2 = φ.of e := by
  unfold todOutWrite
  dsimp only
  simp only [↓Facet.push, ↓Eng.setAll_keeps, Facet.tidy]

theorem execSynthLock_keeps (synth) (hφ : φ ≠ .outs) (h : execSynthLock synth s = .next t) : φ.of t.eng = φ.of s.eng :=
  lift_keeps h (by simp only [↓Eng.synthLock_keeps, Facet.tidy, hφ])

theorem execSynthUnlock_keeps (synth) (hφ : φ ≠ .outs) (h : execSynthUnlock synth s = .next t) : φ.of t.eng = φ.of s.eng :=
  lift_keeps h (by simp only [↓Eng.synthUnlock_keeps, Facet.tidy, hφ])

theorem execPpsoutEdge_keeps (output error) (hφ : φ ≠ .draws ∧ φ ≠ .outs) (h : execPpsoutEdge output error s = .next t) :
    φ.of t.eng = φ.of s.eng :=
  lift_keeps h (by simp only [↓Eng.launchEdge_keeps, Facet.tidy, hφ])

theorem execTodOutMessage_keeps (hφ : φ ≠ .outs) (h : execTodOutMessage s = .next t) : φ.of t.eng = φ.of s.eng :=
  lift_keeps h (by simp only [↓Eng.todSend_keeps, Facet.tidy, hφ])

theorem execPpsoutConfigWrite_keeps (output w roles) (hφ : φ ≠ .outs) (h : execPpsoutConfigWrite output w roles s = .next t) :
    φ.of t.eng = φ.of s.eng :=
  lift_keeps h (by simp only [↓Eng.recCmd_keeps, ↓ppsoutWrite_keeps, Facet.tidy, hφ])

/-! ## Operations on faults -/

theorem forceWrite_keeps (b v) : φ.of (forceWrite x b v e).2 = φ.of e := by
  unfold forceWrite
  dsimp only
  simp only [↓Facet.push, ↓Eng.raise_keeps, Facet.tidy]

theorem rearmWrite_keeps (b v) : φ.of (rearmWrite x b v e).2 = φ.of e := by
  unfold rearmWrite
  dsimp only
  simp only [↓Facet.push, ↓Eng.set_keeps, ↓Eng.recordFirst_keeps, Facet.tidy]

theorem latchClear_keeps (b v) : φ.of (latchClear x b v e).2 = φ.of e := by
  unfold latchClear
  dsimp only
  simp only [↓Eng.andc_keeps]

theorem maskWrite_keeps (b v) : φ.of (maskWrite x b v e).2 = φ.of e := by
  unfold maskWrite
  dsimp only
  simp only [↓Facet.push, ↓Eng.set_keeps, ↓Eng.irqPoke_keeps, Facet.tidy]

theorem testOpenWrite_keeps (v) : φ.of (testOpenWrite x v e).2 = φ.of e := by
  unfold testOpenWrite
  dsimp only
  simp only [↓Facet.with_flt, ↓Eng.orb_keeps]

theorem testCloseWrite_keeps (v) : φ.of (testCloseWrite v e).2 = φ.of e := by
  unfold testCloseWrite
  dsimp only
  simp only [↓Facet.push, ↓Facet.with_flt, Facet.tidy]

theorem lingerWrite_keeps (v) : φ.of (lingerWrite v e).2 = φ.of e := by
  unfold lingerWrite
  dsimp only
  simp only [↓Facet.push, ↓Eng.set_keeps, Facet.tidy]

theorem Eng.scrubStart_keeps : φ.of (e.scrubStart x) = φ.of e := by
  unfold Eng.scrubStart
  dsimp only
  simp only [↓Facet.with_flt]

theorem scrubEnableWrite_keeps (v) : φ.of (scrubEnableWrite x v e).2 = φ.of e := by
  unfold scrubEnableWrite
  dsimp only
  simp only [↓Facet.push, ↓Facet.with_flt, ↓Eng.set_keeps, ↓Eng.scrubStart_keeps, Facet.tidy]

theorem Eng.checkerFail_keeps (f) : φ.of (e.checkerFail x f) = φ.of e := by
  unfold Eng.checkerFail
  dsimp only
  simp only [↓Facet.push, ↓Eng.raise_keeps, Facet.tidy]

theorem Eng.selfcheck_keeps (wrong) : φ.of (e.selfcheck x wrong) = φ.of e := by
  unfold Eng.selfcheck
  simp only [↓Facet.push, ↓Eng.checkerFail_keeps, Facet.tidy]

theorem execFaultForce_keeps (block value roles) (h : execFaultForce block value roles s = .next t) : φ.of t.eng = φ.of s.eng :=
  lift_keeps h (by simp only [↓Eng.writeCmd_keeps, ↓forceWrite_keeps])

theorem execFaultRearm_keeps (block value roles) (h : execFaultRearm block value roles s = .next t) : φ.of t.eng = φ.of s.eng :=
  lift_keeps h (by simp only [↓Eng.writeCmd_keeps, ↓rearmWrite_keeps])

theorem execFaultLatchClear_keeps (block mask roles) (h : execFaultLatchClear block mask roles s = .next t) : φ.of t.eng = φ.of s.eng :=
  lift_keeps h (by simp only [↓Eng.writeCmd_keeps, ↓latchClear_keeps])

theorem execTestWindowOpen_keeps (seconds roles) (h : execTestWindowOpen seconds roles s = .next t) : φ.of t.eng = φ.of s.eng :=
  lift_keeps h (by simp only [↓Eng.writeCmd_keeps, ↓testOpenWrite_keeps])

theorem execTestWindowClose_keeps (value roles) (h : execTestWindowClose value roles s = .next t) : φ.of t.eng = φ.of s.eng :=
  lift_keeps h (by simp only [↓Eng.writeCmd_keeps, ↓testCloseWrite_keeps])

theorem execTestWindowExpiry_keeps (h : execTestWindowExpiry s = .next t) : φ.of t.eng = φ.of s.eng :=
  lift_keeps h (by simp only [↓Facet.with_flt, ↓whenDue_keeps])

theorem execSelfcheckPass_keeps (wrong) (h : execSelfcheckPass wrong s = .next t) : φ.of t.eng = φ.of s.eng :=
  lift_keeps h (by simp only [↓Eng.selfcheck_keeps])

/-! ## Operations of the boot -/

theorem resetWrite_keeps (hφ : φ ≠ .boot) : φ.of (resetWrite e).2 = φ.of e := by
  unfold resetWrite
  dsimp only
  simp only [↓Facet.with_boot, Facet.tidy, hφ]

theorem autoResetWrite_keeps (v) : φ.of (autoResetWrite v e).2 = φ.of e := by
  unfold autoResetWrite
  simp only [↓Facet.push, ↓Eng.set_keeps, Facet.tidy]

theorem Eng.stageDrop_keeps (k) (hφ : φ ≠ .front) : φ.of (e.stageDrop k) = φ.of e := by
  unfold Eng.stageDrop
  dsimp only
  simp only [↓Facet.with_front, Facet.tidy, hφ]

theorem stagePart_keeps (k : Key) (size : Nat) (offset : Nat) (len : Nat) (bytes : Bytes) (arrived : Nat) (take : Eng → WriteRes)
    (whole : Bytes → Eng → WriteRes) (hφ : φ ≠ .front) (htake : φ.of (take e).2 = φ.of e) (hwhole : ∀ b e, φ.of (whole b e).2 = φ.of e) :
    φ.of (stagePart x k size offset len bytes arrived take whole e).2 = φ.of e := by
  unfold stagePart
  dsimp only
  split <;> simp only [↓Facet.push, ↓Facet.with_front, ↓Eng.stageDrop_keeps, htake, hwhole, Facet.tidy, hφ]

theorem fwPart_keeps (offset bytes) (hφ : φ ≠ .flash) : φ.of (fwPart offset bytes e).2 = φ.of e := by
  unfold fwPart
  dsimp only
  simp only [↓Facet.push, ↓Facet.with_flash, Facet.tidy, hφ]

theorem fwStage_keeps (offset bytes arrived) (hφ : φ ≠ .flash ∧ φ ≠ .front) : φ.of (fwStage x offset bytes arrived e).2 = φ.of e := by
  unfold fwStage
  simp only [↓Facet.push, ↓stagePart_keeps, ↓fwPart_keeps, Facet.tidy, hφ]

theorem fwCommit_keeps (v) (hφ : φ ≠ .flash) : φ.of (fwCommit x v e).2 = φ.of e := by
  unfold fwCommit
  dsimp only
  simp only [↓Facet.push, ↓Facet.with_flash, Facet.tidy, hφ]

theorem rollbackWrite_keeps (v) (hφ : φ ≠ .boot) : φ.of (rollbackWrite x v e).2 = φ.of e := by
  unfold rollbackWrite
  dsimp only
  simp only [↓Facet.push, ↓Facet.with_boot, Facet.tidy, hφ]

theorem pwrStickyClear_keeps (v) : φ.of (pwrStickyClear v e).2 = φ.of e := by
  unfold pwrStickyClear
  dsimp only
  simp only [↓Facet.push, ↓Eng.andc_keeps, ↓Eng.set_keeps, Facet.tidy]

theorem warnWrite_keeps (v) : φ.of (warnWrite x v e).2 = φ.of e := by
  unfold warnWrite
  simp only [↓Facet.push, ↓Eng.set_keeps, Facet.tidy]

theorem dumpNowWrite_keeps (v) (hφ : φ ≠ .dump) : φ.of (dumpNowWrite v e).2 = φ.of e := by
  unfold dumpNowWrite
  dsimp only
  simp only [↓Facet.push, ↓Facet.with_dump, Facet.tidy, hφ]

theorem Eng.setDump_keeps (s d) (hφ : φ ≠ .flash) : φ.of (e.setDump s d) = φ.of e := by
  unfold Eng.setDump
  dsimp only
  simp only [↓Facet.with_flash, Facet.tidy, hφ]

theorem dumpClearWrite_keeps (v) (hφ : φ ≠ .flash) : φ.of (dumpClearWrite v e).2 = φ.of e := by
  unfold dumpClearWrite
  simp only [↓Facet.push, ↓Eng.setDump_keeps, Facet.tidy, hφ]

theorem dumpReadWrite_keeps (vs) : φ.of (dumpReadWrite vs e).2 = φ.of e := by
  unfold dumpReadWrite
  dsimp only
  simp only [↓Facet.push, ↓Eng.setAll_keeps, Facet.tidy]

/-! ## Operations of the dictionary -/

theorem descChunkWrite_keeps (v) : φ.of (descChunkWrite v e).2 = φ.of e := by
  unfold descChunkWrite
  simp only [↓Facet.push, ↓Eng.set_keeps, Facet.tidy]

theorem storeSave_keeps (hφ : φ ≠ .front) : φ.of (storeSave x e).2 = φ.of e := by
  unfold storeSave
  dsimp only
  simp only [↓Facet.push, ↓Facet.with_front, ↓Eng.set_keeps, Facet.tidy, hφ]

theorem factoryWrite_keeps (hφ : φ ≠ .flash) : φ.of (factoryWrite e).2 = φ.of e := by
  unfold factoryWrite
  dsimp only
  simp only [↓Facet.with_flash, Facet.tidy, hφ]

theorem storeWrite_keeps (v) (hφ : φ ≠ .flash ∧ φ ≠ .front) : φ.of (storeWrite x v e).2 = φ.of e := by
  unfold storeWrite
  simp only [↓Facet.push, ↓storeSave_keeps, ↓factoryWrite_keeps, Facet.tidy, hφ]

theorem mgmtWrite_keeps (vs) : φ.of (mgmtWrite vs e).2 = φ.of e := by
  unfold mgmtWrite
  dsimp only
  simp only [↓Facet.push, ↓Eng.setAll_keeps, Facet.tidy]

theorem segWrite_keeps (vs) : φ.of (segWrite vs e).2 = φ.of e := by
  unfold segWrite
  dsimp only
  simp only [↓Facet.push, ↓Eng.setAll_keeps, Facet.tidy]

theorem credWrite_keeps (c vs) (hφ : φ ≠ .keyWait ∧ φ ≠ .front) : φ.of (credWrite x c vs e).2 = φ.of e := by
  unfold credWrite
  dsimp only
  simp only [↓Facet.push, ↓Facet.with_front, ↓Eng.setAll_keeps, ↓Eng.keyTouched_keeps, Facet.tidy, hφ]

theorem execDescChunkSelect_keeps (index roles) (h : execDescChunkSelect index roles s = .next t) : φ.of t.eng = φ.of s.eng :=
  lift_keeps h (by simp only [↓Eng.writeCmd_keeps, ↓descChunkWrite_keeps])

theorem execSave_keeps (roles) (hφ : φ ≠ .flash ∧ φ ≠ .front) (h : execSave roles s = .next t) : φ.of t.eng = φ.of s.eng :=
  lift_keeps h (by simp only [↓Eng.writeCmd_keeps, ↓storeWrite_keeps, Facet.tidy, hφ])

theorem execFactoryDefaults_keeps (roles) (hφ : φ ≠ .flash ∧ φ ≠ .front) (h : execFactoryDefaults roles s = .next t) :
    φ.of t.eng = φ.of s.eng :=
  lift_keeps h (by simp only [↓Eng.writeCmd_keeps, ↓storeWrite_keeps, Facet.tidy, hφ])

theorem execCredWrite_keeps (cred w roles) (hφ : φ ≠ .keyWait ∧ φ ≠ .front) (h : execCredWrite cred w roles s = .next t) :
    φ.of t.eng = φ.of s.eng :=
  lift_keeps h (by simp only [↓Eng.recCmd_keeps, ↓credWrite_keeps, Facet.tidy, hφ])

theorem execFwImageDataWrite_keeps (offset bytes roles) (hφ : φ ≠ .flash ∧ φ ≠ .front)
    (h : execFwImageDataWrite offset bytes roles s = .next t) :
    φ.of t.eng = φ.of s.eng :=
  lift_keeps h (by simp only [↓Facet.push, ↓Eng.writeCmd_keeps, ↓fwStage_keeps, Facet.tidy, hφ])

theorem execFwImageCommit_keeps (value roles) (hφ : φ ≠ .flash) (h : execFwImageCommit value roles s = .next t) : φ.of t.eng = φ.of s.eng :=
  lift_keeps h (by simp only [↓Eng.writeCmd_keeps, ↓fwCommit_keeps, Facet.tidy, hφ])

theorem execDumpNow_keeps (value roles) (hφ : φ ≠ .dump) (h : execDumpNow value roles s = .next t) : φ.of t.eng = φ.of s.eng :=
  lift_keeps h (by simp only [↓Eng.writeCmd_keeps, ↓dumpNowWrite_keeps, Facet.tidy, hφ])

theorem execDumpClear_keeps (mask roles) (hφ : φ ≠ .flash) (h : execDumpClear mask roles s = .next t) : φ.of t.eng = φ.of s.eng :=
  lift_keeps h (by simp only [↓Eng.writeCmd_keeps, ↓dumpClearWrite_keeps, Facet.tidy, hφ])

theorem execDumpChunkSelect_keeps (index roles) (h : execDumpChunkSelect index roles s = .next t) : φ.of t.eng = φ.of s.eng :=
  lift_keeps h (by simp only [↓Eng.writeCmd_keeps, ↓dumpReadWrite_keeps])

/-! ## Applied writes -/

theorem defaultWrite_keeps (k v) : φ.of (defaultWrite k v e).2 = φ.of e := by
  unfold defaultWrite
  repeat' split
  all_goals simp only [↓Facet.push, ↓Eng.andc_keeps, ↓Eng.set_keeps]

theorem memberWise_keeps (op : Key → Int → Eng → WriteRes) (vs : List (Key × Int)) (hop : ∀ k v e, φ.of (op k v e).2 = φ.of e) :
    φ.of (memberWise op vs e).2 = φ.of e := by
  unfold memberWise
  dsimp only
  simp only [↓Facet.push, hop, Facet.tidy]

theorem defaultAll_keeps (vs) : φ.of (defaultAll vs e).2 = φ.of e :=
  memberWise_keeps e defaultWrite vs (fun k v e => defaultWrite_keeps e k v)

theorem applyId_keeps (k vs) : φ.of (applyId k vs e).2 = φ.of e := by
  unfold applyId
  simp only [↓Facet.push, ↓descChunkWrite_keeps, ↓defaultAll_keeps, Facet.tidy]

theorem moonConfigWrite_keeps (m k v) (hφ : φ ≠ .tl ∧ φ ≠ .sched) : φ.of (moonConfigWrite x m k v e).2 = φ.of e := by
  unfold moonConfigWrite
  simp only [↓Facet.push, ↓moonEnableWrite_keeps, ↓jumpLimitWrite_keeps, ↓Eng.recomputeTracker_keeps, ↓Eng.set_keeps, Facet.tidy, hφ]

theorem moonSetApply_keeps (m vs) : φ.of (moonSetApply m vs e).2 = φ.of e := by
  unfold moonSetApply
  split <;> simp only [↓Facet.push, ↓moonSetArmedWrite_keeps, ↓moonSetWrite_keeps, Facet.tidy]

theorem cmpApply_keeps (m c k v) (hφ : φ ≠ .cmpArmedAt) : φ.of (cmpApply x m c k v e).2 = φ.of e := by
  unfold cmpApply
  simp only [↓Facet.push, ↓cmpTargetWrite_keeps, ↓Eng.andc_keeps, Facet.tidy, hφ]

theorem applyMoon_keeps (k vs) (hφ : φ ≠ .tl ∧ φ ≠ .cmpArmedAt ∧ φ ≠ .sched) : φ.of (applyMoon x k vs e).2 = φ.of e := by
  unfold applyMoon
  dsimp only
  repeat' split
  all_goals simp only [↓leapWrite_keeps, ↓memberWise_keeps, ↓moonConfigWrite_keeps, ↓moonIncWrite_keeps, ↓moonStepWrite_keeps,
    ↓moonSetApply_keeps, ↓moonConsentWrite_keeps, ↓cmpApply_keeps, ↓defaultAll_keeps, Facet.tidy, hφ]

theorem applySched_keeps (k vs roles) (hφ : φ ≠ .sched) : φ.of (applySched x k vs roles e).2 = φ.of e := by
  unfold applySched
  dsimp only
  repeat' split
  all_goals simp only [↓Facet.push, ↓defaultAll_keeps, ↓schedEmptyWrite_keeps, ↓schedWrite_keeps, Facet.tidy, hφ]

theorem applyOut_keeps (k vs) (hφ : φ ≠ .outs) : φ.of (applyOut k vs e).2 = φ.of e := by
  unfold applyOut
  dsimp only
  simp only [↓Facet.push, ↓defaultAll_keeps, ↓synthWrite_keeps, ↓ppsoutWrite_keeps, ↓todOutWrite_keeps, Facet.tidy, hφ]

theorem applyRef_keeps (k vs) (hφ : φ ≠ .refins ∧ φ ≠ .tod ∧ φ ≠ .sel) : φ.of (applyRef x k vs e).2 = φ.of e := by
  unfold applyRef
  dsimp only
  simp only [↓Facet.push, ↓refinCfgWrite_keeps, ↓refinQualWrite_keeps, ↓synceWrite_keeps, ↓todInWrite_keeps, ↓defaultAll_keeps, Facet.tidy,
    hφ]

theorem applyGnss_keeps (k vs) (hφ : φ ≠ .draws ∧ φ ≠ .flash ∧ φ ≠ .gnss ∧ φ ≠ .sel) : φ.of (applyGnss x k vs e).2 = φ.of e := by
  unfold applyGnss
  dsimp only
  simp only [↓Facet.push, ↓gnssGlobalWrite_keeps, ↓gnssPosWrite_keeps, ↓gnssHeldWrite_keeps, ↓gnssRootWrite_keeps, ↓gnssSaveWrite_keeps,
    ↓gnssFeWrite_keeps, ↓defaultAll_keeps, Facet.tidy, hφ]

theorem applySel_keeps (k vs) (hφ : φ ≠ .sel) : φ.of (applySel x k vs e).2 = φ.of e := by
  unfold applySel
  dsimp only
  simp only [↓Facet.push, ↓selPeek_keeps, ↓selSlotWrite_keeps, ↓selCmd_keeps, ↓selMoonWrite_keeps, ↓defaultAll_keeps, Facet.tidy, hφ]

theorem applySteer_keeps (k vs) (hφ : φ ≠ .steer ∧ φ ≠ .model) : φ.of (applySteer k vs e).2 = φ.of e := by
  unfold applySteer
  dsimp only
  simp only [↓Facet.push, ↓modelCmd_keeps, ↓Eng.set_keeps, ↓steerMoonWrite_keeps, ↓steerCmd_keeps, ↓defaultAll_keeps, Facet.tidy, hφ]

theorem portConfigWrite_keeps (p k v) (hφ : φ ≠ .lanes ∧ φ ≠ .cals ∧ φ ≠ .txRings ∧ φ ≠ .tails) :
    φ.of (portConfigWrite x p k v e).2 = φ.of e := by
  unfold portConfigWrite
  simp only [↓Facet.push, ↓portEnableWrite_keeps, ↓synceLaneWrite_keeps, ↓Eng.set_keeps, Facet.tidy, hφ]

theorem applyPort_keeps (k vs) (hφ : φ ≠ .cls ∧ φ ≠ .lanes ∧ φ ≠ .cals ∧ φ ≠ .txRings ∧ φ ≠ .tails) :
    φ.of (applyPort x k vs e).2 = φ.of e := by
  unfold applyPort
  dsimp only
  repeat' split
  all_goals simp only [↓portGlobalWrite_keeps, ↓ruleCommitWrite_keeps, ↓laneGroupWrite_keeps, ↓memberWise_keeps, ↓portConfigWrite_keeps,
    ↓qlOverrideWrite_keeps, ↓defaultAll_keeps, ↓svcWrite_keeps, ↓ruleEditWrite_keeps, Facet.tidy, hφ]

theorem applyTs_keeps (k vs) (hφ : φ ≠ .lanes ∧ φ ≠ .calWait ∧ φ ≠ .cals ∧ φ ≠ .txRings ∧ φ ≠ .tails) :
    φ.of (applyTs x k vs e).2 = φ.of e := by
  unfold applyTs
  dsimp only
  simp only [↓Facet.push, ↓memberWise_keeps, ↓calOpenWrite_keeps, ↓calCloseWrite_keeps, ↓laneIfWrite_keeps, ↓calWrite_keeps,
    ↓tsStickyClear_keeps, ↓defaultAll_keeps, Facet.tidy, hφ]

theorem applyAns_keeps (k vs) (hφ : φ ≠ .draws ∧ φ ≠ .ans) : φ.of (applyAns x k vs e).2 = φ.of e := by
  unfold applyAns
  dsimp only
  simp only [↓Facet.push, ↓Facet.with_ans, ↓memberWise_keeps, ↓ansRekey_keeps, ↓Eng.set_keeps, ↓ansPeekWrite_keeps, ↓Eng.setAll_keeps,
    ↓ansRuleWrite_keeps, ↓pipeReenable_keeps, ↓defaultAll_keeps, Facet.tidy, hφ]

theorem applyDep_keeps (k vs) (hφ : φ ≠ .ans) : φ.of (applyDep x k vs e).2 = φ.of e := by
  unfold applyDep
  dsimp only
  simp only [↓Facet.push, ↓depPortWrite_keeps, ↓depStickyClear_keeps, ↓defaultAll_keeps, Facet.tidy, hφ]

theorem slotMember_keeps (s k v) (hφ : φ ≠ .draws ∧ φ ≠ .keyWait ∧ φ ≠ .ans ∧ φ ≠ .nts) : φ.of (slotMember x s k v e).2 = φ.of e := by
  unfold slotMember
  simp only [↓Facet.push, ↓slotGenWrite_keeps, ↓slotKeyWrite_keeps, ↓slotCommand_keeps, Facet.tidy, hφ]

theorem applyNts_keeps (k vs) (hφ : φ ≠ .draws ∧ φ ≠ .keyWait ∧ φ ≠ .ans ∧ φ ≠ .nts ∧ φ ≠ .pk) : φ.of (applyNts x k vs e).2 = φ.of e := by
  unfold applyNts
  dsimp only
  simp only [↓Facet.push, ↓seedWrite_keeps, ↓memberWise_keeps, ↓slotMember_keeps, ↓ntsKeWrite_keeps, ↓keGenerate_keeps, ↓defaultAll_keeps,
    Facet.tidy, hφ]

theorem applyPtp_keeps (k vs) (hφ : φ ≠ .keyWait ∧ φ ≠ .ans ∧ φ ≠ .ups ∧ φ ≠ .sel) : φ.of (applyPtp x k vs e).2 = φ.of e := by
  unfold applyPtp
  dsimp only
  simp only [↓Facet.push, ↓ptpSaWrite_keeps, ↓ptpInstWrite_keeps, ↓ptpNegWrite_keeps, ↓upWrite_keeps, ↓defaultAll_keeps, Facet.tidy, hφ]

theorem applyPk_keeps (k vs) (hφ : φ ≠ .draws ∧ φ ≠ .keyWait ∧ φ ≠ .pk) : φ.of (applyPk x k vs e).2 = φ.of e := by
  unfold applyPk
  dsimp only
  simp only [↓Facet.push, ↓pkHostSubmit_keeps, ↓memberWise_keeps, ↓pkPopWrite_keeps, ↓Eng.pkAbort_keeps, ↓pkErase_keeps, ↓pkSlotWrite_keeps,
    ↓pkDataWrite_keeps, ↓defaultAll_keeps, Facet.tidy, hφ]

theorem applyHost_keeps (k vs) (hφ : φ ≠ .draws ∧ φ ≠ .rxRings ∧ φ ≠ .txRings) : φ.of (applyHost x k vs e).2 = φ.of e := by
  unfold applyHost
  dsimp only
  simp only [↓Facet.push, ↓irqClear_keeps, ↓irqRouteWrite_keeps, ↓ringWrite_keeps, ↓defaultAll_keeps, Facet.tidy, hφ]

theorem applyDict_keeps (k vs) (hφ : φ ≠ .flash ∧ φ ≠ .keyWait ∧ φ ≠ .front) : φ.of (applyDict x k vs e).2 = φ.of e := by
  unfold applyDict
  dsimp only
  simp only [↓Facet.push, ↓mgmtWrite_keeps, ↓storeWrite_keeps, ↓credWrite_keeps, ↓segWrite_keeps, ↓defaultAll_keeps, Facet.tidy, hφ]

theorem applyCnt_keeps (k vs) : φ.of (applyCnt x k vs e).2 = φ.of e := by
  unfold applyCnt
  dsimp only
  simp only [↓Facet.push, ↓snapMaskWrite_keeps, ↓cntUserWrite_keeps, ↓cntStickyClear_keeps, ↓cntWinWrite_keeps, ↓cntOccWrite_keeps,
    ↓defaultAll_keeps, Facet.tidy]

theorem fltMember_keeps (k v) : φ.of (fltMember x k v e).2 = φ.of e := by
  unfold fltMember
  dsimp only
  simp only [↓Facet.push, ↓lingerWrite_keeps, ↓scrubEnableWrite_keeps, ↓testOpenWrite_keeps, ↓testCloseWrite_keeps, ↓latchClear_keeps,
    ↓maskWrite_keeps, ↓forceWrite_keeps, ↓rearmWrite_keeps, ↓defaultWrite_keeps, Facet.tidy]

theorem bootMember_keeps (k v) (hφ : φ ≠ .boot ∧ φ ≠ .flash ∧ φ ≠ .dump) : φ.of (bootMember x k v e).2 = φ.of e := by
  unfold bootMember
  simp only [↓Facet.push, ↓resetWrite_keeps, ↓autoResetWrite_keeps, ↓fwCommit_keeps, ↓rollbackWrite_keeps, ↓pwrStickyClear_keeps,
    ↓warnWrite_keeps, ↓dumpNowWrite_keeps, ↓dumpClearWrite_keeps, ↓defaultWrite_keeps, Facet.tidy, hφ]

theorem applyBoot_keeps (k vs) (hφ : φ ≠ .boot ∧ φ ≠ .flash ∧ φ ≠ .dump) : φ.of (applyBoot x k vs e).2 = φ.of e := by
  unfold applyBoot
  simp only [↓Facet.push, ↓dumpReadWrite_keeps, ↓memberWise_keeps, ↓bootMember_keeps, Facet.tidy, hφ]

theorem applyWrite_keeps (k vs roles) (hφ : φ.avoids EngField.acted) : φ.of (applyWrite x k vs roles e).2 = φ.of e := by
  have ha := Facet.avoids_acted.1 hφ
  unfold applyWrite
  split <;> simp only [↓applyId_keeps, ↓applyMoon_keeps, ↓applySched_keeps, ↓applyOut_keeps, ↓applyRef_keeps, ↓applyGnss_keeps,
    ↓applySel_keeps, ↓applySteer_keeps, ↓applyPort_keeps, ↓applyTs_keeps, ↓applyAns_keeps, ↓applyDep_keeps, ↓applyNts_keeps,
    ↓applyPtp_keeps, ↓applyPk_keeps, ↓applyHost_keeps, ↓applyDict_keeps, ↓applyCnt_keeps, ↓memberWise_keeps, ↓fltMember_keeps,
    ↓applyBoot_keeps, ↓defaultAll_keeps, Facet.tidy, ha]

theorem Eng.step8Bytes_keeps (k bytes roles) (hφ : φ.avoids EngField.acted) : φ.of (e.step8Bytes x k bytes roles).2 = φ.of e := by
  unfold Eng.step8Bytes
  dsimp only
  simp only [↓Facet.push, ↓applyWrite_keeps, ↓Eng.refusedHook_keeps, Facet.tidy, hφ]

/-! ## The front -/

theorem Eng.deniedBy_keeps (cred st) : φ.of (e.deniedBy cred st) = φ.of e := by
  unfold Eng.deniedBy
  split <;> simp only [↓Facet.push, ↓Eng.inc32_keeps, Facet.tidy]

theorem Eng.refuse_keeps (cred st) : φ.of (e.refuse x cred st).2 = φ.of e := by
  unfold Eng.refuse
  dsimp only
  simp only [↓Facet.push, ↓Facet.with_resp, ↓Eng.deniedBy_keeps, ↓Eng.account_keeps, ↓Eng.set_keeps, Facet.tidy]

theorem Eng.opRead_keeps (req cred k offset length roles) (hφ : φ ≠ .front) :
    φ.of (e.opRead x req cred k offset length roles).2 = φ.of e := by
  unfold Eng.opRead
  dsimp only
  simp only [↓Facet.push, ↓Facet.with_resp, ↓Facet.with_front, ↓Eng.refuse_keeps, Facet.tidy, hφ]

theorem Eng.enqueueWrite_keeps (w) (hφ : φ ≠ .front) : φ.of (e.enqueueWrite x w).2 = φ.of e := by
  unfold Eng.enqueueWrite
  dsimp only
  simp only [↓Facet.push, ↓Facet.with_front, ↓Eng.refuse_keeps, ↓Eng.set_keeps, ↓Eng.orb_keeps, Facet.tidy, hφ]

theorem Eng.opWrite_keeps (req cred k offset bytes roles) (hφ : φ ≠ .front) :
    φ.of (e.opWrite x req cred k offset bytes roles).2 = φ.of e := by
  unfold Eng.opWrite
  dsimp only
  simp only [↓Facet.push, ↓Eng.refuse_keeps, ↓Eng.enqueueWrite_keeps, Facet.tidy, hφ]

theorem Eng.opTimed_keeps (req cred k offset v roles) (hφ : φ ≠ .front) : φ.of (e.opTimed x req cred k offset v roles).2 = φ.of e := by
  unfold Eng.opTimed
  dsimp only
  simp only [↓Facet.push, ↓Eng.refuse_keeps, ↓Eng.enqueueWrite_keeps, Facet.tidy, hφ]

theorem Eng.segSend_keeps (dst bytes) : φ.of (e.segSend x dst bytes) = φ.of e := by
  unfold Eng.segSend
  dsimp only
  simp only [↓Facet.push, ↓Facet.with_seg, ↓Eng.count_keeps, Facet.tidy]

theorem Eng.sendOn_keeps (path bytes) (hφ : φ ≠ .draws ∧ φ ≠ .ports ∧ φ ≠ .wins) : φ.of (e.sendOn x path bytes) = φ.of e := by
  unfold Eng.sendOn
  dsimp only
  split <;> simp only [↓Facet.push, ↓Eng.segSend_keeps, ↓Eng.winDone_keeps, ↓Eng.sendUntimed_keeps, ↓Eng.drawn_keeps, Facet.tidy, hφ]

theorem Eng.respond_keeps (o) (hφ : φ ≠ .draws ∧ φ ≠ .ports ∧ φ ≠ .wins ∧ φ ≠ .front) : φ.of (e.respond x o) = φ.of e := by
  unfold Eng.respond
  dsimp only
  simp only [↓Facet.with_front, ↓Eng.sendOn_keeps, Facet.tidy, hφ]

theorem Eng.answerOp_keeps (req r) (hφ : φ ≠ .draws ∧ φ ≠ .ports ∧ φ ≠ .wins ∧ φ ≠ .front) : φ.of (e.answerOp x req r) = φ.of e := by
  unfold Eng.answerOp
  dsimp only
  repeat' split
  all_goals simp only [↓Facet.with_front, ↓Eng.respond_keeps, Facet.tidy, hφ]

theorem Eng.discardReq_keeps (path event cause) (hφ : φ ≠ .wins) : φ.of (e.discardReq x path event cause) = φ.of e := by
  unfold Eng.discardReq
  dsimp only
  split <;> simp only [↓Facet.push, ↓Eng.count_keeps, ↓Eng.winError_keeps, Facet.tidy, hφ]

theorem Eng.takeCounter_keeps (c counter d) (hφ : φ ≠ .keyWait ∧ φ ≠ .front) : φ.of (e.takeCounter x c counter d) = φ.of e := by
  unfold Eng.takeCounter
  dsimp only
  simp only [↓Facet.push, ↓Facet.with_front, ↓Eng.keyTouched_keeps, Facet.tidy, hφ]

theorem Eng.duplicate_keeps (path c counter tid) (hφ : φ ≠ .draws ∧ φ ≠ .ports ∧ φ ≠ .wins) :
    φ.of (e.duplicate x path c counter tid) = φ.of e := by
  unfold Eng.duplicate
  split <;> simp only [↓Eng.sendOn_keeps, ↓Eng.count_keeps, ↓Eng.discardReq_keeps, Facet.tidy, hφ]

theorem Eng.runOp_keeps (n i c roles o) (hφ : φ ≠ .front) : φ.of (e.runOp x n i c roles o).2 = φ.of e := by
  unfold Eng.runOp
  dsimp only
  repeat' split
  all_goals simp only [↓Facet.push, ↓Eng.opRead_keeps, ↓Eng.opWrite_keeps, ↓Eng.opTimed_keeps, ↓Eng.refuse_keeps, Facet.tidy, hφ]

theorem Eng.runOps_keeps (n c roles ops) (hφ : φ ≠ .front) : φ.of (e.runOps x n c roles ops).2 = φ.of e := by
  unfold Eng.runOps
  dsimp only
  simp only [↓Facet.push, ↓Eng.runOp_keeps, Facet.tidy, hφ]

theorem Eng.execute_keeps (path c roles key p ops) (hφ : φ ≠ .draws ∧ φ ≠ .ports ∧ φ ≠ .wins ∧ φ ≠ .front) :
    φ.of (e.execute x path c roles key p ops) = φ.of e := by
  unfold Eng.execute
  dsimp only
  simp only [↓Facet.push, ↓Facet.with_front, ↓Eng.set_keeps, ↓Eng.runOps_keeps, ↓Eng.respond_keeps, Facet.tidy, hφ]

theorem Eng.request_keeps (a) (hφ : φ ≠ .draws ∧ φ ≠ .ports ∧ φ ≠ .keyWait ∧ φ ≠ .wins ∧ φ ≠ .front) : φ.of (e.request x a) = φ.of e := by
  unfold Eng.request
  dsimp only
  repeat' split
  all_goals simp only [↓Eng.discardReq_keeps, ↓Eng.duplicate_keeps, ↓Eng.execute_keeps, ↓Eng.takeCounter_keeps, Facet.tidy, hφ]

theorem wholeApply_keeps (k roles bytes) (hφ : φ.avoids EngField.acted) : φ.of (wholeApply x k roles bytes e).2 = φ.of e := by
  unfold wholeApply
  split <;> simp only [↓Facet.push, ↓applyWrite_keeps, hφ]

theorem Eng.applyQueued_keeps (w) (hφ : φ.avoids EngField.acted) : φ.of (e.applyQueued x w).2 = φ.of e := by
  have ha := Facet.avoids_acted.1 hφ
  unfold Eng.applyQueued
  repeat' split
  all_goals simp only [↓Facet.push, ↓fwStage_keeps, ↓stagePart_keeps, ↓wholeApply_keeps, ↓Eng.step8Bytes_keeps, Facet.tidy, hφ, ha]

theorem Eng.popWrite_keeps (rest) (hφ : φ ≠ .front) : φ.of (e.popWrite x rest) = φ.of e := by
  unfold Eng.popWrite
  dsimp only
  simp only [↓Facet.with_front, Facet.tidy, hφ]

theorem Eng.drainOne_keeps (hφ : φ.avoids EngField.acted ∧ φ ≠ .ports ∧ φ ≠ .wins) : φ.of (e.drainOne x) = φ.of e := by
  have ha := Facet.avoids_acted.1 hφ.1
  unfold Eng.drainOne
  dsimp only
  split <;> simp only [↓Eng.applyQueued_keeps, ↓Eng.popWrite_keeps, ↓Eng.account_keeps, ↓Eng.answerOp_keeps, ↓Eng.deniedBy_keeps,
    Facet.tidy, hφ, ha]

theorem Eng.emptyQueue_keeps (hφ : φ ≠ .draws ∧ φ ≠ .ports ∧ φ ≠ .wins ∧ φ ≠ .front) : φ.of (e.emptyQueue x) = φ.of e := by
  unfold Eng.emptyQueue
  dsimp only
  simp only [↓Facet.push, ↓Facet.with_front, ↓Eng.refuse_keeps, ↓Eng.answerOp_keeps, Facet.tidy, hφ]

theorem Eng.fwRead_keeps (hφ : φ ≠ .draws ∧ φ ≠ .ports ∧ φ ≠ .wins ∧ φ ≠ .front) : φ.of (e.fwRead x) = φ.of e := by
  unfold Eng.fwRead
  split <;> simp only [↓Facet.with_resp, ↓Facet.with_front, ↓Eng.answerOp_keeps, Facet.tidy, hφ]

theorem Eng.saveDone_keeps (good) (hφ : φ ≠ .flash ∧ φ ≠ .front) : φ.of (e.saveDone x good) = φ.of e := by
  unfold Eng.saveDone
  split <;> simp only [↓Facet.push, ↓Facet.with_front, ↓Facet.with_flash, ↓Eng.setAll_keeps, ↓Eng.detect_keeps, ↓Eng.orb_keeps,
    ↓Eng.set_keeps, Facet.tidy, hφ]

theorem Eng.loadWindow_keeps (util) (hφ : φ ≠ .front) : φ.of (e.loadWindow util) = φ.of e := by
  unfold Eng.loadWindow
  dsimp only
  simp only [↓Facet.push, ↓Facet.with_front, ↓Eng.setAll_keeps, ↓Eng.orb_keeps, Facet.tidy, hφ]

theorem execLanithRequest_keeps (hφ : φ ≠ .draws ∧ φ ≠ .ports ∧ φ ≠ .keyWait ∧ φ ≠ .wins ∧ φ ≠ .inbox ∧ φ ≠ .front)
    (h : execLanithRequest s = .next t) :
    φ.of t.eng = φ.of s.eng := by
  refine lift_keeps h ?_
  split
  · rfl
  · simp only [↓Eng.request_keeps, ↓Facet.with_inbox, Facet.tidy, hφ]

theorem execRead_keeps (area im offset length roles) (hφ : φ ≠ .front) (h : execRead area im offset length roles s = .next t) :
    φ.of t.eng = φ.of s.eng :=
  lift_keeps h (by simp only [↓Eng.opRead_keeps, Facet.tidy, hφ])

theorem execWrite_keeps (area im offset bytes roles) (hφ : φ ≠ .front) (h : execWrite area im offset bytes roles s = .next t) :
    φ.of t.eng = φ.of s.eng :=
  lift_keeps h (by simp only [↓Eng.opWrite_keeps, Facet.tidy, hφ])

theorem execTimedWrite_keeps (area im bytes roles) (hφ : φ ≠ .front) (h : execTimedWrite area im bytes roles s = .next t) :
    φ.of t.eng = φ.of s.eng :=
  lift_keeps h (by simp only [↓Eng.opTimed_keeps, Facet.tidy, hφ])

theorem execPartStagingTimeout_keeps (area im) (hφ : φ ≠ .front) (h : execPartStagingTimeout area im s = .next t) :
    φ.of t.eng = φ.of s.eng := by
  refine lift_keeps h ?_
  dsimp only
  split <;> simp only [↓whenDue_keeps, ↓Eng.stageDrop_keeps, Facet.tidy, hφ]

theorem execResponseHoldExpiry_keeps (cred) (hφ : φ ≠ .front) (h : execResponseHoldExpiry cred s = .next t) : φ.of t.eng = φ.of s.eng :=
  lift_keeps h (by simp only [↓Facet.with_front, Facet.tidy, hφ])

theorem execFwReadDone_keeps (hφ : φ ≠ .draws ∧ φ ≠ .ports ∧ φ ≠ .wins ∧ φ ≠ .front) (h : execFwReadDone s = .next t) :
    φ.of t.eng = φ.of s.eng :=
  lift_keeps h (by simp only [↓whenDue_keeps, ↓Eng.fwRead_keeps, Facet.tidy, hφ])

theorem execStoreSaveDone_keeps (good) (hφ : φ ≠ .flash ∧ φ ≠ .front) (h : execStoreSaveDone good s = .next t) : φ.of t.eng = φ.of s.eng :=
  lift_keeps h (by simp only [↓Eng.saveDone_keeps, Facet.tidy, hφ])

theorem execLoadWindow_keeps (util) (hφ : φ ≠ .front) (h : execLoadWindow util s = .next t) : φ.of t.eng = φ.of s.eng :=
  lift_keeps h (by simp only [↓whenDue_keeps, ↓Eng.loadWindow_keeps, Facet.tidy, hφ])

/-! ## The management segment -/

theorem Eng.segStart_keeps : φ.of (e.segStart x) = φ.of e := by
  have hn (f : Bytes) (e' : Eng) (h : e.segNext x = some (f, e')) : φ.of e' = φ.of e := by
    unfold Eng.segNext at h
    split at h <;> cases h <;> exact Facet.with_seg ..
  unfold Eng.segStart
  split
  · split
    · next h => exact (Facet.with_seg ..).trans (hn _ _ h)
    · rfl
  · rfl

theorem Eng.segDrop_keeps : φ.of e.segDrop = φ.of e := by
  unfold Eng.segDrop
  dsimp only
  simp only [↓Facet.with_seg]

theorem Eng.segTick_keeps : φ.of (e.segTick x) = φ.of e := by
  unfold Eng.segTick
  dsimp only
  split <;> simp only [↓Facet.push, ↓Facet.with_seg, ↓Eng.segDrop_keeps, ↓Eng.condOff_keeps, ↓Eng.count_keeps, ↓Eng.emit_keeps,
    ↓Eng.segStart_keeps, Facet.tidy]

theorem Eng.segCollision_keeps (hφ : φ ≠ .draws) : φ.of (e.segCollision x) = φ.of e := by
  unfold Eng.segCollision
  dsimp only
  split <;> simp only [↓Facet.push, ↓Facet.with_seg, ↓Eng.count_keeps, ↓Eng.segDrop_keeps, ↓Eng.condOn_keeps, ↓Eng.drawn_keeps, Facet.tidy,
    hφ]

theorem Eng.segAgain_keeps : φ.of (e.segAgain x) = φ.of e := by
  unfold Eng.segAgain
  dsimp only
  split <;> simp only [↓Facet.with_seg]

theorem Eng.segRx_keeps (f) (hφ : φ ≠ .inbox) : φ.of (e.segRx x f) = φ.of e := by
  unfold Eng.segRx
  dsimp only
  simp only [↓Facet.push, ↓Eng.count_keeps, ↓Eng.arrive_keeps, Facet.tidy, hφ]

theorem Eng.pubRx_keeps (a) (hφ : φ ≠ .sibs) : φ.of (e.pubRx x a) = φ.of e := by
  unfold Eng.pubRx
  dsimp only
  repeat' split
  all_goals simp only [↓Facet.with_sibs_seg, ↓Eng.count_keeps, Facet.tidy, hφ]

theorem execSegmentFrameRx_keeps (frame) (hφ : φ ≠ .inbox) (h : execSegmentFrameRx frame s = .next t) : φ.of t.eng = φ.of s.eng :=
  lift_keeps h (by simp only [↓whenDue_keeps, ↓Eng.segRx_keeps, Facet.tidy, hφ])

theorem execPublishRx_keeps (hφ : φ ≠ .sibs ∧ φ ≠ .inbox) (h : execPublishRx s = .next t) : φ.of t.eng = φ.of s.eng := by
  refine lift_keeps h ?_
  split
  · rfl
  · simp only [↓Eng.pubRx_keeps, ↓Facet.with_inbox, Facet.tidy, hφ]

theorem execPublishSend_keeps (h : execPublishSend s = .next t) : φ.of t.eng = φ.of s.eng :=
  lift_keeps h (by simp only [↓Facet.with_seg, ↓whenDue_keeps, ↓Eng.publish_keeps])

theorem execCollision_keeps (hφ : φ ≠ .draws) (h : execCollision s = .next t) : φ.of t.eng = φ.of s.eng :=
  lift_keeps h (by simp only [↓whenDue_keeps, ↓Eng.segCollision_keeps, Facet.tidy, hφ])

theorem execBackoffEnd_keeps (h : execBackoffEnd s = .next t) : φ.of t.eng = φ.of s.eng := by
  refine lift_keeps h ?_
  split
  · exact whenDue_keeps _ _ _ (by simp only [↓Eng.segAgain_keeps])
  · rfl

theorem execPlcaTxOpportunity_keeps (h : execPlcaTxOpportunity s = .next t) : φ.of t.eng = φ.of s.eng :=
  lift_keeps h (by simp only [↓Facet.push, ↓whenDue_keeps, ↓Eng.segAgain_keeps, ↓Eng.segStart_keeps, Facet.tidy])

theorem execSegmentLinkLoss_keeps (h : execSegmentLinkLoss s = .next t) : φ.of t.eng = φ.of s.eng :=
  lift_keeps h (by simp only [↓Facet.with_seg, ↓Eng.condOn_keeps, ↓Eng.segDrop_keeps])

theorem execSegmentLinkUp_keeps (h : execSegmentLinkUp s = .next t) : φ.of t.eng = φ.of s.eng :=
  lift_keeps h (by simp only [↓Facet.with_seg, ↓Eng.condOff_keeps])

/-! ## Eclipse -/

theorem Eng.railPair_keeps : φ.of (e.railPair x) = φ.of e := by
  unfold Eng.railPair
  simp only [↓Eng.railChange_keeps]

theorem Eng.regParity_keeps (b) : φ.of (e.regParity x b) = φ.of e := by
  unfold Eng.regParity
  simp only [↓Eng.endLinger_keeps, ↓Eng.railChange_keeps]

theorem Eng.eclipseRecord_keeps (r lingerEnd) : φ.of (e.eclipseRecord r lingerEnd) = φ.of e := by
  unfold Eng.eclipseRecord
  simp only [↓Eng.setAll_keeps]

theorem Eng.upsStop_keeps (hφ : φ ≠ .sel) : φ.of (e.upsStop x) = φ.of e := by
  unfold Eng.upsStop
  simp only [↓Facet.push, ↓Eng.upTo_keeps, Facet.tidy, hφ]

theorem Eng.outsDark_keeps (hφ : φ ≠ .pins ∧ φ ≠ .outs) : φ.of (e.outsDark x) = φ.of e := by
  unfold Eng.outsDark
  dsimp only
  simp only [↓Facet.push, ↓Facet.with_pins, ↓Eng.emit_keeps, ↓Eng.outEclipse_keeps, Facet.tidy, hφ]

theorem Eng.enterEclipse_keeps (r) (hφ : φ ≠ .draws ∧ φ ≠ .pins ∧ φ ≠ .ports ∧ φ ≠ .cals ∧ φ ≠ .nts ∧ φ ≠ .sel ∧ φ ≠ .outs ∧ φ ≠ .txRings ∧
    φ ≠ .tails ∧ φ ≠ .wins ∧ φ ≠ .front ∧ φ ≠ .dump) :
    φ.of (e.enterEclipse x r) = φ.of e := by
  unfold Eng.enterEclipse
  simp only [↓Facet.push, ↓Facet.with_dump, ↓Facet.with_flt_nts, ↓Eng.eclipseRecord_keeps, ↓Eng.discardAll_keeps, ↓Eng.upsStop_keeps,
    ↓Eng.outsDark_keeps, ↓Eng.notify_keeps, ↓Eng.emptyQueue_keeps, Facet.tidy, hφ]

theorem Eng.eclipseEntry_keeps (hφ : φ ≠ .draws ∧ φ ≠ .pins ∧ φ ≠ .ports ∧ φ ≠ .cals ∧ φ ≠ .nts ∧ φ ≠ .sel ∧ φ ≠ .outs ∧ φ ≠ .txRings ∧
    φ ≠ .tails ∧ φ ≠ .wins ∧ φ ≠ .front ∧ φ ≠ .dump) :
    φ.of (e.eclipseEntry x) = φ.of e := by
  unfold Eng.eclipseEntry
  split <;> simp only [↓Facet.push, ↓Eng.enterEclipse_keeps, Facet.tidy, hφ]

theorem execEclipseRailChange_keeps (h : execEclipseRailChange s = .next t) : φ.of t.eng = φ.of s.eng :=
  lift_keeps h (by simp only [↓Eng.railPair_keeps])

theorem execEclipseEntry_keeps (hφ : φ ≠ .draws ∧ φ ≠ .pins ∧ φ ≠ .ports ∧ φ ≠ .cals ∧ φ ≠ .nts ∧ φ ≠ .sel ∧ φ ≠ .outs ∧ φ ≠ .txRings ∧
    φ ≠ .tails ∧ φ ≠ .wins ∧ φ ≠ .front ∧ φ ≠ .dump) (h : execEclipseEntry s = .next t) :
    φ.of t.eng = φ.of s.eng :=
  lift_keeps h (by simp only [↓Eng.eclipseEntry_keeps, Facet.tidy, hφ])

theorem execLingerEnd_keeps (h : execLingerEnd s = .next t) : φ.of t.eng = φ.of s.eng :=
  lift_keeps h (by simp only [↓Facet.with_flt, ↓whenDue_keeps])

/-! ## The fatal dump -/

theorem Eng.dumpCapture_keeps (log cores unreadable) (hφ : φ ≠ .flash ∧ φ ≠ .dump) :
    φ.of (e.dumpCapture x log cores unreadable) = φ.of e := by
  unfold Eng.dumpCapture
  dsimp only
  simp only [↓Facet.with_dump, ↓Eng.setDump_keeps, Facet.tidy, hφ]

theorem Eng.dumpComplete_keeps (hφ : φ ≠ .flash ∧ φ ≠ .dump) : φ.of e.dumpComplete = φ.of e := by
  unfold Eng.dumpComplete
  dsimp only
  split <;> simp only [↓Facet.with_dump, ↓Eng.setDump_keeps, Facet.tidy, hφ]

theorem Eng.dumpCut_keeps (hφ : φ ≠ .draws ∧ φ ≠ .flash ∧ φ ≠ .dump) : φ.of e.dumpCut = φ.of e := by
  unfold Eng.dumpCut
  dsimp only
  split <;> simp only [↓Facet.with_dump, ↓Eng.setDump_keeps, ↓Eng.drawn_keeps, Facet.tidy, hφ]

theorem execDumpCapture_keeps (log cores unreadable) (hφ : φ ≠ .flash ∧ φ ≠ .dump) (h : execDumpCapture log cores unreadable s = .next t) :
    φ.of t.eng = φ.of s.eng :=
  lift_keeps h (by simp only [↓whenDue_keeps, ↓Eng.dumpCapture_keeps, Facet.tidy, hφ])

theorem execDumpComplete_keeps (hφ : φ ≠ .flash ∧ φ ≠ .dump) (h : execDumpComplete s = .next t) : φ.of t.eng = φ.of s.eng :=
  lift_keeps h (by simp only [↓whenDue_keeps, ↓Eng.dumpComplete_keeps, Facet.tidy, hφ])

/-! ## The scheduled actions -/

theorem pulseAct_keeps (edge s) (hφ : φ ≠ .outs) : φ.of (pulseAct x edge s e).2 = φ.of e := by
  unfold pulseAct
  dsimp only
  simp only [↓Facet.push, ↓Eng.pulseOn_keeps, Facet.tidy, hφ]

theorem snapshotAct_keeps (i s) : φ.of (snapshotAct x i s e).2 = φ.of e := by
  unfold snapshotAct
  dsimp only
  simp only [↓Facet.push, ↓Eng.snapMask_keeps, ↓Eng.set_keeps, ↓Eng.inc32_keeps, Facet.tidy]

theorem windowAct_keeps (s) : φ.of (windowAct x s e).2 = φ.of e := by
  unfold windowAct
  simp only [↓Facet.push, ↓Eng.closeWindows_keeps]

theorem calWindowAct_keeps (s) (hφ : φ ≠ .lanes) : φ.of (calWindowAct x s e).2 = φ.of e := by
  unfold calWindowAct
  dsimp only
  split <;> simp only [↓Facet.push, ↓calCloseWrite_keeps, ↓calOpenWrite_keeps, Facet.tidy, hφ]

theorem keyRotateAct_keeps (s) (hφ : φ ≠ .keyWait ∧ φ ≠ .ans) : φ.of (keyRotateAct x s e).2 = φ.of e := by
  unfold keyRotateAct
  simp only [↓slotRotate_keeps, Facet.tidy, hφ]

theorem switchAct_keeps (i s) (hφ : φ ≠ .sel) : φ.of (switchAct i s e).2 = φ.of e := by
  unfold switchAct
  dsimp only
  simp only [↓Facet.push, ↓Eng.modSelMoon_keeps, Facet.tidy, hφ]

theorem dictWriteAct_keeps (s) (hφ : φ.avoids EngField.acted) : φ.of (dictWriteAct x s e).2 = φ.of e := by
  unfold dictWriteAct
  dsimp only
  simp only [↓Facet.push, ↓Eng.step8Bytes_keeps, ↓Eng.account_keeps, Facet.tidy, hφ]

theorem eventAct_keeps : φ.of (eventAct x e).2 = φ.of e := by
  unfold eventAct
  simp only [↓Facet.push, ↓Eng.irqLatch_keeps]

theorem schedAct_keeps (i edge s) (hφ : φ.avoids EngField.acted) : φ.of (schedAct x i edge s e).2 = φ.of e := by
  have ha := Facet.avoids_acted.1 hφ
  unfold schedAct
  split <;> simp only [↓Facet.push, ↓pulseAct_keeps, ↓snapshotAct_keeps, ↓windowAct_keeps, ↓calWindowAct_keeps, ↓keyRotateAct_keeps,
    ↓switchAct_keeps, ↓dictWriteAct_keeps, ↓eventAct_keeps, Facet.tidy, hφ, ha]

theorem Eng.fireAction_keeps (i action) (hφ : φ.avoids EngField.acted) : φ.of (e.fireAction x i action) = φ.of e := by
  have ha := Facet.avoids_acted.1 hφ
  exact whenDue_keeps e _ _ (e.fire_keeps x i _ ha.2.2.2.2.2.1 (fun s e => schedAct_keeps e x i true s hφ))

theorem execPulse_keeps (entry) (hφ : φ.avoids EngField.acted) (h : execPulse entry s = .next t) : φ.of t.eng = φ.of s.eng :=
  lift_keeps h (by simp only [↓Eng.fireAction_keeps, hφ])

theorem execSnapshot_keeps (entry) (hφ : φ.avoids EngField.acted) (h : execSnapshot entry s = .next t) : φ.of t.eng = φ.of s.eng :=
  lift_keeps h (by simp only [↓Eng.fireAction_keeps, hφ])

theorem execWindow_keeps (entry) (hφ : φ.avoids EngField.acted) (h : execWindow entry s = .next t) : φ.of t.eng = φ.of s.eng :=
  lift_keeps h (by simp only [↓Eng.fireAction_keeps, hφ])

theorem execCalWindow_keeps (entry) (hφ : φ.avoids EngField.acted) (h : execCalWindow entry s = .next t) : φ.of t.eng = φ.of s.eng :=
  lift_keeps h (by simp only [↓Eng.fireAction_keeps, hφ])

theorem execKeyRotate_keeps (entry) (hφ : φ.avoids EngField.acted) (h : execKeyRotate entry s = .next t) : φ.of t.eng = φ.of s.eng :=
  lift_keeps h (by simp only [↓Eng.fireAction_keeps, hφ])

theorem execSwitch_keeps (entry) (hφ : φ.avoids EngField.acted) (h : execSwitch entry s = .next t) : φ.of t.eng = φ.of s.eng :=
  lift_keeps h (by simp only [↓Eng.fireAction_keeps, hφ])

theorem execEvent_keeps (entry) (hφ : φ.avoids EngField.acted) (h : execEvent entry s = .next t) : φ.of t.eng = φ.of s.eng :=
  lift_keeps h (by simp only [↓Eng.fireAction_keeps, hφ])

/-! ## Resets -/

theorem Eng.watchdog_keeps (hφ : φ ≠ .draws ∧ φ ≠ .boot ∧ φ ≠ .flash ∧ φ ≠ .nts ∧ φ ≠ .dump) : φ.of (e.watchdog x) = φ.of e := by
  unfold Eng.watchdog
  dsimp only
  simp only [↓Facet.with_boot_nts, ↓Eng.dumpCut_keeps, ↓Eng.detect_keeps, Facet.tidy, hφ]

theorem Eng.start_keeps (hφ : φ ≠ .draws ∧ φ ≠ .boot ∧ φ ≠ .ans ∧ φ ≠ .phase) : φ.of (e.start x) = φ.of e := by
  unfold Eng.start
  simp only [↓Facet.with_boot_ans_ctr, ↓Eng.drawn_keeps, ↓Eng.scrubStart_keeps, Facet.tidy, hφ]

theorem Eng.objectWrite_keeps (k bytes roles) (hφ : φ.avoids EngField.acted) : φ.of (e.objectWrite x k bytes roles) = φ.of e := by
  unfold Eng.objectWrite
  dsimp only
  simp only [↓Facet.push, ↓Eng.step8Bytes_keeps, ↓Eng.account_keeps, Facet.tidy, hφ]

theorem execResetRelease_keeps (osc forceB) (hφ : φ ≠ .boot) (hp : φ ≠ .phase) (h : execResetRelease osc forceB s = .next t) :
    φ.of t.eng = φ.of s.eng :=
  liftAlways_keeps h (whenDue_keeps _ _ _ (Facet.with_boot_phase _ _ hφ hp))

theorem execPllLock_keeps (fuseGood) (hφ : φ ≠ .draws ∧ φ ≠ .boot ∧ φ ≠ .ans) (hp : φ ≠ .phase) (h : execPllLock fuseGood s = .next t) :
    φ.of t.eng = φ.of s.eng :=
  liftAlways_keeps h (whenDue_keeps _ _ _ (by simp only [↓Facet.push, ↓Facet.with_boot_phase, ↓Eng.start_keeps, Facet.tidy, hφ, hp]))

theorem execPllLockTimeout_keeps (hφ : φ ≠ .boot) (hp : φ ≠ .phase) (h : execPllLockTimeout s = .next t) : φ.of t.eng = φ.of s.eng :=
  liftAlways_keeps h (whenDue_keeps _ _ _ (Facet.with_boot_phase _ _ hφ hp))

theorem execWatchdogExpiry_keeps (hφ : φ ≠ .draws ∧ φ ≠ .boot ∧ φ ≠ .flash ∧ φ ≠ .nts ∧ φ ≠ .dump) (h : execWatchdogExpiry s = .next t) :
    φ.of t.eng = φ.of s.eng :=
  lift_keeps h (by simp only [↓whenDue_keeps, ↓Eng.watchdog_keeps, Facet.tidy, hφ])

theorem execCoresRestart_keeps (hφ : φ ≠ .boot) (h : execCoresRestart s = .next t) : φ.of t.eng = φ.of s.eng :=
  lift_keeps h (by simp only [↓Facet.with_boot, Facet.tidy, hφ])

/-! ## The boot -/

theorem Eng.recover_keeps (hφ : φ ≠ .boot) : φ.of e.recover = φ.of e := by
  unfold Eng.recover
  dsimp only
  simp only [↓Facet.with_boot, ↓Eng.set_keeps, Facet.tidy, hφ]

theorem Eng.ddrTrained_keeps (good) (hφ : φ ≠ .boot) : φ.of (e.ddrTrained good) = φ.of e := by
  unfold Eng.ddrTrained
  dsimp only
  simp only [↓Facet.push, ↓Facet.with_boot, ↓Eng.recover_keeps, Facet.tidy, hφ]

theorem Eng.boots_keeps (s) (hφ : φ ≠ .boot) : φ.of (e.boots s) = φ.of e := by
  unfold Eng.boots
  dsimp only
  simp only [↓Facet.with_boot, ↓Eng.setAll_keeps, Facet.tidy, hφ]

theorem Eng.trySlots_keeps (n) (hφ : φ ≠ .boot) : φ.of (e.trySlots x n) = φ.of e := by
  induction n generalizing e with
  | nil => exact e.recover_keeps hφ
  | cons s ss ih =>
    unfold Eng.trySlots
    dsimp only
    simp only [↓Facet.push, ↓Eng.boots_keeps, ↓ih, ↓Eng.set_keeps, Facet.tidy, hφ]

theorem Eng.bootImage_keeps (hφ : φ ≠ .boot) : φ.of (e.bootImage x) = φ.of e := by
  unfold Eng.bootImage
  dsimp only
  simp only [↓Facet.push, ↓Eng.trySlots_keeps, Facet.tidy, hφ]

theorem Eng.loadValues_keeps (vs) : φ.of (e.loadValues vs) = φ.of e := by
  unfold Eng.loadValues
  simp only [↓Facet.push, ↓Eng.set_keeps, Facet.tidy]

theorem Eng.credsRestored_keeps (keyA keyB) (hφ : φ ≠ .boot ∧ φ ≠ .flash ∧ φ ≠ .keyWait ∧ φ ≠ .front) :
    φ.of (e.credsRestored x keyA keyB) = φ.of e := by
  unfold Eng.credsRestored
  dsimp only
  simp only [↓Facet.push, ↓Facet.with_front, ↓Facet.with_boot_flash, ↓Eng.keyTouched_keeps, ↓Eng.loadValues_keeps, ↓Eng.detect_keeps,
    Facet.tidy, hφ]

theorem Eng.calRestored_keeps (calA calB) (hφ : φ ≠ .flash ∧ φ ≠ .calWait) : φ.of (e.calRestored x calA calB) = φ.of e := by
  unfold Eng.calRestored
  dsimp only
  simp only [↓Facet.push, ↓Facet.with_calWait, ↓Facet.with_flash, ↓Eng.loadValues_keeps, ↓Eng.detect_keeps, ↓Eng.set_keeps, ↓Eng.orb_keeps,
    Facet.tidy, hφ]

theorem Eng.keysRestored_keeps (hφ : φ ≠ .pk) : φ.of e.keysRestored = φ.of e := by
  unfold Eng.keysRestored
  dsimp only
  split <;> simp only [↓Facet.with_pk, ↓Eng.loadValues_keeps, ↓Eng.set_keeps, Facet.tidy, hφ]

theorem Eng.storesRestored_keeps (calA calB) (hφ : φ ≠ .boot ∧ φ ≠ .flash ∧ φ ≠ .calWait ∧ φ ≠ .gnss ∧ φ ≠ .model ∧ φ ≠ .pk) :
    φ.of (e.storesRestored x calA calB) = φ.of e := by
  unfold Eng.storesRestored
  dsimp only
  simp only [↓Facet.push, ↓Facet.with_boot_gnss_model, ↓Eng.keysRestored_keeps, ↓Eng.calRestored_keeps, Facet.tidy, hφ]

theorem Eng.without_keeps (od k) : φ.of (e.without od k) = φ.of e := by
  unfold Eng.without
  dsimp only
  simp only [↓Facet.with_od]

theorem restoreOne_keeps (od p) (hφ : φ.avoids EngField.acted) : φ.of (restoreOne x od e p) = φ.of e := by
  unfold restoreOne
  dsimp only
  split <;> simp only [↓Facet.push, ↓Facet.with_od, ↓applyWrite_keeps, ↓Eng.without_keeps, Facet.tidy, hφ]

theorem Eng.forceStore_keeps (od) : φ.of (e.forceStore od) = φ.of e := by
  unfold Eng.forceStore
  dsimp only
  simp only [↓Facet.with_od]

theorem Eng.restoreValues_keeps (vs) (hφ : φ.avoids EngField.acted) : φ.of (e.restoreValues x vs) = φ.of e := by
  have ha := Facet.avoids_acted.1 hφ
  unfold Eng.restoreValues
  dsimp only
  simp only [↓Facet.push, ↓Facet.with_ans_outs, ↓Facet.with_od, ↓restoreOne_keeps, ↓Eng.forceStore_keeps, ↓Eng.recomputeTracker_keeps,
    ↓Eng.rebind_keeps, ↓Eng.orb_keeps, ↓Eng.set_keeps, Facet.tidy, hφ, ha]

theorem Eng.restoreTick_keeps (hφ : φ.avoids EngField.acted ∧ φ ≠ .pins) : φ.of (e.restoreTick x) = φ.of e := by
  have ha := Facet.avoids_acted.1 hφ.1
  unfold Eng.restoreTick
  dsimp only
  simp only [↓Facet.push, ↓Facet.with_pins_boot_front, ↓Eng.restoreValues_keeps, ↓Eng.setAll_keeps, Facet.tidy, hφ, ha]

theorem execDdrTrained_keeps (good) (hφ : φ ≠ .boot) (h : execDdrTrained good s = .next t) : φ.of t.eng = φ.of s.eng :=
  lift_keeps h (by simp only [↓Eng.ddrTrained_keeps, Facet.tidy, hφ])

theorem execCredentialsRestored_keeps (keyA keyB) (hφ : φ ≠ .boot ∧ φ ≠ .flash ∧ φ ≠ .keyWait ∧ φ ≠ .front)
    (h : execCredentialsRestored keyA keyB s = .next t) :
    φ.of t.eng = φ.of s.eng :=
  lift_keeps h (by simp only [↓Eng.credsRestored_keeps, Facet.tidy, hφ])

theorem execImageVerified_keeps (hφ : φ ≠ .boot) (h : execImageVerified s = .next t) : φ.of t.eng = φ.of s.eng :=
  lift_keeps h (by simp only [↓Eng.bootImage_keeps, Facet.tidy, hφ])

theorem execStoresRestored_keeps (calA calB) (hφ : φ ≠ .boot ∧ φ ≠ .flash ∧ φ ≠ .calWait ∧ φ ≠ .gnss ∧ φ ≠ .model ∧ φ ≠ .pk)
    (h : execStoresRestored calA calB s = .next t) :
    φ.of t.eng = φ.of s.eng :=
  lift_keeps h (by simp only [↓Eng.storesRestored_keeps, Facet.tidy, hφ])

theorem execRestoreTick_keeps (hφ : φ.avoids EngField.acted ∧ φ ≠ .pins) (h : execRestoreTick s = .next t) : φ.of t.eng = φ.of s.eng :=
  lift_keeps h (Eng.restoreTick_keeps _ _ hφ)

/-! ## Errors of the memories -/

theorem Eng.eccRows_keeps (b : Nat) (ok : Nat) (bad : Nat) (inst : Nat) (uncorr : Bool) (act : Eng → Eng) (hact : φ.of (act e) = φ.of e) :
    φ.of (e.eccRows x b ok bad inst uncorr act) = φ.of e := by
  unfold Eng.eccRows
  simp only [↓Facet.push, ↓Eng.detect_keeps, hact, Facet.tidy]

theorem Eng.eccEntry_keeps (i) (hφ : φ ≠ .sched) : φ.of (e.eccEntry i) = φ.of e := by
  unfold Eng.eccEntry
  dsimp only
  simp only [↓Eng.orb_keeps, ↓Eng.setEntry_keeps, Facet.tidy, hφ]

theorem Eng.eccHistory_keeps (s) (hφ : φ ≠ .sel) : φ.of (e.eccHistory x s) = φ.of e := by
  unfold Eng.eccHistory
  dsimp only
  simp only [↓Facet.push, ↓Eng.modSlot_keeps, ↓Eng.set_keeps, Facet.tidy, hφ]

theorem Eng.eccSelMoon_keeps (k) (hφ : φ ≠ .sel) : φ.of (e.eccSelMoon k) = φ.of e := by
  unfold Eng.eccSelMoon
  dsimp only
  simp only [↓Facet.with_sel, ↓Eng.modSelMoon_keeps, Facet.tidy, hφ]

theorem Eng.eccTxFrame_keeps (r first) (hφ : φ ≠ .cals ∧ φ ≠ .txRings) : φ.of (e.eccTxFrame x r first) = φ.of e := by
  unfold Eng.eccTxFrame
  dsimp only
  simp only [↓Eng.stopTx_keeps, ↓Eng.txFinish_keeps, ↓Eng.modTx_keeps, Facet.tidy, hφ]
  exact Facet.of_foldl e _ (fun e p => Facet.of_foldl e _ (fun e q => by simp only [↓Eng.withdraw_keeps, Facet.tidy, hφ]) _) _

theorem Eng.packetLost_keeps (o) (hφ : φ ≠ .ans ∧ φ ≠ .cals ∧ φ ≠ .txRings ∧ φ ≠ .tails) : φ.of (e.packetLost x o) = φ.of e := by
  unfold Eng.packetLost
  repeat' split
  all_goals simp only [↓Eng.ansDropped_keeps, ↓Eng.slotCount_keeps, ↓Eng.modPipe_keeps, ↓Eng.resvDiscard_keeps, ↓Eng.modCal_keeps,
    Facet.tidy, hφ]

theorem Eng.eccWrite_keeps (i) (hφ : φ ≠ .draws ∧ φ ≠ .ports ∧ φ ≠ .wins ∧ φ ≠ .front) : φ.of (e.eccWrite x i) = φ.of e := by
  unfold Eng.eccWrite
  dsimp only
  split <;> simp only [↓Facet.with_front, ↓Eng.refuse_keeps, ↓Eng.answerOp_keeps, Facet.tidy, hφ]

theorem Eng.eccService_keeps (cell uncorr) (hφ : φ ≠ .cls ∧ φ ≠ .ans) : φ.of (e.eccService x cell uncorr) = φ.of e := by
  unfold Eng.eccService
  dsimp only
  split <;> simp only [↓Facet.push, ↓Facet.with_ans, ↓Facet.with_cls, ↓Eng.eccRows_keeps, ↓Eng.orb_keeps, ↓Eng.detect_keeps, Facet.tidy, hφ]

theorem Eng.eccTime_keeps (cell uncorr) (hφ : φ ≠ .sched ∧ φ ≠ .keyWait ∧ φ ≠ .ans ∧ φ ≠ .cals ∧ φ ≠ .nts ∧ φ ≠ .ptp ∧ φ ≠ .txRings ∧
    φ ≠ .tails) :
    φ.of (e.eccTime x cell uncorr) = φ.of e := by
  have hres (p : Nat) (q : Resv) (i : Nat) (e : Eng) :
      φ.of ((e.modCal p (fun c => { c with resv := c.resv.eraseIdx i })).resvDiscard x p 10 q) = φ.of e := by
    simp only [↓Eng.resvDiscard_keeps, ↓Eng.modCal_keeps, Facet.tidy, hφ]
  have hgrant (c : Nat) (e : Eng) :
      φ.of (match e.ptp.clients[c]? with
        | some d => { e with ptp := { e.ptp with clients := e.ptp.clients.eraseIdx c } }.ptpShow x d.inst
        | none => e) = φ.of e := by
    split <;> simp only [↓Eng.ptpShow_keeps, ↓Facet.with_ptp, Facet.tidy, hφ]
  unfold Eng.eccTime
  cases cell with
  | schedEntry i => exact e.eccRows_keeps _ _ _ _ _ _ _ (Eng.eccEntry_keeps _ _ (by simp only [hφ, Facet.tidy]))
  | reservation p i =>
    dsimp only
    split
    · rfl
    · exact e.eccRows_keeps _ _ _ _ _ _ _ (hres ..)
  | slotKey s => exact e.eccRows_keeps _ _ _ _ _ _ _ (Eng.slotClear_keeps _ _ _ _ (by simp only [hφ, Facet.tidy]))
  | seed => exact e.eccRows_keeps _ _ _ _ _ _ _ (by simp only [↓Eng.keyTouched_keeps, ↓Eng.setAll_keeps, Facet.tidy, hφ])
  | grant c => exact (Eng.eccRows_keeps _ _ _ _ _ _ _ _ (hgrant ..)).trans (e.orb_keeps ..)
  | _ => rfl

theorem Eng.eccStation_keeps (cell uncorr) (hφ : φ ≠ .gnss ∧ φ ≠ .sel ∧ φ ≠ .pk) : φ.of (e.eccStation x cell uncorr) = φ.of e := by
  unfold Eng.eccStation
  dsimp only
  split <;> simp only [↓Facet.push, ↓Facet.with_pk, ↓Facet.with_gnss, ↓Eng.detect_keeps, ↓Eng.eccRows_keeps, ↓Eng.orb_keeps,
    ↓Eng.eccHistory_keeps, ↓Eng.eccSelMoon_keeps, Facet.tidy, hφ]

theorem Eng.eccHost_keeps (cell uncorr) (hφ : φ ≠ .draws ∧ φ ≠ .ports ∧ φ ≠ .ans ∧ φ ≠ .cals ∧ φ ≠ .rxRings ∧ φ ≠ .txRings ∧ φ ≠ .tails ∧
    φ ≠ .wins ∧ φ ≠ .front) :
    φ.of (e.eccHost x cell uncorr) = φ.of e := by
  unfold Eng.eccHost
  repeat' split
  all_goals simp only [↓Facet.with_tails, ↓Eng.eccRows_keeps, ↓Eng.orb_keeps, ↓Eng.stopTx_keeps, ↓Eng.stopRx_keeps, ↓Eng.eccTxFrame_keeps,
    ↓Eng.rxNoBuffer_keeps, ↓Eng.modPort_keeps, ↓Eng.eccWrite_keeps, ↓Eng.packetLost_keeps, Facet.tidy, hφ]

theorem Eng.eccFound_keeps (cell uncorr) (hφ : φ ≠ .draws ∧ φ ≠ .sched ∧ φ ≠ .ports ∧ φ ≠ .cls ∧ φ ≠ .keyWait ∧ φ ≠ .ans ∧ φ ≠ .cals ∧
    φ ≠ .nts ∧ φ ≠ .ptp ∧ φ ≠ .gnss ∧ φ ≠ .sel ∧ φ ≠ .pk ∧ φ ≠ .rxRings ∧ φ ≠ .txRings ∧ φ ≠ .tails ∧ φ ≠ .wins ∧ φ ≠ .front) :
    φ.of (e.eccFound x cell uncorr) = φ.of e := by
  unfold Eng.eccFound
  split <;> simp only [↓Eng.eccService_keeps, ↓Eng.eccTime_keeps, ↓Eng.eccStation_keeps, ↓Eng.eccHost_keeps, Facet.tidy, hφ]

theorem Eng.scrubRead_keeps (m last found) (hφ : φ ≠ .draws ∧ φ ≠ .sched ∧ φ ≠ .ports ∧ φ ≠ .cls ∧ φ ≠ .keyWait ∧ φ ≠ .ans ∧ φ ≠ .cals ∧
    φ ≠ .nts ∧ φ ≠ .ptp ∧ φ ≠ .gnss ∧ φ ≠ .sel ∧ φ ≠ .pk ∧ φ ≠ .rxRings ∧ φ ≠ .txRings ∧ φ ≠ .tails ∧ φ ≠ .wins ∧ φ ≠ .front) :
    φ.of (e.scrubRead x m last found) = φ.of e := by
  unfold Eng.scrubRead
  dsimp only
  split <;> simp only [↓Facet.push, ↓Facet.with_flt, ↓Eng.set_keeps, ↓Eng.eccFound_keeps, Facet.tidy, hφ]

theorem Eng.scrubOverrun_keeps (m) : φ.of (e.scrubOverrun x m) = φ.of e := by
  unfold Eng.scrubOverrun
  dsimp only
  simp only [↓Facet.with_flt, ↓Eng.detect_keeps, ↓Eng.orb_keeps]

theorem execScrubRead_keeps (memory last found) (hφ : φ ≠ .draws ∧ φ ≠ .sched ∧ φ ≠ .ports ∧ φ ≠ .cls ∧ φ ≠ .keyWait ∧ φ ≠ .ans ∧
    φ ≠ .cals ∧ φ ≠ .nts ∧ φ ≠ .ptp ∧ φ ≠ .gnss ∧ φ ≠ .sel ∧ φ ≠ .pk ∧ φ ≠ .rxRings ∧ φ ≠ .txRings ∧ φ ≠ .tails ∧ φ ≠ .wins ∧ φ ≠ .front)
    (h : execScrubRead memory last found s = .next t) :
    φ.of t.eng = φ.of s.eng :=
  lift_keeps h (by simp only [↓whenDue_keeps, ↓Eng.scrubRead_keeps, Facet.tidy, hφ])

theorem execScrubOverrun_keeps (memory) (h : execScrubOverrun memory s = .next t) : φ.of t.eng = φ.of s.eng :=
  lift_keeps h (by simp only [↓whenDue_keeps, ↓Eng.scrubOverrun_keeps])

/-! ## The monitors -/

theorem Eng.clockMonitor_keeps (coreDev ringDev) (hφ : φ ≠ .mon) : φ.of (e.clockMonitor x coreDev ringDev) = φ.of e := by
  unfold Eng.clockMonitor
  dsimp only
  simp only [↓Facet.push, ↓Facet.with_mon, ↓Eng.detect_keeps, Facet.tidy, hφ]

theorem Eng.ddrUnlock_keeps (hφ : φ ≠ .boot) : φ.of (e.ddrUnlock x) = φ.of e := by
  unfold Eng.ddrUnlock
  dsimp only
  simp only [↓Facet.with_boot, ↓Eng.condOn_keeps, Facet.tidy, hφ]

theorem Eng.ddrLock_keeps (hφ : φ ≠ .boot) : φ.of (e.ddrLock x) = φ.of e := by
  unfold Eng.ddrLock
  dsimp only
  simp only [↓Facet.with_boot, ↓Eng.condOff_keeps, Facet.tidy, hφ]

theorem Eng.serdesUnlock_keeps (g) (hφ : φ ≠ .lanes ∧ φ ≠ .cals ∧ φ ≠ .txRings ∧ φ ≠ .tails) : φ.of (e.serdesUnlock x g) = φ.of e := by
  unfold Eng.serdesUnlock
  simp only [↓Eng.groupDown_keeps, ↓Eng.condOn_keeps, Facet.tidy, hφ]

theorem Eng.condIs_keeps (row present) : φ.of (e.condIs x row present) = φ.of e := by
  unfold Eng.condIs
  simp only [↓Facet.push, ↓Eng.condOn_keeps, ↓Eng.condOff_keeps, Facet.tidy]

theorem Eng.thermSample_keeps (i t) : φ.of (e.thermSample i t) = φ.of e := by
  unfold Eng.thermSample
  dsimp only
  simp only [↓Facet.push, ↓Eng.set_keeps, ↓Eng.orb_keeps, Facet.tidy]

theorem Eng.monitorSample_keeps (rails temps) (hφ : φ ≠ .mon) : φ.of (e.monitorSample x rails temps) = φ.of e := by
  unfold Eng.monitorSample
  dsimp only
  simp only [↓Facet.push, ↓Facet.with_mon, ↓Eng.thermSample_keeps, ↓Eng.orb_keeps, ↓Eng.condIs_keeps, Facet.tidy, hφ]

theorem Eng.avsSend_keeps (mv acknowledged) (hφ : φ ≠ .mon) : φ.of (e.avsSend mv acknowledged) = φ.of e := by
  unfold Eng.avsSend
  dsimp only
  simp only [↓Facet.push, ↓Facet.with_mon, ↓Eng.emit_keeps, ↓Eng.set_keeps, ↓Eng.orb_keeps, ↓Eng.inc32_keeps, Facet.tidy, hφ]

theorem Eng.avsLoop_keeps (margins acknowledged) (hφ : φ ≠ .mon) : φ.of (e.avsLoop x margins acknowledged) = φ.of e := by
  unfold Eng.avsLoop
  dsimp only
  split <;> simp only [↓Facet.push, ↓Eng.set_keeps, ↓Eng.detect_keeps, ↓Eng.orb_keeps, ↓Eng.avsSend_keeps, Facet.tidy, hφ]

theorem execTimeClockMonitor_keeps (coreDev ringDev) (hφ : φ ≠ .mon) (h : execTimeClockMonitor coreDev ringDev s = .next t) :
    φ.of t.eng = φ.of s.eng :=
  lift_keeps h (by simp only [↓Eng.clockMonitor_keeps, Facet.tidy, hφ])

theorem execTimeClockPllUnlock_keeps (h : execTimeClockPllUnlock s = .next t) : φ.of t.eng = φ.of s.eng :=
  lift_keeps h (by simp only [↓Eng.condOn_keeps])

theorem execCorePllUnlock_keeps (h : execCorePllUnlock s = .next t) : φ.of t.eng = φ.of s.eng :=
  lift_keeps h (by simp only [↓Eng.condOn_keeps])

theorem execDdrPllUnlock_keeps (hφ : φ ≠ .boot) (h : execDdrPllUnlock s = .next t) : φ.of t.eng = φ.of s.eng :=
  lift_keeps h (by simp only [↓Eng.ddrUnlock_keeps, Facet.tidy, hφ])

theorem execDdrPllLock_keeps (hφ : φ ≠ .boot) (h : execDdrPllLock s = .next t) : φ.of t.eng = φ.of s.eng :=
  lift_keeps h (by simp only [↓Eng.ddrLock_keeps, Facet.tidy, hφ])

theorem execSerdesPllUnlock_keeps (group) (hφ : φ ≠ .lanes ∧ φ ≠ .cals ∧ φ ≠ .txRings ∧ φ ≠ .tails)
    (h : execSerdesPllUnlock group s = .next t) :
    φ.of t.eng = φ.of s.eng :=
  lift_keeps h (by simp only [↓Eng.serdesUnlock_keeps, Facet.tidy, hφ])

theorem execSerdesPllLock_keeps (group) (h : execSerdesPllLock group s = .next t) : φ.of t.eng = φ.of s.eng :=
  lift_keeps h (by simp only [↓Eng.condOff_keeps])

theorem execMonitorSample_keeps (rails temps) (hφ : φ ≠ .mon) (h : execMonitorSample rails temps s = .next t) : φ.of t.eng = φ.of s.eng :=
  lift_keeps h (by simp only [↓Eng.monitorSample_keeps, Facet.tidy, hφ])

theorem execThermTrip_keeps (hφ : φ ≠ .pins) (h : execThermTrip s = .next t) : φ.of t.eng = φ.of s.eng :=
  liftAlways_keeps h (by simp only [↓Facet.with_pins, Facet.tidy, hφ])

theorem execThermTripRelease_keeps (hφ : φ ≠ .pins) (h : execThermTripRelease s = .next t) : φ.of t.eng = φ.of s.eng :=
  liftAlways_keeps h (by simp only [↓Facet.with_pins, Facet.tidy, hφ])

theorem execAvsLoop_keeps (margins acknowledged) (hφ : φ ≠ .mon) (h : execAvsLoop margins acknowledged s = .next t) :
    φ.of t.eng = φ.of s.eng :=
  lift_keeps h (by simp only [↓Eng.avsLoop_keeps, Facet.tidy, hφ])

/-! ## The tick, the closing tick and the boundary -/

theorem Eng.closeOwn_keeps (b k) (hφ : φ ≠ .tl ∧ φ ≠ .records) : φ.of (e.closeOwn x b k).2 = φ.of e := by
  unfold Eng.closeOwn
  dsimp only
  simp only [↓Eng.decideOwn_keeps, ↓Eng.sealMoon_keeps, Facet.tidy, hφ]

theorem Eng.closeFollower_keeps (b k z) (hφ : φ ≠ .tl ∧ φ ≠ .records) : φ.of (e.closeFollower x b k z) = φ.of e := by
  unfold Eng.closeFollower
  dsimp only
  simp only [↓Facet.push, ↓Eng.decideFollower_keeps, ↓Eng.sealMoon_keeps, Facet.tidy, hφ]

theorem Eng.closeMoons_keeps (b) (hφ : φ ≠ .tl ∧ φ ≠ .records) : φ.of (e.closeMoons x b) = φ.of e := by
  unfold Eng.closeMoons
  dsimp only
  simp only [↓Facet.push, ↓Eng.closeOwn_keeps, ↓Eng.closeFollower_keeps, Facet.tidy, hφ]

theorem Eng.close_keeps (b inp) (hφ : φ ≠ .tl ∧ φ ≠ .sealedFor ∧ φ ≠ .sched ∧ φ ≠ .lanes ∧ φ ≠ .cals ∧ φ ≠ .sel ∧ φ ≠ .steer ∧ φ ≠ .model ∧
    φ ≠ .records) :
    φ.of (e.close x b inp) = φ.of e := by
  unfold Eng.close
  dsimp only
  simp only [↓Facet.push, ↓Facet.with_sealedFor, ↓Facet.with_sel, ↓Eng.closeModel_keeps, ↓Eng.asymClose_keeps, ↓Eng.selClose_keeps,
    ↓Eng.loopCopies_keeps, ↓Eng.modelCopies_keeps, ↓Eng.trackUnit_keeps, ↓Eng.stageReturn_keeps, ↓Eng.sealLanes_keeps,
    ↓Eng.sealMargins_keeps, ↓Eng.closeMoons_keeps, Facet.tidy, hφ]

theorem Eng.fireOver_keeps (hi i) (hφ : φ.avoids EngField.acted) : φ.of (e.fireOver x hi i) = φ.of e := by
  have ha := Facet.avoids_acted.1 hφ
  unfold Eng.fireOver
  simp only [↓Facet.push, ↓Eng.fireLeap_keeps, ↓Eng.fireStepped_keeps, ↓schedAct_keeps, Facet.tidy, hφ, ha]

theorem Eng.schedBoundary_keeps (k lo) (hφ : φ.avoids EngField.acted) : φ.of (e.schedBoundary x k lo) = φ.of e := by
  have ha := Facet.avoids_acted.1 hφ
  have hm : ((e.cmpDisarm k).voidUser k).moon k = e.moon k :=
    Eng.moon_of_tl (((e.cmpDisarm k).voidUser_keeps k (by decide)).trans (e.cmpDisarm_keeps k)) k
  unfold Eng.schedBoundary
  dsimp only
  simp only [↓Facet.push, ↓Eng.cmpDisarm_keeps, ↓Eng.voidUser_keeps, ↓Eng.setMoon_keeps_records, ↓Eng.recomputeTracker_keeps,
    ↓Eng.haltEntries_keeps, ↓Eng.fireOver_keeps, ↓Eng.requeue_keeps, ↓Eng.judgeResumed_keeps, ↓Eng.armTracker_keeps, Facet.tidy, hm, hφ, ha]

theorem Eng.swapMoons_keeps (hφ : φ ≠ .tl ∧ φ ≠ .records) : φ.of (e.swapMoons x) = φ.of e := by
  unfold Eng.swapMoons
  simp only [↓Facet.push, ↓Eng.swapMoon_keeps, Facet.tidy, hφ]

/-- The engines once a boundary is marked as taken, and the settings sealed for it hold. -/
def Eng.marked (e : Eng) (x : Ctx) (b : Nat) : Eng :=
  { e.keepPast x b with sel := { (e.keepPast x b).sel with cfg := (e.keepPast x b).sel.cfgNext }, sealedFor := none, lastBoundary := b }

theorem Eng.marked_keeps (b) (hφ : φ ≠ .sealedFor ∧ φ ≠ .lastBoundary ∧ φ ≠ .sel) : φ.of (e.marked x b) = φ.of e := by
  unfold Eng.marked
  simp only [↓Facet.with_sealedFor_lastBoundary_sel, ↓Eng.keepPast_keeps, Facet.tidy, hφ]

/-- What a boundary does after its moons have swapped, apart from marking it as taken. -/
theorem Eng.boundaryRest_keeps (b lo old inp) (hφ : φ.avoids EngField.acted ∧ φ ≠ .pins ∧ φ ≠ .synces) :
    φ.of (e.boundaryRest x b lo old inp) = φ.of (e.marked x b) := by
  have ha := Facet.avoids_acted.1 hφ.1
  unfold Eng.boundaryRest
  dsimp only
  simp only [↓Facet.push, ↓Eng.asymBoundary_keeps, ↓Eng.jumpSteps_keeps, ↓Eng.takeSelections_keeps, ↓Eng.tsRiseAll_keeps,
    ↓Eng.wireBoundary_keeps, ↓Eng.schedBoundary_keeps, ↓Eng.steerUnits_keeps, ↓Eng.gnssBoundary_keeps, ↓Eng.refBoundary_keeps,
    ↓Eng.calBoundaries_keeps, ↓Eng.pipesShown_keeps, ↓Eng.latchRefs_keeps, ↓Eng.selBoundary_keeps, ↓Eng.outBoundary_keeps,
    ↓Eng.clampShown_keeps, ↓Eng.count_keeps, ↓Eng.notify_keeps, Facet.tidy, hφ, ha]
  rfl

theorem Eng.tickHit_keeps (h) (hφ : φ ≠ .draws ∧ φ ≠ .boot ∧ φ ≠ .sched ∧ φ ≠ .ports ∧ φ ≠ .cls ∧ φ ≠ .keyWait ∧ φ ≠ .ans ∧ φ ≠ .cals ∧
    φ ≠ .nts ∧ φ ≠ .ptp ∧ φ ≠ .gnss ∧ φ ≠ .sel ∧ φ ≠ .pk ∧ φ ≠ .rxRings ∧ φ ≠ .txRings ∧ φ ≠ .tails ∧ φ ≠ .wins ∧ φ ≠ .front) :
    φ.of (e.tickHit x h) = φ.of e := by
  unfold Eng.tickHit
  dsimp only
  split <;> simp only [↓Facet.with_boot, ↓Eng.regParity_keeps, ↓Eng.detect_keeps, ↓Eng.counterParity_keeps, ↓Eng.packetLost_keeps,
    ↓Eng.eccFound_keeps, Facet.tidy, hφ]

theorem Eng.slotsPass_keeps (hφ : φ ≠ .ans) : φ.of (e.slotsPass x) = φ.of e := by
  unfold Eng.slotsPass
  simp only [↓Facet.push, ↓Eng.slotPasses_keeps, Facet.tidy, hφ]

theorem Eng.guarantee_keeps : φ.of e.guarantee = φ.of e := by
  unfold Eng.guarantee
  simp only [↓Facet.push, ↓Eng.orb_keeps, Facet.tidy]

theorem Eng.tickEnds_keeps (upsets hits) (hφ : φ ≠ .draws ∧ φ ≠ .boot ∧ φ ≠ .tl ∧ φ ≠ .sched ∧ φ ≠ .ports ∧ φ ≠ .cls ∧ φ ≠ .keyWait ∧
    φ ≠ .ans ∧ φ ≠ .cals ∧ φ ≠ .nts ∧ φ ≠ .ptp ∧ φ ≠ .refins ∧ φ ≠ .gnss ∧ φ ≠ .sel ∧ φ ≠ .pk ∧ φ ≠ .rxRings ∧ φ ≠ .txRings ∧ φ ≠ .tails ∧
    φ ≠ .wins ∧ φ ≠ .front) :
    φ.of (e.tickEnds x upsets hits) = φ.of e := by
  unfold Eng.tickEnds
  dsimp only
  simp only [↓Facet.push, ↓Eng.upset_keeps, ↓Eng.tickHit_keeps, ↓Eng.countTick_keeps, ↓Eng.occSampleAll_keeps, ↓Eng.guarantee_keeps,
    ↓Eng.slotsPass_keeps, ↓Eng.segTick_keeps, ↓Eng.refTick_keeps, Facet.tidy, hφ]

theorem execTick_keeps (upsets hits)
    (hφ : φ ≠ .draws ∧ φ ≠ .boot ∧ φ ≠ .tl ∧ φ ≠ .sched ∧ φ ≠ .ports ∧ φ ≠ .cls ∧ φ ≠ .keyWait ∧ φ ≠ .ans ∧ φ ≠ .cals ∧ φ ≠ .nts ∧
    φ ≠ .ptp ∧ φ ≠ .refins ∧ φ ≠ .gnss ∧ φ ≠ .sel ∧ φ ≠ .pk ∧ φ ≠ .rxRings ∧ φ ≠ .txRings ∧ φ ≠ .tails ∧ φ ≠ .wins ∧ φ ≠ .front)
    (h : execTick upsets hits s = .next t) : φ.of t.eng = φ.of s.eng := by
  obtain ⟨-, ht⟩ | ⟨-, ht⟩ := execTick_cases h <;> rw [ht]
  · exact (Eng.tickEnds_keeps _ _ upsets hits hφ).trans s.eng0_keeps
  · exact s.eng0_keeps

theorem execClosingTick_keeps (inp) (hφ : φ ≠ .tl ∧ φ ≠ .sealedFor ∧ φ ≠ .sched ∧ φ ≠ .lanes ∧ φ ≠ .cals ∧ φ ≠ .sel ∧ φ ≠ .steer ∧
    φ ≠ .model) (hr : φ ≠ .records) (h : execClosingTick inp s = .next t) :
    φ.of t.eng = φ.of s.eng :=
  lift_keeps h (by simp only [↓whenDue_keeps, ↓Eng.close_keeps, Facet.tidy, hφ, hr])

end

/-! ## Every command -/

/-- What lets a command keep a facet: it owns no such field, and it neither restarts nor, for the phase, acts in reset. -/
structure Facet.Spared (φ : Facet) (c : Instr) : Prop where
  fields : ∀ l : List EngField, (∀ f, owns f c = l.contains f) → φ.avoids l
  restart : mayRestart c = false
  records : φ ≠ .records
  phase : φ = .phase → actsInReset c = false

/-- A command keeps the facets it spares. -/
theorem exec_keeps {φ : Facet} {s t : State} : (c : Instr) → exec c s = .next t → φ.Spared c → φ.of t.eng = φ.of s.eng
  | .tick .., h, hφ => execTick_keeps _ _ (hφ.fields _ fun _ => rfl) h
  | .closingTick .., h, hφ => execClosingTick_keeps _ (hφ.fields _ fun _ => rfl) hφ.records h
  | .steerBoundary .., _, hφ => Bool.noConfusion hφ.restart
  | .timeClockMonitor .., h, hφ => execTimeClockMonitor_keeps _ _ (hφ.fields _ fun _ => rfl) h
  | .timeClockPllUnlock, h, _ => execTimeClockPllUnlock_keeps h
  | .corePllUnlock, h, _ => execCorePllUnlock_keeps h
  | .ddrPllUnlock, h, hφ => execDdrPllUnlock_keeps (hφ.fields _ fun _ => rfl) h
  | .serdesPllUnlock .., h, hφ => execSerdesPllUnlock_keeps _ (hφ.fields _ fun _ => rfl) h
  | .consentExpiry .., h, _ => execConsentExpiry_keeps _ h
  | .compareCellFire .., h, _ => execCompareCellFire_keeps _ _ h
  | .moonConfigEnableWrite .., h, _ => execMoonConfigEnableWrite_keeps _ _ _ h
  | .moonIncStagedWrite .., h, _ => execMoonIncStagedWrite_keeps _ _ _ h
  | .moonStepStagedWrite .., h, _ => execMoonStepStagedWrite_keeps _ _ _ h
  | .moonConsentWrite .., h, _ => execMoonConsentWrite_keeps _ _ _ h
  | .moonSetValueWrite .., h, _ => execMoonSetValueWrite_keeps _ _ _ h
  | .moonSetArmedWrite .., h, _ => execMoonSetArmedWrite_keeps _ _ _ h
  | .moonSetRecordWrite .., h, _ => execMoonSetRecordWrite_keeps _ _ _ _ h
  | .leapBaseWrite .., h, hφ => execLeapBaseWrite_keeps _ _ (hφ.fields _ fun _ => rfl) h
  | .leapEntryWrite .., h, hφ => execLeapEntryWrite_keeps _ _ _ (hφ.fields _ fun _ => rfl) h
  | .moonCmpTargetWrite .., h, hφ => execMoonCmpTargetWrite_keeps _ _ _ _ (hφ.fields _ fun _ => rfl) h
  | .schedEntryWrite .., h, hφ => execSchedEntryWrite_keeps _ _ _ (hφ.fields _ fun _ => rfl) h
  | .schedEntryEmpty .., h, hφ => execSchedEntryEmpty_keeps _ _ _ (hφ.fields _ fun _ => rfl) h
  | .schedEvaluationPass, h, hφ => execSchedEvaluationPass_keeps (hφ.fields _ fun _ => rfl) h
  | .pulse .., h, hφ => execPulse_keeps _ (hφ.fields _ fun _ => rfl) h
  | .snapshot .., h, hφ => execSnapshot_keeps _ (hφ.fields _ fun _ => rfl) h
  | .window .., h, hφ => execWindow_keeps _ (hφ.fields _ fun _ => rfl) h
  | .calWindow .., h, hφ => execCalWindow_keeps _ (hφ.fields _ fun _ => rfl) h
  | .keyRotate .., h, hφ => execKeyRotate_keeps _ (hφ.fields _ fun _ => rfl) h
  | .switch .., h, hφ => execSwitch_keeps _ (hφ.fields _ fun _ => rfl) h
  | .dictWrite .., _, hφ => Bool.noConfusion hφ.restart
  | .event .., h, hφ => execEvent_keeps _ (hφ.fields _ fun _ => rfl) h
  | .leapPoint .., h, hφ => execLeapPoint_keeps _ (hφ.fields _ fun _ => rfl) h
  | .laneGroupModeWrite .., h, hφ => execLaneGroupModeWrite_keeps _ _ _ (hφ.fields _ fun _ => rfl) h
  | .portEnableWrite .., h, hφ => execPortEnableWrite_keeps _ _ _ (hφ.fields _ fun _ => rfl) h
  | .laneIfWrite .., h, hφ => execLaneIfWrite_keeps _ _ _ (hφ.fields _ fun _ => rfl) h
  | .linkUp .., h, hφ => execLinkUp_keeps _ (hφ.fields _ fun _ => rfl) h
  | .linkDown .., h, hφ => execLinkDown_keeps _ _ (hφ.fields _ fun _ => rfl) h
  | .frameReceive .., h, hφ => execFrameReceive_keeps _ (hφ.fields _ fun _ => rfl) h
  | .pauseXoffRepeat .., h, hφ => execPauseXoffRepeat_keeps _ (hφ.fields _ fun _ => rfl) h
  | .pauseEnd .., h, hφ => execPauseEnd_keeps _ (hφ.fields _ fun _ => rfl) h
  | .esmcTimeout .., h, _ => execEsmcTimeout_keeps _ h
  | .esmcInfoPdu .., h, hφ => execEsmcInfoPdu_keeps _ (hφ.fields _ fun _ => rfl) h
  | .ruleCommit .., h, hφ => execRuleCommit_keeps _ _ (hφ.fields _ fun _ => rfl) h
  | .ruleCommitTakeEffect, h, hφ => execRuleCommitTakeEffect_keeps (hφ.fields _ fun _ => rfl) h
  | .ruleBankCopyDone, h, hφ => execRuleBankCopyDone_keeps (hφ.fields _ fun _ => rfl) h
  | .serviceEntryWrite .., h, hφ => execServiceEntryWrite_keeps _ _ _ _ (hφ.fields _ fun _ => rfl) h
  | .alignmentMarkerRx .., h, hφ => execAlignmentMarkerRx_keeps _ _ _ _ (hφ.fields _ fun _ => rfl) h
  | .echoResult .., h, hφ => execEchoResult_keeps _ _ _ _ (hφ.fields _ fun _ => rfl) h
  | .echoMissing .., h, hφ => execEchoMissing_keeps _ (hφ.fields _ fun _ => rfl) h
  | .calItemWrite .., h, hφ => execCalItemWrite_keeps _ _ _ (hφ.fields _ fun _ => rfl) h
  | .calStoreWrite, h, hφ => execCalStoreWrite_keeps (hφ.fields _ fun _ => rfl) h
  | .calCtrlOpen .., h, hφ => execCalCtrlOpen_keeps _ _ (hφ.fields _ fun _ => rfl) h
  | .calCtrlClose .., h, _ => execCalCtrlClose_keeps _ _ h
  | .answerRequest .., h, hφ => execAnswerRequest_keeps _ _ _ (hφ.fields _ fun _ => rfl) h
  | .checkerCompare .., h, hφ => execCheckerCompare_keeps _ _ (hφ.fields _ fun _ => rfl) h
  | .checkerProbe .., h, hφ => execCheckerProbe_keeps _ _ (hφ.fields _ fun _ => rfl) h
  | .pipeReenable .., h, hφ => execPipeReenable_keeps _ _ _ (hφ.fields _ fun _ => rfl) h
  | .ansRekey .., h, hφ => execAnsRekey_keeps _ _ (hφ.fields _ fun _ => rfl) h
  | .bucketSweep .., h, hφ => execBucketSweep_keeps _ _ (hφ.fields _ fun _ => rfl) h
  | .ansRuleWrite .., h, hφ => execAnsRuleWrite_keeps _ _ _ (hφ.fields _ fun _ => rfl) h
  | .ansPeekWrite .., h, _ => execAnsPeekWrite_keeps _ _ h
  | .hostLaunchTake .., h, hφ => execHostLaunchTake_keeps _ _ (hφ.fields _ fun _ => rfl) h
  | .hostLaunchRetry .., h, hφ => execHostLaunchRetry_keeps _ _ (hφ.fields _ fun _ => rfl) h
  | .timedFetchStart .., h, hφ => execTimedFetchStart_keeps _ _ (hφ.fields _ fun _ => rfl) h
  | .frameRelease .., h, hφ => execFrameRelease_keeps _ _ (hφ.fields _ fun _ => rfl) h
  | .untimedTxStart .., h, hφ => execUntimedTxStart_keeps _ _ (hφ.fields _ fun _ => rfl) h
  | .ntsSlotLoadLocal .., h, hφ => execNtsSlotLoadLocal_keeps _ _ (hφ.fields _ fun _ => rfl) h
  | .ntsSlotLoadStation .., h, hφ => execNtsSlotLoadStation_keeps _ _ (hφ.fields _ fun _ => rfl) h
  | .ntsSlotLoadImport .., h, hφ => execNtsSlotLoadImport_keeps _ _ (hφ.fields _ fun _ => rfl) h
  | .ntsSlotMakeCurrent .., h, hφ => execNtsSlotMakeCurrent_keeps _ _ (hφ.fields _ fun _ => rfl) h
  | .ntsSlotRetire .., h, hφ => execNtsSlotRetire_keeps _ _ (hφ.fields _ fun _ => rfl) h
  | .slotRetireCheck, h, hφ => execSlotRetireCheck_keeps (hφ.fields _ fun _ => rfl) h
  | .ntsStationSeedWrite .., h, hφ => execNtsStationSeedWrite_keeps _ _ (hφ.fields _ fun _ => rfl) h
  | .keyStoreWrite .., h, hφ => execKeyStoreWrite_keeps _ (hφ.fields _ fun _ => rfl) h
  | .drbgReseed .., h, hφ => execDrbgReseed_keeps _ (hφ.fields _ fun _ => rfl) h
  | .drbgRetry .., h, hφ => execDrbgRetry_keeps _ (hφ.fields _ fun _ => rfl) h
  | .ntsKeSyn .., h, hφ => execNtsKeSyn_keeps _ _ (hφ.fields _ fun _ => rfl) h
  | .ntsKeRequest .., h, hφ => execNtsKeRequest_keeps _ _ _ _ _ (hφ.fields _ fun _ => rfl) h
  | .ntsKeSessionTimeout .., h, hφ => execNtsKeSessionTimeout_keeps _ (hφ.fields _ fun _ => rfl) h
  | .ntsKeKeyGenerate .., h, hφ => execNtsKeKeyGenerate_keeps _ (hφ.fields _ fun _ => rfl) h
  | .ptpReceive .., h, hφ => execPtpReceive_keeps _ (hφ.fields _ fun _ => rfl) h
  | .grantExpiry .., h, hφ => execGrantExpiry_keeps _ _ (hφ.fields _ fun _ => rfl) h
  | .ptpMessageDue .., h, hφ => execPtpMessageDue_keeps _ _ (hφ.fields _ fun _ => rfl) h
  | .upstreamRenew .., h, hφ => execUpstreamRenew_keeps _ _ (hφ.fields _ fun _ => rfl) h
  | .followUpTimeout .., h, hφ => execFollowUpTimeout_keeps _ (hφ.fields _ fun _ => rfl) h
  | .upstreamRetry .., h, hφ => execUpstreamRetry_keeps _ (hφ.fields _ fun _ => rfl) h
  | .refinCompareEdge .., h, hφ => execRefinCompareEdge_keeps _ _ _ _ (hφ.fields _ fun _ => rfl) h
  | .refinStuck .., h, hφ => execRefinStuck_keeps _ (hφ.fields _ fun _ => rfl) h
  | .refinConfigWrite .., h, hφ => execRefinConfigWrite_keeps _ _ _ _ (hφ.fields _ fun _ => rfl) h
  | .todInMessage .., h, hφ => execTodInMessage_keeps _ _ (hφ.fields _ fun _ => rfl) h
  | .siblingStale .., h, hφ => execSiblingStale_keeps _ (hφ.fields _ fun _ => rfl) h
  | .gnssSampleBlock .., h, hφ => execGnssSampleBlock_keeps _ _ (hφ.fields _ fun _ => rfl) h
  | .checkChannelPass .., h, hφ => execCheckChannelPass_keeps _ _ (hφ.fields _ fun _ => rfl) h
  | .acquisitionDwell .., h, _ => execAcquisitionDwell_keeps _ _ h
  | .gnssSolutionEpoch .., h, hφ => execGnssSolutionEpoch_keeps _ _ (hφ.fields _ fun _ => rfl) h
  | .channelRelease .., h, hφ => execChannelRelease_keeps _ (hφ.fields _ fun _ => rfl) h
  | .raimRejoin .., h, hφ => execRaimRejoin_keeps _ (hφ.fields _ fun _ => rfl) h
  | .osnmaVerify .., h, hφ => execOsnmaVerify_keeps _ (hφ.fields _ fun _ => rfl) h
  | .osnmaFailExpiry .., h, hφ => execOsnmaFailExpiry_keeps _ (hφ.fields _ fun _ => rfl) h
  | .antennaFaultPin .., h, hφ => execAntennaFaultPin_keeps _ _ (hφ.fields _ fun _ => rfl) h
  | .gnssStoreSave .., h, hφ => execGnssStoreSave_keeps _ (hφ.fields _ fun _ => rfl) h
  | .gnssHeldWrite .., h, _ => execGnssHeldWrite_keeps _ _ h
  | .gnssConfigWrite .., h, hφ => execGnssConfigWrite_keeps _ _ _ (hφ.fields _ fun _ => rfl) h
  | .stabilityUpdate, h, hφ => execStabilityUpdate_keeps (hφ.fields _ fun _ => rfl) h
  | .slotSilent .., h, hφ => execSlotSilent_keeps _ (hφ.fields _ fun _ => rfl) h
  | .asymEstimate .., h, hφ => execAsymEstimate_keeps _ (hφ.fields _ fun _ => rfl) h
  | .waitToRestoreEnd .., h, hφ => execWaitToRestoreEnd_keeps _ (hφ.fields _ fun _ => rfl) h
  | .acceptJump .., h, hφ => execAcceptJump_keeps _ _ (hφ.fields _ fun _ => rfl) h
  | .clearWtr .., h, hφ => execClearWtr_keeps _ _ (hφ.fields _ fun _ => rfl) h
  | .resetStability .., h, hφ => execResetStability_keeps _ _ (hφ.fields _ fun _ => rfl) h
  | .selPeekWrite .., h, _ => execSelPeekWrite_keeps _ _ h
  | .selForceWrite .., h, hφ => execSelForceWrite_keeps _ _ _ (hφ.fields _ fun _ => rfl) h
  | .steerModeWrite .., h, _ => execSteerModeWrite_keeps _ _ _ h
  | .restart .., h, hφ => execRestart_keeps _ _ _ (hφ.fields _ fun _ => rfl) h
  | .restartModel .., h, hφ => execRestartModel_keeps _ _ (hφ.fields _ fun _ => rfl) h
  | .modelObservation, h, hφ => execModelObservation_keeps (hφ.fields _ fun _ => rfl) h
  | .synthLock .., h, hφ => execSynthLock_keeps _ (hφ.fields _ fun _ => rfl) h
  | .synthUnlock .., h, hφ => execSynthUnlock_keeps _ (hφ.fields _ fun _ => rfl) h
  | .ppsoutEdge .., h, hφ => execPpsoutEdge_keeps _ _ (hφ.fields _ fun _ => rfl) h
  | .todOutMessage, h, hφ => execTodOutMessage_keeps (hφ.fields _ fun _ => rfl) h
  | .ppsoutConfigWrite .., h, hφ => execPpsoutConfigWrite_keeps _ _ _ (hφ.fields _ fun _ => rfl) h
  | .modadd .., h, hφ => pkCommand_keeps _ _ _ _ (hφ.fields _ fun _ => rfl) h
  | .modsub .., h, hφ => pkCommand_keeps _ _ _ _ (hφ.fields _ fun _ => rfl) h
  | .modmul .., h, hφ => pkCommand_keeps _ _ _ _ (hφ.fields _ fun _ => rfl) h
  | .modexp .., h, hφ => pkCommand_keeps _ _ _ _ (hφ.fields _ fun _ => rfl) h
  | .modexpPub .., h, hφ => pkCommand_keeps _ _ _ _ (hφ.fields _ fun _ => rfl) h
  | .modinv .., h, hφ => pkCommand_keeps _ _ _ _ (hφ.fields _ fun _ => rfl) h
  | .rsaCrt .., h, hφ => pkCommand_keeps _ _ _ _ (hφ.fields _ fun _ => rfl) h
  | .x25519 .., h, hφ => pkCommand_keeps _ _ _ _ (hφ.fields _ fun _ => rfl) h
  | .ed25519Sign .., h, hφ => pkCommand_keeps _ _ _ _ (hφ.fields _ fun _ => rfl) h
  | .ed25519Verify .., h, hφ => pkCommand_keeps _ _ _ _ (hφ.fields _ fun _ => rfl) h
  | .ecdsaSignP256 .., h, hφ => pkCommand_keeps _ _ _ _ (hφ.fields _ fun _ => rfl) h
  | .ecdsaVerifyP256 .., h, hφ => pkCommand_keeps _ _ _ _ (hφ.fields _ fun _ => rfl) h
  | .ecdsaVerifyP384 .., h, hφ => pkCommand_keeps _ _ _ _ (hφ.fields _ fun _ => rfl) h
  | .ecdsaVerifyP521 .., h, hφ => pkCommand_keeps _ _ _ _ (hφ.fields _ fun _ => rfl) h
  | .keygenP256 .., h, hφ => pkCommand_keeps _ _ _ _ (hφ.fields _ fun _ => rfl) h
  | .keygenEd25519 .., h, hφ => pkCommand_keeps _ _ _ _ (hφ.fields _ fun _ => rfl) h
  | .keygenX25519 .., h, hφ => pkCommand_keeps _ _ _ _ (hφ.fields _ fun _ => rfl) h
  | .clear .., h, hφ => pkCommand_keeps _ _ _ _ (hφ.fields _ fun _ => rfl) h
  | .copy .., h, hφ => pkCommand_keeps _ _ _ _ (hφ.fields _ fun _ => rfl) h
  | .clearRegion .., h, hφ => pkCommand_keeps _ _ _ _ (hφ.fields _ fun _ => rfl) h
  | .pkDispatch, h, hφ => execPkDispatch_keeps (hφ.fields _ fun _ => rfl) h
  | .pkValidationEnd .., h, hφ => execPkValidationEnd_keeps _ (hφ.fields _ fun _ => rfl) h
  | .pkComplete .., h, hφ => execPkComplete_keeps _ _ (hφ.fields _ fun _ => rfl) h
  | .pkAbort .., h, hφ => execPkAbort_keeps _ _ _ (hφ.fields _ fun _ => rfl) h
  | .pkPop .., h, hφ => execPkPop_keeps _ _ (hφ.fields _ fun _ => rfl) h
  | .erase .., h, hφ => execErase_keeps _ _ (hφ.fields _ fun _ => rfl) h
  | .pkSlotDefine .., h, _ => execPkSlotDefine_keeps _ _ _ _ h
  | .pkDataWrite .., h, hφ => execPkDataWrite_keeps _ _ _ _ (hφ.fields _ fun _ => rfl) h
  | .functionLevelReset .., h, hφ => execFunctionLevelReset_keeps _ (hφ.fields _ fun _ => rfl) h
  | .pcieLinkDown, h, hφ => execPcieLinkDown_keeps (hφ.fields _ fun _ => rfl) h
  | .pcieLinkUp .., h, _ => execPcieLinkUp_keeps _ _ h
  | .ringEnable .., h, hφ => execRingEnable_keeps _ _ _ (hφ.fields _ fun _ => rfl) h
  | .ringDisable .., h, hφ => execRingDisable_keeps _ _ _ _ (hφ.fields _ fun _ => rfl) h
  | .doorbellProd .., h, hφ => execDoorbellProd_keeps _ _ _ (hφ.fields _ fun _ => rfl) h
  | .doorbellAck .., h, hφ => execDoorbellAck_keeps _ _ _ (hφ.fields _ fun _ => rfl) h
  | .rxFrameDeliver .., h, hφ => execRxFrameDeliver_keeps _ _ (hφ.fields _ fun _ => rfl) h
  | .txDescTake .., h, hφ => execTxDescTake_keeps _ _ _ (hφ.fields _ fun _ => rfl) h
  | .vecArmWrite .., h, _ => execVecArmWrite_keeps _ h
  | .vecHoldoffEnd .., h, _ => execVecHoldoffEnd_keeps _ h
  | .irqPendingClear .., h, _ => execIrqPendingClear_keeps _ _ h
  | .tailPop .., h, hφ => execTailPop_keeps _ _ (hφ.fields _ fun _ => rfl) h
  | .counterPageSnap .., h, _ => execCounterPageSnap_keeps _ h
  | .wrapClear .., h, _ => execWrapClear_keeps _ _ h
  | .windowDoorbell .., h, hφ => execWindowDoorbell_keeps _ _ (hφ.fields _ fun _ => rfl) h
  | .dmaTimeout .., h, hφ => execDmaTimeout_keeps _ _ (hφ.fields _ fun _ => rfl) h
  | .lanithRequest, h, hφ => execLanithRequest_keeps (hφ.fields _ fun _ => rfl) h
  | .read .., h, hφ => execRead_keeps _ _ _ _ _ (hφ.fields _ fun _ => rfl) h
  | .write .., h, hφ => execWrite_keeps _ _ _ _ _ (hφ.fields _ fun _ => rfl) h
  | .timedWrite .., h, hφ => execTimedWrite_keeps _ _ _ _ (hφ.fields _ fun _ => rfl) h
  | .partStagingTimeout .., h, hφ => execPartStagingTimeout_keeps _ _ (hφ.fields _ fun _ => rfl) h
  | .responseHoldExpiry .., h, hφ => execResponseHoldExpiry_keeps _ (hφ.fields _ fun _ => rfl) h
  | .writeQueueDrain, _, hφ => Bool.noConfusion hφ.restart
  | .fwReadDone, h, hφ => execFwReadDone_keeps (hφ.fields _ fun _ => rfl) h
  | .dictObjectWrite .., _, hφ => Bool.noConfusion hφ.restart
  | .credWrite .., h, hφ => execCredWrite_keeps _ _ _ (hφ.fields _ fun _ => rfl) h
  | .save .., h, hφ => execSave_keeps _ (hφ.fields _ fun _ => rfl) h
  | .storeSaveDone .., h, hφ => execStoreSaveDone_keeps _ (hφ.fields _ fun _ => rfl) h
  | .factoryDefaults .., h, hφ => execFactoryDefaults_keeps _ (hφ.fields _ fun _ => rfl) h
  | .descChunkSelect .., h, _ => execDescChunkSelect_keeps _ _ h
  | .loadWindow .., h, hφ => execLoadWindow_keeps _ (hφ.fields _ fun _ => rfl) h
  | .segmentFrameRx .., h, hφ => execSegmentFrameRx_keeps _ (hφ.fields _ fun _ => rfl) h
  | .publishRx, h, hφ => execPublishRx_keeps (hφ.fields _ fun _ => rfl) h
  | .publishSend, h, _ => execPublishSend_keeps h
  | .collision, h, hφ => execCollision_keeps (hφ.fields _ fun _ => rfl) h
  | .backoffEnd, h, _ => execBackoffEnd_keeps h
  | .plcaTxOpportunity, h, _ => execPlcaTxOpportunity_keeps h
  | .segmentLinkLoss, h, _ => execSegmentLinkLoss_keeps h
  | .snapMaskWrite .., h, _ => execSnapMaskWrite_keeps _ _ h
  | .cntWinClose .., h, _ => execCntWinClose_keeps _ _ _ h
  | .cntWinEventWrite .., h, _ => execCntWinEventWrite_keeps _ _ _ h
  | .cntOccWrite .., h, _ => execCntOccWrite_keeps _ _ _ h
  | .peakClear .., h, _ => execPeakClear_keeps _ _ _ h
  | .userViewSnap .., h, _ => execUserViewSnap_keeps _ h
  | .cntUserMaskWrite .., h, _ => execCntUserMaskWrite_keeps _ _ h
  | .faultForce .., h, _ => execFaultForce_keeps _ _ _ h
  | .faultRearm .., h, _ => execFaultRearm_keeps _ _ _ h
  | .faultLatchClear .., h, _ => execFaultLatchClear_keeps _ _ _ h
  | .testWindowOpen .., h, _ => execTestWindowOpen_keeps _ _ h
  | .testWindowClose .., h, _ => execTestWindowClose_keeps _ _ h
  | .testWindowExpiry, h, _ => execTestWindowExpiry_keeps h
  | .selfcheckPass .., h, _ => execSelfcheckPass_keeps _ h
  | .scrubRead .., h, hφ => execScrubRead_keeps _ _ _ (hφ.fields _ fun _ => rfl) h
  | .scrubOverrun .., h, _ => execScrubOverrun_keeps _ h
  | .eclipseRailChange, h, _ => execEclipseRailChange_keeps h
  | .eclipseEntry, h, hφ => execEclipseEntry_keeps (hφ.fields _ fun _ => rfl) h
  | .lingerEnd, h, _ => execLingerEnd_keeps h
  | .powerOnReset, _, hφ => Bool.noConfusion hφ.restart
  | .warmReset, _, hφ => Bool.noConfusion hφ.restart
  | .resetCommandWarm .., _, hφ => Bool.noConfusion hφ.restart
  | .autoReset, _, hφ => Bool.noConfusion hφ.restart
  | .watchdogExpiry, h, hφ => execWatchdogExpiry_keeps (hφ.fields _ fun _ => rfl) h
  | .pllLock .., h, hφ => execPllLock_keeps _ (hφ.fields _ fun _ => rfl) (fun hq => Bool.noConfusion (hφ.phase hq)) h
  | .pllLockTimeout, h, hφ => execPllLockTimeout_keeps (hφ.fields _ fun _ => rfl) (fun hq => Bool.noConfusion (hφ.phase hq)) h
  | .ddrTrained .., h, hφ => execDdrTrained_keeps _ (hφ.fields _ fun _ => rfl) h
  | .credentialsRestored .., h, hφ => execCredentialsRestored_keeps _ _ (hφ.fields _ fun _ => rfl) h
  | .imageVerified, h, hφ => execImageVerified_keeps (hφ.fields _ fun _ => rfl) h
  | .storesRestored .., h, hφ => execStoresRestored_keeps _ _ (hφ.fields _ fun _ => rfl) h
  | .restoreTick, h, hφ => execRestoreTick_keeps ⟨⟨(hφ.fields _ fun _ => rfl).1, (hφ.fields _ fun _ => rfl).2.2⟩,
    (hφ.fields _ fun _ => rfl).2.1⟩ h
  | .monitorSample .., h, hφ => execMonitorSample_keeps _ _ (hφ.fields _ fun _ => rfl) h
  | .thermTripRelease, h, hφ => execThermTripRelease_keeps (hφ.fields _ fun _ => rfl) h
  | .avsLoop .., h, hφ => execAvsLoop_keeps _ _ (hφ.fields _ fun _ => rfl) h
  | .fwImageDataWrite .., h, hφ => execFwImageDataWrite_keeps _ _ _ (hφ.fields _ fun _ => rfl) h
  | .fwImageCommit .., h, hφ => execFwImageCommit_keeps _ _ (hφ.fields _ fun _ => rfl) h
  | .advanceRollback .., _, hφ => Bool.noConfusion hφ.restart
  | .dumpNow .., h, hφ => execDumpNow_keeps _ _ (hφ.fields _ fun _ => rfl) h
  | .dumpCapture .., h, hφ => execDumpCapture_keeps _ _ _ (hφ.fields _ fun _ => rfl) h
  | .dumpComplete, h, hφ => execDumpComplete_keeps (hφ.fields _ fun _ => rfl) h
  | .dumpClear .., h, hφ => execDumpClear_keeps _ _ (hφ.fields _ fun _ => rfl) h
  | .dumpChunkSelect .., h, _ => execDumpChunkSelect_keeps _ _ h
  | .thermTrip, h, hφ => execThermTrip_keeps (hφ.fields _ fun _ => rfl) h
  | .ddrPllLock, h, hφ => execDdrPllLock_keeps (hφ.fields _ fun _ => rfl) h
  | .serdesPllLock .., h, _ => execSerdesPllLock_keeps _ h
  | .segmentLinkUp, h, _ => execSegmentLinkUp_keeps h
  | .coresRestart, h, hφ => execCoresRestart_keeps (hφ.fields _ fun _ => rfl) h
  | .msixMaskWrite .., h, _ => execMsixMaskWrite_keeps _ _ h
  | .tailOverflowClear .., h, hφ => execTailOverflowClear_keeps _ (hφ.fields _ fun _ => rfl) h
  | .windowRequestWrite .., h, hφ => execWindowRequestWrite_keeps _ _ (hφ.fields _ fun _ => rfl) h
  | .upstreamDelayReq .., h, hφ => execUpstreamDelayReq_keeps _ _ (hφ.fields _ fun _ => rfl) h
  | .resetRelease .., h, hφ => execResetRelease_keeps _ _ (hφ.fields _ fun _ => rfl) (fun hq => Bool.noConfusion (hφ.phase hq)) h

/-- A command that may restart the device owns every field. -/
theorem owns_of_mayRestart (f : EngField) : {c : Instr} → mayRestart c = true → owns f c = true
  | .powerOnReset, _ | .warmReset, _ | .autoReset, _ | .resetCommandWarm .., _ | .advanceRollback .., _ | .dictWrite .., _
  | .writeQueueDrain, _ | .dictObjectWrite .., _ | .steerBoundary .., _ => rfl

/-- A command spares the fields it does not own. -/
theorem EngField.spared {f : EngField} {c : Instr} (h : owns f c = false) : f.facet.Spared c where
  fields _ hl := EngField.avoids ((hl f).symm.trans h)
  restart := Bool.eq_false_iff.2 fun hc => Bool.noConfusion (h.symm.trans (owns_of_mayRestart f hc))
  records := by cases f <;> nofun
  phase := by cases f <;> nofun

/-- No field is the phase. -/
theorem Facet.phase_avoids : (l : List EngField) → Facet.phase.avoids l
  | [] => trivial
  | [f] => by cases f <;> nofun
  | f :: g :: l => ⟨by cases f <;> nofun, Facet.phase_avoids (g :: l)⟩

/-- A command that neither restarts the device nor acts in reset spares the phase. -/
theorem Facet.phase_spared {c : Instr} (hr : mayRestart c = false) (ha : actsInReset c = false) : Facet.phase.Spared c where
  fields l _ := Facet.phase_avoids l
  restart := hr
  records := nofun
  phase _ := ha

/-- Settles O8: the fields are facets, and a command keeps each facet it spares. -/
theorem commandsChangeOnlyWhatTheyReach : Obligations.CommandsChangeOnlyWhatTheyReach :=
  fun c s t f h ho => (f.same_iff s.eng t.eng).2 (exec_keeps c h (EngField.spared ho))

end Sys2Proof.Machine
end

section
/-! # The tick counter, the closing tick and the boundary -/

namespace Sys2Proof.Machine

/-! ## The tick counter (R22) -/

theorem MoonCore.advance_inc (m : MoonCore) : m.advance.inc = m.inc := by
  unfold MoonCore.advance; split <;> rfl

theorem MoonCore.advance_adv (m : MoonCore) : m.advance.adv = m.adv := by
  unfold MoonCore.advance; split <;> rfl

theorem MoonCore.advance_acc (m : MoonCore) : m.advance.acc = if m.adv then m.acc + m.inc.setWidth 128 else m.acc := by
  unfold MoonCore.advance; split <;> rfl

/-- A tick advances every moon; one beyond the 32 does not advance, and stands. -/
theorem TimeCore.moon_advance (c : TimeCore) (k : Nat) : c.advance.moon k = (c.moon k).advance := by
  have hd : (MoonCore.atReset 1).advance = MoonCore.atReset 1 := rfl
  unfold TimeCore.moon TimeCore.advance nth
  dsimp only
  rw [← hd, List.getD_map, hd]

theorem State.eng0_up (s : State) : s.eng0.up = s.eng.up := rfl

theorem Eng.up_of_phase {e e' : Eng} (h : Facet.phase.of e' = Facet.phase.of e) : e'.up = e.up :=
  congrArg (· == Phase.running) h

theorem Eng.tickEnds_up (e : Eng) (x : Ctx) (upsets : List CopyUpset) (hits : List TickHit) :
    (e.tickEnds x upsets hits).up = e.up :=
  Eng.up_of_phase (e.tickEnds_keeps x upsets hits (by decide))

/-- What a write asked for restarts the time clock, or leaves a running device running. -/
theorem State.settle_tick {s : State} (hs : s.eng.up = true) (ht : s.settle.eng.up = false) : s.settle.core.tick = 0 := by
  obtain ⟨-, h⟩ | ⟨-, h⟩ := s.settle_cases
  · rw [h, State.blow_eng] at ht
    exact Bool.noConfusion (hs.symm.trans ht)
  · rw [h]
    rfl

theorem liftSettle_tick {f : Ctx → Eng → Eng} {s t : State} (hs : s.eng.up = true) (ht : t.eng.up = false)
    (hf : Facet.phase.of (f s.ctx s.eng0) = Facet.phase.of s.eng0) (h : liftSettle f s = .next t) : t.core.tick = 0 := by
  obtain ⟨-, h⟩ | ⟨hu, -⟩ := liftSettle_cases h
  · rw [h] at ht ⊢
    exact State.settle_tick ((Eng.up_of_phase hf).trans hs) ht
  · exact Bool.noConfusion (hs.symm.trans hu)

theorem State.boundary_eng (s : State) (inp : BoundaryInputs) :
    (s.boundary inp).eng = (s.eng0.swapMoons s.ctx).boundaryRest ⟨s.core.takeAll s.eng0.tl, s.fuses⟩ (boundaryOf s.ctx.tick)
      ((List.range 32).map (fun k => s.ctx.st k)) (s.eng0.moon 0).cur.state inp := by
  unfold State.boundary
  dsimp only

/-- What a boundary leaves of a facet that the actions of its entries and its engines do not change. -/
theorem State.boundary_keeps {φ : Facet} (s : State) (inp : BoundaryInputs)
    (hφ : φ.avoids EngField.acted ∧ φ ≠ .pins ∧ φ ≠ .synces) :
    φ.of (s.boundary inp).eng =
      φ.of ((s.eng0.swapMoons s.ctx).marked ⟨s.core.takeAll s.eng0.tl, s.fuses⟩ (boundaryOf s.ctx.tick)) := by
  rw [State.boundary_eng]
  exact Eng.boundaryRest_keeps _ _ _ _ _ _ hφ

theorem State.boundary_up (s : State) (inp : BoundaryInputs) : (s.boundary inp).eng.up = s.eng.up :=
  Eng.up_of_phase ((s.boundary_keeps inp ⟨Facet.phase_avoids _, by decide, by decide⟩).trans
    ((Eng.marked_keeps _ _ _ (by decide)).trans (Eng.swapMoons_keeps _ _ (by decide))))

/-- A running device that a command which may restart it stops has its tick counter at 0. -/
theorem exec_restart_tick {s t : State} (hs : s.eng.up = true) (ht : t.eng.up = false) {c : Instr} (hc : mayRestart c = true)
    (h : exec c s = .next t) : t.core.tick = 0 := by
  cases c with
  | powerOnReset => rw [← Host.Outcome.next.inj ((exec_powerOnReset s).symm.trans h)]; rfl
  | warmReset => rw [← Host.Outcome.next.inj ((exec_warmReset s).symm.trans h)]; rfl
  | autoReset =>
    obtain ⟨-, h⟩ | ⟨-, h⟩ := execAutoReset_cases ((exec_autoReset s).symm.trans h) <;> rw [h] at ht ⊢
    · rfl
    · exact Bool.noConfusion (hs.symm.trans ht)
  | resetCommandWarm value roles =>
    exact liftSettle_tick hs ht (Eng.writeCmd_keeps _ _ _ _ _ _ (resetWrite_keeps _ (by decide)))
      ((exec_resetCommandWarm value roles s).symm.trans h)
  | advanceRollback value roles =>
    exact liftSettle_tick hs ht (Eng.writeCmd_keeps _ _ _ _ _ _ (rollbackWrite_keeps _ _ _ (by decide)))
      ((exec_advanceRollback value roles s).symm.trans h)
  | dictWrite entry =>
    exact liftSettle_tick hs ht (Eng.fireAction_keeps _ _ _ _ (Facet.phase_avoids _)) ((exec_dictWrite entry s).symm.trans h)
  | writeQueueDrain =>
    exact liftSettle_tick hs ht (whenDue_keeps _ _ _ (Eng.drainOne_keeps _ _ ⟨Facet.phase_avoids _, by decide, by decide⟩))
      ((exec_writeQueueDrain s).symm.trans h)
  | dictObjectWrite area im bytes roles =>
    exact liftSettle_tick hs ht (Eng.objectWrite_keeps _ _ _ _ _ (Facet.phase_avoids _))
      ((exec_dictObjectWrite area im bytes roles s).symm.trans h)
  | steerBoundary inp =>
    obtain ⟨-, h⟩ | ⟨-, h⟩ := execSteerBoundary_cases ((exec_steerBoundary inp s).symm.trans h) <;> rw [h] at ht ⊢
    · exact State.settle_tick ((s.boundary_up inp).trans hs) ht
    · exact Bool.noConfusion (hs.symm.trans ht)
  | _ => cases hc

/-- The release and the PLLs' lock find a running device past them. -/
theorem whenDue_locking {s : State} (hs : s.eng.up = true) {p : Phase} (hp : p ≠ .running) (f : Eng → Eng) :
    whenDue (s.eng0.boot.phase == p) f s.eng0 = s.eng0 := by
  have h : s.eng0.boot.phase = .running := eq_of_beq hs
  rw [h, beq_eq_false_iff_ne.2 hp.symm, whenDue_false]

/-- The commands that act in reset too, but restart nothing, leave a running device running. -/
theorem exec_inReset_up {s t : State} (hs : s.eng.up = true) {c : Instr} (ha : actsInReset c = true) (hc : mayRestart c = false)
    (h : exec c s = .next t) : t.eng.up = true := by
  have hl {p : Phase} (hp : p ≠ .running) {f : Eng → Eng}
      (h : liftAlways (fun _ e => whenDue (e.boot.phase == p) f e) s = .next t) : t.eng.up = true := by
    rw [liftAlways_eq h]
    exact (congrArg Eng.up (whenDue_locking hs hp f)).trans hs
  cases c with
  | powerOnReset | warmReset => cases hc
  | resetRelease osc forceB => exact hl (by decide) ((exec_resetRelease osc forceB s).symm.trans h)
  | pllLock good => exact hl (by decide) ((exec_pllLock good s).symm.trans h)
  | pllLockTimeout => exact hl (by decide) ((exec_pllLockTimeout s).symm.trans h)
  | thermTrip => rw [liftAlways_eq ((exec_thermTrip s).symm.trans h)]; exact hs
  | thermTripRelease => rw [liftAlways_eq ((exec_thermTripRelease s).symm.trans h)]; exact hs
  | _ => cases ha

/-- A command that stops a running device leaves the tick counter at 0. -/
theorem exec_stop_tick {c : Instr} {s t : State} (hs : s.eng.up = true) (h : exec c s = .next t) (ht : t.eng.up = false) :
    t.core.tick = 0 := by
  cases hr : mayRestart c with
  | true => exact exec_restart_tick hs ht hr h
  | false =>
    have hup : t.eng.up = true := by
      cases ha : actsInReset c with
      | true => exact exec_inReset_up hs ha hr h
      | false =>
        exact (Eng.up_of_phase (exec_keeps c h (Facet.phase_spared hr ha))).trans hs
    exact Bool.noConfusion (hup.symm.trans ht)

/-- Nothing moves the tick counter of a device that does not run from 0. -/
theorem exec_stopped_tick {c : Instr} {s t : State} (hs : s.eng.up = false) (h0 : s.core.tick = 0) (h : exec c s = .next t) :
    t.core.tick = 0 := by
  obtain hc | ⟨⟨u, d, rfl⟩, -⟩ | ⟨-, hc⟩ | ⟨-, hc⟩ := exec_core h
  · rw [hc, h0]
  · obtain ⟨hu, -⟩ | ⟨-, ht⟩ := execTick_cases h
    · exact Bool.noConfusion (hs.symm.trans hu)
    · rw [ht]
      exact h0
  · rw [hc]
    exact h0
  · rw [hc]
    rfl

/-- Settles O17: the counter and the moons under a tick, and the commands that stop or start the device. -/
theorem theTickCounterCountsFromTheLock : Obligations.TheTickCounterCountsFromTheLock := by
  refine ⟨fun s upsets hits hs => ?_, fun s => ⟨⟨_, rfl, rfl⟩, ⟨_, rfl, rfl⟩⟩, fun c s t hs h ht => exec_stop_tick hs h ht,
    fun c s t hs h0 h => exec_stopped_tick hs h0 h⟩
  refine ⟨_, if_pos hs, rfl, fun k => ?_, (s.eng0.tickEnds_up s.ctx upsets hits).trans hs, rfl, rfl⟩
  have hk : TimeCore.moon s.core.advance k = _ := s.core.moon_advance k
  rw [hk]
  exact ⟨MoonCore.advance_inc _, MoonCore.advance_adv _, MoonCore.advance_acc _⟩

end Sys2Proof.Machine
end

section
/-! # The closing tick and the boundary (R24 to R26) -/

namespace Sys2Proof.Machine

/-! ## A change of one moon's timeline, and a pass over the moons -/

/-- The timeline side of moon `k` alone changes, as `P` says. -/
structure Eng.MovesMoon (P : MoonTl → MoonTl → Prop) (k : Nat) (e e' : Eng) : Prop where
  length : e'.tl.length = e.tl.length
  moved : k < e.tl.length → P (e.moon k) (e'.moon k)
  others : ∀ j, j ≠ k → e'.moon j = e.moon j

section
variable {P : MoonTl → MoonTl → Prop} {e e' : Eng}

theorem Eng.movesMoon_setMoon {k : Nat} {m : MoonTl} (h : P (e.moon k) m) : Eng.MovesMoon P k e (e.setMoon k m) where
  length := List.length_set
  moved hk := by
    have hm : (e.setMoon k m).moon k = m := by
      rw [Eng.moon, Eng.setMoon_tl, setNth, nth, List.getD_eq_getElem _ _ (by simpa using hk), List.getElem_set_self]
    rwa [hm]
  others j hj := by
    rw [Eng.moon, Eng.setMoon_tl, setNth, nth, List.getD_eq_getElem?_getD, List.getElem?_set_ne hj.symm,
      ← List.getD_eq_getElem?_getD]
    rfl

/-- Steps before and after that leave the timelines do not matter. -/
theorem Eng.movesMoon_of_tl {k : Nat} {a b : Eng} (ha : Facet.tl.of a = Facet.tl.of e) (hb : Facet.tl.of e' = Facet.tl.of b)
    (h : Eng.MovesMoon P k a b) : Eng.MovesMoon P k e e' where
  length := (congrArg List.length hb).trans (h.length.trans (congrArg List.length ha))
  moved hk := by
    have hm := h.moved (lt_of_lt_of_eq hk (congrArg List.length ha).symm)
    rwa [Eng.moon_of_tl ha, ← Eng.moon_of_tl hb] at hm
  others j hj := (Eng.moon_of_tl hb j).trans ((h.others j hj).trans (Eng.moon_of_tl ha j))

/-- A pass that moves the moons from `o` on, one after the other, moves each of them once, and no other. -/
theorem Eng.movesMoons_foldl (o : Nat) (f : Eng → Nat → Eng) (hf : ∀ e i, Eng.MovesMoon P (i + o) e (f e i)) (n : Nat) (e : Eng) :
    ((List.range n).foldl f e).tl.length = e.tl.length ∧
    (∀ k, o ≤ k → k < o + n → k < e.tl.length → P (e.moon k) (((List.range n).foldl f e).moon k)) ∧
    ∀ k, k < o ∨ o + n ≤ k → ((List.range n).foldl f e).moon k = e.moon k := by
  induction n with
  | zero => exact ⟨rfl, fun k hk hn => absurd hn (by omega), fun _ _ => rfl⟩
  | succ n ih =>
    obtain ⟨hlen, hmoved, hothers⟩ := ih
    rw [List.range_succ, List.foldl_append]
    have hstep := hf ((List.range n).foldl f e) n
    refine ⟨hstep.length.trans hlen, fun k ho hn hk => ?_, fun k hk => ?_⟩
    · by_cases hkn : k = n + o
      · subst hkn
        have hm := hstep.moved (lt_of_lt_of_eq hk hlen.symm)
        rwa [hothers _ (by omega)] at hm
      · have hm := hmoved k ho (by omega) hk
        rwa [← hstep.others k hkn] at hm
    · exact (hstep.others k (by omega)).trans (hothers k (by omega))

end

/-! ## The closing tick (R24, R26) -/

/-- A moon's next record shows boundary `b` and the decision sealed for it. -/
def MoonTl.SealedFor (b : Nat) (m : MoonTl) : Prop :=
  m.next.boundary = b ∧ ∃ d, m.decision = some d ∧ m.next.inc = d.inc ∧ m.next.adv = d.adv

section
variable (e : Eng) (x : Ctx) (b k : Nat)

theorem Eng.sealMoon_seals (d : Decision) (st : MoonState) (bound : Int) :
    Eng.MovesMoon (fun _ m => m.SealedFor b) k e (e.sealMoon x k b d st bound) :=
  Eng.movesMoon_setMoon ⟨rfl, d, rfl, rfl, rfl⟩

theorem Eng.closeOwn_seals : Eng.MovesMoon (fun _ m => m.SealedFor b) k e (e.closeOwn x b k).2 :=
  Eng.movesMoon_of_tl (e.decideOwn_keeps x k) rfl (Eng.sealMoon_seals _ x b k _ _ _)

theorem Eng.closeFollower_seals (z : Decision × MoonState × Int) :
    Eng.MovesMoon (fun _ m => m.SealedFor b) k e (e.closeFollower x b k z) := by
  have hd := e.decideFollower_keeps (φ := .tl) x k b z.1
  unfold Eng.closeFollower
  dsimp only
  split <;> exact Eng.movesMoon_of_tl hd rfl (Eng.sealMoon_seals _ x b k _ _ _)

/-- The pass of the closing tick seals every moon: moon 0, then the others. -/
theorem Eng.closeMoons_seals (h : e.tl.length = 32) (hk : k < 32) : ((e.closeMoons x b).moon k).SealedFor b := by
  have h0 := e.closeOwn_seals x b 0
  unfold Eng.closeMoons
  generalize e.closeOwn x b 0 = z at h0
  obtain ⟨-, hmoved, hothers⟩ := Eng.movesMoons_foldl (P := fun _ m => m.SealedFor b) 1
    (fun e i => if e.follows (i + 1) then e.closeFollower x b (i + 1) z.1 else (e.closeOwn x b (i + 1)).2)
    (fun e i => by split; exacts [e.closeFollower_seals x b _ _, e.closeOwn_seals x b _]) 31 z.2
  by_cases hk0 : k = 0
  · subst hk0
    have hm := h0.moved (by omega)
    rwa [← hothers 0 (by omega)] at hm
  · exact hmoved k (by omega) (by omega) (by rw [h0.length]; omega)

/-- What comes before and after the pass over the moons in a closing tick leaves their timelines. -/
theorem Eng.close_seals (inp : ClosingInputs) (h : e.tl.length = 32) (hk : k < 32) : ((e.close x b inp).moon k).SealedFor b := by
  have hpass (a : Eng) (ha : Facet.tl.of a = Facet.tl.of e) :
      (({ ((a.closeMoons x b).sealMargins x).sealLanes with sealedFor := some b } : Eng).moon k).SealedFor b := by
    have hrest : Facet.tl.of { ((a.closeMoons x b).sealMargins x).sealLanes with sealedFor := some b } =
        Facet.tl.of (a.closeMoons x b) := by
      simp only [↓Facet.with_sealedFor, ↓Eng.sealLanes_keeps, ↓Eng.sealMargins_keeps, Facet.tidy, reduceCtorEq]
    rw [Eng.moon_of_tl hrest]
    exact a.closeMoons_seals x b k ((congrArg List.length ha).trans h) hk
  refine hpass _ ?_
  simp only [↓Facet.push, ↓Facet.with_sel, ↓Eng.closeModel_keeps, ↓Eng.asymClose_keeps, ↓Eng.selClose_keeps, ↓Eng.loopCopies_keeps,
    ↓Eng.modelCopies_keeps, ↓Eng.trackUnit_keeps, ↓Eng.stageReturn_keeps, Facet.tidy, reduceCtorEq]

end

/-- Settles O19: the pass of the closing tick seals each moon, and the rest of it leaves what is sealed. -/
theorem closingTickSealsEveryMoon : Obligations.ClosingTickSealsEveryMoon := by
  intro s inp hup hdue hlen
  have hexec : exec (.closingTick inp) s = .next { s with eng := s.eng0.close s.ctx (nextBoundary s.core.tick) inp } := by
    rw [exec_closingTick, execClosingTick, lift_up hup, whenDue, if_pos (by exact hdue)]
    rfl
  refine ⟨_, hexec, rfl, ⟨rfl, rfl, rfl⟩, fun k => ?_⟩
  have hk := s.eng0.close_seals s.ctx (nextBoundary s.core.tick) k inp hlen k.isLt
  dsimp only
  exact hk

/-! ## The boundary (R25, R38) -/

/-- A moon's records have moved up by one. -/
def MoonTl.MovedUp (m m' : MoonTl) : Prop := m'.cur = m.next ∧ m'.prev = m.cur

theorem Eng.swapMoon_moves (e : Eng) (x : Ctx) (k : Nat) : Eng.MovesMoon MoonTl.MovedUp k e (e.swapMoon x k) := by
  unfold Eng.swapMoon
  extract_lets m changed ceil e1 e2
  have h1 : Facet.tl.of e2 = Facet.tl.of e := by
    simp only [e2, e1, ↓Facet.push, ↓Eng.set_keeps, ↓Eng.detect_keeps, Facet.tidy]
  refine Eng.movesMoon_of_tl h1 rfl (Eng.movesMoon_setMoon ?_)
  rw [Eng.moon_of_tl h1]
  exact ⟨rfl, rfl⟩

theorem Eng.swapMoons_moves (e : Eng) (x : Ctx) (k : Nat) (h : e.tl.length = 32) (hk : k < 32) :
    (e.moon k).MovedUp ((e.swapMoons x).moon k) :=
  (Eng.movesMoons_foldl 0 (fun e k => e.swapMoon x k) (fun e k => e.swapMoon_moves x k) 32 e).2.1 k (by omega) (by omega) (by omega)

/-- Two engines with the same records have the same present and previous record of each moon. -/
theorem Eng.moon_of_records {e e' : Eng} (h : Facet.records.of e' = Facet.records.of e) (k : Nat) :
    (e'.moon k).cur = (e.moon k).cur ∧ (e'.moon k).prev = (e.moon k).prev := by
  have hp : ((e'.moon k).prev, (e'.moon k).cur) = ((e.moon k).prev, (e.moon k).cur) := by
    change e'.tl.map (fun m => (m.prev, m.cur)) = e.tl.map (fun m => (m.prev, m.cur)) at h
    have hd := congrArg (fun l => l.getD k ((MoonTl.atReset k).prev, (MoonTl.atReset k).cur)) h
    rwa [List.getD_map (d := MoonTl.atReset k), List.getD_map (d := MoonTl.atReset k)] at hd
  exact ⟨congrArg Prod.snd hp, congrArg Prod.fst hp⟩

theorem TimeCore.moon_takeAll (c : TimeCore) (tl : List MoonTl) {k : Nat} (hk : k < c.moons.length) {d : Decision}
    (hd : (nth tl k (MoonTl.atReset k)).decision = some d) : (c.takeAll tl).moon k = (c.moon k).take d := by
  rw [TimeCore.moon, TimeCore.takeAll, tabulate, nth, List.getD_eq_getElem _ _ (by simpa using hk), List.getElem_map,
    List.getElem_range, hd]

/-- A boundary moves every moon's records up by one: the swap does, and the rest of the boundary leaves them. -/
theorem State.boundary_moves (s : State) (inp : BoundaryInputs) (h : s.eng.tl.length = 32) {k : Nat} (hk : k < 32) :
    ((s.boundary inp).eng.moon k).cur = (s.eng.moon k).next ∧ ((s.boundary inp).eng.moon k).prev = (s.eng.moon k).cur := by
  obtain ⟨hcur, hprev⟩ := Eng.moon_of_records ((s.boundary_keeps (φ := .records) inp
    ⟨Facet.avoids_acted.2 (by decide), by decide, by decide⟩).trans
    (Eng.marked_keeps _ _ _ (by decide))) k
  obtain ⟨hcur', hprev'⟩ := s.eng0.swapMoons_moves s.ctx k h hk
  exact ⟨hcur.trans hcur', hprev.trans hprev'⟩

/-- Blown fuses leave the engines as they were, but for the boot's request. -/
theorem State.blow_keeps {φ : Facet} (s : State) (hφ : φ ≠ .boot) : φ.of s.blow.eng = φ.of s.eng := by
  rw [State.blow_eng]
  exact Facet.with_boot _ _ hφ rfl

theorem Eng.wiped_phase (e : Eng) (x : Ctx) (phase : Phase) : Facet.phase.of (e.wiped x phase) = phase := by
  unfold Eng.wiped
  dsimp only
  split <;> rfl

theorem Eng.warm_phase (e : Eng) (x : Ctx) (cause : Nat) (phase : Phase) : Facet.phase.of (e.warm x cause phase) = phase :=
  (Eng.setAll_keeps _ _).trans ((Eng.setAll_keeps _ _).trans (e.wiped_phase x phase))

/-- A device that a write restarts waits for the PLLs' lock. -/
theorem Eng.warm_up (e : Eng) (x : Ctx) (cause : Nat) : (e.warm x cause .locking).up = false :=
  congrArg (· == Phase.running) (e.warm_phase x cause .locking)

/-- Settles O20: a boundary takes the decisions and moves the records up; what a scheduled write asked for then happens. -/
theorem boundaryTakesTheSealedDecisions : Obligations.BoundaryTakesTheSealedDecisions := by
  intro s inp hup hdue hlen
  refine ⟨(s.boundary inp).settle, if_pos (by rw [hup, hdue]; rfl), State.settle_pending _, ?_⟩
  obtain ⟨-, h⟩ | ⟨-, h⟩ := (s.boundary inp).settle_cases <;> rw [h]
  · have hcore : (s.boundary inp).blow.core = s.core.takeAll s.eng.tl := (State.blow_core _).trans (s.boundary_core inp)
    refine .inr ⟨?_, ?_, ?_, fun k hk d hd => ?_, fun k => ?_⟩
    · rw [hcore]
      rfl
    · exact ((s.boundary inp).blow_keeps (φ := .lastBoundary) (by decide)).trans
        (s.boundary_keeps inp ⟨Facet.avoids_acted.2 (by decide), by decide, by decide⟩)
    · exact ((s.boundary inp).blow_keeps (φ := .sealedFor) (by decide)).trans
        (s.boundary_keeps inp ⟨Facet.avoids_acted.2 (by decide), by decide, by decide⟩)
    · rw [hcore]
      exact s.core.moon_takeAll s.eng.tl hk hd
    · obtain ⟨hcur, hprev⟩ := Eng.moon_of_records ((s.boundary inp).blow_keeps (φ := .records) (by decide)) k
      obtain ⟨hcur', hprev'⟩ := s.boundary_moves inp hlen k.isLt
      exact ⟨hcur.trans hcur', hprev.trans hprev'⟩
  · exact .inl ⟨rfl, Eng.warm_up _ _ _⟩

end Sys2Proof.Machine
end

section
/-! # Clock and core failures (R21, R35, R353, R396)

What a detection and a fall of links leave of the fault system and of an object they do not name. -/

namespace Sys2Proof.Machine

/-! ## An object that a change spares -/

/-- The fault system is as it was, and so is the object `j`. -/
structure Eng.Spares (j : Key) (e e' : Eng) : Prop where
  flt : e'.flt = e.flt
  obj : e'.i j = e.i j

namespace Eng.Spares

variable {j : Key} {a b c e : Eng} {x : Ctx}

theorem refl (j : Key) (e : Eng) : Eng.Spares j e e := ⟨rfl, rfl⟩

theorem trans (h : Eng.Spares j a b) (h' : Eng.Spares j b c) : Eng.Spares j a c := ⟨h'.flt.trans h.flt, h'.obj.trans h.obj⟩

theorem set {k : Key} (h : Eng.Spares j a e) (hk : j ≠ k) (v : Int) : Eng.Spares j a (e.set k v) :=
  h.trans ⟨rfl, Eng.set_i_other _ _ _ _ hk⟩

theorem inc32 {k : Key} (h : Eng.Spares j a e) (hk : j ≠ k) : Eng.Spares j a (e.inc32 k) := h.set hk _

theorem inc64 {k : Key} (h : Eng.Spares j a e) (hk : j ≠ k) : Eng.Spares j a (e.inc64 k) := h.set hk _

theorem orb {k : Key} (h : Eng.Spares j a e) (hk : j ≠ k) (m : Nat) : Eng.Spares j a (e.orb k m) := h.set hk _

theorem count (h : Eng.Spares j a e) (hk : j ≠ Od.CNT_STATUS.sticky) (ev : Nat) : Eng.Spares j a (e.count x ev) :=
  h.trans ⟨Eng.count_flt .., Eng.count_i _ _ _ _ hk⟩

theorem irqPoke (h : Eng.Spares j a e) (n : Nat) : Eng.Spares j a (e.irqPoke x n) := h.trans ⟨Eng.irqPoke_flt .., Eng.irqPoke_i ..⟩

theorem irqLatch (h : Eng.Spares j a e) (n : Nat) : Eng.Spares j a (e.irqLatch x n) := h.trans ⟨Eng.irqLatch_flt .., Eng.irqLatch_i ..⟩

theorem ite {p : Prop} [Decidable p] (hb : Eng.Spares j a b) (hc : Eng.Spares j a c) : Eng.Spares j a (if p then b else c) := by
  split
  · exact hb
  · exact hc

theorem foldl {β : Type} {f : Eng → β → Eng} (hf : ∀ e b, Eng.Spares j e (f e b)) (l : List β) (e : Eng) :
    Eng.Spares j e (l.foldl f e) := by
  induction l generalizing e with
  | nil => exact refl j e
  | cons b l ih => exact (hf e b).trans (ih _)

end Eng.Spares

/-! ## A detection (R396 to R404) -/

/-- The latch of a block is none of its first-fault record's members. -/
theorem latch_ne_first (b m : Nat) (hm : m < 16) : Od.FLT_BLOCK.latch b ≠ odKey 0x70 (0x140 + b) m :=
  odKey_ne (by omega)

theorem latch_ne_block (b m : Nat) (hm : m ≠ 2) : Od.FLT_BLOCK.latch b ≠ odKey 0x70 (0x100 + b) m :=
  odKey_ne (by omega)

theorem latch_ne_global (b : Nat) : Od.FLT_BLOCK.latch b ≠ Od.FLT_GLOBAL.sticky :=
  odKey_ne (by omega)

theorem latch_ne_counters (b : Nat) : Od.FLT_BLOCK.latch b ≠ Od.CNT_STATUS.sticky :=
  odKey_ne (by omega)

section
variable {a e : Eng} (x : Ctx) (d : Detection)

theorem Eng.Spares.fillFirst (h : Eng.Spares (Od.FLT_BLOCK.latch d.block) a e) (same extra prior : Nat) :
    Eng.Spares (Od.FLT_BLOCK.latch d.block) a (e.fillFirst x d same extra prior) := by
  have hk := latch_ne_first d.block
  unfold Eng.fillFirst
  exact (((((((((h.set (hk 1 (by decide)) _).set (hk 2 (by decide)) _).set (hk 3 (by decide)) _).set (hk 4 (by decide)) _).set
    (hk 5 (by decide)) _).set (hk 6 (by decide)) _).set (hk 7 (by decide)) _).set (hk 8 (by decide)) _).set
    (hk 10 (by decide)) _).set (hk 9 (by decide)) _

theorem Eng.Spares.recordFirst (h : Eng.Spares (Od.FLT_BLOCK.latch d.block) a e) :
    Eng.Spares (Od.FLT_BLOCK.latch d.block) a (e.recordFirst x d) := by
  have hk := latch_ne_first d.block
  unfold Eng.recordFirst
  exact .ite (h.fillFirst x d ..) (.ite (.ite (h.fillFirst x d ..)
    (.ite (h.orb (hk 9 (by decide)) _) (h.orb (hk 8 (by decide)) _)))
    (.ite ((h.set (hk 11 (by decide)) _).fillFirst x d ..) (h.inc32 (hk 11 (by decide)))))

theorem Eng.Spares.countDetection (h : Eng.Spares (Od.FLT_BLOCK.latch d.block) a e) :
    Eng.Spares (Od.FLT_BLOCK.latch d.block) a (e.countDetection x d) := by
  have hk := latch_ne_block d.block
  unfold Eng.countDetection
  extract_lets e1 e2
  have h1 : Eng.Spares (Od.FLT_BLOCK.latch d.block) a e1 := by
    unfold e1
    split
    · exact (h.inc32 (hk 6 (by decide))).count (latch_ne_counters _) _
    · exact (h.inc32 (hk 7 (by decide))).count (latch_ne_counters _) _
    · exact h
  have h2 : Eng.Spares (Od.FLT_BLOCK.latch d.block) a e2 :=
    .ite ((h1.inc32 (hk 8 (by decide))).orb (latch_ne_global _) _) h1
  exact .ite ((h2.inc32 (hk 9 (by decide))).orb (latch_ne_global _) _) h2

theorem Eng.Spares.notify {b : Nat} (h : Eng.Spares (Od.FLT_BLOCK.latch b) a e) (event : Nat) (extra : Bytes) :
    Eng.Spares (Od.FLT_BLOCK.latch b) a (e.notify x event extra) := by
  have hseg (s : Segment) : Eng.Spares (Od.FLT_BLOCK.latch b) a { e with seg := s } := h.trans ⟨rfl, rfl⟩
  unfold Eng.notify Eng.publish
  refine .ite h ?_
  split
  · exact h.count (latch_ne_counters _) _
  · exact .ite ((hseg _).count (latch_ne_counters _) _) ((hseg _).count (latch_ne_counters _) _)

/-- A change of the rails leaves the objects and the conditions present. -/
theorem Eng.railChange_frame (e : Eng) (reason : EclReason) (blocks first src cause : Nat) :
    (e.railChange x reason blocks first src cause).od = e.od ∧
    (e.railChange x reason blocks first src cause).flt.conds = e.flt.conds := by
  unfold Eng.railChange
  split
  · exact ⟨rfl, rfl⟩
  · split
    · exact ⟨rfl, rfl⟩
    · split <;> exact ⟨rfl, rfl⟩

theorem Eng.railChange_asked (e : Eng) (reason : EclReason) (blocks first src cause : Nat) (h : e.flt.eclipse = false) :
    (e.railChange x reason blocks first src cause).flt.rail.isSome = true := by
  unfold Eng.railChange
  rw [if_neg (Bool.eq_false_iff.1 h)]
  split
  next => rfl
  next r hr =>
    split
    · rfl
    · rw [hr]
      rfl

/-- The end of the linger leaves the objects, the conditions present and the change of the rails. -/
theorem Eng.endLinger_frame (e : Eng) (b : Nat) :
    (e.endLinger b).od = e.od ∧ (e.endLinger b).flt.conds = e.flt.conds ∧ (e.endLinger b).flt.rail = e.flt.rail := by
  unfold Eng.endLinger
  split <;> exact ⟨rfl, rfl, rfl⟩

/-- A detection latches its source; what follows leaves the latch, and for a FATAL one also asks for a rail change. -/
theorem Eng.raise_cases (e : Eng) : ∃ e', Eng.Spares (Od.FLT_BLOCK.latch d.block) (e.latchDetection x d) e' ∧
    e.raise x d = if d.cls = 3 then (e'.railChange x (if d.forced then .forced else .fault) (2 ^ d.block) d.block d.src d.cause).endLinger
      d.block else e' := by
  refine ⟨_, ?_, rfl⟩
  have h := ((Eng.Spares.refl _ (e.latchDetection x d)).countDetection x d).recordFirst x d
  have hp := Eng.Spares.ite
    (p := bitOf (((e.latchDetection x d).countDetection x d).recordFirst x d |>.n (Od.FLT_BLOCK.mask d.block)) d.src = true)
    h (h.irqPoke (x := x) (4 * d.block + d.src))
  exact .ite (hp.notify x 3 _) hp

/-- A detection sets its source's bit of its block's latch, and leaves the others. -/
theorem Eng.raise_latch (e : Eng) :
    (e.raise x d).n (Od.FLT_BLOCK.latch d.block) = e.n (Od.FLT_BLOCK.latch d.block) ||| 2 ^ d.src := by
  obtain ⟨e', hs, he⟩ := e.raise_cases x d
  have hl : e'.n (Od.FLT_BLOCK.latch d.block) = e.n (Od.FLT_BLOCK.latch d.block) ||| 2 ^ d.src := by
    rw [Eng.n, hs.obj, Eng.latchDetection, Eng.orb_i, if_pos rfl]
    rfl
  rw [he]
  split
  · rw [← hl, Eng.n, Eng.i, (Eng.endLinger_frame _ _).1, (Eng.railChange_frame ..).1]
    rfl
  · exact hl

/-- A detection of a state condition adds it to those present; no other detection changes them. -/
theorem Eng.raise_conds (e : Eng) : (e.raise x d).flt.conds =
    if d.isState then ⟨d.block, d.cause / 256, d.cause % 256, d.src, d.cls⟩ :: e.flt.conds else e.flt.conds := by
  obtain ⟨e', hs, he⟩ := e.raise_cases x d
  have hl : e'.flt.conds = if d.isState then ⟨d.block, d.cause / 256, d.cause % 256, d.src, d.cls⟩ :: e.flt.conds else e.flt.conds :=
    congrArg Faults.conds hs.flt
  rw [he]
  split
  · rw [(Eng.endLinger_frame _ _).2.1, (Eng.railChange_frame ..).2, hl]
  · exact hl

/-- Outside Eclipse a FATAL detection leaves a change of the rails asked for. -/
theorem Eng.raise_rail (e : Eng) (hc : d.cls = 3) (hx : e.flt.eclipse = false) : (e.raise x d).flt.rail.isSome = true := by
  obtain ⟨e', hs, he⟩ := e.raise_cases x d
  rw [he, if_pos hc, (Eng.endLinger_frame _ _).2.2]
  exact Eng.railChange_asked _ _ _ _ _ _ _ ((congrArg Faults.eclipse hs.flt).trans hx)

end

/-! ## Conditions of kind state (R400, R402) -/

section
variable (e : Eng) (x : Ctx) (b row inst : Nat)

theorem Eng.detect_latch : (e.detect x b row inst).n (Od.FLT_BLOCK.latch b) = e.n (Od.FLT_BLOCK.latch b) ||| 2 ^ (faultRow b row).src :=
  Eng.raise_latch x _ e

theorem Eng.condOn_hasCond (hinst : inst < 256) : (e.condOn x b row inst).hasCond b row inst = true := by
  unfold Eng.condOn
  dsimp only
  split
  next h => exact h
  next =>
    rw [Eng.hasCond, Eng.raise_conds, if_pos rfl, List.any_cons]
    have hr : (row * 256 + inst % 256) / 256 = row := by omega
    have hi : (row * 256 + inst % 256) % 256 = inst := by omega
    simp [hr, hi]

theorem Eng.condOff_hasCond : (e.condOff x b row inst).hasCond b row inst = false := by
  unfold Eng.condOff
  dsimp only
  split
  next =>
    have hf : (e.flt.conds.filter (fun c => !(c.block == b && c.row == row && c.inst == inst))).any
        (fun c => c.block == b && c.row == row && c.inst == inst) = false := by
      rw [List.any_filter]
      exact List.any_eq_false.2 fun c _ => Bool.eq_false_iff.1 (Bool.not_and_self _)
    split <;> exact hf
  next h => exact Bool.eq_false_iff.2 h

end

/-! ## The fall of a link (R85, R87, R161) -/

/-- An object of an area below those of the answers, the departures, PTP, the rings and the counters is none of theirs. -/
theorem ne_of_area {j area item m : Nat} (hj : j < 0x40 * 65536) (ha : 0x40 ≤ area) : j ≠ odKey area item m := by
  change j ≠ area * 65536 + item * 16 + m
  omega

theorem Eng.Spares.modTx (j : Key) (e : Eng) (r : Nat) (f : TxRing → TxRing) : Eng.Spares j e (e.modTx r f) := ⟨rfl, rfl⟩

theorem Eng.Spares.modLane (j : Key) (e : Eng) (l : Nat) (f : LaneUnit → LaneUnit) : Eng.Spares j e (e.modLane l f) := ⟨rfl, rfl⟩

theorem Eng.Spares.modCal (j : Key) (e : Eng) (p : Nat) (f : Calendar → Calendar) : Eng.Spares j e (e.modCal p f) := ⟨rfl, rfl⟩

theorem Eng.Spares.tailAdd (j : Key) (e : Eng) (x : Ctx) (p : Nat) (y : TailEntry) : Eng.Spares j e (e.tailAdd x p y) := by
  unfold Eng.tailAdd
  refine .irqPoke ?_ _
  exact ⟨rfl, rfl⟩

section
variable {j : Key} {a e : Eng} {x : Ctx}

theorem Eng.Spares.txWriteBack (r n : Nat) (e : Eng) : Eng.Spares j e (e.txWriteBack x r n) := by
  induction n generalizing e with
  | zero => exact .refl j e
  | succ n ih =>
    unfold Eng.txWriteBack
    dsimp only
    split
    · exact .refl j e
    · split
      · exact .refl j e
      · split
        · exact .refl j e
        · refine .trans (.irqPoke ?_ _) (ih _)
          exact ⟨rfl, rfl⟩

variable (hj : j < 0x40 * 65536)

include hj

theorem Eng.Spares.countTxDone (h : Eng.Spares j a e) (r status : Nat) : Eng.Spares j a (e.countTxDone r status) := by
  unfold Eng.countTxDone
  extract_lets e1 e2 e3 e4
  have h1 : Eng.Spares j a e1 := .ite (h.inc64 (ne_of_area hj (by decide))) h
  have h2 : Eng.Spares j a e2 := .ite (h1.inc64 (ne_of_area hj (by decide))) h1
  have h3 : Eng.Spares j a e3 := .ite (h2.inc64 (ne_of_area hj (by decide))) h2
  have h4 : Eng.Spares j a e4 := .ite (h3.inc64 (ne_of_area hj (by decide))) h3
  exact .ite (h4.orb (ne_of_area hj (by decide)) _) h4

theorem Eng.Spares.txFinish (h : Eng.Spares j a e) (r first status : Nat) : Eng.Spares j a (e.txFinish x r first status) := by
  unfold Eng.txFinish
  exact (Eng.Spares.countTxDone hj (h.trans (.modTx ..)) r status).trans (.txWriteBack ..)

theorem Eng.Spares.depMiss (h : Eng.Spares j a e) (p k : Nat) : Eng.Spares j a (e.depMiss x p k) := by
  unfold Eng.depMiss
  exact ((((h.count (ne_of_area hj (by decide)) _).inc64 (ne_of_area hj (by decide))).set (ne_of_area hj (by decide)) _).set
    (ne_of_area hj (by decide)) _).orb (ne_of_area hj (by decide)) _

theorem Eng.Spares.depTell (h : Eng.Spares j a e) (p k : Nat) (o : ResvOrigin) : Eng.Spares j a (e.depTell x p k o) := by
  unfold Eng.depTell
  split
  · exact ((h.count (ne_of_area hj (by decide)) _).inc64 (ne_of_area hj (by decide))).inc64 (ne_of_area hj (by decide))
  · exact h.inc64 (ne_of_area hj (by decide))
  · exact h
  · exact .txFinish hj (h.trans (.tailAdd ..)) ..

theorem Eng.Spares.discardAll (h : Eng.Spares j a e) (p k : Nat) (which : Resv → Bool) :
    Eng.Spares j a (e.discardAll x p k which) := by
  unfold Eng.discardAll
  dsimp only
  refine (h.trans (.modCal j e p _)).trans (.foldl (fun e r => ?_) _ _)
  exact .depTell hj (.depMiss hj (.refl j e) p k) p k _

theorem Eng.Spares.tsFall (h : Eng.Spares j a e) (p : Nat) (ht : j ≠ Od.PORT_STATUS.ts_valid p) :
    Eng.Spares j a (e.tsFall x p) := by
  unfold Eng.tsFall
  split
  · exact .discardAll hj ((h.set ht _).trans (.foldl (fun e l => .modLane j e l _) _ _)) p 7 _
  · exact h

end

/-- The link of a port is no other member of a port's status. -/
theorem link_ne_member (q p m : Nat) (hm : m % 16 ≠ 1) : Od.PORT_STATUS.link q ≠ odKey 0x30 (0x101 + 16 * p) m :=
  odKey_ne (by omega)

theorem link_lt (q : Nat) (hq : q < 32) : Od.PORT_STATUS.link q < 0x40 * 65536 := by
  change 0x30 * 65536 + (0x101 + 16 * q) * 16 + 1 < _
  omega

section
variable {x : Ctx} {q : Nat} (hq : q < 32)

include hq

/-- A link that falls reads 0; what follows from its fall leaves every port's link, and the fault system. -/
theorem Eng.Spares.linkFall (e : Eng) (p : Nat) :
    Eng.Spares (Od.PORT_STATUS.link q) (if e.b (Od.PORT_STATUS.link p) then e.set (Od.PORT_STATUS.link p) 0 else e) (e.linkFall x p) := by
  have hm := link_ne_member q p
  have hj := link_lt q hq
  unfold Eng.linkFall
  split
  next =>
    have h1 := ((Eng.Spares.refl (Od.PORT_STATUS.link q) (e.set (Od.PORT_STATUS.link p) 0)).set (hm 2 (by decide)) 0).set
      (hm 3 (by decide)) 0
    have h2 := (h1.count (x := x) (ne_of_area hj (by decide)) (32 * p + 25)).orb (hm 7 (by decide)) 1
    have h3 := ((h2.inc32 (hm 5 (by decide))).set (hm 6 (by decide)) x.tick).irqLatch (x := x) 228
    exact (Eng.Spares.discardAll hj (.tsFall hj h3 p (hm 4 (by decide))) p 7 _).trans (.foldl (fun e l => .modLane _ e l _) _ _)
  next => exact .refl _ e

theorem Eng.linkFall_down (e : Eng) : (e.linkFall x q).b (Od.PORT_STATUS.link q) = false := by
  rw [Eng.b, (Eng.Spares.linkFall hq e q).obj]
  split
  next => rw [Eng.set_i_same]; rfl
  next h => exact Bool.eq_false_iff.2 h

/-- No link rises by the fall of one. -/
theorem Eng.linkFall_stays (e : Eng) (p : Nat) (h : e.b (Od.PORT_STATUS.link q) = false) :
    (e.linkFall x p).b (Od.PORT_STATUS.link q) = false := by
  rw [Eng.b, (Eng.Spares.linkFall hq e p).obj]
  split
  next =>
    rw [Eng.set_i]
    split
    · rfl
    · exact h
  next => exact h

theorem Eng.linkFall_flt (e : Eng) (p : Nat) : (e.linkFall x p).flt = e.flt := by
  rw [(Eng.Spares.linkFall hq e p).flt]
  split <;> rfl

end

/-- The fall of several links leaves the fault system. -/
theorem Eng.linkFalls_flt (e : Eng) (x : Ctx) (f : Nat → Nat) (l : List Nat) : (l.foldl (fun e i => e.linkFall x (f i)) e).flt = e.flt := by
  induction l generalizing e with
  | nil => rfl
  | cons i l ih => exact (ih _).trans (Eng.linkFall_flt (q := 0) (by decide) e _)

/-- A link among several that fall is down, and one that was down stays so. -/
theorem Eng.linkFalls_down {x : Ctx} (f : Nat → Nat) (l : List Nat) (e : Eng) {q : Nat} (hq : q < 32)
    (h : e.b (Od.PORT_STATUS.link q) = false ∨ q ∈ l.map f) :
    (l.foldl (fun e i => e.linkFall x (f i)) e).b (Od.PORT_STATUS.link q) = false := by
  induction l generalizing e with
  | nil => exact h.resolve_right (List.not_mem_nil)
  | cons i l ih =>
    refine ih _ ?_
    rcases h with h | h
    · exact .inl (Eng.linkFall_stays hq e _ h)
    · rcases List.mem_cons.1 h with rfl | h
      · exact .inl (Eng.linkFall_down hq e)
      · exact .inr h

/-! ## The failures -/

/-- The unlock of a group's PLL is a condition, and takes its four links down (R85). -/
theorem Eng.serdesUnlock_falls (e : Eng) (x : Ctx) (g : Fin 8) :
    (e.serdesUnlock x g).hasCond 20 3 g = true ∧ ∀ i : Fin 4, (e.serdesUnlock x g).b (Od.PORT_STATUS.link (4 * g + i)) = false := by
  unfold Eng.serdesUnlock Eng.groupDown
  constructor
  · rw [Eng.hasCond, Eng.linkFalls_flt]
    exact e.condOn_hasCond x 20 3 g (by omega)
  · exact fun i => Eng.linkFalls_down (fun j => 4 * g + j) _ _ (by omega) (.inr (List.mem_map.2 ⟨i, List.mem_range.2 i.isLt, rfl⟩))

/-- What the clock's monitor keeps of a comparison (R21). -/
def Monitors.compared (m : Monitors) (coreDev ringDev : Int) : Monitors :=
  { m with coreOut := decide (100000 < coreDev.natAbs), ringOut := decide (2000000 < ringDev.natAbs), ringPpb := ringDev }

/-- A comparison of the clock's monitor is kept; one out of tolerance twice running is a fatal fault of block 0, and any other changes
nothing else (R21). -/
theorem Eng.clockMonitor_cases (e : Eng) (x : Ctx) (coreDev ringDev : Int) :
    e.clockMonitor x coreDev ringDev =
      if (100000 < coreDev.natAbs ∧ e.mon.coreOut = true) ∨ (2000000 < ringDev.natAbs ∧ e.mon.ringOut = true) then
        { e with mon := e.mon.compared coreDev ringDev }.detect x 0 4 0
      else { e with mon := e.mon.compared coreDev ringDev } := by
  unfold Eng.clockMonitor coreTolerance ringTolerance Monitors.compared
  simp only [Bool.or_eq_true, Bool.and_eq_true, decide_eq_true_eq]

theorem Eng.dumpCut_od (e : Eng) : e.dumpCut.od = e.od := by
  unfold Eng.dumpCut
  split <;> rfl

/-- What the clock's monitor does (R21): the second clause of `clockAndCoreFailuresAreFound`. -/
theorem exec_timeClockMonitor_finds (s : State) (coreDev ringDev : Int) (hup : s.eng.up = true) :
    ∃ t, exec (.timeClockMonitor coreDev ringDev) s = .next t ∧ s.beside t ∧
      t.eng.mon = { s.eng.mon with
        coreOut := decide (100000 < coreDev.natAbs), ringOut := decide (2000000 < ringDev.natAbs), ringPpb := ringDev } ∧
      ((100000 < coreDev.natAbs ∧ s.eng.mon.coreOut = true) ∨ (2000000 < ringDev.natAbs ∧ s.eng.mon.ringOut = true) →
        t.eng.n (Od.FLT_BLOCK.latch 0) = s.eng.n (Od.FLT_BLOCK.latch 0) ||| 4 ∧
        (s.eng.flt.eclipse = false → t.eng.flt.rail.isSome = true)) ∧
      (¬(100000 < coreDev.natAbs ∧ s.eng.mon.coreOut = true) → ¬(2000000 < ringDev.natAbs ∧ s.eng.mon.ringOut = true) →
        t.eng.od = s.eng.od ∧ t.eng.flt = s.eng.flt) := by
  refine ⟨_, (exec_timeClockMonitor coreDev ringDev s).trans (lift_up hup _), ⟨rfl, rfl, rfl⟩, ?_⟩
  dsimp only
  rw [Eng.clockMonitor_cases]
  split
  next hbad =>
    refine ⟨Eng.quiet_mon (Eng.quiet_detect (Eng.quiet_refl _) ..), fun _ => ⟨Eng.detect_latch _ _ 0 4 0, fun hx => ?_⟩, fun h h' => ?_⟩
    · exact Eng.raise_rail _ _ _ rfl hx
    · exact absurd hbad (not_or.2 ⟨h, h'⟩)
  next hok => exact ⟨rfl, fun hbad => absurd hbad hok, fun _ _ => ⟨rfl, rfl⟩⟩

/-- What a watchdog's expiry does: the third clause of `clockAndCoreFailuresAreFound`. -/
theorem exec_watchdogExpiry_takesCoresDown (s : State) (hup : s.eng.up = true) (hfw : s.eng.boot.fw = true)
    (hdown : s.eng.boot.coresDown = false) :
    ∃ t, exec .watchdogExpiry s = .next t ∧ t.eng.boot.coresDown = true ∧ t.eng.nts.sessions = [] ∧
      t.eng.n (Od.FLT_BLOCK.latch 18) = s.eng.n (Od.FLT_BLOCK.latch 18) ||| 4 ∧ s.beside t := by
  refine ⟨_, (exec_watchdogExpiry s).trans (lift_up hup _), ?_⟩
  have hdue : (s.eng0.boot.fw && !s.eng0.boot.coresDown) = true := by
    change (s.eng.boot.fw && !s.eng.boot.coresDown) = true
    rw [hfw, hdown]
    rfl
  dsimp only
  rw [hdue, whenDue_true]
  unfold Eng.watchdog
  have hq := Eng.quiet_detect (Eng.quiet_refl { s.eng0.dumpCut with
    boot := { s.eng0.dumpCut.boot with coresDown := true }, nts := { s.eng0.dumpCut.nts with sessions := [] } }) s.ctx 18 1 0
  refine ⟨congrArg Boot.coresDown (Eng.quiet_boot hq), congrArg Nts.sessions (Eng.quiet_nts hq), ?_, ⟨rfl, rfl, rfl⟩⟩
  refine (Eng.detect_latch _ _ 18 1 0).trans ?_
  rw [Eng.n, Eng.i]
  dsimp only
  rw [Eng.dumpCut_od]
  rfl

/-- Settles O22: each PLL's unlock is the condition its command begins, the monitor and the watchdog are the detections
`Eng.detect_latch` and `Eng.raise_rail` speak of. -/
theorem clockAndCoreFailuresAreFound : Obligations.ClockAndCoreFailuresAreFound := by
  unfold Obligations.ClockAndCoreFailuresAreFound
  refine ⟨fun s hup => ?_, fun s coreDev ringDev hup => exec_timeClockMonitor_finds s coreDev ringDev hup, fun s hup => ?_⟩
  · have hq : s.eng.quiet s.eng0 := Eng.quiet_fresh (Eng.quiet_refl _)
    refine ⟨⟨_, (exec_timeClockPllUnlock s).trans (lift_up hup _), ?_⟩, ⟨_, (exec_corePllUnlock s).trans (lift_up hup _), ?_⟩,
      ⟨_, (exec_ddrPllUnlock s).trans (lift_up hup _), ?_⟩, ⟨_, (exec_ddrPllLock s).trans (lift_up hup _), ?_⟩, fun group =>
      ⟨⟨_, (exec_serdesPllUnlock group s).trans (lift_up hup _), ?_⟩, ⟨_, (exec_serdesPllLock group s).trans (lift_up hup _), ?_⟩⟩⟩
    · exact ⟨Eng.condOn_hasCond _ _ 0 4 0 (by decide), Eng.quiet_condOn hq .., rfl, rfl, rfl⟩
    · exact ⟨Eng.condOn_hasCond _ _ 20 1 0 (by decide), Eng.quiet_condOn hq .., rfl, rfl, rfl⟩
    · exact ⟨Eng.condOn_hasCond _ _ 20 2 0 (by decide),
        congrArg Boot.coresHeld (Eng.quiet_boot (Eng.quiet_condOn (Eng.quiet_refl _) s.ctx 20 2 0)), rfl, rfl, rfl⟩
    · exact ⟨Eng.condOff_hasCond _ _ 20 2 0,
        congrArg Boot.coresHeld (Eng.quiet_boot (Eng.quiet_condOff (Eng.quiet_refl _) s.ctx 20 2 0)), rfl, rfl, rfl⟩
    · obtain ⟨hcond, hlinks⟩ := s.eng0.serdesUnlock_falls s.ctx group
      exact ⟨hcond, hlinks, rfl, rfl, rfl⟩
    · exact ⟨Eng.condOff_hasCond _ _ 20 3 group, Eng.quiet_condOff hq .., rfl, rfl, rfl⟩
  · exact ⟨exec_watchdogExpiry_takesCoresDown s hup, _, (exec_coresRestart s).trans (lift_up hup _), rfl⟩

end Sys2Proof.Machine
end

section
/-! # The start and the boot (R22, R423, R425, R446, R449) -/

namespace Sys2Proof.Machine

/-- What a command does that acts in reset too, when it is due. -/
theorem liftAlways_whenDue (s : State) (due : Ctx → Eng → Bool) (f : Ctx → Eng → Eng) (h : due s.ctx s.eng0 = true) :
    liftAlways (fun x e => whenDue (due x e) (f x) e) s = .next { s with eng := f s.ctx s.eng0 } := by
  unfold liftAlways
  dsimp only
  rw [h, whenDue_true]

/-- In the wait for the PLLs' lock a command due then acts. -/
theorem locking_due {s : State} {p : Phase} (h : s.eng.boot.phase = p) : (s.eng0.boot.phase == p) = true :=
  beq_iff_eq.2 h

/-! ## DDR and the image (R425, R426, R446) -/

section
variable (e : Eng) (x : Ctx)

theorem Eng.recover_state : e.recover.boot.recovery = true ∧ e.recover.i Od.BOOT_STATUS.state = 2 :=
  ⟨rfl, Eng.set_i_same ..⟩

theorem Eng.ddrTrained_untried (good : Bool) (hd : e.boot.ddr = false) (hr : e.boot.recovery = false) :
    e.ddrTrained good = if good then { e with boot := { e.boot with ddr := true } } else e.recover := by
  unfold Eng.ddrTrained
  rw [hd, hr]
  rfl

/-- The objects a started image sets are three. -/
theorem boot_keys_nodup : [Od.BOOT_STATUS.state, Od.BOOT_STATUS.slot, Od.BOOT_STATUS.security_version].Nodup := by decide

theorem Eng.boots_slot (slot : Nat) :
    (e.boots slot).boot.fw = true ∧ (e.boots slot).boot.slot = slot ∧ (e.boots slot).i Od.BOOT_STATUS.state = 1 :=
  ⟨rfl, rfl, Eng.setAll_i_mem _ [(_, _), (_, _), (_, _)] boot_keys_nodup (Od.BOOT_STATUS.state, 1) (List.mem_cons_self ..)⟩

/-- The ROM starts the first slot of its list whose image verifies. -/
theorem Eng.trySlots_good (slot : Nat) (slots : List Nat) (h : (e.slotImage slot).check x = 1) :
    e.trySlots x (slot :: slots) = (e.set (refusedKey slot) 1).boots slot := by
  unfold Eng.trySlots
  dsimp only
  rw [h]
  rfl

/-- The ROM goes on from a slot whose image does not verify. -/
theorem Eng.trySlots_bad (slot : Nat) (slots : List Nat) (h : (e.slotImage slot).check x ≠ 1) :
    e.trySlots x (slot :: slots) = (e.set (refusedKey slot) ((e.slotImage slot).check x : Nat)).trySlots x slots := by
  rw [Eng.trySlots]
  exact if_neg h

theorem Eng.bootImage_due (hd : e.boot.ddr = true) (hf : e.boot.fw = false) (hr : e.boot.recovery = false) (p : Nat)
    (hp : p = if e.boot.forceB then 1 else e.flash.preferred) : e.bootImage x = e.trySlots x [p, 1 - p] := by
  unfold Eng.bootImage
  rw [hd, hf, hr, hp]
  rfl

end

/-! ## The stores (R125, R175, R358, R449) -/

section
variable (e : Eng) (x : Ctx)

theorem Eng.detect_boot (b row inst : Nat) : (e.detect x b row inst).boot = e.boot :=
  Eng.quiet_boot (Eng.quiet_detect (Eng.quiet_refl e) ..)

theorem Eng.detect_flash (b row inst : Nat) : (e.detect x b row inst).flash = e.flash :=
  Eng.quiet_flash (Eng.quiet_detect (Eng.quiet_refl e) ..)

theorem Eng.loadValues_boot (vs : Store) : (e.loadValues vs).boot = e.boot := Eng.loadValues_keeps (φ := .boot) e vs

theorem Eng.loadValues_flash (vs : Store) : (e.loadValues vs).flash = e.flash := Eng.loadValues_keeps (φ := .flash) e vs

theorem Eng.foldl_flash {β : Type} {f : Eng → β → Eng} (h : ∀ e b, (f e b).flash = e.flash) (l : List β) :
    (l.foldl f e).flash = e.flash :=
  Facet.of_foldl (φ := .flash) e f h l

theorem Eng.credsRestored_marks (keyA keyB : Bool) (h : e.boot.creds = false) :
    (e.credsRestored x keyA keyB).boot.creds = true ∧ (e.credsRestored x keyA keyB).flash.keyBad = [!keyA, !keyB] := by
  unfold Eng.credsRestored
  rw [if_neg (Bool.eq_false_iff.1 h)]
  extract_lets boot flash e1 e2
  have hb : e2.boot = e1.boot := by
    unfold e2
    split <;> rfl
  have hf : e2.flash = e1.flash := by
    unfold e2
    split <;> rfl
  split
  · dsimp only
    rw [Eng.loadValues_boot, Eng.loadValues_flash, hb, hf]
    exact ⟨rfl, rfl⟩
  · rw [Eng.detect_boot, Eng.detect_flash]
    exact ⟨congrArg Boot.creds hb, congrArg Flash.keyBad hf⟩

theorem Eng.calRestored_calBad (calA calB : Bool) : (e.calRestored x calA calB).flash.calBad = [!calA, !calB] := by
  unfold Eng.calRestored
  extract_lets flash e1 e2 e3 e4
  have h3 : e3.flash = e1.flash := by
    unfold e3
    refine Eng.foldl_flash e1 (fun e k => ?_) _
    rfl
  have h4 : e4.flash = e3.flash := by
    unfold e4
    refine Eng.foldl_flash e3 (fun e k => ?_) _
    rfl
  split
  · split
    · exact congrArg Flash.calBad (e1.loadValues_flash _)
    · rw [Eng.detect_flash]
      exact congrArg Flash.calBad (e1.loadValues_flash _)
  · rw [Eng.detect_flash, h4, h3]

theorem Eng.storesRestored_marks (calA calB : Bool) (hf : e.fwRuns = true) (hs : e.boot.stores = false) :
    (e.storesRestored x calA calB).boot.stores = true ∧ (e.storesRestored x calA calB).flash.calBad = [!calA, !calB] := by
  unfold Eng.storesRestored
  rw [hf, hs]
  exact ⟨rfl, (congrArg Flash.calBad (Eng.keysRestored_keeps (φ := .flash) _ (by decide))).trans (Eng.calRestored_calBad ..)⟩

/-- The objects the restore tick shows are three. -/
theorem restore_keys_nodup : [Od.STORE.boot_copy, Od.STORE.generation, Od.BOOT_STATUS.restore_tick].Nodup := by decide

theorem Eng.restoreTick_marks (hf : e.fwRuns = true) (hs : e.boot.stores = true) (hr : e.boot.restored = false) :
    (e.restoreTick x).boot.restored = true ∧ (e.restoreTick x).i Od.BOOT_STATUS.restore_tick = x.tick := by
  have hdue : (e.fwRuns && e.boot.stores && !e.boot.restored) = true := by
    rw [hf, hs, hr]
    rfl
  unfold Eng.restoreTick
  rw [if_pos hdue]
  extract_lets c copy e1 e2
  exact ⟨rfl, Eng.setAll_i_mem e1 [(_, _), (_, _), (_, _)] restore_keys_nodup (Od.BOOT_STATUS.restore_tick, (x.tick : Int))
    (List.mem_cons_of_mem _ (List.mem_cons_of_mem _ (List.mem_cons_self ..)))⟩

end

/-! ## From reset to running -/

/-- Settles O25: the start is its commands' effect when due; each step of the boot then says what it leaves. -/
theorem theDeviceStartsAndBoots : Obligations.TheDeviceStartsAndBoots := by
  unfold Obligations.TheDeviceStartsAndBoots
  refine ⟨fun s => ⟨fun osc forceB h => ?_, fun h => ⟨?_, ?_, ?_⟩⟩, fun s hup => ⟨fun hd hr => ⟨?_, ?_⟩, fun keyA keyB hc => ?_,
    fun p hp hd hf hr => ?_, fun calA calB hf hs => ?_, fun hf hs hr => ?_⟩⟩
  · exact ⟨_, (exec_resetRelease osc forceB s).trans (liftAlways_whenDue s _ _ (locking_due h)), ⟨rfl, rfl, rfl⟩, rfl⟩
  · exact ⟨_, (exec_pllLock true s).trans (liftAlways_whenDue s _ _ (locking_due h)), rfl, ⟨rfl, rfl, rfl⟩, rfl⟩
  · exact ⟨_, (exec_pllLock false s).trans (liftAlways_whenDue s _ _ (locking_due h)), rfl, ⟨rfl, rfl, rfl⟩, rfl⟩
  · exact ⟨_, (exec_pllLockTimeout s).trans (liftAlways_whenDue s _ _ (locking_due h)), rfl, ⟨rfl, rfl, rfl⟩, rfl⟩
  · refine ⟨_, (exec_ddrTrained true s).trans (lift_up hup _), ?_⟩
    dsimp only
    rw [Eng.ddrTrained_untried s.eng0 true hd hr]
    exact ⟨rfl, ⟨rfl, rfl, rfl⟩, rfl⟩
  · refine ⟨_, (exec_ddrTrained false s).trans (lift_up hup _), ?_⟩
    dsimp only
    rw [Eng.ddrTrained_untried s.eng0 false hd hr]
    exact ⟨rfl, (Eng.recover_state _).2, rfl, rfl, rfl⟩
  · obtain ⟨hcreds, hbad⟩ := s.eng0.credsRestored_marks s.ctx keyA keyB hc
    exact ⟨_, (exec_credentialsRestored keyA keyB s).trans (lift_up hup _), hcreds, hbad, rfl, rfl, rfl⟩
  · refine ⟨_, (exec_imageVerified s).trans (lift_up hup _), ⟨rfl, rfl, rfl⟩, fun h => ?_, fun h h' => ?_, fun h h' => ?_⟩
    all_goals dsimp only; rw [Eng.bootImage_due s.eng0 s.ctx hd hf hr p hp]
    · rw [Eng.trySlots_good s.eng0 s.ctx p _ h]
      exact Eng.boots_slot ..
    · rw [Eng.trySlots_bad s.eng0 s.ctx p _ h, Eng.trySlots_good (s.eng0.set _ _) s.ctx (1 - p) [] h']
      exact Eng.boots_slot ..
    · rw [Eng.trySlots_bad s.eng0 s.ctx p _ h, Eng.trySlots_bad (s.eng0.set _ _) s.ctx (1 - p) [] h']
      exact ⟨rfl, hf, (Eng.recover_state _).2⟩
  · obtain ⟨hstores, hbad⟩ := s.eng0.storesRestored_marks s.ctx calA calB hf hs
    exact ⟨_, (exec_storesRestored calA calB s).trans (lift_up hup _), hstores, hbad, rfl, rfl, rfl⟩
  · obtain ⟨hrestored, htick⟩ := s.eng0.restoreTick_marks s.ctx hf hs hr
    exact ⟨_, (exec_restoreTick s).trans (lift_up hup _), hrestored, htick, rfl, rfl, rfl⟩

end Sys2Proof.Machine
end

section
/-! # The moons' accumulators (R38) -/

namespace Sys2Proof.Machine

/-! ## A run of ticks -/

/-- A running device's tick advances the time clock, and leaves it running (R22). -/
theorem exec_tick_up {s : State} (hs : s.eng.up = true) (upsets : List CopyUpset) (hits : List TickHit) :
    ∃ t, exec (.tick upsets hits) s = .next t ∧ t.eng.up = true ∧ t.core = s.core.advance :=
  ⟨_, if_pos hs, (s.eng0.tickEnds_up s.ctx upsets hits).trans hs, rfl⟩

/-- Ticks of a running device advance the time clock once each. -/
theorem execAll_ticks (hs : List (List CopyUpset × List TickHit)) {s : State} (hup : s.eng.up = true) :
    ∃ t, execAll (hs.map (fun h => .tick h.1 h.2)) s = some t ∧ t.eng.up = true ∧
      t.core = TimeCore.advance^[hs.length] s.core := by
  induction hs generalizing s with
  | nil => exact ⟨s, rfl, hup, rfl⟩
  | cons h hs ih =>
    obtain ⟨u, hu, huup, hcore⟩ := exec_tick_up hup h.1 h.2
    obtain ⟨t, ht, htup, htcore⟩ := ih huup
    refine ⟨t, ?_, htup, ?_⟩
    · rw [List.map_cons, execAll, hu]
      exact ht
    · rw [htcore, hcore, List.length_cons, Function.iterate_succ_apply]

theorem TimeCore.advance_iterate_tick {c : TimeCore} (h : c.tick < 2 ^ 64) (n : Nat) :
    (TimeCore.advance^[n] c).tick = (c.tick + n) % 2 ^ 64 := by
  induction n with
  | zero => exact (Nat.mod_eq_of_lt h).symm
  | succ n ih => rw [Function.iterate_succ_apply', TimeCore.advance, ih, Nat.mod_add_mod, Nat.add_assoc]

theorem TimeCore.moon_advance_iterate (c : TimeCore) (k n : Nat) :
    (TimeCore.advance^[n] c).moon k = MoonCore.advance^[n] (c.moon k) :=
  Function.Semiconj.iterate_right (f := fun c : TimeCore => c.moon k) (fun c => c.moon_advance k) n c

/-- What `n` ticks make of a moon: its increment and advance stand, and its accumulator takes the increment `n` times. -/
theorem MoonCore.advance_iterate (m : MoonCore) (n : Nat) :
    (MoonCore.advance^[n] m).inc = m.inc ∧ (MoonCore.advance^[n] m).adv = m.adv ∧
      (MoonCore.advance^[n] m).acc.toNat = (m.acc.toNat + (if m.adv then n * m.inc.toNat else 0)) % 2 ^ 128 := by
  induction n with
  | zero => simp [Nat.mod_eq_of_lt m.acc.isLt]
  | succ n ih =>
    obtain ⟨hinc, hadv, hacc⟩ := ih
    rw [Function.iterate_succ_apply', MoonCore.advance_inc, MoonCore.advance_adv, MoonCore.advance_acc, hinc, hadv]
    refine ⟨rfl, rfl, ?_⟩
    cases hm : m.adv with
    | false =>
      rw [hm] at hacc
      exact hacc
    | true =>
      rw [hm] at hacc
      have hw : m.inc.toNat % 2 ^ 128 = m.inc.toNat := Nat.mod_eq_of_lt (m.inc.isLt.trans (by decide))
      simp only [if_true, BitVec.toNat_add, BitVec.toNat_setWidth, hw, Nat.succ_mul] at hacc ⊢
      rw [hacc, Nat.mod_add_mod, Nat.add_assoc]

/-! ## What a boundary changes of an accumulator -/

/-- A decision that neither sets nor steps leaves the accumulator. -/
theorem MoonCore.take_acc_of_still (m : MoonCore) {d : Decision} (hset : d.setTo = none) (hstep : d.delta = 0) :
    (m.take d).acc = m.acc := by
  have hlt : (m.acc.toNat : Int) < (2 ^ 128 : Nat) := by exact_mod_cast m.acc.isLt
  simp only [MoonCore.take, applyDecision, hset, hstep, unsigned, Int.add_zero, Int.emod_eq_of_lt (Int.natCast_nonneg _) hlt,
    Int.toNat_natCast, BitVec.ofNat_toNat, BitVec.setWidth_eq]

/-- At a boundary a moon takes its sealed decision, or stands. -/
theorem TimeCore.moon_takeAll_cases (c : TimeCore) (tl : List MoonTl) (k : Nat) :
    (c.takeAll tl).moon k = c.moon k ∨
      ∃ d, (nth tl k (MoonTl.atReset k)).decision = some d ∧ (c.takeAll tl).moon k = (c.moon k).take d := by
  by_cases hk : k < c.moons.length
  · cases hd : (nth tl k (MoonTl.atReset k)).decision with
    | some d => exact .inr ⟨d, rfl, c.moon_takeAll tl hk hd⟩
    | none =>
      left
      rw [TimeCore.moon, TimeCore.takeAll, tabulate, nth, List.getD_eq_getElem _ _ (by simpa using hk), List.getElem_map,
        List.getElem_range, hd]
  · left
    have hl : c.moons.length ≤ k := not_lt.1 hk
    rw [TimeCore.moon, TimeCore.moon, nth, nth, List.getD_eq_default _ _ hl,
      List.getD_eq_default _ _ (by simpa [TimeCore.takeAll, tabulate] using hl)]

/-- A boundary that changes an accumulator takes a decision that sets or steps its moon. -/
theorem TimeCore.takeAll_acc_ne {c : TimeCore} {tl : List MoonTl} {k : Nat}
    (h : ((c.takeAll tl).moon k).acc ≠ (c.moon k).acc) :
    ∃ d, (nth tl k (MoonTl.atReset k)).decision = some d ∧ (d.setTo.isSome = true ∨ d.delta ≠ 0) := by
  obtain hm | ⟨d, hd, hm⟩ := c.moon_takeAll_cases tl k
  · exact absurd (congrArg MoonCore.acc hm) h
  · refine ⟨d, hd, ?_⟩
    by_contra hstill
    obtain ⟨hset, hstep⟩ := not_or.1 hstill
    exact h ((congrArg MoonCore.acc hm).trans
      ((c.moon k).take_acc_of_still (Option.not_isSome_iff_eq_none.1 hset) (not_not.1 hstep)))

/-- The linear count is the accumulator without its fraction, of 96 bits (R38). -/
theorem Ctx.lin_lt (x : Ctx) (k : Nat) : x.lin k < 2 ^ 96 :=
  Nat.div_lt_of_lt_mul (x.core.moon k).acc.isLt

/-- Settles O18: a run of ticks iterates the clock's advance; of the ways a command moves the clock, a boundary alone is left to judge. -/
theorem ticksCountTime : Obligations.TicksCountTime := by
  refine ⟨fun s hs hwhole hup => ?_, fun s k => ⟨rfl, s.ctx.lin_lt k⟩, fun c s t k h hacc => ?_⟩
  · obtain ⟨t, ht, htup, hcore⟩ := execAll_ticks hs hup
    refine ⟨t, ht, htup, ?_, fun k => ?_⟩
    · rw [hcore, TimeCore.advance_iterate_tick hwhole.2]
    · rw [hcore, TimeCore.moon_advance_iterate]
      exact MoonCore.advance_iterate _ _
  · obtain hc | ⟨htick, -⟩ | ⟨⟨inp, hb⟩, hc⟩ | hr := exec_core h
    · exact absurd (by rw [hc]) hacc
    · exact .inl htick
    · rw [hc] at hacc
      obtain ⟨d, hd, hmoves⟩ := TimeCore.takeAll_acc_ne hacc
      exact .inr (.inl ⟨inp, d, hb, hd, hmoves⟩)
    · exact .inr (.inr hr)

end Sys2Proof.Machine
end

section
/-! # Object numbers, due events and refused writes: what the chapters' statements share -/

namespace Sys2Proof.Machine

/-! ## Object numbers -/

/-- The members of one item are different objects. -/
theorem odKey_injective (a i : Nat) : Function.Injective (odKey a i) := fun m m' (h : a * 65536 + i * 16 + m = _ + m') => by omega

/-- A write that names each member of an item once names each object once. -/
theorem odKey_nodup (a i : Nat) {ms : List Nat} (h : ms.Nodup) : (ms.map (odKey a i)).Nodup := h.map (odKey_injective a i)

/-! ## A write that its chapter turns away, and an event -/

/-- The objects in which a chapter counts a write it turns away (R68, R83). -/
def refusalCounter (j : Key) : Prop :=
  (∃ m, j = Od.MOON_STATUS.refused m ∨ j = Od.MOON_STATUS.sticky m) ∨ j = Od.SCHED_STATUS.refused ∨ j = Od.SCHED_STATUS.sticky

theorem Eng.refusedHook_i_of_not_counter (e : Eng) (k : Key) (st : Nat) {j : Key} (h : ¬ refusalCounter j) :
    (e.refusedHook k st).i j = e.i j := by
  simp only [refusalCounter, not_or, not_exists] at h
  exact e.refusedHook_i k st j h.1 h.2

/-- A command's admitted write that its chapter turns away answers the status, and changes objects of the accounting alone. -/
theorem lift_writeCmd_turnedAway {s : State} {k : Key} {v : Int} {roles st : Nat} {op : Ctx → Eng → WriteRes}
    (hu : s.eng.up = true) (ha : s.eng.admits k v roles = true) (ho : op s.ctx s.eng0 = (st, s.eng0)) :
    ∃ t, lift (fun x e => e.writeCmd x k v roles (op x)) s = .next t ∧ t.eng.resp.status = st ∧
      (∀ j, accounting j = false → ¬ refusalCounter j → t.eng.i j = s.eng.i j) ∧ s.eng.onlyObjects t.eng ∧ s.beside t := by
  obtain ⟨p, hp⟩ := Eng.writeCmd_admitted (e := s.eng0) (k := k) (v := v) (roles := roles) s.ctx ha ho
  refine ⟨_, lift_up hu _, ?_⟩
  rw [hp]
  refine ⟨by simp, fun j hj hc => ?_, ?_, rfl, rfl, rfl⟩
  · exact (Eng.account_i _ _ _ _ _ hj).trans (s.eng0.refusedHook_i_of_not_counter k st hc)
  · exact Eng.account_onlyObjects (Eng.refusedHook_onlyObjects (Eng.onlyObjects_fresh (Eng.onlyObjects_refl _)) _ _) _ _ _

/-- An event that is due acts. -/
theorem lift_whenDue {s : State} {due : Ctx → Eng → Bool} {f : Ctx → Eng → Eng} (hu : s.eng.up = true)
    (hd : due s.ctx s.eng0 = true) :
    lift (fun x e => whenDue (due x e) (f x) e) s = .next { s with eng := f s.ctx s.eng0 } := by
  rw [lift_up hu, hd, whenDue_true]

end Sys2Proof.Machine
end

section
/-! # The moons' writes (R39 to R49, R61, R68) -/

namespace Sys2Proof.Machine

/-! ## The objects of a moon -/

section
variable (moon : Fin 32)

/-- No object of a moon is one of the accounting's. -/
theorem accounting_moonKey (i m : Fin 16) : accounting (odKey 0x10 (0x100 + i + 16 * moon) m) = false :=
  accounting_area (by decide) (by omega)

/-- Of a moon's objects only those of MOON_STATUS count what its chapter turns away. -/
theorem not_refusalCounter_moonKey (i m : Fin 16) (hi : i < 8) : ¬ refusalCounter (odKey 0x10 (0x100 + i + 16 * moon) m) := by
  rintro (⟨n, h | h⟩ | h | h) <;> exact odKey_ne (by omega) h

/-- No object of a compare cell is one of the accounting's. -/
theorem accounting_cmpKey (c : Fin 4) (m : Fin 16) : accounting (odKey 0x10 (0x10C + c + 16 * moon) m) = false :=
  accounting_area (by decide) (by omega)

variable {s : State} {k : Key} {v : Int} {roles : Nat} {op : Ctx → Eng → WriteRes} {vs : List (Key × Int)}

/-- Values for members of one item of a moon, each named once, are a store that `State.wrote` describes. -/
theorem moonItem_names (i : Fin 16) (ms : List (Fin 16)) (hms : ms.Nodup)
    (hvs : vs.map Prod.fst = ms.map (fun m : Fin 16 => odKey 0x10 (0x100 + i + 16 * moon) m)) :
    (vs.map Prod.fst).Nodup ∧ ∀ q ∈ vs, accounting q.1 = false := by
  refine ⟨hvs ▸ hms.map ((odKey_injective _ _).comp Fin.val_injective), fun q hq => ?_⟩
  obtain ⟨m, -, hm⟩ := List.mem_map.1 (hvs ▸ List.mem_map_of_mem (f := Prod.fst) hq)
  exact hm ▸ accounting_moonKey moon i m

/-- A command's admitted write that stores members of one item of a moon. -/
theorem lift_writeCmd_moonItem (i : Fin 16) (ms : List (Fin 16)) (hup : s.eng.up = true) (ha : s.eng.admits k v roles = true)
    (ho : op s.ctx s.eng0 = (stOk, s.eng0.setAll vs)) (hms : ms.Nodup)
    (hvs : vs.map Prod.fst = ms.map (fun m : Fin 16 => odKey 0x10 (0x100 + i + 16 * moon) m)) :
    ∃ t, lift (fun x e => e.writeCmd x k v roles (op x)) s = .next t ∧ s.wrote t vs :=
  have ⟨hn, hk⟩ := moonItem_names moon i ms hms hvs
  lift_writeCmd_wrote vs hup ha ho hn hk

/-- A moon's write that its chapter turns away leaves the object it names. -/
theorem lift_writeCmd_moonTurnedAway (i m : Fin 16) (hi : i < 8) {st : Nat} (hup : s.eng.up = true)
    (ha : s.eng.admits k v roles = true) (ho : op s.ctx s.eng0 = (st, s.eng0)) :
    ∃ t, lift (fun x e => e.writeCmd x k v roles (op x)) s = .next t ∧ t.eng.resp.status = st ∧
      t.eng.i (odKey 0x10 (0x100 + i + 16 * moon) m) = s.eng.i (odKey 0x10 (0x100 + i + 16 * moon) m) ∧
      s.eng.onlyObjects t.eng ∧ s.beside t := by
  obtain ⟨t, ht, hst, hobj, hrest⟩ := lift_writeCmd_turnedAway hup ha ho
  exact ⟨t, ht, hst, hobj _ (accounting_moonKey moon i m) (not_refusalCounter_moonKey moon i m hi), hrest⟩

end

/-! ## What each write stores, and when it is turned away -/

section
variable {e : Eng} {k : Nat}

theorem moonIncWrite_open (v : Int) (hf : e.follows k = false) (ho : e.loopOpen k = true) :
    moonIncWrite k v e = (stOk, e.setAll [(Od.MOON_INC_STAGED k, v)]) := by
  rw [moonIncWrite, hf, ho]
  rfl

theorem moonIncWrite_turnedAway (v : Int) (h : e.follows k = true ∨ e.loopOpen k = false) : moonIncWrite k v e = (stMode, e) :=
  if_pos (by obtain h | h := h <;> simp [h])

theorem moonStepWrite_own (v : Int) (hf : e.follows k = false) :
    moonStepWrite k v e = (stOk, e.setAll [(Od.MOON_STEP_STAGED k, v)]) :=
  if_neg (by simp [hf])

theorem moonStepWrite_follower (v : Int) (hf : e.follows k = true) : moonStepWrite k v e = (stMode, e) := if_pos hf

theorem moonSetWrite_own (v armed : Int) (hf : e.follows k = false) :
    moonSetWrite k v armed e = (stOk, e.setAll [(Od.MOON_SET.value k, v), (Od.MOON_SET.armed k, armed)]) :=
  if_neg (by simp [hf])

theorem moonSetWrite_follower (v armed : Int) (hf : e.follows k = true) : moonSetWrite k v armed e = (stMode, e) := if_pos hf

theorem moonSetArmedWrite_cancels (hf : e.follows k = false) :
    moonSetArmedWrite k 0 e = (stOk, e.setAll [(Od.MOON_SET.armed k, 0)]) :=
  (if_neg (by simp [hf])).trans (if_pos rfl)

/-- A bound within the fused ceiling arms consent for ten seconds of moon 0 time (R47). -/
theorem moonConsentWrite_arms (x : Ctx) {v : Int} (h0 : 0 < v) (hc : v ≤ x.fuses.ceilStep) :
    moonConsentWrite x k v e = (stOk, e.setAll [(Od.MOON_CONSENT.bound k, v), (Od.MOON_CONSENT.armed k, 1),
      (Od.MOON_CONSENT.expires k, ((x.st 0 + 10 * unitsPerSec) % 2 ^ 64 : Nat))]) := by
  rw [moonConsentWrite, if_neg (by omega), if_neg (by omega)]
  rfl

theorem moonConsentWrite_disarms (x : Ctx) :
    moonConsentWrite x k 0 e = (stOk, e.setAll [(Od.MOON_CONSENT.bound k, 0), (Od.MOON_CONSENT.armed k, 0)]) := by
  rw [moonConsentWrite, if_neg (by omega), if_pos rfl]
  rfl

/-- The engines with a compare cell armed at a target (R61). -/
def Eng.cmpArm (e : Eng) (x : Ctx) (k c target : Nat) : Eng :=
  { e.setAll [(cmpTarget k c, target), (cmpArmed k c, 1)] with cmpArmedAt := tput e.cmpArmedAt (4 * k + c) x.tick }

theorem cmpTargetWrite_arms (x : Ctx) (c : Nat) {target : Nat} (h : stDiff target (x.st k) ≤ (2 ^ 62 : Nat)) :
    cmpTargetWrite x k c target e = (stOk, e.cmpArm x k c target) :=
  if_neg (not_lt.2 h)

end

/-! ## The statements -/

/-- Settles O9: an accepted write stores its values, by `lift_writeCmd_wrote`, and one in a wrong mode is turned away. -/
theorem stagedMoonWritesAreStored : Obligations.StagedMoonWritesAreStored := by
  unfold Obligations.StagedMoonWritesAreStored
  refine ⟨fun s moon roles hup => ⟨fun v ha => ?_, fun hf => ⟨fun v ha ho => ?_, fun v ha => ?_, fun v ha => ?_,
    fun ha => ?_, fun armed v ha => ?_⟩⟩,
    fun s moon roles hup => ⟨fun v ha h => ?_, fun hf => ⟨fun v ha => ?_, fun v ha => ?_⟩⟩⟩
  · exact lift_writeCmd_moonItem moon 0 [1] (op := fun _ => moonEnableWrite moon v) hup ha rfl (by decide) rfl
  · exact lift_writeCmd_moonItem moon 1 [0] (op := fun _ => moonIncWrite moon v) hup ha (moonIncWrite_open _ hf ho) (by decide) rfl
  · exact lift_writeCmd_moonItem moon 3 [0] (op := fun _ => moonStepWrite moon v) hup ha (moonStepWrite_own _ hf) (by decide) rfl
  · exact lift_writeCmd_moonItem moon 4 [2, 1] (op := fun _ => moonSetWrite moon v 1) hup ha (moonSetWrite_own _ _ hf) (by decide) rfl
  · exact lift_writeCmd_moonItem moon 4 [1] (op := fun _ => moonSetArmedWrite moon 0) hup ha (moonSetArmedWrite_cancels hf) (by decide) rfl
  · obtain ⟨hn, hk⟩ :=
      moonItem_names (vs := [(Od.MOON_SET.value moon, v), (Od.MOON_SET.armed moon, armed)]) moon 4 [2, 1] (by decide) rfl
    exact lift_writeRecCmd_wrote (op := fun _ => moonSetWrite moon v armed) _ hup ha (moonSetWrite_own _ _ hf) hn hk
  · exact lift_writeCmd_moonTurnedAway moon 1 0 (by decide) (op := fun _ => moonIncWrite moon v) hup ha (moonIncWrite_turnedAway _ h)
  · exact lift_writeCmd_moonTurnedAway moon 3 0 (by decide) (op := fun _ => moonStepWrite moon v) hup ha (moonStepWrite_follower _ hf)
  · exact lift_writeCmd_moonTurnedAway moon 4 1 (by decide) (op := fun _ => moonSetWrite moon v 1) hup ha (moonSetWrite_follower _ _ hf)

/-! ## Jump consent (R47) -/

/-- Settles O10: a nonzero bound within the ceiling arms, zero disarms, and the expiry is one write of the armed member. -/
theorem consentArmsForTenSeconds : Obligations.ConsentArmsForTenSeconds := by
  intro s moon hup
  refine ⟨fun bound roles ha h0 hc => ?_, fun roles ha => ?_, fun harmed hpast => ?_⟩
  · exact lift_writeCmd_moonItem moon 5 [1, 2, 3] (op := fun x => moonConsentWrite x moon bound) hup ha
      (moonConsentWrite_arms s.ctx h0 hc) (by decide) rfl
  · exact lift_writeCmd_moonItem moon 5 [1, 2] (op := fun x => moonConsentWrite x moon 0) hup ha (moonConsentWrite_disarms s.ctx)
      (by decide) rfl
  · have hdue : s.eng0.consentDue s.ctx moon = true := Bool.and_eq_true_iff.2 ⟨harmed, hpast⟩
    exact ⟨_, lift_whenDue (due := fun x e => e.consentDue x moon) (f := fun _ e => e.set (Od.MOON_CONSENT.armed moon) 0) hup hdue,
      Eng.set_i_same .., fun k hk => Eng.set_i_other _ _ _ _ hk, rfl, rfl, rfl, rfl⟩

/-! ## Compare cells (R61) -/

/-- A write of a cell's target arms the cell and changes no other object but the accounting's (R61). -/
theorem exec_moonCmpTargetWrite_arms {s : State} {moon : Fin 32} {cell : Fin 4} {target roles : Nat} (hup : s.eng.up = true)
    (ha : s.eng.admits (cmpTarget moon cell) target roles = true) (h : stDiff target (s.ctx.st moon) ≤ (2 ^ 62 : Nat)) :
    ∃ p, exec (.moonCmpTargetWrite moon cell target roles) s =
      .next { s with eng := (s.eng0.cmpArm s.ctx moon cell target).account s.ctx p stOk } := by
  obtain ⟨p, hp⟩ := Eng.writeCmd_ok (e := s.eng0) (roles := roles) (op := cmpTargetWrite s.ctx moon cell target) s.ctx ha
    (cmpTargetWrite_arms s.ctx cell h)
  exact ⟨p, (lift_up (f := fun x e => e.writeCmd x _ _ _ (cmpTargetWrite x moon cell target)) hup).trans (by rw [hp])⟩

/-- An armed cell differs from the engines in objects and in the tick it is armed at. -/
theorem Eng.onlyObjects_of_cmpArm {e b : Eng} {x : Ctx} {k c target : Nat} (h : (e.cmpArm x k c target).onlyObjects b) :
    e.onlyObjects { b with cmpArmedAt := e.cmpArmedAt } :=
  (congrArg (fun b : Eng => { b with cmpArmedAt := e.cmpArmedAt }) h :)

theorem Eng.cmpFire_frame (e : Eng) (x : Ctx) (k c : Nat) :
    e.cmpFire x k c = { e with od := (e.cmpFire x k c).od, irq := (e.cmpFire x k c).irq, out := (e.cmpFire x k c).out } := by
  unfold Eng.cmpFire
  rw [Eng.irqLatch_frame]
  rfl

/-- Settles O11: an armed target is a store of two objects beside the tick it is armed at; a firing stores two and latches. -/
theorem compareCellsArmAndFire : Obligations.CompareCellsArmAndFire := by
  intro s moon cell hup
  refine ⟨fun target roles ha h => ?_, fun hdue => ?_⟩
  · obtain ⟨p, hexec⟩ := exec_moonCmpTargetWrite_arms hup ha h
    have hobj {k : Key} (hk : accounting k = false) :
        ((s.eng0.cmpArm s.ctx moon cell target).account s.ctx p stOk).i k =
          (s.eng0.setAll [(cmpTarget moon cell, target), (cmpArmed moon cell, 1)]).i k := Eng.account_i _ _ _ _ _ hk
    have hmem := Eng.setAll_i_mem s.eng0 [(cmpTarget moon cell, (target : Int)), (cmpArmed moon cell, 1)]
      (odKey_nodup _ _ (ms := [1, 2]) (by decide))
    refine ⟨_, hexec, ?_, ?_, ?_, ?_, fun k ht hk hac => ?_, ?_, rfl, rfl, rfl⟩
    · rw [Eng.account_resp]
    · exact (hobj (accounting_cmpKey moon cell 1)).trans (hmem (_, _) (List.mem_cons_self ..))
    · exact (hobj (accounting_cmpKey moon cell 2)).trans (hmem (_, _) (List.mem_cons_of_mem _ (List.mem_cons_self ..)))
    · exact (congrArg (tget · _) (Eng.quiet_cmpArmedAt (Eng.quiet_account (Eng.quiet_refl _) _ _ _))).trans (tget_tput_same ..)
    · exact (hobj hac).trans (Eng.setAll_i_other _ _ _ (List.forall_mem_cons.2 ⟨ht, List.forall_mem_singleton.2 hk⟩))
    · have harm := Eng.account_onlyObjects (Eng.onlyObjects_refl (s.eng0.cmpArm s.ctx moon cell target)) s.ctx p stOk
      exact Eng.onlyObjects_trans (Eng.onlyObjects_fresh (Eng.onlyObjects_refl _)) (Eng.onlyObjects_of_cmpArm harm)
  · have hne : cmpReached moon cell ≠ cmpArmed moon cell := (odKey_injective _ _).ne (by decide)
    refine ⟨_, lift_whenDue (due := fun x e => e.cmpDue x moon cell) (f := fun x e => e.cmpFire x moon cell) hup hdue, ?_, ?_, ?_,
      fun k hr hk => ?_, ?_, rfl, rfl, rfl⟩
    · rw [Eng.cmpFire, Eng.irqLatch_i, Eng.set_i_other _ _ _ _ hne, Eng.set_i_same]
    · rw [Eng.cmpFire, Eng.irqLatch_i, Eng.set_i_same]
    · exact Eng.irqLatch_latched ..
    · rw [Eng.cmpFire, Eng.irqLatch_i, Eng.set_i_other _ _ _ _ hk, Eng.set_i_other _ _ _ _ hr, State.eng0_i]
    · exact s.eng0.cmpFire_frame s.ctx moon cell

end Sys2Proof.Machine
end

section
/-! # NTP timestamps (R63, R135, R136) -/

namespace Sys2Proof.Machine

/-! ## The header of an answer (Table 6-4) -/

theorem leBytes_length (n v : Nat) : (leBytes n v).length = n := by
  induction n generalizing v with
  | zero => rfl
  | succ n ih => rw [leBytes, List.length_cons, ih]

@[simp] theorem beBytes_length (n v : Nat) : (beBytes n v).length = n := (List.length_reverse ..).trans (leBytes_length n v)

@[simp] theorem ntpBytes_length (label : Int) : (ntpBytes label).length = 8 := beBytes_length ..

theorem slice_length {bs : Bytes} {i n : Nat} (h : i + n ≤ bs.length) : (slice bs i n).length = n := by
  rw [slice, List.length_take, List.length_drop]
  omega

/-- The bytes between two others are cut out at their place. -/
theorem slice_append_middle (a b c : Bytes) {i n : Nat} (ha : a.length = i) (hb : b.length = n) : slice (a ++ b ++ c) i n = b := by
  rw [slice, List.append_assoc, ← ha, List.drop_left, ← hb, List.take_left]

theorem slice_append_last (a b : Bytes) {i n : Nat} (ha : a.length = i) (hb : b.length = n) : slice (a ++ b) i n = b := by
  simpa using slice_append_middle a b [] ha hb

theorem Eng.quality_bytes_length (e : Eng) (k : Nat) (p : Projected) : (e.quality k p).2.2.length = 8 := by
  unfold Eng.quality
  split
  · exact beBytes_length ..
  · split <;> simp

/-- A header is its first 24 bytes, then the request's transmit timestamp and the labels of the receive and departure instants. -/
theorem Eng.ntpHeader_parts (e : Eng) (v : AnsView) (r : AnsRule) (t : Nat) : ∃ head : Bytes, head.length = 24 ∧
    e.ntpHeader v r t = head ++ slice v.pl 40 8 ++ ntpBytes (e.label r.moon (e.project r.moon v.q.rxLin).lin) ++
      ntpBytes (e.label r.moon (e.project r.moon t).lin) :=
  ⟨_, by simp [Eng.quality_bytes_length], rfl⟩

/-! ## The nearest timestamp (R63) -/

/-- Rounding to the nearest is off by half a divisor at most. -/
theorem roundDiv_near (i : Int) {n : Nat} (hn : 0 < n) : 2 * (roundDiv i n * n - i).natAbs ≤ n := by
  have hd : (0 : Int) < 2 * n := by omega
  have hdiv := Int.mul_ediv_add_emod (2 * i + n) (2 * n)
  have hlo := Int.emod_nonneg (2 * i + n) hd.ne'
  have hhi := Int.emod_lt_of_pos (2 * i + n) hd
  rw [← Int.fdiv_eq_ediv_of_nonneg _ hd.le, ← roundDiv] at hdiv
  have hm : 2 * (n : Int) * roundDiv i n = 2 * (roundDiv i n * n) := by ring
  omega

/-- The fraction of a second, rounded, is at most a whole second. -/
theorem roundDiv_fraction {r : Int} (h0 : 0 ≤ r) (h1 : r < secU) :
    0 ≤ roundDiv (r * 65536) 1000000000 ∧ roundDiv (r * 65536) 1000000000 ≤ 2 ^ 32 := by
  have hn := roundDiv_near (r * 65536) (n := 1000000000) (by decide)
  have hs : secU = 65536000000000 := rfl
  omega

/-- Era, seconds and fraction together count the whole seconds since the NTP epoch and the rounded fraction: a fraction that rounds up to
a second is carried (R63). -/
theorem ntpOf_value {x : Int} (h : 0 ≤ x + 2208988800 * unitsPerSec) :
    (((ntpOf x).1 * 2 ^ 64 + (ntpOf x).2 : Nat) : Int) =
      (x.fdiv secU + 2208988800) * 2 ^ 32 + roundDiv (x.fmod secU * 65536) 1000000000 := by
  have hs : secU = 65536000000000 := rfl
  have hu : (unitsPerSec : Int) = 65536000000000 := rfl
  obtain ⟨hf0, hf1⟩ := roundDiv_fraction (Int.fmod_nonneg_of_pos x (by decide : 0 < secU)) (Int.fmod_lt_of_pos x (by decide))
  have hq : 0 ≤ x.fdiv secU + 2208988800 := by
    rw [Int.fdiv_eq_ediv_of_nonneg _ (by decide), hs]
    omega
  unfold ntpOf
  dsimp only
  rw [Int.fdiv_eq_ediv_of_nonneg _ (Int.natCast_nonneg _)]
  split <;> omega

/-- Settles O36: the header's parts stand at their places, and its timestamps round the fraction of a second to the nearest. -/
theorem timestampsAreNearestAndCarried : Obligations.TimestampsAreNearestAndCarried := by
  refine ⟨fun e v r depart hpl => ?_, fun x hx => ?_⟩
  · obtain ⟨head, hhead, hparts⟩ := e.ntpHeader_parts v r depart
    have horg : (slice v.pl 40 8).length = 8 := slice_length hpl
    dsimp only
    rw [hparts]
    refine ⟨by simp [hhead, horg], ?_, ?_, ?_⟩
    · rw [List.append_assoc]
      exact slice_append_middle _ _ _ hhead horg
    · exact slice_append_middle _ _ _ (by simp [hhead, horg]) (ntpBytes_length _)
    · exact slice_append_last _ _ (by simp [hhead, horg]) (ntpBytes_length _)
  · rw [ntpOf_value hx]
    have hn := roundDiv_near (x.fmod secU * 65536) (n := 1000000000) (by decide)
    have hdiv : 65536000000000 * x.fdiv secU + x.fmod secU = x := Int.mul_fdiv_add_fmod x secU
    rw [show unitsPerSec = 65536000000000 from rfl]
    omega

end Sys2Proof.Machine
end

section
/-! # The clock after reset (R40) -/

namespace Sys2Proof.Machine

theorem TimeCore.atReset_moon {k : Nat} (hk : k < 32) : TimeCore.atReset.moon k = MoonCore.atReset k := by
  rw [TimeCore.moon, TimeCore.atReset, tabulate, nth, List.getD_eq_getElem _ _ (by simpa using hk), List.getElem_map,
    List.getElem_range]

theorem State.reset_moon {k : Nat} (hk : k < 32) : State.reset.eng.moon k = MoonTl.atReset k := by
  rw [Eng.moon, State.reset, Eng.atReset, tabulate, nth, List.getD_eq_getElem _ _ (by simpa using hk), List.getElem_map,
    List.getElem_range]

/-- After reset every object holds its default. -/
theorem State.reset_i (k : Key) : State.reset.eng.i k = odDefault k := rfl

/-- The defaults of Table 2-7 that R40 speaks of: the staged increment is nominal, and moons 1 to 31 are disabled. -/
theorem odDefault_moon : ∀ k : Fin 32, odDefault (Od.MOON_INC_STAGED k) = 2 ^ 48 ∧
    odDefault (Od.MOON_CONFIG.enable k) = if k = 0 then 1 else 0 := by
  decide +kernel

/-- Settles O6: the clock and the timelines are tabulated, and the objects are at their defaults. -/
theorem resetStartsTheClock : Obligations.ResetStartsTheClock := by
  refine ⟨TimeCore.atReset_whole, rfl, fun k => ?_⟩
  have hm : State.reset.core.moon k = MoonCore.atReset k := TimeCore.atReset_moon k.isLt
  obtain ⟨hinc, hen⟩ := odDefault_moon k
  rw [hm, State.reset_moon k.isLt]
  refine ⟨rfl, rfl, ?_, rfl, ?_, fun hk => ?_⟩
  · rw [Eng.n, State.reset_i, hinc]
    rfl
  · exact decide_eq_decide.2 Fin.val_eq_zero_iff
  · rw [Eng.b, State.reset_i, hen, if_neg hk]
    rfl

end Sys2Proof.Machine
end

section
/-! # The ceilings of a moon's change (R43, R46) -/

namespace Sys2Proof.Machine

theorem clampInt_near {a r i : Int} (hr : 0 ≤ r) : a - r ≤ clampInt (a - r) (a + r) i ∧ clampInt (a - r) (a + r) i ≤ a + r := by
  unfold clampInt
  split
  · omega
  · split <;> omega

/-- An increment that the tests of R43 let through is within the rate ceiling of the active one. -/
theorem incOutcome_near (x : Ctx) (slewPpb ratePpb : Nat) (active staged : Int) :
    active - ppbUnits ratePpb ≤ (incOutcome x slewPpb ratePpb active staged).1 ∧
      (incOutcome x slewPpb ratePpb active staged).1 ≤ active + ppbUnits ratePpb := by
  unfold incOutcome
  dsimp only
  split
  · omega
  · exact clampInt_near (Int.natCast_nonneg _)

/-- Outside FREE RUN a staged step that is applied, by itself or by consent, is within the fused ceiling (R46). -/
theorem stepOutcome_within {x : Ctx} {set consent : Bool} {limit bound s : Int}
    (h : (stepOutcome x false set consent limit bound s == .applied ||
      stepOutcome x false set consent limit bound s == .consented) = true) :
    s.natAbs ≤ x.fuses.ceilStep := by
  by_contra hs
  have ho : stepOutcome x false set consent limit bound s ∈ [.none, .superseded, .ceiling] := by
    unfold stepOutcome
    rw [if_neg Bool.false_ne_true, if_pos (not_le.1 hs)]
    split
    · simp
    · split <;> simp
  simp only [List.mem_cons, List.not_mem_nil, or_false] at ho
  obtain ho | ho | ho := ho <;> simp [ho] at h

/-- The increment a decision gives is what the tests of R43 make of the staged one. -/
theorem Eng.decideOwn_inc (e : Eng) (x : Ctx) (k : Nat) :
    (e.decideOwn x k).1.inc = (incOutcome x (e.n (Od.MOON_CONFIG.slew_ceiling_ppb k)) (e.n (Od.MOON_CONFIG.rate_ceiling_ppb k)) (x.inc k)
      (e.i (Od.MOON_INC_STAGED k))).1.toNat :=
  rfl

/-- The step a decision reports is the staged one where R46 applies it, and 0 otherwise. -/
theorem Eng.decideOwn_lastStep (e : Eng) (x : Ctx) (k : Nat) : ∃ set consent limit bound s,
    (e.decideOwn x k).1.lastStep =
      if stepOutcome x ((e.moon k).cur.state == .freeRun) set consent limit bound s == .applied ||
        stepOutcome x ((e.moon k).cur.state == .freeRun) set consent limit bound s == .consented then s else 0 :=
  ⟨_, _, _, _, _, rfl⟩

/-- Settles O21: the decision's increment is what R43's tests let through, and its step is 0 or one R46 applies. -/
theorem ceilingsBoundEveryChange : Obligations.CeilingsBoundEveryChange := by
  refine fun e x k => ⟨?_, fun hfree => ?_⟩
  · obtain ⟨hlo, hhi⟩ := incOutcome_near x (e.n (Od.MOON_CONFIG.slew_ceiling_ppb k)) (e.n (Od.MOON_CONFIG.rate_ceiling_ppb k))
      (x.inc k) (e.i (Od.MOON_INC_STAGED k))
    rw [Eng.decideOwn_inc]
    omega
  · obtain ⟨set, consent, limit, bound, s, hs⟩ := e.decideOwn_lastStep x k
    rw [beq_eq_false_iff_ne.2 hfree] at hs
    rw [hs]
    split
    · next happlied => exact stepOutcome_within happlied
    · exact Nat.zero_le _

end Sys2Proof.Machine
end

section
/-! # Schedule entries: writing, emptying and evaluation (R69 to R77) -/

namespace Sys2Proof.Machine

/-! ## The accounting of a write of the schedule -/

/-- The accounting of a write leaves the schedule. -/
theorem Eng.account_sched (e : Eng) (x : Ctx) (p : Bool) (st : Nat) : (e.account x p st).sched = e.sched :=
  Eng.quiet_sched (Eng.quiet_account (Eng.quiet_refl e) x p st)

theorem Eng.account_entry (e : Eng) (x : Ctx) (p : Bool) (st i : Nat) : (e.account x p st).entry i = e.entry i :=
  congrArg (tgetD · i SchedEntry.empty) (e.account_sched x p st)

/-- A change of the schedule and of objects that is then accounted for has, the schedule aside, changed what a write may. -/
theorem Eng.account_onlyObjects_of_sched {a b : Eng} (h : b = { a with od := b.od, sched := b.sched }) (x : Ctx) (p : Bool) (st : Nat) :
    a.onlyObjects { b.account x p st with sched := a.sched } := by
  have hb : a.onlyObjects { b with sched := a.sched } := by
    rw [h]
    rfl
  have hc : b.onlyObjects (b.account x p st) := Eng.account_onlyObjects (Eng.onlyObjects_refl b) x p st
  exact Eng.onlyObjects_trans hb (congrArg (fun e : Eng => { e with sched := a.sched }) hc :)

/-- A whole record that is admitted and that its chapter turns away: the refusal is counted and accounted for. -/
theorem Eng.writeRecCmd_admitted {e e' : Eng} {k : Key} {vs : List (Key × Int)} {roles st : Nat} {op : Eng → WriteRes} (x : Ctx)
    (ha : e.admitsAll vs roles = true) (ho : op e = (st, e')) :
    ∃ p, e.writeRecCmd x k vs roles op = (e'.refusedHook k st).account x p st := by
  obtain ⟨hj, hr⟩ := Bool.and_eq_true_iff.1 ha
  exact ⟨persistAny vs, by simp [Eng.writeRecCmd, beq_iff_eq.1 hj, hr, ho]⟩

/-! ## The whole write (R70, R71, R75) -/

/-- An entry as its whole write stores it over the entry `old`: armed, with what the last firing left. -/
def SchedEntry.written (s old : SchedEntry) : SchedEntry :=
  { s with
    flags := (old.flags &&& 0x3C) + 2 * boolNat (s.period != 0), state := .armed, fireTick := old.fireTick, result := old.result }

/-- What the last firing left is no part of the checks. -/
theorem entryCheck_written (s old : SchedEntry) : entryCheck (s.written old) = entryCheck s := by
  unfold entryCheck
  rfl

theorem targetCheck_written (x : Ctx) (s old : SchedEntry) : targetCheck x (s.written old) = targetCheck x s := by
  unfold targetCheck
  rfl

theorem schedWhole_eq (x : Ctx) (i : Nat) (s : SchedEntry) (e : Eng) : schedWhole x i s e =
    if (e.entry i).state = .queued then (stQueued, e)
    else if entryCheck (s.written (e.entry i)) ≠ stOk then (entryCheck (s.written (e.entry i)), e)
    else if targetCheck x (s.written (e.entry i)) ≠ stOk then (targetCheck x (s.written (e.entry i)), e)
    else (stOk, e.armEntry x i (s.written (e.entry i))) :=
  rfl

/-- A whole write that passes the checks of R71 and R75 arms the entry. -/
theorem schedWhole_accepted {e : Eng} {x : Ctx} {i : Nat} {s : SchedEntry} (hq : (e.entry i).state ≠ .queued)
    (hc : entryCheck s = stOk) (ht : targetCheck x s = stOk) :
    schedWhole x i s e = (stOk, e.armEntry x i (s.written (e.entry i))) := by
  have hc' : entryCheck (s.written (e.entry i)) = stOk := (entryCheck_written ..).trans hc
  have ht' : targetCheck x (s.written (e.entry i)) = stOk := (targetCheck_written ..).trans ht
  rw [schedWhole_eq, if_neg hq, if_neg (not_not.2 hc'), if_neg (not_not.2 ht')]

theorem schedWrite_whole (x : Ctx) {i : Nat} (hd : deviceEntry i = false) (t k a arg : Nat) (p : Int) (r roles : Nat) (e : Eng) :
    schedWrite x i (.whole t k a arg p r) roles e = schedWhole x i { SchedEntry.empty with
      target := t, moon := k, action := a, arg := arg, period := p, repeat_ := r, roles := roles % 16 } e := by
  simp only [schedWrite, hd, Bool.false_eq_true, if_false]

theorem schedWrite_device (x : Ctx) {i : Nat} (hd : deviceEntry i = true) (w : SchedWrite) (roles : Nat) (e : Eng) :
    schedWrite x i w roles e = (stReadOnly, e) :=
  if_pos hd

/-! ## Emptying (R70) -/

/-- A table in which the entry of one key is changed. -/
theorem tget_map_at {α : Type} (t : Tbl α) (i j : Nat) (f : α → α) :
    tget (t.map (fun p => if p.1 = i then (p.1, f p.2) else p)) j = if j = i then (tget t j).map f else tget t j := by
  induction t with
  | nil => simp
  | cons p t ih =>
    obtain ⟨a, y⟩ := p
    by_cases hj : a = j
    · subst hj
      by_cases ha : a = i <;> simp [tget, ha]
    · by_cases ha : a = i
      · subst ha
        simp [tget, hj, ih]
      · simp [tget, ha, hj, ih]

/-- An entry emptied: its other members are kept (notes/assumptions/34.md). -/
def SchedEntry.emptied (s : SchedEntry) : SchedEntry := { s with state := .empty }

/-- The engines with entry `i` emptied. -/
def Eng.emptied (e : Eng) (i : Nat) : Eng := { e with sched := e.sched.map (fun p => if p.1 = i then (p.1, p.2.emptied) else p) }

theorem Eng.emptied_entry (e : Eng) (i : Nat) : (e.emptied i).entry i = (e.entry i).emptied := by
  rw [Eng.entry, Eng.emptied, tgetD, tget_map_at, if_pos rfl, Eng.entry, tgetD]
  cases tget e.sched i <;> rfl

theorem Eng.emptied_entry_other (e : Eng) {i j : Nat} (h : j ≠ i) : (e.emptied i).entry j = e.entry j := by
  rw [Eng.entry, Eng.emptied, tgetD, tget_map_at, if_neg h]
  rfl

theorem schedEmptyWrite_empties {e : Eng} {i : Nat} (hd : deviceEntry i = false) (hq : (e.entry i).state ≠ .queued) :
    schedEmptyWrite i 0 e = (stOk, e.emptied i) :=
  (if_neg (by simp [hd])).trans ((if_neg hq).trans (if_neg (not_not.2 rfl)))

/-! ## The writes as commands -/

section
variable {s : State} {entry : Fin 1024} {roles : Nat}

/-- A whole write that is admitted and passes the checks leaves the engines its arming leaves, accounted for. -/
theorem exec_schedEntryWrite_accepted {target moon action arg repeat_ : Nat} {period : Int} {e : SchedEntry} (hup : s.eng.up = true)
    (hd : deviceEntry entry = false) (hq : (s.eng.entry entry).state ≠ .queued)
    (ha : s.eng.admitsAll (schedValues (.whole target moon action arg period repeat_) entry) roles = true)
    (he : e = { SchedEntry.empty with
      target := target, moon := moon, action := action, arg := arg, period := period, repeat_ := repeat_, roles := roles % 16 })
    (hc : entryCheck e = stOk) (ht : targetCheck s.ctx e = stOk) :
    ∃ p, exec (.schedEntryWrite entry (.whole target moon action arg period repeat_) roles) s =
      .next { s with eng := (s.eng0.armEntry s.ctx entry (e.written (s.eng.entry entry))).account s.ctx p stOk } := by
  obtain ⟨p, hp⟩ := Eng.writeRecCmd_ok (e := s.eng0) (k := Od.SCHED_ENTRY.target entry)
    (op := schedWrite s.ctx entry (.whole target moon action arg period repeat_) roles) s.ctx ha
    ((schedWrite_whole s.ctx hd ..).trans (he ▸ schedWhole_accepted (e := s.eng0) hq hc ht))
  rw [← he] at hp
  exact ⟨p, (exec_schedEntryWrite ..).trans ((lift_up hup _).trans (by rw [hp]; rfl))⟩

theorem exec_schedEntryEmpty_empties (hup : s.eng.up = true) (hd : deviceEntry entry = false)
    (hq : (s.eng.entry entry).state ≠ .queued) (ha : s.eng.admits (Od.SCHED_ENTRY.state entry) 0 roles = true) :
    ∃ p, exec (.schedEntryEmpty entry 0 roles) s = .next { s with eng := (s.eng0.emptied entry).account s.ctx p stOk } := by
  obtain ⟨p, hp⟩ := Eng.writeCmd_ok (e := s.eng0) (op := schedEmptyWrite entry 0) s.ctx ha (schedEmptyWrite_empties hd hq)
  exact ⟨p, (exec_schedEntryEmpty ..).trans ((lift_up hup _).trans (congrArg (fun e => Host.Outcome.next { s with eng := e }) hp :))⟩

theorem exec_schedEntryWrite_device {w : SchedWrite} (hup : s.eng.up = true) (hd : deviceEntry entry = true)
    (ha : s.eng.admitsAll (schedValues w entry) roles = true) :
    ∃ p, exec (.schedEntryWrite entry w roles) s = .next { s with
      eng := (s.eng0.refusedHook (Od.SCHED_ENTRY.target entry) stReadOnly).account s.ctx p stReadOnly } := by
  obtain ⟨p, hp⟩ := Eng.writeRecCmd_admitted (e := s.eng0) (k := Od.SCHED_ENTRY.target entry)
    (op := schedWrite s.ctx entry w roles) s.ctx ha (schedWrite_device s.ctx hd w roles s.eng0)
  exact ⟨p, (exec_schedEntryWrite ..).trans ((lift_up hup _).trans (by rw [hp]))⟩

end

/-- Settles O13: an accepted write is what arming, or emptying, leaves of the entry; a device entry's write is turned away. -/
theorem scheduleEntriesAreWrittenAndEmptied : Obligations.ScheduleEntriesAreWrittenAndEmptied := by
  refine ⟨fun s entry roles hup hd hq => ⟨fun target moon action arg repeat_ period e ha he hc ht => ?_, fun ha => ?_⟩,
    fun s entry w roles hup hd ha => ?_⟩
  · obtain ⟨p, hexec⟩ := exec_schedEntryWrite_accepted hup hd hq ha he hc ht
    obtain ⟨hframe, hobj⟩ := Eng.schedOnly_armEntry (Eng.schedOnly_refl s.eng0) s.ctx entry (e.written (s.eng.entry entry))
    obtain ⟨state, at_, inst, late, overrun, hstate, hentry⟩ := s.eng0.armEntry_entry s.ctx entry (e.written (s.eng.entry entry))
    refine ⟨_, hexec, by rw [Eng.account_resp], ⟨_, (Eng.account_entry ..).trans hentry, ?_⟩, fun j hj => ?_, fun k ho hs hk => ?_,
      Eng.account_onlyObjects_of_sched (a := s.eng0) hframe .., rfl, rfl, rfl⟩
    · rw [he]
      exact ⟨rfl, rfl, rfl, rfl, rfl, rfl, rfl, hstate⟩
    · exact (Eng.account_entry ..).trans (s.eng0.armEntry_entry_other _ _ _ _ hj)
    · exact (Eng.account_i _ _ _ _ _ hk).trans (hobj k ho hs)
  · obtain ⟨p, hexec⟩ := exec_schedEntryEmpty_empties hup hd hq ha
    refine ⟨_, hexec, by rw [Eng.account_resp], ?_, fun j hj => ?_, fun k hk => ?_,
      Eng.account_onlyObjects_of_sched (a := s.eng0) rfl .., rfl, rfl, rfl⟩
    · exact (Eng.account_entry ..).trans (s.eng0.emptied_entry entry)
    · exact (Eng.account_entry ..).trans (s.eng0.emptied_entry_other hj)
    · exact Eng.account_i _ _ _ _ _ hk
  · obtain ⟨p, hexec⟩ := exec_schedEntryWrite_device hup hd ha
    have honly := Eng.account_onlyObjects
      (Eng.refusedHook_onlyObjects (Eng.onlyObjects_refl s.eng0) (Od.SCHED_ENTRY.target entry) stReadOnly) s.ctx p stReadOnly
    exact ⟨_, hexec, by rw [Eng.account_resp], (congrArg Eng.sched honly :),
      Eng.onlyObjects_trans (Eng.onlyObjects_fresh (Eng.onlyObjects_refl _)) honly, rfl, rfl, rfl⟩

/-! ## The evaluation pass (R76, R77) -/

/-- One candidate goes to the firing queue. -/
def Eng.select (x : Ctx) (e : Eng) (c : Candidate) : Eng :=
  e.enqueue c.idx (e.entry c.idx) (max c.at_ x.tick) c.inst (e.entry c.idx).late

theorem Eng.evaluationPass_eq (e : Eng) (x : Ctx) : e.evaluationPass x = (e.candidates x).foldl (Eng.select x) e := rfl

theorem Eng.select_queues (e : Eng) (x : Ctx) (c : Candidate) : ((e.select x c).entry c.idx).state = .queued := by
  obtain ⟨f, l, o, h⟩ := e.enqueue_entry c.idx (e.entry c.idx) (max c.at_ x.tick) c.inst (e.entry c.idx).late
  exact congrArg SchedEntry.state h

theorem Eng.select_entry_other (e : Eng) (x : Ctx) (c : Candidate) {i : Nat} (h : c.idx ≠ i) : (e.select x c).entry i = e.entry i :=
  e.enqueue_entry_other _ _ _ _ _ _ h.symm

section
variable (x : Ctx) (l : List Candidate) (e : Eng)

theorem Eng.schedOnly_selectAll : e.schedOnly (l.foldl (Eng.select x) e) := by
  induction l generalizing e with
  | nil => exact Eng.schedOnly_refl e
  | cons c l ih => exact Eng.schedOnly_trans (Eng.schedOnly_enqueue (Eng.schedOnly_refl e) ..) (ih _)

theorem Eng.selectAll_entry_other {i : Nat} (h : ∀ c ∈ l, c.idx ≠ i) : (l.foldl (Eng.select x) e).entry i = e.entry i := by
  induction l generalizing e with
  | nil => rfl
  | cons c l ih =>
    obtain ⟨hc, hl⟩ := List.forall_mem_cons.1 h
    exact (ih _ hl).trans (e.select_entry_other x c hc)

/-- An entry that is QUEUED, or that a candidate names, is QUEUED after the pass. -/
theorem Eng.selectAll_queued {i : Nat} (h : (e.entry i).state = .queued ∨ ∃ c ∈ l, c.idx = i) :
    ((l.foldl (Eng.select x) e).entry i).state = .queued := by
  induction l generalizing e with
  | nil => simpa using h
  | cons c l ih =>
    refine ih _ ?_
    by_cases hc : c.idx = i
    · exact .inl (hc ▸ e.select_queues x c)
    · rw [e.select_entry_other x c hc]
      simpa [hc] using h

end

/-- Settles O14: the pass is a fold of enqueuing over the candidates; each step queues its entry and leaves the others. -/
theorem evaluationQueuesTheCandidates : Obligations.EvaluationQueuesTheCandidates := by
  intro s hup htick
  have hexec : exec .schedEvaluationPass s = .next { s with eng := s.eng0.evaluationPass s.ctx } :=
    (exec_schedEvaluationPass s).trans (lift_whenDue (due := fun x _ => x.tick % 1024 == 0) (f := fun x e => e.evaluationPass x) hup
      (beq_iff_eq.2 htick))
  have hpass : s.eng0.evaluationPass s.ctx = (s.eng.candidates s.ctx).foldl (Eng.select s.ctx) s.eng0 := s.eng0.evaluationPass_eq s.ctx
  obtain ⟨hframe, hobj⟩ := Eng.schedOnly_selectAll s.ctx (s.eng.candidates s.ctx) s.eng0
  rw [hpass] at hexec
  exact ⟨_, hexec, fun c hc => Eng.selectAll_queued _ _ _ (.inr ⟨c, hc, rfl⟩), fun i hi => Eng.selectAll_entry_other _ _ _ hi, hobj,
    hframe, rfl, rfl, rfl⟩

end Sys2Proof.Machine
end

section
/-! # The actions of due entries (R71, R78, R82) -/

namespace Sys2Proof.Machine

/-! ## A firing whose action is accepted -/

/-- A firing whose action answers OK changes the schedule, and the schedule's own counters, of what the action leaves. -/
theorem Eng.fire_schedOnly {e a : Eng} {x : Ctx} {i : Nat} {act : SchedEntry → Eng → WriteRes}
    (h : act (e.entry i) (e.countFiring x i (e.entry i).late false) = (stOk, a)) : a.schedOnly (e.fire x i act) := by
  unfold Eng.fire
  dsimp only
  rw [h]
  exact Eng.schedOnly_rearm (Eng.schedOnly_refl a) ..

section
variable {a e : Eng} (h : a.schedOnly e)
include h

theorem Eng.schedOnly_facet {φ : Facet} (hφ : φ ≠ .sched) : φ.of e = φ.of a := by
  rw [h.1]
  exact (Facet.with_sched { a with od := e.od } e.sched hφ).trans (Facet.with_od a e.od)

theorem Eng.schedOnly_irq : e.irq = a.irq := (congrArg Eng.irq h.1 :)

/-- The objects outside SCHED_STATUS. -/
theorem Eng.schedOnly_i (k : Key) (hk : ∀ m < 16, k ≠ odKey 0x14 0x001 m) : e.i k = a.i k :=
  h.2 k (hk 5 (by decide)) (hk 7 (by decide))

theorem Eng.schedOnly_n (k : Key) (hk : ∀ m < 16, k ≠ odKey 0x14 0x001 m) : e.n k = a.n k :=
  congrArg Int.toNat (Eng.schedOnly_i h k hk)

end

/-- The firing of entry `i` in the state `s` leaves `t`: the entry holds the status, the tick and one firing more. -/
def State.firedWith (s : State) (i st : Nat) (t : State) : Prop :=
  (t.eng.entry i).result = st ∧ (t.eng.entry i).fireTick = s.core.tick ∧
  (t.eng.entry i).fireCount = ((s.eng.entry i).fireCount + 1) % 2 ^ 32 ∧
  ((s.eng.entry i).period = 0 → (t.eng.entry i).state = .done) ∧ s.beside t

/-- The engines in which the action of a due entry is performed: its firing has been counted. -/
def State.counted (s : State) (i : Nat) : Eng := s.eng0.countFiring s.ctx i (s.eng.entry i).late false

theorem Eng.fireDue_action {e : Eng} {x : Ctx} {i n : Nat} (h : e.fireDue x i n = true) : (e.entry i).action = n := by
  obtain ⟨h, -⟩ := Bool.and_eq_true_iff.1 h
  exact beq_iff_eq.1 (Bool.and_eq_true_iff.1 h).2

/-- A due entry whose action answers OK has fired, and the rest of the device is as the action leaves it. -/
theorem lift_fireAction {s : State} {i n : Nat} {a : Eng} (hup : s.eng.up = true) (hd : s.eng.fireDue s.ctx i n = true)
    (ha : schedAct s.ctx i true (s.eng.entry i) (s.counted i) = (stOk, a)) :
    ∃ t, lift (fun x e => e.fireAction x i n) s = .next t ∧ s.firedWith i stOk t ∧ a.schedOnly t.eng := by
  obtain ⟨htick, hcount, hresult, hdone⟩ := s.eng0.fire_entry s.ctx i (schedAct s.ctx i true)
  exact ⟨_, lift_whenDue (due := fun x e => e.fireDue x i n) (f := fun x e => e.fire x i (schedAct x i true)) hup hd,
    ⟨hresult.trans (congrArg Prod.fst ha), htick, hcount, hdone, rfl, rfl, rfl⟩, Eng.fire_schedOnly ha⟩

/-! ## What an action's number means (Table 3-2) -/

section
variable {x : Ctx} {i : Nat} {edge : Bool} {f : SchedEntry} {e : Eng}

theorem schedAct_pulse (h : f.action = 1) : schedAct x i edge f e = pulseAct x edge f e := by simp only [schedAct, h]
theorem schedAct_snapshot (h : f.action = 2) : schedAct x i edge f e = snapshotAct x i f e := by simp only [schedAct, h]
theorem schedAct_window (h : f.action = 3) : schedAct x i edge f e = windowAct x f e := by simp only [schedAct, h]
theorem schedAct_calWindow (h : f.action = 4) : schedAct x i edge f e = calWindowAct x f e := by simp only [schedAct, h]
theorem schedAct_keyRotate (h : f.action = 5) : schedAct x i edge f e = keyRotateAct x f e := by simp only [schedAct, h]
theorem schedAct_switch (h : f.action = 6) : schedAct x i edge f e = switchAct i f e := by simp only [schedAct, h]
theorem schedAct_event (h : f.action = 8) : schedAct x i edge f e = eventAct x e := by simp only [schedAct, h]

end

/-! ## What counting a firing leaves -/

section
variable (s : State) (i : Nat)

theorem State.counted_keeps {φ : Facet} : φ.of (s.counted i) = φ.of s.eng :=
  (s.eng0.countFiring_keeps s.ctx i _ _).trans s.eng0_keeps

theorem State.counted_irq : (s.counted i).irq = s.eng.irq :=
  (congrArg Eng.irq (s.eng0.countFiring_frame s.ctx i (s.eng.entry i).late false) :)

theorem State.counted_onlyObjects : s.eng.onlyObjects (s.counted i) := by
  have h := s.eng0.countFiring_frame s.ctx i (s.eng.entry i).late false
  refine Eng.onlyObjects_trans (Eng.onlyObjects_fresh (Eng.onlyObjects_refl s.eng)) ?_
  rw [Eng.onlyObjects, State.counted, h]
  rfl

/-- Counting a firing spares the objects but those of SCHED_STATUS and the counters' sticky bits. -/
theorem Eng.Spares.countFiring {j : Key} (hj : ∀ m < 16, j ≠ odKey 0x14 0x001 m) (hc : j ≠ Od.CNT_STATUS.sticky) (e : Eng) (x : Ctx)
    (late stepped : Bool) : Eng.Spares j e (e.countFiring x i late stepped) := by
  have h := (((Eng.Spares.refl j e).inc32 (hj 1 (by decide))).count (x := x) hc 0xB19).set (hj 8 (by decide)) i
    |>.set (hj 9 (by decide)) x.tick
  have hl := (((h.inc32 (hj 2 (by decide))).orb (hj 7 (by decide)) 1).count (x := x) hc 0xB1A).ite (p := late = true) h
  unfold Eng.countFiring
  exact ((hl.inc32 (hj 3 (by decide))).orb (hj 7 (by decide)) 2).ite hl

theorem State.counted_n {j : Key} (hj : ∀ m < 16, j ≠ odKey 0x14 0x001 m) (hc : j ≠ Od.CNT_STATUS.sticky) :
    (s.counted i).n j = s.eng.n j :=
  congrArg Int.toNat (Eng.Spares.countFiring i hj hc s.eng0 s.ctx _ _).obj

end

/-! ## PULSE (R82) -/

theorem Eng.onlyObjects_outs {e e' : Eng} (h : e.onlyObjects e') : e'.outs = e.outs := (congrArg Eng.outs h :)

/-- Steps that each keep two engines alike but for objects do so one after the other. -/
theorem Eng.onlyObjects_foldl {β : Type} {f : Eng → β → Eng}
    (hf : ∀ {e e' : Eng}, e.onlyObjects e' → ∀ b, (f e b).onlyObjects (f e' b)) (l : List β) {e e' : Eng} (h : e.onlyObjects e') :
    (l.foldl f e).onlyObjects (l.foldl f e') := by
  induction l generalizing e e' with
  | nil => exact h
  | cons b l ih => exact ih (hf h b)

section
variable {e e' : Eng} (h : e.onlyObjects e')
include h

theorem Eng.onlyObjects_placeEdge (n v : Nat) (rising : Bool) : (e.placeEdge n v rising).onlyObjects (e'.placeEdge n v rising) := by
  rw [h]
  rfl

/-- Whether an output is squelched is told by the outputs, the timelines and the fault system. -/
theorem Eng.onlyObjects_ppsSquelched (n : Nat) : e'.ppsSquelched n = e.ppsSquelched n := by
  rw [h]
  rfl

/-- The edges of a PULSE do not depend on the objects. -/
theorem Eng.onlyObjects_pulseOn (n kind v : Nat) : (e.pulseOn n kind v).onlyObjects (e'.pulseOn n kind v) := by
  have hw : e'.outNat (Od.PPSOUT.width n) = e.outNat (Od.PPSOUT.width n) :=
    congrArg (fun o : Outs => (sget o.cfg (Od.PPSOUT.width n)).toNat) (Eng.onlyObjects_outs h)
  have hflt : e'.flt = e.flt := (congrArg Eng.flt h :)
  unfold Eng.pulseOn
  extract_lets sq sq'
  have hsq : sq' = sq := Eng.onlyObjects_ppsSquelched h n
  rw [hsq, hw, hflt]
  split
  · split
    · exact h
    · exact Eng.onlyObjects_placeEdge (Eng.onlyObjects_placeEdge h ..) ..
  · split
    · exact h
    · exact Eng.onlyObjects_placeEdge h ..
  · split
    · exact h
    · exact Eng.onlyObjects_placeEdge h ..

theorem pulseAct_onlyObjects (x : Ctx) (edge : Bool) (f : SchedEntry) :
    (pulseAct x edge f e).2.onlyObjects (pulseAct x edge f e').2 := by
  unfold pulseAct
  dsimp only
  generalize (if f.late = true then x.acc 0 else f.inst) = v
  split
  · refine Eng.onlyObjects_foldl (fun h n => ?_) _ h
    split
    · exact Eng.onlyObjects_pulseOn h ..
    · exact h
  · exact h

end

/-! ## SNAPSHOT (R71, R83) -/

/-- The short times of all moons, as SCHED_SNAP_MOON shows them. -/
def Ctx.snapMoons (x : Ctx) : List (Key × Int) := (List.range 32).map (fun k => (Od.SCHED_SNAP_MOON k, (x.st k : Int)))

theorem Ctx.snapMoons_nodup (x : Ctx) : (x.snapMoons.map Prod.fst).Nodup := by
  rw [Ctx.snapMoons, List.map_map]
  exact List.nodup_range.map fun k k' (h : 0x14 * 65536 + (0x040 + k) * 16 + 0 = 0x14 * 65536 + (0x040 + k') * 16 + 0) => by omega

theorem Ctx.snapMoons_mem (x : Ctx) (k : Fin 32) : (Od.SCHED_SNAP_MOON k, (x.st k : Int)) ∈ x.snapMoons :=
  List.mem_map.2 ⟨k, List.mem_range.2 k.isLt, rfl⟩

theorem Ctx.snapMoons_ne (x : Ctx) {j : Key} (h : j < Od.SCHED_SNAP_MOON 0) : ∀ p ∈ x.snapMoons, j ≠ p.1 := by
  intro p hp
  obtain ⟨k, -, rfl⟩ := List.mem_map.1 hp
  exact (Nat.lt_of_lt_of_le h (show 0x14 * 65536 + 0x40 * 16 ≤ 0x14 * 65536 + (0x40 + k) * 16 + 0 by omega)).ne

/-- The engines as SNAPSHOT leaves them before it reads the moons. -/
def Eng.snapHeld (e : Eng) (x : Ctx) (i : Nat) (f : SchedEntry) : Eng :=
  (((e.snapMask x (argField f.arg 0 12)).set Od.SCHED_SNAP.tick x.tick).set Od.SCHED_SNAP.entry i).inc32 Od.SCHED_SNAP.sequence

theorem snapshotAct_eq (x : Ctx) (i : Nat) (f : SchedEntry) (e : Eng) :
    snapshotAct x i f e = (stOk, (e.snapHeld x i f).setAll x.snapMoons) := by
  rw [Eng.setAll, Ctx.snapMoons, List.foldl_map]
  rfl

theorem Eng.snapHeld_tick (e : Eng) (x : Ctx) (i : Nat) (f : SchedEntry) : (e.snapHeld x i f).i Od.SCHED_SNAP.tick = x.tick := by
  rw [Eng.snapHeld, Eng.inc32_i, if_neg (by decide), Eng.set_i_other _ _ _ _ (by decide), Eng.set_i_same]

theorem Eng.snapHeld_entry (e : Eng) (x : Ctx) (i : Nat) (f : SchedEntry) : (e.snapHeld x i f).i Od.SCHED_SNAP.entry = i := by
  rw [Eng.snapHeld, Eng.inc32_i, if_neg (by decide), Eng.set_i_same]

/-! ## WINDOW (R386) -/

section
variable (e : Eng) (x : Ctx)

/-- The four objects in which a window boundary shows the closed window. -/
def Eng.windowValues (w : Nat) : List (Key × Int) :=
  [(Od.CNT_WIN.last w, ((e.winCtr w).value x.tick : Int)), (Od.CNT_WIN.last_open w, e.i (Od.CNT_WIN.open_tick w)),
    (Od.CNT_WIN.close_tick w, (x.tick : Int)), (Od.CNT_WIN.open_tick w, (x.tick : Int))]

/-- A window boundary at this tick has been, or its objects are stored and it is counted. -/
theorem Eng.closeWindow_cases (w : Nat) :
    (e.n (Od.CNT_WIN.close_tick w) = x.tick ∧ e.closeWindow x w = e) ∨
    ∀ j, (e.closeWindow x w).i j = ((e.setAll (e.windowValues x w)).inc32 (Od.CNT_WIN.windows w)).i j := by
  unfold Eng.closeWindow
  split
  next h => exact .inl ⟨h.2, rfl⟩
  next => exact .inr fun _ => rfl

theorem Eng.closeWindow_tick (w : Nat) : (e.closeWindow x w).n (Od.CNT_WIN.close_tick w) = x.tick := by
  obtain ⟨htick, h⟩ | h := e.closeWindow_cases x w
  · rw [h, htick]
  · have hmem := Eng.setAll_i_mem e (e.windowValues x w) (odKey_nodup 0x68 (0x100 + w) (ms := [4, 5, 7, 6]) (by decide))
      (Od.CNT_WIN.close_tick w, (x.tick : Int)) (by simp [Eng.windowValues])
    have hne : Od.CNT_WIN.close_tick w ≠ Od.CNT_WIN.windows w := odKey_ne (by omega)
    rw [Eng.n, h, Eng.inc32_i, if_neg hne, hmem, Int.toNat_natCast]

theorem Eng.closeWindow_tick_other {w v : Nat} (hv : v ≠ w) :
    (e.closeWindow x w).n (Od.CNT_WIN.close_tick v) = e.n (Od.CNT_WIN.close_tick v) := by
  have hne (m : Nat) (hm : m < 16) : Od.CNT_WIN.close_tick v ≠ odKey 0x68 (0x100 + w) m := odKey_ne (by omega)
  obtain ⟨-, h⟩ | h := e.closeWindow_cases x w
  · rw [h]
  · rw [Eng.n, h, Eng.inc32_i, if_neg (show _ ≠ Od.CNT_WIN.windows w from hne 8 (by decide)), Eng.setAll_i_other, Eng.n]
    simp only [Eng.windowValues, List.forall_mem_cons]
    exact ⟨hne 4 (by decide), hne 5 (by decide), hne 7 (by decide), hne 6 (by decide), fun _ h => by cases h⟩

/-- The windows of a mask are closed at this tick. -/
theorem Eng.closeWindows_tick (mask n : Nat) {w : Nat} (hw : w < n) (hm : bitOf mask w = true) :
    ((List.range n).foldl (fun e w => if bitOf mask w then e.closeWindow x w else e) e).n (Od.CNT_WIN.close_tick w) = x.tick := by
  induction n with
  | zero => cases hw
  | succ n ih =>
    rw [List.range_succ, List.foldl_append, List.foldl_cons, List.foldl_nil]
    by_cases hwn : w = n
    · rw [← hwn, if_pos hm]
      exact Eng.closeWindow_tick ..
    · have hlt : w < n := by omega
      split
      · rw [Eng.closeWindow_tick_other _ _ hwn, ih hlt]
      · exact ih hlt

end

/-! ## CAL_WINDOW (R126) -/

theorem Eng.Spares.setAll {j : Key} {a e : Eng} (h : Eng.Spares j a e) {vs : List (Key × Int)} (hj : ∀ p ∈ vs, j ≠ p.1) :
    Eng.Spares j a (e.setAll vs) := by
  induction vs generalizing e with
  | nil => exact h
  | cons p vs ih =>
    obtain ⟨hp, hvs⟩ := List.forall_mem_cons.1 hj
    exact ih (h.set hp p.2) hvs

/-- The mask of the open windows is no object of a measurement. -/
theorem open_mask_ne_calMeas (l m : Nat) : Od.CAL_CTRL.open_mask ≠ odKey 0x38 (0x1C0 + l) m := odKey_ne (by omega)

section
variable (e : Eng) (x : Ctx) (mask : Nat)

theorem Eng.calOpen_mask : (e.calOpen x mask).n Od.CAL_CTRL.open_mask = e.n Od.CAL_CTRL.open_mask ||| mask := by
  have hne := open_mask_ne_calMeas
  unfold Eng.calOpen
  dsimp only
  rw [Eng.n, Eng.orb_i, if_pos rfl, Int.toNat_natCast]
  refine congrArg (fun v : Int => v.toNat ||| mask) (Eng.Spares.foldl (fun a p => ?_) _ _).obj
  refine Eng.Spares.ite (Eng.Spares.foldl (fun b l => ?_) _ _) (Eng.Spares.refl _ _)
  refine Eng.Spares.setAll (Eng.Spares.modLane ..) ?_
  simp only [List.forall_mem_cons]
  exact ⟨hne l 1, hne l 2, hne l 3, hne l 4, hne l 5, hne l 6, hne l 7, hne l 8, fun _ h => by cases h⟩

theorem Eng.calClose_mask : (e.calClose x mask).n Od.CAL_CTRL.open_mask = clearBits (e.n Od.CAL_CTRL.open_mask) mask := by
  unfold Eng.calClose
  dsimp only
  rw [Eng.n, Eng.andc_i, if_pos rfl, Int.toNat_natCast]
  refine congrArg (fun v : Int => clearBits v.toNat mask) (Eng.Spares.foldl (fun a p => ?_) _ _).obj
  refine Eng.Spares.ite (Eng.Spares.foldl (fun b l => ?_) _ _) (Eng.Spares.refl _ _)
  exact Eng.Spares.ite (((Eng.Spares.refl _ _).set (open_mask_ne_calMeas (p + l) 1) _).set (open_mask_ne_calMeas (p + l) 8) _)
    (Eng.Spares.refl _ _)

/-- What ports there are is told by the modes of the lane groups. -/
theorem Eng.portsOnly_congr {a b : Eng} (h : ∀ g < 8, b.n (Od.LANE_GROUP.mode g) = a.n (Od.LANE_GROUP.mode g)) :
    b.portsOnly mask = a.portsOnly mask := by
  have hp : ∀ p ∈ List.range 32, b.isPort p = a.isPort p := fun p hp => by
    have := List.mem_range.1 hp
    rw [Eng.isPort, Eng.portLanes, Eng.portMode, h (p / 4) (by omega)]
    rfl
  rw [Bool.eq_iff_iff, Eng.portsOnly, Eng.portsOnly, List.all_eq_true, List.all_eq_true]
  exact forall₂_congr fun p hr => by rw [hp p hr]

/-- CAL_WINDOW's byte 4 opens or closes the windows of its mask. -/
theorem calWindowAct_ok {f : SchedEntry} (hb : argByte f.arg 4 ≤ 1) (hp : e.portsOnly (argField f.arg 0 4) = true) :
    calWindowAct x f e = (stOk, if argByte f.arg 4 = 1 then e.calOpen x (argField f.arg 0 4) else e.calClose x (argField f.arg 0 4)) := by
  unfold calWindowAct
  obtain h | h : argByte f.arg 4 = 0 ∨ argByte f.arg 4 = 1 := by omega
  · simp only [h, calCloseWrite, Int.toNat_natCast, hp, if_true, zero_ne_one, if_false]
  · simp only [h, calOpenWrite, Int.toNat_natCast, hp, if_true]

end

theorem State.counted_portsOnly (s : State) (i mask : Nat) : (s.counted i).portsOnly mask = s.eng.portsOnly mask :=
  Eng.portsOnly_congr mask fun g hg => s.counted_n i (fun m hm => odKey_ne (by omega)) (odKey_ne (by omega))

/-! ## KEY_ROTATE (R173) -/

/-- A slot in ACCEPT becomes CURRENT. -/
theorem slotRotate_accept {e : Eng} {k : Nat} (x : Ctx) (from_ : Nat) (h : e.slotState k = 1) :
    ∃ a, slotRotate x k from_ e = (stOk, a) ∧ a.i Od.NTS_STATUS.current_slot = (k : Nat) ∧ a.i (Od.NTS_SLOT.state k) = 2 := by
  unfold slotRotate
  rw [if_neg (by omega), if_neg (by omega)]
  refine ⟨_, rfl, Eng.set_i_same .., ?_⟩
  exact (Eng.set_i_other _ _ _ _ (odKey_ne (by omega))).trans (Eng.set_i_same ..)

theorem State.counted_slotState (s : State) (i k : Nat) (hk : k < 256) : (s.counted i).slotState k = s.eng.slotState k :=
  s.counted_n i (fun m hm => odKey_ne (by omega)) (odKey_ne (by omega))

theorem argByte_lt (arg i : Nat) : argByte arg i < 256 := Nat.mod_lt _ (by decide)

/-! ## SWITCH (R272) -/

theorem switchAct_asks {f : SchedEntry} (i : Nat) (e : Eng) (h : argByte f.arg 0 ≤ 31) : switchAct i f e =
    (stOk, e.modSelMoon (argByte f.arg 0) (fun m => { m with switchTo := some (argByte f.arg 1, i) })) :=
  if_neg (not_lt.2 h)

/-! ## The statement -/

section
variable {s : State} {entry : Fin 1024} (hup : s.eng.up = true)
include hup

theorem exec_pulse_places (hd : s.eng.fireDue s.ctx entry 1 = true) : ∃ t, exec (.pulse entry) s = .next t ∧
    s.firedWith entry stOk t ∧ t.eng.outs = (pulseAct s.ctx true (s.eng.entry entry) s.eng).2.outs := by
  obtain ⟨t, ht, hfired, hrest⟩ := lift_fireAction hup hd (schedAct_pulse (Eng.fireDue_action hd))
  have houts := Eng.schedOnly_facet hrest (φ := .outs) (by decide)
  exact ⟨t, ht, hfired, houts.trans (Eng.onlyObjects_outs (pulseAct_onlyObjects (s.counted_onlyObjects entry) ..))⟩

theorem exec_snapshot_reads (hd : s.eng.fireDue s.ctx entry 2 = true) : ∃ t, exec (.snapshot entry) s = .next t ∧
    s.firedWith entry stOk t ∧ t.eng.i Od.SCHED_SNAP.tick = s.core.tick ∧ t.eng.i Od.SCHED_SNAP.entry = (entry : Nat) ∧
    ∀ k : Fin 32, t.eng.i (Od.SCHED_SNAP_MOON k) = s.ctx.st k := by
  obtain ⟨t, ht, hfired, hrest⟩ := lift_fireAction hup hd ((schedAct_snapshot (Eng.fireDue_action hd)).trans (snapshotAct_eq ..))
  refine ⟨t, ht, hfired, ?_, ?_, fun k => ?_⟩
  · rw [Eng.schedOnly_i hrest Od.SCHED_SNAP.tick (by decide), Eng.setAll_i_other _ _ _ (s.ctx.snapMoons_ne (by decide))]
    exact Eng.snapHeld_tick ..
  · rw [Eng.schedOnly_i hrest Od.SCHED_SNAP.entry (by decide), Eng.setAll_i_other _ _ _ (s.ctx.snapMoons_ne (by decide))]
    exact Eng.snapHeld_entry ..
  · rw [Eng.schedOnly_i hrest (Od.SCHED_SNAP_MOON k) (fun m hm => odKey_ne (by omega))]
    exact Eng.setAll_i_mem _ _ s.ctx.snapMoons_nodup _ (s.ctx.snapMoons_mem k)

theorem exec_window_closes (hd : s.eng.fireDue s.ctx entry 3 = true) : ∃ t, exec (.window entry) s = .next t ∧
    s.firedWith entry stOk t ∧
    ∀ w : Fin 64, bitOf (argField (s.eng.entry entry).arg 0 8) w = true → t.eng.n (Od.CNT_WIN.close_tick w) = s.core.tick := by
  obtain ⟨t, ht, hfired, hrest⟩ := lift_fireAction hup hd (schedAct_window (Eng.fireDue_action hd))
  refine ⟨t, ht, hfired, fun w hw => ?_⟩
  rw [Eng.schedOnly_n hrest (Od.CNT_WIN.close_tick w) (fun m hm => odKey_ne (by omega))]
  exact Eng.closeWindows_tick _ s.ctx _ 64 w.isLt hw

theorem exec_calWindow_marks (hd : s.eng.fireDue s.ctx entry 4 = true) (hb : argByte (s.eng.entry entry).arg 4 ≤ 1)
    (hp : s.eng.portsOnly (argField (s.eng.entry entry).arg 0 4) = true) : ∃ t, exec (.calWindow entry) s = .next t ∧
    s.firedWith entry stOk t ∧ t.eng.n Od.CAL_CTRL.open_mask =
      if argByte (s.eng.entry entry).arg 4 = 1 then s.eng.n Od.CAL_CTRL.open_mask ||| argField (s.eng.entry entry).arg 0 4
      else clearBits (s.eng.n Od.CAL_CTRL.open_mask) (argField (s.eng.entry entry).arg 0 4) := by
  obtain ⟨t, ht, hfired, hrest⟩ := lift_fireAction hup hd ((schedAct_calWindow (Eng.fireDue_action hd)).trans
    (calWindowAct_ok _ s.ctx hb ((s.counted_portsOnly entry _).trans hp)))
  have hmask : (s.counted entry).n Od.CAL_CTRL.open_mask = s.eng.n Od.CAL_CTRL.open_mask :=
    s.counted_n entry (by decide) (by decide)
  refine ⟨t, ht, hfired, ?_⟩
  rw [Eng.schedOnly_n hrest Od.CAL_CTRL.open_mask (by decide), ← hmask]
  split
  · exact Eng.calOpen_mask ..
  · exact Eng.calClose_mask ..

theorem exec_keyRotate_rotates (hd : s.eng.fireDue s.ctx entry 5 = true)
    (hs : s.eng.slotState (argByte (s.eng.entry entry).arg 0) = 1) : ∃ t, exec (.keyRotate entry) s = .next t ∧
    s.firedWith entry stOk t ∧ t.eng.i Od.NTS_STATUS.current_slot = (argByte (s.eng.entry entry).arg 0 : Nat) ∧
    t.eng.i (Od.NTS_SLOT.state (argByte (s.eng.entry entry).arg 0)) = 2 := by
  have hk := argByte_lt (s.eng.entry entry).arg 0
  obtain ⟨a, ha, hcurrent, hstate⟩ := slotRotate_accept s.ctx (s.ctx.lin 0) ((s.counted_slotState entry _ hk).trans hs)
  obtain ⟨t, ht, hfired, hrest⟩ := lift_fireAction hup hd ((schedAct_keyRotate (Eng.fireDue_action hd)).trans ha)
  refine ⟨t, ht, hfired, ?_, ?_⟩
  · exact (Eng.schedOnly_i hrest _ (by decide)).trans hcurrent
  · exact (Eng.schedOnly_i hrest _ (fun m hm => odKey_ne (by omega))).trans hstate

theorem exec_switch_asks (hd : s.eng.fireDue s.ctx entry 6 = true) (hk : argByte (s.eng.entry entry).arg 0 ≤ 31) :
    ∃ t, exec (.switch entry) s = .next t ∧ s.firedWith entry stOk t ∧
      t.eng.sel.moons = modNth s.eng.sel.moons (argByte (s.eng.entry entry).arg 0)
        (fun m => { m with switchTo := some (argByte (s.eng.entry entry).arg 1, entry) }) := by
  obtain ⟨t, ht, hfired, hrest⟩ := lift_fireAction hup hd ((schedAct_switch (Eng.fireDue_action hd)).trans (switchAct_asks _ _ hk))
  have hsel := Eng.schedOnly_facet hrest (φ := .sel) (by decide)
  have hcounted : (s.counted entry).sel = s.eng.sel := s.counted_keeps entry (φ := .sel)
  refine ⟨t, ht, hfired, (congrArg Selector.moons hsel).trans ?_⟩
  rw [← hcounted]
  rfl

theorem exec_event_latches (hd : s.eng.fireDue s.ctx entry 8 = true) : ∃ t, exec (.event entry) s = .next t ∧
    s.firedWith entry stOk t ∧ t.eng.irq.latched = s.eng.irq.latched ||| 2 ^ 224 := by
  obtain ⟨t, ht, hfired, hrest⟩ := lift_fireAction hup hd (schedAct_event (Eng.fireDue_action hd))
  refine ⟨t, ht, hfired, ?_⟩
  rw [Eng.schedOnly_irq hrest, Eng.irqLatch_latched, State.counted_irq]

end

/-- Settles O15: a due entry's action is performed with its firing counted, and what it leaves outlasts the entry's re-arming. -/
theorem dueEntriesFireWithTheirAction : Obligations.DueEntriesFireWithTheirAction := by
  intro s entry f hup hf fired
  subst hf
  exact ⟨exec_pulse_places hup, exec_snapshot_reads hup, exec_window_closes hup, exec_calWindow_marks hup, exec_keyRotate_rotates hup,
    exec_switch_asks hup, exec_event_latches hup⟩

end Sys2Proof.Machine
end

section
/-! # Ports: event counts, and the writes and events their statements speak of (R381, R344)

What counting an event leaves of the others, and what a command's write leaves beside what its chapter does. -/

namespace Sys2Proof.Machine

/-! ## Event counts (R381) -/

theorem Eng.seen_of_ctr {e e' : Eng} (h : e'.ctr = e.ctr) (ev : Nat) : e'.seen ev = e.seen ev := by
  rw [Eng.seen, h]
  rfl

/-- The windows and the wrap bits are no event's count. -/
theorem Eng.countWindows_ev (e : Eng) (t ev n : Nat) : (e.countWindows t ev n).ctr.ev = e.ctr.ev := by
  unfold Eng.countWindows
  generalize e.ctr.active.filter _ = l
  induction l generalizing e with
  | nil => rfl
  | cons p l ih =>
    refine (ih _).trans ?_
    dsimp only
    split <;> rfl

/-- Counting adds to the event's own count, modulo 2^48, and leaves every other. -/
theorem Eng.seen_countN (e : Eng) (x : Ctx) (ev n j : Nat) :
    (e.countN x ev n).seen j = if j = ev then (e.seen ev + n) % 2 ^ 48 else e.seen j := by
  have h : (e.countN x ev n).ctr.ev = tput e.ctr.ev ev ((tgetD e.ctr.ev ev Counter.zero).count x.tick n) := by
    unfold Eng.countN
    rw [Eng.countWindows_ev]
    split <;> rfl
  rw [Eng.seen, h, tgetD]
  split
  next hj => rw [hj, tget_tput_same]; rfl
  next hj => rw [tget_tput_other _ _ _ _ hj]; rfl

theorem Eng.seen_count (e : Eng) (x : Ctx) (ev j : Nat) :
    (e.count x ev).seen j = if j = ev then (e.seen ev + 1) % 2 ^ 48 else e.seen j := e.seen_countN ..

theorem Eng.seen_count_same (e : Eng) (x : Ctx) (ev : Nat) : (e.count x ev).seen ev = (e.seen ev + 1) % 2 ^ 48 := by
  rw [Eng.seen_count, if_pos rfl]

/-- No event is counted but those that `P` holds of. -/
structure Eng.CountsOf (P : Nat → Prop) (e e' : Eng) : Prop where
  seen : ∀ ev, ¬ P ev → e'.seen ev = e.seen ev

namespace Eng.CountsOf

variable {P : Nat → Prop} {a b c e : Eng} {x : Ctx}

theorem refl (P : Nat → Prop) (e : Eng) : Eng.CountsOf P e e := ⟨fun _ _ => rfl⟩

theorem trans (h : Eng.CountsOf P a b) (h' : Eng.CountsOf P b c) : Eng.CountsOf P a c :=
  ⟨fun ev hev => (h'.seen ev hev).trans (h.seen ev hev)⟩

theorem mono {Q : Nat → Prop} (h : Eng.CountsOf P a b) (hPQ : ∀ ev, P ev → Q ev) : Eng.CountsOf Q a b :=
  ⟨fun ev hev => h.seen ev (mt (hPQ ev) hev)⟩

/-- A change that leaves the counters counts nothing. -/
theorem step (h : Eng.CountsOf P a b) (hc : c.ctr = b.ctr) : Eng.CountsOf P a c :=
  ⟨fun ev hev => (Eng.seen_of_ctr hc ev).trans (h.seen ev hev)⟩

theorem countN {ev : Nat} (h : Eng.CountsOf P a e) (hev : P ev) (n : Nat) : Eng.CountsOf P a (e.countN x ev n) := by
  refine h.trans ⟨fun j hj => ?_⟩
  rw [Eng.seen_countN, if_neg]
  rintro rfl
  exact hj hev

theorem count {ev : Nat} (h : Eng.CountsOf P a e) (hev : P ev) : Eng.CountsOf P a (e.count x ev) := h.countN hev 1

theorem set (h : Eng.CountsOf P a e) (k : Key) (v : Int) : Eng.CountsOf P a (e.set k v) := h.step rfl

theorem inc32 (h : Eng.CountsOf P a e) (k : Key) : Eng.CountsOf P a (e.inc32 k) := h.step rfl

theorem inc64 (h : Eng.CountsOf P a e) (k : Key) : Eng.CountsOf P a (e.inc64 k) := h.step rfl

theorem orb (h : Eng.CountsOf P a e) (k : Key) (m : Nat) : Eng.CountsOf P a (e.orb k m) := h.step rfl

theorem modPort (h : Eng.CountsOf P a e) (p : Nat) (f : Port → Port) : Eng.CountsOf P a (e.modPort p f) := h.step rfl

theorem modLane (h : Eng.CountsOf P a e) (l : Nat) (f : LaneUnit → LaneUnit) : Eng.CountsOf P a (e.modLane l f) := h.step rfl

theorem ite {p : Prop} [Decidable p] (hb : Eng.CountsOf P a b) (hc : Eng.CountsOf P a c) : Eng.CountsOf P a (if p then b else c) := by
  split
  · exact hb
  · exact hc

theorem foldl {β : Type} {f : Eng → β → Eng} (hf : ∀ e b, Eng.CountsOf P e (f e b)) (l : List β) (e : Eng) :
    Eng.CountsOf P e (l.foldl f e) := by
  induction l generalizing e with
  | nil => exact refl P e
  | cons b l ih => exact (hf e b).trans (ih _)

end Eng.CountsOf

/-! ## Objects and counters alone -/

theorem Eng.onlyObjects_countN {a b : Eng} (h : a.onlyObjects b) (x : Ctx) (ev n : Nat) : a.onlyObjects (b.countN x ev n) :=
  Eng.onlyObjects_trans h (by unfold Eng.onlyObjects; rw [Eng.countN_frame])

theorem Eng.onlyObjects_orb {a b : Eng} (h : a.onlyObjects b) (k : Key) (m : Nat) : a.onlyObjects (b.orb k m) := Eng.onlyObjects_set h ..

theorem Eng.onlyObjects_ite {p : Prop} [Decidable p] {a b c : Eng} (hb : a.onlyObjects b) (hc : a.onlyObjects c) :
    a.onlyObjects (if p then b else c) := by
  split <;> assumption

theorem State.onlyObjects_eng0 (s : State) : s.eng.onlyObjects s.eng0 := rfl

/-! ## What a command's write leaves (R344, R362) -/

theorem odKey_area {a i m : Nat} (h : i * 16 + m < 65536) : (odKey a i m).area = a := by
  change (a * 65536 + i * 16 + m) / 65536 = a
  omega

/-- Outside the moons' and the schedule's areas no counter of its own counts a write that a chapter turns away. -/
theorem Eng.refusedHook_elsewhere (e : Eng) {k : Key} (h10 : k.area ≠ 0x10) (h14 : k.area ≠ 0x14) (st : Nat) : e.refusedHook k st = e := by
  unfold Eng.refusedHook
  rw [if_neg (c := _ ∧ _) (fun h => h10 h.1), if_neg (c := _ ∧ _) (fun h => h14 h.1), ite_self]

/-- A command answered with the status `st` after its chapter left `e`: the accounting is all it adds. -/
structure State.Answers (s : State) (st : Nat) (e : Eng) (t : State) : Prop where
  status : t.eng.resp.status = st
  obj : ∀ j, accounting j = false → t.eng.i j = e.i j
  rest : e.onlyObjects t.eng
  beside : s.beside t

theorem State.answers_account (s : State) (st : Nat) (e : Eng) (p : Bool) :
    s.Answers st e { s with eng := e.account s.ctx p st } where
  status := by simp
  obj _ hj := Eng.account_i _ _ _ _ _ hj
  rest := Eng.account_onlyObjects (Eng.onlyObjects_refl _) _ _ _
  beside := ⟨rfl, rfl, rfl⟩

/-- A command's admitted write in an area of the ports answers what its chapter does. -/
theorem lift_writeCmd_answers {s : State} {a i m : Nat} {v : Int} {roles st : Nat} {op : Ctx → Eng → WriteRes} {e : Eng}
    (hu : s.eng.up = true) (ha : a = 0x30 ∨ a = 0x38) (hi : i * 16 + m < 65536) (had : s.eng.admits (odKey a i m) v roles = true)
    (ho : op s.ctx s.eng0 = (st, e)) :
    ∃ t, lift (fun x e => e.writeCmd x (odKey a i m) v roles (op x)) s = .next t ∧ s.Answers st e t := by
  obtain ⟨p, hp⟩ := Eng.writeCmd_admitted (e := s.eng0) (k := odKey a i m) (v := v) (roles := roles) s.ctx had ho
  refine ⟨_, lift_up hu _, ?_⟩
  rw [hp, e.refusedHook_elsewhere (by rw [odKey_area hi]; omega) (by rw [odKey_area hi]; omega)]
  exact s.answers_account st e p

/-- What an object of the ports' areas reads after the answer. -/
theorem State.Answers.portObj {s t : State} {st : Nat} {e : Eng} (h : s.Answers st e t) {a i m : Nat} (ha : a = 0x30 ∨ a = 0x38)
    (hi : i * 16 + m < 65536) : t.eng.i (odKey a i m) = e.i (odKey a i m) :=
  h.obj _ (accounting_area (by omega) hi)

end Sys2Proof.Machine
end

section
/-! # Links (R85 to R87, R107, R118, R121, R161) -/

namespace Sys2Proof.Machine

/-- The element a change of one element of a list leaves. -/
theorem nth_modNth {α : Type} (l : List α) (i j : Nat) (f : α → α) (d : α) :
    nth (modNth l i f) j d = if j = i ∧ j < l.length then f (nth l j d) else nth l j d := by
  unfold nth modNth
  rw [List.getD_eq_getElem?_getD, List.getElem?_modify, List.getD_eq_getElem?_getD]
  by_cases hj : j < l.length
  · by_cases hi : i = j
    · simp [hi, hj]
    · simp [hi, hj, Ne.symm hi]
  · simp [hj]

/-! ## The calendars (R161, R163) -/

section
variable {x : Ctx}

/-- A change of a calendar that keeps its reservations keeps every port's. -/
theorem Eng.modCal_resv (e : Eng) (p q : Nat) (f : Calendar → Calendar) (hf : ∀ c, (f c).resv = c.resv) :
    ((e.modCal p f).cal q).resv = (e.cal q).resv := by
  change (nth (modNth e.cals p f) q Calendar.atReset).resv = _
  rw [nth_modNth]
  split
  · exact hf _
  · rfl

/-- Discarding all of a port's reservations empties its calendar, and no other. -/
theorem Eng.discardAll_resv (e : Eng) (p k q : Nat) :
    ((e.discardAll x p k (fun _ => true)).cal q).resv = if q = p then [] else (e.cal q).resv := by
  have hcals : (e.discardAll x p k (fun _ => true)).cals = modNth e.cals p (fun c => { c with resv := c.resv.filter (fun _ => !true) }) :=
    Facet.of_foldl (φ := .cals) _ _ (fun e r => Eng.resvDiscard_keeps e x p k r (by decide)) _
  rw [Eng.cal, hcals, nth_modNth]
  split
  next h => rw [if_pos h.1]; simp
  next h =>
    split
    next hq =>
      have hlen : e.cals.length ≤ q := Nat.le_of_not_lt fun hlt => h ⟨hq, hlt⟩
      rw [nth, List.getD_eq_default _ _ hlen]
      rfl
    next => rfl

/-- The calendars of ports whose reservations are discarded one port after the other are empty. -/
theorem Eng.discards_resv (f : Nat → Nat) (l : List Nat) (e : Eng) {q : Nat} (h : (e.cal q).resv = [] ∨ q ∈ l.map f) :
    ((l.foldl (fun e i => e.discardAll x (f i) 7 (fun _ => true)) e).cal q).resv = [] := by
  induction l generalizing e with
  | nil => exact h.resolve_right List.not_mem_nil
  | cons i l ih =>
    refine ih _ ?_
    rw [Eng.discardAll_resv]
    rcases h with h | h
    · exact .inl (by rw [h, ite_self])
    · rcases List.mem_cons.1 h with h | h
      · exact .inl (if_pos h)
      · exact .inr h

end

/-! ## What a link's fall counts -/

section
variable {x : Ctx} {a e : Eng}

theorem Eng.txWriteBack_ctr (r n : Nat) (e : Eng) : (e.txWriteBack x r n).ctr = e.ctr := by
  induction n generalizing e with
  | zero => rfl
  | succ n ih =>
    unfold Eng.txWriteBack
    dsimp only
    split
    · rfl
    · split
      · rfl
      · split
        · rfl
        · exact (ih _).trans (Eng.irqPoke_ctr ..)

theorem Eng.CountsOf.countTxDone {P : Nat → Prop} (h : Eng.CountsOf P a e) (r status : Nat) : Eng.CountsOf P a (e.countTxDone r status) := by
  unfold Eng.countTxDone
  extract_lets e1 e2 e3 e4
  have h1 : Eng.CountsOf P a e1 := .ite (h.inc64 _) h
  have h2 : Eng.CountsOf P a e2 := .ite (h1.inc64 _) h1
  have h3 : Eng.CountsOf P a e3 := .ite (h2.inc64 _) h2
  have h4 : Eng.CountsOf P a e4 := .ite (h3.inc64 _) h3
  exact .ite (h4.orb _ _) h4

/-- Discarding reservations counts departures and answers, whose events come after those of the ports and of the rules (R147, R164). -/
theorem Eng.CountsOf.discardAll {P : Nat → Prop} (hP : ∀ ev, 0x800 ≤ ev → P ev) (h : Eng.CountsOf P a e) (p k : Nat) (which : Resv → Bool) :
    Eng.CountsOf P a (e.discardAll x p k which) := by
  unfold Eng.discardAll
  refine (h.step (c := e.modCal p _) rfl).trans (.foldl (fun e r => ?_) _ _)
  have hmiss : Eng.CountsOf P e (e.depMiss x p k) :=
    (((((Eng.CountsOf.refl P e).count (hP _ (by omega))).inc64 _).set _ _).set _ _).orb _ _
  unfold Eng.resvDiscard Eng.depTell
  split
  · exact ((hmiss.count (hP _ (by omega))).inc64 _).inc64 _
  · exact hmiss.inc64 _
  · exact hmiss
  · unfold Eng.txFinish
    refine (Eng.CountsOf.countTxDone (hmiss.step ?_) _ _).step (Eng.txWriteBack_ctr ..)
    exact Eng.irqPoke_ctr ..

theorem Eng.CountsOf.tsFall {P : Nat → Prop} (hP : ∀ ev, 0x800 ≤ ev → P ev) (h : Eng.CountsOf P a e) (p : Nat) :
    Eng.CountsOf P a (e.tsFall x p) := by
  unfold Eng.tsFall
  exact .ite (.discardAll hP ((h.set _ _).trans (.foldl (fun e l => (Eng.CountsOf.refl P e).modLane l _) _ _)) p 7 _) h

end

/-! ## The change of a link (R87, R108) -/

/-- Two members of one item of a port's status. -/
theorem portStatus_ne (p m m' : Nat) (h : m ≠ m') : odKey 0x30 (0x101 + 16 * p) m ≠ odKey 0x30 (0x101 + 16 * p) m' :=
  (odKey_injective _ _).ne h

theorem portKey_lt {i m : Nat} (h : i * 16 + m < 65536) : odKey 0x30 i m < 0x40 * 65536 := by
  change 0x30 * 65536 + i * 16 + m < _
  omega

/-- A link falls: its objects, its count and its source, before its lanes and its calendar. -/
def Eng.linkLost (e : Eng) (x : Ctx) (p : Nat) : Eng :=
  (((((e.set (Od.PORT_STATUS.link p) 0).set (Od.PORT_STATUS.lanes p) 0).set (Od.PORT_STATUS.rate_gbps p) 0).portCount x p 25).orb
    (Od.PORT_STATUS.sticky p) 1).linkChanged x p

/-- What the fall of a link takes with it: the timestamps, the reservations and the lanes' counts (R121, R161). -/
def Eng.linkCleared (e : Eng) (x : Ctx) (p : Nat) : Eng :=
  let e := (e.tsFall x p).discardAll x p 7 (fun _ => true)
  (e.lanesOf p).foldl (fun e l => e.modLane l (fun u => { u with markers := 0, echoes := 0, closureRun := 0 })) e

theorem Eng.linkFall_eq (e : Eng) (x : Ctx) (p : Nat) :
    e.linkFall x p = if e.b (Od.PORT_STATUS.link p) then (e.linkLost x p).linkCleared x p else e := rfl

section
variable (e : Eng) (x : Ctx) (p : Nat)

theorem Eng.linkChanged_tick : (e.linkChanged x p).i (Od.PORT_STATUS.last_change_tick p) = x.tick := by
  rw [Eng.linkChanged, Eng.irqLatch_i, Eng.set_i_same]

theorem Eng.linkChanged_changes :
    (e.linkChanged x p).n (Od.PORT_STATUS.link_changes p) = (e.n (Od.PORT_STATUS.link_changes p) + 1) % 2 ^ 32 := by
  have hne : Od.PORT_STATUS.link_changes p ≠ Od.PORT_STATUS.last_change_tick p := portStatus_ne p 5 6 (by decide)
  rw [Eng.n, Eng.linkChanged, Eng.irqLatch_i, Eng.set_i_other _ _ _ _ hne, Eng.inc32_i, if_pos rfl]
  rfl

theorem Eng.linkChanged_seen (ev : Nat) : (e.linkChanged x p).seen ev = e.seen ev :=
  Eng.seen_of_ctr (Eng.irqLatch_ctr ..) ev

theorem Eng.linkChanged_latched : (e.linkChanged x p).irq.latched = e.irq.latched ||| 2 ^ 228 := Eng.irqLatch_latched ..

/-- The change of a link names two objects of its port's status. -/
theorem Eng.Spares.linkChanged {j : Key} {a e : Eng} (h : Eng.Spares j a e) (p : Nat) (h5 : j ≠ Od.PORT_STATUS.link_changes p)
    (h6 : j ≠ Od.PORT_STATUS.last_change_tick p) : Eng.Spares j a (e.linkChanged x p) :=
  ((h.inc32 h5).set h6 _).irqLatch 228

/-- The link that falls reads 0. -/
theorem Eng.linkLost_link : (e.linkLost x p).i (Od.PORT_STATUS.link p) = 0 := by
  have hm := portStatus_ne p 1
  have hc : Od.PORT_STATUS.link p ≠ Od.CNT_STATUS.sticky := odKey_ne (by omega)
  have h := (((((Eng.Spares.refl (Od.PORT_STATUS.link p) (e.set (Od.PORT_STATUS.link p) 0)).set (hm 2 (by decide)) 0).set
    (hm 3 (by decide)) 0).count (x := x) hc (32 * p + 25)).orb (hm 7 (by decide)) 1).linkChanged x p (hm 5 (by decide)) (hm 6 (by decide))
  exact h.obj.trans (Eng.set_i_same ..)

theorem Eng.linkLost_seen (ev : Nat) :
    (e.linkLost x p).seen ev = if ev = 32 * p + 25 then (e.seen ev + 1) % 2 ^ 48 else e.seen ev := by
  refine (Eng.linkChanged_seen _ x p ev).trans ((Eng.seen_count _ x (32 * p + 25) ev).trans ?_)
  split
  next h => rw [h]; rfl
  next => rfl

theorem Eng.Spares.linkCleared {j : Key} {a e : Eng} (hj : j < 0x40 * 65536) (h : Eng.Spares j a e) (p : Nat)
    (ht : j ≠ Od.PORT_STATUS.ts_valid p) : Eng.Spares j a (e.linkCleared x p) :=
  (Eng.Spares.discardAll hj (.tsFall hj h p ht) p 7 _).trans (.foldl (fun e l => .modLane _ e l _) _ _)

theorem Eng.linkCleared_seen {ev : Nat} (hev : ev < 0x800) : (e.linkCleared x p).seen ev = e.seen ev := by
  have hP : ∀ ev, 0x800 ≤ ev → 0x800 ≤ ev := fun _ h => h
  have h := (Eng.CountsOf.discardAll (x := x) hP (.tsFall (x := x) hP (.refl (0x800 ≤ ·) e) p) p 7 (fun _ => true)).trans
    (Eng.CountsOf.foldl (f := fun e l => e.modLane l (fun u => { u with markers := 0, echoes := 0, closureRun := 0 }))
      (fun e l => (Eng.CountsOf.refl _ e).modLane l _) (((e.tsFall x p).discardAll x p 7 (fun _ => true)).lanesOf p) _)
  exact h.seen ev (by omega)

/-- Where timestamps were valid or not, they are not after the fall (R121). -/
theorem Eng.tsFall_ts (hp : p < 32) : (e.tsFall x p).b (Od.PORT_STATUS.ts_valid p) = false := by
  unfold Eng.tsFall
  split
  next =>
    have h := Eng.Spares.discardAll (x := x) (portKey_lt (i := 0x101 + 16 * p) (m := 4) (by omega))
      (.foldl (f := fun e l => e.modLane l (fun u => { u with markers := 0, echoes := 0 })) (fun e l => .modLane _ e l _)
        ((e.set (Od.PORT_STATUS.ts_valid p) 0).lanesOf p) (e.set (Od.PORT_STATUS.ts_valid p) 0)) p 7 (fun _ => true)
    rw [Eng.b]
    exact bne_eq_false_iff_eq.2 (h.obj.trans (Eng.set_i_same ..))
  next h => exact Bool.eq_false_iff.2 h

theorem Eng.linkCleared_ts (hp : p < 32) : (e.linkCleared x p).b (Od.PORT_STATUS.ts_valid p) = false := by
  have h := (Eng.Spares.discardAll (x := x) (portKey_lt (i := 0x101 + 16 * p) (m := 4) (by omega)) (.refl _ (e.tsFall x p)) p 7 (fun _ => true)).trans
    (.foldl (f := fun e l => e.modLane l (fun u => { u with markers := 0, echoes := 0, closureRun := 0 }))
      (fun e l => .modLane _ e l _) (((e.tsFall x p).discardAll x p 7 (fun _ => true)).lanesOf p) _)
  rw [← e.tsFall_ts x p hp]
  exact congrArg (· != 0) h.obj

theorem Eng.linkCleared_resv : ((e.linkCleared x p).cal p).resv = [] := by
  have hcals : (e.linkCleared x p).cals = ((e.tsFall x p).discardAll x p 7 (fun _ => true)).cals :=
    Facet.of_foldl (φ := .cals) _ _ (fun e l => Eng.modLane_keeps e l _ (by decide)) _
  rw [Eng.cal, hcals]
  exact (Eng.discardAll_resv ..).trans (if_pos rfl)

end

/-! ## The writes that take links down (R85, R87, R118) -/

section
variable {x : Ctx}

/-- A link's fall spares every object that is none of its port's status. -/
theorem Eng.Spares.linkFall_other {j : Key} (hj : j < 0x40 * 65536) (e : Eng) (p : Nat)
    (hm : ∀ m < 16, j ≠ odKey 0x30 (0x101 + 16 * p) m) : Eng.Spares j e (e.linkFall x p) := by
  rw [Eng.linkFall_eq]
  refine .ite (.linkCleared x hj ?_ p (hm 4 (by decide))) (.refl j e)
  exact ((((((Eng.Spares.refl j e).set (hm 1 (by decide)) 0).set (hm 2 (by decide)) 0).set (hm 3 (by decide)) 0).count
    (ne_of_area hj (by decide)) (32 * p + 25)).orb (hm 7 (by decide)) 1).linkChanged x p (hm 5 (by decide)) (hm 6 (by decide))

/-- A port trains with an empty calendar under its group's new mode; a MAC that is no port holds no Tail entry (R84, R163). -/
def Eng.calRestart (e : Eng) (p : Nat) : Eng :=
  let e := e.modCal p (fun c => { c with deficit := 0, lastEnd := 0, busyTo := 0 })
  let e := e.set (Od.DEP_LIVE.cells_total p) (e.portCells p)
  if e.isPort p then e else { e with tails := modNth e.tails p (fun q => { q with entries := [] }) }

theorem laneGroupWrite_eq (g : Nat) (v : Int) (e : Eng) : laneGroupWrite x g v e = (stOk,
    (List.range 4).foldl (fun e i => e.calRestart (4 * g + i))
      (((List.range 4).foldl (fun e i => e.discardAll x (4 * g + i) 7 (fun _ => true)) (e.groupDown x g)).set (Od.LANE_GROUP.mode g) v)) := rfl

theorem Eng.Spares.calRestart {j : Key} (hj : j < 0x40 * 65536) (e : Eng) (p : Nat) : Eng.Spares j e (e.calRestart p) := by
  unfold Eng.calRestart
  extract_lets e1 e2
  have h2 : Eng.Spares j e e2 := (Eng.Spares.modCal j e p _).set (ne_of_area hj (by decide)) _
  exact .ite h2 (h2.trans ⟨rfl, rfl⟩)

theorem Eng.calRestart_resv (e : Eng) (p q : Nat) : ((e.calRestart p).cal q).resv = (e.cal q).resv := by
  refine Eq.trans ?_ (e.modCal_resv p q (fun c => { c with deficit := 0, lastEnd := 0, busyTo := 0 }) fun _ => rfl)
  unfold Eng.calRestart
  dsimp only
  split <;> rfl

theorem Eng.calRestarts_resv (f : Nat → Nat) (l : List Nat) (e : Eng) (q : Nat) :
    ((l.foldl (fun e i => e.calRestart (f i)) e).cal q).resv = (e.cal q).resv := by
  induction l generalizing e with
  | nil => rfl
  | cons i l ih => exact (ih _).trans (e.calRestart_resv (f i) q)

/-- A write of a group's mode stores it, with the links of the group's four ports down and their calendars empty (R85, R163). -/
theorem laneGroupWrite_leaves (g : Fin 8) (v : Int) (e : Eng) : ∃ e', laneGroupWrite x g v e = (stOk, e') ∧
    e'.i (Od.LANE_GROUP.mode g) = v ∧
    ∀ i : Fin 4, e'.b (Od.PORT_STATUS.link (4 * g + i)) = false ∧ (e'.cal (4 * g + i)).resv = [] := by
  have hmem (i : Fin 4) : 4 * g.val + i ∈ (List.range 4).map (fun j => 4 * g.val + j) :=
    List.mem_map.2 ⟨i, List.mem_range.2 i.isLt, rfl⟩
  refine ⟨_, laneGroupWrite_eq g v e, ?_, fun i => ⟨?_, ?_⟩⟩
  · have hj : Od.LANE_GROUP.mode g < 0x40 * 65536 := portKey_lt (by omega)
    exact (Eng.Spares.foldl (fun e i => .calRestart hj e (4 * g + i)) _ _).obj.trans (Eng.set_i_same ..)
  · have hq : 4 * g.val + i < 32 := by omega
    have hj := link_lt _ hq
    have hne : Od.PORT_STATUS.link (4 * g + i) ≠ Od.LANE_GROUP.mode g := odKey_ne (by omega)
    have hdown : (e.groupDown x g).b (Od.PORT_STATUS.link (4 * g + i)) = false := by
      unfold Eng.groupDown
      exact Eng.linkFalls_down (fun j => 4 * g + j) _ _ hq (.inr (hmem i))
    have hdiscard := Eng.Spares.foldl (f := fun e j => e.discardAll x (4 * g + j) 7 (fun _ => true))
      (fun e j => .discardAll hj (.refl _ e) (4 * g + j) 7 _) (List.range 4) (e.groupDown x g)
    have hrestart := (hdiscard.set hne v).trans
      (.foldl (f := fun e j => e.calRestart (4 * g + j)) (fun e j => .calRestart hj e (4 * g + j)) (List.range 4) _)
    rw [← hdown]
    exact congrArg (· != 0) hrestart.obj
  · have hempty := Eng.discards_resv (x := x) (fun j => 4 * g + j) (List.range 4) (e.groupDown x g) (.inr (hmem i))
    refine (Eng.calRestarts_resv (fun j => 4 * g.val + j) (List.range 4) _ _).trans ?_
    rw [Eng.cal, Eng.set_cals]
    exact hempty

/-- The lowest lane of the port that holds a lane is none above it. -/
theorem Eng.portOfLane_le {e : Eng} {l p : Nat} (h : e.portOfLane l = some p) : p ≤ l := by
  refine List.foldlRecOn (motive := fun r => ∀ p, r = some p → p ≤ l) (List.range 4) _ (by rintro _ ⟨⟩) (fun r hr i _ => ?_) p h
  dsimp only
  split
  next hi =>
    rintro _ ⟨⟩
    exact hi.1
  next => exact hr

end

/-- Settles O28: each write's effect is `laneGroupWrite_leaves`, or the fall of one link, and its answer adds the accounting alone. -/
theorem portWritesTakeLinksDown : Obligations.PortWritesTakeLinksDown := by
  intro s roles hup
  refine ⟨fun group value ha => ?_, fun port ha => ?_, fun port ha => ?_, fun lane value ha => ?_⟩
  · obtain ⟨e, he, hmode, hports⟩ := laneGroupWrite_leaves (x := s.ctx) group value s.eng0
    obtain ⟨t, ht, hans⟩ := lift_writeCmd_answers (op := fun x => laneGroupWrite x group value) hup (.inl rfl) (by omega) ha he
    refine ⟨t, ht, ⟨hans.status, hans.beside⟩, (hans.portObj (.inl rfl) (by omega)).trans hmode, fun i => ⟨?_, ?_⟩⟩
    · exact (congrArg (· != 0) (hans.portObj (.inl rfl) (by omega))).trans (hports i).1
    · rw [Eng.cal, show t.eng.cals = e.cals from (congrArg Eng.cals hans.rest :)]
      exact (hports i).2
  · obtain ⟨t, ht, hans⟩ := lift_writeCmd_answers (op := fun x => portEnableWrite x port 0) hup (.inl rfl) (by omega) ha rfl
    refine ⟨t, ht, ⟨hans.status, hans.beside⟩, (hans.portObj (.inl rfl) (by omega)).trans ?_,
      (congrArg (· != 0) (hans.portObj (.inl rfl) (by omega))).trans (Eng.linkFall_down port.isLt _)⟩
    refine (Eng.Spares.linkFall_other ?_ _ port fun m hm => odKey_ne (by omega)).obj.trans (Eng.set_i_same ..)
    exact portKey_lt (by omega)
  · exact lift_writeCmd_wrote (op := fun x => portEnableWrite x port 1) [(Od.PORT_CONFIG.enable port, 1)] hup ha rfl (List.nodup_singleton _)
      (List.forall_mem_singleton.2 (accounting_area (by decide) (by omega)))
  · obtain ⟨t, ht, hans⟩ := lift_writeCmd_answers (op := fun x => laneIfWrite x lane value) hup (.inr rfl) (by omega) ha rfl
    refine ⟨t, ht, ⟨hans.status, hans.beside⟩, (hans.portObj (.inr rfl) (by omega)).trans (Eng.set_i_same ..), fun p hp => ?_⟩
    have hq : p < 32 := lt_of_le_of_lt (Eng.portOfLane_le hp) lane.isLt
    refine (congrArg (· != 0) (hans.portObj (.inl rfl) (by omega))).trans ?_
    rw [show s.eng0.portOfLane lane = some p from hp]
    exact (congrArg (· != 0) (Eng.set_i_other _ _ _ _ (odKey_ne (by omega)))).trans (Eng.linkFall_down hq _)

end Sys2Proof.Machine
end

section
/-! # Links that rise and fall (R86, R87, R107, R121) -/

namespace Sys2Proof.Machine

/-! ## The rise of a link (R87) -/

/-- A lane of a link that rises: its counts start again. -/
def Eng.laneTrained (e : Eng) (l : Nat) : Eng :=
  (e.modLane l (fun u => { u with markers := 0, echoes := 0, closureRun := 0 })).set (Od.LANE_LIVE.eq_steps l) 0

/-- A link's rise but for its change: its objects, and its lanes. -/
def Eng.linkTrained (e : Eng) (p : Nat) : Eng :=
  let e := (e.set (Od.PORT_STATUS.link p) 1).set (Od.PORT_STATUS.lanes p) (e.portLanes p)
  let e := e.set (Od.PORT_STATUS.rate_gbps p) (e.portRate p)
  (e.lanesOf p).foldl Eng.laneTrained e

theorem Eng.linkRise_eq (e : Eng) (x : Ctx) (p : Nat) : e.linkRise x p = (e.linkTrained p).linkChanged x p := rfl

/-- What every step of a pass keeps, the pass keeps. -/
theorem Eng.foldl_same {α β : Type} (g : Eng → α) {f : Eng → β → Eng} (h : ∀ e b, g (f e b) = g e) (l : List β) (e : Eng) :
    g (l.foldl f e) = g e := by
  induction l generalizing e with
  | nil => rfl
  | cons b l ih => exact (ih _).trans (h e b)

section
variable (e : Eng) (x : Ctx) {p : Nat}

theorem Eng.linkTrained_irq : (e.linkTrained p).irq = e.irq := Eng.foldl_same (f := Eng.laneTrained) Eng.irq (fun _ _ => rfl) _ _

/-- Of a port's status the training of its link names the link, the lanes and the rate. -/
theorem Eng.linkTrained_i (hp : p < 32) {m : Nat} (hm : m < 16) : (e.linkTrained p).i (odKey 0x30 (0x101 + 16 * p) m) =
    if m = 3 then (e.portRate p : Int) else if m = 2 then (e.portLanes p : Int) else if m = 1 then 1
      else e.i (odKey 0x30 (0x101 + 16 * p) m) := by
  have hlane (l : Nat) : odKey 0x30 (0x101 + 16 * p) m ≠ Od.LANE_LIVE.eq_steps l := odKey_ne (by omega)
  have hrate : ((e.set (Od.PORT_STATUS.link p) 1).set (Od.PORT_STATUS.lanes p) (e.portLanes p)).portRate p = e.portRate p := by
    have hkey (m : Nat) (h : m % 16 ≠ 0) : Od.LANE_GROUP.mode (p / 4) ≠ odKey 0x30 (0x101 + 16 * p) m := odKey_ne (by omega)
    have hmode : ((e.set (Od.PORT_STATUS.link p) 1).set (Od.PORT_STATUS.lanes p) (e.portLanes p)).i (Od.LANE_GROUP.mode (p / 4)) =
        e.i (Od.LANE_GROUP.mode (p / 4)) :=
      (Eng.set_i_other _ _ _ _ (hkey 2 (by decide))).trans (Eng.set_i_other _ _ _ _ (hkey 1 (by decide)))
    exact congrArg (fun v : Int => modeRate v.toNat) hmode
  unfold Eng.linkTrained
  dsimp only
  rw [hrate]
  refine (Eng.foldl_same (f := Eng.laneTrained) (fun e => e.i _) (fun e l => Eng.set_i_other _ _ _ _ (hlane l)) _ _).trans ?_
  have hset (k v) (e : Eng) : (e.set (odKey 0x30 (0x101 + 16 * p) k) v).i (odKey 0x30 (0x101 + 16 * p) m) =
      if m = k then v else e.i (odKey 0x30 (0x101 + 16 * p) m) := by
    rw [Eng.set_i]
    exact if_congr (odKey_injective _ _).eq_iff rfl rfl
  unfold Od.PORT_STATUS.link Od.PORT_STATUS.lanes Od.PORT_STATUS.rate_gbps
  rw [hset, hset, hset]

end

/-! ## The fall of a link (R87, R121, R161) -/

/-- What the fall of a link leaves of its port: no link, no timestamps and no reservations, at the present tick, and one link-down. -/
theorem Eng.linkFall_fell (e : Eng) (x : Ctx) {p : Nat} (hp : p < 32) (hlink : e.b (Od.PORT_STATUS.link p) = true) :
    (e.linkFall x p).i (Od.PORT_STATUS.link p) = 0 ∧ (e.linkFall x p).b (Od.PORT_STATUS.ts_valid p) = false ∧
    ((e.linkFall x p).cal p).resv = [] ∧ (e.linkFall x p).n (Od.PORT_STATUS.last_change_tick p) = x.tick ∧
    ∀ ev < 0x800, (e.linkFall x p).seen ev = if ev = 32 * p + 25 then (e.seen ev + 1) % 2 ^ 48 else e.seen ev := by
  have hcleared (m : Nat) (hm : m < 16) (h4 : m ≠ 4) :
      ((e.linkLost x p).linkCleared x p).i (odKey 0x30 (0x101 + 16 * p) m) = (e.linkLost x p).i (odKey 0x30 (0x101 + 16 * p) m) :=
    (Eng.Spares.linkCleared x (portKey_lt (by omega)) (.refl _ _) p (portStatus_ne p m 4 h4)).obj
  rw [Eng.linkFall_eq, if_pos hlink]
  refine ⟨(hcleared 1 (by decide) (by decide)).trans (e.linkLost_link x p), Eng.linkCleared_ts _ x p hp, Eng.linkCleared_resv _ x p, ?_,
    fun ev hev => (Eng.linkCleared_seen _ x p hev).trans (e.linkLost_seen x p ev)⟩
  exact congrArg Int.toNat ((hcleared 6 (by decide) (by decide)).trans (Eng.linkChanged_tick ..))

/-- Settles O29: a rise is `Eng.linkTrained_i` with one change of the link, a fall is `Eng.linkFall_fell`, after one lost marker or none. -/
theorem linksRiseAndFall : Obligations.LinksRiseAndFall := by
  intro s port hup
  refine ⟨fun hrise => ?_, fun hrise => ?_, fun hlink => ?_⟩
  · have htrained (m : Nat) (hm : m < 16) := s.eng0.linkTrained_i port.isLt hm
    have hspared (m : Nat) (h5 : m ≠ 5) (h6 : m ≠ 6) := (Eng.Spares.linkChanged s.ctx (.refl _ (s.eng0.linkTrained port)) port
      (portStatus_ne port m 5 h5) (portStatus_ne port m 6 h6)).obj
    refine ⟨_, (exec_linkUp port s).trans (lift_whenDue (due := fun _ e => e.linkMayRise port) hup hrise), ⟨rfl, rfl, rfl⟩, ?_⟩
    dsimp only
    rw [Eng.linkRise_eq]
    refine ⟨(hspared 1 (by decide) (by decide)).trans (htrained 1 (by decide)),
      congrArg Int.toNat ((hspared 2 (by decide) (by decide)).trans (htrained 2 (by decide))),
      congrArg Int.toNat ((hspared 3 (by decide) (by decide)).trans (htrained 3 (by decide))), ?_,
      congrArg Int.toNat (Eng.linkChanged_tick ..), ?_⟩
    · rw [Eng.linkChanged_changes]
      exact congrArg (fun v : Int => (v.toNat + 1) % 2 ^ 32) (htrained 5 (by decide))
    · rw [Eng.linkChanged_latched, Eng.linkTrained_irq]
      rfl
  · exact ⟨_, (exec_linkDown port .otherModes s).trans (lift_whenDue (due := fun _ e => e.linkMayRise port) hup hrise), ⟨rfl, rfl, rfl⟩,
      Eng.seen_count_same .., Eng.onlyObjects_count s.onlyObjects_eng0 ..⟩
  · have hm (m : Nat) (h : m ≠ 1) := portStatus_ne port 1 m h.symm
    refine ⟨?_, ?_⟩
    · have hmarked := ((Eng.Spares.refl (Od.PORT_STATUS.link port) s.eng0).count (x := s.ctx) (odKey_ne (by omega)) (32 * port + 26)).orb
        (hm 7 (by decide)) 2
      obtain ⟨hdown, hts, hresv, htick, hseen⟩ := Eng.linkFall_fell _ s.ctx port.isLt ((congrArg (· != 0) hmarked.obj).trans hlink)
      refine ⟨_, (exec_linkDown port .marker s).trans (lift_whenDue (due := fun _ e => e.b (Od.PORT_STATUS.link port)) hup hlink),
        ⟨hdown, hts, hresv, htick, ?_, rfl, rfl, rfl⟩, ?_⟩
      · refine (hseen _ (by omega)).trans ?_
        rw [if_pos rfl]
        exact congrArg (fun n => (n + 1) % 2 ^ 48) ((Eng.seen_count ..).trans (if_neg (by omega)))
      · refine (hseen _ (by omega)).trans ?_
        rw [if_neg (by omega)]
        exact Eng.seen_count_same ..
    · obtain ⟨hdown, hts, hresv, htick, hseen⟩ := s.eng0.linkFall_fell s.ctx port.isLt hlink
      refine ⟨_, (exec_linkDown port .fec s).trans (lift_up hup _), hdown, hts, hresv, htick, ?_, rfl, rfl, rfl⟩
      exact (hseen _ (by omega)).trans (if_pos rfl)

end Sys2Proof.Machine
end

section
/-! # Received frames and the classifier (R88 to R90, R99 to R104, R107) -/

namespace Sys2Proof.Machine

/-! ## The classifier (R101 to R103) -/

/-- A rule of the active bank covers a frame, and its action can be done. -/
def Eng.takes (e : Eng) (v : RxView) (n : Nat) : Bool := (ruleOf e.od n).covers v && e.actionOk v (ruleOf e.od n).action

section
variable {e : Eng} (x : Ctx) {v : RxView}

/-- The rule that takes a frame counts its match, then mirrors and acts. -/
theorem Eng.classify_taken {n : Nat} (hnew : e.cls.newFrom ≤ v.rxLin) (hbad : e.cls.badRules = [])
    (hfind : (listed e.od 0x30 0x800 1024 1 1).find? (e.takes v) = some n) :
    e.classify x v = ((e.count x (0x400 + n)).mirror x v n (ruleOf e.od n)).act x v n (ruleOf e.od n) := by
  unfold Eng.takes at hfind
  simp [Eng.classify, Nat.not_lt.2 hnew, hbad, hfind]

/-- A frame that no rule takes is counted, and is the default ring's or goes no further. -/
theorem Eng.classify_untaken (hnew : e.cls.newFrom ≤ v.rxLin) (hbad : e.cls.badRules = [])
    (hfind : (listed e.od 0x30 0x800 1024 1 1).find? (e.takes v) = none) :
    e.classify x v = if (e.portCount x v.port 11).n (Od.PORT_CONFIG.default_action v.port) = 3 then
        (e.portCount x v.port 11).toRing x v ((e.portCount x v.port 11).n (Od.PORT_CONFIG.default_ring v.port)) 0xFFFF .default_
      else e.portCount x v.port 11 := by
  unfold Eng.takes at hfind
  simp only [Eng.classify, if_neg (Nat.not_lt.2 hnew), hbad, List.contains_nil, Bool.false_or, hfind]

theorem Eng.mirror_unmirrored {n : Nat} {r : Rule} (h : bitOf r.mirror 15 = false) : e.mirror x v n r = e :=
  if_neg (Bool.eq_false_iff.1 h)

theorem Eng.act_drop {n : Nat} {r : Rule} (h : r.action = 0) : e.act x v n r = e.portCount x v.port 31 := by
  simp only [Eng.act, h]

end

/-- Settles O31: the first rule of the list that takes the frame is the one found, and the counts of a drop differ. -/
theorem framesTakeTheFirstRule : Obligations.FramesTakeTheFirstRule := by
  intro e x v hnew hbad takes
  refine ⟨fun n before after hrules hbefore htakes haction hmirror hport hn => ?_, fun hnone hdefault => ?_⟩
  · have hfind : (listed e.od 0x30 0x800 1024 1 1).find? (e.takes v) = some n := by
      rw [hrules, List.find?_append, (List.find?_eq_none (p := e.takes v)).2 fun m hm => Bool.eq_false_iff.1 (hbefore m hm), Option.none_or]
      exact List.find?_cons_of_pos htakes
    rw [Eng.classify_taken x hnew hbad hfind, Eng.mirror_unmirrored x hmirror, Eng.act_drop x haction]
    refine ⟨?_, ?_, Eng.onlyObjects_count (Eng.onlyObjects_count (Eng.onlyObjects_refl e) ..) ..⟩
    · exact (Eng.seen_count ..).trans ((if_neg (by omega)).trans (Eng.seen_count_same ..))
    · exact (Eng.seen_count_same ..).trans (congrArg (fun c => (c + 1) % 2 ^ 48) ((Eng.seen_count ..).trans (if_neg (by omega))))
  · have hfind : (listed e.od 0x30 0x800 1024 1 1).find? (e.takes v) = none :=
      List.find?_eq_none.2 fun m hm => Bool.eq_false_iff.1 (hnone m hm)
    have hkept : (e.portCount x v.port 11).n (Od.PORT_CONFIG.default_action v.port) = e.n (Od.PORT_CONFIG.default_action v.port) :=
      congrArg Int.toNat (Eng.count_i _ _ _ _ (odKey_ne (by omega)))
    rw [Eng.classify_untaken x hnew hbad hfind, hkept, if_neg hdefault]
    exact ⟨Eng.seen_count_same .., Eng.onlyObjects_count (Eng.onlyObjects_refl e) ..⟩

/-! ## What a frame counts beside itself and its length -/

/-- The events of port `p` but its frames and their length, and the events of the rules and of the engines after them. -/
def pastLength (p ev : Nat) : Prop := (32 * p + 2 ≤ ev ∧ ev < 32 * p + 32) ∨ 0x400 ≤ ev

section
variable {x : Ctx} {p : Nat} {a e : Eng}

namespace Eng.CountsOf

theorem portCount (h : Eng.CountsOf (pastLength p) a e) {off : Nat} (hoff : 2 ≤ off ∧ off < 32) :
    Eng.CountsOf (pastLength p) a (e.portCount x p off) := h.count (.inl (by omega))

theorem beyond (h : Eng.CountsOf (pastLength p) a e) {ev : Nat} (hev : 0x400 ≤ ev) :
    Eng.CountsOf (pastLength p) a (e.count x ev) := h.count (.inr hev)

theorem sendPause (h : Eng.CountsOf (pastLength p) a e) (quanta : Nat) : Eng.CountsOf (pastLength p) a (e.sendPause x p quanta) := by
  have hsent (o : Output) : Eng.CountsOf (pastLength p) a (((e.emit o).portCount x p 16).countN x (32 * p + 17) 64) :=
    have hout : Eng.CountsOf (pastLength p) a (e.emit o) := h.step rfl
    (hout.portCount (by decide)).countN (.inl (by omega)) 64
  have hkind (c : Prop) [Decidable c] : 2 ≤ (if c then 19 else 18) ∧ (if c then 19 else 18) < 32 := by split <;> decide
  unfold Eng.sendPause
  exact .ite (.modPort ((hsent _).portCount (hkind _)) ..) (h.modPort ..)

theorem hold (h : Eng.CountsOf (pastLength p) a e) (f : HeldFrame) : Eng.CountsOf (pastLength p) a (e.hold x p f) := by
  unfold Eng.hold
  exact .ite ((h.inc64 _).orb _ _) (.ite (.sendPause (h.modPort ..) _) (h.modPort ..))

theorem toRing {v : RxView} (hv : v.port = p) (h : Eng.CountsOf (pastLength p) a e) (ring rule : Nat) (o : RxOrigin) :
    Eng.CountsOf (pastLength p) a (e.toRing x v ring rule o) := by
  subst hv
  unfold Eng.toRing
  dsimp only
  split <;> exact .hold h _

theorem flowControl (h : Eng.CountsOf (pastLength p) a e) (bs : Bytes) : Eng.CountsOf (pastLength p) a (e.flowControl x p bs) := by
  unfold Eng.flowControl
  refine .ite ?_ ?_
  · have hcount := h.portCount (x := x) (off := 10) (by decide)
    refine .ite (hcount.trans (.foldl (fun e i => .ite ((Eng.CountsOf.refl _ e).modPort ..) (.refl _ e)) _ _)) hcount
  · have hcount := h.portCount (x := x) (off := 9) (by decide)
    exact .ite (hcount.trans (.foldl (fun e i => (Eng.CountsOf.refl _ e).modPort ..) _ _)) hcount

theorem dispatch (h : Eng.CountsOf (pastLength p) a e) (q : AnsReq) : Eng.CountsOf (pastLength p) a (e.dispatch q) := by
  unfold Eng.dispatch
  dsimp only
  split
  · exact h.step rfl
  · exact (h.inc64 _).orb _ _

theorem arrive (h : Eng.CountsOf (pastLength p) a e) (path : InPath) (bytes : Bytes) :
    Eng.CountsOf (pastLength p) a (e.arrive x path bytes) := by
  unfold Eng.arrive
  exact .ite (h.step rfl) h

theorem inBand {v : RxView} (hv : v.port = p) (h : Eng.CountsOf (pastLength p) a e) (mac : Nat) :
    Eng.CountsOf (pastLength p) a (e.inBand x v mac) := by
  subst hv
  have hcount := h.portCount (x := x) (off := 15) (by decide)
  unfold Eng.inBand
  refine .ite (hcount.inc32 _) ?_
  dsimp only
  split
  · exact (hcount.beyond (by decide)).beyond (by decide)
  · exact .ite (.arrive (hcount.beyond (by decide)) _ _) ((hcount.beyond (by decide)).beyond (by decide))

theorem act {v : RxView} (hv : v.port = p) (h : Eng.CountsOf (pastLength p) a e) (n : Nat) (r : Rule) :
    Eng.CountsOf (pastLength p) a (e.act x v n r) := by
  have hcount (off : Nat) (hoff : 2 ≤ off ∧ off < 32) : Eng.CountsOf (pastLength p) a (e.portCount x v.port off) :=
    hv ▸ h.portCount hoff
  unfold Eng.act
  split
  · exact .dispatch (hcount 28 (by decide)) _
  · exact (hcount 29 (by decide)).step rfl
  · exact .toRing hv (hcount 30 (by decide)) ..
  · split
    · subst hv
      exact ((hcount 15 (by decide)).portCount (off := 27) (by decide)).modPort ..
    · exact h
  · exact .inBand hv h _
  · exact hcount 31 (by decide)

theorem mirror {v : RxView} (hv : v.port = p) (h : Eng.CountsOf (pastLength p) a e) (n : Nat) (r : Rule) :
    Eng.CountsOf (pastLength p) a (e.mirror x v n r) := by
  have hcls (c : Classifier) : Eng.CountsOf (pastLength p) a { e with cls := c } := h.step rfl
  unfold Eng.mirror
  exact .ite (.ite (.toRing hv (hcls _) ..) (hcls _)) h

theorem classify {v : RxView} (hv : v.port = p) (h : Eng.CountsOf (pastLength p) a e) :
    Eng.CountsOf (pastLength p) a (e.classify x v) := by
  have hcount (off : Nat) (hoff : 2 ≤ off ∧ off < 32) : Eng.CountsOf (pastLength p) a (e.portCount x v.port off) :=
    hv ▸ h.portCount hoff
  unfold Eng.classify
  dsimp only
  split
  next n _ =>
    have hmatch : Eng.CountsOf (pastLength p) a (e.count x (0x400 + n)) := h.beyond (by omega)
    exact .ite (hcount 31 (by decide)) (.act hv (.mirror hv hmatch ..) ..)
  next => exact .ite (.toRing hv (hcount 11 (by decide)) ..) (hcount 11 (by decide))

theorem rxStages (f : RxFrame) (hf : f.port.val = p) (h : Eng.CountsOf (pastLength p) a e) (body : Bytes) (oversize : Bool) :
    Eng.CountsOf (pastLength p) a (e.rxStages x f body oversize) := by
  subst hf
  unfold Eng.rxStages
  refine .ite (.flowControl h _) (.ite ?_ ?_)
  · exact (((h.portCount (by decide)).set _ _).set _ _).modPort ..
  · exact .classify rfl (.ite (.ite ((h.portCount (by decide)).orb _ _) h)
      (.portCount (.ite ((h.portCount (by decide)).orb _ _) h) (by decide)))

end Eng.CountsOf

end

/-! ## A received frame (R88, R89, R99) -/

/-- A frame on a link is counted, with its length (R107). -/
def Eng.rxLength (e : Eng) (x : Ctx) (f : RxFrame) : Eng := (e.portCount x f.port 0).countN x (32 * f.port + 1) f.bytes.length

/-- After its length, what a frame's forward error correction found is counted (R88, R107). -/
def Eng.rxCounted (e : Eng) (x : Ctx) (f : RxFrame) : Eng :=
  let e := (((e.rxLength x f).countN x (32 * f.port + 6) f.corrected).countN x (32 * f.port + 7) f.uncorrected).countN x
    (32 * f.port + 8) f.symbols
  if 0 < f.uncorrected then e.orb (Od.PORT_STATUS.sticky f.port) 4 else e

section
variable (e : Eng) (x : Ctx) (f : RxFrame)

theorem Eng.rxLength_frames : (e.rxLength x f).seen (32 * f.port) = (e.seen (32 * f.port) + 1) % 2 ^ 48 :=
  (Eng.seen_countN ..).trans ((if_neg (by omega)).trans (Eng.seen_count_same ..))

theorem Eng.rxLength_length :
    (e.rxLength x f).seen (32 * f.port + 1) = (e.seen (32 * f.port + 1) + f.bytes.length) % 2 ^ 48 :=
  (Eng.seen_countN ..).trans ((if_pos rfl).trans
    (congrArg (fun c => (c + f.bytes.length) % 2 ^ 48) ((Eng.seen_count ..).trans (if_neg (by omega)))))

/-- The counts of the forward error correction are events 6 to 8 of the port. -/
theorem Eng.rxCounted_counts : Eng.CountsOf (fun ev => 32 * f.port.val + 6 ≤ ev ∧ ev ≤ 32 * f.port.val + 8) (e.rxLength x f)
    (e.rxCounted x f) := by
  have h := (((Eng.CountsOf.refl (fun ev => 32 * f.port.val + 6 ≤ ev ∧ ev ≤ 32 * f.port.val + 8) (e.rxLength x f)).countN (x := x)
    (ev := 32 * f.port + 6) (by omega) f.corrected).countN (x := x) (ev := 32 * f.port + 7) (by omega) f.uncorrected).countN (x := x)
    (ev := 32 * f.port + 8) (by omega) f.symbols
  exact .ite (h.orb _ _) h

/-- Before the frame is judged, events 2 to 5 of its port are as they were. -/
theorem Eng.rxCounted_seen {off : Nat} (hoff : 2 ≤ off ∧ off < 6) :
    (e.rxCounted x f).seen (32 * f.port + off) = e.seen (32 * f.port + off) :=
  ((e.rxCounted_counts x f).seen _ (by omega)).trans
    ((Eng.seen_countN ..).trans ((if_neg (by omega)).trans ((Eng.seen_count ..).trans (if_neg (by omega)))))

theorem Eng.rxCounted_onlyObjects : e.onlyObjects (e.rxCounted x f) := by
  have h := Eng.onlyObjects_countN (Eng.onlyObjects_countN (Eng.onlyObjects_countN (Eng.onlyObjects_countN
    (Eng.onlyObjects_count (Eng.onlyObjects_refl e) x (32 * f.port)) x (32 * f.port + 1) f.bytes.length) x (32 * f.port + 6) f.corrected) x
    (32 * f.port + 7) f.uncorrected) x (32 * f.port + 8) f.symbols
  exact Eng.onlyObjects_ite (Eng.onlyObjects_orb h ..) h

/-- Counting a frame leaves the port's configuration. -/
theorem Eng.rxCounted_config {m : Nat} (hm : m < 16) :
    (e.rxCounted x f).b (odKey 0x30 (0x100 + 16 * f.port) m) = e.b (odKey 0x30 (0x100 + 16 * f.port) m) := by
  have hc : odKey 0x30 (0x100 + 16 * f.port) m ≠ Od.CNT_STATUS.sticky := odKey_ne (by omega)
  have hs : odKey 0x30 (0x100 + 16 * f.port) m ≠ Od.PORT_STATUS.sticky f.port := odKey_ne (by omega)
  refine congrArg (· != 0) ?_
  unfold Eng.rxCounted Eng.rxLength Eng.portCount
  dsimp only
  split
  · rw [Eng.orb_i, if_neg hs, Eng.countN_i _ _ _ _ _ hc, Eng.countN_i _ _ _ _ _ hc, Eng.countN_i _ _ _ _ _ hc, Eng.countN_i _ _ _ _ _ hc,
      Eng.count_i _ _ _ _ hc]
  · rw [Eng.countN_i _ _ _ _ _ hc, Eng.countN_i _ _ _ _ _ hc, Eng.countN_i _ _ _ _ _ hc, Eng.countN_i _ _ _ _ _ hc, Eng.count_i _ _ _ _ hc]

variable {e x f} (hlink : e.b (Od.PORT_STATUS.link f.port) = true)

include hlink

/-- Whatever becomes of a frame, its count and its length are counted once. -/
theorem Eng.receive_counts : Eng.CountsOf (pastLength f.port) (e.rxLength x f) (e.receive x f) := by
  have hcounted : Eng.CountsOf (pastLength f.port) (e.rxLength x f) (e.rxCounted x f) :=
    (e.rxCounted_counts x f).mono fun ev hev => .inl (by omega)
  unfold Eng.receive
  rw [if_neg (by rw [hlink]; decide)]
  extract_lets len e1 e2 e3 maxf long body e4
  have h4 : Eng.CountsOf (pastLength f.port) (e.rxLength x f) e4 := by
    unfold e4
    exact .ite ((Eng.CountsOf.portCount (e := e3) hcounted (by decide)).orb _ _) hcounted
  refine .ite (h4.portCount (by decide)) (.ite ?_ (.ite (h4.portCount (by decide)) (.rxStages f rfl h4 ..)))
  exact .ite (.hold (h4.portCount (by decide)) _) (h4.portCount (by decide))

theorem Eng.receive_fecFail (hfec : f.fecFail = true) : e.receive x f = (e.rxCounted x f).portCount x f.port 5 := by
  simp [Eng.receive, hlink, hfec]
  rfl

theorem Eng.receive_badFcs (hfec : f.fecFail = false) (hfcs : fcsOk f.bytes = false)
    (hhost : e.b (Od.PORT_CONFIG.fcs_err_to_host f.port) = false) : e.receive x f = (e.rxCounted x f).portCount x f.port 2 := by
  have hhost' : (e.rxCounted x f).b (Od.PORT_CONFIG.fcs_err_to_host f.port) = false := (e.rxCounted_config x f (by decide)).trans hhost
  have hhost2 : ((e.rxCounted x f).portCount x f.port 2).b (Od.PORT_CONFIG.fcs_err_to_host f.port) = false := by
    rw [← hhost']
    exact congrArg (· != 0) (Eng.count_i _ _ _ _ (odKey_ne (by omega)))
  unfold Eng.receive
  rw [if_neg (by rw [hlink]; decide)]
  extract_lets len e1 e2 e3 maxf long body e4 e5
  have h4 : e4 = e3 := if_neg (by rw [hfec, hfcs, show e3.b _ = false from hhost']; simp)
  have h5 : e5.b (Od.PORT_CONFIG.fcs_err_to_host f.port) = false := by
    unfold e5
    rw [h4]
    exact hhost2
  rw [if_neg (by rw [hfec]; decide), if_pos (by rw [hfcs]; rfl), if_neg (by rw [h5]; decide)]
  unfold e5
  rw [h4]
  rfl

end

/-- Settles O30: by `Eng.receive_counts` a frame's count and length stand; a frame that fails is `Eng.rxCounted` and one event more. -/
theorem receivedFramesAreCounted : Obligations.ReceivedFramesAreCounted := by
  intro s frame hup hlink counted
  have hreceived : exec (.frameReceive frame) s = .next { s with eng := s.eng0.receive s.ctx frame } :=
    lift_up hup (fun x e => e.receive x frame)
  have hcounted : counted { s with eng := s.eng0.receive s.ctx frame } := by
    have h := Eng.receive_counts (e := s.eng0) (x := s.ctx) hlink
    refine ⟨⟨rfl, rfl, rfl⟩, (h.seen _ ?_).trans (Eng.rxLength_frames ..), (h.seen _ ?_).trans (Eng.rxLength_length ..)⟩ <;>
    · unfold pastLength
      omega
  have hfailed {off : Nat} (hoff : 2 ≤ off ∧ off < 6) (h : s.eng0.receive s.ctx frame = (s.eng0.rxCounted s.ctx frame).portCount s.ctx frame.port off) :
      (s.eng0.receive s.ctx frame).seen (32 * frame.port + off) = (s.eng.seen (32 * frame.port + off) + 1) % 2 ^ 48 ∧
      s.eng.onlyObjects (s.eng0.receive s.ctx frame) := by
    rw [h]
    exact ⟨(Eng.seen_count_same ..).trans (congrArg (fun c => (c + 1) % 2 ^ 48) (Eng.rxCounted_seen _ _ _ hoff)),
      Eng.onlyObjects_count (Eng.onlyObjects_trans s.onlyObjects_eng0 (Eng.rxCounted_onlyObjects ..)) ..⟩
  refine ⟨⟨_, hreceived, hcounted⟩, fun hfec => ?_, fun hfec hfcs hhost => ?_⟩
  · exact ⟨_, hreceived, hcounted, hfailed (off := 5) (by decide) (Eng.receive_fecFail hlink hfec)⟩
  · exact ⟨_, hreceived, hcounted, hfailed (off := 2) (by decide) (Eng.receive_badFcs hlink hfec hfcs hhost)⟩

end Sys2Proof.Machine
end

section
/-! # Pauses and quality levels (R93, R94, R97, R98) -/

namespace Sys2Proof.Machine

theorem Eng.modPort_port (e : Eng) (p q : Nat) (f : Port → Port) :
    (e.modPort p f).port q = if q = p ∧ q < e.ports.length then f (e.port q) else e.port q := nth_modNth ..

/-- A change of one port's side state leaves the others. -/
theorem Eng.modPort_port_other (e : Eng) {p q : Nat} (f : Port → Port) (h : q ≠ p) : (e.modPort p f).port q = e.port q :=
  (e.modPort_port p q f).trans (if_neg fun hq => h hq.1)

theorem Eng.modPort_out (e : Eng) (p : Nat) (f : Port → Port) : (e.modPort p f).out = e.out := rfl

theorem Eng.modPort_seen (e : Eng) (p : Nat) (f : Port → Port) (ev : Nat) : (e.modPort p f).seen ev = e.seen ev := rfl

/-! ## Pauses (R93, R94) -/

section
variable {e : Eng} {x : Ctx} {p : Nat}

/-- A pause that may be sent leaves the pins, and is counted. -/
theorem Eng.sendPause_on (quanta : Nat) (h : e.pauseTxOn p = true) :
    (e.sendPause x p quanta).out = e.out ++ [.frame p (withFcs (e.pauseFrame x p quanta))] ∧
    (e.sendPause x p quanta).seen (32 * p + 16) = (e.seen (32 * p + 16) + 1) % 2 ^ 48 := by
  have hkind (c : Prop) [Decidable c] : 32 * p + 16 ≠ 32 * p + (if c then 19 else 18) := by split <;> omega
  unfold Eng.sendPause
  rw [if_pos h]
  extract_lets e1 e2
  have hout : e2.out = e1.out := by
    unfold e2 Eng.portCount
    rw [Eng.count_out, Eng.countN_out, Eng.count_out]
  have hseen : e2.seen (32 * p + 16) = (e.seen (32 * p + 16) + 1) % 2 ^ 48 := by
    unfold e2 Eng.portCount
    rw [Eng.seen_count, if_neg (hkind _), Eng.seen_countN, if_neg (by omega), Eng.seen_count_same,
      show e1.seen (32 * p + 16) = e.seen (32 * p + 16) from rfl]
  rw [Eng.modPort_out, Eng.modPort_seen]
  exact ⟨hout, hseen⟩

/-- A pause that may not be sent is forgotten. -/
theorem Eng.sendPause_off (quanta : Nat) (h : e.pauseTxOn p = false) :
    (e.sendPause x p quanta).out = e.out ∧ ((e.sendPause x p quanta).port p).xoff = none := by
  unfold Eng.sendPause
  rw [if_neg (Bool.eq_false_iff.1 h)]
  refine ⟨rfl, ?_⟩
  rw [Eng.modPort_port]
  split
  next => rfl
  next hp =>
    have hlen : e.ports.length ≤ p := Nat.le_of_not_lt fun hlt => hp ⟨rfl, hlt⟩
    rw [Eng.port, nth, List.getD_eq_default _ _ hlen]
    rfl

/-- A pause is repeated at its instant. -/
theorem exec_pauseXoffRepeat_due {s : State} {port : Fin 32} {at_ : Nat} (hup : s.eng.up = true)
    (hxoff : (s.eng.port port).xoff = some at_) (hdue : at_ ≤ s.ctx.lin 0) :
    exec (.pauseXoffRepeat port) s = .next { s with eng := s.eng0.sendPause s.ctx port 65535 } := by
  rw [exec_pauseXoffRepeat, execPauseXoffRepeat, lift_up hup]
  rw [show (s.eng0.port port).xoff = some at_ from hxoff]
  dsimp only
  rw [decide_eq_true hdue, whenDue_true]

end

/-! ## Quality levels (R97, R98) -/

section
variable (e : Eng) (x : Ctx) (p : Nat)

/-- The level a PDU carries is shown, and the PDU counted. -/
def Eng.esmcShown : Eng := (e.set (Od.PORT_ESMC.ql_tx p) (e.qlSent x p : Nat)).portCount x p 23

theorem Eng.esmcShown_level : (e.esmcShown x p).n (Od.PORT_ESMC.ql_tx p) = e.qlSent x p :=
  congrArg Int.toNat ((Eng.count_i _ _ _ _ (odKey_ne (by omega))).trans (Eng.set_i_same ..))

/-- A PDU that is due, or that carries a changed level, is shown and counted, and waits on its own port. -/
theorem Eng.esmcSend_sent (hon : e.b (Od.PORT_CONFIG.esmc_enable p) = true) (hlink : e.b (Od.PORT_STATUS.link p) = true)
    (hdue : x.passed (e.port p).esmcSent unitsPerSec = true ∨ e.qlSent x p ≠ e.n (Od.PORT_ESMC.ql_tx p)) :
    (e.esmcSend x p).od = (e.esmcShown x p).od ∧ (e.esmcSend x p).ctr = (e.esmcShown x p).ctr ∧
    ∀ q, q ≠ p → (e.esmcSend x p).port q = e.port q := by
  have hports (q : Nat) : (e.esmcShown x p).port q = e.port q := congrArg (nth · q Port.atReset) (Eng.count_ports ..)
  have hsend : (x.passed (e.port p).esmcSent unitsPerSec || e.qlSent x p != e.n (Od.PORT_ESMC.ql_tx p)) = true := by simpa using hdue
  unfold Eng.esmcSend
  dsimp only
  rw [if_neg (by rw [hon, hlink, hsend]; decide)]
  unfold Eng.sendUntimed
  split
  · exact ⟨rfl, rfl, fun q hq => (Eng.modPort_port_other _ _ hq).trans ((Eng.modPort_port_other _ _ hq).trans (hports q))⟩
  · exact ⟨rfl, rfl, fun q hq => (Eng.modPort_port_other _ _ hq).trans (hports q)⟩

end

/-- Settles O32: a due pause is sent or forgotten by `Eng.sendPause`, and a PDU's sending is `Eng.esmcSend_sent`. -/
theorem pausesAndQualityLevelsKeepTheirTimes : Obligations.PausesAndQualityLevelsKeepTheirTimes := by
  refine ⟨fun s port hup => ⟨fun at_ hxoff hle hon => ?_, fun at_ hxoff hle hoff => ?_, ?_⟩, fun s port hup => ⟨fun hlate => ?_, ?_⟩⟩
  · have h := Eng.sendPause_on (e := s.eng0) (x := s.ctx) 65535 hon
    exact ⟨_, exec_pauseXoffRepeat_due hup hxoff hle, ⟨rfl, rfl, rfl⟩, h⟩
  · obtain ⟨hout, hxoff'⟩ := Eng.sendPause_off (e := s.eng0) (x := s.ctx) 65535 hoff
    exact ⟨_, exec_pauseXoffRepeat_due hup hxoff hle, ⟨rfl, rfl, rfl⟩, hxoff', hout⟩
  · exact ⟨_, (exec_pauseEnd port s).trans (lift_up hup _), rfl⟩
  · have hsticky : Od.PORT_ESMC.ql_rx_valid port ≠ Od.PORT_STATUS.sticky port := odKey_ne (by omega)
    have hc : Od.PORT_ESMC.ql_rx_valid port ≠ Od.CNT_STATUS.sticky := odKey_ne (by omega)
    refine ⟨_, (exec_esmcTimeout port s).trans (lift_whenDue (due := fun x e => e.esmcLate x port) hup hlate), ⟨rfl, rfl, rfl⟩, ?_,
      Eng.seen_count_same .., Eng.onlyObjects_orb (Eng.onlyObjects_count (Eng.onlyObjects_set s.onlyObjects_eng0 ..) ..) ..⟩
    exact (Eng.set_i_other _ _ _ _ hsticky).trans ((Eng.count_i _ _ _ _ hc).trans (Eng.set_i_same ..))
  · intro hon hlink hdue
    obtain ⟨hod, hctr, hports⟩ := s.eng0.esmcSend_sent s.ctx port hon hlink hdue
    refine ⟨_, (exec_esmcInfoPdu port s).trans (lift_up hup _), ⟨rfl, rfl, rfl⟩, ?_, ?_, fun q hq => hports q (Fin.val_ne_of_ne hq)⟩
    · exact (congrArg (fun od => (sget od (Od.PORT_ESMC.ql_tx port)).toNat) hod).trans (s.eng0.esmcShown_level s.ctx port)
    · exact (Eng.seen_of_ctr hctr _).trans (Eng.seen_count_same ..)

end Sys2Proof.Machine
end

section
/-! # Rule banks and service entries (R100, R105, R106) -/

namespace Sys2Proof.Machine

/-! ## The commit of the edit bank (R105) -/

theorem State.Answers.cls {s t : State} {st : Nat} {e : Eng} (h : s.Answers st e t) : t.eng.cls = e.cls := (congrArg Eng.cls h.rest :)

/-- A commit that takes effect at tick `t` waits. -/
def Eng.commitWaits (e : Eng) (t : Nat) : Eng := { e.set Od.RULE_COMMIT.commit_tick t with cls := { e.cls with commitAt := some t } }

theorem Eng.commitWaits_i (e : Eng) (t : Nat) (k : Key) : (e.commitWaits t).i k = if k = Od.RULE_COMMIT.commit_tick then (t : Int) else e.i k :=
  Eng.set_i ..

theorem Eng.commitWaits_cls (e : Eng) (t : Nat) : (e.commitWaits t).cls = { e.cls with commitAt := some t } := rfl

section
variable {e : Eng} (x : Ctx)

theorem ruleCommitWrite_busy (hbusy : e.bankBusy = true) : ruleCommitWrite x 1 e = (stBusy, e) := by
  unfold ruleCommitWrite
  rw [if_neg (by decide), if_pos hbusy]

theorem ruleCommitWrite_bad {r : Nat} (hfree : e.bankBusy = false)
    (hfind : (listed (editAsActive e.od) 0x30 0x800 1024 1 1).find? (fun r => (ruleOf (editAsActive e.od) r).bad) = some r) :
    ruleCommitWrite x 1 e = (stRange, e.set Od.RULE_COMMIT.bad_rule (r : Nat)) := by
  unfold ruleCommitWrite
  rw [if_neg (by decide), if_neg (Bool.eq_false_iff.1 hfree)]
  simp only [hfind]

theorem ruleCommitWrite_good (hfree : e.bankBusy = false)
    (hfind : (listed (editAsActive e.od) 0x30 0x800 1024 1 1).find? (fun r => (ruleOf (editAsActive e.od) r).bad) = none) :
    ruleCommitWrite x 1 e = (stOk, e.commitWaits ((x.tick + 4096) % 2 ^ 64)) := by
  unfold ruleCommitWrite
  rw [if_neg (by decide), if_neg (Bool.eq_false_iff.1 hfree)]
  simp only [hfind]
  rfl

end

section
variable {s : State} {roles : Nat} (hup : s.eng.up = true) (had : s.eng.admits Od.RULE_COMMIT.commit 1 roles = true)

include hup had

/-- A commit is answered by what `ruleCommitWrite` does. -/
theorem exec_ruleCommit_answers {st : Nat} {e : Eng} (h : ruleCommitWrite s.ctx 1 s.eng0 = (st, e)) :
    ∃ t, exec (.ruleCommit 1 roles) s = .next t ∧ s.Answers st e t :=
  lift_writeCmd_answers (op := fun x => ruleCommitWrite x 1) hup (.inl rfl) (by decide) had h

theorem exec_ruleCommit_good (hfree : s.eng.bankBusy = false)
    (hgood : ∀ r ∈ listed (editAsActive s.eng.od) 0x30 0x800 1024 1 1, (ruleOf (editAsActive s.eng.od) r).bad = false) :
    ∃ t, exec (.ruleCommit 1 roles) s = .next t ∧ s.stored t [(Od.RULE_COMMIT.commit_tick, ((s.core.tick + 4096) % 2 ^ 64 : Nat))] ∧
      t.eng.cls = { s.eng.cls with commitAt := some ((s.core.tick + 4096) % 2 ^ 64) } := by
  obtain ⟨t, ht, hans⟩ := exec_ruleCommit_answers hup had (ruleCommitWrite_good s.ctx (e := s.eng0) hfree
    (List.find?_eq_none.2 fun r hr => Bool.eq_false_iff.1 (hgood r hr)))
  rw [show s.ctx.tick = s.core.tick from rfl] at hans
  refine ⟨t, ht, ⟨hans.status, List.forall_mem_singleton.2 ?_, fun k hk hacc => ?_, hans.beside⟩, hans.cls.trans (Eng.commitWaits_cls ..)⟩
  · exact (hans.portObj (.inl rfl) (by decide)).trans ((Eng.commitWaits_i ..).trans (if_pos rfl))
  · exact (hans.obj k hacc).trans ((Eng.commitWaits_i ..).trans (if_neg (hk _ (List.mem_singleton_self _))))

theorem exec_ruleCommit_bad {r : Nat} {before after : List Nat} (hfree : s.eng.bankBusy = false)
    (hrules : listed (editAsActive s.eng.od) 0x30 0x800 1024 1 1 = before ++ r :: after)
    (hbefore : ∀ q ∈ before, (ruleOf (editAsActive s.eng.od) q).bad = false) (hbad : (ruleOf (editAsActive s.eng.od) r).bad = true) :
    ∃ t, exec (.ruleCommit 1 roles) s = .next t ∧ t.eng.resp.status = stRange ∧ t.eng.i Od.RULE_COMMIT.bad_rule = r ∧
      t.eng.cls = s.eng.cls ∧ s.beside t := by
  have hfind : (listed (editAsActive s.eng.od) 0x30 0x800 1024 1 1).find? (fun r => (ruleOf (editAsActive s.eng.od) r).bad) = some r := by
    rw [hrules, List.find?_append, List.find?_eq_none.2 fun q hq => Bool.eq_false_iff.1 (hbefore q hq), Option.none_or]
    exact List.find?_cons_of_pos hbad
  obtain ⟨t, ht, hans⟩ := exec_ruleCommit_answers hup had (ruleCommitWrite_bad s.ctx (e := s.eng0) hfree hfind)
  exact ⟨t, ht, hans.status, (hans.portObj (.inl rfl) (by decide)).trans (Eng.set_i_same ..), hans.cls, hans.beside⟩

theorem exec_ruleCommit_busy (hbusy : s.eng.bankBusy = true) :
    ∃ t, exec (.ruleCommit 1 roles) s = .next t ∧ t.eng.resp.status = stBusy ∧ t.eng.cls = s.eng.cls ∧ s.beside t := by
  obtain ⟨t, ht, hans⟩ := exec_ruleCommit_answers hup had (ruleCommitWrite_busy s.ctx (e := s.eng0) hbusy)
  exact ⟨t, ht, hans.status, hans.cls, hans.beside⟩

end

/-! ## Tables in their canonical form -/

theorem tsorted_nodup {α : Type} {t : Tbl α} (h : tsorted t = true) : (t.map Prod.fst).Nodup := by
  induction t with
  | nil => exact List.nodup_nil
  | cons p t ih =>
    obtain ⟨hlt, ht⟩ := (tsorted_cons p.1 p.2 t).1 h
    refine List.nodup_cons.2 ⟨fun hmem => ?_, ih ht⟩
    obtain ⟨q, hq, hqp⟩ := List.mem_map.1 hmem
    exact absurd (hlt q hq) (by omega)

theorem tget_of_mem {α : Type} {t : Tbl α} (h : (t.map Prod.fst).Nodup) {k : Nat} {v : α} (hmem : (k, v) ∈ t) : tget t k = some v := by
  induction t with
  | nil => exact absurd hmem List.not_mem_nil
  | cons p t ih =>
    obtain ⟨a, y⟩ := p
    rw [List.map_cons, List.nodup_cons] at h
    rcases List.mem_cons.1 hmem with heq | hmem
    · obtain ⟨rfl, rfl⟩ := Prod.mk.inj heq
      exact if_pos rfl
    · refine (if_neg fun hak => h.1 ?_).trans (ih h.2 hmem)
      exact List.mem_map.2 ⟨(k, v), hmem, hak.symm⟩

theorem tget_of_not_mem {α : Type} {t : Tbl α} {k : Nat} (h : k ∉ t.map Prod.fst) : tget t k = none := by
  induction t with
  | nil => rfl
  | cons p t ih =>
    rw [List.map_cons, List.mem_cons, not_or] at h
    exact (if_neg (Ne.symm h.1)).trans (ih h.2)

/-- A filter by key leaves the entries of the keys it takes. -/
theorem tget_filter {α : Type} (t : Tbl α) (f : Nat → Bool) {k : Nat} (hk : f k = true) :
    tget (t.filter (fun p => f p.1)) k = tget t k := by
  induction t with
  | nil => rfl
  | cons p t ih =>
    obtain ⟨a, y⟩ := p
    rw [List.filter_cons]
    split
    · simp only [tget, ih]
    next ha =>
      refine ih.trans (if_neg ?_).symm
      rintro rfl
      exact ha hk

theorem Eng.setAll_eq (e : Eng) (vs : List (Key × Int)) : e.setAll vs = { e with od := vs.foldl (fun s p => sset s p.1 p.2) e.od } := by
  induction vs generalizing e with
  | nil => rfl
  | cons p vs ih => exact ih _

/-! ## The objects of the rule banks -/

theorem isActiveKey_iff {k : Nat} : isActiveKey k = true ↔ 0x30800 * 16 ≤ k ∧ k < 0x30C00 * 16 := by
  simp only [isActiveKey, Bool.and_eq_true, beq_iff_eq, decide_eq_true_eq]
  unfold Key.area Key.item
  omega

theorem isEditKey_iff {k : Nat} : isEditKey k = true ↔ 0x30C00 * 16 ≤ k ∧ k < 0x31000 * 16 := by
  simp only [isEditKey, Bool.and_eq_true, beq_iff_eq, decide_eq_true_eq]
  unfold Key.area Key.item
  omega

/-- Every object of either bank is 0 by default (Table 4-6). -/
theorem rulesRows_default : ∀ r ∈ rowsArea30, r.area = 0x30 ∧ 0 < r.stride ∧ (r.base + r.count * r.stride ≤ 0x800 ∨ r.dflt = 0) := by
  decide

theorem ObjRow.instOf_bounds {r : ObjRow} {item : Nat} (hs : 0 < r.stride) (h : (r.instOf item).isSome = true) :
    r.base ≤ item ∧ item < r.base + r.count * r.stride := by
  unfold ObjRow.instOf at h
  split at h
  next hinst =>
    have hlt := (Nat.div_lt_iff_lt_mul hs).1 hinst.2.2
    omega
  next => exact absurd h (by decide)

theorem odDefault_rule {k : Nat} (h : 0x30800 * 16 ≤ k ∧ k < 0x31000 * 16) : odDefault k = 0 := by
  have harea : Key.area k = 0x30 := by unfold Key.area; omega
  have hitem : 0x800 ≤ Key.item k := by unfold Key.item; omega
  unfold odDefault
  split
  next r hr =>
    unfold rowOf at hr
    rw [harea] at hr
    have hfound := List.find?_some hr
    obtain ⟨hr30, hstride, hdflt⟩ := rulesRows_default r (List.mem_of_find?_eq_some hr)
    have hbounds := ObjRow.instOf_bounds hstride (Bool.and_eq_true_iff.1 hfound).2
    have hzero : r.dflt = 0 := hdflt.resolve_left (by omega)
    unfold instDefault
    split <;> simp_all
  next => rfl

/-! ## The edit bank takes effect (R105) -/

theorem editAsActive_mem {s : Store} {k : Nat} {v : Int} (hk : isActiveKey k = true) :
    (k, v) ∈ editAsActive s ↔ (k + 0x4000, v) ∈ s := by
  rw [isActiveKey_iff] at hk
  unfold editAsActive
  constructor
  · intro h
    obtain ⟨q, hq, hqk⟩ := List.mem_map.1 h
    obtain ⟨hmem, hedit⟩ := List.mem_filter.1 hq
    obtain ⟨h1, h2⟩ := Prod.mk.inj hqk
    rw [isEditKey_iff] at hedit
    have hq1 : q = (k + 0x4000, v) := Prod.ext (by omega) h2
    rwa [hq1] at hmem
  · intro h
    exact List.mem_map.2 ⟨(k + 0x4000, v), List.mem_filter.2 ⟨h, isEditKey_iff.2 (by omega)⟩, Prod.ext (Nat.add_sub_cancel ..) rfl⟩

theorem editAsActive_active {s : Store} {p : Key × Int} (h : p ∈ editAsActive s) : isActiveKey p.1 = true := by
  obtain ⟨k, v⟩ := p
  obtain ⟨q, hq, hqk⟩ := List.mem_map.1 h
  obtain ⟨hk, -⟩ := Prod.mk.inj hqk
  have hedit := isEditKey_iff.1 (List.mem_filter.1 hq).2
  exact isActiveKey_iff.2 (by omega)

/-- Keys moved down by one number stay apart. -/
theorem shifted_nodup {α : Type} (d : Nat) {t : Tbl α} (hd : ∀ p ∈ t, d ≤ p.1) (h : (t.map Prod.fst).Nodup) :
    ((t.map (fun p => (p.1 - d, p.2))).map Prod.fst).Nodup := by
  rw [List.map_map]
  refine (List.Nodup.of_map _ h).map_on fun p hp q hq (hpq : p.1 - d = q.1 - d) => List.inj_on_of_nodup_map h hp hq ?_
  have hdp := hd p hp
  have hdq := hd q hq
  omega

theorem editAsActive_nodup {s : Store} (h : s.wf = true) : ((editAsActive s).map Prod.fst).Nodup := by
  refine shifted_nodup 0x4000 (fun p hp => ?_) (tsorted_nodup (tfilter_sorted s _ (Bool.and_eq_true_iff.1 h).1))
  have hedit := isEditKey_iff.1 (List.mem_filter.1 hp).2
  omega

/-- The edit bank over the active one's objects, with every other object as it was. -/
def Eng.banksSwapped (e : Eng) : Eng := ({ e with od := e.od.filter (fun p => !isActiveKey p.1) } : Eng).setAll (editAsActive e.od)

section
variable {e : Eng}

theorem Eng.banksSwapped_active (hwf : e.od.wf = true) {k : Nat} (hk : isActiveKey k = true) : e.banksSwapped.i k = e.i (k + 0x4000) := by
  have hnodup := tsorted_nodup (Bool.and_eq_true_iff.1 hwf).1
  have hbound := isActiveKey_iff.1 hk
  by_cases hmem : ∃ v, (k + 0x4000, v) ∈ e.od
  · obtain ⟨v, hv⟩ := hmem
    have hread : e.i (k + 0x4000) = v := congrArg (·.getD (odDefault (k + 0x4000))) (tget_of_mem hnodup hv)
    rw [hread]
    exact Eng.setAll_i_mem _ _ (editAsActive_nodup hwf) (k, v) ((editAsActive_mem hk).2 hv)
  · have hedit : e.i (k + 0x4000) = odDefault (k + 0x4000) := congrArg (·.getD (odDefault (k + 0x4000))) (tget_of_not_mem fun h => by
      obtain ⟨p, hp, hpk⟩ := List.mem_map.1 h
      exact hmem ⟨p.2, hpk ▸ hp⟩)
    have hactive : ({ e with od := e.od.filter (fun p => !isActiveKey p.1) } : Eng).i k = odDefault k :=
      congrArg (·.getD (odDefault k)) (tget_of_not_mem fun h => by
        obtain ⟨p, hp, rfl⟩ := List.mem_map.1 h
        have hp2 := (List.mem_filter.1 hp).2
        rw [hk] at hp2
        exact absurd hp2 (by decide))
    rw [hedit, odDefault_rule (by omega), ← odDefault_rule (k := k) (by omega), ← hactive]
    refine Eng.setAll_i_other _ _ _ fun p hp hkp => ?_
    exact hmem ⟨p.2, (editAsActive_mem hk).1 (hkp ▸ hp)⟩

theorem Eng.banksSwapped_other {k : Key} (hk : isActiveKey k = false) : e.banksSwapped.i k = e.i k := by
  refine (Eng.setAll_i_other _ _ _ fun p hp hkp => ?_).trans ?_
  · rw [hkp, editAsActive_active hp] at hk
    exact absurd hk (by decide)
  · exact congrArg (·.getD (odDefault k)) (tget_filter e.od (fun k => !isActiveKey k) (by rw [hk]; rfl))

/-- The swap at the tick it was accepted for: the banks' objects, the active bank's number, the count of commits, and the copy. -/
theorem Eng.bankSwap_i (x : Ctx) (t : Nat) (k : Key) : (e.bankSwap x t).i k =
    ((e.banksSwapped.set Od.RULE_COMMIT.active_bank (1 - e.banksSwapped.i Od.RULE_COMMIT.active_bank)).inc32 Od.RULE_COMMIT.commit_count).i k := by
  unfold Eng.banksSwapped
  rw [Eng.setAll_eq]
  rfl

theorem Eng.bankSwap_cls (x : Ctx) (t : Nat) : (e.bankSwap x t).cls.commitAt = none ∧ (e.bankSwap x t).cls.copyEnd = some (t + 2048) :=
  ⟨rfl, rfl⟩

end

/-- A commit takes effect at its tick. -/
theorem exec_ruleCommitTakeEffect_due {s : State} {at_ : Nat} (hup : s.eng.up = true) (hat : s.eng.cls.commitAt = some at_)
    (hdue : at_ ≤ s.core.tick) : exec .ruleCommitTakeEffect s = .next { s with eng := s.eng0.bankSwap s.ctx at_ } := by
  rw [exec_ruleCommitTakeEffect, execRuleCommitTakeEffect, lift_up hup]
  rw [show s.eng0.cls.commitAt = some at_ from hat]
  dsimp only
  rw [decide_eq_true (show at_ ≤ s.ctx.tick from hdue), whenDue_true]

theorem exec_ruleCommitTakeEffect_swaps {s : State} {at_ : Nat} (hup : s.eng.up = true) (hat : s.eng.cls.commitAt = some at_)
    (hdue : at_ ≤ s.core.tick) (hwf : s.eng.od.wf = true) :
    ∃ t, exec .ruleCommitTakeEffect s = .next t ∧ s.beside t ∧ (∀ k, isActiveKey k = true → t.eng.i k = s.eng.i (k + 0x4000)) ∧
      t.eng.i Od.RULE_COMMIT.active_bank = 1 - s.eng.i Od.RULE_COMMIT.active_bank ∧
      t.eng.n Od.RULE_COMMIT.commit_count = (s.eng.n Od.RULE_COMMIT.commit_count + 1) % 2 ^ 32 ∧
      t.eng.cls.commitAt = none ∧ t.eng.cls.copyEnd = some (at_ + 2048) := by
  have hne : Od.RULE_COMMIT.active_bank ≠ Od.RULE_COMMIT.commit_count := by decide
  refine ⟨_, exec_ruleCommitTakeEffect_due hup hat hdue, ⟨rfl, rfl, rfl⟩, fun k hk => ?_, ?_, ?_, Eng.bankSwap_cls ..⟩
  · have hbank : k ≠ Od.RULE_COMMIT.active_bank := by
      rintro rfl
      exact absurd hk (by decide)
    have hcount : k ≠ Od.RULE_COMMIT.commit_count := by
      rintro rfl
      exact absurd hk (by decide)
    exact (Eng.bankSwap_i ..).trans ((Eng.set_i_other _ _ _ _ hcount).trans ((Eng.set_i_other _ _ _ _ hbank).trans
      (Eng.banksSwapped_active (e := s.eng0) hwf hk)))
  · refine (Eng.bankSwap_i ..).trans ((Eng.set_i_other _ _ _ _ hne).trans ((Eng.set_i_same ..).trans ?_))
    rw [Eng.banksSwapped_other (by decide)]
    rfl
  · refine congrArg Int.toNat ((Eng.bankSwap_i ..).trans ((Eng.inc32_i ..).trans (if_pos rfl))) |>.trans ?_
    rw [Int.toNat_natCast, Eng.n, Eng.set_i_other _ _ _ _ hne.symm, Eng.banksSwapped_other (by decide)]
    rfl

end Sys2Proof.Machine
end

section
/-! # Service entries, and the settling of O33 (R100, R105) -/

namespace Sys2Proof.Machine

/-! ## The write of a record (R344, R345) -/

/-- A command's admitted write of a record of the ports' area answers what its chapter does. -/
theorem lift_recCmd_answers {s : State} {item roles st : Nat} {w : RecWrite} {op : Ctx → List (Key × Int) → Eng → WriteRes} {e : Eng}
    (hu : s.eng.up = true) (hi : item < 4096) (had : s.eng.admitsRec 0x30 item w roles = true)
    (ho : op s.ctx (recValues 0x30 item w) s.eng0 = (st, e)) :
    ∃ t, lift (fun x e => e.recCmd x 0x30 item w roles (op x)) s = .next t ∧ s.Answers st e t := by
  cases w with
  | member m v =>
    obtain ⟨hm, ha⟩ := Bool.and_eq_true_iff.1 had
    have hm := of_decide_eq_true hm
    exact lift_writeCmd_answers (op := fun x => op x [(odKey 0x30 item m, v)]) hu (.inl rfl) (by omega) ha ho
  | whole vs =>
    obtain ⟨hlen, ha⟩ := Bool.and_eq_true_iff.1 had
    obtain ⟨p, hp⟩ := Eng.writeRecCmd_admitted (e := s.eng0) (k := odKey 0x30 item 0) s.ctx ha ho
    have harea : (odKey 0x30 item 0).area = 0x30 := odKey_area (by omega)
    have hrec : s.eng0.recCmd s.ctx 0x30 item (.whole vs) roles (op s.ctx) = e.account s.ctx p st := by
      refine (if_neg (not_not.2 (beq_iff_eq.1 hlen))).trans ?_
      rw [hp, e.refusedHook_elsewhere (by rw [harea]; decide) (by rw [harea]; decide)]
    refine ⟨_, lift_up hu _, ?_⟩
    rw [hrec]
    exact s.answers_account st e p

/-! ## The members of a service entry (Table 4-6) -/

/-- The item number of the first service entry of a version. -/
def svcBase (v6 : Bool) : Nat := if v6 then 0x500 else 0x400

theorem svcRows_base (v6 : Bool) : ∀ r ∈ rowsArea30, r.member < 16 ∧ 0 < r.stride ∧
    (r.base = svcBase v6 ∨ r.base + r.count * r.stride ≤ svcBase v6 ∨ svcBase v6 + 256 ≤ r.base) := by
  cases v6 <;> decide

theorem svcRows_members (v6 : Bool) : ((rowsArea30.filter (fun r => r.base == svcBase v6)).map ObjRow.member).Nodup := by
  cases v6 <;> decide

theorem rowsAt_mem {item : Nat} {r : ObjRow} (h : r ∈ rowsAt 0x30 item) : r ∈ rowsArea30 ∧ (r.instOf item).isSome = true :=
  List.mem_filter.1 h

/-- The members of one service entry are different objects. -/
theorem svcKeys_nodup (v6 : Bool) (entry : Fin 256) : (recKeys 0x30 (svcBase v6 + entry)).Nodup := by
  have hbase : (rowsAt 0x30 (svcBase v6 + entry)).Sublist (rowsArea30.filter (fun r => r.base == svcBase v6)) := by
    have hsub : rowsAt 0x30 (svcBase v6 + entry) =
        (rowsArea30.filter (fun r => r.base == svcBase v6)).filter (fun r => (r.instOf (svcBase v6 + entry)).isSome) := by
      rw [List.filter_filter]
      refine List.filter_congr fun r hr => ?_
      obtain ⟨-, hstride, hrow⟩ := svcRows_base v6 r hr
      cases hinst : (r.instOf (svcBase v6 + entry)).isSome with
      | false => rfl
      | true =>
        have hbounds := ObjRow.instOf_bounds hstride hinst
        have hb : r.base = svcBase v6 := by omega
        rw [hb, beq_self_eq_true]
        rfl
    rw [hsub]
    exact List.filter_sublist
  have hmembers := ((List.filter_sublist (p := fun r : ObjRow => r.access != .ro)).trans hbase).map ObjRow.member
  have hnodup := odKey_nodup 0x30 (svcBase v6 + entry) ((svcRows_members v6).sublist hmembers)
  rwa [List.map_map] at hnodup

theorem recKeys_mem {item : Nat} {k : Key} (h : k ∈ recKeys 0x30 item) : ∃ m < 16, k = odKey 0x30 item m := by
  obtain ⟨r, hr, rfl⟩ := List.mem_map.1 h
  exact ⟨r.member, (svcRows_base false r (rowsAt_mem (List.mem_filter.1 hr).1).1).1, rfl⟩

/-- What a write of a service entry names: members of the entry, each once. -/
theorem svcValues_names {e : Eng} {v6 : Bool} {entry : Fin 256} {w : RecWrite} {roles : Nat}
    (had : e.admitsRec 0x30 (svcBase v6 + entry) w roles = true) :
    ((recValues 0x30 (svcBase v6 + entry) w).map Prod.fst).Nodup ∧
    ∀ p ∈ recValues 0x30 (svcBase v6 + entry) w, ∃ m < 16, p.1 = odKey 0x30 (svcBase v6 + entry) m := by
  cases w with
  | member m v =>
    refine ⟨List.nodup_singleton _, fun p hp => ⟨m, of_decide_eq_true (Bool.and_eq_true_iff.1 had).1, ?_⟩⟩
    rw [List.mem_singleton.1 hp]
  | whole vs =>
    have hlen : vs.length = (recKeys 0x30 (svcBase v6 + entry)).length := beq_iff_eq.1 (Bool.and_eq_true_iff.1 had).1
    refine ⟨?_, fun p hp => recKeys_mem (List.of_mem_zip hp).1⟩
    rw [recValues, List.map_fst_zip hlen.ge]
    exact svcKeys_nodup v6 entry

theorem names_mono {vs : List (Key × Int)} {ks ks' : List Key} (hks : ∀ k ∈ ks, k ∈ ks') (h : names vs ks = true) : names vs ks' = true := by
  obtain ⟨p, hp, hk⟩ := List.any_eq_true.1 h
  exact List.any_eq_true.2 ⟨p, hp, List.contains_iff_mem.2 (hks _ (List.contains_iff_mem.1 hk))⟩

/-! ## The write of a service entry (R100, R106) -/

/-- The VLAN of a service entry. -/
def Eng.svcVid (e : Eng) (v6 : Bool) (i : Nat) : Nat := if v6 then e.n (Od.SVC6.vid i) else e.n (Od.SVC4.vid i)

/-- The entry is stored, and is no longer damaged (R106). -/
def Eng.svcStored (e : Eng) (v6 : Bool) (i : Nat) (vs : List (Key × Int)) : Eng :=
  { e.setAll vs with cls := { (e.setAll vs).cls with badSvc := (e.setAll vs).cls.badSvc.filter (fun j => j != (if v6 then 256 + i else i)) } }

section
variable {v6 : Bool} {i : Nat} {vs : List (Key × Int)} {e : Eng}
  (hvid : (e.setAll vs).svcVid v6 i ≤ 0xFFF ∨ (e.setAll vs).svcVid v6 i = 0xFFFF)

include hvid

/-- A VLAN in its range is not what refuses the write. -/
theorem svcVid_inRange (b : Bool) : ¬(b && decide (0xFFF < (e.setAll vs).svcVid v6 i) && (e.setAll vs).svcVid v6 i != 0xFFFF) = true := by
  simp only [Bool.and_eq_true, decide_eq_true_eq, bne_iff_ne, ne_eq, not_and]
  omega

/-- An entry that no other clashes with is stored. -/
theorem svcWrite_stores (hdup : (e.setAll vs).svcDuplicate v6 i = false) : svcWrite v6 i vs e = (stOk, e.svcStored v6 i vs) := by
  refine (if_neg (svcVid_inRange hvid _)).trans ?_
  rw [hdup, Bool.and_false, if_neg (by decide)]
  rfl

/-- An entry that would clash with another, written with its enable, is refused. -/
theorem svcWrite_duplicate (hdup : (e.setAll vs).svcDuplicate v6 i = true)
    (hnames : names vs [Od.SVC4.enable i, Od.SVC6.enable i] = true) : svcWrite v6 i vs e = (stDuplicate, e) := by
  refine (if_neg (svcVid_inRange hvid _)).trans ?_
  rw [hdup, Bool.and_true, if_pos (names_mono (fun k hk => ?_) hnames)]
  simp only [List.mem_cons, List.not_mem_nil, or_false] at hk ⊢
  exact hk.elim .inl fun h => .inr (.inl h)

end

theorem Eng.svcStored_i (e : Eng) (v6 : Bool) (i : Nat) (vs : List (Key × Int)) (k : Key) : (e.svcStored v6 i vs).i k = (e.setAll vs).i k := rfl

/-- What differs from the engines in objects and in the classifier differs in objects alone, the classifier apart. -/
theorem Eng.onlyObjects_cls {a b c : Eng} {k : Classifier} (h : a.onlyObjects b) (hc : ({ b with cls := k } : Eng).onlyObjects c) :
    a.onlyObjects { c with cls := a.cls } := by
  unfold Eng.onlyObjects at h hc
  rw [h] at hc
  rw [hc]
  rfl

/-- What a write puts into the objects does not depend on what has left the pins. -/
theorem State.eng0_setAll (s : State) (vs : List (Key × Int)) : s.eng0.setAll vs = (s.eng.setAll vs).fresh := by
  rw [Eng.setAll_eq, Eng.setAll_eq]
  rfl

section
variable {s : State} {v6 : Bool} {entry : Fin 256} {w : RecWrite} {roles : Nat} (hup : s.eng.up = true)
  (had : s.eng.admitsRec 0x30 (svcBase v6 + entry) w roles = true)

include had

/-- No counter of the commands is a member of a service entry. -/
theorem svcValues_free : ∀ p ∈ recValues 0x30 (svcBase v6 + entry) w, accounting p.1 = false := by
  intro p hp
  obtain ⟨m, hm, hpm⟩ := (svcValues_names had).2 p hp
  have hitem : svcBase v6 + entry < 4096 := by
    unfold svcBase
    split <;> omega
  rw [hpm]
  exact accounting_area (by decide) (by omega)

include hup

/-- The command answers what the write of its entry does. -/
theorem exec_serviceEntryWrite_answers {st : Nat} {e : Eng}
    (ho : svcWrite v6 entry (recValues 0x30 (svcBase v6 + entry) w) s.eng0 = (st, e)) :
    ∃ t, exec (.serviceEntryWrite v6 entry w roles) s = .next t ∧ s.Answers st e t := by
  have hitem : svcBase v6 + entry < 4096 := by
    unfold svcBase
    split <;> omega
  rw [exec_serviceEntryWrite]
  exact lift_recCmd_answers (op := fun _ => svcWrite v6 entry) hup hitem had ho

variable (hvid : (s.eng.setAll (recValues 0x30 (svcBase v6 + entry) w)).svcVid v6 entry ≤ 0xFFF ∨
  (s.eng.setAll (recValues 0x30 (svcBase v6 + entry) w)).svcVid v6 entry = 0xFFFF)

include hvid

/-- A write whose entry clashes with no other is stored. -/
theorem exec_serviceEntryWrite_stored
    (hdup : (s.eng.setAll (recValues 0x30 (svcBase v6 + entry) w)).svcDuplicate v6 entry = false) :
    ∃ t, exec (.serviceEntryWrite v6 entry w roles) s = .next t ∧ s.stored t (recValues 0x30 (svcBase v6 + entry) w) ∧
      s.eng.onlyObjects { t.eng with cls := s.eng.cls } := by
  have hset := s.eng0_setAll (recValues 0x30 (svcBase v6 + entry) w)
  obtain ⟨t, ht, hans⟩ := exec_serviceEntryWrite_answers hup had (svcWrite_stores (by rw [hset]; exact hvid) (by rw [hset]; exact hdup))
  refine ⟨t, ht, ⟨hans.status, fun p hp => ?_, fun k hk hacc => ?_, hans.beside⟩,
    Eng.onlyObjects_cls (Eng.setAll_onlyObjects s.onlyObjects_eng0 _) hans.rest⟩
  · rw [hans.obj _ (svcValues_free had p hp), Eng.svcStored_i]
    exact Eng.setAll_i_mem _ _ (svcValues_names had).1 p hp
  · rw [hans.obj k hacc, Eng.svcStored_i]
    exact Eng.setAll_i_other _ _ k hk

/-- A write that would make a clashing pair changes no member. -/
theorem exec_serviceEntryWrite_refused
    (hdup : (s.eng.setAll (recValues 0x30 (svcBase v6 + entry) w)).svcDuplicate v6 entry = true)
    (hnames : names (recValues 0x30 (svcBase v6 + entry) w) [Od.SVC4.enable entry, Od.SVC6.enable entry] = true) :
    ∃ t, exec (.serviceEntryWrite v6 entry w roles) s = .next t ∧ t.eng.resp.status = stDuplicate ∧
      (∀ p ∈ recValues 0x30 (svcBase v6 + entry) w, t.eng.i p.1 = s.eng.i p.1) ∧ s.eng.onlyObjects t.eng ∧ s.beside t := by
  have hset := s.eng0_setAll (recValues 0x30 (svcBase v6 + entry) w)
  obtain ⟨t, ht, hans⟩ :=
    exec_serviceEntryWrite_answers hup had (svcWrite_duplicate (by rw [hset]; exact hvid) (by rw [hset]; exact hdup) hnames)
  exact ⟨t, ht, hans.status, fun p hp => hans.obj _ (svcValues_free had p hp), Eng.onlyObjects_trans s.onlyObjects_eng0 hans.rest, hans.beside⟩

end

/-- Settles O33: a commit is judged by its first bad rule and swaps the banks at its tick, and a service entry is stored unless it clashes. -/
theorem ruleBanksAndServiceEntriesAreChecked : Obligations.RuleBanksAndServiceEntriesAreChecked := by
  refine ⟨fun s hup => ⟨fun roles had hfree hgood => exec_ruleCommit_good hup had hfree hgood,
    fun roles r before after had hfree hrules hbefore hbad => exec_ruleCommit_bad hup had hfree hrules hbefore hbad,
    fun roles had hbusy => exec_ruleCommit_busy hup had hbusy,
    fun at_ hat hdue hwf => exec_ruleCommitTakeEffect_swaps hup hat hdue hwf,
    ⟨_, (exec_ruleBankCopyDone s).trans (lift_up hup _), rfl⟩⟩, ?_⟩
  intro s v6 entry w roles vs hup hvs had f vid hvid
  subst hvs
  exact ⟨exec_serviceEntryWrite_stored hup had hvid, exec_serviceEntryWrite_refused hup had hvid⟩

end Sys2Proof.Machine
end

section
/-! # Wire timestamps: markers, echoes and their faults (R119, R120, R121) -/

namespace Sys2Proof.Machine

theorem Eng.inc32_n_same (e : Eng) (k : Key) : (e.inc32 k).n k = (e.n k + 1) % 2 ^ 32 :=
  congrArg Int.toNat ((Eng.inc32_i ..).trans (if_pos rfl))

/-! ## A detection and the objects of other areas (R396 to R404)

The faults' objects lie in area 70: an object of an area below 40 is spared by each step of a detection. -/

section
variable {j : Key} (hj : j < 0x40 * 65536) {a e : Eng} (x : Ctx) (d : Detection)

include hj

theorem Eng.Spares.fillFirst_of_lt (h : Eng.Spares j a e) (same extra prior : Nat) : Eng.Spares j a (e.fillFirst x d same extra prior) := by
  have hk (m : Nat) : j ≠ odKey 0x70 (0x140 + d.block) m := ne_of_area hj (by decide)
  unfold Eng.fillFirst
  exact (((((((((h.set (hk 1) _).set (hk 2) _).set (hk 3) _).set (hk 4) _).set (hk 5) _).set (hk 6) _).set (hk 7) _).set (hk 8) _).set
    (hk 10) _).set (hk 9) _

theorem Eng.Spares.recordFirst_of_lt (h : Eng.Spares j a e) : Eng.Spares j a (e.recordFirst x d) := by
  have hk (m : Nat) : j ≠ odKey 0x70 (0x140 + d.block) m := ne_of_area hj (by decide)
  unfold Eng.recordFirst
  exact .ite (h.fillFirst_of_lt hj x d ..) (.ite (.ite (h.fillFirst_of_lt hj x d ..) (.ite (h.orb (hk 9) _) (h.orb (hk 8) _)))
    (.ite ((h.set (hk 11) _).fillFirst_of_lt hj x d ..) (h.inc32 (hk 11))))

theorem Eng.Spares.countDetection_of_lt (h : Eng.Spares j a e) : Eng.Spares j a (e.countDetection x d) := by
  have hk (m : Nat) : j ≠ odKey 0x70 (0x100 + d.block) m := ne_of_area hj (by decide)
  have hg : j ≠ Od.FLT_GLOBAL.sticky := ne_of_area hj (by decide)
  have hc : j ≠ Od.CNT_STATUS.sticky := ne_of_area hj (by decide)
  unfold Eng.countDetection
  extract_lets e1 e2
  have h1 : Eng.Spares j a e1 := by
    unfold e1
    split
    · exact (h.inc32 (hk 6)).count hc _
    · exact (h.inc32 (hk 7)).count hc _
    · exact h
  have h2 : Eng.Spares j a e2 := .ite ((h1.inc32 (hk 8)).orb hg _) h1
  exact .ite ((h2.inc32 (hk 9)).orb hg _) h2

/-- A notification moves the management queue alone, and counts its event. -/
theorem Eng.notify_i_of_lt (e : Eng) (event : Nat) (extra : Bytes) : (e.notify x event extra).i j = e.i j := by
  have hcount (b : Eng) (ev : Nat) : (b.count x ev).i j = b.i j := Eng.count_i _ _ _ _ (ne_of_area hj (by decide))
  unfold Eng.notify Eng.publish
  split
  · rfl
  · split
    · exact hcount ..
    · dsimp only
      split <;> exact hcount ..

theorem Eng.raise_i_of_lt (e : Eng) : (e.raise x d).i j = e.i j := by
  have hlatch : (e.latchDetection x d).i j = e.i j := Eng.set_i_other _ _ _ _ (ne_of_area hj (by decide))
  have hrecord := (((Eng.Spares.refl j (e.latchDetection x d)).countDetection_of_lt hj x d).recordFirst_of_lt hj x d).obj.trans hlatch
  unfold Eng.raise
  extract_lets e1 e2 had e3 took e4 e5
  have h4 : e4.i j = e.i j := by
    unfold e4
    split
    · exact hrecord
    · exact (Eng.irqPoke_i ..).trans hrecord
  have h5 : e5.i j = e.i j := by
    unfold e5
    split
    · exact (Eng.notify_i_of_lt hj ..).trans h4
    · exact h4
  split
  · rw [Eng.i, (Eng.endLinger_frame _ _).1, (Eng.railChange_frame ..).1]
    exact h5
  · exact h5

theorem Eng.detect_i_of_lt (e : Eng) (b row inst : Nat) : (e.detect x b row inst).i j = e.i j := e.raise_i_of_lt hj x _

end

/-! ## The objects of a lane and of a port's timestamps (Table 5-5) -/

theorem tsKey_lt {i m : Nat} (h : i * 16 + m < 65536) : odKey 0x38 i m < 0x40 * 65536 := by
  change 0x38 * 65536 + i * 16 + m < _
  omega

/-- No member of a timestamp item is a port's ts_valid. -/
theorem tsKey_ne_valid {i m : Nat} (p : Nat) (hp : p < 32) : odKey 0x38 i m ≠ Od.PORT_STATUS.ts_valid p := odKey_ne (by omega)

/-- The markers' count of a lane is no object of a port's timestamps. -/
theorem markers_ne_tsPort (l p m : Nat) (hl : l < 32) (hm : m < 16) : Od.LANE_LIVE.markers l ≠ odKey 0x38 (0x400 + p) m :=
  odKey_ne (by omega)

/-- The markers' count of a lane is no object of a lane's measurement. -/
theorem markers_ne_calMeas (l k m : Nat) (hl : l < 32) (hm : m < 16) : Od.LANE_LIVE.markers l ≠ odKey 0x38 (0x1C0 + k) m :=
  odKey_ne (by omega)

theorem tsPort_ne (p m m' : Nat) (h : m ≠ m') : odKey 0x38 (0x400 + p) m ≠ odKey 0x38 (0x400 + p) m' := (odKey_injective _ _).ne h

/-! ## A fault of a port's timestamps (R119 to R121) -/

section
variable {x : Ctx} (e : Eng) {p : Nat}

/-- A fault invalidates the port's timestamps. -/
theorem Eng.tsFault_ts (hp : p < 32) (row sticky : Nat) : (e.tsFault x p row sticky).b (Od.PORT_STATUS.ts_valid p) = false :=
  Eng.tsFall_ts _ x p hp

/-- Of the timestamps' objects a fault names its port's count and sticky bits. -/
theorem Eng.tsFault_i (hp : p < 32) (row sticky : Nat) {i m : Nat} (h : i * 16 + m < 65536) : (e.tsFault x p row sticky).i (odKey 0x38 i m) =
    ((e.inc32 (Od.TS_PORT.faults p)).orb (Od.TS_PORT.sticky p) sticky).i (odKey 0x38 i m) :=
  (Eng.Spares.tsFall (tsKey_lt h) (.refl _ _) p (tsKey_ne_valid p hp)).obj.trans (Eng.detect_i_of_lt (tsKey_lt h) ..)

theorem Eng.tsFault_i_other (hp : p < 32) (row sticky : Nat) {i m : Nat} (h : i * 16 + m < 65536)
    (hf : odKey 0x38 i m ≠ Od.TS_PORT.faults p) (hs : odKey 0x38 i m ≠ Od.TS_PORT.sticky p) :
    (e.tsFault x p row sticky).i (odKey 0x38 i m) = e.i (odKey 0x38 i m) :=
  (e.tsFault_i hp row sticky h).trans ((Eng.set_i_other _ _ _ _ hs).trans (Eng.set_i_other _ _ _ _ hf))

theorem Eng.tsFault_faults (hp : p < 32) (row sticky : Nat) :
    (e.tsFault x p row sticky).n (Od.TS_PORT.faults p) = (e.n (Od.TS_PORT.faults p) + 1) % 2 ^ 32 := by
  rw [← Eng.inc32_n_same]
  exact congrArg Int.toNat ((e.tsFault_i hp row sticky (by omega)).trans (Eng.set_i_other _ _ _ _ (tsPort_ne p 6 7 (by decide))))

end

/-! ## The frames that await their echo (R120) -/

section
variable {x : Ctx} (e : Eng) (p : Nat)

/-- A change of a calendar that keeps the frames awaiting their echo keeps every port's. -/
theorem Eng.modCal_awaiting (q : Nat) (f : Calendar → Calendar) (hf : ∀ c, (f c).awaiting = c.awaiting) :
    ((e.modCal p f).cal q).awaiting = (e.cal q).awaiting := by
  change (nth (modNth e.cals p f) q Calendar.atReset).awaiting = _
  rw [nth_modNth]
  split
  · exact hf _
  · rfl

theorem Eng.discardAll_awaiting (k q : Nat) (which : Resv → Bool) :
    ((e.discardAll x p k which).cal q).awaiting = (e.cal q).awaiting := by
  have hcals : (e.discardAll x p k which).cals = (e.modCal p (fun c => { c with resv := c.resv.filter (fun r => !which r) })).cals :=
    Facet.of_foldl (φ := .cals) _ _ (fun e r => Eng.resvDiscard_keeps e x p k r (by decide)) _
  rw [Eng.cal, hcals]
  exact e.modCal_awaiting p q _ fun _ => rfl

theorem Eng.tsFall_awaiting (q : Nat) : ((e.tsFall x p).cal q).awaiting = (e.cal q).awaiting := by
  have hlanes (l : List Nat) (e : Eng) : (l.foldl (fun e l => e.modLane l (fun u => { u with markers := 0, echoes := 0 })) e).cals = e.cals :=
    Eng.foldl_same (f := fun e l => e.modLane l (fun u => { u with markers := 0, echoes := 0 })) Eng.cals (fun _ _ => rfl) l e
  unfold Eng.tsFall
  split
  · refine (Eng.discardAll_awaiting ..).trans ?_
    rw [Eng.cal, hlanes]
    rfl
  · rfl

theorem Eng.tsFault_awaiting (row sticky q : Nat) : ((e.tsFault x p row sticky).cal q).awaiting = (e.cal q).awaiting := by
  refine (Eng.tsFall_awaiting ..).trans ?_
  rw [Eng.cal, show ∀ e : Eng, (e.detect x 3 row p).cals = e.cals from fun e => Eng.detect_keeps (φ := .cals) e x 3 row p]
  rfl

/-- The oldest frame awaiting its echo no longer does. -/
theorem Eng.awaiting_taken {a : Sent} {rest : List Sent} (h : (e.cal p).awaiting = a :: rest) :
    ((e.modCal p (fun c => { c with awaiting := rest })).cal p).awaiting = rest := by
  have hlen : p < e.cals.length := by
    refine Nat.lt_of_not_le fun hle => ?_
    rw [Eng.cal, nth, List.getD_eq_default _ _ hle] at h
    cases h
  change (nth (modNth e.cals p _) p Calendar.atReset).awaiting = rest
  rw [nth_modNth, if_pos ⟨rfl, hlen⟩]

/-- The Tail entry of a sent frame is no object. -/
theorem Eng.tailSent_i (s : Sent) (err : Int) (beyond : Bool) (j : Key) : (e.tailSent x p s err beyond).i j = e.i j := by
  unfold Eng.tailSent
  split
  · exact (Eng.Spares.tailAdd j e x p _).obj
  · rfl

theorem Eng.echoTimed_i (err : Int) (j : Key) : (e.echoTimed x p err).i j = e.i j := by
  unfold Eng.echoTimed
  split
  · rfl
  · exact Eng.tailSent_i ..

/-- An echo of a timed frame is told its frame; an alignment marker's is told none. -/
def Eng.echoTold (e : Eng) (x : Ctx) (p : Nat) (timed : Bool) (err : Int) : Eng := if timed then e.echoTimed x p err else e

theorem Eng.echoTold_i (timed : Bool) (err : Int) (j : Key) : (e.echoTold x p timed err).i j = e.i j := by
  unfold Eng.echoTold
  split
  · exact Eng.echoTimed_i ..
  · rfl

/-- An echo that has not come: its frame awaits it no longer, its Tail entry is made, and the port has a fault. -/
theorem Eng.echoMissing_eq {a : Sent} {rest : List Sent} (h : (e.cal p).awaiting = a :: rest) : e.echoMissing x p =
    ((e.modCal p (fun c => { c with awaiting := rest })).drawn.tailSent x p a (signed 32 (e.draw (2 ^ 32))) false).tsFault x p 4 2 := by
  simp only [Eng.echoMissing, h]
  rfl

theorem Eng.echoMissing_awaiting {a : Sent} {rest : List Sent} (h : (e.cal p).awaiting = a :: rest) :
    ((e.echoMissing x p).cal p).awaiting = rest := by
  rw [e.echoMissing_eq p h, Eng.tsFault_awaiting, Eng.cal,
    show ∀ e : Eng, (e.tailSent x p a _ false).cals = e.cals from fun e => Eng.tailSent_keeps (φ := .cals) e x p a _ false (by decide)]
  exact e.awaiting_taken p h

theorem Eng.echoMissing_faults {a : Sent} {rest : List Sent} (h : (e.cal p).awaiting = a :: rest) (hp : p < 32) :
    (e.echoMissing x p).n (Od.TS_PORT.faults p) = (e.n (Od.TS_PORT.faults p) + 1) % 2 ^ 32 := by
  rw [e.echoMissing_eq p h, Eng.tsFault_faults _ hp, Eng.n, Eng.tailSent_i]
  rfl

theorem Eng.echoMissing_ts {a : Sent} {rest : List Sent} (h : (e.cal p).awaiting = a :: rest) (hp : p < 32) :
    (e.echoMissing x p).b (Od.PORT_STATUS.ts_valid p) = false := by
  rw [e.echoMissing_eq p h]
  exact Eng.tsFault_ts _ hp 4 2

end

/-! ## An echo (R114, R120) -/

section
variable {x : Ctx} (e : Eng) (p l : Nat) (ser err : Int)

theorem Eng.echoNote_count : (e.echoNote p l ser err).n (Od.TS_PORT.echo_count p) = (e.n (Od.TS_PORT.echo_count p) + 1) % 2 ^ 32 := by
  have hcount : ((e.inc32 (Od.TS_PORT.echo_count p)).set (Od.TS_PORT.echo_last p) err).n (Od.TS_PORT.echo_count p) =
      (e.n (Od.TS_PORT.echo_count p) + 1) % 2 ^ 32 :=
    (congrArg Int.toNat (Eng.set_i_other _ _ _ _ (tsPort_ne p 1 3 (by decide)))).trans (Eng.inc32_n_same ..)
  unfold Eng.echoNote
  dsimp only
  split
  · exact (congrArg Int.toNat (Eng.set_i_other _ _ _ _ (tsPort_ne p 1 4 (by decide)))).trans hcount
  · exact hcount

theorem Eng.echoNote_last : (e.echoNote p l ser err).i (Od.TS_PORT.echo_last p) = err := by
  unfold Eng.echoNote
  dsimp only
  split
  · exact (Eng.set_i_other _ _ _ _ (tsPort_ne p 3 4 (by decide))).trans (Eng.set_i_same ..)
  · exact Eng.set_i_same ..

/-- Of a port's timestamp objects the checks of an echo name the errors, the faults and the sticky bits. -/
theorem Eng.echoCheck_i (hp : p < 32) {m : Nat} (hm : m < 16) (h2 : m ≠ 2) (h6 : m ≠ 6) (h7 : m ≠ 7) :
    (e.echoCheck x p err).i (odKey 0x38 (0x400 + p) m) = e.i (odKey 0x38 (0x400 + p) m) := by
  have hfault (e : Eng) (row : Nat) : (e.tsFault x p row 2).i (odKey 0x38 (0x400 + p) m) = e.i (odKey 0x38 (0x400 + p) m) :=
    e.tsFault_i_other hp row 2 (by omega) (tsPort_ne p m 6 h6) (tsPort_ne p m 7 h7)
  unfold Eng.echoCheck
  extract_lets beyond win e1 e2 e3
  have he2 : e2.i (odKey 0x38 (0x400 + p) m) = e.i (odKey 0x38 (0x400 + p) m) := by
    unfold e2
    split
    · exact (Eng.set_i_other _ _ _ _ (tsPort_ne p m 7 h7)).trans (Eng.set_i_other _ _ _ _ (tsPort_ne p m 2 h2))
    · rfl
  have he3 : e3.i (odKey 0x38 (0x400 + p) m) = e.i (odKey 0x38 (0x400 + p) m) := by
    unfold e3
    split
    · exact (hfault ..).trans he2
    · exact he2
  split
  · exact (hfault ..).trans he3
  · exact he3

/-- An echo more than 1 ns out invalidates the port's timestamps. -/
theorem Eng.echoCheck_ts (hp : p < 32) (h : 65536 < err.natAbs) : (e.echoCheck x p err).b (Od.PORT_STATUS.ts_valid p) = false := by
  unfold Eng.echoCheck
  dsimp only
  rw [if_pos h]
  exact Eng.tsFault_ts _ hp 3 2

end

/-! ## A marker (R119, R126) -/

section
variable {x : Ctx} (e : Eng) {p l : Nat}

/-- A round-trip sample names objects of its lane's measurement, and the port's sticky bits. -/
theorem Eng.rttSample_i (v : Int) {j : Key} (hm : ∀ m < 16, j ≠ odKey 0x38 (0x1C0 + l) m) (hs : j ≠ Od.TS_PORT.sticky p) :
    (e.rttSample p l v).i j = e.i j := by
  have hinc (e : Eng) (m : Nat) (h : m < 16) : Eng.Spares j e (e.inc32 (odKey 0x38 (0x1C0 + l) m)) := (Eng.Spares.refl j e).inc32 (hm m h)
  refine Eng.Spares.obj ?_
  unfold Eng.rttSample
  refine .ite ((hinc e 3 (by decide)).orb hs 32) ?_
  exact ((((hinc e 2 (by decide)).trans (.modLane j _ l _)).set (hm 4 (by decide)) _).set (hm 6 (by decide)) _).set (hm 5 (by decide)) _

variable (ser closure : Int) (loopback : Option Int)

theorem Eng.marker_markers (hp : p < 32) (hl : l < 32) :
    (e.marker x p l ser closure loopback).n (Od.LANE_LIVE.markers l) = (e.n (Od.LANE_LIVE.markers l) + 1) % 2 ^ 32 := by
  have hport (m : Nat) (h : m < 16) := markers_ne_tsPort l p m hl h
  unfold Eng.marker
  extract_lets beyond run e1 e2
  have h1 : e1.n (Od.LANE_LIVE.markers l) = (e.n (Od.LANE_LIVE.markers l) + 1) % 2 ^ 32 := Eng.inc32_n_same ..
  have h2 : e2.i (Od.LANE_LIVE.markers l) = e1.i (Od.LANE_LIVE.markers l) := by
    unfold e2
    split
    · split
      · exact Eng.rttSample_i _ _ (fun m h => markers_ne_calMeas l l m hl h) (hport 7 (by decide))
      · rfl
    · rfl
  rw [← h1]
  refine congrArg Int.toNat ?_
  split
  · refine (Eng.tsFault_i_other _ hp 1 8 (by omega) (hport 6 (by decide)) (hport 7 (by decide))).trans ?_
    exact (Eng.set_i_other _ _ _ _ (hport 7 (by decide))).trans ((Eng.set_i_other _ _ _ _ (hport 5 (by decide))).trans h2)
  · exact h2

/-- The fourth residual running beyond the limit is a closure error of the port. -/
theorem Eng.marker_ts (hp : p < 32) (hover : e.closureOver l closure = true) (hrun : (e.lane l).closureRun = 3) :
    (e.marker x p l ser closure loopback).b (Od.PORT_STATUS.ts_valid p) = false := by
  unfold Eng.marker
  dsimp only
  rw [if_pos (by rw [hover, hrun]; rfl)]
  exact Eng.tsFault_ts _ hp 1 8

end

/-! ## The commands -/

section
variable {s : State} (hup : s.eng.up = true)

include hup

theorem exec_alignmentMarkerRx_counts {lane : Fin 32} {p : Nat} (ser closure : Int) (loopback : Option Int)
    (hport : s.eng.portOfLane lane = some p) (hlink : s.eng.b (Od.PORT_STATUS.link p) = true) :
    ∃ t, exec (.alignmentMarkerRx lane ser closure loopback) s = .next t ∧ s.beside t ∧
      t.eng.n (Od.LANE_LIVE.markers lane) = (s.eng.n (Od.LANE_LIVE.markers lane) + 1) % 2 ^ 32 ∧
      (s.eng.closureOver lane closure = true → (s.eng.lane lane).closureRun = 3 → t.eng.b (Od.PORT_STATUS.ts_valid p) = false) := by
  have hp : p < 32 := lt_of_le_of_lt (Eng.portOfLane_le hport) lane.isLt
  have hexec : exec (.alignmentMarkerRx lane ser closure loopback) s =
      .next { s with eng := s.eng0.marker s.ctx p lane ser closure loopback } := by
    rw [exec_alignmentMarkerRx, execAlignmentMarkerRx, lift_up hup, show s.eng0.portOfLane lane = some p from hport]
    dsimp only
    rw [State.eng0_b, hlink, whenDue_true]
  exact ⟨_, hexec, ⟨rfl, rfl, rfl⟩, Eng.marker_markers s.eng0 ser closure loopback hp lane.isLt,
    Eng.marker_ts s.eng0 ser closure loopback hp⟩

theorem exec_echoResult_counts {lane : Fin 32} {p : Nat} (timed : Bool) (ser error : Int) (hport : s.eng.portOfLane lane = some p) :
    ∃ t, exec (.echoResult lane timed ser error) s = .next t ∧ s.beside t ∧
      t.eng.n (Od.TS_PORT.echo_count p) = (s.eng.n (Od.TS_PORT.echo_count p) + 1) % 2 ^ 32 ∧ t.eng.i (Od.TS_PORT.echo_last p) = error ∧
      (65536 < error.natAbs → t.eng.b (Od.PORT_STATUS.ts_valid p) = false) := by
  have hp : p < 32 := lt_of_le_of_lt (Eng.portOfLane_le hport) lane.isLt
  have hexec : exec (.echoResult lane timed ser error) s = .next
      { s with eng := ((s.eng0.echoNote p lane ser error).echoTold s.ctx p timed error).echoCheck s.ctx p error } := by
    rw [exec_echoResult, execEchoResult, lift_up hup, show s.eng0.portOfLane lane = some p from hport]
    rfl
  have hnoted (m : Nat) (hm : m < 16) (h2 : m ≠ 2) (h6 : m ≠ 6) (h7 : m ≠ 7) :=
    (Eng.echoCheck_i (x := s.ctx) ((s.eng0.echoNote p lane ser error).echoTold s.ctx p timed error) p error hp hm h2 h6 h7).trans
      (Eng.echoTold_i _ p timed error _)
  exact ⟨_, hexec, ⟨rfl, rfl, rfl⟩,
    (congrArg Int.toNat (hnoted 1 (by decide) (by decide) (by decide) (by decide))).trans (Eng.echoNote_count s.eng0 p lane ser error),
    (hnoted 3 (by decide) (by decide) (by decide) (by decide)).trans (Eng.echoNote_last s.eng0 p lane ser error),
    Eng.echoCheck_ts _ p error hp⟩

theorem exec_echoMissing_faults {port : Fin 32} {a : Sent} {rest : List Sent} (hawait : (s.eng.cal port).awaiting = a :: rest)
    (hdue : a.tick + 512 ≤ s.core.tick) :
    ∃ t, exec (.echoMissing port) s = .next t ∧ s.beside t ∧ (t.eng.cal port).awaiting = rest ∧
      t.eng.b (Od.PORT_STATUS.ts_valid port) = false ∧
      t.eng.n (Od.TS_PORT.faults port) = (s.eng.n (Od.TS_PORT.faults port) + 1) % 2 ^ 32 := by
  have hawait0 : (s.eng0.cal port).awaiting = a :: rest := hawait
  have hoverdue : s.eng0.echoOverdue s.ctx port = true := by
    simp only [Eng.echoOverdue, hawait0]
    exact decide_eq_true hdue
  exact ⟨_, (exec_echoMissing port s).trans (lift_whenDue (due := fun x e => e.echoOverdue x port) hup hoverdue), ⟨rfl, rfl, rfl⟩,
    s.eng0.echoMissing_awaiting port hawait0, s.eng0.echoMissing_ts port hawait0 port.isLt, s.eng0.echoMissing_faults port hawait0 port.isLt⟩

end

end Sys2Proof.Machine
end

section
/-! # Calibration items, their store and the measurement windows, and the settling of O34 (R124, R126) -/

namespace Sys2Proof.Machine

/-! ## Calibration items (R124) -/

theorem calOrigin_odKey {i m : Nat} (hi : i < 4096) (hm : m < 16) :
    calOrigin (odKey 0x38 i m) = odKey 0x38 i (if i = 0x220 then 7 else m + 1) := by
  have hitem : (odKey 0x38 i m).item = i := by
    change (0x38 * 65536 + i * 16 + m) / 16 % 4096 = i
    omega
  unfold calOrigin
  rw [hitem]
  split
  next h => rw [h]; rfl
  next => rfl

/-- The item number of a calibration item. -/
def calItemNo : CalItem → Nat
  | .laneRx l | .laneTx l => 0x100 + l
  | .refin n => 0x200 + n
  | .antenna u | .cable u => 0x210 + u
  | .seed _ => 0x220

/-- The member of its item that a calibration item is. -/
def calMember : CalItem → Nat
  | .laneRx _ | .refin _ | .antenna _ => 1
  | .laneTx _ | .cable _ => 3
  | .seed i => i + 1

theorem calKey_eq (item : CalItem) : calKey item = odKey 0x38 (calItemNo item) (calMember item) := by
  cases item <;> rfl

theorem calItemNo_lt (item : CalItem) : calItemNo item < 4096 := by
  cases item <;> simp only [calItemNo] <;> omega

theorem calMember_lt (item : CalItem) : calMember item < 7 := by
  cases item <;> simp only [calMember] <;> omega

/-- The origin of an item is another member of the same item. -/
theorem calOrigin_calKey (item : CalItem) :
    ∃ m < 16, m ≠ calMember item ∧ calOrigin (calKey item) = odKey 0x38 (calItemNo item) m := by
  have hm := calMember_lt item
  refine ⟨if calItemNo item = 0x220 then 7 else calMember item + 1, ?_, ?_, ?_⟩
  · split <;> omega
  · split <;> omega
  · rw [calKey_eq, calOrigin_odKey (calItemNo_lt item) (by omega)]

/-- An item and its origin are different objects. -/
theorem calValues_nodup (item : CalItem) (v : Int) : ([(calKey item, v), (calOrigin (calKey item), 1)].map Prod.fst).Nodup := by
  obtain ⟨m, -, hne, horigin⟩ := calOrigin_calKey item
  refine List.nodup_cons.2 ⟨fun h => hne ?_, List.nodup_singleton _⟩
  have h : calKey item = calOrigin (calKey item) := List.mem_singleton.1 h
  rw [horigin, calKey_eq] at h
  exact (odKey_injective _ _ h).symm

/-- No counter of the commands is an item or its origin. -/
theorem calValues_free (item : CalItem) (v : Int) : ∀ p ∈ [(calKey item, v), (calOrigin (calKey item), 1)], accounting p.1 = false := by
  have hi := calItemNo_lt item
  have hm := calMember_lt item
  obtain ⟨m, hlt, -, horigin⟩ := calOrigin_calKey item
  rw [horigin, calKey_eq]
  exact List.forall_mem_cons.2 ⟨accounting_area (by decide) (by omega),
    List.forall_mem_singleton.2 (accounting_area (by decide) (by omega))⟩

/-- What differs from the engines in objects and in the waiting store differs in objects alone, the waiting store apart. -/
theorem Eng.onlyObjects_calWait {a b c : Eng} {w : StoreWait} (h : a.onlyObjects b)
    (hc : ({ b with calWait := w } : Eng).onlyObjects c) : a.onlyObjects { c with calWait := a.calWait } := by
  unfold Eng.onlyObjects at h hc
  rw [h] at hc
  rw [hc]
  rfl

/-- The item and its origin are written, and the store waits from now where it does not already. -/
theorem calWrite_item (x : Ctx) (item : CalItem) (v : Int) (e : Eng) : calWrite x [(calKey item, v)] e =
    (stOk, { e.setAll [(calKey item, v), (calOrigin (calKey item), 1)] with calWait := ⟨some (e.calWait.since.getD (x.st 0))⟩ }) := rfl

/-! ## The windows (R126, R127) -/

/-- A pass whose steps change objects alone changes objects alone. -/
theorem Eng.onlyObjects_pass {β : Type} {f : Eng → β → Eng} (hf : ∀ (e : Eng) b, e.onlyObjects (f e b)) (l : List β) (e : Eng) :
    e.onlyObjects (l.foldl f e) := by
  induction l generalizing e with
  | nil => rfl
  | cons b l ih => exact Eng.onlyObjects_trans (hf e b) (ih _)

/-- Closing windows writes objects alone. -/
theorem Eng.calClose_onlyObjects (e : Eng) (x : Ctx) (mask : Nat) : e.onlyObjects (e.calClose x mask) := by
  unfold Eng.calClose
  refine Eng.onlyObjects_set (Eng.onlyObjects_pass (fun e p => ?_) _ _) _ _
  refine Eng.onlyObjects_ite (Eng.onlyObjects_pass (fun e i => ?_) _ _) (Eng.onlyObjects_refl _)
  exact Eng.onlyObjects_ite (Eng.onlyObjects_set (Eng.onlyObjects_set (Eng.onlyObjects_refl e) ..) ..) (Eng.onlyObjects_refl e)

section
variable {e : Eng} (x : Ctx) {mask : Nat}

theorem calOpenWrite_opens (h : e.portsOnly mask = true) : calOpenWrite x mask e = (stOk, e.calOpen x mask) := if_pos h

theorem calCloseWrite_closes (h : e.portsOnly mask = true) : calCloseWrite x mask e = (stOk, e.calClose x mask) := if_pos h

theorem calOpenWrite_noPort (h : e.portsOnly mask = false) : calOpenWrite x mask e = (stNoObject, e) := if_neg (Bool.eq_false_iff.1 h)

end

/-! ## The commands -/

section
variable {s : State} (hup : s.eng.up = true)

include hup

theorem exec_calItemWrite_stored {item : CalItem} {value : Int} {roles : Nat} (had : s.eng.admits (calKey item) value roles = true) :
    ∃ t, exec (.calItemWrite item value roles) s = .next t ∧ s.stored t [(calKey item, value), (calOrigin (calKey item), 1)] ∧
      t.eng.calWait.since.isSome = true ∧ s.eng.onlyObjects { t.eng with calWait := s.eng.calWait } := by
  have hbound : calItemNo item * 16 + calMember item < 65536 := by
    have hi := calItemNo_lt item
    have hm := calMember_lt item
    omega
  rw [calKey_eq] at had
  obtain ⟨t, ht, hans⟩ := lift_writeCmd_answers (op := fun x => calWrite x [(calKey item, value)]) hup (.inr rfl) hbound had
    (calWrite_item s.ctx item value s.eng0)
  rw [← calKey_eq] at ht
  refine ⟨t, (exec_calItemWrite ..).trans ht, ⟨hans.status, fun p hp => ?_, fun k hk hacc => ?_, hans.beside⟩, ?_,
    Eng.onlyObjects_calWait (Eng.setAll_onlyObjects s.onlyObjects_eng0 _) hans.rest⟩
  · exact (hans.obj _ (calValues_free item value p hp)).trans (Eng.setAll_i_mem _ _ (calValues_nodup item value) p hp)
  · exact (hans.obj k hacc).trans (Eng.setAll_i_other _ _ k hk)
  · rw [(congrArg Eng.calWait hans.rest :)]
    rfl

theorem exec_calStoreWrite_writes (hwait : s.eng.calWait.since.isSome = true) :
    ∃ t, exec .calStoreWrite s = .next t ∧ s.beside t ∧ t.eng.calWait.since = none ∧
      t.eng.flash = { s.eng.flash with calValues := s.eng.od.filter (fun p => isCalKey p.1), calBad := [false, false] } ∧
      t.eng.n Od.CAL_STORE.writes = (s.eng.n Od.CAL_STORE.writes + 1) % 2 ^ 32 ∧
      t.eng.n Od.CAL_STORE.last_write_tick = s.core.tick := by
  have hne : Od.CAL_STORE.writes ≠ Od.CAL_STORE.last_write_tick := by decide
  exact ⟨_, (exec_calStoreWrite s).trans (lift_whenDue (due := fun _ e => e.calWait.since.isSome) hup hwait), ⟨rfl, rfl, rfl⟩, rfl, rfl,
    (congrArg Int.toNat (Eng.set_i_other _ _ _ _ hne)).trans (Eng.inc32_n_same ..), congrArg Int.toNat (Eng.set_i_same ..)⟩

theorem exec_calCtrlOpen_opens {mask roles : Nat} (had : s.eng.admits Od.CAL_CTRL.open_ mask roles = true)
    (hports : s.eng.portsOnly mask = true) :
    ∃ t, exec (.calCtrlOpen mask roles) s = .next t ∧ s.accepted t ∧
      t.eng.n Od.CAL_CTRL.open_mask = s.eng.n Od.CAL_CTRL.open_mask ||| mask := by
  obtain ⟨t, ht, hans⟩ := lift_writeCmd_answers (op := fun x => calOpenWrite x mask) hup (.inr rfl) (by decide) had
    (calOpenWrite_opens (e := s.eng0) s.ctx hports)
  exact ⟨t, ht, ⟨hans.status, hans.beside⟩,
    (congrArg Int.toNat (hans.portObj (.inr rfl) (by decide))).trans (Eng.calOpen_mask s.eng0 s.ctx mask)⟩

theorem exec_calCtrlClose_closes {mask roles : Nat} (had : s.eng.admits Od.CAL_CTRL.close mask roles = true)
    (hports : s.eng.portsOnly mask = true) :
    ∃ t, exec (.calCtrlClose mask roles) s = .next t ∧ s.accepted t ∧ s.eng.onlyObjects t.eng ∧
      t.eng.n Od.CAL_CTRL.open_mask = clearBits (s.eng.n Od.CAL_CTRL.open_mask) mask := by
  obtain ⟨t, ht, hans⟩ := lift_writeCmd_answers (op := fun x => calCloseWrite x mask) hup (.inr rfl) (by decide) had
    (calCloseWrite_closes (e := s.eng0) s.ctx hports)
  exact ⟨t, ht, ⟨hans.status, hans.beside⟩,
    Eng.onlyObjects_trans (Eng.onlyObjects_trans s.onlyObjects_eng0 (s.eng0.calClose_onlyObjects s.ctx mask)) hans.rest,
    (congrArg Int.toNat (hans.portObj (.inr rfl) (by decide))).trans (Eng.calClose_mask s.eng0 s.ctx mask)⟩

theorem exec_calCtrlOpen_refused {mask roles : Nat} (had : s.eng.admits Od.CAL_CTRL.open_ mask roles = true)
    (hports : s.eng.portsOnly mask = false) :
    ∃ t, exec (.calCtrlOpen mask roles) s = .next t ∧ t.eng.resp.status = stNoObject ∧
      t.eng.n Od.CAL_CTRL.open_mask = s.eng.n Od.CAL_CTRL.open_mask ∧ s.eng.onlyObjects t.eng ∧ s.beside t := by
  obtain ⟨t, ht, hans⟩ := lift_writeCmd_answers (op := fun x => calOpenWrite x mask) hup (.inr rfl) (by decide) had
    (calOpenWrite_noPort (e := s.eng0) s.ctx hports)
  exact ⟨t, ht, hans.status, congrArg Int.toNat (hans.portObj (.inr rfl) (by decide)),
    Eng.onlyObjects_trans s.onlyObjects_eng0 hans.rest, hans.beside⟩

end

/-- Settles O34: a fault of a port's timestamps ends their validity and leaves the objects it does not name; an item's write is answered
beside its waiting store, and the windows' mask takes and gives up the ports of a write. -/
theorem echoesAndCalibrationAreKept : Obligations.EchoesAndCalibrationAreKept :=
  ⟨fun _ hup => ⟨fun _ ser closure loopback _ hport hlink => exec_alignmentMarkerRx_counts hup ser closure loopback hport hlink,
      fun _ timed ser error _ hport => exec_echoResult_counts hup timed ser error hport,
      fun _ _ _ hawait hdue => exec_echoMissing_faults hup hawait hdue⟩,
    fun _ _ hup => ⟨fun _ _ had => exec_calItemWrite_stored hup had, fun hwait => exec_calStoreWrite_writes hup hwait,
      fun _ had hports => exec_calCtrlOpen_opens hup had hports, fun _ had hports => exec_calCtrlClose_closes hup had hports,
      fun _ had hports => exec_calCtrlOpen_refused hup had hports⟩⟩

end Sys2Proof.Machine
end

section
/-! # What faults leave of the engines' objects and events (R147, R396 to R404)

The objects of a detection lie in areas 68 and 70, its events come from 0xB00 on: those of the engines before them are spared. -/

namespace Sys2Proof.Machine

/-- The objects before the counters' and the faults', and the events before those of the dictionary and the faults, are as they were. -/
structure Eng.FaultsAlone (e e' : Eng) : Prop where
  obj : ∀ j < 0x68 * 65536, e'.i j = e.i j
  seen : ∀ ev < 0xB00, e'.seen ev = e.seen ev

/-- The objects of the counters' area and the faults' come after those of the engines. -/
theorem le_odKey {area : Nat} (h : 0x68 ≤ area) (i m : Nat) : 0x68 * 65536 ≤ odKey area i m := by
  change _ ≤ area * 65536 + i * 16 + m
  omega

namespace Eng.FaultsAlone

variable {a b c e : Eng} {x : Ctx}

theorem refl (e : Eng) : Eng.FaultsAlone e e := ⟨fun _ _ => rfl, fun _ _ => rfl⟩

theorem trans (h : Eng.FaultsAlone a b) (h' : Eng.FaultsAlone b c) : Eng.FaultsAlone a c :=
  ⟨fun j hj => (h'.obj j hj).trans (h.obj j hj), fun ev hev => (h'.seen ev hev).trans (h.seen ev hev)⟩

/-- A change that leaves the objects and the counters. -/
theorem step (h : Eng.FaultsAlone a b) (ho : c.od = b.od) (hc : c.ctr = b.ctr) : Eng.FaultsAlone a c :=
  h.trans ⟨fun j _ => congrArg (sget · j) ho, fun ev _ => Eng.seen_of_ctr hc ev⟩

theorem set {area i m : Nat} (h : Eng.FaultsAlone a e) (harea : 0x68 ≤ area) (v : Int) :
    Eng.FaultsAlone a (e.set (odKey area i m) v) :=
  h.trans ⟨fun _ hj => Eng.set_i_other _ _ _ _ (Nat.ne_of_lt (Nat.lt_of_lt_of_le hj (le_odKey harea i m))), fun _ _ => rfl⟩

theorem count {ev : Nat} (h : Eng.FaultsAlone a e) (hev : 0xB00 ≤ ev) : Eng.FaultsAlone a (e.count x ev) :=
  h.trans ⟨fun _ hj => Eng.count_i _ _ _ _ (Nat.ne_of_lt (Nat.lt_of_lt_of_le hj (le_odKey (by decide) 3 3))),
    fun _ hj => (Eng.seen_count ..).trans (if_neg (by omega))⟩

theorem irqPoke (h : Eng.FaultsAlone a e) (n : Nat) : Eng.FaultsAlone a (e.irqPoke x n) :=
  h.step (Eng.irqPoke_od ..) (Eng.irqPoke_ctr ..)

theorem ite {p : Prop} [Decidable p] (hb : Eng.FaultsAlone a b) (hc : Eng.FaultsAlone a c) : Eng.FaultsAlone a (if p then b else c) := by
  split
  · exact hb
  · exact hc

theorem fillFirst (h : Eng.FaultsAlone a e) (d : Detection) (same extra prior : Nat) :
    Eng.FaultsAlone a (e.fillFirst x d same extra prior) := by
  have h70 : 0x68 ≤ 0x70 := by decide
  unfold Eng.fillFirst
  exact (((((((((h.set h70 _).set h70 _).set h70 _).set h70 _).set h70 _).set h70 _).set h70 _).set h70 _).set h70 _).set h70 _

theorem recordFirst (h : Eng.FaultsAlone a e) (d : Detection) : Eng.FaultsAlone a (e.recordFirst x d) := by
  have h70 : 0x68 ≤ 0x70 := by decide
  unfold Eng.recordFirst
  exact .ite (h.fillFirst d ..) (.ite (.ite (h.fillFirst d ..) (.ite (h.set h70 _) (h.set h70 _)))
    (.ite ((h.set h70 _).fillFirst d ..) (h.set h70 _)))

theorem countDetection (h : Eng.FaultsAlone a e) (d : Detection) : Eng.FaultsAlone a (e.countDetection x d) := by
  have h70 : 0x68 ≤ 0x70 := by decide
  unfold Eng.countDetection
  extract_lets e1 e2
  have h1 : Eng.FaultsAlone a e1 := by
    unfold e1
    split
    · exact (h.set h70 _).count (by decide)
    · exact (h.set h70 _).count (by decide)
    · exact h
  have h2 : Eng.FaultsAlone a e2 := .ite ((h1.set h70 _).set h70 _) h1
  exact .ite ((h2.set h70 _).set h70 _) h2

theorem notify (h : Eng.FaultsAlone a e) (event : Nat) (extra : Bytes) : Eng.FaultsAlone a (e.notify x event extra) := by
  have hseg (s : Segment) : Eng.FaultsAlone a { e with seg := s } := h.step rfl rfl
  unfold Eng.notify Eng.publish
  refine .ite h ?_
  split
  · exact h.count (by decide)
  · exact .ite ((hseg _).count (by decide)) ((hseg _).count (by decide))

/-- The Eclipse rails and the end of the linger lie in the fault system. -/
theorem rails (h : Eng.FaultsAlone a e) (r : EclReason) (p q s t b : Nat) :
    Eng.FaultsAlone a ((e.railChange x r p q s t).endLinger b) := by
  refine h.step ((Eng.endLinger_frame _ _).1.trans (Eng.railChange_frame ..).1) ?_
  unfold Eng.endLinger Eng.railChange
  repeat' split
  all_goals rfl

theorem raise (h : Eng.FaultsAlone a e) (d : Detection) : Eng.FaultsAlone a (e.raise x d) := by
  have hflt (f : Faults) : Eng.FaultsAlone a { e with flt := f } := h.step rfl rfl
  have hlatch : Eng.FaultsAlone a (e.latchDetection x d) := by
    unfold Eng.latchDetection
    exact (hflt _).set (by decide) _
  have hrecord := (hlatch.countDetection (x := x) d).recordFirst (x := x) d
  unfold Eng.raise
  extract_lets e1 e2 had e3 took e4 e5
  have h4 : Eng.FaultsAlone a e4 := .ite hrecord (hrecord.irqPoke _)
  have h5 : Eng.FaultsAlone a e5 := .ite (h4.notify ..) h4
  exact .ite (h5.rails ..) h5

theorem detect (h : Eng.FaultsAlone a e) (b row inst : Nat) : Eng.FaultsAlone a (e.detect x b row inst) := h.raise _

theorem condOn (h : Eng.FaultsAlone a e) (b row inst : Nat) : Eng.FaultsAlone a (e.condOn x b row inst) := .ite h (h.raise _)

theorem condOff (h : Eng.FaultsAlone a e) (b row inst : Nat) : Eng.FaultsAlone a (e.condOff x b row inst) :=
  have hconds (f : Faults) : Eng.FaultsAlone a { e with flt := f } := h.step rfl rfl
  .ite (.ite ((hconds _).set (by decide) _) (hconds _)) h

end Eng.FaultsAlone

end Sys2Proof.Machine
end

section
/-! # The intake of a pipe (R129 to R147)

What a pipe takes in stands in its queue, its accept slot and the count of the requests it accepted. Of the steps of Table 6-3 none
touches these: their outcomes are other events of the pipe, and what they change of it is its failures and its budget. -/

namespace Sys2Proof.Machine

/-! ## The pipes -/

section
variable {e : Eng} {p : Nat}

theorem Eng.modPipe_pipe (e : Eng) (p q : Nat) (f : Pipe → Pipe) :
    (e.modPipe p f).pipe q = if q = p ∧ q < e.ans.pipes.length then f (e.pipe q) else e.pipe q := nth_modNth ..

/-- A pipe that is not as at reset is one of the list. -/
theorem Eng.pipe_lt (h : e.pipe p ≠ Pipe.atReset) : p < e.ans.pipes.length :=
  Nat.lt_of_not_le fun hle => h (List.getD_eq_default _ _ hle)

theorem Eng.modPipe_pipe_same (h : p < e.ans.pipes.length) (f : Pipe → Pipe) : (e.modPipe p f).pipe p = f (e.pipe p) :=
  (e.modPipe_pipe p p f).trans (if_pos ⟨rfl, h⟩)

theorem Eng.pipe_of_ans {e' : Eng} (h : e'.ans = e.ans) (p : Nat) : e'.pipe p = e.pipe p :=
  congrArg (fun a : Answer => nth a.pipes p Pipe.atReset) h

end

/-! ## Changes that leave a pipe's intake -/

/-- The queue, the accept slot and the count of accepted requests of a pipe are as they were. -/
structure Eng.IntakeKept (pipe : Nat) (e e' : Eng) : Prop where
  queue : (e'.pipe pipe).queue = (e.pipe pipe).queue
  slotUsed : (e'.pipe pipe).slotUsed = (e.pipe pipe).slotUsed
  seen : e'.seen (0x804 + 16 * pipe) = e.seen (0x804 + 16 * pipe)

namespace Eng.IntakeKept

section
variable {pipe : Nat} {a b c e : Eng} {x : Ctx}

theorem refl (pipe : Nat) (e : Eng) : Eng.IntakeKept pipe e e := ⟨rfl, rfl, rfl⟩

theorem trans (h : Eng.IntakeKept pipe a b) (h' : Eng.IntakeKept pipe b c) : Eng.IntakeKept pipe a c :=
  ⟨h'.queue.trans h.queue, h'.slotUsed.trans h.slotUsed, h'.seen.trans h.seen⟩

/-- A change that leaves the pipes and the counters. -/
theorem step (h : Eng.IntakeKept pipe a b) (hp : c.ans.pipes = b.ans.pipes) (hc : c.ctr = b.ctr) : Eng.IntakeKept pipe a c := by
  have hpipe : c.pipe pipe = b.pipe pipe := congrArg (nth · pipe Pipe.atReset) hp
  exact h.trans ⟨congrArg Pipe.queue hpipe, congrArg Pipe.slotUsed hpipe, Eng.seen_of_ctr hc _⟩

theorem countN {ev : Nat} (h : Eng.IntakeKept pipe a e) (hev : 0x804 + 16 * pipe ≠ ev) (n : Nat) :
    Eng.IntakeKept pipe a (e.countN x ev n) := by
  have hpipe : (e.countN x ev n).pipe pipe = e.pipe pipe := Eng.pipe_of_ans (Eng.countN_ans ..) pipe
  exact h.trans ⟨congrArg Pipe.queue hpipe, congrArg Pipe.slotUsed hpipe, (Eng.seen_countN ..).trans (if_neg hev)⟩

theorem count {ev : Nat} (h : Eng.IntakeKept pipe a e) (hev : 0x804 + 16 * pipe ≠ ev) : Eng.IntakeKept pipe a (e.count x ev) :=
  h.countN hev 1

theorem set (h : Eng.IntakeKept pipe a e) (k : Key) (v : Int) : Eng.IntakeKept pipe a (e.set k v) := h.step rfl rfl

theorem inc32 (h : Eng.IntakeKept pipe a e) (k : Key) : Eng.IntakeKept pipe a (e.inc32 k) := h.step rfl rfl

theorem inc64 (h : Eng.IntakeKept pipe a e) (k : Key) : Eng.IntakeKept pipe a (e.inc64 k) := h.step rfl rfl

theorem orb (h : Eng.IntakeKept pipe a e) (k : Key) (m : Nat) : Eng.IntakeKept pipe a (e.orb k m) := h.step rfl rfl

theorem ite {p : Prop} [Decidable p] (hb : Eng.IntakeKept pipe a b) (hc : Eng.IntakeKept pipe a c) :
    Eng.IntakeKept pipe a (if p then b else c) := by
  split
  · exact hb
  · exact hc

/-- A change of a pipe that leaves its queue and its accept slot. -/
theorem modPipe (h : Eng.IntakeKept pipe a e) (p : Nat) {f : Pipe → Pipe} (hq : ∀ s, (f s).queue = s.queue)
    (hs : ∀ s, (f s).slotUsed = s.slotUsed) : Eng.IntakeKept pipe a (e.modPipe p f) := by
  refine h.trans ⟨?_, ?_, rfl⟩
  · rw [Eng.modPipe_pipe, apply_ite Pipe.queue, hq, ite_self]
  · rw [Eng.modPipe_pipe, apply_ite Pipe.slotUsed, hs, ite_self]

/-- What every engine shares is no pipe: a quiet change that spares the pipes' events. -/
theorem quiet (h : Eng.IntakeKept pipe a b) (hpipe : pipe < 16) (hq : b.quiet c) (hf : Eng.FaultsAlone b c) :
    Eng.IntakeKept pipe a c :=
  have hp := Eng.pipe_of_ans (Eng.quiet_ans hq) pipe
  h.trans ⟨congrArg Pipe.queue hp, congrArg Pipe.slotUsed hp, hf.seen _ (by omega)⟩

end

/-! ## Buckets and cookies -/

section
variable {pipe : Nat} {a e : Eng} {x : Ctx}

theorem setBucket (h : Eng.IntakeKept pipe a e) (i : Nat) (b : Bucket) : Eng.IntakeKept pipe a (e.setBucket i b) := h.step rfl rfl

theorem charge (h : Eng.IntakeKept pipe a e) (p key : Nat) : Eng.IntakeKept pipe a (e.charge x p key).2 := by
  unfold Eng.charge
  extract_lets i tag held e1 b
  clear_value held
  have h1 : Eng.IntakeKept pipe a e1 := by
    unfold e1
    split
    · exact .ite h ((h.inc32 _).orb _ _)
    · exact h
  split
  · exact h1.setBucket ..
  · exact (h1.setBucket ..).orb _ _

theorem takeKod (h : Eng.IntakeKept pipe a e) (p key : Nat) : Eng.IntakeKept pipe a (e.takeKod p key).2 := by
  unfold Eng.takeKod
  dsimp only
  split
  · exact h.setBucket ..
  · exact h

theorem ntsCount (h : Eng.IntakeKept pipe a e) (c : NtsCause) : Eng.IntakeKept pipe a (e.ntsCount c) := by
  unfold Eng.ntsCount
  split <;> exact (h.inc64 _).orb _ _

/-- The checks of an NTS request commit its work to a pipe's budget. -/
theorem ntsCheck (h : Eng.IntakeKept pipe a e) (p rx : Nat) (pl : Bytes) : Eng.IntakeKept pipe a (e.ntsCheck x p rx pl).2 := by
  unfold Eng.ntsCheck
  split
  · exact h
  · dsimp only
    split
    · exact h
    · split
      · exact h
      · split
        · exact h
        · exact h.modPipe p (fun _ => rfl) fun _ => rfl

theorem sealCookies (rx slot : Nat) (keys : Bytes) (n : Nat) (h : Eng.IntakeKept pipe a e) :
    Eng.IntakeKept pipe a (e.sealCookies rx slot keys n).2 := by
  induction n generalizing e with
  | zero => exact h
  | succ n ih => exact ih (h.step rfl rfl)

theorem ntsResponse (h : Eng.IntakeKept pipe a e) (rx : Nat) (header : Bytes) (q : NtsReq) (keys : Bytes) :
    Eng.IntakeKept pipe a (e.ntsResponse rx header q keys).2 :=
  (h.sealCookies ..).step rfl rfl

end

/-! ## Outcomes (Table 6-3) -/

section
variable {pipe : Fin 16} {a e : Eng} {x : Ctx} (h : Eng.IntakeKept pipe a e)

include h

theorem slotCount {k : Nat} (hk : k ≠ 4) : Eng.IntakeKept pipe a (e.slotCount x pipe k) := h.count (by omega)

theorem ansDropped (rule : Nat) {k : Nat} (hk : k ≠ 4) : Eng.IntakeKept pipe a (e.ansDropped x pipe rule k) :=
  ((h.slotCount hk).inc64 _).inc64 _

/-- The departures' events come after the pipes' (R164). -/
theorem depCount (p k : Nat) : Eng.IntakeKept pipe a (e.depCount x p k) := h.count (by omega)

theorem depMiss (p k : Nat) : Eng.IntakeKept pipe a (e.depMiss x p k) :=
  ((((h.depCount p k).inc64 _).set _ _).set _ _).orb _ _

theorem reserve (p : Nat) (g : GridPoint) (frame : Bytes) (prio : Nat) (host : Bool) (o : ResvOrigin) :
    Eng.IntakeKept pipe a (e.reserve x p g frame prio host o) :=
  ((h.step (c := e.modCal p _) rfl rfl).set _ _).depCount ..

theorem withdraw (p block : Nat) : Eng.IntakeKept pipe a (e.withdraw x p block) := (h.step (c := e.modCal p _) rfl rfl).depCount ..

theorem detect (b row inst : Nat) : Eng.IntakeKept pipe a (e.detect x b row inst) :=
  h.quiet pipe.isLt (Eng.quiet_detect (Eng.quiet_refl e) ..) ((Eng.FaultsAlone.refl e).detect ..)

/-- Of sixteen consecutive events a pipe's fifth counts what it accepts. -/
theorem portCount (p : Nat) {off : Nat} (hoff : off % 16 ≠ 4) : Eng.IntakeKept pipe a (e.portCount x p off) := h.count (by omega)

theorem modPort (p : Nat) (f : Port → Port) : Eng.IntakeKept pipe a (e.modPort p f) := h.step rfl rfl

theorem sendPause (p quanta : Nat) : Eng.IntakeKept pipe a (e.sendPause x p quanta) := by
  have hsent (o : Output) : Eng.IntakeKept pipe a (((e.emit o).portCount x p 16).countN x (32 * p + 17) 64) :=
    have hout : Eng.IntakeKept pipe a (e.emit o) := h.step rfl rfl
    (hout.portCount p (by decide)).countN (by omega) 64
  have hkind (c : Prop) [Decidable c] : (if c then 19 else 18) % 16 ≠ 4 := by split <;> decide
  unfold Eng.sendPause
  exact .ite (((hsent _).portCount p (hkind _)).modPort ..) (h.modPort ..)

theorem hold (p : Nat) (f : HeldFrame) : Eng.IntakeKept pipe a (e.hold x p f) := by
  unfold Eng.hold
  exact .ite ((h.inc64 _).orb _ _) (.ite ((h.modPort ..).sendPause ..) (h.modPort ..))

theorem punt (v : AnsView) (r : AnsRule) (cause : Nat) : Eng.IntakeKept pipe a (e.punt x pipe v r cause) :=
  (((h.slotCount (by decide)).inc64 _).inc64 _).hold ..

theorem dropOrHost (v : AnsView) (r : AnsRule) (host : Bool) (cause : Nat) :
    Eng.IntakeKept pipe a (e.dropOrHost x pipe v r host cause) :=
  .ite (h.punt ..) (h.ansDropped _ (by decide))

/-! ## Answers (steps 10 to 12) -/

/-- A frame that fails its check counts its failure in its pipe, and may take the pipe out of service (R144). -/
theorem placeAndBuild (v : AnsView) (r : AnsRule) (kind : AnsKind) (payloadLen : Nat) (grid : List GridPoint) (crcFail : Bool)
    {build : Nat → Eng → Option (Bytes × Eng)}
    (hbuild : ∀ t pl e', build t e = some (pl, e') → Eng.IntakeKept pipe a e') :
    Eng.IntakeKept pipe a (e.placeAndBuild x pipe v r kind payloadLen grid crcFail build) := by
  unfold Eng.placeAndBuild
  extract_lets prio len
  split
  · exact (h.depMiss ..).ansDropped _ (by decide)
  · split
    · exact ((h.reserve ..).withdraw ..).ansDropped _ (by decide)
    next hb =>
      extract_lets placed dropped failed ticks ticked
      have hplaced : Eng.IntakeKept pipe a placed := (hbuild _ _ _ hb).reserve ..
      refine .ite ?_ hplaced
      have hdropped : Eng.IntakeKept pipe a dropped := (hplaced.withdraw ..).ansDropped _ (by decide)
      have hfailed : Eng.IntakeKept pipe a failed := ((hdropped.inc32 _).orb _ _).detect ..
      have hticked : Eng.IntakeKept pipe a ticked := hfailed.modPipe pipe (fun _ => rfl) fun _ => rfl
      exact .ite ((hticked.set _ _).orb _ _) hticked

theorem answerPlain (v : AnsView) (r : AnsRule) (grid : List GridPoint) (crcFail : Bool) :
    Eng.IntakeKept pipe a (e.answerPlain x pipe v r grid crcFail) :=
  h.placeAndBuild v r _ _ grid crcFail fun t pl e' hb => by
    split at hb <;> cases hb
    exact h

theorem answerNts (v : AnsView) (r : AnsRule) (q : NtsReq) (keys : Bytes) (grid : List GridPoint) (crcFail : Bool) :
    Eng.IntakeKept pipe a (e.answerNts x pipe v r q keys grid crcFail) :=
  h.placeAndBuild v r _ _ grid crcFail fun t pl e' hb => by
    split at hb <;> cases hb
    exact h.ntsResponse v.q.rxLin (e.ntpHeader v r t) q keys

theorem answerNak (v : AnsView) (r : AnsRule) (uid : Bytes) (grid : List GridPoint) (crcFail : Bool) :
    Eng.IntakeKept pipe a (e.answerNak x pipe v r uid grid crcFail) := by
  unfold Eng.answerNak
  extract_lets t poll
  have ht : Eng.IntakeKept pipe a t.2 := by
    unfold t
    split
    · exact h
    · split
      · exact h
      · exact h.takeKod ..
  refine .ite ?_ (ht.ansDropped _ (by decide))
  exact (ht.inc64 _).placeAndBuild v r _ _ grid crcFail fun _ _ _ hb => by
    cases hb
    exact ht.inc64 _

theorem overLimit (v : AnsView) (r : AnsRule) (grid : List GridPoint) (crcFail : Bool) :
    Eng.IntakeKept pipe a (e.overLimit x pipe v r grid crcFail) := by
  unfold Eng.overLimit
  extract_lets vn may t
  have ht : Eng.IntakeKept pipe a t.2 := by
    unfold t
    split
    · exact h.takeKod ..
    · exact h
  refine .ite ?_ (ht.ansDropped _ (by decide))
  exact ht.placeAndBuild v r _ _ grid crcFail fun _ _ _ hb => by
    cases hb
    exact ht

/-! ## The steps of Table 6-3 -/

theorem ansNts (v : AnsView) (r : AnsRule) (grid : List GridPoint) (crcFail : Bool) :
    Eng.IntakeKept pipe a (e.ansNts x pipe v r grid crcFail) := by
  have hchecked := h.ntsCheck (x := x) pipe v.q.rxLin v.pl
  unfold Eng.ansNts
  refine .ite (h.ansDropped _ (by decide)) ?_
  extract_lets o
  split
  · exact ((hchecked.inc64 _).inc64 _).answerNts ..
  next c _ =>
    have hcounted := hchecked.ntsCount c
    exact .ite (hcounted.dropOrHost ..) (.ite (hcounted.answerNak ..) (hcounted.ansDropped _ (by decide)))

theorem ansProtocol (v : AnsView) (r : AnsRule) (grid : List GridPoint) (crcFail : Bool) :
    Eng.IntakeKept pipe a (e.ansProtocol x pipe v r grid crcFail) := by
  unfold Eng.ansProtocol
  extract_lets nts extras moonOn plain byExt
  have hplain : Eng.IntakeKept pipe a (plain e) := .ite (h.answerPlain ..) (h.ansDropped _ (by decide))
  have hext (cause : Nat) : Eng.IntakeKept pipe a (byExt e cause) := by
    unfold byExt
    split
    · exact hplain
    · exact h.dropOrHost ..
  exact .ite (hext _) (.ite (.ite (h.ansNts ..) (h.ansDropped _ (by decide)))
    (.ite (h.dropOrHost ..) (.ite (hext _) hplain)))

theorem ansMode (v : AnsView) (r : AnsRule) (grid : List GridPoint) (crcFail : Bool) :
    Eng.IntakeKept pipe a (e.ansMode x pipe v r grid crcFail) := by
  unfold Eng.ansMode
  exact .ite (h.dropOrHost ..) (.ite (h.dropOrHost ..) (.ite (h.ansDropped _ (by decide)) (h.ansProtocol ..)))

/-- No step of Table 6-3 touches the intake of the pipe. -/
theorem answer (q : AnsReq) (grid : List GridPoint) (crcFail : Bool) : Eng.IntakeKept pipe a (e.answer x pipe q grid crcFail) := by
  have hdrop {k : Nat} (hk : k ≠ 4) := h.ansDropped (x := x) q.rule hk
  unfold Eng.answer
  dsimp only
  refine .ite (hdrop (by decide)) (.ite (hdrop (by decide)) (.ite (hdrop (by decide)) (.ite (hdrop (by decide))
    (.ite (hdrop (by decide)) (.ite (h.ansMode ..) ?_)))))
  exact .ite ((h.charge ..).ansMode ..) ((h.charge ..).overLimit ..)

end

end Eng.IntakeKept

end Sys2Proof.Machine
end

section
/-! # The pipes at work, and the settling of O35 (R130, R133, R138, R145 to R147) -/

namespace Sys2Proof.Machine

/-! ## The objects of a pipe (Table 6-10) -/

/-- An object of the answer engine comes before those of the counters and the faults. -/
theorem ansKey_lt {i m : Nat} (h : i * 16 + m < 65536) : odKey 0x40 i m < 0x68 * 65536 := by
  change 0x40 * 65536 + i * 16 + m < _
  omega

theorem pipeKey_ne (p m m' : Nat) (h : m ≠ m') : odKey 0x40 (0x200 + p) m ≠ odKey 0x40 (0x200 + p) m' := (odKey_injective _ _).ne h

/-- No object of a pipe is one of the engine's status. -/
theorem pipeKey_ne_status {p m n : Nat} (hm : m < 16) (hn : n < 16) : odKey 0x40 (0x200 + p) m ≠ odKey 0x40 0x002 n :=
  odKey_ne (by omega)

/-! ## The pipes shown (R148) -/

section
variable (e : Eng) (x : Ctx)

theorem Eng.pipesShown_faults : Eng.FaultsAlone (e.set Od.ANS_STATUS.pipes_in_service
    ((List.range 16).foldl (fun m p => if e.b (Od.PIPE.in_service p) then m + 2 ^ p else m) 0 : Nat)) (e.pipesShown x) :=
  .ite ((Eng.FaultsAlone.refl _).condOn ..) ((Eng.FaultsAlone.refl _).condOff ..)

/-- Of the engines' objects the pipes' display names one. -/
theorem Eng.pipesShown_i {j : Key} (hj : j < 0x68 * 65536) (hne : j ≠ Od.ANS_STATUS.pipes_in_service) : (e.pipesShown x).i j = e.i j :=
  ((e.pipesShown_faults x).obj j hj).trans (Eng.set_i_other _ _ _ _ hne)

theorem Eng.pipesShown_ans : (e.pipesShown x).ans = e.ans := e.pipesShown_keeps x (φ := .ans)

theorem Eng.IntakeKept.pipesShown {a e : Eng} {p : Nat} (h : Eng.IntakeKept p a e) (hp : p < 16) :
    Eng.IntakeKept p a (e.pipesShown x) := by
  have hpipe := Eng.pipe_of_ans (e.pipesShown_ans x) p
  exact h.trans ⟨congrArg Pipe.queue hpipe, congrArg Pipe.slotUsed hpipe, (e.pipesShown_faults x).seen _ (by omega)⟩

end

/-! ## A request taken (R130, R133) -/

/-- A pipe takes the request before `rest`: its slot is used, which counts. -/
def Eng.taken (e : Eng) (x : Ctx) (p : Nat) (rest : List AnsReq) : Eng :=
  (e.modPipe p (fun s => { s with queue := rest, slotUsed := true })).slotCount x p 4

section
variable {e : Eng} (x : Ctx) {p : Nat} {q : AnsReq} {rest : List AnsReq}

theorem Eng.accept_eq (grid : List GridPoint) (crcFail : Bool) (h : (e.pipe p).queue = q :: rest) :
    e.accept x p grid crcFail = (e.taken x p rest).answer x p q grid crcFail := by
  unfold Eng.accept
  rw [h]
  rfl

theorem Eng.taken_pipe (h : (e.pipe p).queue = q :: rest) :
    (e.taken x p rest).pipe p = { e.pipe p with queue := rest, slotUsed := true } := by
  have hlen : p < e.ans.pipes.length := Eng.pipe_lt fun hreset => by
    rw [hreset] at h
    cases h
  exact (Eng.pipe_of_ans (Eng.count_ans ..) p).trans (Eng.modPipe_pipe_same hlen _)

theorem Eng.taken_seen : (e.taken x p rest).seen (0x804 + 16 * p) = (e.seen (0x804 + 16 * p) + 1) % 2 ^ 48 := by
  rw [show 0x804 + 16 * p = 0x800 + 16 * p + 4 by omega]
  exact Eng.seen_count_same ..

/-- The outcome of a request in Eclipse outside the linger (R138). -/
theorem Eng.answer_eclipse (pipe : Nat) (grid : List GridPoint) (crcFail : Bool) (he : e.flt.eclipse = true)
    (hl : e.flt.lingering = false) : e.answer x pipe q grid crcFail = e.ansDropped x pipe q.rule 13 :=
  if_pos (by rw [he, hl]; rfl)

theorem Eng.ansDropped_dropped (pipe rule k : Nat) :
    (e.ansDropped x pipe rule k).n Od.ANS_STATUS.dropped = (e.n Od.ANS_STATUS.dropped + 1) % 2 ^ 64 := by
  have hrule : Od.ANS_STATUS.dropped ≠ Od.ANS_RULE_STATS.dropped rule := odKey_ne (by omega)
  have hcount : (e.slotCount x pipe k).n Od.ANS_STATUS.dropped = e.n Od.ANS_STATUS.dropped :=
    congrArg Int.toNat (Eng.count_i _ _ _ _ (odKey_ne (by decide)))
  rw [← hcount]
  exact congrArg Int.toNat ((Eng.set_i_other _ _ _ _ hrule).trans ((Eng.inc64_i ..).trans (if_pos rfl)))

end

/-! ## The checker's verdict (R145) -/

/-- A pipe has failed a check at a tick: it is out of service, and shows one more failure and the tick. -/
def Eng.PipeFailed (p tick : Nat) (e e' : Eng) : Prop :=
  e'.i (Od.PIPE.in_service p) = 0 ∧ e'.n (Od.PIPE.check_fail p) = (e.n (Od.PIPE.check_fail p) + 1) % 2 ^ 32 ∧
  e'.n (Od.PIPE.last_fail_tick p) = tick

/-- What a failed check notes in its pipe before the fault is raised. -/
def Eng.failNoted (e : Eng) (x : Ctx) (p : Nat) : Eng :=
  (((e.inc32 (Od.PIPE.check_fail p)).set (Od.PIPE.last_fail_tick p) x.tick).set (Od.PIPE.in_service p) 0).orb Od.ANS_STATUS.sticky 20

section
variable (e : Eng) (x : Ctx) {p : Nat}

/-- Of a pipe's objects a failed check names its service, its failures and their tick. -/
theorem Eng.failNoted_i {m : Nat} (hm : m < 16) : (e.failNoted x p).i (odKey 0x40 (0x200 + p) m) =
    if m = 1 then 0 else if m = 6 then (x.tick : Int) else if m = 4 then (((e.n (Od.PIPE.check_fail p) + 1) % 2 ^ 32 : Nat) : Int)
      else e.i (odKey 0x40 (0x200 + p) m) := by
  have hset (k v) (e : Eng) : (e.set (odKey 0x40 (0x200 + p) k) v).i (odKey 0x40 (0x200 + p) m) =
      if m = k then v else e.i (odKey 0x40 (0x200 + p) m) :=
    (Eng.set_i ..).trans (if_congr (odKey_injective _ _).eq_iff rfl rfl)
  refine (Eng.set_i_other _ _ _ _ (pipeKey_ne_status hm (by decide))).trans ((hset ..).trans ?_)
  rw [Od.PIPE.last_fail_tick, hset]
  exact congrArg _ (congrArg _ (hset ..))

theorem Eng.checkFail_i {m : Nat} (hp : p < 16) (hm : m < 16) :
    (e.checkFail x p).i (odKey 0x40 (0x200 + p) m) = (e.failNoted x p).i (odKey 0x40 (0x200 + p) m) :=
  (Eng.pipesShown_i _ x (ansKey_lt (by omega)) (pipeKey_ne_status hm (by decide))).trans
    (((Eng.FaultsAlone.refl (e.failNoted x p)).detect 5 5 p).obj _ (ansKey_lt (by omega)))

/-- A comparison that agrees has no effect of its own; one that disagrees fails its pipe. -/
def Eng.verdict (e : Eng) (x : Ctx) (p : Nat) (agrees : Bool) : Eng := if agrees then e else e.checkFail x p

theorem Eng.verdict_ans (agrees : Bool) : (e.verdict x p agrees).ans = e.ans := by
  unfold Eng.verdict
  split
  · rfl
  · exact e.checkFail_keeps x p (φ := .ans)

/-- A verdict after a check that is counted: a disagreement takes the pipe out of service, and is counted with its tick. -/
theorem Eng.verdict_after {a : Eng} (hp : p < 16) (agrees : Bool)
    (hchecks : e.n (Od.PIPE.checks p) = (a.n (Od.PIPE.checks p) + 1) % 2 ^ 32)
    (hfail : e.n (Od.PIPE.check_fail p) = a.n (Od.PIPE.check_fail p)) :
    (e.verdict x p agrees).n (Od.PIPE.checks p) = (a.n (Od.PIPE.checks p) + 1) % 2 ^ 32 ∧
    (agrees = false → a.PipeFailed p x.tick (e.verdict x p agrees)) := by
  have hnoted {m : Nat} (hm : m < 16) := (e.checkFail_i x hp hm).trans (e.failNoted_i x hm)
  rw [← hchecks]
  cases agrees with
  | true => exact ⟨rfl, fun h => nomatch h⟩
  | false =>
    refine ⟨congrArg Int.toNat (hnoted (m := 3) (by decide)), fun _ => ?_⟩
    unfold Eng.PipeFailed
    rw [← hfail]
    exact ⟨hnoted (by decide), congrArg Int.toNat (hnoted (by decide)), congrArg Int.toNat (hnoted (by decide))⟩

end

/-! ## Comparisons and probes (R145) -/

/-- A sampled response is compared: one check of its pipe, which awaits one fewer. -/
def Eng.compared (e : Eng) (x : Ctx) (p : Nat) : Eng :=
  ((e.modPipe p (fun s => { s with toCheck := s.toCheck - 1 })).inc32 (Od.PIPE.checks p)).slotCount x p 15

/-- A probe takes its pipe's slot: one check of the pipe. -/
def Eng.probed (e : Eng) (x : Ctx) (p : Nat) : Eng :=
  ((e.modPipe p (fun s => { s with slotUsed := true, probeFirst := false, lastSample := x.tick })).slotCount x p 2).inc32 (Od.PIPE.checks p)

theorem Eng.checkCompare_eq (e : Eng) (x : Ctx) (p : Nat) (agrees : Bool) :
    e.checkCompare x p agrees = (e.compared x p).verdict x p agrees := rfl

theorem Eng.probe_eq (e : Eng) (x : Ctx) (p : Nat) (agrees : Bool) : e.probe x p agrees = (e.probed x p).verdict x p agrees := rfl

section
variable (e : Eng) (x : Ctx) {p : Nat} (hp : p < 16)

include hp

theorem Eng.slotCount_pipeKey (k : Nat) {m : Nat} (hm : m < 16) :
    (e.slotCount x p k).i (odKey 0x40 (0x200 + p) m) = e.i (odKey 0x40 (0x200 + p) m) := Eng.count_i _ _ _ _ (odKey_ne (by omega))

theorem Eng.compared_counts : (e.compared x p).n (Od.PIPE.checks p) = (e.n (Od.PIPE.checks p) + 1) % 2 ^ 32 ∧
    (e.compared x p).n (Od.PIPE.check_fail p) = e.n (Od.PIPE.check_fail p) :=
  ⟨(congrArg Int.toNat (Eng.slotCount_pipeKey _ x hp 15 (by decide))).trans (Eng.inc32_n_same ..),
    congrArg Int.toNat ((Eng.slotCount_pipeKey _ x hp 15 (by decide)).trans (Eng.set_i_other _ _ _ _ (pipeKey_ne p 4 3 (by decide))))⟩

theorem Eng.probed_counts : (e.probed x p).n (Od.PIPE.checks p) = (e.n (Od.PIPE.checks p) + 1) % 2 ^ 32 ∧
    (e.probed x p).n (Od.PIPE.check_fail p) = e.n (Od.PIPE.check_fail p) := by
  have hslot {m : Nat} (hm : m < 16) := Eng.slotCount_pipeKey
    (e.modPipe p (fun s => { s with slotUsed := true, probeFirst := false, lastSample := x.tick })) x hp 2 hm
  exact ⟨(Eng.inc32_n_same ..).trans (congrArg (fun v : Int => (v.toNat + 1) % 2 ^ 32) (hslot (m := 3) (by decide))),
    congrArg Int.toNat ((Eng.set_i_other _ _ _ _ (pipeKey_ne p 4 3 (by decide))).trans (hslot (by decide)))⟩

end

theorem Eng.compared_toCheck (e : Eng) (x : Ctx) {p : Nat} (h : 0 < (e.pipe p).toCheck) :
    ((e.compared x p).pipe p).toCheck = (e.pipe p).toCheck - 1 := by
  have hlen : p < e.ans.pipes.length := Eng.pipe_lt fun hreset => by
    rw [hreset] at h
    cases h
  have hpipe : (e.compared x p).pipe p = (e.modPipe p (fun s => { s with toCheck := s.toCheck - 1 })).pipe p :=
    Eng.pipe_of_ans (Eng.count_ans ..) p
  rw [hpipe, Eng.modPipe_pipe_same hlen]

/-! ## The commands -/

/-- A command's admitted write that its chapter accepts answers OK beside what the chapter does. -/
theorem lift_writeCmd_answersOk {s : State} {k : Key} {v : Int} {roles : Nat} {op : Ctx → Eng → WriteRes} {e : Eng}
    (hu : s.eng.up = true) (had : s.eng.admits k v roles = true) (ho : op s.ctx s.eng0 = (stOk, e)) :
    ∃ t, lift (fun x e => e.writeCmd x k v roles (op x)) s = .next t ∧ s.Answers stOk e t := by
  obtain ⟨p, hp⟩ := Eng.writeCmd_ok (e := s.eng0) (k := k) (v := v) (roles := roles) s.ctx had ho
  refine ⟨_, lift_up hu _, ?_⟩
  rw [hp]
  exact s.answers_account stOk e p

section
variable {s : State} {pipe : Fin 16} (hup : s.eng.up = true)

include hup

theorem exec_answerRequest_takes {grid : List GridPoint} {crcFail : Bool} {q : AnsReq} {rest : List AnsReq}
    (hmay : s.eng.mayAccept pipe = true) (hqueue : (s.eng.pipe pipe).queue = q :: rest) :
    ∃ t, exec (.answerRequest pipe grid crcFail) s = .next t ∧ s.beside t ∧ (t.eng.pipe pipe).queue = rest ∧
      (t.eng.pipe pipe).slotUsed = true ∧
      t.eng.seen (0x804 + 16 * pipe) = (s.eng.seen (0x804 + 16 * pipe) + 1) % 2 ^ 48 ∧
      (s.eng.flt.eclipse = true → s.eng.flt.lingering = false →
        t.eng.n Od.ANS_STATUS.dropped = (s.eng.n Od.ANS_STATUS.dropped + 1) % 2 ^ 64 ∧ t.eng.cals = s.eng.cals) := by
  have haccept := Eng.accept_eq (e := s.eng0) s.ctx grid crcFail hqueue
  have htaken := Eng.taken_pipe (e := s.eng0) s.ctx hqueue
  refine ⟨_, (exec_answerRequest pipe grid crcFail s).trans (lift_whenDue (due := fun _ e => e.mayAccept pipe) hup hmay),
    ⟨rfl, rfl, rfl⟩, ?_⟩
  dsimp only
  rw [haccept]
  obtain ⟨hq, hs, hseen⟩ := ((Eng.IntakeKept.refl pipe (s.eng0.taken s.ctx pipe rest)).answer (x := s.ctx) q grid crcFail).pipesShown
    s.ctx pipe.isLt
  refine ⟨hq.trans (congrArg Pipe.queue htaken), hs.trans (congrArg Pipe.slotUsed htaken), hseen.trans (Eng.taken_seen ..),
    fun he hl => ?_⟩
  have hflt : (s.eng0.taken s.ctx pipe rest).flt = s.eng.flt := Eng.count_flt ..
  rw [Eng.answer_eclipse s.ctx pipe grid crcFail (by rw [hflt, he]) (by rw [hflt, hl])]
  refine ⟨?_, ?_⟩
  · have hdropped : (s.eng0.taken s.ctx pipe rest).n Od.ANS_STATUS.dropped = s.eng.n Od.ANS_STATUS.dropped :=
      congrArg Int.toNat (Eng.count_i _ _ _ _ (odKey_ne (by decide)))
    rw [← hdropped, ← Eng.ansDropped_dropped s.ctx pipe q.rule 13]
    exact congrArg Int.toNat (Eng.pipesShown_i _ s.ctx (ansKey_lt (by decide)) (odKey_ne (by decide)))
  · exact (Eng.pipesShown_keeps _ s.ctx (φ := .cals)).trans ((Eng.ansDropped_keeps _ s.ctx _ _ _ (φ := .cals)).trans (Eng.count_cals ..))

theorem exec_checkerCompare_checks (agrees : Bool) (hcheck : 0 < (s.eng.pipe pipe).toCheck) :
    ∃ t, exec (.checkerCompare pipe agrees) s = .next t ∧ s.beside t ∧
      t.eng.n (Od.PIPE.checks pipe) = (s.eng.n (Od.PIPE.checks pipe) + 1) % 2 ^ 32 ∧
      (t.eng.pipe pipe).toCheck = (s.eng.pipe pipe).toCheck - 1 ∧ (agrees = false → s.eng.PipeFailed pipe s.core.tick t.eng) := by
  obtain ⟨hcount, hfail⟩ := s.eng0.compared_counts s.ctx pipe.isLt
  obtain ⟨hchecks, hfailed⟩ := Eng.verdict_after _ s.ctx pipe.isLt agrees hcount hfail
  have hpipe := Eng.pipe_of_ans ((s.eng0.compared s.ctx pipe).verdict_ans s.ctx (p := pipe) agrees) pipe
  exact ⟨_, (exec_checkerCompare pipe agrees s).trans
      (lift_whenDue (due := fun _ e => 0 < (e.pipe pipe).toCheck) hup (decide_eq_true hcheck)), ⟨rfl, rfl, rfl⟩, hchecks,
    (congrArg Pipe.toCheck hpipe).trans (s.eng0.compared_toCheck s.ctx hcheck), hfailed⟩

theorem exec_checkerProbe_checks (agrees : Bool) (hdue : s.eng.probeDue s.ctx pipe = true) :
    ∃ t, exec (.checkerProbe pipe agrees) s = .next t ∧ s.beside t ∧
      t.eng.n (Od.PIPE.checks pipe) = (s.eng.n (Od.PIPE.checks pipe) + 1) % 2 ^ 32 ∧
      (agrees = false → s.eng.PipeFailed pipe s.core.tick t.eng) := by
  obtain ⟨hcount, hfail⟩ := s.eng0.probed_counts s.ctx pipe.isLt
  exact ⟨_, (exec_checkerProbe pipe agrees s).trans (lift_whenDue (due := fun x e => e.probeDue x pipe) hup hdue), ⟨rfl, rfl, rfl⟩,
    Eng.verdict_after _ s.ctx pipe.isLt agrees hcount hfail⟩

theorem exec_pipeReenable_returns {roles : Nat} (had : s.eng.admits (Od.PIPE.reenable pipe) 1 roles = true)
    (hout : s.eng.b (Od.PIPE.in_service pipe) = false) (hlen : s.eng.ans.pipes.length = 16) :
    ∃ t, exec (.pipeReenable pipe 1 roles) s = .next t ∧ s.accepted t ∧ t.eng.i (Od.PIPE.in_service pipe) = 1 ∧
      (t.eng.pipe pipe).probeFirst = true := by
  have hwrite : pipeReenable s.ctx pipe 1 s.eng0 = (stOk, ((s.eng0.set (Od.PIPE.in_service pipe) 1).modPipe pipe
      (fun s => { s with probeFirst := true })).pipesShown s.ctx) := if_neg (by rw [State.eng0_b, hout]; decide)
  obtain ⟨t, ht, hans⟩ := lift_writeCmd_answersOk (op := fun x => pipeReenable x pipe 1) hup had hwrite
  refine ⟨t, (exec_pipeReenable ..).trans ht, ⟨hans.status, hans.beside⟩, ?_, ?_⟩
  · refine (hans.obj _ (accounting_area (by decide) (by omega))).trans ?_
    exact (Eng.pipesShown_i _ s.ctx (ansKey_lt (by omega)) (pipeKey_ne_status (by decide) (by decide))).trans (Eng.set_i_same ..)
  · have hpipe := Eng.pipe_of_ans ((congrArg Eng.ans hans.rest :).trans (Eng.pipesShown_ans ..)) pipe
    have hpipe' := Eng.modPipe_pipe_same (e := s.eng0.set (Od.PIPE.in_service pipe) 1) (p := pipe) (by
      change pipe.val < s.eng.ans.pipes.length
      rw [hlen]
      exact pipe.isLt) (fun s => { s with probeFirst := true })
    exact congrArg Pipe.probeFirst (hpipe.trans hpipe')

end

/-- Settles O35: what a pipe takes in is `Eng.taken`, which by `Eng.IntakeKept.answer` no step of Table 6-3 undoes; a comparison and a
probe count before `Eng.verdict`, and a write that re-enables a pipe is answered beside its pipe's probe. -/
theorem pipesTakeRequestsLeaveAndReturn : Obligations.PipesTakeRequestsLeaveAndReturn :=
  ⟨fun _ _ _ _ _ _ hup hmay hqueue => exec_answerRequest_takes hup hmay hqueue,
    fun _ _ hup => ⟨fun agrees hcheck => exec_checkerCompare_checks hup agrees hcheck,
      fun agrees hdue => exec_checkerProbe_checks hup agrees hdue,
      fun _ had hout hlen => exec_pipeReenable_returns hup had hout hlen⟩⟩

end Sys2Proof.Machine
end

section
/-! # NTS slots, and the settling of O39 (R172, R173, R174, R176) -/

namespace Sys2Proof.Machine

/-! ## Writes of the NTS area -/

/-- A command's admitted write in the area of NTS answers what its chapter does. -/
theorem lift_writeCmd_answersNts {s : State} {i m : Nat} {v : Int} {roles st : Nat} {op : Ctx → Eng → WriteRes} {e : Eng}
    (hu : s.eng.up = true) (hi : i * 16 + m < 65536) (had : s.eng.admits (odKey 0x48 i m) v roles = true)
    (ho : op s.ctx s.eng0 = (st, e)) :
    ∃ t, lift (fun x e => e.writeCmd x (odKey 0x48 i m) v roles (op x)) s = .next t ∧ s.Answers st e t := by
  obtain ⟨p, hp⟩ := Eng.writeCmd_admitted (e := s.eng0) (k := odKey 0x48 i m) (v := v) (roles := roles) s.ctx had ho
  refine ⟨_, lift_up hu _, ?_⟩
  rw [hp, e.refusedHook_elsewhere (by rw [odKey_area hi]; decide) (by rw [odKey_area hi]; decide)]
  exact s.answers_account st e p

section
variable {s t : State} {st : Nat} {e : Eng}

/-- What an object of the NTS area reads after the answer. -/
theorem State.Answers.ntsObj (h : s.Answers st e t) {i m : Nat} (hi : i * 16 + m < 65536) :
    t.eng.i (odKey 0x48 i m) = e.i (odKey 0x48 i m) :=
  h.obj _ (accounting_area (by decide) hi)

theorem State.Answers.keyWait (h : s.Answers st e t) : t.eng.keyWait = e.keyWait := (congrArg Eng.keyWait h.rest :)

theorem State.Answers.nts (h : s.Answers st e t) : t.eng.nts = e.nts := (congrArg Eng.nts h.rest :)

end

theorem Eng.keyTouched_waits (e : Eng) (x : Ctx) : (e.keyTouched x).keyWait.since.isSome = true := rfl

theorem Eng.keyTouched_i (e : Eng) (x : Ctx) (j : Key) : (e.keyTouched x).i j = e.i j := rfl

/-- An object shows its new value at once, though earlier requests are judged by the old one (log 19). -/
theorem Eng.setFrom_i (e : Eng) (x : Ctx) (k j : Key) (v : Int) (from_ : Nat) :
    (e.setFrom x k v from_).i j = if j = k then v else e.i j := Eng.set_i ..

/-! ## A slot is loaded (R172, R176) -/

/-- Slot `k` stands in ACCEPT with its key and origin, its import used, and the key store is to be written. -/
structure Eng.SlotLoaded (k key : Nat) (origin : Int) (e : Eng) : Prop where
  state : e.i (Od.NTS_SLOT.state k) = 1
  key : e.i (Od.NTS_SLOT.key k) = key
  origin : e.i (Od.NTS_SLOT.origin k) = origin
  waits : e.keyWait.since.isSome = true
  imported : tget e.nts.imported k = none

theorem Eng.slotLoad_loaded (e : Eng) (x : Ctx) (k key : Nat) (origin : Int) : (e.slotLoad x k key origin).SlotLoaded k key origin := by
  have hn : ([(Od.NTS_SLOT.state k, (1 : Int)), (Od.NTS_SLOT.key k, (key : Int)), (Od.NTS_SLOT.origin k, origin)].map Prod.fst).Nodup :=
    odKey_nodup 0x48 (0x010 + k) (ms := [1, 3, 5]) (by decide)
  have hset (p) (hp) := Eng.setAll_i_mem { e with nts := { e.nts with imported := tdel e.nts.imported k } } _ hn p hp
  have hnts : (e.slotLoad x k key origin).nts = { e.nts with imported := tdel e.nts.imported k } := rfl
  exact ⟨hset (Od.NTS_SLOT.state k, 1) (by simp), hset (Od.NTS_SLOT.key k, (key : Int)) (by simp),
    hset (Od.NTS_SLOT.origin k, origin) (by simp), rfl,
    by rw [hnts]; exact tget_tdel_same ..⟩

section
variable {x : Ctx} {k : Nat} {e : Eng}

theorem slotLoadLocal_empty (h : e.slotState k = 0) : slotLoadLocal x k e = (stOk, e.drawn.slotLoad x k (e.draw (2 ^ 256)) 1) :=
  if_neg (not_not.2 h)

theorem slotLoadLocal_notEmpty (h : e.slotState k ≠ 0) : slotLoadLocal x k e = (stNotEmpty, e) := if_pos h

theorem slotLoadStation_seeded (h : e.slotState k = 0) (hseed : e.b Od.NTS_STATION.seed_set = true) : slotLoadStation x k e =
    (stOk, e.slotLoad x k (leNat (stationKey (leBytes 32 (e.n Od.NTS_STATION.seed)) (e.n (Od.NTS_SLOT.generation k)))) 2) := by
  rw [slotLoadStation, if_neg (not_not.2 h), hseed]
  rfl

theorem slotLoadStation_noSeed (h : e.slotState k = 0) (hseed : e.b Od.NTS_STATION.seed_set = false) :
    slotLoadStation x k e = (stNoSeed, e) := by
  rw [slotLoadStation, if_neg (not_not.2 h), hseed]
  rfl

theorem slotLoadImport_held {key : Nat} (h : e.slotState k = 0) (hkey : tget e.nts.imported k = some key) :
    slotLoadImport x k e = (stOk, e.slotLoad x k key 3) := by
  rw [slotLoadImport, if_neg (not_not.2 h), hkey]

theorem slotLoadImport_noKey (h : e.slotState k = 0) (hkey : tget e.nts.imported k = none) : slotLoadImport x k e = (stNoKey, e) := by
  rw [slotLoadImport, if_neg (not_not.2 h), hkey]

end

/-! ## The former current slot (R173, R174) -/

/-- The slot that rotation replaces, the first in CURRENT, stays in ACCEPT with the second at which it was left. -/
theorem slotRotate_former {e : Eng} {k c : Nat} (x : Ctx) (from_ : Nat) (hk : e.slotState k = 1) (hlt : c < 16)
    (hc : e.slotState c = 2) (hfirst : ∀ d < c, e.slotState d ≠ 2) :
    (slotRotate x k from_ e).2.i (Od.NTS_SLOT.state c) = 1 ∧
    (slotRotate x k from_ e).2.n (Od.NTS_SLOT.left_current c) = from_ / unitsPerSec % 2 ^ 48 := by
  have hfind : (List.range 16).find? (fun c => e.slotState c == 2) = some c :=
    List.find?_range_eq_some.2 ⟨beq_iff_eq.2 hc, List.mem_range.2 hlt, fun d hd => by simpa using hfirst d hd⟩
  have hne : c ≠ k := by
    rintro rfl
    omega
  have hi {m : Nat} (hm : m < 16) : (slotRotate x k from_ e).2.i (odKey 0x48 (0x010 + c) m) =
      ((e.setFrom x (Od.NTS_SLOT.state c) 1 from_).set (Od.NTS_SLOT.left_current c) (from_ / unitsPerSec % 2 ^ 48 : Nat)).i
        (odKey 0x48 (0x010 + c) m) := by
    rw [slotRotate, if_neg (by omega), if_neg (by omega), hfind]
    exact (Eng.set_i_other _ _ _ _ (odKey_ne (by omega))).trans (Eng.set_i_other _ _ _ _ (odKey_ne (by omega)))
  refine ⟨(hi (by decide)).trans ?_, congrArg Int.toNat ((hi (by decide)).trans (Eng.set_i_same ..))⟩
  exact (Eng.set_i_other _ _ _ _ (odKey_ne (by omega))).trans (Eng.set_i_same ..)

/-! ## A slot is retired (R174) -/

/-- Retirement leaves zero in the state, the key and the origin of its slot, and every other object alone. -/
theorem Eng.slotClear_i (e : Eng) (x : Ctx) (k from_ : Nat) (j : Key) : (e.slotClear x k from_).i j =
    if j = Od.NTS_SLOT.origin k ∨ j = Od.NTS_SLOT.key k ∨ j = Od.NTS_SLOT.state k then 0 else e.i j := by
  rw [ite_or, ite_or]
  exact (Eng.set_i ..).trans (if_congr Iff.rfl rfl ((Eng.setFrom_i ..).trans (if_congr Iff.rfl rfl (Eng.setFrom_i ..))))

theorem slotRetire_accept {x : Ctx} {k : Nat} {e : Eng} (h : e.slotState k = 1) : slotRetire x k e = (stOk, e.slotClear x k x.lin4096) := by
  rw [slotRetire, if_neg (by omega), if_neg (by omega)]

theorem slotRetire_current {x : Ctx} {k : Nat} {e : Eng} (h : e.slotState k = 2) : slotRetire x k e = (stCurrent, e) := if_pos h

/-! ## The check of each second (R174) -/

/-- Slot `k` is in ACCEPT, and was left at least `after` seconds before the second `now`. -/
def Eng.slotOld (e : Eng) (after now k : Nat) : Prop :=
  e.slotState k = 1 ∧ e.n (Od.NTS_SLOT.left_current k) + after ≤ now

/-- The check of slot `k` at the second `now`. -/
def Eng.retireOld (x : Ctx) (after now : Nat) (e : Eng) (k : Nat) : Eng :=
  if e.slotState k = 1 && e.n (Od.NTS_SLOT.left_current k) + after ≤ now then e.slotClear x k (x.lin 0) else e

/-- The objects of slot `k` are as they were. -/
def Eng.SlotKept (k : Nat) (e e' : Eng) : Prop := ∀ m < 16, e'.i (odKey 0x48 (0x010 + k) m) = e.i (odKey 0x48 (0x010 + k) m)

section
variable {x : Ctx} {after now k : Nat} {e e' : Eng}

theorem Eng.SlotKept.old_iff (h : Eng.SlotKept k e e') : e'.slotOld after now k ↔ e.slotOld after now k := by
  have hstate : e'.slotState k = e.slotState k := congrArg Int.toNat (h 1 (by decide))
  have hleft : e'.n (Od.NTS_SLOT.left_current k) = e.n (Od.NTS_SLOT.left_current k) := congrArg Int.toNat (h 6 (by decide))
  rw [Eng.slotOld, Eng.slotOld, hstate, hleft]

theorem Eng.retireOld_old (h : e.slotOld after now k) : Eng.retireOld x after now e k = e.slotClear x k (x.lin 0) :=
  if_pos (by simpa [Eng.slotOld] using h)

theorem Eng.retireOld_young (h : ¬ e.slotOld after now k) : Eng.retireOld x after now e k = e :=
  if_neg (by simpa [Eng.slotOld] using h)

/-- The check of another slot leaves the slot. -/
theorem Eng.retireOld_kept {j : Nat} (h : k ≠ j) : Eng.SlotKept k e (Eng.retireOld x after now e j) := by
  intro m hm
  by_cases hold : e.slotOld after now j
  · rw [Eng.retireOld_old hold, Eng.slotClear_i, if_neg]
    rintro (h' | h' | h') <;> exact odKey_ne (by omega) h'
  · rw [Eng.retireOld_young hold]

theorem Eng.retireOlds_kept {l : List Nat} (h : k ∉ l) : Eng.SlotKept k e (l.foldl (Eng.retireOld x after now) e) := by
  intro m hm
  induction l generalizing e with
  | nil => rfl
  | cons j l ih =>
    rw [List.mem_cons, not_or] at h
    exact (ih h.2).trans (Eng.retireOld_kept h.1 m hm)

/-- A pass over distinct slots checks each of them once, as it stood before the pass. -/
theorem Eng.retireOlds_checks {l : List Nat} (hn : l.Nodup) (hk : k ∈ l) :
    (e.slotOld after now k → (l.foldl (Eng.retireOld x after now) e).i (Od.NTS_SLOT.state k) = 0 ∧
      (l.foldl (Eng.retireOld x after now) e).i (Od.NTS_SLOT.key k) = 0) ∧
    (¬ e.slotOld after now k → Eng.SlotKept k e (l.foldl (Eng.retireOld x after now) e)) := by
  obtain ⟨before, rest, rfl⟩ := List.append_of_mem hk
  obtain ⟨-, hrest, hdisjoint⟩ := List.nodup_append.1 hn
  have hbefore : Eng.SlotKept k e (before.foldl (Eng.retireOld x after now) e) :=
    Eng.retireOlds_kept fun h => hdisjoint k h k List.mem_cons_self rfl
  rw [List.foldl_append, List.foldl_cons, ← hbefore.old_iff]
  generalize before.foldl (Eng.retireOld x after now) e = a at hbefore ⊢
  have hafter : Eng.SlotKept k (Eng.retireOld x after now a k) (rest.foldl (Eng.retireOld x after now) (Eng.retireOld x after now a k)) :=
    Eng.retireOlds_kept (List.nodup_cons.1 hrest).1
  refine ⟨fun hold => ?_, fun hyoung m hm => ?_⟩
  · rw [Eng.retireOld_old hold] at hafter ⊢
    exact ⟨(hafter 1 (by decide)).trans ((Eng.slotClear_i ..).trans (if_pos (.inr (.inr rfl)))),
      (hafter 3 (by decide)).trans ((Eng.slotClear_i ..).trans (if_pos (.inr (.inl rfl))))⟩
  · rw [Eng.retireOld_young hyoung] at hafter ⊢
    exact (hafter m hm).trans (hbefore m hm)

end

/-- The check of a second, as a pass over the slots where a time of retirement is set. -/
theorem Eng.retireCheck_eq (e : Eng) (x : Ctx) : e.retireCheck x =
    if e.n Od.NTS_GLOBAL.retire_after = 0 then { e with nts := { e.nts with retireChecked := x.lin 0 / unitsPerSec } }
    else (List.range 16).foldl (Eng.retireOld x (e.n Od.NTS_GLOBAL.retire_after) (x.lin 0 / unitsPerSec % 2 ^ 48))
      { e with nts := { e.nts with retireChecked := x.lin 0 / unitsPerSec } } := rfl

theorem Eng.retireOld_checked (x : Ctx) (after now : Nat) (e : Eng) (k : Nat) :
    (Eng.retireOld x after now e k).nts.retireChecked = e.nts.retireChecked := by
  unfold Eng.retireOld
  split <;> rfl

theorem Eng.retireCheck_checked (e : Eng) (x : Ctx) : (e.retireCheck x).nts.retireChecked = x.lin 0 / unitsPerSec := by
  rw [Eng.retireCheck_eq]
  split
  · rfl
  · exact Eng.foldl_same (fun e => e.nts.retireChecked) (Eng.retireOld_checked x _ _) _ _

/-- The check retires the slots that are old, and leaves the others. -/
theorem Eng.retireCheck_slot (e : Eng) (x : Ctx) {k : Nat} (hk : k < 16) :
    (e.n Od.NTS_GLOBAL.retire_after ≠ 0 ∧ e.slotOld (e.n Od.NTS_GLOBAL.retire_after) (x.lin 0 / unitsPerSec % 2 ^ 48) k →
      (e.retireCheck x).i (Od.NTS_SLOT.state k) = 0 ∧ (e.retireCheck x).i (Od.NTS_SLOT.key k) = 0) ∧
    (¬ (e.n Od.NTS_GLOBAL.retire_after ≠ 0 ∧ e.slotOld (e.n Od.NTS_GLOBAL.retire_after) (x.lin 0 / unitsPerSec % 2 ^ 48) k) →
      Eng.SlotKept k e (e.retireCheck x)) := by
  rw [Eng.retireCheck_eq]
  split
  next hnever => exact ⟨fun h => absurd hnever h.1, fun _ _ _ => rfl⟩
  next hset =>
    obtain ⟨hold, hyoung⟩ := Eng.retireOlds_checks (x := x) (after := e.n Od.NTS_GLOBAL.retire_after)
      (now := x.lin 0 / unitsPerSec % 2 ^ 48) (e := { e with nts := { e.nts with retireChecked := x.lin 0 / unitsPerSec } })
      List.nodup_range (List.mem_range.2 hk)
    exact ⟨fun h => hold h.2, fun h => hyoung fun h' => h ⟨hset, h'⟩⟩

/-! ## The commands -/

section
variable {s : State} {slot : Fin 16} {roles : Nat} (hup : s.eng.up = true)

include hup

/-- A slot's command that its chapter answers. -/
theorem lift_slotCommand_answers {v : Int} {st : Nat} {e : Eng} (had : s.eng.admits (Od.NTS_SLOT.command slot) v roles = true)
    (hop : slotCommand s.ctx slot v s.eng0 = (st, e)) :
    ∃ t, lift (fun x e => e.writeCmd x (Od.NTS_SLOT.command slot) v roles (slotCommand x slot v)) s = .next t ∧ s.Answers st e t :=
  lift_writeCmd_answersNts (op := fun x => slotCommand x slot v) hup (by omega) had hop

/-- A slot's command that loads it. -/
theorem lift_slotCommand_loads {v : Int} {key : Nat} {origin : Int} {e : Eng}
    (had : s.eng.admits (Od.NTS_SLOT.command slot) v roles = true)
    (hop : slotCommand s.ctx slot v s.eng0 = (stOk, e.slotLoad s.ctx slot key origin)) :
    ∃ t, lift (fun x e => e.writeCmd x (Od.NTS_SLOT.command slot) v roles (slotCommand x slot v)) s = .next t ∧ s.accepted t ∧
      t.eng.SlotLoaded slot key origin ∧ t.eng.draws = e.draws := by
  obtain ⟨t, ht, hans⟩ := lift_slotCommand_answers hup had hop
  obtain ⟨hstate, hkey, horigin, hwaits, himport⟩ := e.slotLoad_loaded s.ctx slot key origin
  refine ⟨t, ht, ⟨hans.status, hans.beside⟩, ⟨(hans.ntsObj (by omega)).trans hstate, (hans.ntsObj (by omega)).trans hkey,
    (hans.ntsObj (by omega)).trans horigin, ?_, ?_⟩, (congrArg Eng.draws hans.rest :).trans ?_⟩
  · rwa [hans.keyWait]
  · rwa [hans.nts]
  · exact Eng.slotLoad_keeps (φ := .draws) e s.ctx slot key origin (by decide)

/-- A slot's command that its chapter turns away. -/
theorem lift_slotCommand_turnedAway {v : Int} {st : Nat} (had : s.eng.admits (Od.NTS_SLOT.command slot) v roles = true)
    (hop : slotCommand s.ctx slot v s.eng0 = (st, s.eng0)) :
    ∃ t, lift (fun x e => e.writeCmd x (Od.NTS_SLOT.command slot) v roles (slotCommand x slot v)) s = .next t ∧
      t.eng.resp.status = st ∧ s.eng.onlyObjects t.eng ∧ t.eng.i (Od.NTS_SLOT.key slot) = s.eng.i (Od.NTS_SLOT.key slot) ∧
      s.beside t := by
  obtain ⟨t, ht, hans⟩ := lift_slotCommand_answers hup had hop
  exact ⟨t, ht, hans.status, Eng.onlyObjects_trans s.onlyObjects_eng0 hans.rest, hans.ntsObj (by omega), hans.beside⟩

theorem exec_ntsSlotMakeCurrent_rotates (had : s.eng.admits (Od.NTS_SLOT.command slot) 4 roles = true) (hslot : s.eng.slotState slot = 1) :
    ∃ t, exec (.ntsSlotMakeCurrent slot roles) s = .next t ∧ s.accepted t ∧ t.eng.i (Od.NTS_SLOT.state slot) = 2 ∧
      t.eng.i Od.NTS_STATUS.current_slot = (slot : Nat) ∧
      ∀ c : Fin 16, s.eng.slotState c = 2 → (∀ d : Fin 16, d.val < c.val → s.eng.slotState d ≠ 2) →
        t.eng.i (Od.NTS_SLOT.state c) = 1 ∧ t.eng.n (Od.NTS_SLOT.left_current c) = s.ctx.lin4096 / unitsPerSec % 2 ^ 48 := by
  obtain ⟨e, he, hcurrent, hstate⟩ := slotRotate_accept (e := s.eng0) s.ctx s.ctx.lin4096 hslot
  obtain ⟨t, ht, hans⟩ := lift_slotCommand_answers hup had he
  refine ⟨t, (exec_ntsSlotMakeCurrent slot roles s).trans ht, ⟨hans.status, hans.beside⟩, (hans.ntsObj (by omega)).trans hstate,
    (hans.ntsObj (by decide)).trans hcurrent, fun c hc hfirst => ?_⟩
  obtain ⟨haccept, hleft⟩ := slotRotate_former (e := s.eng0) s.ctx s.ctx.lin4096 hslot c.isLt hc
    (fun d hd => hfirst ⟨d, hd.trans c.isLt⟩ hd)
  rw [he] at haccept hleft
  exact ⟨(hans.ntsObj (by omega)).trans haccept, (congrArg Int.toNat (hans.ntsObj (by omega))).trans hleft⟩

theorem exec_ntsSlotRetire_clears (had : s.eng.admits (Od.NTS_SLOT.command slot) 5 roles = true) (hslot : s.eng.slotState slot = 1) :
    ∃ t, exec (.ntsSlotRetire slot roles) s = .next t ∧ s.accepted t ∧ t.eng.i (Od.NTS_SLOT.state slot) = 0 ∧
      t.eng.i (Od.NTS_SLOT.key slot) = 0 ∧ t.eng.i (Od.NTS_SLOT.origin slot) = 0 := by
  obtain ⟨t, ht, hans⟩ := lift_slotCommand_answers hup had (slotRetire_accept (e := s.eng0) hslot)
  have hclear := s.eng0.slotClear_i s.ctx slot s.ctx.lin4096
  exact ⟨t, (exec_ntsSlotRetire slot roles s).trans ht, ⟨hans.status, hans.beside⟩,
    (hans.ntsObj (by omega)).trans ((hclear _).trans (if_pos (.inr (.inr rfl)))),
    (hans.ntsObj (by omega)).trans ((hclear _).trans (if_pos (.inr (.inl rfl)))),
    (hans.ntsObj (by omega)).trans ((hclear _).trans (if_pos (.inl rfl)))⟩

end

/-- Settles O39: a load that is not refused leaves what `Eng.SlotLoaded` says, a rotation leaves its former slot by
`slotRotate_former`, and the check of a second visits each slot once (`Eng.retireOlds_checks`). -/
theorem ntsSlotsAreLoadedRotatedAndRetired : Obligations.NtsSlotsAreLoadedRotatedAndRetired := by
  refine ⟨fun s slot roles hup => ?_, fun s hup => ?_⟩
  · refine ⟨fun hempty => ⟨fun had => ?_, fun had hseed => ?_, fun had hseed => ?_, fun key had hkey => ?_, fun had hkey => ?_⟩,
      fun hfull had => ?_⟩
    · obtain ⟨t, ht, hacc, hload, hdraws⟩ := lift_slotCommand_loads hup had (slotLoadLocal_empty (e := s.eng0) hempty)
      refine ⟨t, (exec_ntsSlotLoadLocal slot roles s).trans ht, ⟨hacc, hload.state, hload.origin, hload.waits, hload.imported⟩,
        ?_, hdraws⟩
      rw [Eng.n, hload.key, Int.toNat_natCast]
      exact Nat.mod_lt _ (Nat.two_pow_pos 256)
    · obtain ⟨t, ht, hacc, hload, -⟩ := lift_slotCommand_loads hup had (slotLoadStation_seeded (e := s.eng0) hempty hseed)
      exact ⟨t, (exec_ntsSlotLoadStation slot roles s).trans ht, ⟨hacc, hload.state, hload.origin, hload.waits, hload.imported⟩,
        hload.key⟩
    · obtain ⟨t, ht, hst, honly, -, hbeside⟩ := lift_slotCommand_turnedAway hup had (slotLoadStation_noSeed (e := s.eng0) hempty hseed)
      exact ⟨t, (exec_ntsSlotLoadStation slot roles s).trans ht, hst, honly, hbeside⟩
    · obtain ⟨t, ht, hacc, hload, -⟩ := lift_slotCommand_loads hup had (slotLoadImport_held (e := s.eng0) hempty hkey)
      exact ⟨t, (exec_ntsSlotLoadImport slot roles s).trans ht, ⟨hacc, hload.state, hload.origin, hload.waits, hload.imported⟩,
        hload.key⟩
    · obtain ⟨t, ht, hst, honly, -, hbeside⟩ := lift_slotCommand_turnedAway hup had (slotLoadImport_noKey (e := s.eng0) hempty hkey)
      exact ⟨t, (exec_ntsSlotLoadImport slot roles s).trans ht, hst, honly, hbeside⟩
    · obtain ⟨t, ht, hrest⟩ := lift_slotCommand_turnedAway hup had (slotLoadLocal_notEmpty (e := s.eng0) hfull)
      exact ⟨t, (exec_ntsSlotLoadLocal slot roles s).trans ht, hrest⟩
  · refine ⟨fun slot roles had hslot => exec_ntsSlotMakeCurrent_rotates hup had hslot,
      fun slot roles had hslot => exec_ntsSlotRetire_clears hup had hslot, fun slot roles had hslot => ?_, fun hdue => ?_⟩
    · obtain ⟨t, ht, hrest⟩ := lift_slotCommand_turnedAway hup had (slotRetire_current (e := s.eng0) hslot)
      exact ⟨t, (exec_ntsSlotRetire slot roles s).trans ht, hrest⟩
    · refine ⟨_, (exec_slotRetireCheck s).trans (lift_whenDue (due := fun x e => e.retireDue x) hup hdue), ⟨rfl, rfl, rfl⟩,
        s.eng0.retireCheck_checked s.ctx, fun slot => ?_⟩
      obtain ⟨hold, hyoung⟩ := s.eng0.retireCheck_slot s.ctx slot.isLt
      exact ⟨hold, fun h => ⟨hyoung h 1 (by decide), hyoung h 3 (by decide)⟩⟩

end Sys2Proof.Machine
end

section
/-! # The station's seed, the key store and the generator, and the settling of O40 (R175, R176, R178, R188) -/

namespace Sys2Proof.Machine

/-! ## The seed (R176) -/

/-- The check value of a seed. -/
def seedCheck (v : Int) : Nat := leNat ((hmacSha256 (leBytes 32 v.toNat) (strBytes "check")).take 4)

/-- What a write of the seed stores: the seed, that it is set, and its check value. -/
def seedValues (v : Int) : List (Key × Int) :=
  [(Od.NTS_STATION.seed, v), (Od.NTS_STATION.seed_set, 1), (Od.NTS_STATION.seed_check, (seedCheck v : Int))]

theorem seedValues_nodup (v : Int) : ((seedValues v).map Prod.fst).Nodup := odKey_nodup 0x48 0x003 (ms := [1, 2, 3]) (by decide)

theorem seedWrite_eq (x : Ctx) (v : Int) (e : Eng) : seedWrite x v e = (stOk, (e.setAll (seedValues v)).keyTouched x) := by
  rw [seedWrite, seedValues, seedCheck]

theorem seedWrite_stores (x : Ctx) (v : Int) (e : Eng) : ∃ a, seedWrite x v e = (stOk, a) ∧ a.i Od.NTS_STATION.seed = v ∧
    a.i Od.NTS_STATION.seed_set = 1 ∧ a.keyWait.since.isSome = true := by
  have hset (p) (hp) := Eng.setAll_i_mem e _ (seedValues_nodup v) p hp
  refine ⟨_, seedWrite_eq x v e, ?_, ?_, Eng.keyTouched_waits ..⟩ <;> rw [Eng.keyTouched_i]
  · exact hset (Od.NTS_STATION.seed, v) List.mem_cons_self
  · exact hset (Od.NTS_STATION.seed_set, 1) (List.mem_cons_of_mem _ List.mem_cons_self)

/-! ## The key store (R175, R188) -/

section
variable (e : Eng) (x : Ctx)

theorem Eng.keyStore_bad : e.keyStore x false = ({ e with keyWait := ⟨some (x.st 0)⟩ } : Eng).detect x 7 5 0 :=
  if_neg Bool.false_ne_true

theorem Eng.keyStore_failed : (e.keyStore x false).flash = e.flash ∧ (e.keyStore x false).keyWait.since = some (x.st 0) ∧
    (e.keyStore x false).n (Od.FLT_BLOCK.latch 7) = e.n (Od.FLT_BLOCK.latch 7) ||| 8 := by
  rw [Eng.keyStore_bad]
  exact ⟨Eng.detect_flash .., congrArg StoreWait.since (Eng.detect_keeps (φ := .keyWait) ..), Eng.detect_latch _ x 7 5 0⟩

/-! ## The generator (R178, R188) -/

/-- The generator has stopped, and shows it. -/
def Eng.drbgHalted (e : Eng) (x : Ctx) : Eng :=
  { (e.set Od.NTS_STATUS.drbg_ok 0).orb Od.NTS_STATUS.sticky 128 with nts := { e.nts with drbgStopped := some (x.st 0) } }

variable {e}

theorem Eng.drbgReseed_due (hdue : e.reseedDue = true) : e.drbgReseed x true = { e with nts := { e.nts with drbgBlocks := 0 } } :=
  if_pos hdue

theorem Eng.drbgReseed_unhealthy (hok : e.b Od.NTS_STATUS.drbg_ok = true) : e.drbgReseed x false = (e.drbgHalted x).detect x 7 4 0 :=
  if_pos hok

theorem Eng.drbgReseed_stops (hok : e.b Od.NTS_STATUS.drbg_ok = true) :
    (e.drbgReseed x false).i Od.NTS_STATUS.drbg_ok = 0 ∧
    (e.drbgReseed x false).nts = { e.nts with drbgStopped := some (x.st 0) } ∧
    (e.drbgReseed x false).n (Od.FLT_BLOCK.latch 7) = e.n (Od.FLT_BLOCK.latch 7) ||| 2 := by
  have hlatch : (e.drbgHalted x).n (Od.FLT_BLOCK.latch 7) = e.n (Od.FLT_BLOCK.latch 7) :=
    congrArg Int.toNat ((Eng.set_i_other _ _ _ _ (by decide)).trans (Eng.set_i_other _ _ _ _ (by decide)))
  rw [Eng.drbgReseed_unhealthy x hok, ← hlatch]
  refine ⟨?_, Eng.detect_keeps (φ := .nts) .., Eng.detect_latch _ x 7 4 0⟩
  exact (((Eng.FaultsAlone.refl _).detect 7 4 0).obj _ (by decide)).trans
    ((Eng.set_i_other _ _ _ _ (by decide)).trans (Eng.set_i_same ..))

section
variable {since good : Nat} (hstopped : e.nts.drbgStopped = some since) (hpassed : x.passed since unitsPerSec = true)

include hstopped hpassed

theorem Eng.drbgRetry_resumes (hgood : 1024 ≤ good) : e.drbgRetry x good =
    ({ e with nts := { e.nts with drbgStopped := none, drbgBlocks := 0 } } : Eng).set Od.NTS_STATUS.drbg_ok 1 := by
  rw [Eng.drbgRetry, hstopped]
  exact (if_pos hpassed).trans (if_pos hgood)

theorem Eng.drbgRetry_waits (hgood : good < 1024) :
    e.drbgRetry x good = { e with nts := { e.nts with drbgStopped := some (x.st 0) } } := by
  rw [Eng.drbgRetry, hstopped]
  exact (if_pos hpassed).trans (if_neg (not_le.2 hgood))

end

end

/-! ## The commands -/

section
variable {s : State} (hup : s.eng.up = true)

include hup

theorem exec_ntsStationSeedWrite_stores {seed roles : Nat} (had : s.eng.admits Od.NTS_STATION.seed seed roles = true) :
    ∃ t, exec (.ntsStationSeedWrite seed roles) s = .next t ∧ s.accepted t ∧ t.eng.i Od.NTS_STATION.seed = seed ∧
      t.eng.i Od.NTS_STATION.seed_set = 1 ∧ t.eng.keyWait.since.isSome = true := by
  obtain ⟨e, he, hseed, hset, hwaits⟩ := seedWrite_stores s.ctx seed s.eng0
  obtain ⟨t, ht, hans⟩ := lift_writeCmd_answersNts (op := fun x => seedWrite x seed) hup (by decide) had he
  refine ⟨t, (exec_ntsStationSeedWrite seed roles s).trans ht, ⟨hans.status, hans.beside⟩, (hans.ntsObj (by decide)).trans hseed,
    (hans.ntsObj (by decide)).trans hset, ?_⟩
  rwa [hans.keyWait]

theorem exec_keyStoreWrite_due (good : Bool) (hwaits : s.eng.keyWait.since.isSome = true) :
    exec (.keyStoreWrite good) s = .next { s with eng := s.eng0.keyStore s.ctx good } :=
  (exec_keyStoreWrite good s).trans (lift_whenDue (due := fun _ e => e.keyWait.since.isSome) hup hwaits)

theorem exec_drbgRetry_tries {good since : Nat} (hstopped : s.eng.nts.drbgStopped = some since)
    (hpassed : s.ctx.passed since unitsPerSec = true) :
    ∃ t, exec (.drbgRetry good) s = .next t ∧ s.beside t ∧
      (1024 ≤ good → t.eng.nts.drbgStopped = none ∧ t.eng.i Od.NTS_STATUS.drbg_ok = 1) ∧
      (good < 1024 → t.eng.nts.drbgStopped = some (s.ctx.st 0) ∧ t.eng.od = s.eng.od) := by
  refine ⟨_, (exec_drbgRetry good s).trans (lift_up hup _), ⟨rfl, rfl, rfl⟩, fun hgood => ?_, fun hgood => ?_⟩ <;> dsimp only
  · rw [Eng.drbgRetry_resumes (e := s.eng0) s.ctx hstopped hpassed hgood]
    exact ⟨rfl, Eng.set_i_same ..⟩
  · rw [Eng.drbgRetry_waits (e := s.eng0) s.ctx hstopped hpassed hgood]
    exact ⟨rfl, rfl⟩

end

/-- Settles O40: what a failed write and an unhealthy source latch is `Eng.detect_latch` of their rows, and a detection leaves the key
store, the generator and its display. -/
theorem seedsKeysAndTheGeneratorAreKept : Obligations.SeedsKeysAndTheGeneratorAreKept := by
  refine fun s hup => ⟨fun seed roles had => exec_ntsStationSeedWrite_stores hup had, fun hwaits => ⟨?_, ?_⟩, fun hdue => ?_,
    fun hok => ?_, fun good since hstopped hpassed => exec_drbgRetry_tries hup hstopped hpassed⟩
  · exact ⟨_, exec_keyStoreWrite_due hup true hwaits, ⟨rfl, rfl, rfl⟩, rfl, rfl, rfl⟩
  · refine ⟨_, exec_keyStoreWrite_due hup false hwaits, ⟨rfl, rfl, rfl⟩, ?_⟩
    dsimp only
    exact s.eng0.keyStore_failed s.ctx
  · refine ⟨_, (exec_drbgReseed true s).trans (lift_up hup _), ⟨rfl, rfl, rfl⟩, ?_⟩
    dsimp only
    rw [Eng.drbgReseed_due (e := s.eng0) s.ctx hdue]
    exact ⟨rfl, rfl⟩
  · exact ⟨_, (exec_drbgReseed false s).trans (lift_up hup _), ⟨rfl, rfl, rfl⟩, Eng.drbgReseed_stops (e := s.eng0) s.ctx hok⟩

end Sys2Proof.Machine
end

section
/-! # Key exchange, and the settling of O41 (R182 to R186) -/

namespace Sys2Proof.Machine

theorem Eng.inc64_n_same (e : Eng) (k : Key) : (e.inc64 k).n k = (e.n k + 1) % 2 ^ 64 :=
  congrArg Int.toNat ((Eng.inc64_i ..).trans (if_pos rfl))

/-! ## A SYN (R184 to R186) -/

theorem Eng.keReset_od (e : Eng) (port : Nat) (frame : Bytes) (fresh : Bool) : (e.keReset port frame fresh).od = e.od := by
  cases fresh <;> rfl

theorem Eng.keReset_nts (e : Eng) (port : Nat) (frame : Bytes) (fresh : Bool) : (e.keReset port frame fresh).nts = e.nts :=
  Eng.keReset_keeps (φ := .nts) e port frame fresh (by decide)

/-- The frame is a TCP SYN to the port of NTS-KE. -/
def Eng.keSynTo (e : Eng) (p : Parsed) (frame : Bytes) : Bool :=
  p.proto == some 6 && p.l4.isSome && beAt frame (p.l4.getD 0 + 2) 2 == e.n Od.NTS_KE.tcp_port && byteAt frame (p.l4.getD 0 + 13) % 64 == 2

section
variable {e : Eng} {x : Ctx} {port : Nat} {frame : Bytes} (hon : e.keOn = true)
  (hsyn : e.keSynTo (parseFrame e.isTpid frame) frame = true)

include hon hsyn

theorem Eng.keSyn_served : ¬ (!e.keOn || !e.keSynTo (parseFrame e.isTpid frame) frame) = true := by simp [hon, hsyn]

theorem Eng.keSyn_shed (hshed : e.b Od.NTS_KE_STATUS.shedding = true) : e.keSyn x port frame =
    (({ e with nts := { e.nts with starts := e.keRecent x } } : Eng).inc64 Od.NTS_KE_STATUS.refused_shed).keReset port frame true :=
  (if_neg (Eng.keSyn_served hon hsyn)).trans (if_pos hshed)

theorem Eng.keSyn_opens (hshed : e.b Od.NTS_KE_STATUS.shedding = false) (hrate : (e.keRecent x).length < e.n Od.NTS_KE.max_rate)
    (hroom : e.nts.sessions.length < e.n Od.NTS_KE.max_sessions) : e.keSyn x port frame = { e with nts := { e.nts with
      sessions := tput e.nts.sessions (keSession (parseFrame e.isTpid frame) frame) ⟨x.st 0, port, frame⟩,
      starts := x.st 0 :: e.keRecent x } } :=
  (if_neg (Eng.keSyn_served hon hsyn)).trans ((if_neg (Bool.eq_false_iff.1 hshed)).trans ((if_neg (not_le.2 hrate)).trans
    (if_neg (not_le.2 hroom))))

end

/-! ## What the answer to a request leaves (R183) -/

/-- Sealing cookies leaves the sessions, what left the pins, and every object but the counts of issued cookies. -/
structure Eng.CookiesSealed (e e' : Eng) : Prop where
  sessions : e'.nts.sessions = e.nts.sessions
  out : e'.out = e.out
  obj : ∀ j, (∀ slot, j ≠ Od.NTS_SLOT.issued slot) → e'.i j = e.i j

theorem Eng.CookiesSealed.refl (e : Eng) : e.CookiesSealed e := ⟨rfl, rfl, fun _ _ => rfl⟩

theorem Eng.CookiesSealed.trans {a b c : Eng} (h : a.CookiesSealed b) (h' : b.CookiesSealed c) : a.CookiesSealed c :=
  ⟨h'.sessions.trans h.sessions, h'.out.trans h.out, fun j hj => (h'.obj j hj).trans (h.obj j hj)⟩

theorem Eng.sealCookie_seals (e : Eng) (rx slot : Nat) (keys : Bytes) : e.CookiesSealed (e.sealCookie rx slot keys).2 :=
  ⟨rfl, rfl, fun _ hj => Eng.set_i_other _ _ _ _ (hj slot)⟩

theorem Eng.keCookies_seals (e : Eng) (rx slot : Nat) (keys : Bytes) (n : Nat) : e.CookiesSealed (e.keCookies rx slot keys n).2 := by
  induction n generalizing e with
  | zero => exact .refl e
  | succ n ih => exact (e.sealCookie_seals rx slot keys).trans (ih _)

theorem Eng.keAnswer_seals (e : Eng) (x : Ctx) (v6 : Bool) (request keys : Bytes) :
    e.CookiesSealed (e.keAnswer x v6 request keys).2.2 := by
  unfold Eng.keAnswer
  dsimp only
  iterate 2
    split
    · exact .refl e
  split
  case h_2 => exact .refl e
  iterate 5
    split
    · exact .refl e
  exact e.keCookies_seals ..

/-! ## A session ends (R182 to R184) -/

/-- A session is forgotten. -/
def Eng.keClosed (e : Eng) (session : Nat) : Eng := { e with nts := { e.nts with sessions := tdel e.nts.sessions session } }

theorem Eng.keClosed_session (e : Eng) (session : Nat) : tget (e.keClosed session).nts.sessions session = none := tget_tdel_same ..

theorem Eng.keClosed_keyed {e : Eng} {session : Nat} (hkey : e.b Od.NTS_KE_KEY.present = true) :
    ¬ (!(e.keClosed session).b Od.NTS_KE_KEY.present) = true := by
  have hclosed : (e.keClosed session).b Od.NTS_KE_KEY.present = true := hkey
  rw [hclosed]
  decide

section
variable {e : Eng} {x : Ctx} {session : Nat} {k : KeSession} (hsession : tget e.nts.sessions session = some k)

include hsession

section
variable (hon : e.keOn = true) (hkey : e.b Od.NTS_KE_KEY.present = true) (request : Bytes) (c2s s2c : Nat)

include hon hkey

theorem Eng.keRequest_noHello : e.keRequest x session .none request c2s s2c = (e.keClosed session).keAlert session 40 := by
  rw [Eng.keRequest, hsession]
  exact (if_neg (by rw [hon]; decide)).trans (if_neg (Eng.keClosed_keyed hkey))

/-- A completed hello is answered by the records that `Eng.keAnswer` finds for it. -/
theorem Eng.keRequest_hello : ∃ a : Bytes × Bool × Eng,
    ((e.keClosed session).inc64 Od.NTS_KE_STATUS.handshakes).CookiesSealed a.2.2 ∧ e.keRequest x session .ok request c2s s2c =
      (if a.2.1 then a.2.2 else a.2.2.inc64 Od.NTS_KE_STATUS.errors).emit (.ntsKe session a.1) := by
  refine ⟨_, Eng.keAnswer_seals _ x ((parseFrame (e.keClosed session).isTpid k.syn).ver == 6) request
    (leBytes 32 c2s ++ leBytes 32 s2c), ?_⟩
  rw [Eng.keRequest, hsession]
  exact (if_neg (by rw [hon]; decide)).trans (if_neg (Eng.keClosed_keyed hkey))

/-- A completed hello ends its session, counts a handshake, and answers once. -/
theorem Eng.keRequest_answers : tget (e.keRequest x session .ok request c2s s2c).nts.sessions session = none ∧
    (e.keRequest x session .ok request c2s s2c).n Od.NTS_KE_STATUS.handshakes = (e.n Od.NTS_KE_STATUS.handshakes + 1) % 2 ^ 64 ∧
    ∃ answer, (e.keRequest x session .ok request c2s s2c).out = e.out ++ [.ntsKe session answer] := by
  obtain ⟨a, hseals, hrequest⟩ := Eng.keRequest_hello (x := x) hsession hon hkey request c2s s2c
  have hcount : a.2.2.n Od.NTS_KE_STATUS.handshakes = (e.n Od.NTS_KE_STATUS.handshakes + 1) % 2 ^ 64 :=
    (congrArg Int.toNat (hseals.obj _ fun slot => odKey_ne (by omega))).trans (Eng.inc64_n_same (e.keClosed session) _)
  have hclosed : tget a.2.2.nts.sessions session = none := by
    rw [hseals.sessions]
    exact e.keClosed_session session
  have hout : a.2.2.out = e.out := hseals.out
  rw [hrequest]
  split
  · exact ⟨hclosed, hcount, a.1, congrArg (· ++ _) hout⟩
  · exact ⟨hclosed, (congrArg Int.toNat (Eng.set_i_other _ _ _ _ (by decide))).trans hcount, a.1, congrArg (· ++ _) hout⟩

end

end

/-! ## The server's key (R182) -/

theorem keGenerate_presents {x : Ctx} {e : Eng} (h : e.nts.drbgStopped = none) :
    ∃ a, keGenerate x e = (stOk, a) ∧ a.i Od.NTS_KE_KEY.present = 1 := by
  rw [keGenerate, h]
  exact ⟨_, rfl, Eng.set_i_same ..⟩

/-! ## The commands -/

section
variable {s : State} (hup : s.eng.up = true)

include hup

section
variable (port : Fin 32) {frame : Bytes} (hon : s.eng.keOn = true)
  (hsyn : s.eng.keSynTo (parseFrame s.eng.isTpid frame) frame = true)

include hon hsyn

theorem exec_ntsKeSyn_opens (hshed : s.eng.b Od.NTS_KE_STATUS.shedding = false)
    (hrate : (s.eng.keRecent s.ctx).length < s.eng.n Od.NTS_KE.max_rate)
    (hroom : s.eng.nts.sessions.length < s.eng.n Od.NTS_KE.max_sessions) :
    ∃ t, exec (.ntsKeSyn port frame) s = .next t ∧ s.beside t ∧ t.eng.od = s.eng.od ∧
      tget t.eng.nts.sessions (keSession (parseFrame s.eng.isTpid frame) frame) = some ⟨s.ctx.st 0, port, frame⟩ := by
  refine ⟨_, (exec_ntsKeSyn port frame s).trans (lift_up hup _), ⟨rfl, rfl, rfl⟩, ?_⟩
  dsimp only
  rw [Eng.keSyn_opens (e := s.eng0) hon hsyn hshed hrate hroom]
  exact ⟨rfl, tget_tput_same ..⟩

theorem exec_ntsKeSyn_refuses (hshed : s.eng.b Od.NTS_KE_STATUS.shedding = true) :
    ∃ t, exec (.ntsKeSyn port frame) s = .next t ∧ s.beside t ∧ t.eng.nts.sessions = s.eng.nts.sessions ∧
      t.eng.n Od.NTS_KE_STATUS.refused_shed = (s.eng.n Od.NTS_KE_STATUS.refused_shed + 1) % 2 ^ 64 := by
  refine ⟨_, (exec_ntsKeSyn port frame s).trans (lift_up hup _), ⟨rfl, rfl, rfl⟩, ?_⟩
  dsimp only
  rw [Eng.keSyn_shed (e := s.eng0) hon hsyn hshed, Eng.keReset_nts, Eng.n, Eng.i, Eng.keReset_od]
  exact ⟨rfl, Eng.inc64_n_same ..⟩

end

section
variable {session : Nat} {k : KeSession} (hsession : tget s.eng.nts.sessions session = some k)

include hsession

theorem exec_ntsKeRequest_answers (request : Bytes) (c2s s2c : Nat) (hon : s.eng.keOn = true)
    (hkey : s.eng.b Od.NTS_KE_KEY.present = true) :
    ∃ t, exec (.ntsKeRequest session .ok request c2s s2c) s = .next t ∧ s.beside t ∧ tget t.eng.nts.sessions session = none ∧
      t.eng.n Od.NTS_KE_STATUS.handshakes = (s.eng.n Od.NTS_KE_STATUS.handshakes + 1) % 2 ^ 64 ∧
      ∃ answer, t.eng.out = [.ntsKe session answer] := by
  refine ⟨_, (exec_ntsKeRequest session .ok request c2s s2c s).trans (lift_up hup _), ⟨rfl, rfl, rfl⟩, ?_⟩
  dsimp only
  exact Eng.keRequest_answers (e := s.eng0) hsession hon hkey request c2s s2c

theorem exec_ntsKeRequest_alerts (request : Bytes) (c2s s2c : Nat) (hon : s.eng.keOn = true)
    (hkey : s.eng.b Od.NTS_KE_KEY.present = true) :
    ∃ t, exec (.ntsKeRequest session .none request c2s s2c) s = .next t ∧ s.beside t ∧ tget t.eng.nts.sessions session = none ∧
      t.eng.n Od.NTS_KE_STATUS.alerts = (s.eng.n Od.NTS_KE_STATUS.alerts + 1) % 2 ^ 64 ∧
      t.eng.out = [.ntsKe session [2, byte 40]] := by
  refine ⟨_, (exec_ntsKeRequest session .none request c2s s2c s).trans (lift_up hup _), ⟨rfl, rfl, rfl⟩, ?_⟩
  dsimp only
  rw [Eng.keRequest_noHello (e := s.eng0) hsession hon hkey]
  exact ⟨s.eng0.keClosed_session session, Eng.inc64_n_same (s.eng0.keClosed session) _, rfl⟩

theorem exec_ntsKeSessionTimeout_ends (hruns : s.eng.fwRuns = true) (hpassed : s.ctx.passed k.since (10 * unitsPerSec) = true) :
    ∃ t, exec (.ntsKeSessionTimeout session) s = .next t ∧ s.beside t ∧ tget t.eng.nts.sessions session = none ∧
      t.eng.od = s.eng.od := by
  have hdue : (s.eng0.fwRuns && s.ctx.passed k.since (10 * unitsPerSec)) = true := (Bool.and_eq_true ..).mpr ⟨hruns, hpassed⟩
  have hfound : tget s.eng0.nts.sessions session = some k := hsession
  refine ⟨_, (exec_ntsKeSessionTimeout session s).trans (lift_up hup _), ⟨rfl, rfl, rfl⟩, ?_⟩
  dsimp only
  rw [hfound]
  dsimp only
  rw [hdue, whenDue_true, Eng.keReset_nts, Eng.keReset_od]
  exact ⟨s.eng0.keClosed_session session, rfl⟩

end

theorem exec_ntsKeKeyGenerate_presents {roles : Nat} (had : s.eng.admits Od.NTS_KE_KEY.command 1 roles = true)
    (hruns : s.eng.nts.drbgStopped = none) :
    ∃ t, exec (.ntsKeKeyGenerate roles) s = .next t ∧ s.accepted t ∧ t.eng.i Od.NTS_KE_KEY.present = 1 := by
  obtain ⟨e, he, hpresent⟩ := keGenerate_presents (x := s.ctx) (e := s.eng0) hruns
  obtain ⟨t, ht, hans⟩ := lift_writeCmd_answersNts (op := fun x => keGenerate x) hup (by decide) had he
  exact ⟨t, (exec_ntsKeKeyGenerate roles s).trans ht, ⟨hans.status, hans.beside⟩, (hans.ntsObj (by decide)).trans hpresent⟩

end

/-- Settles O41: a SYN meets `Eng.keSyn_opens` or `Eng.keSyn_shed`; a request ends its session before it is answered, and its answer
leaves what `Eng.CookiesSealed` says. A session is keyed by the client's address and port (log 19). -/
theorem keyExchangeSessionsOpenAndEnd : Obligations.KeyExchangeSessionsOpenAndEnd := by
  refine fun s hup => ⟨?_, fun session c2s s2c request k hsession hon hkey =>
    ⟨exec_ntsKeRequest_answers hup hsession request c2s s2c hon hkey, exec_ntsKeRequest_alerts hup hsession request c2s s2c hon hkey⟩,
    fun session k hsession hruns hpassed => exec_ntsKeSessionTimeout_ends hup hsession hruns hpassed,
    fun roles had hruns => exec_ntsKeKeyGenerate_presents hup had hruns⟩
  rintro port frame p rfl hon hproto hl4 hport hflags
  have hsyn : s.eng.keSynTo (parseFrame s.eng.isTpid frame) frame = true := by simp [Eng.keSynTo, hproto, hl4, hport, hflags]
  exact ⟨fun hshed hrate hroom => exec_ntsKeSyn_opens hup port hon hsyn hshed hrate hroom,
    fun hshed => exec_ntsKeSyn_refuses hup port hon hsyn hshed⟩

end Sys2Proof.Machine
end

section
/-! # What a placement leaves, and the settling of O42 (R151, R164, R192, R200, R207)

A placement writes its port's departure objects, in area 44, and counts departure events, which lie before 0xB00. -/

namespace Sys2Proof.Machine

theorem ne_odKey_of_area {j : Key} {area i m : Nat} (h : j.area ≠ area) (him : i * 16 + m < 65536) : j ≠ odKey area i m := by
  rintro rfl
  exact h (odKey_area him)

/-! ## Placements (R151, R164, R165) -/

/-- A placement is refused with a cause of Table 7-2. -/
theorem Eng.placeAnswer_refused {e : Eng} {x : Ctx} {p rx len prio k : Nat} {grid : List GridPoint}
    (h : e.placeAnswer x p rx len prio grid = .refused k) : k < 16 := by
  unfold Eng.placeAnswer at h
  dsimp only at h
  split at h
  · cases h; decide
  · split at h
    · cases h; decide
    · split at h <;> cases h
      decide

section
variable {j : Key} (hdep : j.area ≠ 0x44) (hcnt : j.area ≠ 0x68) {a e : Eng} {x : Ctx} {p : Nat} (hp : p < 32)

include hdep hcnt hp

theorem Eng.Spares.depMiss_port (h : Eng.Spares j a e) (k : Nat) : Eng.Spares j a (e.depMiss x p k) := by
  have hkey (i m : Nat) (hi : i ≤ 0x180) (hm : m < 16) : j ≠ odKey 0x44 (i + p) m := ne_odKey_of_area hdep (by omega)
  unfold Eng.depMiss Eng.depCount
  exact ((((h.count (ne_odKey_of_area hcnt (by decide)) _).inc64 (hkey 0x180 1 (by decide) (by decide))).set
    (hkey 0x140 8 (by decide) (by decide)) _).set (hkey 0x140 9 (by decide) (by decide)) _).orb (hkey 0x180 2 (by decide) (by decide)) _

theorem Eng.Spares.reserve (h : Eng.Spares j a e) (g : GridPoint) (frame : Bytes) (prio : Nat) (host : Bool) (o : ResvOrigin) :
    Eng.Spares j a (e.reserve x p g frame prio host o) :=
  ((h.trans (.modCal j e p _)).set (ne_odKey_of_area hdep (by omega)) _).count (ne_odKey_of_area hcnt (by decide)) _

end

section
variable {a e : Eng} {x : Ctx} {p : Nat} (hp : p < 32)

include hp

theorem Eng.CountsOf.depMiss (h : Eng.CountsOf (· < 0xB00) a e) {k : Nat} (hk : k < 16) : Eng.CountsOf (· < 0xB00) a (e.depMiss x p k) :=
  ((((h.count (ev := 0x900 + 16 * p + k) (by omega)).inc64 _).set _ _).set _ _).orb _ _

theorem Eng.CountsOf.reserve (h : Eng.CountsOf (· < 0xB00) a e) (g : GridPoint) (frame : Bytes) (prio : Nat) (host : Bool)
    (o : ResvOrigin) : Eng.CountsOf (· < 0xB00) a (e.reserve x p g frame prio host o) := by
  unfold Eng.reserve Eng.depCount
  exact ((h.step (c := e.modCal p _) rfl).set _ _).count (by split <;> omega)

end

/-! ## What the serving instances send -/

/-- What goes out is dropped without its association, refused a place, or reserved one (R151, R204). -/
theorem Eng.ptpSend_cases (e : Eng) (x : Ctx) (n : Nat) (d : PtpEnds) (rx seq : Nat) (unicast event : Bool) (grid : List GridPoint)
    (body : Nat → PtpOut) :
    (e.ptpSend x n d rx seq unicast event grid body).2 = (e.inc64 (Od.PTP_INST_STATS.dropped n)).orb Od.PTP_STATUS.sticky 4 ∨
    (∃ k < 16, (e.ptpSend x n d rx seq unicast event grid body).2 =
      (e.depMiss x d.port k).inc64 (Od.PTP_INST_STATS.missed n)) ∨
    ∃ g frame prio, (e.ptpSend x n d rx seq unicast event grid body).2 =
      (e.ptpRateTake x).reserve x d.port g frame prio false (.ptp n) := by
  unfold Eng.ptpSend
  dsimp only
  split
  · exact .inl rfl
  · split
    next k hk => exact .inr (.inl ⟨k, Eng.placeAnswer_refused hk, rfl⟩)
    next g hg => exact .inr (.inr ⟨g, _, _, rfl⟩)

theorem Eng.Spares.ptpRateTake (j : Key) (e : Eng) (x : Ctx) : Eng.Spares j e (e.ptpRateTake x) := ⟨rfl, rfl⟩

section
variable {n : Nat} (hn : n < 32) {a e : Eng} {x : Ctx} {d : PtpEnds} (hd : d.port < 32) (rx seq : Nat) (unicast event : Bool)
  (grid : List GridPoint) (body : Nat → PtpOut)

include hn hd in
/-- Sending leaves the count of the Delay_Req that were accepted. -/
theorem Eng.Spares.ptpSend (h : Eng.Spares (Od.PTP_INST_STATS.delay_req n) a e) :
    Eng.Spares (Od.PTP_INST_STATS.delay_req n) a (e.ptpSend x n d rx seq unicast event grid body).2 := by
  have harea : (Od.PTP_INST_STATS.delay_req n).area = 0x4C := odKey_area (by omega)
  have hdep : (Od.PTP_INST_STATS.delay_req n).area ≠ 0x44 := by omega
  have hcnt : (Od.PTP_INST_STATS.delay_req n).area ≠ 0x68 := by omega
  obtain hsent | ⟨k, -, hsent⟩ | ⟨g, frame, prio, hsent⟩ := e.ptpSend_cases x n d rx seq unicast event grid body <;> rw [hsent]
  · exact (h.inc64 (odKey_ne (by omega))).orb (odKey_ne (by omega)) _
  · exact (h.depMiss_port hdep hcnt hd k).inc64 (odKey_ne (by omega))
  · exact Eng.Spares.reserve hdep hcnt hd (h.trans (.ptpRateTake ..)) ..

include hd in
theorem Eng.CountsOf.ptpSend (h : Eng.CountsOf (· < 0xB00) a e) :
    Eng.CountsOf (· < 0xB00) a (e.ptpSend x n d rx seq unicast event grid body).2 := by
  obtain hsent | ⟨k, hk, hsent⟩ | ⟨g, frame, prio, hsent⟩ := e.ptpSend_cases x n d rx seq unicast event grid body <;> rw [hsent]
  · exact (h.inc64 _).orb _ _
  · exact (h.depMiss hd hk).inc64 _
  · exact Eng.CountsOf.reserve hd (h.step (c := e.ptpRateTake x) rfl) ..

end

/-! ## A message to one of the instances (Table 9-2) -/

/-- The frame is a Delay_Req without an AUTHENTICATION TLV that passes checks 1 to 5 of Table 9-2. -/
structure Eng.AdmitsDelayReq (e : Eng) (x : Ctx) (n : Nat) (f : PtpIn) : Prop where
  eclipse : e.flt.eclipse = false
  enabled : e.nAt (Od.PTP_INST.enable n) f.rxLin ≠ 0
  moon : (x.core.moon (e.nAt (Od.PTP_INST.moon n) f.rxLin)).adv = true
  transport : bitOf (e.nAt (Od.PTP_INST.transports n) f.rxLin)
    (if (e.ptpView f.bytes).ver = 4 then 0 else if (e.ptpView f.bytes).ver = 6 then 1 else 2) = true
  shape : ptpShapeOk (e.ptpView f.bytes).msg = true
  domain : byteAt (e.ptpView f.bytes).msg 4 = e.nAt (Od.PTP_INST.domain n) f.rxLin
  auth : e.authOf ((e.ptpView f.bytes).msg.take (beAt (e.ptpView f.bytes).msg 2 2)) 44 = .absent
  authOptional : e.nAt (Od.PTP_NEG.auth_required n) f.rxLin = 0
  type : ptpType (e.ptpView f.bytes).msg = 1

section
variable {e : Eng} {x : Ctx} {n : Nat} {f : PtpIn} {grid : List GridPoint}

/-- What comes while the target is off is dropped (check 1). -/
theorem Eng.ptpServe_off (h : e.nAt (Od.PTP_INST.enable n) f.rxLin = 0) : e.ptpServe x n f grid = e.ptpDrop n := by
  simp [Eng.ptpServe, h]

/-- A Delay_Req that passes checks 1 to 5 goes to check 7. -/
theorem Eng.ptpServe_delayReq (h : e.AdmitsDelayReq x n f) :
    e.ptpServe x n f grid = e.delayReq x n f (e.ptpView f.bytes) grid := by
  have hmin : ptpMinLen 1 = 44 := rfl
  unfold Eng.ptpServe
  dsimp only
  rw [if_neg (by simp [h.eclipse, h.enabled, h.moon]), if_neg (by simp [h.transport]), if_neg (by simp [h.shape]),
    if_neg (not_not.2 h.domain), if_neg (by simp [h.type, hmin, h.auth, h.authOptional]), if_pos h.type]

/-- A multicast Delay_Req on a port of the mask is counted, and its answer leaves that count (R200). -/
theorem Eng.delayReq_multicast_leaves (hn : n < 32) (hport : f.port < 32) {v : PtpView} (hmc : bitOf (byteAt v.msg 6) 2 = false)
    (hmask : bitOf (e.nAt (Od.PTP_INST.mc_port_mask n) f.rxLin) f.port = true) :
    Eng.Spares (Od.PTP_INST_STATS.delay_req n) ((e.inc64 (Od.PTP_INST_STATS.delay_req n)).count x 0xB18) (e.delayReq x n f v grid) ∧
    Eng.CountsOf (· < 0xB00) ((e.inc64 (Od.PTP_INST_STATS.delay_req n)).count x 0xB18) (e.delayReq x n f v grid) := by
  unfold Eng.delayReq
  rw [if_neg (Bool.eq_false_iff.1 hmc), if_pos hmask]
  dsimp only
  split
  · exact ⟨.ptpSend hn hport _ _ _ _ _ _ (.refl _ _), .ptpSend hport _ _ _ _ _ _ (.refl _ _)⟩
  · exact ⟨((Eng.Spares.refl _ _).inc64 (odKey_ne (by omega))).orb (odKey_ne (by omega)) _, ((Eng.CountsOf.refl _ _).inc64 _).orb _ _⟩

theorem Eng.delayReq_multicast_counts (hn : n < 32) (hport : f.port < 32) {v : PtpView} (hmc : bitOf (byteAt v.msg 6) 2 = false)
    (hmask : bitOf (e.nAt (Od.PTP_INST.mc_port_mask n) f.rxLin) f.port = true) :
    (e.delayReq x n f v grid).n (Od.PTP_INST_STATS.delay_req n) = (e.n (Od.PTP_INST_STATS.delay_req n) + 1) % 2 ^ 64 ∧
    (e.delayReq x n f v grid).seen 0xB18 = (e.seen 0xB18 + 1) % 2 ^ 48 := by
  obtain ⟨hobj, hev⟩ := e.delayReq_multicast_leaves (x := x) (grid := grid) hn hport hmc hmask
  constructor
  · calc (e.delayReq x n f v grid).n (Od.PTP_INST_STATS.delay_req n)
        = (e.inc64 (Od.PTP_INST_STATS.delay_req n)).n (Od.PTP_INST_STATS.delay_req n) :=
          congrArg Int.toNat (hobj.obj.trans (Eng.count_i _ _ _ _ (odKey_ne (by omega))))
      _ = _ := e.inc64_n_same _
  · exact (hev.seen _ (by decide)).trans (Eng.seen_count_same ..)

end

/-! ## A message of an upstream unit (R207) -/

theorem Eng.upServe_announce {e : Eng} {x : Ctx} {u : Nat} {f : PtpIn} {m : Bytes}
    (hm : m = (e.ptpView f.bytes).msg.take (beAt (e.ptpView f.bytes).msg 2 2)) (hon : e.upOn u = true)
    (hshape : ptpShapeOk (e.ptpView f.bytes).msg = true) (hdomain : byteAt m 4 = e.n (Od.PTP_UP.domain u))
    (hspp : e.n (Od.PTP_UP.auth_spp u) = 0xFF) (htype : ptpType m = 11) :
    e.upServe x u f = (e.modUp u fun g => { g with mac := some (e.ptpView f.bytes).p.src }).upAnnounce u m := by
  subst hm
  simp [Eng.upServe, hon, hshape, hdomain, hspp, htype]

/-- The two members that an Announce shows are different objects. -/
theorem Eng.upAnnounce_shows (e : Eng) (u : Nat) (m : Bytes) :
    (e.upAnnounce u m).n (Od.PTP_UP_STATUS.clock_class u) = byteAt m 48 ∧
    (e.upAnnounce u m).n (Od.PTP_UP_STATUS.gm_identity u) = leNat (slice m 53 8) :=
  ⟨congrArg Int.toNat (Eng.set_i_same ..),
    congrArg Int.toNat ((Eng.set_i_other _ _ _ _ (odKey_ne (by omega))).trans (Eng.set_i_same ..))⟩

/-! ## The command -/

/-- The engines once the message at the front is taken from the queue. -/
def State.ptpTaken (s : State) (rest : List PtpIn) : Eng := { s.eng0 with ptpIn := rest }

theorem State.ptpTaken_ptpView (s : State) (rest : List PtpIn) : (s.ptpTaken rest).ptpView = s.eng.ptpView := rfl

theorem State.ptpTaken_authOf (s : State) (rest : List PtpIn) : (s.ptpTaken rest).authOf = s.eng.authOf := rfl

section
variable {s : State} {f : PtpIn} {rest : List PtpIn} (hup : s.eng.up = true) (hin : s.eng.ptpIn = f :: rest) (grid : List GridPoint)

include hup hin

theorem exec_ptpReceive_serves (ht : f.target < 32) :
    exec (.ptpReceive grid) s = .next { s with eng := (s.ptpTaken rest).ptpServe s.ctx f.target f grid } := by
  rw [exec_ptpReceive, execPtpReceive, lift_up hup, State.eng0_ptpIn, hin]
  dsimp only
  rw [if_pos ht]
  rfl

theorem exec_ptpReceive_upstream {u : Nat} (ht : f.target = 32 + u) :
    exec (.ptpReceive grid) s = .next { s with eng := (s.ptpTaken rest).upServe s.ctx u f } := by
  rw [exec_ptpReceive, execPtpReceive, lift_up hup, State.eng0_ptpIn, hin]
  dsimp only
  rw [if_neg (by omega), ht, Nat.add_sub_cancel_left]
  rfl

end

/-- Settles O42: what comes for a target below 32 by `Eng.ptpServe_off` and `Eng.delayReq_multicast_counts`, what comes for an upstream
unit by `Eng.upServe_announce`, which takes an Announce whatever its sequenceId (log 25). -/
theorem ptpMessagesAreServed : Obligations.PtpMessagesAreServed := by
  rintro s grid f rest v m hup hin rfl rfl
  refine ⟨fun ht hoff => ?_, fun ht hport hecl hen hmoon htr hshape hdom hauth hopt htype hmc hmask => ?_,
    fun u ht hon hshape hdom hspp htype => ?_⟩
  · refine ⟨_, exec_ptpReceive_serves hup hin grid ht, ⟨rfl, rfl, rfl⟩, ?_⟩
    dsimp only
    rw [Eng.ptpServe_off (e := s.ptpTaken rest) hoff]
    exact ⟨rfl, Eng.inc64_n_same (s.ptpTaken rest) _⟩
  · have hadmits : (s.ptpTaken rest).AdmitsDelayReq s.ctx f.target f :=
      ⟨hecl, hen, hmoon, htr, hshape, hdom, by rw [s.ptpTaken_authOf, s.ptpTaken_ptpView, hauth], hopt, htype⟩
    refine ⟨_, exec_ptpReceive_serves hup hin grid ht, ⟨rfl, rfl, rfl⟩, ?_⟩
    dsimp only
    refine ⟨Eng.ptpServe_keeps (φ := .ptpIn) _ _ _ _ _ (by decide), ?_⟩
    rw [Eng.ptpServe_delayReq hadmits]
    exact Eng.delayReq_multicast_counts (e := s.ptpTaken rest) ht hport hmc hmask
  · refine ⟨_, exec_ptpReceive_upstream hup hin grid ht, ⟨rfl, rfl, rfl⟩, ?_⟩
    dsimp only
    refine ⟨Eng.upServe_keeps (φ := .ptpIn) _ _ _ _ (by decide), ?_⟩
    rw [Eng.upServe_announce (e := s.ptpTaken rest) rfl hon hshape hdom hspp htype]
    exact Eng.upAnnounce_shows ..

end Sys2Proof.Machine
end

section
/-! # Upstream units, and the settling of O44 (R207, R208)

What a unit sends leaves the objects of PTP where its port is one of the 32, since the departure objects of those stand in area 44. The
statement does not bound the port, and a port far beyond them counts its misses in an object of area 4C. -/

namespace Sys2Proof.Machine

/-! ## A slot's objects (R264, R269) -/

section
variable {j : Key} (hj : j.area ≠ 0x28) {a e : Eng} {x : Ctx} {s : Nat} (hs : s < 64)

theorem Eng.Spares.modSlot (j : Key) (e : Eng) (s : Nat) (f : SelSlot → SelSlot) : Eng.Spares j e (e.modSlot s f) := ⟨rfl, rfl⟩

theorem Eng.Spares.modSelMoon (j : Key) (e : Eng) (k : Nat) (f : SelMoon → SelMoon) : Eng.Spares j e (e.modSelMoon k f) := ⟨rfl, rfl⟩

include hj hs

theorem Eng.Spares.slotDown (h : Eng.Spares j a e) : Eng.Spares j a (e.slotDown x s) := by
  unfold Eng.slotDown Eng.noFigures
  refine .ite h (.trans ?_ (.foldl (fun e k => .ite (.modSelMoon j e k _) (.refl j e)) _ _))
  have hstate : Eng.Spares j a ((e.set (Od.SEL_SLOT_STATUS.state s) 1).inc32 Od.SEL_STATUS.disqualified) :=
    (h.set (ne_odKey_of_area hj (by omega)) _).inc32 (ne_odKey_of_area hj (by decide))
  refine ((hstate.set (ne_odKey_of_area hj (by omega)) _).trans (.modSlot j _ s _)).setAll ?_
  rintro q hq
  obtain ⟨i, hi, rfl⟩ := List.mem_map.1 hq
  have hi' := List.mem_range.1 hi
  exact ne_odKey_of_area hj (by omega)

theorem Eng.Spares.setCause (h : Eng.Spares j a e) (c : Nat) : Eng.Spares j a (e.setCause x s c) := by
  unfold Eng.setCause
  have hset : Eng.Spares j a (((e.orb (Od.SEL_SLOT_STATUS.causes s) (2 ^ c)).orb (Od.SEL_SLOT_STATUS.sticky s) (2 ^ c)).inc32
      (Od.SEL_SLOT_STATUS.disq_count s)) :=
    ((h.orb (ne_odKey_of_area hj (by omega)) _).orb (ne_odKey_of_area hj (by omega)) _).inc32 (ne_odKey_of_area hj (by omega))
  exact .ite h (.slotDown hj hs (.ite (hset.orb (ne_odKey_of_area hj (by decide)) _) hset))

theorem Eng.Spares.slotEligible (h : Eng.Spares j a e) : Eng.Spares j a (e.slotEligible s) :=
  ((h.set (ne_odKey_of_area hj (by omega)) _).set (ne_odKey_of_area hj (by omega)) _).trans (.modSlot j _ s _)

theorem Eng.Spares.clearCauses (h : Eng.Spares j a e) (mask : Nat) (direct : Bool) : Eng.Spares j a (e.clearCauses x s mask direct) := by
  have hcleared : Eng.Spares j a (e.andc (Od.SEL_SLOT_STATUS.causes s) mask) := h.set (ne_odKey_of_area hj (by omega)) _
  unfold Eng.clearCauses
  exact .ite hcleared (.ite (.slotEligible hj hs hcleared)
    (((hcleared.set (ne_odKey_of_area hj (by omega)) _).set (ne_odKey_of_area hj (by omega)) _).trans (.modSlot j _ s _)))

end

/-- The change of a source reaches objects of its slot, which are of the selector's area. -/
theorem Eng.Spares.sourceChanged {j : Key} (hj : j.area ≠ 0x28) {a e : Eng} {x : Ctx} (h : Eng.Spares j a e) (s : Nat) :
    Eng.Spares j a (e.sourceChanged x s) := by
  unfold Eng.sourceChanged
  split
  next hbound =>
    exact .ite (.ite (.clearCauses hj hbound.1 (h.trans (.modSlot j e s _)) _ _) h) (.setCause hj hbound.1 h _)
  next => exact h

/-! ## The units -/

section
variable {e : Eng} {x : Ctx} {u : Nat}

theorem Eng.up_of_ups {e' : Eng} (h : e'.ups = e.ups) (u : Nat) : e'.up_ u = e.up_ u := congrArg (nth · u UpUnit.atReset) h

theorem Eng.modUp_up (hu : u < e.ups.length) (f : UpUnit → UpUnit) : (e.modUp u f).up_ u = f (e.up_ u) :=
  (nth_modNth ..).trans (if_pos ⟨rfl, hu⟩)

theorem Eng.upSend_up (type seq : Nat) (body : Bytes) (grid : List GridPoint) (v : Nat) :
    (e.upSend x u type seq body grid).up_ v = e.up_ v :=
  Eng.up_of_ups (Eng.upSend_keeps (φ := .ups) _ _ _ _ _ _ _ (by decide)) v

/-! ## What a unit shows (Table 9-6) -/

theorem Eng.Spares.sourceChanged_of_ptp {j : Key} (hj : j.area = 0x4C) (e : Eng) (slot : Nat) :
    Eng.Spares j e (e.sourceChanged x slot) := .sourceChanged (by rw [hj]; decide) (.refl j e) slot

theorem Eng.upTo_state (hu : u < 16) (st : Nat) : (e.upTo x u st).n (Od.PTP_UP_STATUS.state u) = st := by
  unfold Eng.upTo
  split
  next h => exact h
  next => exact congrArg Int.toNat ((Eng.Spares.sourceChanged_of_ptp (odKey_area (by omega)) ..).obj.trans (Eng.set_i_same ..))

/-- Showing a state leaves every other object of PTP, and whether the device is in Eclipse. -/
theorem Eng.Spares.upTo {j : Key} (hj : j.area = 0x4C) (hstate : j ≠ Od.PTP_UP_STATUS.state u) (st : Nat) :
    Eng.Spares j e (e.upTo x u st) := by
  unfold Eng.upTo
  exact .ite (.refl j e) (((Eng.Spares.refl j e).set hstate _).trans (.sourceChanged_of_ptp hj ..))

theorem Eng.upTo_up (st v : Nat) : (e.upTo x u st).up_ v = e.up_ v :=
  Eng.up_of_ups (Eng.upTo_keeps (φ := .ups) _ _ _ _ (by decide)) v

theorem Eng.upTo_upOn (hu : u < 16) (st : Nat) : (e.upTo x u st).upOn u = e.upOn u := by
  have h : Eng.Spares (Od.PTP_UP.enable u) e (e.upTo x u st) := .upTo (odKey_area (by omega)) (odKey_ne (by omega)) st
  unfold Eng.upOn Eng.b
  rw [h.flt, h.obj]

/-- A unit that no master has refused is RUNNING while its grants hold, and NEGOTIATING otherwise (log 25). -/
theorem Eng.upJudge_eq (h : (e.up_ u).deniedAt = none) :
    e.upJudge x u = e.upTo x u (if upTypes.all (fun k => (e.up_ u).holds x.tick k) then 2 else 1) := by
  unfold Eng.upJudge
  rw [h, Option.isSome_none, if_neg Bool.false_ne_true]

/-! ## What a unit sends (R207) -/

/-- A message of a unit does not go, is refused a place, or is reserved one. -/
theorem Eng.upSend_cases (e : Eng) (x : Ctx) (u type seq : Nat) (body : Bytes) (grid : List GridPoint) :
    e.upSend x u type seq body grid = e ∨
    (∃ k, e.upSend x u type seq body grid = (e.upEnds x u).2.depMiss x (e.n (Od.PTP_UP.port u)) k) ∨
    ∃ g frame prio o, e.upSend x u type seq body grid =
      ((e.upEnds x u).2.ptpRateTake x).reserve x (e.n (Od.PTP_UP.port u)) g frame prio false o := by
  unfold Eng.upSend
  extract_lets spp sa
  split
  · exact .inl rfl
  · split
    next k hk => exact .inr (.inl ⟨k, rfl⟩)
    next g hg => exact .inr (.inr ⟨g, _, _, _, rfl⟩)

/-- On one of the ports, what a unit sends leaves the objects of PTP. -/
theorem Eng.Spares.upSend {j : Key} (hj : j.area = 0x4C) (hp : e.n (Od.PTP_UP.port u) < 32) (type seq : Nat) (body : Bytes)
    (grid : List GridPoint) : Eng.Spares j e (e.upSend x u type seq body grid) := by
  have hdep : j.area ≠ 0x44 := by rw [hj]; decide
  have hcnt : j.area ≠ 0x68 := by rw [hj]; decide
  have hends : Eng.Spares j e (e.upEnds x u).2 := ⟨rfl, rfl⟩
  obtain hsent | ⟨k, hsent⟩ | ⟨g, frame, prio, o, hsent⟩ := e.upSend_cases x u type seq body grid <;> rw [hsent]
  · exact .refl j e
  · exact hends.depMiss_port hdep hcnt hp k
  · exact .reserve hdep hcnt hp (hends.trans (.ptpRateTake ..)) ..

/-- A unit whose Delay_Req is due sends it, and the next is due one interval later (R207). -/
theorem Eng.upDelayReq_up (hu : u < e.ups.length) (grid : List GridPoint) (hon : e.upOn u = true) (hholds : (e.up_ u).holds x.tick 9 = true)
    (hdue : (e.up_ u).nextReq ≤ x.tick) (hrate : e.ptpRateOk x = true) :
    (e.upDelayReq x u grid).up_ u = { e.up_ u with
      nextReq := (e.up_ u).nextReq + logTicks (e.i (Od.PTP_UP.log_delay u)), reqSeq := ((e.up_ u).reqSeq + 1) % 65536,
      inFlight := some ((e.up_ u).reqSeq, none) } := by
  unfold Eng.upDelayReq
  dsimp only
  rw [if_neg (by simp [hon, hholds, hrate, Nat.not_lt.2 hdue]), Eng.upSend_up, Eng.modUp_up hu]

/-- A unit asks for the grants that are due in a message with the next sequence number (R207). -/
theorem Eng.upRenew_asks (hu : u < 16) (grid : List GridPoint) (hon : e.upOn u = true) (hdenied : (e.up_ u).deniedAt = none)
    (hdue : e.upDueTypes x u ≠ []) :
    ∃ (f : UpUnit → UpUnit) (body : Bytes), (∀ g, (f g).sigSeq = ((e.up_ u).sigSeq + 1) % 65536) ∧
      e.upRenew x u grid = ((e.upJudge x u).modUp u f).upSend x u 12 (e.up_ u).sigSeq body grid := by
  have hunit : (e.upJudge x u).up_ u = e.up_ u := by rw [Eng.upJudge_eq hdenied, Eng.upTo_up]
  have hdues : (e.upJudge x u).upDueTypes x u = e.upDueTypes x u := by
    unfold Eng.upDueTypes
    rw [hunit, Eng.upJudge_eq hdenied, Eng.upTo_upOn hu]
  unfold Eng.upRenew
  dsimp only
  rw [if_pos hon, hdues, hunit, if_neg (mt List.isEmpty_iff.1 hdue)]
  exact ⟨_, _, fun _ => rfl, rfl⟩

theorem Eng.upRenew_leaves (hu : u < 16) (hlen : u < e.ups.length) (hp : e.n (Od.PTP_UP.port u) < 32) (grid : List GridPoint)
    (hon : e.upOn u = true) (hdenied : (e.up_ u).deniedAt = none) (hdue : e.upDueTypes x u ≠ []) :
    ((e.upRenew x u grid).up_ u).sigSeq = ((e.up_ u).sigSeq + 1) % 65536 ∧
    (e.upRenew x u grid).n (Od.PTP_UP_STATUS.state u) = if upTypes.all (fun k => (e.up_ u).holds x.tick k) then 2 else 1 := by
  obtain ⟨f, body, hf, hasked⟩ := Eng.upRenew_asks (x := x) hu grid hon hdenied hdue
  have hups : (e.upJudge x u).ups = e.ups := Eng.upJudge_keeps (φ := .ups) e x u (by decide)
  have hport : (e.upJudge x u).n (Od.PTP_UP.port u) = e.n (Od.PTP_UP.port u) := by
    rw [Eng.upJudge_eq hdenied]
    exact congrArg Int.toNat (Eng.Spares.upTo (odKey_area (by omega)) (odKey_ne (by omega)) _).obj
  have hstate : (e.upRenew x u grid).n (Od.PTP_UP_STATUS.state u) = (e.upJudge x u).n (Od.PTP_UP_STATUS.state u) := by
    rw [hasked]
    exact congrArg Int.toNat (Eng.Spares.upSend (e := (e.upJudge x u).modUp u f) (odKey_area (by omega)) (hport.trans_lt hp) ..).obj
  constructor
  · rw [hasked, Eng.upSend_up, Eng.modUp_up (by rwa [hups]), hf]
  · rw [hstate, Eng.upJudge_eq hdenied, Eng.upTo_state hu]

end

/-! ## The statement with the port in its range -/

/-- What O44 says holds of a unit whose port is one of the 32 (Table 9-5). -/
theorem upstreamUnitsKeepTheirGrants_of_port_lt {s : State} {u : Fin 16} (hup : s.eng.up = true) (hlen : s.eng.ups.length = 16)
    (hport : s.eng.n (Od.PTP_UP.port u) < 32) :
    (∀ grid : List GridPoint, s.eng.upOn u = true → (s.eng.up_ u).holds s.core.tick 9 = true → (s.eng.up_ u).nextReq ≤ s.core.tick →
      s.eng.ptpRateOk s.ctx = true →
      ∃ t, exec (.upstreamDelayReq u grid) s = .next t ∧ s.beside t ∧
        t.eng.up_ u = { s.eng.up_ u with
          nextReq := (s.eng.up_ u).nextReq + logTicks (s.eng.i (Od.PTP_UP.log_delay u)),
          reqSeq := ((s.eng.up_ u).reqSeq + 1) % 65536, inFlight := some ((s.eng.up_ u).reqSeq, none) }) ∧
    (∀ grid : List GridPoint, s.eng.upOn u = true → (s.eng.up_ u).deniedAt = none → s.eng.upDueTypes s.ctx u ≠ [] →
      ∃ t, exec (.upstreamRenew u grid) s = .next t ∧ s.beside t ∧
        (t.eng.up_ u).sigSeq = ((s.eng.up_ u).sigSeq + 1) % 65536 ∧
        t.eng.n (Od.PTP_UP_STATUS.state u) = if upTypes.all (fun k => (s.eng.up_ u).holds s.core.tick k) then 2 else 1) ∧
    (s.eng.followLate s.ctx u = true →
      ∃ t, exec (.followUpTimeout u) s = .next t ∧ s.beside t ∧ t.eng.up_ u = { s.eng.up_ u with sync := none } ∧
        t.eng.od = s.eng.od) ∧
    ∀ since : Nat, (s.eng.up_ u).deniedAt = some since → s.eng.upOn u = true → s.ctx.passed since (60 * unitsPerSec) = true →
      ∃ t, exec (.upstreamRetry u) s = .next t ∧ s.beside t ∧ (t.eng.up_ u).deniedAt = none ∧
        t.eng.n (Od.PTP_UP_STATUS.state u) = 1 := by
  have hu : (u : Nat) < s.eng0.ups.length := by rw [State.eng0_ups, hlen]; exact u.isLt
  refine ⟨fun grid hon hholds hdue hrate => ?_, fun grid hon hdenied hdue => ?_, fun hlate => ?_, fun since hdenied hon hpassed => ?_⟩
  · exact ⟨_, (exec_upstreamDelayReq u grid s).trans (lift_up hup _), ⟨rfl, rfl, rfl⟩,
      Eng.upDelayReq_up (e := s.eng0) (x := s.ctx) hu grid hon hholds hdue hrate⟩
  · exact ⟨_, (exec_upstreamRenew u grid s).trans (lift_up hup _), ⟨rfl, rfl, rfl⟩,
      Eng.upRenew_leaves (e := s.eng0) (x := s.ctx) u.isLt hu hport grid hon hdenied hdue⟩
  · exact ⟨_, (exec_followUpTimeout u s).trans (lift_whenDue (due := fun x e => e.followLate x u) hup hlate), ⟨rfl, rfl, rfl⟩,
      Eng.modUp_up (e := s.eng0) hu _, rfl⟩
  · refine ⟨_, (exec_upstreamRetry u s).trans (lift_up hup _), ⟨rfl, rfl, rfl⟩, ?_⟩
    have hsince : (s.eng0.up_ u).deniedAt = some since := hdenied
    have hdue : (s.eng0.upOn u && s.ctx.passed since (60 * unitsPerSec)) = true := (Bool.and_eq_true ..).mpr ⟨hon, hpassed⟩
    dsimp only
    rw [hsince]
    dsimp only
    rw [if_pos hdue, Eng.upTo_up, Eng.modUp_up hu]
    exact ⟨rfl, Eng.upTo_state u.isLt 1⟩

/-! ## The statement as it stands -/

/-- Unit 0 is on and holds no grant. Its port is 32,960, whose count of misses, 44.8240/1, has the number of 4C.240/1: the unit's own
state. No write stores such a port, since PTP_UP.port is a U8 (Table 9-5), but the statement speaks of every state. -/
def unitOnNoPort : State :=
  { State.reset with eng := { State.reset.eng with
    boot := { State.reset.eng.boot with phase := .running }
    od := [(Od.PTP_UP.enable 0, 1), (Od.PTP_UP.port 0, 32960)] } }

/-- The unit asks for its grants and is NEGOTIATING; its message is refused a place, and counting that miss makes the state RUNNING. -/
theorem unitOnNoPort_renews :
    ∃ t, exec (.upstreamRenew 0 []) unitOnNoPort = .next t ∧ t.eng.n (Od.PTP_UP_STATUS.state (0 : Fin 16)) = 2 := by
  refine ⟨_, (exec_upstreamRenew 0 [] unitOnNoPort).trans (lift_up (by decide +kernel) _), ?_⟩
  decide +kernel

/-- Refutes O44: a unit that holds no grant is shown RUNNING after its renewal where PTP_UP.port is 32,960, which the statement admits.
With a port of Table 9-5 what it says holds, by `upstreamUnitsKeepTheirGrants_of_port_lt`. -/
theorem not_upstreamUnitsKeepTheirGrants : ¬ Obligations.UpstreamUnitsKeepTheirGrants := by
  intro h
  obtain ⟨-, hrenew, -⟩ := h unitOnNoPort 0 (by decide +kernel) (by decide +kernel)
  obtain ⟨t, ht, -, -, hstate⟩ := hrenew [] (by decide +kernel) (by decide +kernel) (by decide +kernel)
  obtain ⟨t', ht', hrunning⟩ := unitOnNoPort_renews
  have hgrants : upTypes.all (fun k => (unitOnNoPort.eng.up_ (0 : Fin 16)).holds unitOnNoPort.core.tick k) = false := by decide +kernel
  rw [hgrants, if_neg Bool.false_ne_true, ← Host.Outcome.next.inj (ht'.symm.trans ht), hrunning] at hstate
  exact absurd hstate (by decide)

end Sys2Proof.Machine
end

section
/-! # What a measurement and a state of an input reach (R215, R256, R264, R271)

The selector's objects lie in area 28 and steering's in area 2C: an object of another area is spared by what a source reports. -/

namespace Sys2Proof.Machine

/-- A measurement that reaches the loops shows a phase error of steering. -/
theorem Eng.Spares.feedLoops {j : Key} (hj : j.area ≠ 0x2C) {a e : Eng} (h : Eng.Spares j a e) (s : Nat) (r : RawMeas) :
    Eng.Spares j a (e.feedLoops s r) := by
  unfold Eng.feedLoops
  refine List.foldlRecOn _ _ h fun b hb k hk => .ite ?_ hb
  have hk : k < 32 := List.mem_range.1 hk
  have hfed (f : SteerUnit → SteerUnit) (g : SelMoon → SelMoon) : Eng.Spares j a ((b.modUnit k f).modSelMoon k g) := hb.trans ⟨rfl, rfl⟩
  exact .ite ((hfed _ _).set (ne_odKey_of_area hj (by omega)) _) (hfed _ _)

section
variable {j : Key} (hj : j.area ≠ 0x28) {a e : Eng} {x : Ctx}

include hj

/-- Binding the slots anew writes objects of the slots. -/
theorem Eng.Spares.rebind (h : Eng.Spares j a e) : Eng.Spares j a (e.rebind x) := by
  unfold Eng.rebind
  refine List.foldlRecOn _ _ h fun b hb s hs => ?_
  have hs : s < 64 := List.mem_range.1 hs
  refine .ite hb ?_
  have hbound := Eng.Spares.setAll (hb.trans (.modSlot j b s fun _ => { SelSlot.atReset with source := sourceOf b.od s, heard := x.st 0 }))
    (vs := [(Od.SEL_SLOT_STATUS.source s, (sourceOf b.od s : Int)), (Od.SEL_SLOT_STATUS.causes s, 0), (Od.SEL_SLOT_STATUS.state s, 0)])
    (by simp only [List.forall_mem_cons, List.not_mem_nil, false_imp_iff, implies_true, and_true]
        exact ⟨ne_odKey_of_area hj (by omega), ne_odKey_of_area hj (by omega), ne_odKey_of_area hj (by omega)⟩)
  exact .ite hbound (.sourceChanged hj (.setCause hj hs hbound _) s)

variable {s : Nat} (hs : s < 64)

include hs

theorem Eng.Spares.rebase (h : Eng.Spares j a e) (mask : Nat) (direct : Bool) : Eng.Spares j a (e.rebase x s mask direct) :=
  .clearCauses hj hs (h.trans (.modSlot j e s _)) mask direct

/-- The jump test of a measurement writes objects of its slot. -/
theorem Eng.Spares.testJump (h : Eng.Spares j a e) (r : RawMeas) : Eng.Spares j a (e.testJump x s r).2 := by
  unfold Eng.testJump
  dsimp only
  split
  case h_1 =>
    have hpred := h.trans (.modSlot j e s fun t => { t with pred := some r, outlier := none })
    split
    · exact .rebase hj hs hpred _ _
    · exact hpred
  case h_2 d _ =>
    exact (h.trans (.modSlot j e s fun t => { t with outlier := some d })).orb (ne_odKey_of_area hj (by omega)) _
  case h_3 =>
    split
    · exact h
    · exact .setCause hj hs (h.trans (.modSlot j e s _)) _

omit hs

/-- A measurement without a path delay writes objects of its slot, and of the moons it steers. -/
theorem Eng.Spares.deliver (hj' : j.area ≠ 0x2C) (h : Eng.Spares j a e) (slot : Nat) {m : Meas} (hm : m.delay = none) :
    Eng.Spares j a (e.deliver x slot m) := by
  unfold Eng.deliver
  split
  next => exact h
  next hslot =>
    have hs : slot < 64 := by omega
    refine .ite (h.orb (ne_odKey_of_area hj (by omega)) _) ?_
    extract_lets r silent e1 e2 e3 p q
    have h2 : Eng.Spares j a e2 := .clearCauses hj hs (h.trans (.modSlot j e slot _)) _ _
    have h3 : Eng.Spares j a e3 := h2.setAll (by
      simp only [List.forall_mem_cons, List.not_mem_nil, false_imp_iff, implies_true, and_true]
      exact ⟨ne_odKey_of_area hj (by omega), ne_odKey_of_area hj (by omega), ne_odKey_of_area hj (by omega)⟩)
    have hp : p = (true, e3) := by
      unfold p
      rw [hm]
    have hq : Eng.Spares j a q.2 := by
      unfold q
      rw [hp]
      split
      · exact .testJump hj hs h3 r
      · exact h3
    exact .ite (.feedLoops hj' hq slot r) hq

end

end Sys2Proof.Machine
end

section
/-! # Compare edges and causes of an input (R214 to R216) -/

namespace Sys2Proof.Machine

/-! ## A cause (R216, R217) -/

section
variable {a e : Eng} {x : Ctx} {n : Nat}

theorem Eng.Spares.modRefin (j : Key) (e : Eng) (n : Nat) (f : RefinUnit → RefinUnit) : Eng.Spares j e (e.modRefin n f) := ⟨rfl, rfl⟩

/-- No object of an input is one of the selector's. -/
theorem refinKey_area {i m : Nat} (him : i * 16 + m < 65536) : (odKey 0x20 i m).area ≠ 0x28 := by
  rw [odKey_area him]
  decide

/-- A state of an input reaches objects of its slot. -/
theorem Eng.Spares.refinState {j : Key} (hj : j.area ≠ 0x28) (hstate : j ≠ Od.REFIN_STATUS.state n) (h : Eng.Spares j a e) (st : Nat) :
    Eng.Spares j a (e.refinState x n st) := (h.set hstate _).sourceChanged hj _

theorem Eng.refinState_shows (hn : n < 8) (st : Nat) : (e.refinState x n st).n (Od.REFIN_STATUS.state n) = st :=
  congrArg Int.toNat ((Eng.Spares.sourceChanged (refinKey_area (by omega)) (.refl _ _) _).obj.trans (Eng.set_i_same ..))

variable (bit : Nat)

/-- A cause is shown in the members 1 to 5 of the input's status. -/
theorem Eng.Spares.refinCause {j : Key} (hj : j.area ≠ 0x28) (hm : ∀ m ≤ 5, j ≠ odKey 0x20 (0x120 + n) m)
    (h : Eng.Spares j a e) : Eng.Spares j a (e.refinCause x n bit) := by
  unfold Eng.refinCause
  extract_lets e1 e2 e3
  have h1 : Eng.Spares j a e1 := h.trans (.modRefin ..)
  have h3 : Eng.Spares j a e3 := (((h1.orb (hm 2 (by decide)) _).orb (hm 3 (by decide)) _).inc32 (hm 4 (by decide))).set (hm 5 (by decide)) _
  exact .ite h1 (.ite h3 (h3.refinState hj (hm 1 (by decide)) _))

theorem Eng.Spares.refinCauseIf {j : Key} (hj : j.area ≠ 0x28) (hm : ∀ m ≤ 5, j ≠ odKey 0x20 (0x120 + n) m)
    (h : Eng.Spares j a e) (present : Bool) : Eng.Spares j a (e.refinCauseIf x n bit present) :=
  .ite (.refinCause bit hj hm h) h

theorem Eng.Spares.sibCauses {j : Key} (hj : j.area ≠ 0x28) (hm : ∀ m ≤ 5, j ≠ odKey 0x20 (0x120 + n) m)
    (h : Eng.Spares j a e) : Eng.Spares j a (e.sibCauses x n) := by
  unfold Eng.sibCauses
  split
  · exact h
  · exact .refinCauseIf _ hj hm (.refinCauseIf _ hj hm h _) _

theorem bitOf_or_two_pow (v : Nat) : bitOf (v ||| 2 ^ bit) bit = true := by
  rw [bitOf, Nat.testBit_or, Nat.testBit_two_pow_self, Bool.or_true]

/-- A cause that is set already stays. -/
theorem Eng.refinCause_kept (hset : bitOf (e.n (Od.REFIN_STATUS.causes n)) bit = true) :
    bitOf ((e.refinCause x n bit).n (Od.REFIN_STATUS.causes n)) bit = true := by
  unfold Eng.refinCause
  extract_lets e1
  rw [if_pos (show bitOf (e1.n (Od.REFIN_STATUS.causes n)) bit = true from hset)]
  exact hset

/-- A cause that was not set is set, and the input fails at the tick. -/
theorem Eng.refinCause_fails (hn : n < 8) (hon : e.n (Od.REFIN_STATUS.state n) ≠ 0)
    (hclear : bitOf (e.n (Od.REFIN_STATUS.causes n)) bit = false) :
    bitOf ((e.refinCause x n bit).n (Od.REFIN_STATUS.causes n)) bit = true ∧
    (e.refinCause x n bit).n (Od.REFIN_STATUS.state n) = 1 ∧
    (e.refinCause x n bit).n (Od.REFIN_STATUS.last_fail_tick n) = x.tick := by
  unfold Eng.refinCause
  extract_lets e1 e2 e3
  have hcauses : Eng.Spares (Od.REFIN_STATUS.causes n) e2 e3 :=
    ((Eng.Spares.refl _ e2).inc32 (odKey_ne (by omega))).set (odKey_ne (by omega)) _
  have hstate : Eng.Spares (Od.REFIN_STATUS.state n) e1 e3 :=
    ((((Eng.Spares.refl _ e1).orb (odKey_ne (by omega)) _).orb (odKey_ne (by omega)) _).inc32 (odKey_ne (by omega))).set
      (odKey_ne (by omega)) _
  rw [if_neg (show ¬ bitOf (e1.n (Od.REFIN_STATUS.causes n)) bit = true from Bool.eq_false_iff.1 hclear),
    if_neg (show ¬ e3.n (Od.REFIN_STATUS.state n) = 0 by rw [Eng.n, hstate.obj]; exact hon)]
  refine ⟨?_, Eng.refinState_shows hn 1, ?_⟩
  · have hset : e2.i (Od.REFIN_STATUS.causes n) = (e1.n (Od.REFIN_STATUS.causes n) ||| 2 ^ bit : Nat) :=
      (Eng.set_i_other _ _ _ _ (odKey_ne (by omega))).trans (Eng.set_i_same ..)
    have hshown : Eng.Spares (Od.REFIN_STATUS.causes n) e2 (e3.refinState x n 1) :=
      hcauses.refinState (refinKey_area (by omega)) (odKey_ne (by omega)) 1
    rw [Eng.n, hshown.obj, hset]
    exact bitOf_or_two_pow bit _
  · exact congrArg Int.toNat
      (((Eng.Spares.refl _ e3).refinState (refinKey_area (by omega)) (odKey_ne (by omega)) 1).obj.trans (Eng.set_i_same ..))

end

/-! ## An edge (R214) -/

section
variable {a e : Eng} {x : Ctx} {n c : Nat}

theorem Eng.Spares.modTod (j : Key) (e : Eng) (f : TodUnit → TodUnit) : Eng.Spares j e (e.modTod f) := ⟨rfl, rfl⟩

theorem Eng.Spares.todAccept {j : Key} (hm : ∀ m ≤ 7, j ≠ odKey 0x20 0x301 m) (h : Eng.Spares j a e) (tai : Int) (k : Nat) :
    Eng.Spares j a (e.todAccept tai k) := by
  have hgood := (h.inc32 (hm 3 (by decide))).set (hm 1 (by decide)) ((wtOf (tai * secU) : Nat) : Int)
  unfold Eng.todAccept
  exact .ite (hgood.trans (.modTod ..)) (((hgood.inc32 (hm 6 (by decide))).orb (hm 7 (by decide)) _).trans (.modTod ..))

theorem Eng.Spares.todEdge {j : Key} (hm : ∀ m ≤ 7, j ≠ odKey 0x20 0x301 m) (h : Eng.Spares j a e) (lin : Nat) :
    Eng.Spares j a (e.todEdge lin) := by
  unfold Eng.todEdge
  extract_lets e1 lost
  have h1 : Eng.Spares j a e1 := h.trans (.modTod ..)
  exact .ite (.trans (.ite (h1.orb (hm 7 (by decide)) _) h1) (.modTod ..)) h1

/-- An edge of the labelled input is shown in the status of the time-of-day input. -/
theorem Eng.Spares.todEdgeLabelled {j : Key} (hm : ∀ m ≤ 7, j ≠ odKey 0x20 0x301 m) (h : Eng.Spares j a e) (lin : Nat) :
    Eng.Spares j a (e.todEdgeLabelled lin) := by
  have hedge := h.todEdge hm lin
  unfold Eng.todEdgeLabelled
  split
  · exact hedge
  · exact .ite (.todAccept hm hedge _ _) ((hedge.inc32 (hm 5 (by decide))).orb (hm 7 (by decide)) _)

/-- An edge that is measured is shown in REFIN_MEAS at its tick, and then reaches its slot. -/
theorem Eng.refinMeasure_shows {j : Key} (hj : j.area ≠ 0x28) (hcause : ∀ m ≤ 5, j ≠ odKey 0x20 (0x120 + n) m)
    (htod : ∀ m ≤ 7, j ≠ odKey 0x20 0x301 m) : ∃ (e' e'' : Eng) (vs : List (Key × Int)), Eng.Spares j e e' ∧
      (∀ p ∈ vs, ∃ m, 2 ≤ m ∧ m ≤ 6 ∧ p.1 = odKey 0x20 (0x130 + n) m) ∧
      e'' = e'.setAll ((Od.REFIN_MEAS.tick n, (x.tick : Int)) :: vs) ∧
      (e.refinMeasure x n c = e'' ∨ ∃ slot m, Meas.delay m = none ∧ e.refinMeasure x n c = e''.deliver x slot m) := by
  unfold Eng.refinMeasure
  extract_lets u p g inst phase unw hist ff e1 e2 e3 secs so e4 full fo uncal st tick bound flags e5
  have h2 : Eng.Spares j e e2 := .refinCauseIf 3 hj hcause (.modRefin ..) _
  have h3 : Eng.Spares j e e3 := .ite (h2.todEdgeLabelled htod c) h2
  have h4 : Eng.Spares j e e4 := .ite (h3.set (htod 2 (by decide)) _) h3
  refine ⟨e4, e5, _, h4, ?_, rfl, ?_⟩
  · simp only [List.forall_mem_cons, List.not_mem_nil, false_imp_iff, implies_true, and_true]
    exact ⟨⟨2, by decide, by decide, rfl⟩, ⟨3, by decide, by decide, rfl⟩, ⟨4, by decide, by decide, rfl⟩,
      ⟨5, by decide, by decide, rfl⟩, ⟨6, by decide, by decide, rfl⟩⟩
  · split
    · exact .inr ⟨_, _, rfl, rfl⟩
    · exact .inl rfl

/-- What a measured edge delivers leaves the objects of the inputs. -/
theorem Eng.refinMeasure_spares {j : Key} (hj : j.area = 0x20) (hcause : ∀ m ≤ 5, j ≠ odKey 0x20 (0x120 + n) m)
    (htod : ∀ m ≤ 7, j ≠ odKey 0x20 0x301 m) (hmeas : ∀ m ≤ 6, j ≠ odKey 0x20 (0x130 + n) m) :
    Eng.Spares j e (e.refinMeasure x n c) := by
  have hsel : j.area ≠ 0x28 := by rw [hj]; decide
  have hsteer : j.area ≠ 0x2C := by rw [hj]; decide
  obtain ⟨e', e'', vs, he', hvs, rfl, hends⟩ := Eng.refinMeasure_shows (e := e) (x := x) (c := c) hsel hcause htod
  have he'' : Eng.Spares j e (e'.setAll ((Od.REFIN_MEAS.tick n, (x.tick : Int)) :: vs)) := he'.setAll (List.forall_mem_cons.2
    ⟨hmeas 1 (by decide), fun p hp => by
      obtain ⟨m, -, hm, hpm⟩ := hvs p hp
      rw [hpm]
      exact hmeas m hm⟩)
  obtain hends | ⟨slot, m, hm, hends⟩ := hends
  · rwa [hends]
  · rw [hends]
    exact .deliver hsel hsteer he'' slot hm

/-- The measurement shown is the edge's, by its tick. -/
theorem Eng.refinMeasure_tick (hn : n < 8) : (e.refinMeasure x n c).n (Od.REFIN_MEAS.tick n) = x.tick := by
  have hsel : (Od.REFIN_MEAS.tick n).area ≠ 0x28 := refinKey_area (by omega)
  have hsteer : (Od.REFIN_MEAS.tick n).area ≠ 0x2C := by
    rw [Od.REFIN_MEAS.tick, odKey_area (by omega)]
    decide
  obtain ⟨e', e'', vs, -, hvs, rfl, hends⟩ :=
    Eng.refinMeasure_shows (e := e) (x := x) (n := n) (c := c) hsel (fun m hm => odKey_ne (by omega)) (fun m hm => odKey_ne (by omega))
  have hshown : (e'.setAll ((Od.REFIN_MEAS.tick n, (x.tick : Int)) :: vs)).i (Od.REFIN_MEAS.tick n) = x.tick := by
    rw [Eng.setAll_cons]
    refine (Eng.setAll_i_other _ _ _ fun p hp => ?_).trans (Eng.set_i_same ..)
    obtain ⟨m, hm, -, hpm⟩ := hvs p hp
    rw [hpm]
    exact odKey_ne (by omega)
  obtain hends | ⟨slot, m, hm, hends⟩ := hends
  · rw [hends, Eng.n, hshown, Int.toNat_natCast]
  · have hdelivered := (Eng.Spares.deliver (x := x) hsel hsteer (.refl _ (e'.setAll ((Od.REFIN_MEAS.tick n, (x.tick : Int)) :: vs))) slot hm).obj
    rw [hends, Eng.n, hdelivered, hshown, Int.toNat_natCast]

/-- An edge that is not early is judged, counted, judged again and measured (R214, R216). -/
theorem Eng.refinEdge_measured (short : Bool) (width : Nat) (hon : e.n (Od.REFIN_STATUS.state n) ≠ 0) (hrun : (e.refin n).restart = false)
    (hlate : ∀ q, (e.refin n).prev = some q → e.n (Od.REFIN_CFG.mode n) = 0 →
      q + e.refinPeriod n ≤ c + e.n (Od.REFIN_QUAL.window n)) :
    ∃ glitch off : Bool, e.refinEdge x n c short width =
      ((((e.refinCauseIf x n 1 glitch).inc64 (Od.REFIN_STATUS.edges n)).refinCauseIf x n 2 off).sibCauses x n).refinMeasure x n c := by
  unfold Eng.refinEdge
  extract_lets u p pps w early off e1
  have hearly : early = false := by
    unfold early
    split
    next q hq =>
      have hlate' : pps = true → q + p ≤ c + w := fun hpps => hlate q hq (beq_iff_eq.1 hpps)
      rw [Bool.and_eq_false_imp]
      exact fun hpps => decide_eq_false (Nat.not_lt.2 (hlate' hpps))
    next => rfl
  rw [if_neg (not_or.2 ⟨hon, Bool.eq_false_iff.1 hrun⟩), if_neg (Bool.eq_false_iff.1 hearly)]
  exact ⟨_, _, rfl⟩

/-- Such an edge is counted once, and measured at its tick. -/
theorem Eng.refinEdge_counts (hn : n < 8) (short : Bool) (width : Nat) (hon : e.n (Od.REFIN_STATUS.state n) ≠ 0)
    (hrun : (e.refin n).restart = false)
    (hlate : ∀ q, (e.refin n).prev = some q → e.n (Od.REFIN_CFG.mode n) = 0 →
      q + e.refinPeriod n ≤ c + e.n (Od.REFIN_QUAL.window n)) :
    (e.refinEdge x n c short width).n (Od.REFIN_STATUS.edges n) = (e.n (Od.REFIN_STATUS.edges n) + 1) % 2 ^ 64 ∧
    (e.refinEdge x n c short width).n (Od.REFIN_MEAS.tick n) = x.tick := by
  obtain ⟨glitch, off, hedge⟩ := Eng.refinEdge_measured (x := x) short width hon hrun hlate
  have hsel : (Od.REFIN_STATUS.edges n).area ≠ 0x28 := refinKey_area (by omega)
  have hcause (m : Nat) (hm : m ≤ 5) : Od.REFIN_STATUS.edges n ≠ odKey 0x20 (0x120 + n) m := odKey_ne (by omega)
  have hbefore : Eng.Spares (Od.REFIN_STATUS.edges n) e (e.refinCauseIf x n 1 glitch) := .refinCauseIf 1 hsel hcause (.refl _ e) glitch
  have hafter := ((((Eng.Spares.refl _ ((e.refinCauseIf x n 1 glitch).inc64 (Od.REFIN_STATUS.edges n))).refinCauseIf
    (x := x) 2 hsel hcause off).sibCauses (x := x) hsel hcause).trans (Eng.refinMeasure_spares (x := x) (c := c) (odKey_area (by omega)) hcause
      (fun m hm => odKey_ne (by omega)) (fun m hm => odKey_ne (by omega)))).obj
  rw [hedge]
  refine ⟨?_, Eng.refinMeasure_tick hn⟩
  rw [Eng.n, hafter]
  exact (Eng.inc64_n_same ..).trans (by rw [Eng.n, hbefore.obj]; rfl)

end
end Sys2Proof.Machine
end

section
/-! # The records of an input (R211, R212, R215, R344, R345) -/

namespace Sys2Proof.Machine

/-! ## The write of a record -/

/-- A command's admitted write of a record that its chapter accepts answers OK beside what the chapter does. -/
theorem lift_recCmd_answersOk {s : State} {area item roles : Nat} {w : RecWrite} {op : Ctx → List (Key × Int) → Eng → WriteRes} {e : Eng}
    (hup : s.eng.up = true) (had : s.eng.admitsRec area item w roles = true)
    (ho : op s.ctx (recValues area item w) s.eng0 = (stOk, e)) :
    ∃ t, lift (fun x e => e.recCmd x area item w roles (op x)) s = .next t ∧ s.Answers stOk e t := by
  cases w with
  | member m v =>
    exact lift_writeCmd_answersOk (op := fun x => op x [(odKey area item m, v)]) hup (Bool.and_eq_true_iff.1 had).2 ho
  | whole vs =>
    obtain ⟨hlen, ha⟩ := Bool.and_eq_true_iff.1 had
    obtain ⟨p, hp⟩ := Eng.writeRecCmd_ok (e := s.eng0) (k := odKey area item 0) s.ctx ha ho
    refine ⟨_, lift_up hup _, ?_⟩
    rw [show s.eng0.recCmd s.ctx area item (.whole vs) roles (op s.ctx) = e.account s.ctx p stOk from
      (if_neg (not_not.2 (beq_iff_eq.1 hlen))).trans hp]
    exact s.answers_account stOk e p

/-- The writable members of each record of the inputs are different objects of area 20. -/
theorem refinRecKeys : ∀ item ∈ List.range' 0x100 8 ++ List.range' 0x110 8,
    (recKeys 0x20 item).Nodup ∧ ∀ k ∈ recKeys 0x20 item, ∃ m < 16, k = odKey 0x20 item m := by
  decide +kernel

/-- What an admitted write of a record of an input names: members of the record, each once. -/
theorem refinValues_names {e : Eng} {item roles : Nat} {w : RecWrite} (hitem : item ∈ List.range' 0x100 8 ++ List.range' 0x110 8)
    (had : e.admitsRec 0x20 item w roles = true) :
    ((recValues 0x20 item w).map Prod.fst).Nodup ∧ ∀ p ∈ recValues 0x20 item w, ∃ m < 16, p.1 = odKey 0x20 item m := by
  obtain ⟨hnodup, hmem⟩ := refinRecKeys item hitem
  cases w with
  | member m v =>
    refine ⟨List.nodup_singleton _, fun p hp => ⟨m, of_decide_eq_true (Bool.and_eq_true_iff.1 had).1, ?_⟩⟩
    rw [List.mem_singleton.1 hp]
  | whole vs =>
    have hlen : vs.length = (recKeys 0x20 item).length := beq_iff_eq.1 (Bool.and_eq_true_iff.1 had).1
    refine ⟨?_, fun p hp => hmem _ (List.of_mem_zip hp).1⟩
    rwa [recValues, List.map_fst_zip hlen.ge]

/-! ## What each record's write does -/

theorem Eng.refin_of_refins {e e' : Eng} (h : e'.refins = e.refins) (n : Nat) : e'.refin n = e.refin n :=
  congrArg (nth · n RefinUnit.atReset) h

/-- The input restarts at the next boundary. -/
def Eng.refinRestarts (e : Eng) (n : Nat) : Eng := e.modRefin n (fun u => { u with restart := true })

theorem Eng.refinRestarts_restart (e : Eng) (n : Nat) : ((e.refinRestarts n).refin n).restart = true := by
  unfold Eng.refinRestarts Eng.modRefin Eng.refin
  rw [nth_modNth]
  split
  next => rfl
  next h =>
    have hlen : e.refins.length ≤ n := Nat.le_of_not_lt fun hlt => h ⟨rfl, hlt⟩
    rw [nth, List.getD_eq_default _ _ hlen]
    rfl

section
variable {e : Eng} {n : Nat} {vs : List (Key × Int)}

theorem refinQualWrite_stores (hfine : (e.setAll vs).n (Od.REFIN_QUAL.window_fine n) ≤ (e.setAll vs).n (Od.REFIN_QUAL.window n)) :
    refinQualWrite n vs e = (stOk, (e.setAll vs).refinRestarts n) := by
  refine if_neg ?_
  rw [decide_eq_false (Nat.not_lt.2 hfine), Bool.and_false]
  exact Bool.false_ne_true

theorem refinCfgWrite_stores (x : Ctx) (hallowed : (e.setAll vs).refinAllowed n = true)
    (hsib : names vs [Od.REFIN_CFG.sibling n] = true → (e.setAll vs).n (Od.REFIN_CFG.sibling n) ≠ (e.setAll vs).n Od.SEG.member)
    (hslot : slotCheck (e.setAll vs).od (srcRefin n) ((e.setAll vs).n (Od.REFIN_CFG.slot n)) = stOk) :
    refinCfgWrite x n vs e = (stOk, ((e.setAll vs).refinRestarts n).rebind x) := by
  have hnamed : names vs [Od.REFIN_CFG.sibling n] = vs.any (fun p => p.1 == Od.REFIN_CFG.sibling n) :=
    List.any_congr rfl fun p => Bool.or_false _
  unfold refinCfgWrite
  extract_lets f named st
  have hother : (named && f.n (Od.REFIN_CFG.sibling n) == f.n Od.SEG.member) = false := by
    rw [Bool.and_eq_false_imp]
    exact fun h => beq_eq_false_iff_ne.2 (hsib (hnamed.trans h))
  have hfree : (st != stOk) = false := bne_eq_false_iff_eq.2 hslot
  rw [hallowed, hother, hfree, Bool.not_true, Bool.and_false, Bool.or_false, Bool.and_false, if_neg Bool.false_ne_true,
    if_neg Bool.false_ne_true]
  rfl

end

/-! ## The commands -/

/-- What differs from the engines in objects and in the inputs differs in objects alone, the inputs apart. -/
theorem Eng.onlyObjects_refins {a b c : Eng} {us : List RefinUnit} (h : a.onlyObjects b)
    (hc : ({ b with refins := us } : Eng).onlyObjects c) : a.onlyObjects { c with refins := a.refins } := by
  unfold Eng.onlyObjects at h hc
  rw [h] at hc
  rw [hc]
  rfl

section
variable {s : State} {input : Fin 8} {w : RecWrite} {roles : Nat} (hup : s.eng.up = true)

/-- What an input's unit is after the answer. -/
theorem State.Answers.refin {t : State} {st : Nat} {e : Eng} (h : s.Answers st e t) (n : Nat) : t.eng.refin n = e.refin n :=
  Eng.refin_of_refins (congrArg Eng.refins h.rest :) n

include hup

theorem exec_refinConfigWrite_qual (had : s.eng.admitsRec 0x20 (0x110 + input) w roles = true)
    (hfine : (s.eng.setAll (recValues 0x20 (0x110 + input) w)).n (Od.REFIN_QUAL.window_fine input) ≤
      (s.eng.setAll (recValues 0x20 (0x110 + input) w)).n (Od.REFIN_QUAL.window input)) :
    ∃ t, exec (.refinConfigWrite input true w roles) s = .next t ∧ s.stored t (recValues 0x20 (0x110 + input) w) ∧
      (t.eng.refin input).restart = true ∧ s.eng.onlyObjects { t.eng with refins := s.eng.refins } := by
  have hitem : 0x110 + (input : Nat) ∈ List.range' 0x100 8 ++ List.range' 0x110 8 := by
    simp only [List.mem_append, List.mem_range'_1]
    omega
  obtain ⟨hnodup, hmem⟩ := refinValues_names hitem had
  have hwrite : refinQualWrite input (recValues 0x20 (0x110 + input) w) s.eng0 = (stOk, _) :=
    refinQualWrite_stores (by rw [s.eng0_setAll]; exact hfine)
  obtain ⟨t, ht, hans⟩ := lift_recCmd_answersOk (op := fun _ => refinQualWrite input) hup had hwrite
  refine ⟨t, ht, ⟨hans.status, fun p hp => ?_, fun k hk hacc => ?_, hans.beside⟩, ?_,
    Eng.onlyObjects_refins (Eng.setAll_onlyObjects s.onlyObjects_eng0 _) hans.rest⟩
  · obtain ⟨m, hm, hpm⟩ := hmem p hp
    rw [hans.obj _ (by rw [hpm]; exact accounting_area (by decide) (by omega))]
    exact Eng.setAll_i_mem _ _ hnodup p hp
  · exact (hans.obj k hacc).trans (Eng.setAll_i_other _ _ k hk)
  · rw [hans.refin]
    exact Eng.refinRestarts_restart ..

theorem exec_refinConfigWrite_cfg (had : s.eng.admitsRec 0x20 (0x100 + input) w roles = true)
    (hallowed : (s.eng.setAll (recValues 0x20 (0x100 + input) w)).refinAllowed input = true)
    (hsib : names (recValues 0x20 (0x100 + input) w) [Od.REFIN_CFG.sibling input] = true →
      (s.eng.setAll (recValues 0x20 (0x100 + input) w)).n (Od.REFIN_CFG.sibling input) ≠ s.eng.n Od.SEG.member)
    (hslot : slotCheck (s.eng.setAll (recValues 0x20 (0x100 + input) w)).od (srcRefin input)
      ((s.eng.setAll (recValues 0x20 (0x100 + input) w)).n (Od.REFIN_CFG.slot input)) = stOk) :
    ∃ t, exec (.refinConfigWrite input false w roles) s = .next t ∧ s.accepted t ∧
      (∀ p ∈ recValues 0x20 (0x100 + input) w, t.eng.i p.1 = p.2) ∧ (t.eng.refin input).restart = true := by
  have hitem : 0x100 + (input : Nat) ∈ List.range' 0x100 8 ++ List.range' 0x110 8 := by
    simp only [List.mem_append, List.mem_range'_1]
    omega
  obtain ⟨hnodup, hmem⟩ := refinValues_names hitem had
  have hmember : (s.eng.setAll (recValues 0x20 (0x100 + input) w)).n Od.SEG.member = s.eng.n Od.SEG.member := by
    refine congrArg Int.toNat (Eng.setAll_i_other _ _ _ fun p hp => ?_)
    obtain ⟨m, hm, hpm⟩ := hmem p hp
    rw [hpm]
    exact odKey_ne (by omega)
  have hwrite : refinCfgWrite s.ctx input (recValues 0x20 (0x100 + input) w) s.eng0 = (stOk, _) :=
    refinCfgWrite_stores s.ctx (by rw [s.eng0_setAll]; exact hallowed)
      (by rw [s.eng0_setAll]; exact fun h => (hsib h).trans_eq hmember.symm) (by rw [s.eng0_setAll]; exact hslot)
  obtain ⟨t, ht, hans⟩ := lift_recCmd_answersOk (op := fun x => refinCfgWrite x input) hup had hwrite
  refine ⟨t, ht, ⟨hans.status, hans.beside⟩, fun p hp => ?_, ?_⟩
  · obtain ⟨m, hm, hpm⟩ := hmem p hp
    have hsel : p.1.area ≠ 0x28 := by
      rw [hpm]
      exact refinKey_area (by omega)
    rw [hans.obj _ (by rw [hpm]; exact accounting_area (by decide) (by omega)), (Eng.Spares.rebind hsel (.refl _ _)).obj]
    exact Eng.setAll_i_mem _ _ hnodup p hp
  · rw [hans.refin, Eng.refin_of_refins (Eng.rebind_keeps (φ := .refins) _ _ (by decide))]
    exact Eng.refinRestarts_restart ..

end
end Sys2Proof.Machine
end

section
/-! # The time-of-day input, and the settling of O45 (R222, R225) -/

namespace Sys2Proof.Machine

/-! ## A message (R225) -/

section
variable {e : Eng} {x : Ctx} {text : Bytes}

/-- A message that does not read. -/
def Eng.todBad (e : Eng) : Eng := (e.inc32 Od.TOD_STATUS.bad).orb Od.TOD_STATUS.sticky 1

theorem Eng.todMessage_framingError (hon : e.b Od.TOD_IN.enable = true) : e.todMessage x text true = e.todBad := by
  unfold Eng.todMessage
  dsimp only
  rw [if_pos rfl, hon]
  rfl

theorem Eng.todMessage_unread (hon : e.b Od.TOD_IN.enable = true) (hfields : nmeaFields text = none) :
    e.todMessage x text false = e.todBad := by
  unfold Eng.todMessage
  rw [if_neg Bool.false_ne_true, hfields, hon]
  rfl

theorem Eng.todBad_bad (e : Eng) : e.todBad.n Od.TOD_STATUS.bad = (e.n Od.TOD_STATUS.bad + 1) % 2 ^ 32 :=
  (congrArg Int.toNat (Eng.set_i_other _ _ _ _ (by decide))).trans (Eng.inc32_n_same ..)

theorem Eng.todBad_sticky (e : Eng) : e.todBad.n Od.TOD_STATUS.sticky = e.n Od.TOD_STATUS.sticky ||| 1 := by
  have hsame : (e.inc32 Od.TOD_STATUS.bad).n Od.TOD_STATUS.sticky = e.n Od.TOD_STATUS.sticky :=
    congrArg Int.toNat (Eng.set_i_other _ _ _ _ (by decide))
  rw [Eng.todBad, Eng.n, Eng.orb, Eng.set_i_same, hsame, Int.toNat_natCast]

variable {fs : List (List Nat)} {l : TodLabel} {tai : Int} (hon : e.b Od.TOD_IN.enable = true) (hfields : nmeaFields text = some fs)
  (hlabel : (if e.n Od.TOD_IN.format = 1 then lineLabel fs else nmeaLabel fs) = some l) (htai : e.labelTai l = some (tai, false))

include hon hfields hlabel htai

/-- A message that reads labels the next edge, or the last one. -/
theorem Eng.todMessage_reads : e.todMessage x text false =
    if e.n Od.TOD_IN.edge_rule = 1 then e.modTod (fun t => { t with waiting := some (tai, x.lin 0) })
    else match e.tod.lastEdge with
      | some edge => if x.lin 0 ≤ edge + unitsPerSec * 9 / 10 then e.todAccept tai e.tod.edges
        else (e.inc32 Od.TOD_STATUS.late).orb Od.TOD_STATUS.sticky 2
      | none => (e.inc32 Od.TOD_STATUS.late).orb Od.TOD_STATUS.sticky 2 := by
  unfold Eng.todMessage
  rw [if_neg Bool.false_ne_true, hfields]
  dsimp only
  rw [hlabel]
  dsimp only
  rw [htai, hon]
  rfl

theorem Eng.todMessage_following (hrule : e.n Od.TOD_IN.edge_rule = 1) :
    e.todMessage x text false = e.modTod (fun t => { t with waiting := some (tai, x.lin 0) }) := by
  rw [Eng.todMessage_reads hon hfields hlabel htai, if_pos hrule]

theorem Eng.todMessage_preceding {edge : Nat} (hrule : e.n Od.TOD_IN.edge_rule ≠ 1) (hedge : e.tod.lastEdge = some edge)
    (hsoon : x.lin 0 ≤ edge + unitsPerSec * 9 / 10) : e.todMessage x text false = e.todAccept tai e.tod.edges := by
  rw [Eng.todMessage_reads hon hfields hlabel htai, if_neg hrule, hedge]
  exact if_pos hsoon

end

theorem Eng.modTod_i (e : Eng) (f : TodUnit → TodUnit) (j : Key) : (e.modTod f).i j = e.i j := rfl

theorem Eng.modTod_tod (e : Eng) (f : TodUnit → TodUnit) : (e.modTod f).tod = f e.tod := rfl

/-- A label that is accepted is the edge's, is counted and is shown, whether or not it agrees with the one before. -/
theorem Eng.todAccept_shows (e : Eng) (tai : Int) (n : Nat) :
    (e.todAccept tai n).tod.label = some (tai, n) ∧
    (e.todAccept tai n).n Od.TOD_STATUS.good = (e.n Od.TOD_STATUS.good + 1) % 2 ^ 32 ∧
    (e.todAccept tai n).n Od.TOD_STATUS.last_label = wtOf (tai * secU) := by
  have hstored : (e.todAccept tai n).tod.label = some (tai, n) ∧
      ∀ j, j ≠ Od.TOD_STATUS.mismatch → j ≠ Od.TOD_STATUS.sticky → (e.todAccept tai n).i j =
        ((e.inc32 Od.TOD_STATUS.good).set Od.TOD_STATUS.last_label (wtOf (tai * secU) : Nat)).i j := by
    unfold Eng.todAccept
    extract_lets t ok e1
    split
    · exact ⟨congrArg TodUnit.label (Eng.modTod_tod ..), fun j _ _ => Eng.modTod_i ..⟩
    · exact ⟨congrArg TodUnit.label (Eng.modTod_tod ..), fun j hmismatch hsticky =>
        (Eng.modTod_i ..).trans ((Eng.set_i_other _ _ _ _ hsticky).trans (Eng.set_i_other _ _ _ _ hmismatch))⟩
  obtain ⟨hlabel, hobj⟩ := hstored
  refine ⟨hlabel, ?_, ?_⟩
  · rw [Eng.n, hobj _ (by decide) (by decide), Eng.set_i_other _ _ _ _ (by decide)]
    exact Eng.inc32_n_same ..
  · rw [Eng.n, hobj _ (by decide) (by decide), Eng.set_i_same, Int.toNat_natCast]

/-! ## The statement -/

/-- A cause whose event is due is set; where it was not, the input fails at the tick (R216, R217, R222). -/
theorem State.cause_set {s : State} {input : Fin 8} (bit : Nat) (hon : s.eng.n (Od.REFIN_STATUS.state input) ≠ 0) :
    bitOf ((s.eng0.refinCause s.ctx input bit).n (Od.REFIN_STATUS.causes input)) bit = true ∧
    (bitOf (s.eng.n (Od.REFIN_STATUS.causes input)) bit = false →
      (s.eng0.refinCause s.ctx input bit).n (Od.REFIN_STATUS.state input) = 1 ∧
      (s.eng0.refinCause s.ctx input bit).n (Od.REFIN_STATUS.last_fail_tick input) = s.core.tick) := by
  cases hset : bitOf (s.eng.n (Od.REFIN_STATUS.causes input)) bit with
  | true => exact ⟨Eng.refinCause_kept (e := s.eng0) bit hset, fun h => absurd h (by decide)⟩
  | false =>
    obtain ⟨hbit, hfailed⟩ := Eng.refinCause_fails (e := s.eng0) (x := s.ctx) bit input.isLt hon hset
    exact ⟨hbit, fun _ => hfailed⟩

theorem Eng.stuckDue_on {e : Eng} {x : Ctx} {n : Nat} (h : e.stuckDue x n = true) : e.n (Od.REFIN_STATUS.state n) ≠ 0 := by
  simp only [Eng.stuckDue, Bool.and_eq_true, bne_iff_ne] at h
  exact h.1.1

theorem Eng.sibStale_on {e : Eng} {x : Ctx} {n : Nat} (h : e.sibStale x n = true) : e.n (Od.REFIN_STATUS.state n) ≠ 0 := by
  simp only [Eng.sibStale, Bool.and_eq_true, bne_iff_ne] at h
  exact h.1.2

/-- What a message that does not read leaves. -/
theorem State.todBad_leaves (s : State) : s.eng.onlyObjects s.eng0.todBad ∧
    s.eng0.todBad.n Od.TOD_STATUS.bad = (s.eng.n Od.TOD_STATUS.bad + 1) % 2 ^ 32 ∧
    s.eng0.todBad.n Od.TOD_STATUS.sticky = s.eng.n Od.TOD_STATUS.sticky ||| 1 :=
  ⟨Eng.onlyObjects_set (Eng.onlyObjects_set s.onlyObjects_eng0 _ _) _ _, s.eng0.todBad_bad, s.eng0.todBad_sticky⟩

/-- Settles O45: an edge by `Eng.refinEdge_counts`, a cause by `State.cause_set`, a record's write by what its chapter stores, and a
message by whether it reads. -/
theorem theInputsMeasureAndLabel : Obligations.TheInputsMeasureAndLabel := by
  refine ⟨fun s input hup => ⟨fun capture width short hon hrun hlate => ?_, fun hdue => ?_, fun hdue => ?_, ?_, ?_⟩,
    fun s text hup hon => ⟨?_, fun hfields => ?_, fun fs l tai hfields hlabel htai => ⟨fun hrule => ?_, fun edge hrule hedge hsoon => ?_⟩⟩⟩
  · exact ⟨_, (exec_refinCompareEdge input capture short width s).trans (lift_up hup _), ⟨rfl, rfl, rfl⟩,
      Eng.refinEdge_counts (e := s.eng0) (x := s.ctx) input.isLt short width hon hrun hlate⟩
  · exact ⟨_, (exec_refinStuck input s).trans (lift_whenDue (due := fun x e => e.stuckDue x input) hup hdue), ⟨rfl, rfl, rfl⟩,
      State.cause_set 0 (Eng.stuckDue_on hdue)⟩
  · exact ⟨_, (exec_siblingStale input s).trans (lift_whenDue (due := fun x e => e.sibStale x input) hup hdue), ⟨rfl, rfl, rfl⟩,
      State.cause_set 7 (Eng.sibStale_on hdue)⟩
  · rintro w roles _ rfl had hfine
    exact exec_refinConfigWrite_qual hup had hfine
  · rintro w roles _ rfl had hallowed hsib hslot
    exact exec_refinConfigWrite_cfg hup had hallowed hsib hslot
  · refine ⟨_, (exec_todInMessage text true s).trans (lift_up hup _), ⟨rfl, rfl, rfl⟩, ?_⟩
    rw [Eng.todMessage_framingError (e := s.eng0) hon]
    exact s.todBad_leaves
  · refine ⟨_, (exec_todInMessage text false s).trans (lift_up hup _), ⟨rfl, rfl, rfl⟩, ?_⟩
    rw [Eng.todMessage_unread (e := s.eng0) hon hfields]
    exact s.todBad_leaves
  · exact ⟨_, (exec_todInMessage text false s).trans (lift_up hup _), ⟨rfl, rfl, rfl⟩,
      Eng.todMessage_following (e := s.eng0) hon hfields hlabel htai hrule⟩
  · refine ⟨_, (exec_todInMessage text false s).trans (lift_up hup _), ⟨rfl, rfl, rfl⟩, ?_⟩
    rw [Eng.todMessage_preceding (e := s.eng0) hon hfields hlabel htai hrule hedge hsoon]
    exact s.eng0.todAccept_shows tai _

end Sys2Proof.Machine
end

section
/-! # Front ends and channels of GNSS: what a change of them leaves (R230, R232, R250, R252)

The objects of GNSS lie in area 24, and what a front end's state reaches beyond it in the selector's area 28. -/

namespace Sys2Proof.Machine

/-! ## A front end's unit -/

section
variable {e : Eng} {x : Ctx} {f : Nat}

theorem Eng.modFe_fe (e : Eng) (f : Nat) (g : GnssFe → GnssFe) (k : Nat) :
    (e.modFe f g).fe k = if k = f ∧ k < e.gnss.fes.length then g (e.fe k) else e.fe k := nth_modNth ..

theorem Eng.modFe_fe_same (hf : f < e.gnss.fes.length) (g : GnssFe → GnssFe) : (e.modFe f g).fe f = g (e.fe f) :=
  (e.modFe_fe f g f).trans (if_pos ⟨rfl, hf⟩)

/-- What `π` reads of every front end. -/
def Eng.readFes {α : Type} (e : Eng) (π : GnssFe → α) : List α := e.gnss.fes.map π

section
variable {α : Type} {π : GnssFe → α} {e' : Eng}

theorem Eng.fe_of_readFes (h : e'.readFes π = e.readFes π) (f : Nat) : π (e'.fe f) = π (e.fe f) := by
  have hread (b : Eng) : (b.readFes π).getD f (π GnssFe.atReset) = π (b.fe f) := List.getD_map ..
  rw [← hread, h, hread]

theorem Eng.fes_length_of_readFes (h : e'.readFes π = e.readFes π) : e'.gnss.fes.length = e.gnss.fes.length := by
  have hlen (b : Eng) : (b.readFes π).length = b.gnss.fes.length := List.length_map ..
  rw [← hlen, h, hlen]

theorem Eng.readFes_of_gnss (h : e'.gnss = e.gnss) (π : GnssFe → α) : e'.readFes π = e.readFes π :=
  congrArg (·.fes.map π) h

theorem Eng.readFes_modFe {g : GnssFe → GnssFe} (hg : ∀ u, π (g u) = π u) : (e.modFe f g).readFes π = e.readFes π := by
  refine List.ext_getElem (by simp [Eng.readFes, Eng.modFe, modNth]) fun i _ _ => ?_
  simp only [Eng.readFes, Eng.modFe, modNth, List.getElem_map, List.getElem_modify]
  split
  · exact hg _
  · rfl

/-- A state of a front end stops its survey at most. -/
theorem Eng.readFes_feTo (hπ : ∀ u, π u.noSurvey = π u) (st : Nat) : (e.feTo x f st).readFes π = e.readFes π := by
  unfold Eng.feTo
  split
  · rfl
  · rw [Eng.readFes_of_gnss (Eng.sourceChanged_keeps (φ := .gnss) _ _ _ (by decide))]
    exact (apply_ite (Eng.readFes · π) ..).trans ((congrArg _ (Eng.readFes_modFe hπ)).trans (ite_self _))

end

end

/-! ## Objects that a front end spares -/

section
variable {j : Key} {a e : Eng} {x : Ctx} {f : Nat}

theorem Eng.Spares.modFe (j : Key) (e : Eng) (f : Nat) (g : GnssFe → GnssFe) : Eng.Spares j e (e.modFe f g) := ⟨rfl, rfl⟩

/-- No object of GNSS is one of the selector's. -/
theorem gnssKey_area {i m : Nat} (him : i * 16 + m < 65536) : (odKey 0x24 i m).area ≠ 0x28 := by
  rw [odKey_area him]
  decide

theorem gnssKey_lt {i m : Nat} (him : i * 16 + m < 65536) : odKey 0x24 i m < 0x40 * 65536 := by
  change 0x24 * 65536 + i * 16 + m < _
  omega

section
variable (hj : j.area ≠ 0x28)

include hj

/-- A state of a front end reaches objects of its slot. -/
theorem Eng.Spares.feTo (hstate : j ≠ Od.GNSS_FE_STATUS.state f) (h : Eng.Spares j a e) (st : Nat) : Eng.Spares j a (e.feTo x f st) := by
  unfold Eng.feTo
  exact .ite h (.sourceChanged hj (.set (.ite h (h.trans (.modFe ..))) hstate _) _)

variable (hm : ∀ m ≤ 4, j ≠ odKey 0x24 (0x020 + f) m)

include hm

/-- A cause is shown in the members 1 to 4 of the front end's status. -/
theorem Eng.Spares.feCause (h : Eng.Spares j a e) (bit : Nat) : Eng.Spares j a (e.feCause x f bit) := by
  unfold Eng.feCause
  extract_lets e1 e2
  have h1 : Eng.Spares j a e1 := h.trans (.modFe ..)
  have h2 : Eng.Spares j a e2 := .ite h1 (((h1.orb (hm 2 (by decide)) _).orb (hm 3 (by decide)) _).inc32 (hm 4 (by decide)))
  exact .ite h (.ite (.feTo hj (hm 1 (by decide)) h2 1) (.ite (.feTo hj (hm 1 (by decide)) h2 4) h2))

theorem Eng.Spares.feCauseIf (h : Eng.Spares j a e) (bit : Nat) (present : Bool) : Eng.Spares j a (e.feCauseIf x f bit present) :=
  .ite (.feCause hj hm h bit) h

theorem Eng.Spares.sampleTests (h : Eng.Spares j a e) (block : SampleBlock) : Eng.Spares j a (e.sampleTests x f block) :=
  (Eng.Spares.feCauseIf hj hm (.feCauseIf hj hm h 0 _) 1 _).trans (.modFe ..)

theorem Eng.Spares.trackState (h : Eng.Spares j a e) : Eng.Spares j a (e.trackState x f) := by
  unfold Eng.trackState
  have hseen := h.trans (.modFe j e f fun g => { g with trackAt := x.st 0 })
  exact .ite h (.ite (.feTo hj (hm 1 (by decide)) hseen 3) hseen)

end

/-! ## Channels -/

theorem Eng.Spares.chanObserve (h : Eng.Spares j a e) (o : ChanObs) (hm : ∀ m < 16, j ≠ odKey 0x24 (0x100 + o.channel) m) :
    Eng.Spares j a (e.chanObserve x f o) := by
  unfold Eng.chanObserve
  extract_lets c st e1 low t
  have h1 : Eng.Spares j a e1 := h.setAll (by
    simp only [List.forall_mem_cons, List.not_mem_nil, false_imp_iff, implies_true, and_true]
    exact ⟨hm 6 (by decide), hm 7 (by decide), hm 8 (by decide), hm 5 (by decide)⟩)
  exact .ite h (h1.trans ⟨rfl, rfl⟩)

/-- The members of an idle channel, which show zero. -/
def chanZeros (c : Nat) : List (Key × Int) := (List.range' 1 10).map fun m => (odKey 0x24 (0x100 + c) m, 0)

theorem chanZeros_eq (c : Nat) : chanZeros c = [(Od.GNSS_CHAN.fe c, 0), (Od.GNSS_CHAN.band c, 0), (Od.GNSS_CHAN.system c, 0),
    (Od.GNSS_CHAN.prn c, 0), (Od.GNSS_CHAN.state c, 0), (Od.GNSS_CHAN.cn0 c, 0), (Od.GNSS_CHAN.elevation c, 0),
    (Od.GNSS_CHAN.azimuth c, 0), (Od.GNSS_CHAN.used c, 0), (Od.GNSS_CHAN.auth c, 0)] := rfl

theorem Eng.chanIdle_i (e : Eng) (c : Nat) (k : Key) : (e.chanIdle c).i k = (e.setAll (chanZeros c)).i k := by
  rw [chanZeros_eq]
  dsimp only [Eng.chanIdle, Eng.i]

theorem Eng.chanIdle_i_other (e : Eng) {c : Nat} (hm : ∀ m < 16, j ≠ odKey 0x24 (0x100 + c) m) : (e.chanIdle c).i j = e.i j := by
  refine (e.chanIdle_i c j).trans (Eng.setAll_i_other _ _ _ fun p hp => ?_)
  obtain ⟨m, hmem, rfl⟩ := List.mem_map.1 hp
  have hlt := List.mem_range'_1.1 hmem
  exact hm m (by omega)

theorem Eng.chanIdle_state (e : Eng) (c : Nat) : (e.chanIdle c).n (Od.GNSS_CHAN.state c) = 0 := by
  have hnodup : ((chanZeros c).map Prod.fst).Nodup := by
    rw [chanZeros, List.map_map]
    exact List.Nodup.map (odKey_injective 0x24 (0x100 + c)) List.nodup_range'
  have hmem : (Od.GNSS_CHAN.state c, (0 : Int)) ∈ chanZeros c := List.mem_map.2 ⟨5, by decide, rfl⟩
  exact congrArg Int.toNat ((e.chanIdle_i c _).trans (Eng.setAll_i_mem e _ hnodup _ hmem))

end

/-! ## Causes of a front end (R250) -/

section
variable {e : Eng} {x : Ctx} {f : Nat} (hf : f < 2)

section

include hf

theorem Eng.feTo_state (st : Nat) : (e.feTo x f st).feState f = st := by
  unfold Eng.feTo
  split
  next h => exact h
  next => exact congrArg Int.toNat ((Eng.Spares.sourceChanged (gnssKey_area (by omega)) (.refl _ _) _).obj.trans (Eng.set_i_same ..))

/-- A state of a front end leaves its causes. -/
theorem Eng.feTo_causes (st : Nat) : (e.feTo x f st).n (Od.GNSS_FE_STATUS.causes f) = e.n (Od.GNSS_FE_STATUS.causes f) :=
  congrArg Int.toNat (Eng.Spares.feTo (gnssKey_area (by omega)) (odKey_ne (by omega)) (.refl _ e) st).obj

end

/-- What a cause does to a front end that is on: it is noted and shown, and then may change the state. -/
theorem Eng.feCause_shows (hon : e.feState f ≠ 0) (bit : Nat) : ∃ e' : Eng, bitOf (e'.n (Od.GNSS_FE_STATUS.causes f)) bit = true ∧
    e'.feState f = e.feState f ∧ e'.gnss = (e.modFe f (fun g => { g with seen := g.seen ||| 2 ^ bit, clean := x.st 0 })).gnss ∧
    e.feCause x f bit = if bitOf feFatal bit then e'.feTo x f 1 else if e'.feState f = 5 ∧ bitOf feSoft bit then e'.feTo x f 4 else e' := by
  unfold Eng.feCause
  rw [if_neg hon]
  extract_lets e1 e2
  refine ⟨e2, ?_, ?_, ?_, rfl⟩
  · unfold e2
    split
    next hset => exact hset
    next =>
      have hset := Eng.set_i_same e1 (Od.GNSS_FE_STATUS.causes f) (e1.n (Od.GNSS_FE_STATUS.causes f) ||| 2 ^ bit : Nat)
      have hshown := ((Eng.Spares.refl (Od.GNSS_FE_STATUS.causes f) (e1.orb (Od.GNSS_FE_STATUS.causes f) (2 ^ bit))).orb
        (k := Od.GNSS_FE_STATUS.sticky f) (odKey_ne (by omega)) (2 ^ bit)).inc32 (k := Od.GNSS_FE_STATUS.fail_count f) (odKey_ne (by omega))
      rw [Eng.n, hshown.obj, Eng.orb, hset]
      exact bitOf_or_two_pow bit _
  · have h1 : Eng.Spares (Od.GNSS_FE_STATUS.state f) e e1 := .modFe ..
    exact congrArg Int.toNat
      (Eng.Spares.ite h1 (((h1.orb (odKey_ne (by omega)) _).orb (odKey_ne (by omega)) _).inc32 (odKey_ne (by omega)))).obj
  · unfold e2
    split <;> rfl

/-- The cause is noted as seen since the last epoch. -/
theorem Eng.feCause_seen (hon : e.feState f ≠ 0) (hlen : f < e.gnss.fes.length) (bit : Nat) :
    bitOf ((e.feCause x f bit).fe f).seen bit = true := by
  obtain ⟨e', -, -, hgnss, hends⟩ := Eng.feCause_shows (x := x) hon bit
  have hseen : (e'.fe f).seen = (e.fe f).seen ||| 2 ^ bit :=
    (Eng.fe_of_readFes (Eng.readFes_of_gnss hgnss _) f).trans (congrArg GnssFe.seen (Eng.modFe_fe_same hlen _))
  have hstate (st : Nat) : ((e'.feTo x f st).fe f).seen = (e'.fe f).seen :=
    Eng.fe_of_readFes (Eng.readFes_feTo (π := GnssFe.seen) (fun _ => rfl) st) f
  rw [hends]
  split
  · rw [hstate, hseen]
    exact bitOf_or_two_pow bit _
  · split
    · rw [hstate, hseen]
      exact bitOf_or_two_pow bit _
    · rw [hseen]
      exact bitOf_or_two_pow bit _

include hf

/-- The cause is set. -/
theorem Eng.feCause_causes (hon : e.feState f ≠ 0) (bit : Nat) :
    bitOf ((e.feCause x f bit).n (Od.GNSS_FE_STATUS.causes f)) bit = true := by
  obtain ⟨e', hbit, -, -, hends⟩ := Eng.feCause_shows (x := x) hon bit
  rw [hends]
  split
  · rwa [Eng.feTo_causes hf]
  · split
    · rwa [Eng.feTo_causes hf]
    · exact hbit

/-- A low pin is a cause while it is enabled. -/
theorem Eng.antennaCause_causes (hlow : (e.fe f).antLow = true) (hen : e.b (Od.GNSS_FE.antenna_fault f) = true) (hon : e.feState f ≠ 0) :
    bitOf ((e.antennaCause x f).n (Od.GNSS_FE_STATUS.causes f)) 10 = true := by
  have hpresent : ((e.fe f).antLow && e.b (Od.GNSS_FE.antenna_fault f)) = true := Bool.and_eq_true_iff.2 ⟨hlow, hen⟩
  rw [Eng.antennaCause, Eng.feCauseIf, if_pos hpresent]
  exact Eng.feCause_causes hf hon 10

/-- A front end that is on and tracks nothing. -/
def Eng.feIdle (e : Eng) (f : Nat) : Prop := e.feState f = 1 ∨ e.feState f = 2

theorem Eng.feCause_idle (h : e.feIdle f) (bit : Nat) : (e.feCause x f bit).feIdle f := by
  have hon : e.feState f ≠ 0 ∧ e.feState f ≠ 5 := by
    obtain h | h := h <;> rw [h] <;> decide
  obtain ⟨e', -, hstate, -, hends⟩ := Eng.feCause_shows (x := x) hon.1 bit
  rw [hends]
  split
  · exact .inl (Eng.feTo_state hf 1)
  · rw [if_neg fun h5 => hon.2 (hstate.symm.trans h5.1), Eng.feIdle, hstate]
    exact h

theorem Eng.feCauseIf_idle (h : e.feIdle f) (bit : Nat) (present : Bool) : (e.feCauseIf x f bit present).feIdle f := by
  unfold Eng.feCauseIf
  split
  · exact Eng.feCause_idle hf h bit
  · exact h

/-- An epoch leaves the causes that were seen since the one before. -/
theorem Eng.feClear_causes : (e.feClear x f).n (Od.GNSS_FE_STATUS.causes f) = e.n (Od.GNSS_FE_STATUS.causes f) &&& (e.fe f).seen := by
  unfold Eng.feClear
  extract_lets e1 e2
  have hset : e2.n (Od.GNSS_FE_STATUS.causes f) = e.n (Od.GNSS_FE_STATUS.causes f) &&& (e.fe f).seen :=
    congrArg Int.toNat (Eng.set_i_same ..)
  split
  · rw [Eng.feTo_causes hf, hset]
  · exact hset

end

/-! ## What only its own command changes of a front end (R240, R250) -/

/-- A front end's last epoch and the level of its antenna pin. -/
def GnssFe.marks (u : GnssFe) : Nat × Bool := (u.lastEpoch, u.antLow)

/-- The marks of every front end are as they were. -/
structure Eng.KeepsMarks (e e' : Eng) : Prop where
  marks : e'.readFes GnssFe.marks = e.readFes GnssFe.marks

namespace Eng.KeepsMarks

variable {a b c e : Eng} {x : Ctx} {f : Nat}

theorem lastEpoch (h : Eng.KeepsMarks a e) (f : Nat) : (e.fe f).lastEpoch = (a.fe f).lastEpoch :=
  congrArg Prod.fst (Eng.fe_of_readFes h.marks f)

theorem antLow (h : Eng.KeepsMarks a e) (f : Nat) : (e.fe f).antLow = (a.fe f).antLow :=
  congrArg Prod.snd (Eng.fe_of_readFes h.marks f)

theorem fes_length (h : Eng.KeepsMarks a e) : e.gnss.fes.length = a.gnss.fes.length := Eng.fes_length_of_readFes h.marks

theorem refl (e : Eng) : Eng.KeepsMarks e e := ⟨rfl⟩

/-- A change beside the receiver's front ends. -/
theorem beside (h : Eng.KeepsMarks a b) (hc : c.gnss.fes = b.gnss.fes) : Eng.KeepsMarks a c :=
  ⟨(congrArg (List.map GnssFe.marks) hc).trans h.marks⟩

theorem set (h : Eng.KeepsMarks a e) (k : Key) (v : Int) : Eng.KeepsMarks a (e.set k v) := h.beside rfl

theorem setAll (h : Eng.KeepsMarks a e) (vs : List (Key × Int)) : Eng.KeepsMarks a (e.setAll vs) :=
  h.beside (congrArg Gnss.fes (Eng.setAll_keeps (φ := .gnss) _ _))

theorem orb (h : Eng.KeepsMarks a e) (k : Key) (m : Nat) : Eng.KeepsMarks a (e.orb k m) := h.set k _

theorem inc32 (h : Eng.KeepsMarks a e) (k : Key) : Eng.KeepsMarks a (e.inc32 k) := h.set k _

theorem modFe (h : Eng.KeepsMarks a e) (f : Nat) {g : GnssFe → GnssFe} (hg : ∀ u, (g u).marks = u.marks) :
    Eng.KeepsMarks a (e.modFe f g) := ⟨(Eng.readFes_modFe hg).trans h.marks⟩

theorem ite {p : Prop} [Decidable p] (hb : Eng.KeepsMarks a b) (hc : Eng.KeepsMarks a c) : Eng.KeepsMarks a (if p then b else c) := by
  split
  · exact hb
  · exact hc

theorem foldl {β : Type} {g : Eng → β → Eng} (h : Eng.KeepsMarks a e) (hg : ∀ b i, Eng.KeepsMarks a b → Eng.KeepsMarks a (g b i))
    (l : List β) : Eng.KeepsMarks a (l.foldl g e) :=
  List.foldlRecOn l g h fun b hb i _ => hg b i hb

theorem feTo (h : Eng.KeepsMarks a e) (st : Nat) : Eng.KeepsMarks a (e.feTo x f st) :=
  ⟨(Eng.readFes_feTo (fun _ => rfl) st).trans h.marks⟩

theorem feCause (h : Eng.KeepsMarks a e) (bit : Nat) : Eng.KeepsMarks a (e.feCause x f bit) := by
  unfold Eng.feCause
  extract_lets e1 e2
  have h1 : Eng.KeepsMarks a e1 := h.modFe f fun _ => rfl
  have h2 : Eng.KeepsMarks a e2 := .ite h1 (((h1.orb _ _).orb _ _).inc32 _)
  exact .ite h (.ite (h2.feTo 1) (.ite (h2.feTo 4) h2))

theorem feCauseIf (h : Eng.KeepsMarks a e) (bit : Nat) (present : Bool) : Eng.KeepsMarks a (e.feCauseIf x f bit present) :=
  .ite (h.feCause bit) h

theorem antennaCause (h : Eng.KeepsMarks a e) : Eng.KeepsMarks a (e.antennaCause x f) := h.feCauseIf 10 _

/-! ### The parts of an epoch -/

theorem navItem (h : Eng.KeepsMarks a e) (now : Nat) (n : NavItem) : Eng.KeepsMarks a (e.navItem now f n) := by
  unfold Eng.navItem
  split
  · exact h.beside rfl
  · exact h.beside rfl
  · extract_lets cur ahead bad e1
    have h1 : Eng.KeepsMarks a e1 := h.setAll _
    exact .ite h (.ite (h1.orb _ _) h1)

theorem showStore (h : Eng.KeepsMarks a e) (now : Nat) : Eng.KeepsMarks a (e.showStore now) := (h.set _ _).set _ _

theorem keepFloor (h : Eng.KeepsMarks a e) : Eng.KeepsMarks a (e.keepFloor x f) := h.modFe f fun _ => rfl

theorem unsolved (h : Eng.KeepsMarks a e) : Eng.KeepsMarks a (e.unsolved f) := h.modFe f fun _ => rfl

theorem markUsed (h : Eng.KeepsMarks a e) (u : Tbl Nat) (excl : List Nat) : Eng.KeepsMarks a (e.markUsed x f u excl) := by
  unfold Eng.markUsed
  refine h.foldl (fun b c hb => ?_) _
  have hused := hb.set (Od.GNSS_CHAN.used c) (boolNat (u.any (fun p => p.1 == b.chanSat c) && !excl.contains (b.chanSat c)) : Nat)
  exact .ite ((hused.set _ _).beside rfl) hused

theorem surveyRun (h : Eng.KeepsMarks a e) (p : GnssEpoch) (single : Bool) : Eng.KeepsMarks a (e.surveyRun x f p single) := by
  unfold Eng.surveyRun
  extract_lets now e1 e2 g t gone e3 lim e4
  have h1 : Eng.KeepsMarks a e1 := h.modFe f fun _ => rfl
  have h2 : Eng.KeepsMarks a e2 := .ite h1 (h1.modFe f fun _ => rfl)
  have h3 : Eng.KeepsMarks a e3 := h2.set _ _
  have h4 : Eng.KeepsMarks a e4 := h3.setAll _
  have hdone : Eng.KeepsMarks a (e4.modFe 0 fun g => { g with surveyed := true }) := h4.modFe 0 fun _ => rfl
  exact .ite h (.ite (hdone.modFe 1 fun _ => rfl) h3)

theorem positionTest (h : Eng.KeepsMarks a e) (p : GnssEpoch) : Eng.KeepsMarks a (e.positionTest x f p) := by
  unfold Eng.positionTest
  extract_lets bad e1 e2
  have h1 : Eng.KeepsMarks a e1 := h.modFe f fun _ => rfl
  have h2 : Eng.KeepsMarks a e2 := h1.feCause 9
  exact .ite (.ite ((h2.set _ _).modFe f fun _ => rfl) h2) h1

theorem deliver (h : Eng.KeepsMarks a e) (slot : Nat) (m : Meas) : Eng.KeepsMarks a (e.deliver x slot m) :=
  h.beside (congrArg Gnss.fes (Eng.deliver_keeps (φ := .gnss) _ _ _ _ (by decide)))

theorem solved (h : Eng.KeepsMarks a e) (p : GnssEpoch) (t : GnssTrial) (off : Int) (used : Tbl Nat) (single noRaim : Bool) :
    Eng.KeepsMarks a (e.solved x f p t off used single noRaim) := by
  unfold Eng.solved
  extract_lets e1 tick incon run ffOk ff e2 e3 hold e4 pol m0 uncal fl secs bound auth e5
  have h1 : Eng.KeepsMarks a e1 := .ite (h.feTo 4) h
  have h2 : Eng.KeepsMarks a e2 := h1.modFe f fun _ => rfl
  have h4 : Eng.KeepsMarks a e4 := ((h2.feCauseIf 8 _).surveyRun p single).positionTest p
  have h5 : Eng.KeepsMarks a e5 := h4.setAll _
  exact .ite (h5.deliver _ _) h5

theorem detect (h : Eng.KeepsMarks a e) (b row inst : Nat) : Eng.KeepsMarks a (e.detect x b row inst) :=
  h.beside (congrArg Gnss.fes (Eng.detect_keeps (φ := .gnss) ..))

theorem solve (h : Eng.KeepsMarks a e) (p : GnssEpoch) : Eng.KeepsMarks a (e.solve x f p) := by
  unfold Eng.solve
  extract_lets u0 anchored w u few e1
  have h1 := h.feCauseIf (x := x) (f := f) 5 few
  refine .ite (((h1.detect ..).feCause 11).unsolved) (.ite h1.unsolved ?_)
  split
  next => exact (h1.feCauseIf 4 _).unsolved
  next t _ =>
    extract_lets e2 used single
    have h2 : Eng.KeepsMarks a e2 := h1.markUsed u t.excluded
    split
    · exact h2.unsolved
    · exact .ite ((h2.feCause 7).solved ..) (h2.solved ..)
    · exact h2.solved ..

theorem feClear (h : Eng.KeepsMarks a e) : Eng.KeepsMarks a (e.feClear x f) := by
  unfold Eng.feClear
  extract_lets e1 e2
  have h2 : Eng.KeepsMarks a e2 := (h.set _ _).modFe f fun _ => rfl
  exact .ite (h2.feTo 2) h2

end Eng.KeepsMarks

end Sys2Proof.Machine
end

section
/-! # Channels of GNSS, and the settling of O46 (R230, R232, R234, R235, R247, R250) -/

namespace Sys2Proof.Machine

/-! ## A sample block (R230) -/

section
variable {e : Eng} {x : Ctx} {f : Nat}

/-- A sample block's tests, its channels' loops and what the front end tracks after them. -/
def Eng.sampled (e : Eng) (x : Ctx) (f : Nat) (block : SampleBlock) : Eng :=
  (block.chans.foldl (fun e o => e.chanObserve x f o) (e.sampleTests x f block)).trackState x f

theorem Eng.sampled_bandOn (hf : f < 2) (block : SampleBlock) (b : Nat) : (e.sampled x f block).bandOn f b = e.bandOn f b := by
  have harea : (Od.GNSS_FE.bands f).area ≠ 0x28 := gnssKey_area (by omega)
  have hstatus (m : Nat) (hm : m ≤ 4) : Od.GNSS_FE.bands f ≠ odKey 0x24 (0x020 + f) m := odKey_ne (by omega)
  have hchan (c : Fin 128) (m : Nat) (hm : m < 16) : Od.GNSS_FE.bands f ≠ odKey 0x24 (0x100 + c) m := odKey_ne (by omega)
  have hloops : Eng.Spares (Od.GNSS_FE.bands f) e (block.chans.foldl (fun e o => e.chanObserve x f o) (e.sampleTests x f block)) :=
    (Eng.Spares.sampleTests harea hstatus (.refl _ e) block).trans
      (.foldl (fun e o => .chanObserve (.refl _ e) o (hchan o.channel)) _ _)
  exact congrArg (fun v : Int => bitOf v.toNat b) (Eng.Spares.trackState harea hstatus hloops).obj

end

theorem exec_gnssSampleBlock_floor {s : State} (hup : s.eng.up = true) (fe : Fin 2) (block : SampleBlock) (hon : s.eng.feState fe ≠ 0) :
    ∃ t, exec (.gnssSampleBlock fe block) s = .next t ∧ s.beside t ∧ t.eng.i (Od.GNSS_FE_STATUS.noise_floor fe) =
      if s.eng.bandOn fe 0 then block.floorUpper else block.floorLower := by
  refine ⟨_, (exec_gnssSampleBlock fe block s).trans (lift_up hup _), ⟨rfl, rfl, rfl⟩, ?_⟩
  dsimp only
  rw [if_neg (show ¬ s.eng0.feState fe = 0 from hon), Eng.set_i_same]
  exact congrArg (if · = true then block.floorUpper else block.floorLower) (Eng.sampled_bandOn (e := s.eng0) (x := s.ctx) fe.isLt block 0)

/-! ## Acquisition (R235) -/

section
variable {e : Eng} {x : Ctx} {f c : Nat} {h : SearchHit}

/-- What a channel shows of the satellite it takes. -/
def Eng.hitValues (e : Eng) (f : Nat) (h : SearchHit) (c : Nat) : List (Key × Int) :=
  [(Od.GNSS_CHAN.fe c, f), (Od.GNSS_CHAN.band c, (boolNat h.lower : Nat)), (Od.GNSS_CHAN.system c, (h.system.val : Nat)),
    (Od.GNSS_CHAN.prn c, (h.prn : Nat)), (Od.GNSS_CHAN.state c, 1), (Od.GNSS_CHAN.cn0 c, (h.cn0 : Nat)),
    (Od.GNSS_CHAN.elevation c, h.elevation.getD 0), (Od.GNSS_CHAN.auth c, e.startAuth h.system h.prn)]

theorem Eng.hitValues_keys (e : Eng) (f : Nat) (h : SearchHit) (c : Nat) :
    (e.hitValues f h c).map Prod.fst = [1, 2, 3, 4, 5, 6, 7, 10].map (odKey 0x24 (0x100 + c)) := rfl

/-- A satellite found takes the first idle channel. -/
theorem Eng.dwell_takes (hon : 2 ≤ e.feState f) (hok : e.hitOk x f h = true)
    (hroom : ((List.range 128).filter (fun c => e.chanOf f c)).length < e.n (Od.GNSS_FE.channels_max f))
    (hidle : (List.range 128).find? (fun c => e.n (Od.GNSS_CHAN.state c) == 0) = some c) :
    e.dwell x f [h] = e.setAll (e.hitValues f h c) := by
  have htakes : e.dwell x f [h] = e.takeHit x f h := if_neg (Nat.not_lt.2 hon)
  rw [htakes]
  unfold Eng.takeHit
  extract_lets held
  have hgo : (!e.hitOk x f h || decide (e.n (Od.GNSS_FE.channels_max f) ≤ held)) = false := by
    rw [hok, decide_eq_false (Nat.not_le.2 hroom)]
    rfl
  rw [if_neg (Bool.eq_false_iff.1 hgo), hidle]
  rfl

theorem Eng.setAll_hitValues_n (e : Eng) (f : Nat) (h : SearchHit) (c : Nat) {k : Key} {v : Int} (hp : (k, v) ∈ e.hitValues f h c) :
    (e.setAll (e.hitValues f h c)).n k = v.toNat := by
  have hnodup : ((e.hitValues f h c).map Prod.fst).Nodup := by
    rw [Eng.hitValues_keys]
    exact List.Nodup.map (odKey_injective 0x24 (0x100 + c)) (by decide)
  exact congrArg Int.toNat (Eng.setAll_i_mem e _ hnodup _ hp)

theorem Eng.setAll_hitValues_other (e : Eng) (f : Nat) (h : SearchHit) {c d : Nat} (hd : d ≠ c) :
    (e.setAll (e.hitValues f h c)).n (Od.GNSS_CHAN.state d) = e.n (Od.GNSS_CHAN.state d) := by
  refine congrArg Int.toNat (Eng.setAll_i_other _ _ _ fun p hp => ?_)
  have hkey : p.1 ∈ [1, 2, 3, 4, 5, 6, 7, 10].map (odKey 0x24 (0x100 + c)) := by
    rw [← Eng.hitValues_keys]
    exact List.mem_map_of_mem hp
  obtain ⟨m, hm, hpm⟩ := List.mem_map.1 hkey
  have hlt : m < 16 := (by decide : ∀ m ∈ [1, 2, 3, 4, 5, 6, 7, 10], m < 16) m hm
  rw [← hpm]
  exact odKey_ne (by omega)

end

theorem exec_acquisitionDwell_takes {s : State} (hup : s.eng.up = true) {fe : Fin 2} {h : SearchHit} {c : Nat}
    (hon : 2 ≤ s.eng.feState fe) (hok : s.eng.hitOk s.ctx fe h = true)
    (hroom : ((List.range 128).filter (fun c => s.eng.chanOf fe c)).length < s.eng.n (Od.GNSS_FE.channels_max fe))
    (hidle : (List.range 128).find? (fun c => s.eng.n (Od.GNSS_CHAN.state c) == 0) = some c) :
    ∃ t, exec (.acquisitionDwell fe [h]) s = .next t ∧ s.beside t ∧ s.eng.onlyObjects t.eng ∧
      t.eng.n (Od.GNSS_CHAN.state c) = 1 ∧ t.eng.n (Od.GNSS_CHAN.fe c) = fe.val ∧ t.eng.n (Od.GNSS_CHAN.prn c) = h.prn ∧
      t.eng.n (Od.GNSS_CHAN.system c) = h.system.val ∧
      ∀ d : Fin 128, d.val ≠ c → t.eng.n (Od.GNSS_CHAN.state d) = s.eng.n (Od.GNSS_CHAN.state d) := by
  have hdwell : s.eng0.dwell s.ctx fe [h] = s.eng0.setAll (s.eng0.hitValues fe h c) := Eng.dwell_takes hon hok hroom hidle
  refine ⟨_, (exec_acquisitionDwell fe [h] s).trans (lift_up hup _), ⟨rfl, rfl, rfl⟩, ?_⟩
  dsimp only
  rw [hdwell]
  exact ⟨Eng.setAll_onlyObjects s.onlyObjects_eng0 _,
    s.eng0.setAll_hitValues_n fe h c (k := Od.GNSS_CHAN.state c) (v := 1) (by simp [Eng.hitValues]),
    s.eng0.setAll_hitValues_n fe h c (k := Od.GNSS_CHAN.fe c) (v := (fe : Nat)) (by simp [Eng.hitValues]),
    s.eng0.setAll_hitValues_n fe h c (k := Od.GNSS_CHAN.prn c) (v := (h.prn : Nat)) (by simp [Eng.hitValues]),
    s.eng0.setAll_hitValues_n fe h c (k := Od.GNSS_CHAN.system c) (v := (h.system.val : Nat)) (by simp [Eng.hitValues]),
    fun d hd => s.eng0.setAll_hitValues_other fe h hd⟩

/-! ## A channel that is released or comes back (R232, R234, R247) -/

theorem chanState_ne {c d : Nat} (h : d ≠ c) (m : Nat) (hm : m < 16) : Od.GNSS_CHAN.state d ≠ odKey 0x24 (0x100 + c) m :=
  odKey_ne (by omega)

theorem exec_checkChannelPass_releases {s : State} (hup : s.eng.up = true) (channel : Fin 128) {run : Nat}
    (hused : s.eng.n (Od.GNSS_CHAN.state channel) ≠ 0) (hfe : s.eng.n (Od.GNSS_CHAN.fe channel) < 2) (hrun : 3 ≤ run) :
    ∃ t, exec (.checkChannelPass channel run) s = .next t ∧ s.beside t ∧ t.eng.n (Od.GNSS_CHAN.state channel) = 0 ∧
      t.eng.n (Od.FLT_BLOCK.latch 10) = s.eng.n (Od.FLT_BLOCK.latch 10) ||| 2 := by
  refine ⟨_, (exec_checkChannelPass channel run s).trans (lift_up hup _), ⟨rfl, rfl, rfl⟩, ?_⟩
  dsimp only
  rw [if_neg (show ¬ (s.eng0.n (Od.GNSS_CHAN.state channel) = 0 ∨ run < 3) from not_or.2 ⟨hused, Nat.not_lt.2 hrun⟩)]
  have hspared {j : Key} (hj : j.area ≠ 0x28) (hm : ∀ m ≤ 4, j ≠ odKey 0x24 (0x020 + s.eng.n (Od.GNSS_CHAN.fe channel)) m) :
      (((s.eng0.chanIdle channel).detect s.ctx 10 1 channel).feCause s.ctx (s.eng.n (Od.GNSS_CHAN.fe channel)) 11).n j =
        ((s.eng0.chanIdle channel).detect s.ctx 10 1 channel).n j :=
    congrArg Int.toNat (Eng.Spares.feCause hj hm (.refl _ _) 11).obj
  constructor
  · refine (hspared (j := Od.GNSS_CHAN.state channel) (gnssKey_area (by omega)) fun m hm => odKey_ne (by omega)).trans ?_
    exact (congrArg Int.toNat (Eng.detect_i_of_lt (gnssKey_lt (by omega)) ..)).trans (Eng.chanIdle_state ..)
  · refine (hspared (j := Od.FLT_BLOCK.latch 10) (by decide) fun m hm => odKey_ne (by omega)).trans ?_
    have hidle : (s.eng0.chanIdle channel).n (Od.FLT_BLOCK.latch 10) = s.eng.n (Od.FLT_BLOCK.latch 10) :=
      congrArg Int.toNat (Eng.chanIdle_i_other s.eng0 fun m hm => odKey_ne (by omega))
    rw [Eng.detect_latch, hidle]
    rfl

theorem exec_channelRelease_releases {s : State} (hup : s.eng.up = true) (channel : Fin 128)
    (hdue : s.eng.releaseDue s.ctx channel = true) :
    ∃ t, exec (.channelRelease channel) s = .next t ∧ s.beside t ∧ t.eng.n (Od.GNSS_CHAN.state channel) = 0 ∧
      (∀ k, Key.area k ≠ 0x24 → t.eng.i k = s.eng.i k) ∧
      ∀ d : Fin 128, d ≠ channel → t.eng.n (Od.GNSS_CHAN.state d) = s.eng.n (Od.GNSS_CHAN.state d) :=
  ⟨_, (exec_channelRelease channel s).trans (lift_whenDue (due := fun x e => e.releaseDue x channel) hup hdue), ⟨rfl, rfl, rfl⟩,
    Eng.chanIdle_state .., fun _ hk => Eng.chanIdle_i_other s.eng0 fun _ _ => ne_odKey_of_area hk (by omega),
    fun _ hd => congrArg Int.toNat (Eng.chanIdle_i_other s.eng0 (chanState_ne (Fin.val_ne_of_ne hd)))⟩

theorem exec_raimRejoin_rejoins {s : State} (hup : s.eng.up = true) (channel : Fin 128) {since : Nat}
    (hexcluded : tget s.eng.gnss.excluded channel = some since) (hover : s.ctx.passed since (60 * unitsPerSec) = true)
    (hstate : s.eng.n (Od.GNSS_CHAN.state channel) = 3) :
    ∃ t, exec (.raimRejoin channel) s = .next t ∧ s.beside t ∧ t.eng.n (Od.GNSS_CHAN.state channel) = 2 ∧
      tget t.eng.gnss.excluded channel = none ∧ ∀ k, k ≠ Od.GNSS_CHAN.state channel → t.eng.i k = s.eng.i k := by
  refine ⟨_, (exec_raimRejoin channel s).trans (lift_up hup _), ⟨rfl, rfl, rfl⟩, ?_⟩
  dsimp only
  rw [State.eng0_gnss, hexcluded]
  dsimp only
  rw [if_pos hover, if_pos (by exact hstate)]
  exact ⟨congrArg Int.toNat (Eng.set_i_same ..), tget_tdel_same .., fun k hk => Eng.set_i_other _ _ _ _ hk⟩

/-! ## The antenna's fault pin (R250) -/

theorem exec_antennaFaultPin_shows {s : State} (hup : s.eng.up = true) (fe : Fin 2) (low : Bool) (hlen : s.eng.gnss.fes.length = 2) :
    ∃ t, exec (.antennaFaultPin fe low) s = .next t ∧ s.beside t ∧ (t.eng.fe fe).antLow = low ∧
      (low = true → s.eng.b (Od.GNSS_FE.antenna_fault fe) = true → s.eng.feState fe ≠ 0 →
        bitOf (t.eng.n (Od.GNSS_FE_STATUS.causes fe)) 10 = true) := by
  refine ⟨_, (exec_antennaFaultPin fe low s).trans (lift_up hup _), ⟨rfl, rfl, rfl⟩, ?_⟩
  have hpin : ((s.eng0.modFe fe (fun g => { g with antLow := low })).fe fe).antLow = low :=
    congrArg GnssFe.antLow (Eng.modFe_fe_same (e := s.eng0) (fe.isLt.trans_eq hlen.symm) _)
  exact ⟨((Eng.KeepsMarks.refl _).antennaCause.antLow fe).trans hpin,
    fun hlow hen hon => Eng.antennaCause_causes (e := s.eng0.modFe fe _) fe.isLt (hpin.trans hlow) hen hon⟩

/-! ## The statement -/

/-- Settles O46, a clause by each command's rule above. -/
theorem gnssChannelsAreTakenAndReleased : Obligations.GnssChannelsAreTakenAndReleased := fun _ hup =>
  ⟨exec_gnssSampleBlock_floor hup, fun _ _ _ => exec_acquisitionDwell_takes hup,
    fun channel _ => exec_checkChannelPass_releases hup channel, exec_channelRelease_releases hup,
    fun channel _ => exec_raimRejoin_rejoins hup channel, exec_antennaFaultPin_shows hup⟩

end Sys2Proof.Machine
end

section
/-! # An epoch of a front end (R237, R240, R250) -/

namespace Sys2Proof.Machine

section
variable {j : Key} {a e : Eng} {x : Ctx} {f : Nat}

/-! ## Navigation data and the store's view of it -/

/-- An item of navigation data shows the leap second it tells, and whether that disagrees with the device's. -/
theorem Eng.Spares.navItem (hleap : ∀ m < 16, j ≠ odKey 0x24 0x006 m) (hsticky : j ≠ Od.GNSS_FE_STATUS.sticky f) (h : Eng.Spares j a e)
    (now : Nat) (n : NavItem) : Eng.Spares j a (e.navItem now f n) := by
  unfold Eng.navItem
  split
  · exact h.trans ⟨rfl, rfl⟩
  · exact h.trans ⟨rfl, rfl⟩
  · extract_lets cur ahead bad e1
    have h1 : Eng.Spares j a e1 := h.setAll (by
      simp only [List.forall_mem_cons, List.not_mem_nil, false_imp_iff, implies_true, and_true]
      exact ⟨hleap 1 (by decide), hleap 2 (by decide), hleap 3 (by decide), hleap 4 (by decide)⟩)
    exact .ite h (.ite (h1.orb hsticky _) h1)

theorem Eng.Spares.showStore (hstore : ∀ m < 16, j ≠ odKey 0x24 0x005 m) (h : Eng.Spares j a e) (now : Nat) :
    Eng.Spares j a (e.showStore now) := (h.set (hstore 2 (by decide)) _).set (hstore 3 (by decide)) _

/-! ## What an epoch does before the solver -/

/-- The epoch's instant is noted and its navigation data kept. -/
def Eng.navigated (e : Eng) (x : Ctx) (f : Nat) (p : GnssEpoch) : Eng :=
  (p.nav.foldl (fun e n => e.navItem p.now f n) (e.modFe f fun g => { g with lastEpoch := e.epochInstant x })).showStore p.now

/-- The causes that need no solution are judged. -/
def Eng.judged (e : Eng) (x : Ctx) (f : Nat) : Eng :=
  let e := ((e.antennaCause x f).feCauseIf x f 2 (e.jammed f)).keepFloor x f
  (e.feCauseIf x f 3 (e.overpowered f)).feCauseIf x f 6 (e.osnmaFailed x f)

/-- An epoch that is not worked yet: what comes before the solver, the solver of a front end that tracks, and the causes that end. -/
theorem Eng.epoch_worked (p : GnssEpoch) (hon : e.feState f ≠ 0) (hnew : (e.fe f).lastEpoch < e.epochInstant x) :
    e.epoch x f p = (if 3 ≤ ((e.navigated x f p).judged x f).feState f then ((e.navigated x f p).judged x f).solve x f p
      else (((e.navigated x f p).judged x f).feCause x f 5).unsolved f).feClear x f :=
  if_neg (not_or.2 ⟨hon, Nat.not_le.2 hnew⟩)

theorem Eng.navigated_keeps (p : GnssEpoch) :
    Eng.KeepsMarks (e.modFe f fun g => { g with lastEpoch := e.epochInstant x }) (e.navigated x f p) :=
  ((Eng.KeepsMarks.refl _).foldl (fun _ n hb => hb.navItem _ n) _).showStore _

theorem Eng.KeepsMarks.judged (h : Eng.KeepsMarks a e) : Eng.KeepsMarks a (e.judged x f) :=
  ((((h.antennaCause).feCauseIf 2 _).keepFloor).feCauseIf 3 _).feCauseIf 6 _

theorem Eng.navigated_feState (hf : f < 2) (p : GnssEpoch) : (e.navigated x f p).feState f = e.feState f := by
  have hitems : Eng.Spares (Od.GNSS_FE_STATUS.state f) e
      (p.nav.foldl (fun e n => e.navItem p.now f n) (e.modFe f fun g => { g with lastEpoch := e.epochInstant x })) :=
    (Eng.Spares.modFe ..).trans (.foldl (fun b n => .navItem (fun m hm => odKey_ne (by omega)) (odKey_ne (by omega)) (.refl _ b) _ n) _ _)
  exact congrArg Int.toNat (Eng.Spares.showStore (fun m hm => odKey_ne (by omega)) hitems p.now).obj

theorem Eng.judged_idle (hf : f < 2) (h : e.feIdle f) : (e.judged x f).feIdle f := by
  unfold Eng.judged
  extract_lets e1
  have hkept {b : Eng} (hb : b.feIdle f) : (b.keepFloor x f).feIdle f := hb
  have hantenna : (e.antennaCause x f).feIdle f := Eng.feCauseIf_idle hf h 10 _
  have h1 : e1.feIdle f := hkept (Eng.feCauseIf_idle hf hantenna 2 _)
  exact Eng.feCauseIf_idle hf (Eng.feCauseIf_idle hf h1 3 _) 6 _

/-! ## What an epoch leaves -/

theorem Eng.epoch_lastEpoch (hlen : f < e.gnss.fes.length) (p : GnssEpoch) (hon : e.feState f ≠ 0)
    (hnew : (e.fe f).lastEpoch < e.epochInstant x) : ((e.epoch x f p).fe f).lastEpoch = e.epochInstant x := by
  have hjudged : Eng.KeepsMarks (e.modFe f fun g => { g with lastEpoch := e.epochInstant x }) ((e.navigated x f p).judged x f) :=
    (Eng.navigated_keeps p).judged
  rw [Eng.epoch_worked p hon hnew]
  exact ((Eng.KeepsMarks.ite (hjudged.solve p) (hjudged.feCause 5).unsolved).feClear.lastEpoch f).trans
    (congrArg GnssFe.lastEpoch (Eng.modFe_fe_same hlen _))

theorem Eng.unsolved_n (e : Eng) (f : Nat) (k : Key) : (e.unsolved f).n k = e.n k := rfl

theorem Eng.unsolved_seen (e : Eng) (f : Nat) : ((e.unsolved f).fe f).seen = (e.fe f).seen :=
  Eng.fe_of_readFes (Eng.readFes_modFe (π := GnssFe.seen) (g := fun g => { g with ffRun := 0, incRun := 0 }) fun _ => rfl) f

/-- A front end that tracks nothing has too few satellites: the cause is set, and is no cause that ends. -/
theorem Eng.epoch_few (hf : f < 2) (hlen : f < e.gnss.fes.length) (p : GnssEpoch) (hsearch : e.feState f = 2)
    (hnew : (e.fe f).lastEpoch < e.epochInstant x) : bitOf ((e.epoch x f p).n (Od.GNSS_FE_STATUS.causes f)) 5 = true := by
  have hidle : ((e.navigated x f p).judged x f).feIdle f :=
    Eng.judged_idle hf (.inr ((Eng.navigated_feState hf p).trans hsearch))
  have hon : ((e.navigated x f p).judged x f).feState f ≠ 0 ∧ ¬ 3 ≤ ((e.navigated x f p).judged x f).feState f := by
    obtain h | h := hidle <;> rw [h] <;> decide
  have hfes : ((e.navigated x f p).judged x f).gnss.fes.length = e.gnss.fes.length :=
    (Eng.navigated_keeps p).judged.fes_length.trans (List.length_modify ..)
  have hcauses := Eng.feCause_causes (x := x) hf hon.1 5
  have hseen := Eng.feCause_seen (x := x) hon.1 (hlen.trans_eq hfes.symm) 5
  rw [Eng.epoch_worked p (by rw [hsearch]; decide) hnew, if_neg hon.2, Eng.feClear_causes hf, Eng.unsolved_n, Eng.unsolved_seen, bitOf,
    Nat.testBit_and]
  exact Bool.and_eq_true_iff.2 ⟨hcauses, hseen⟩

end
end Sys2Proof.Machine
end

section
/-! # Authentication, the stored orbits and the writes of GNSS, and the settling of O47 (R237, R246, R248, R251) -/

namespace Sys2Proof.Machine

/-! ## Authentication (R248) -/

section
variable {j : Key} {a e : Eng} {x : Ctx} {prn : Nat}

/-- A satellite's authentication is shown by the channels that track it. -/
theorem Eng.Spares.markAuth (hauth : ∀ c < 128, j ≠ Od.GNSS_CHAN.auth c) (h : Eng.Spares j a e) (prn st : Nat) :
    Eng.Spares j a (e.markAuth prn st) := by
  unfold Eng.markAuth
  exact List.foldlRecOn _ _ h fun b hb c hc => .ite (hb.set (hauth c (List.mem_range.1 hc)) _) hb

theorem Eng.onlyObjects_markAuth (h : a.onlyObjects e) (prn st : Nat) : a.onlyObjects (e.markAuth prn st) := by
  unfold Eng.markAuth
  exact List.foldlRecOn _ _ h fun b hb c _ => Eng.onlyObjects_ite (Eng.onlyObjects_set hb _ _) hb

theorem Eng.markAuth_failed (e : Eng) (prn st sat : Nat) : tget (e.markAuth prn st).gnss.failed sat = tget e.gnss.failed sat :=
  congrArg (fun g : Gnss => tget g.failed sat) (Eng.markAuth_keeps (φ := .gnss) ..)

/-- A tag that failed is counted, and told to each front end that uses its satellite. -/
def Eng.tagTold (e : Eng) (x : Ctx) (prn : Nat) : Eng :=
  (List.range 2).foldl (fun e f =>
    if (List.range 128).any (fun c => e.chanOf f c && e.b (Od.GNSS_CHAN.used c) && e.chanSat c == satOf 1 prn)
    then e.modFe f (fun g => { g with osnmaAt := some (x.st 0) }) else e) (e.inc32 Od.GNSS_OSNMA.tags_failed)

/-- The satellites whose tags failed are `t`. -/
def Eng.withFailed (e : Eng) (t : Tbl Nat) : Eng := { e with gnss := { e.gnss with failed := t } }

theorem Eng.withFailed_failed (e : Eng) (t : Tbl Nat) : (e.withFailed t).gnss.failed = t := rfl

theorem Eng.Spares.withFailed (j : Key) (e : Eng) (t : Tbl Nat) : Eng.Spares j e (e.withFailed t) := ⟨rfl, rfl⟩

theorem Eng.tagTold_count (e : Eng) (x : Ctx) (prn : Nat) :
    (e.tagTold x prn).n Od.GNSS_OSNMA.tags_failed = (e.n Od.GNSS_OSNMA.tags_failed + 1) % 2 ^ 32 := by
  have hcounted : Eng.Spares Od.GNSS_OSNMA.tags_failed (e.inc32 Od.GNSS_OSNMA.tags_failed) (e.tagTold x prn) :=
    .foldl (fun b f => .ite (.modFe _ b f _) (.refl _ b)) _ _
  rw [Eng.n, hcounted.obj]
  exact Eng.inc32_n_same ..

variable (hpolicy : e.n Od.GNSS_GLOBAL.osnma_policy ≠ 0) (hroot : e.n Od.GNSS_OSNMA.merkle_root ≠ 0)

include hpolicy hroot

theorem Eng.osnma_publicKey (kt : Nat) : e.osnma x (.publicKey true kt) = e.set Od.GNSS_OSNMA.key_type (kt % 256 : Nat) :=
  if_neg (not_or.2 ⟨hpolicy, hroot⟩)

/-- A good tag is counted; where it completes a satellite's authentication, that is shown. -/
theorem Eng.osnma_goodTag (complete : Bool) : e.onlyObjects (e.osnma x (.tag prn true complete)) ∧
    (e.osnma x (.tag prn true complete)).n Od.GNSS_OSNMA.tags_ok = (e.n Od.GNSS_OSNMA.tags_ok + 1) % 2 ^ 64 := by
  unfold Eng.osnma
  rw [if_neg (not_or.2 ⟨hpolicy, hroot⟩)]
  dsimp only
  rw [if_pos rfl]
  have hcounted : e.onlyObjects (e.inc64 Od.GNSS_OSNMA.tags_ok) := Eng.onlyObjects_set (Eng.onlyObjects_refl e) _ _
  refine ⟨Eng.onlyObjects_ite (Eng.onlyObjects_set (Eng.onlyObjects_markAuth hcounted prn 2) _ _) hcounted, ?_⟩
  have hshown : Eng.Spares Od.GNSS_OSNMA.tags_ok (e.inc64 Od.GNSS_OSNMA.tags_ok)
      (((e.inc64 Od.GNSS_OSNMA.tags_ok).markAuth prn 2).set Od.GNSS_OSNMA.last_auth_tick x.tick) :=
    (Eng.Spares.markAuth (fun c hc => odKey_ne (by omega)) (.refl _ _) prn 2).set (by decide) _
  exact (congrArg Int.toNat (Eng.Spares.ite hshown (.refl _ _)).obj).trans (Eng.inc64_n_same ..)

theorem Eng.osnma_badTag (complete : Bool) : e.osnma x (.tag prn false complete) =
    ((e.tagTold x prn).withFailed (tput (e.tagTold x prn).gnss.failed prn (x.st 0))).markAuth prn 3 :=
  if_neg (not_or.2 ⟨hpolicy, hroot⟩)

/-- A bad tag is counted, and its satellite is remembered. -/
theorem Eng.osnma_badTag_shows (complete : Bool) : tget (e.osnma x (.tag prn false complete)).gnss.failed prn = some (x.st 0) ∧
    (e.osnma x (.tag prn false complete)).n Od.GNSS_OSNMA.tags_failed = (e.n Od.GNSS_OSNMA.tags_failed + 1) % 2 ^ 32 := by
  have hauth (c : Nat) (hc : c < 128) : Od.GNSS_OSNMA.tags_failed ≠ Od.GNSS_CHAN.auth c := odKey_ne (by omega)
  rw [Eng.osnma_badTag hpolicy hroot, Eng.markAuth_failed, Eng.withFailed_failed, tget_tput_same]
  exact ⟨rfl, (congrArg Int.toNat (Eng.Spares.markAuth hauth (.withFailed ..) prn 3).obj).trans (e.tagTold_count x prn)⟩

end

section
variable {s : State} (hup : s.eng.up = true)

include hup

theorem exec_osnmaFailExpiry_forgets (prn : Nat) (hover : s.eng.failOver s.ctx prn = true) :
    ∃ t, exec (.osnmaFailExpiry prn) s = .next t ∧ s.beside t ∧ tget t.eng.gnss.failed prn = none ∧
      ∀ k, Key.area k ≠ 0x24 → t.eng.i k = s.eng.i k := by
  have hforgets : exec (.osnmaFailExpiry prn) s =
      .next { s with eng := (s.eng0.withFailed (tdel s.eng.gnss.failed prn)).markAuth prn 1 } :=
    (exec_osnmaFailExpiry prn s).trans (lift_whenDue (due := fun x e => e.failOver x prn) hup hover)
  refine ⟨_, hforgets, ⟨rfl, rfl, rfl⟩, ?_, fun k hk => ?_⟩
  · dsimp only
    rw [Eng.markAuth_failed, Eng.withFailed_failed, tget_tdel_same]
  · dsimp only
    exact (Eng.Spares.markAuth (fun c hc => ne_odKey_of_area hk (by omega)) (.withFailed k s.eng0 _) prn 1).obj

/-! ## The stored orbits (R237) -/

theorem exec_gnssStoreSave_hourly (hdue : s.ctx.passed s.eng.gnss.savedAt (3600 * unitsPerSec) = true) :
    ∃ t, exec (.gnssStoreSave none) s = .next t ∧ s.beside t ∧ t.eng.flash = { s.eng.flash with gnss := s.eng.gnss.orbits } ∧
      t.eng.gnss = { s.eng.gnss with savedAt := s.ctx.st 0 } ∧ t.eng.n Od.GNSS_STORE.last_save_tick = s.core.tick :=
  ⟨_, (exec_gnssStoreSave none s).trans (lift_whenDue (due := fun x e => x.passed e.gnss.savedAt (3600 * unitsPerSec)) hup hdue),
    ⟨rfl, rfl, rfl⟩, rfl, rfl, congrArg Int.toNat (Eng.set_i_same ..)⟩

theorem exec_gnssStoreSave_commanded {roles : Nat} (had : s.eng.admits Od.GNSS_STORE.save 1 roles = true) :
    ∃ t, exec (.gnssStoreSave (some (1, roles))) s = .next t ∧ s.accepted t ∧
      t.eng.flash = { s.eng.flash with gnss := s.eng.gnss.orbits } ∧
      t.eng.gnss = { s.eng.gnss with savedAt := s.ctx.st 0 } ∧ t.eng.n Od.GNSS_STORE.last_save_tick = s.core.tick := by
  obtain ⟨t, ht, hans⟩ := lift_writeCmd_answersOk (op := fun x => gnssSaveWrite x 1) hup had rfl
  refine ⟨t, (exec_gnssStoreSave _ s).trans ht, ⟨hans.status, hans.beside⟩, (congrArg Eng.flash hans.rest :),
    (congrArg Eng.gnss hans.rest :), ?_⟩
  exact congrArg Int.toNat ((hans.obj _ (accounting_area (a := 0x24) (i := 0x005) (m := 4) (by decide) (by decide))).trans
    (Eng.set_i_same ..))

end

/-! ## The records of GNSS (R246, R251, R344, R345) -/

/-- What an admitted write of a record names: members of the record, each once where its writable members are different objects. -/
theorem recValues_named {e : Eng} {area item roles : Nat} {w : RecWrite}
    (hkeys : (recKeys area item).Nodup ∧ ∀ k ∈ recKeys area item, ∃ m < 16, k = odKey area item m)
    (had : e.admitsRec area item w roles = true) :
    ((recValues area item w).map Prod.fst).Nodup ∧ ∀ p ∈ recValues area item w, ∃ m < 16, p.1 = odKey area item m := by
  obtain ⟨hnodup, hmem⟩ := hkeys
  cases w with
  | member m v =>
    refine ⟨List.nodup_singleton _, fun p hp => ⟨m, of_decide_eq_true (Bool.and_eq_true_iff.1 had).1, ?_⟩⟩
    rw [List.mem_singleton.1 hp]
  | whole vs =>
    have hlen : (recKeys area item).length ≤ vs.length := (beq_iff_eq.1 (Bool.and_eq_true_iff.1 had).1).ge
    exact ⟨by rwa [recValues, List.map_fst_zip hlen], fun p hp => hmem _ (List.of_mem_zip hp).1⟩

/-- The writable members of GNSS_GLOBAL, of GNSS_HELD and of the front ends' GNSS_FE are different objects of area 24. -/
theorem gnssRecKeys : ∀ item ∈ [0x001, 0x003, 0x010, 0x011],
    (recKeys 0x24 item).Nodup ∧ ∀ k ∈ recKeys 0x24 item, ∃ m < 16, k = odKey 0x24 item m := by
  decide +kernel

section
variable {e : Eng} {vs : List (Key × Int)}

theorem Eng.Spares.feRestarts (j : Key) (e : Eng) : Eng.Spares j e e.feRestarts :=
  .foldl (fun b f => .ite (.modFe j b f _) (.refl j b)) _ e

/-- The front ends restart at most. -/
theorem gnssGlobalWrite_stores (hsystem : bitOf ((e.setAll vs).n Od.GNSS_GLOBAL.systems) ((e.setAll vs).n Od.GNSS_GLOBAL.time_ref) = true)
    (hcn0 : (e.setAll vs).n Od.GNSS_GLOBAL.cn0_min + 5 ≤ (e.setAll vs).n Od.GNSS_GLOBAL.cn0_max) :
    ∃ e', gnssGlobalWrite vs e = (stOk, e') ∧ ∀ k, e'.i k = (e.setAll vs).i k := by
  unfold gnssGlobalWrite
  extract_lets n
  rw [hsystem, decide_eq_false (Nat.not_lt.2 hcn0), Bool.not_true, Bool.and_false, Bool.and_false, Bool.or_false,
    if_neg Bool.false_ne_true]
  split
  · exact ⟨_, rfl, fun k => (Eng.Spares.feRestarts k n).obj⟩
  · exact ⟨_, rfl, fun _ => rfl⟩

theorem gnssFeWrite_stores (x : Ctx) {f : Nat}
    (hchannels : (e.setAll vs).n (Od.GNSS_FE.channels_max 0) + (e.setAll vs).n (Od.GNSS_FE.channels_max 1) ≤ 128)
    (hlever : leverOk ((e.setAll vs).n (Od.GNSS_FE.lever_mm f)) = true)
    (hslot : slotCheck (e.setAll vs).od (srcGnss f) ((e.setAll vs).n (Od.GNSS_FE.slot f)) = stOk) :
    gnssFeWrite x f vs e = (stOk, (e.setAll vs).feRestarts.rebind x) := by
  unfold gnssFeWrite
  extract_lets n st
  have hfree : (st != stOk) = false := bne_eq_false_iff_eq.2 hslot
  rw [hlever, decide_eq_false (Nat.not_lt.2 hchannels), hfree, Bool.not_true, Bool.and_false, Bool.and_false, Bool.or_false,
    if_neg Bool.false_ne_true, Bool.and_false, if_neg Bool.false_ne_true]

/-- A write of the held position. -/
theorem gnssHeldWrite_stores (vs : List (Key × Int)) (e : Eng) : ∃ e', gnssHeldWrite vs e = (stOk, e') ∧ (e.setAll vs).onlyObjects e' ∧
    (∀ k, k ≠ Od.GNSS_HELD.origin → k ≠ Od.GNSS_HELD.valid → e'.i k = (e.setAll vs).i k) ∧
    (vs.any (fun p => p.1 == Od.GNSS_HELD.lat || p.1 == Od.GNSS_HELD.lon || p.1 == Od.GNSS_HELD.height) = true →
      e'.i Od.GNSS_HELD.origin = 2 ∧ e'.i Od.GNSS_HELD.valid = 1) := by
  unfold gnssHeldWrite
  extract_lets n
  split
  · exact ⟨_, rfl, Eng.onlyObjects_set (Eng.onlyObjects_set (Eng.onlyObjects_refl n) _ _) _ _,
      fun k horigin hvalid => (Eng.set_i_other _ _ _ _ hvalid).trans (Eng.set_i_other _ _ _ _ horigin),
      fun _ => ⟨(Eng.set_i_other _ _ _ _ (by decide)).trans (Eng.set_i_same ..), Eng.set_i_same ..⟩⟩
  next hnone => exact ⟨_, rfl, Eng.onlyObjects_refl n, fun _ _ _ => rfl, fun h => absurd h hnone⟩

end

section
variable {s : State} {w : RecWrite} {roles : Nat} (hup : s.eng.up = true)

include hup

theorem exec_gnssHeldWrite_stores (had : s.eng.admitsRec 0x24 0x003 w roles = true) :
    ∃ t, exec (.gnssHeldWrite w roles) s = .next t ∧ s.accepted t ∧ s.eng.onlyObjects t.eng ∧
      (∀ p ∈ recValues 0x24 0x003 w, p.1 ≠ Od.GNSS_HELD.origin → p.1 ≠ Od.GNSS_HELD.valid → t.eng.i p.1 = p.2) ∧
      ((recValues 0x24 0x003 w).any (fun p => p.1 == Od.GNSS_HELD.lat || p.1 == Od.GNSS_HELD.lon || p.1 == Od.GNSS_HELD.height) = true →
        t.eng.i Od.GNSS_HELD.origin = 2 ∧ t.eng.i Od.GNSS_HELD.valid = 1) := by
  obtain ⟨hnodup, hmem⟩ := recValues_named (gnssRecKeys _ (by decide)) had
  obtain ⟨e, hwrite, honly, hobj, hheld⟩ := gnssHeldWrite_stores (recValues 0x24 0x003 w) s.eng0
  obtain ⟨t, ht, hans⟩ := lift_recCmd_answersOk (op := fun _ => gnssHeldWrite) hup had hwrite
  refine ⟨t, (exec_gnssHeldWrite w roles s).trans ht, ⟨hans.status, hans.beside⟩,
    Eng.onlyObjects_trans (Eng.onlyObjects_trans (Eng.setAll_onlyObjects s.onlyObjects_eng0 _) honly) hans.rest,
    fun p hp horigin hvalid => ?_, fun hnamed => ?_⟩
  · obtain ⟨m, hm, hpm⟩ := hmem p hp
    rw [hans.obj _ (by rw [hpm]; exact accounting_area (by decide) (by omega)), hobj _ horigin hvalid]
    exact Eng.setAll_i_mem _ _ hnodup p hp
  · obtain ⟨horigin, hvalid⟩ := hheld hnamed
    exact ⟨(hans.obj _ (by decide)).trans horigin, (hans.obj _ (by decide)).trans hvalid⟩

theorem exec_gnssConfigWrite_global (had : s.eng.admitsRec 0x24 0x001 w roles = true)
    (hsystem : bitOf ((s.eng.setAll (recValues 0x24 0x001 w)).n Od.GNSS_GLOBAL.systems)
      ((s.eng.setAll (recValues 0x24 0x001 w)).n Od.GNSS_GLOBAL.time_ref) = true)
    (hcn0 : (s.eng.setAll (recValues 0x24 0x001 w)).n Od.GNSS_GLOBAL.cn0_min + 5 ≤
      (s.eng.setAll (recValues 0x24 0x001 w)).n Od.GNSS_GLOBAL.cn0_max) :
    ∃ t, exec (.gnssConfigWrite none w roles) s = .next t ∧ s.stored t (recValues 0x24 0x001 w) := by
  obtain ⟨hnodup, hmem⟩ := recValues_named (gnssRecKeys _ (by decide)) had
  obtain ⟨e, hwrite, hobj⟩ := gnssGlobalWrite_stores (e := s.eng0) (vs := recValues 0x24 0x001 w)
    (by rw [s.eng0_setAll]; exact hsystem) (by rw [s.eng0_setAll]; exact hcn0)
  obtain ⟨t, ht, hans⟩ := lift_recCmd_answersOk (op := fun _ => gnssGlobalWrite) hup had hwrite
  refine ⟨t, (exec_gnssConfigWrite none w roles s).trans ht, hans.status, fun p hp => ?_, fun k hk hacc => ?_, hans.beside⟩
  · obtain ⟨m, hm, hpm⟩ := hmem p hp
    rw [hans.obj _ (by rw [hpm]; exact accounting_area (by decide) (by omega)), hobj]
    exact Eng.setAll_i_mem _ _ hnodup p hp
  · exact (hans.obj k hacc).trans ((hobj k).trans (Eng.setAll_i_other _ _ k hk))

theorem exec_gnssConfigWrite_fe (fe : Fin 2) (had : s.eng.admitsRec 0x24 (0x010 + fe) w roles = true)
    (hchannels : (s.eng.setAll (recValues 0x24 (0x010 + fe) w)).n (Od.GNSS_FE.channels_max 0) +
      (s.eng.setAll (recValues 0x24 (0x010 + fe) w)).n (Od.GNSS_FE.channels_max 1) ≤ 128)
    (hlever : leverOk ((s.eng.setAll (recValues 0x24 (0x010 + fe) w)).n (Od.GNSS_FE.lever_mm fe)) = true)
    (hslot : slotCheck (s.eng.setAll (recValues 0x24 (0x010 + fe) w)).od (srcGnss fe)
      ((s.eng.setAll (recValues 0x24 (0x010 + fe) w)).n (Od.GNSS_FE.slot fe)) = stOk) :
    ∃ t, exec (.gnssConfigWrite (some fe) w roles) s = .next t ∧ s.accepted t ∧
      ∀ p ∈ recValues 0x24 (0x010 + fe) w, t.eng.i p.1 = p.2 := by
  have hitem : ∀ f : Fin 2, 0x010 + (f : Nat) ∈ [0x001, 0x003, 0x010, 0x011] := by decide
  obtain ⟨hnodup, hmem⟩ := recValues_named (gnssRecKeys _ (hitem fe)) had
  have hwrite : gnssFeWrite s.ctx fe (recValues 0x24 (0x010 + fe) w) s.eng0 = (stOk, _) :=
    gnssFeWrite_stores s.ctx (by rw [s.eng0_setAll]; exact hchannels) (by rw [s.eng0_setAll]; exact hlever)
      (by rw [s.eng0_setAll]; exact hslot)
  obtain ⟨t, ht, hans⟩ := lift_recCmd_answersOk (op := fun x => gnssFeWrite x fe) hup had hwrite
  refine ⟨t, (exec_gnssConfigWrite (some fe) w roles s).trans ht, ⟨hans.status, hans.beside⟩, fun p hp => ?_⟩
  obtain ⟨m, hm, hpm⟩ := hmem p hp
  have hsel : p.1.area ≠ 0x28 := by
    rw [hpm]
    exact gnssKey_area (by omega)
  rw [hans.obj _ (by rw [hpm]; exact accounting_area (by decide) (by omega)),
    (Eng.Spares.rebind hsel (.feRestarts p.1 (s.eng0.setAll (recValues 0x24 (0x010 + fe) w)))).obj]
  exact Eng.setAll_i_mem _ _ hnodup p hp

end

/-! ## The statement -/

/-- Settles O47: an epoch by `Eng.epoch_lastEpoch` and `Eng.epoch_few`, a verifier's result by its kind, and a record's write by what its
chapter stores. -/
theorem gnssSolutionsAuthenticationAndStores : Obligations.GnssSolutionsAuthenticationAndStores := by
  refine fun s hup => ⟨fun fe epoch hlen hon hnew => ?_,
    fun hpolicy hroot => ⟨fun kt => ?_, fun prn complete => ?_, fun prn complete => ?_⟩,
    exec_osnmaFailExpiry_forgets hup, exec_gnssStoreSave_hourly hup, fun _ => exec_gnssStoreSave_commanded hup, ?_, ?_, ?_⟩
  · have hfe : (fe : Nat) < s.eng0.gnss.fes.length := fe.isLt.trans_eq hlen.symm
    exact ⟨_, (exec_gnssSolutionEpoch fe epoch s).trans (lift_up hup _), ⟨rfl, rfl, rfl⟩, Eng.epoch_lastEpoch hfe epoch hon hnew,
      fun hsearch => Eng.epoch_few fe.isLt hfe epoch hsearch hnew⟩
  · refine ⟨_, (exec_osnmaVerify _ s).trans (lift_up hup _), ⟨rfl, rfl, rfl⟩, ?_⟩
    rw [Eng.osnma_publicKey (e := s.eng0) hpolicy hroot]
    exact ⟨Eng.onlyObjects_set s.onlyObjects_eng0 _ _, congrArg Int.toNat (Eng.set_i_same ..)⟩
  · obtain ⟨honly, hcount⟩ := Eng.osnma_goodTag (e := s.eng0) (x := s.ctx) (prn := prn) hpolicy hroot complete
    exact ⟨_, (exec_osnmaVerify _ s).trans (lift_up hup _), ⟨rfl, rfl, rfl⟩, Eng.onlyObjects_trans s.onlyObjects_eng0 honly, hcount⟩
  · exact ⟨_, (exec_osnmaVerify _ s).trans (lift_up hup _), ⟨rfl, rfl, rfl⟩,
      Eng.osnma_badTag_shows (e := s.eng0) (x := s.ctx) hpolicy hroot complete⟩
  · rintro w roles _ rfl had
    exact exec_gnssHeldWrite_stores hup had
  · rintro w roles _ rfl had f hsystem hcn0
    exact exec_gnssConfigWrite_global hup had hsystem hcn0
  · rintro fe w roles _ rfl had f hchannels hlever hslot
    exact exec_gnssConfigWrite_fe hup fe had hchannels hlever hslot

end Sys2Proof.Machine
end

section
/-! # The slots judged and commanded, and the settling of O48 (R259, R260, R264, R265, R268, R269, R272) -/

namespace Sys2Proof.Machine

/-! ## The slots -/

section
variable {e e' : Eng} {s k : Nat} {f : SelSlot → SelSlot}

theorem Eng.slot_of_sel (h : e'.sel = e.sel) (k : Nat) : e'.slot k = e.slot k :=
  congrArg (fun p : Selector => nth p.slots k SelSlot.atReset) h

theorem Eng.setAll_slot (e : Eng) (vs : List (Key × Int)) (k : Nat) : (e.setAll vs).slot k = e.slot k :=
  Eng.slot_of_sel (Eng.setAll_keeps (φ := .sel) _ _) k

theorem Eng.noFigures_slot (e : Eng) (s k : Nat) : (e.noFigures s).slot k = e.slot k := Eng.setAll_slot ..

theorem Eng.noFigures_i (e : Eng) (s : Nat) {m : Nat} (hm : m < 10) : (e.noFigures s).i (odKey 0x28 (0x200 + s) (m + 1)) = 0 := by
  have hnodup : (((List.range 10).map fun i => (odKey 0x28 (0x200 + s) (i + 1), (0 : Int))).map Prod.fst).Nodup := by
    rw [List.map_map]
    exact List.nodup_range.map ((odKey_injective ..).comp Nat.succ_injective)
  exact Eng.setAll_i_mem e _ hnodup _ (List.mem_map_of_mem (List.mem_range.2 hm))

theorem Eng.modSlot_slot_same (hs : s < e.sel.slots.length) : (e.modSlot s f).slot s = f (e.slot s) :=
  (nth_modNth ..).trans (if_pos ⟨rfl, hs⟩)

theorem Eng.modSlot_slot_other (h : k ≠ s) : (e.modSlot s f).slot k = e.slot k :=
  (nth_modNth ..).trans (if_neg fun hk => h hk.1)

/-- A change that a slot after reset does not show applies to every slot, one that the selector does not hold included. -/
theorem Eng.modSlot_slot_of_reset (hf : f SelSlot.atReset = SelSlot.atReset) : (e.modSlot s f).slot s = f (e.slot s) := by
  rcases Nat.lt_or_ge s e.sel.slots.length with hs | hs
  · exact Eng.modSlot_slot_same hs
  · have hreset : e.slot s = SelSlot.atReset := List.getD_eq_default _ _ hs
    rw [hreset, hf]
    exact ((nth_modNth ..).trans (if_neg fun h => Nat.not_lt.2 hs h.2)).trans hreset

/-- What a slot is after the answer. -/
theorem State.Answers.slot {s t : State} {st : Nat} (h : s.Answers st e t) (k : Nat) : t.eng.slot k = e.slot k :=
  Eng.slot_of_sel (congrArg Eng.sel h.rest :) k

end

theorem State.Answers.n {s t : State} {st : Nat} {e : Eng} (h : s.Answers st e t) {j : Key} (hj : accounting j = false) : t.eng.n j = e.n j :=
  congrArg Int.toNat (h.obj j hj)

theorem bitOf_clearBits (n m i : Nat) : bitOf (clearBits n m) i = (bitOf n i && !bitOf m i) := by
  rw [bitOf, clearBits, Nat.testBit_xor, Nat.testBit_and, bitOf, bitOf]
  cases n.testBit i <;> cases m.testBit i <;> rfl

/-! ## Causes and states (R264, R269) -/

section
variable {e : Eng} {x : Ctx} {s : Nat}

theorem slotStatus_ne {m m' : Nat} (h : m ≠ m') : odKey 0x28 (0x1C0 + s) m ≠ odKey 0x28 (0x1C0 + s) m' := (odKey_injective ..).ne h

variable (hs : s < 64)

include hs

/-- Beside its state, a slot that goes down changes no member of its status but the time left of its wait (R269). -/
theorem Eng.slotDown_spares {m : Nat} (hm : m < 16) (hwait : m ≠ 8) (hdown : e.selState s ≠ 1) :
    Eng.Spares (odKey 0x28 (0x1C0 + s) m) (e.set (Od.SEL_SLOT_STATUS.state s) 1) (e.slotDown x s) := by
  unfold Eng.slotDown
  rw [if_neg hdown]
  extract_lets e1 e2 e3
  have h1 : Eng.Spares (odKey 0x28 (0x1C0 + s) m) (e.set (Od.SEL_SLOT_STATUS.state s) 1) e1 :=
    Eng.Spares.inc32 (.refl ..) (odKey_ne (by omega))
  have h2 : Eng.Spares (odKey 0x28 (0x1C0 + s) m) (e.set (Od.SEL_SLOT_STATUS.state s) 1) e2 :=
    (h1.set (slotStatus_ne hwait) _).trans (.modSlot ..)
  have h3 : Eng.Spares (odKey 0x28 (0x1C0 + s) m) (e.set (Od.SEL_SLOT_STATUS.state s) 1) e3 := h2.setAll fun p hp => by
    obtain ⟨i, hi, rfl⟩ := List.mem_map.1 hp
    have hi := List.mem_range.1 hi
    exact odKey_ne (by omega)
  exact h3.trans (.foldl (fun b k => .ite (.modSelMoon _ b k _) (.refl _ b)) _ _)

theorem Eng.slotDown_state : (e.slotDown x s).n (Od.SEL_SLOT_STATUS.state s) = 1 := by
  by_cases h : e.selState s = 1
  · rw [Eng.slotDown, if_pos h]
    exact h
  · exact congrArg Int.toNat ((Eng.slotDown_spares hs (m := 2) (by decide) (by decide) h).obj.trans (Eng.set_i_same ..))

theorem Eng.slotDown_causes : (e.slotDown x s).n (Od.SEL_SLOT_STATUS.causes s) = e.n (Od.SEL_SLOT_STATUS.causes s) := by
  by_cases h : e.selState s = 1
  · rw [Eng.slotDown, if_pos h]
  · exact congrArg Int.toNat ((Eng.slotDown_spares hs (m := 3) (by decide) (by decide) h).obj.trans
      (Eng.set_i_other _ _ _ _ (slotStatus_ne (by decide))))

/-- A cause that is set is in force, and a slot that had not this cause is DISQUALIFIED. -/
theorem Eng.setCause_shows (c : Nat) : bitOf ((e.setCause x s c).n (Od.SEL_SLOT_STATUS.causes s)) c = true ∧
    (bitOf (e.n (Od.SEL_SLOT_STATUS.causes s)) c = false → (e.setCause x s c).n (Od.SEL_SLOT_STATUS.state s) = 1) := by
  unfold Eng.setCause
  split
  next hset => exact ⟨hset, fun hunset => absurd (hset.symm.trans hunset) (by decide)⟩
  next =>
    extract_lets e1 e2 e3
    have h1 : Eng.Spares (Od.SEL_SLOT_STATUS.causes s) (e.orb (Od.SEL_SLOT_STATUS.causes s) (2 ^ c)) e2 :=
      (Eng.Spares.orb (.refl ..) (slotStatus_ne (by decide)) _).inc32
        (slotStatus_ne (by decide))
    have h3 : Eng.Spares (Od.SEL_SLOT_STATUS.causes s) (e.orb (Od.SEL_SLOT_STATUS.causes s) (2 ^ c)) e3 :=
      .ite (h1.orb (odKey_ne (by omega)) _) h1
    refine ⟨?_, fun _ => Eng.slotDown_state hs⟩
    rw [Eng.slotDown_causes hs, Eng.n, h3.obj, Eng.orb_i, if_pos rfl]
    exact bitOf_or_two_pow ..

omit hs

/-- A slot that is ELIGIBLE waits no longer (R269). -/
theorem Eng.slotEligible_shows (e : Eng) (s : Nat) : (e.slotEligible s).n (Od.SEL_SLOT_STATUS.state s) = 3 ∧
    (e.slotEligible s).n (Od.SEL_SLOT_STATUS.wtr_remaining s) = 0 ∧ ((e.slotEligible s).slot s).wait = none :=
  ⟨congrArg Int.toNat ((Eng.set_i_other _ _ _ _ (slotStatus_ne (by decide))).trans (Eng.set_i_same ..)),
    congrArg Int.toNat (Eng.set_i_same ..), congrArg SelSlot.wait (Eng.modSlot_slot_of_reset rfl)⟩

/-- Of the causes those of the mask are cleared. -/
theorem Eng.clearCauses_causes (e : Eng) (x : Ctx) (s mask : Nat) (direct : Bool) :
    (e.clearCauses x s mask direct).n (Od.SEL_SLOT_STATUS.causes s) = clearBits (e.n (Od.SEL_SLOT_STATUS.causes s)) mask := by
  unfold Eng.clearCauses
  extract_lets old e1
  have hshown (v w : Int) (g : SelSlot → SelSlot) : Eng.Spares (Od.SEL_SLOT_STATUS.causes s) e1
      (((e1.set (Od.SEL_SLOT_STATUS.state s) v).set (Od.SEL_SLOT_STATUS.wtr_remaining s) w).modSlot s g) :=
    ((Eng.Spares.set (.refl ..) (slotStatus_ne (by decide)) v).set
      (slotStatus_ne (by decide)) w).trans (.modSlot ..)
  suffices hleft : Eng.Spares (Od.SEL_SLOT_STATUS.causes s) e1 _ from
    congrArg Int.toNat (hleft.obj.trans ((Eng.andc_i ..).trans (if_pos rfl)))
  exact .ite (.refl _ e1) (.ite (hshown ..) (hshown ..))

end

/-! ## Stability (R260) -/

/-- What a second of the stability history does to a slot: past the slot's last second its mean begins anew (R260). -/
def SelSlot.Sampled (sec : Nat) (t t' : SelSlot) : Prop :=
  (t.second < sec → t'.second = sec ∧ t'.mean = Mean.zero) ∧ (sec ≤ t.second → t' = t)

theorem SelSlot.Sampled.trans {sec : Nat} {t t' t'' : SelSlot} (h : t.Sampled sec t') (h' : t'.Sampled sec t'') : t.Sampled sec t'' := by
  refine ⟨fun hnew => ?_, fun hold => ?_⟩
  · obtain ⟨hsec, hmean⟩ := h.1 hnew
    rw [h'.2 hsec.ge]
    exact ⟨hsec, hmean⟩
  · obtain rfl := h.2 hold
    exact h'.2 hold

/-- The stability history of one slot at a second. -/
def Eng.stabSampled (sec : Nat) (e : Eng) (s : Nat) : Eng :=
  let t := e.slot s
  if sec ≤ t.second then e
  else
    let ok := e.slotUse s == 2 && (e.selState s == 3 || e.selState s == 2) && t.mean.n != 0
    let v := t.mean.sum.fdiv t.mean.n
    let e := e.modSlot s (fun t => { t with
      second := sec, mean := Mean.zero, samples := if ok then (v :: t.samples).take 120000 else t.samples })
    if ok then e.stabFigures s sec else e

theorem Eng.stability_eq (e : Eng) (x : Ctx) : e.stability x = (List.range 64).foldl (Eng.stabSampled (x.lin 0 / unitsPerSec)) e := rfl

section
variable {sec : Nat} {e : Eng} {s k : Nat}

/-- A slot's history changes the selector in that slot alone. -/
theorem Eng.stabSampled_sel (hnew : (e.slot s).second < sec) :
    ∃ f : SelSlot → SelSlot, (e.stabSampled sec s).sel = (e.modSlot s f).sel ∧ ∀ t, (f t).second = sec ∧ (f t).mean = Mean.zero := by
  unfold Eng.stabSampled
  extract_lets t ok v e1
  rw [if_neg (Nat.not_le.2 hnew)]
  have hsel : (if ok then e1.stabFigures s sec else e1).sel = e1.sel := by
    split
    · exact Eng.stabFigures_keeps (φ := .sel) ..
    · rfl
  exact ⟨_, hsel, fun _ => ⟨rfl, rfl⟩⟩

theorem Eng.stabSampled_length (e : Eng) (s : Nat) : (e.stabSampled sec s).sel.slots.length = e.sel.slots.length := by
  rcases Nat.lt_or_ge (e.slot s).second sec with hnew | hold
  · obtain ⟨f, hsel, -⟩ := Eng.stabSampled_sel hnew
    rw [hsel]
    exact List.length_modify ..
  · rw [Eng.stabSampled, if_pos hold]

theorem Eng.stabSampled_slot_other (h : k ≠ s) : (e.stabSampled sec s).slot k = e.slot k := by
  rcases Nat.lt_or_ge (e.slot s).second sec with hnew | hold
  · obtain ⟨f, hsel, -⟩ := Eng.stabSampled_sel hnew
    exact (Eng.slot_of_sel hsel k).trans (Eng.modSlot_slot_other h)
  · rw [Eng.stabSampled, if_pos hold]

theorem Eng.stabSampled_slot_same (hs : s < e.sel.slots.length) : (e.slot s).Sampled sec ((e.stabSampled sec s).slot s) := by
  refine ⟨fun hnew => ?_, fun hold => ?_⟩
  · obtain ⟨f, hsel, hf⟩ := Eng.stabSampled_sel hnew
    rw [Eng.slot_of_sel hsel, Eng.modSlot_slot_same hs]
    exact hf _
  · rw [Eng.stabSampled, if_pos hold]

/-- A pass over the slots takes each one's second. -/
theorem Eng.stabSampledAll_slot {l : List Nat} (hk : k < e.sel.slots.length) (hmem : k ∈ l) :
    (e.slot k).Sampled sec ((l.foldl (Eng.stabSampled sec) e).slot k) := by
  induction l generalizing e with
  | nil => cases hmem
  | cons i l ih =>
    have hlen : k < (e.stabSampled sec i).sel.slots.length := hk.trans_eq (e.stabSampled_length i).symm
    rw [List.foldl_cons]
    by_cases hl : k ∈ l
    · by_cases hi : k = i
      · subst hi
        exact (Eng.stabSampled_slot_same hk).trans (ih hlen hl)
      · rw [← Eng.stabSampled_slot_other hi]
        exact ih hlen hl
    · obtain rfl : k = i := (List.mem_cons.1 hmem).resolve_right hl
      have hkept : (l.foldl (Eng.stabSampled sec) (e.stabSampled sec k)).slot k = (e.stabSampled sec k).slot k :=
        List.foldlRecOn (motive := fun b : Eng => b.slot k = (e.stabSampled sec k).slot k) l _ rfl fun b hb i hi =>
          (Eng.stabSampled_slot_other fun h : k = i => hl (h ▸ hi)).trans hb
      rw [hkept]
      exact Eng.stabSampled_slot_same hk

end

/-! ## The writes (R259, R272) -/

/-- A moon's selection is held no longer (Table 12-5 row 3). -/
def Eng.unheld (e : Eng) (k : Nat) : Eng := { e with sel := { e.sel with held := e.sel.held.filter (fun j => j != k) } }

section
variable {e : Eng} {k v : Nat}

theorem prioIn_set_force (w : Int) (s : Nat) : prioIn (e.set (Od.SEL_MOON.force k) w).od k s = prioIn e.od k s :=
  congrArg (fun i : Int => i.toNat / 256 ^ s % 256) (Eng.set_i_other e _ _ w (odKey_ne (by omega)))

variable (hk : k < 32)

include hk

theorem Eng.set_force_follows (w : Int) : (e.set (Od.SEL_MOON.force k) w).follows k = e.follows k :=
  congrArg (fun i : Int => k != 0 && decide (i.toNat = 1)) (Eng.set_i_other e _ _ w (odKey_ne (by omega)))

/-- A write of a moon's forced slot, by the checks that may turn it away. -/
theorem selMoonWrite_force (hown : e.follows k = false) : selMoonWrite k [(Od.SEL_MOON.force k, v)] e =
    if 63 < v ∧ v ≠ 0xFF then (stRange, e) else if v < 64 ∧ prioIn e.od k v = 0 then (stNotListed, e)
    else (stOk, (e.set (Od.SEL_MOON.force k) v).unheld k) := by
  have hwtr : names [(Od.SEL_MOON.force k, (v : Int))] [Od.SEL_MOON.wtr k, Od.SEL_MOON.wtr_alone k] = false := by
    have h3 : Od.SEL_MOON.force k ≠ Od.SEL_MOON.wtr k := odKey_ne (by omega)
    have h4 : Od.SEL_MOON.force k ≠ Od.SEL_MOON.wtr_alone k := odKey_ne (by omega)
    simp [names, h3, h4]
  unfold selMoonWrite
  extract_lets f forced named
  have hnamed : named = true := by simp [named]
  have hforced : forced = v := congrArg Int.toNat (Eng.set_i_same ..)
  have hfollows : f.follows k = false := (Eng.set_force_follows hk v).trans hown
  have hlisted : prioIn f.od k v = prioIn e.od k v := prioIn_set_force ..
  simp only [hwtr, hnamed, hforced, hfollows, hlisted, Bool.false_and, Bool.false_eq_true, if_false, true_and, false_or]
  rfl

end

/-- A peek at two slots that have measured. -/
theorem selPeek_measured {e : Eng} {vs : List (Key × Int)} {a b : RawMeas}
    (ha : (e.slot ((e.setAll vs).n Od.SEL_PEEK.row)).latest = some a) (hb : (e.slot ((e.setAll vs).n Od.SEL_PEEK.col)).latest = some b) :
    ∃ phase : Int, selPeek vs e = (stOk, (e.setAll vs).setAll
      [(Od.SEL_PEEK.phase, phase), (Od.SEL_PEEK.ff, sat64 (a.ff - b.ff)), (Od.SEL_PEEK.tick, (a.tick : Int))]) := by
  unfold selPeek
  simp only [Eng.setAll_slot, ha, hb]
  exact ⟨_, rfl⟩

/-! ## The commands -/

section
variable {s : State} {roles : Nat} (hup : s.eng.up = true)

include hup

theorem exec_slotSilent_shows (slot : Fin 64) (hdue : s.eng.silentDue s.ctx slot = true) :
    ∃ t, exec (.slotSilent slot) s = .next t ∧ s.beside t ∧ bitOf (t.eng.n (Od.SEL_SLOT_STATUS.causes slot)) 6 = true ∧
      (bitOf (s.eng.n (Od.SEL_SLOT_STATUS.causes slot)) 6 = false → t.eng.n (Od.SEL_SLOT_STATUS.state slot) = 1) :=
  ⟨_, (exec_slotSilent slot s).trans (lift_whenDue (due := fun x e => e.silentDue x slot) hup hdue), ⟨rfl, rfl, rfl⟩,
    Eng.setCause_shows slot.isLt cSilent⟩

theorem exec_waitToRestoreEnd_shows (slot : Fin 64) (hover : s.eng.waitOver s.ctx slot = true) :
    ∃ t, exec (.waitToRestoreEnd slot) s = .next t ∧ s.beside t ∧ t.eng.n (Od.SEL_SLOT_STATUS.state slot) = 3 ∧
      t.eng.n (Od.SEL_SLOT_STATUS.wtr_remaining slot) = 0 ∧ (t.eng.slot slot).wait = none :=
  ⟨_, (exec_waitToRestoreEnd slot s).trans (lift_whenDue (due := fun x e => e.waitOver x slot) hup hover), ⟨rfl, rfl, rfl⟩,
    Eng.slotEligible_shows ..⟩

theorem exec_asymEstimate_stages (slot : Fin 64) (hdue : s.eng.asymDue s.ctx slot = true) :
    ∃ t, exec (.asymEstimate slot) s = .next t ∧ s.beside t ∧ t.eng.od = s.eng.od ∧
      (t.eng.slot slot).asym = (s.eng.slot slot).asym.map (fun a => { a with stage := 1 }) := by
  refine ⟨_, (exec_asymEstimate slot s).trans (lift_whenDue (due := fun x e => e.asymDue x slot) hup hdue), ⟨rfl, rfl, rfl⟩, rfl, ?_⟩
  have hnext : ((s.eng0.asymStage slot 1).slot slot).asym =
      (s.eng.slot slot).asym.map (fun a => if a.stage + 1 = 1 then { a with stage := 1 } else a) :=
    congrArg SelSlot.asym (Eng.modSlot_slot_of_reset rfl)
  rw [hnext]
  refine Option.map_congr fun a ha => if_pos ?_
  obtain ⟨-, hestimate⟩ := Bool.and_eq_true_iff.1 hdue
  rw [ha, Bool.and_eq_true, beq_iff_eq] at hestimate
  obtain ⟨hstage, -⟩ := hestimate
  rw [hstage]

theorem exec_stabilityUpdate_samples (hlen : s.eng.sel.slots.length = 64) :
    ∃ t, exec .stabilityUpdate s = .next t ∧ s.beside t ∧
      ∀ k : Fin 64, (s.eng.slot k).Sampled (s.ctx.lin 0 / unitsPerSec) (t.eng.slot k) := by
  refine ⟨_, (exec_stabilityUpdate s).trans (lift_up hup _), ⟨rfl, rfl, rfl⟩, fun k => ?_⟩
  rw [Eng.stability_eq]
  exact Eng.stabSampledAll_slot (e := s.eng0) (k.isLt.trans_eq hlen.symm) (List.mem_range.2 k.isLt)

theorem exec_acceptJump_clears (slot : Fin 64) (had : s.eng.admits (Od.SEL_SLOT_CMD slot) 1 roles = true) :
    ∃ t, exec (.acceptJump slot roles) s = .next t ∧ s.accepted t ∧ bitOf (t.eng.n (Od.SEL_SLOT_STATUS.causes slot)) 3 = false ∧
      bitOf (t.eng.n (Od.SEL_SLOT_STATUS.causes slot)) 4 = false := by
  obtain ⟨t, ht, hans⟩ := lift_writeCmd_answersOk (op := fun x => selCmd x slot 1) hup had (if_pos rfl)
  have hcauses : t.eng.n (Od.SEL_SLOT_STATUS.causes slot) = clearBits (s.eng.n (Od.SEL_SLOT_STATUS.causes slot)) (2 ^ cJump + 2 ^ cPath) :=
    (hans.n (accounting_area (by decide) (by omega))).trans (Eng.clearCauses_causes ..)
  have hcleared (c : Nat) (hc : bitOf (2 ^ cJump + 2 ^ cPath) c = true) : bitOf (t.eng.n (Od.SEL_SLOT_STATUS.causes slot)) c = false := by
    rw [hcauses, bitOf_clearBits, hc]
    exact Bool.and_false _
  exact ⟨t, (exec_acceptJump slot roles s).trans ht, ⟨hans.status, hans.beside⟩, hcleared 3 (by decide), hcleared 4 (by decide)⟩

theorem exec_clearWtr_restores (slot : Fin 64) (had : s.eng.admits (Od.SEL_SLOT_CMD slot) 2 roles = true)
    (hwaits : s.eng.selState slot = 2) :
    ∃ t, exec (.clearWtr slot roles) s = .next t ∧ s.accepted t ∧ t.eng.n (Od.SEL_SLOT_STATUS.state slot) = 3 := by
  have hcmd : selCmd s.ctx slot 2 s.eng0 = (stOk, s.eng0.slotEligible slot) := by
    rw [selCmd, if_neg (by decide), if_pos rfl, if_pos (c := s.eng0.selState slot = 2) hwaits]
  obtain ⟨t, ht, hans⟩ := lift_writeCmd_answersOk (op := fun x => selCmd x slot 2) hup had hcmd
  exact ⟨t, (exec_clearWtr slot roles s).trans ht, ⟨hans.status, hans.beside⟩,
    (hans.n (accounting_area (by decide) (by omega))).trans (Eng.slotEligible_shows ..).1⟩

theorem exec_resetStability_empties (slot : Fin 64) (had : s.eng.admits (Od.SEL_SLOT_CMD slot) 3 roles = true) :
    ∃ t, exec (.resetStability slot roles) s = .next t ∧ s.accepted t ∧ (t.eng.slot slot).samples = [] ∧
      ∀ m : Fin 10, t.eng.i (odKey 0x28 (0x200 + slot) (m + 1)) = 0 := by
  have hcmd : selCmd s.ctx slot 3 s.eng0 = (stOk, (s.eng0.modSlot slot SelSlot.forget).noFigures slot) := by
    rw [selCmd, if_neg (by decide), if_neg (by decide)]
  obtain ⟨t, ht, hans⟩ := lift_writeCmd_answersOk (op := fun x => selCmd x slot 3) hup had hcmd
  refine ⟨t, (exec_resetStability slot roles s).trans ht, ⟨hans.status, hans.beside⟩, ?_, fun m => ?_⟩
  · rw [hans.slot, Eng.noFigures_slot, Eng.modSlot_slot_of_reset rfl]
    rfl
  · exact (hans.obj _ (accounting_area (by decide) (by omega))).trans (Eng.noFigures_i _ slot m.isLt)

theorem exec_selForceWrite_listed (moon : Fin 32) {value : Nat} (had : s.eng.admits (Od.SEL_MOON.force moon) value roles = true)
    (hown : s.eng.follows moon = false) (hlisted : value = 0xFF ∨ value < 64 ∧ prioIn s.eng.od moon value ≠ 0) :
    ∃ t, exec (.selForceWrite moon value roles) s = .next t ∧ s.stored t [(Od.SEL_MOON.force moon, value)] := by
  have hcmd : selMoonWrite moon [(Od.SEL_MOON.force moon, value)] s.eng0 =
      (stOk, (s.eng0.set (Od.SEL_MOON.force moon) value).unheld moon) := by
    rw [selMoonWrite_force (e := s.eng0) moon.isLt hown, if_neg (by omega), if_neg]
    rintro ⟨hlt, hnone⟩
    obtain rfl | ⟨-, hprio⟩ := hlisted
    · omega
    · exact hprio hnone
  obtain ⟨t, ht, hans⟩ := lift_writeCmd_answersOk (op := fun _ => selMoonWrite moon [(Od.SEL_MOON.force moon, value)]) hup had hcmd
  refine ⟨t, (exec_selForceWrite moon value roles s).trans ht, hans.status, ?_, fun k hk hacc => ?_, hans.beside⟩
  · rw [List.forall_mem_singleton]
    exact (hans.obj _ (accounting_area (by decide) (by omega))).trans (Eng.set_i_same ..)
  · exact (hans.obj k hacc).trans (Eng.set_i_other _ _ _ _ (hk _ (List.mem_singleton_self _)))

theorem exec_selForceWrite_notListed (moon : Fin 32) {value : Nat} (had : s.eng.admits (Od.SEL_MOON.force moon) value roles = true)
    (hown : s.eng.follows moon = false) (hlt : value < 64) (hnone : prioIn s.eng.od moon value = 0) :
    ∃ t, exec (.selForceWrite moon value roles) s = .next t ∧ t.eng.resp.status = stNotListed ∧ s.eng.onlyObjects t.eng ∧ s.beside t := by
  have hcmd : selMoonWrite moon [(Od.SEL_MOON.force moon, value)] s.eng0 = (stNotListed, s.eng0) := by
    rw [selMoonWrite_force (e := s.eng0) moon.isLt hown, if_neg (by omega), if_pos ⟨hlt, hnone⟩]
  obtain ⟨t, ht, hstatus, -, hrest⟩ :=
    lift_writeCmd_turnedAway (op := fun _ => selMoonWrite moon [(Od.SEL_MOON.force moon, value)]) hup had hcmd
  exact ⟨t, (exec_selForceWrite moon value roles s).trans ht, hstatus, hrest⟩

theorem exec_selPeekWrite_answers {w : RecWrite} {a b : RawMeas} (had : s.eng.admitsRec 0x28 2 w roles = true)
    (ha : (s.eng.slot ((s.eng.setAll (recValues 0x28 2 w)).n Od.SEL_PEEK.row)).latest = some a)
    (hb : (s.eng.slot ((s.eng.setAll (recValues 0x28 2 w)).n Od.SEL_PEEK.col)).latest = some b) :
    ∃ t, exec (.selPeekWrite w roles) s = .next t ∧ s.accepted t ∧ s.eng.onlyObjects t.eng ∧
      t.eng.i Od.SEL_PEEK.ff = sat64 (a.ff - b.ff) ∧ t.eng.i Od.SEL_PEEK.tick = (a.tick : Nat) := by
  obtain ⟨phase, hpeek⟩ := selPeek_measured (e := s.eng0) (vs := recValues 0x28 2 w) (a := a) (b := b)
    (by rw [s.eng0_setAll]; exact ha) (by rw [s.eng0_setAll]; exact hb)
  obtain ⟨t, ht, hans⟩ := lift_recCmd_answersOk (op := fun _ => selPeek) hup had hpeek
  refine ⟨t, (exec_selPeekWrite w roles s).trans ht, ⟨hans.status, hans.beside⟩,
    Eng.onlyObjects_trans (Eng.setAll_onlyObjects (Eng.setAll_onlyObjects s.onlyObjects_eng0 _) _) hans.rest, ?_, ?_⟩
  · exact (hans.obj _ (by decide)).trans ((Eng.set_i_other _ _ Od.SEL_PEEK.ff _ (odKey_ne (by decide))).trans (Eng.set_i_same ..))
  · exact (hans.obj _ (by decide)).trans (Eng.set_i_same ..)

end

/-! ## The statement -/

/-- Settles O48: what a slot's events and commands show of its causes and its state, by `Eng.setCause_shows`, `Eng.slotEligible_shows` and
`Eng.clearCauses_causes`; the stability history by a pass over the slots; a forced slot and a peek by what their writes store. -/
theorem slotsAreJudgedAndCommanded : Obligations.SlotsAreJudgedAndCommanded := fun _ _ hup =>
  ⟨exec_slotSilent_shows hup, exec_waitToRestoreEnd_shows hup, exec_asymEstimate_stages hup, exec_stabilityUpdate_samples hup,
    exec_acceptJump_clears hup, exec_clearWtr_restores hup, exec_resetStability_empties hup,
    fun moon _ had hown => ⟨exec_selForceWrite_listed hup moon had hown, exec_selForceWrite_notListed hup moon had hown⟩,
    fun _ _ _ _ hvs had => by
      subst hvs
      exact exec_selPeekWrite_answers hup had⟩

end Sys2Proof.Machine
end

section
/-! # Answers, resets and refused writes: what the frames of the commands give (R344, R353, R362, R421) -/

namespace Sys2Proof.Machine

/-! ## Every command is answered (R353) -/

/-- A frame that acts under a condition answers either way. -/
theorem ite_next_answers (b : Bool) (u v : State) :
    ∃ t, (if b then (.next u : Host.Outcome State Fault Refusal) else .next v) = .next t := by
  cases b with
  | true => exact ⟨u, rfl⟩
  | false => exact ⟨v, rfl⟩

/-- Every frame a command runs in ends in a next state. -/
theorem exec_answers (c : Instr) (s : State) : ∃ t, exec c s = .next t := by
  cases exec_framed c s with
  | running f hf => exact hf ▸ ite_next_answers ..
  | always f _ hf => exact ⟨_, hf⟩
  | settling f _ hf => exact hf ▸ ite_next_answers ..
  | tick u d _ hf => exact hf ▸ ite_next_answers ..
  | boundary inp _ hf => exact hf ▸ ite_next_answers ..
  | reset e _ _ hf => exact ⟨_, hf⟩
  | autoReset _ hf => exact hf ▸ ite_next_answers ..

/-- No command reaches the queue behind it. -/
theorem exec_pending {c : Instr} {s t : State} (h : exec c s = .next t) : t.pending = s.pending := by
  cases exec_framed c s with
  | running f hf => exact (lift_beside (hf.symm.trans h)).2.2
  | always f _ hf => exact (liftAlways_beside (hf.symm.trans h)).2.2
  | settling f _ hf =>
    obtain ⟨-, ht⟩ | ⟨-, ht⟩ := liftSettle_cases (hf.symm.trans h) <;> rw [ht]
    exact State.settle_pending _
  | tick u d _ hf => obtain ⟨-, ht⟩ | ⟨-, ht⟩ := execTick_cases (hf.symm.trans h) <;> rw [ht]
  | boundary inp _ hf =>
    obtain ⟨-, ht⟩ | ⟨-, ht⟩ := execSteerBoundary_cases (hf.symm.trans h) <;> rw [ht]
    exact (s.boundary inp).settle_pending
  | reset e _ _ hf =>
    rw [← Host.Outcome.next.inj (hf.symm.trans h)]
    rfl
  | autoReset _ hf =>
    obtain ⟨-, ht⟩ | ⟨-, ht⟩ := execAutoReset_cases (hf.symm.trans h) <;> rw [ht]
    rfl

/-- Settles O2, by the frame each command's meaning runs in. -/
theorem everyCommandIsAnswered : Obligations.EveryCommandIsAnswered :=
  ⟨fun _ _ _ h => exec_pending h, exec_answers⟩

/-! ## A device in reset (R421) -/

/-- In reset a command that does not act there leaves everything but the record of what left the pins. -/
theorem exec_inReset {c : Instr} {s t : State} (hdown : s.eng.up = false) (hc : actsInReset c = false) (h : exec c s = .next t) :
    t = { s with eng := s.eng0 } := by
  have hup : ¬ s.eng.up = true := Bool.eq_false_iff.1 hdown
  have hboth {b : Bool} : ¬ (s.eng.up && b) = true := fun hb => hup (Bool.and_eq_true_iff.1 hb).1
  cases exec_framed c s with
  | running f hf => exact ((lift_cases (hf.symm.trans h)).resolve_left fun hu => hup hu.1).2
  | settling f _ hf => exact ((liftSettle_cases (hf.symm.trans h)).resolve_left fun hu => hup hu.1).2
  | tick u d _ hf => exact ((execTick_cases (hf.symm.trans h)).resolve_left fun hu => hup hu.1).2
  | boundary inp _ hf => exact ((execSteerBoundary_cases (hf.symm.trans h)).resolve_left fun hu => hboth hu.1).2
  | autoReset _ hf => exact ((execAutoReset_cases (hf.symm.trans h)).resolve_left fun hu => hboth hu.1).2
  | always f ha _ => exact absurd ha (Bool.eq_false_iff.1 hc)
  | reset e _ ha _ => exact absurd ha (Bool.eq_false_iff.1 hc)

/-- Settles O4: a command is answered, and its frame does nothing in reset. -/
theorem aDeviceInResetIgnoresCommands : Obligations.ADeviceInResetIgnoresCommands := by
  intro c s hdown hc
  obtain ⟨t, ht⟩ := exec_answers c s
  rw [ht, exec_inReset hdown hc ht]
  rfl

/-! ## A refused write (R344, R362) -/

/-- Settles O7: the frame of a write, refused by steps 4 to 7 of R344, is its accounting. -/
theorem refusedWritesOnlyAccount : Obligations.RefusedWritesOnlyAccount := by
  intro c s k v roles r hc hup hr hj
  obtain ⟨op, hop⟩ := exec_writeOf c s k v roles hc
  refine ⟨_, hop.trans (lift_up hup _), ?_⟩
  rw [Eng.writeCmd_refused (e := s.eng0) s.ctx _ hr hj]
  refine ⟨Eng.account_resp .., fun j hacc => Eng.account_i _ _ _ _ _ hacc, ?_, Eng.account_out .., rfl, rfl, rfl⟩
  exact Eng.account_onlyObjects s.onlyObjects_eng0 _ _ _

end Sys2Proof.Machine
end

section
/-! # Writes outside the moons and the schedule: the answer of any chapter (R344) -/

namespace Sys2Proof.Machine

/-- A command's admitted write outside areas 10 and 14, whose refusals count nothing more, answers what its chapter does. -/
theorem lift_writeCmd_answersAs {s : State} {k : Key} {v : Int} {roles st : Nat} {op : Ctx → Eng → WriteRes} {e : Eng}
    (h10 : k.area ≠ 0x10) (h14 : k.area ≠ 0x14) (hup : s.eng.up = true) (had : s.eng.admits k v roles = true)
    (ho : op s.ctx s.eng0 = (st, e)) :
    ∃ t, lift (fun x e => e.writeCmd x k v roles (op x)) s = .next t ∧ s.Answers st e t := by
  obtain ⟨p, hp⟩ := Eng.writeCmd_admitted (e := s.eng0) (k := k) (v := v) (roles := roles) s.ctx had ho
  refine ⟨_, lift_up hup _, ?_⟩
  rw [hp, e.refusedHook_elsewhere h10 h14]
  exact s.answers_account st e p

/-- What a write may ask for beyond the engines happens once it is accounted for. -/
theorem liftSettle_writeCmd {s : State} {k : Key} {v : Int} {roles : Nat} {op : Ctx → Eng → WriteRes} {e : Eng}
    (hup : s.eng.up = true) (had : s.eng.admits k v roles = true) (ho : op s.ctx s.eng0 = (stOk, e)) :
    ∃ p, liftSettle (fun x e => e.writeCmd x k v roles (op x)) s =
      .next (State.settle { s with eng := e.account s.ctx p stOk }) := by
  obtain ⟨p, hp⟩ := Eng.writeCmd_ok (e := s.eng0) (k := k) (v := v) (roles := roles) s.ctx had ho
  exact ⟨p, (if_pos hup).trans (congrArg (fun e => Host.Outcome.next (State.settle { s with eng := e })) hp)⟩

theorem Eng.account_boot (e : Eng) (x : Ctx) (p : Bool) (st : Nat) : (e.account x p st).boot = e.boot :=
  Eng.quiet_boot (Eng.quiet_account (Eng.quiet_refl e) x p st)

theorem State.Answers.accepted {s t : State} {e : Eng} (h : s.Answers stOk e t) : s.accepted t := ⟨h.status, h.beside⟩

/-- Element `j` of a list after element `i` was replaced. -/
theorem nth_setNth {α : Type} (l : List α) (i j : Nat) (a d : α) :
    nth (setNth l i a) j d = if j = i ∧ j < l.length then a else nth l j d := by
  simp only [nth, setNth, List.getD_eq_getElem?_getD, List.getElem?_set]
  by_cases hij : i = j
  · subst hij
    by_cases hi : i < l.length
    · simp [hi]
    · simp [hi]
  · simp [hij, Ne.symm hij]

end Sys2Proof.Machine
end

section
/-! # The fatal dump (R429 to R431) -/

namespace Sys2Proof.Machine

theorem Eng.setDump_dumpSlot (e : Eng) (s i : Nat) (d : DumpSlot) :
    (e.setDump s d).dumpSlot i = if i = s ∧ i < e.flash.dumps.length then d else e.dumpSlot i := nth_setNth ..

theorem Eng.dumpTarget_lt (e : Eng) : e.dumpTarget < 2 := by
  unfold Eng.dumpTarget
  repeat' split
  all_goals decide

/-- The capture fills the slot chosen and leaves the other as it was. -/
theorem Eng.dumpCapture_slots (e : Eng) (x : Ctx) (log cores : Bytes) (unreadable : List Nat) (hlen : e.flash.dumps.length = 2) :
    (e.dumpCapture x log cores unreadable).dumpSlot e.dumpTarget =
      ⟨1, (max (e.dumpSlot 0).sequence (e.dumpSlot 1).sequence + 1) % 2 ^ 32, e.dump.asked.getD 2, x.tick,
        e.dumpBytes x ((max (e.dumpSlot 0).sequence (e.dumpSlot 1).sequence + 1) % 2 ^ 32) (e.dump.asked.getD 2) log cores unreadable⟩ ∧
    (e.dumpCapture x log cores unreadable).dumpSlot (1 - e.dumpTarget) = e.dumpSlot (1 - e.dumpTarget) := by
  have ht := e.dumpTarget_lt
  exact ⟨(Eng.setDump_dumpSlot ..).trans (if_pos ⟨rfl, hlen ▸ ht⟩),
    (Eng.setDump_dumpSlot ..).trans (if_neg fun h => by have := h.1; omega)⟩

theorem Eng.dumpComplete_writing {e : Eng} {slot : Nat} (hw : e.dump.writing = some slot) :
    e.dumpComplete = { e with dump := { e.dump with writing := none } }.setDump slot { e.dumpSlot slot with state := 2 } := by
  unfold Eng.dumpComplete
  rw [hw]

/-- The slots of a mask are erased. -/
theorem dumpClearWrite_idle {e : Eng} (mask : Nat) (hw : e.dump.writing = none) :
    dumpClearWrite mask e =
      (stOk, (List.range 2).foldl (fun e s => if bitOf mask s then e.setDump s DumpSlot.erased else e) e) := by
  simp [dumpClearWrite, hw]

theorem dumpClearWrite_busy {e : Eng} (mask : Nat) (hw : e.dump.writing.isSome = true) : dumpClearWrite mask e = (stBusy, e) :=
  if_pos hw

theorem Eng.dumpSlot_cleared {e : Eng} (mask : Nat) (hlen : e.flash.dumps.length = 2) (i : Fin 2) :
    ((List.range 2).foldl (fun e s => if bitOf mask s then e.setDump s DumpSlot.erased else e) e).dumpSlot i =
      if bitOf mask i then DumpSlot.erased else e.dumpSlot i := by
  have hstep (e : Eng) (s j : Nat) : (if bitOf mask s then e.setDump s DumpSlot.erased else e).dumpSlot j =
      if j = s ∧ j < e.flash.dumps.length ∧ bitOf mask s = true then DumpSlot.erased else e.dumpSlot j := by
    split
    next h => simp [Eng.setDump_dumpSlot, h]
    next h => simp [h]
  have hkept (e : Eng) (s : Nat) :
      (if bitOf mask s then e.setDump s DumpSlot.erased else e).flash.dumps.length = e.flash.dumps.length := by
    split
    · exact List.length_set
    · rfl
  rw [show List.range 2 = [0, 1] from rfl, List.foldl_cons, List.foldl_cons, List.foldl_nil, hstep, hkept, hstep, hlen]
  match i with
  | 0 => simp
  | 1 => simp

section
variable {s : State} {roles : Nat} (hup : s.eng.up = true)

include hup

theorem exec_dumpNow_asks (had : s.eng.admits Od.DUMP_CTRL.dump_now 1 roles = true) (hfw : s.eng.fwRuns = true)
    (hasked : s.eng.dump.asked = none) :
    ∃ t, exec (.dumpNow 1 roles) s = .next t ∧ s.accepted t ∧ t.eng.dump = { s.eng.dump with asked := some 2 } := by
  have hfw0 : s.eng0.fwRuns = true := hfw
  have hop : dumpNowWrite 1 s.eng0 = (stOk, { s.eng0 with dump := { s.eng.dump with asked := some 2 } }) := by
    simp [dumpNowWrite, hfw0, hasked]
  obtain ⟨t, ht, h⟩ := lift_writeCmd_answersOk (op := fun _ => dumpNowWrite 1) hup had hop
  exact ⟨t, ht, h.accepted, (congrArg Eng.dump h.rest :)⟩

theorem exec_dumpClear_erases (hlen : s.eng.flash.dumps.length = 2) {mask : Nat}
    (had : s.eng.admits Od.DUMP_CTRL.clear mask roles = true) (hw : s.eng.dump.writing = none) :
    ∃ t, exec (.dumpClear mask roles) s = .next t ∧ s.accepted t ∧
      ∀ i : Fin 2, t.eng.dumpSlot i = if bitOf mask i then DumpSlot.erased else s.eng.dumpSlot i := by
  obtain ⟨t, ht, h⟩ := lift_writeCmd_answersOk (op := fun _ => dumpClearWrite mask) hup had (dumpClearWrite_idle (e := s.eng0) mask hw)
  exact ⟨t, ht, h.accepted, fun i =>
    (congrArg (fun e : Eng => e.dumpSlot i) h.rest :).trans (Eng.dumpSlot_cleared (e := s.eng0) mask hlen i)⟩

theorem exec_dumpClear_busy {mask : Nat} (had : s.eng.admits Od.DUMP_CTRL.clear mask roles = true)
    (hw : s.eng.dump.writing.isSome = true) :
    ∃ t, exec (.dumpClear mask roles) s = .next t ∧ t.eng.resp.status = stBusy ∧ t.eng.flash = s.eng.flash ∧ s.beside t := by
  obtain ⟨t, ht, h⟩ := lift_writeCmd_answersAs (op := fun _ => dumpClearWrite mask) (by decide) (by decide) hup had
    (dumpClearWrite_busy (e := s.eng0) mask hw)
  exact ⟨t, ht, h.status, (congrArg Eng.flash h.rest :), h.beside⟩

theorem exec_dumpChunkSelect_selects {index : Nat} (had : s.eng.admits Od.DUMP_READ.chunk_index index roles = true)
    (hin : index < ceilDiv (s.eng.dumpSlot (s.eng.n Od.DUMP_READ.slot)).bytes.length 1024) :
    ∃ t, exec (.dumpChunkSelect index roles) s = .next t ∧ s.wrote t [(Od.DUMP_READ.chunk_index, index)] := by
  refine lift_writeCmd_wrote (op := fun _ => dumpReadWrite [(Od.DUMP_READ.chunk_index, (index : Int))]) _ hup had ?_
    (List.nodup_singleton _) (List.forall_mem_singleton.2 (accounting_area (by decide) (by decide)))
  have hslot : (s.eng0.set Od.DUMP_READ.chunk_index index).n Od.DUMP_READ.slot = s.eng.n Od.DUMP_READ.slot :=
    congrArg Int.toNat (Eng.set_i_other _ _ _ _ (odKey_ne (by decide)))
  have hindex : (s.eng0.set Od.DUMP_READ.chunk_index index).n Od.DUMP_READ.chunk_index = index :=
    congrArg Int.toNat (Eng.set_i_same ..)
  refine if_neg (Bool.eq_false_iff.1 (Bool.and_eq_false_imp.2 fun _ => decide_eq_false (Nat.not_le.2 ?_)))
  rw [show s.eng0.setAll [(Od.DUMP_READ.chunk_index, (index : Int))] = s.eng0.set Od.DUMP_READ.chunk_index index from rfl, hslot, hindex]
  exact hin

end

/-- Settles O27: the capture, the completion and the clearing, each by what it does to the two slots. -/
theorem dumpsAreAskedCapturedAndCleared : Obligations.DumpsAreAskedCapturedAndCleared := by
  intro s roles hup hlen
  refine ⟨exec_dumpNow_asks hup, fun log cores unreadable hdue => ?_, fun slot hfw hw => ?_,
    fun mask => exec_dumpClear_erases hup hlen, fun mask => exec_dumpClear_busy hup, fun index => exec_dumpChunkSelect_selects hup⟩
  · obtain ⟨hfilled, hother⟩ := s.eng0.dumpCapture_slots s.ctx log cores unreadable hlen
    exact ⟨_, (exec_dumpCapture log cores unreadable s).trans (lift_whenDue (due := fun _ e => e.dumpDue) hup hdue), ⟨rfl, rfl, rfl⟩, rfl, rfl, congrArg DumpSlot.state hfilled,
      congrArg DumpSlot.captureTick hfilled, congrArg DumpSlot.sequence hfilled, hother⟩
  · refine ⟨_, (exec_dumpComplete s).trans (lift_whenDue (due := fun _ e => e.fwRuns) hup hfw), ⟨rfl, rfl, rfl⟩, ?_⟩
    dsimp only
    rw [Eng.dumpComplete_writing (e := s.eng0) hw]
    exact ⟨rfl, (Eng.setDump_dumpSlot ..).trans (if_pos ⟨rfl, slot.isLt.trans_eq hlen.symm⟩)⟩

end Sys2Proof.Machine
end

section
/-! # The firmware images (R427) -/

namespace Sys2Proof.Machine

theorem Eng.slotImage_setNth (e : Eng) (s j : Nat) (i : Image) :
    ({ e with flash := { e.flash with images := setNth e.flash.images s i } } : Eng).slotImage j =
      if j = s ∧ j < e.flash.images.length then i else e.slotImage j := nth_setNth ..

/-- The engines once an image's first part went into the selected slot. -/
def Eng.imageBegun (e : Eng) (bytes : Bytes) : Eng :=
  { e with flash := { e.flash with images := setNth e.flash.images (e.n Od.FW_IMAGE.slot) ⟨true, bytes⟩ } }

theorem fwPart_first {e : Eng} (bytes : Bytes) (hruns : e.slotRuns (e.n Od.FW_IMAGE.slot) = false) :
    fwPart 0 bytes e = (stOk, e.imageBegun bytes) := if_neg (Bool.eq_false_iff.1 hruns)

theorem fwPart_running {e : Eng} (offset : Nat) (bytes : Bytes) (hruns : e.slotRuns (e.n Od.FW_IMAGE.slot) = true) :
    fwPart offset bytes e = (stInUse, e) := if_pos hruns

/-- The first part of an image is staged. -/
theorem fwStage_first {e : Eng} (x : Ctx) {bytes : Bytes} (arrived : Nat) (hlen : bytes.length ≤ 1024)
    (hruns : e.slotRuns (e.n Od.FW_IMAGE.slot) = false) :
    ∃ front, fwStage x 0 bytes arrived e = (stOk, { e.imageBegun bytes with front := front }) := by
  have hsize : ¬ 0 + bytes.length = imageSize := by
    unfold imageSize
    omega
  simp only [fwStage, stagePart, Eng.stagingFor, if_pos, fwPart_first bytes hruns, if_neg hsize]
  exact ⟨_, rfl⟩

/-- A part for the slot that runs is refused, and its staging dropped. -/
theorem fwStage_running {e : Eng} (x : Ctx) (bytes : Bytes) (arrived : Nat) (hruns : e.slotRuns (e.n Od.FW_IMAGE.slot) = true) :
    fwStage x 0 bytes arrived e = (stInUse, e.stageDrop Od.FW_IMAGE.data) := by
  simp only [fwStage, stagePart, Eng.stagingFor, if_pos, fwPart_running 0 bytes hruns]
  exact if_pos (by decide)

theorem partOk_image {len : Nat} (hlen : len ≤ 1024) : partOk imageSize 0 len = true := by
  exact Bool.and_eq_true_iff.2 ⟨decide_eq_true hlen, decide_eq_true ((Nat.zero_add len).trans_le (hlen.trans (by decide)))⟩

/-- What makes the selected slot's image one to prefer: it fits, and its checks pass (R425, R445). -/
theorem fwCommit_idle {e : Eng} (x : Ctx) (hruns : e.slotRuns (e.n Od.FW_IMAGE.slot) = false) :
    fwCommit x 1 e =
      if slotBytes < Config.imageField (e.slotImage (e.n Od.FW_IMAGE.slot)).data 7 ∨ (e.slotImage (e.n Od.FW_IMAGE.slot)).check x ≠ 1
      then (stRange, e) else (stOk, { e with flash := { e.flash with preferred := e.n Od.FW_IMAGE.slot } }) := by
  unfold fwCommit
  dsimp only
  rw [if_neg one_ne_zero, if_neg (Bool.eq_false_iff.1 hruns)]

theorem rollbackWrite_raises {e : Eng} (x : Ctx) (hempty : (e.slotImage (1 - e.boot.slot)).data = []) :
    rollbackWrite x 1 e =
      (stOk, { e with boot := { e.boot with rollbackTo := some (max x.fuses.rollback (min 64 e.image.secVersion)) } }) := by
  simp [rollbackWrite, hempty]

/-- A write that asked for rollback bits alone blows them, and no reset follows. -/
theorem State.settle_blows {s : State} {e : Eng} {v : Nat} (hto : e.boot.rollbackTo = some v) (hwarm : e.boot.warmAsked = false) :
    State.settle { s with eng := e } = { s with
      fuses := { s.fuses with rollback := max s.fuses.rollback v }
      eng := { e with boot := { e.boot with rollbackTo := none } } } := by
  unfold State.settle State.blow
  dsimp only
  rw [hto]
  exact if_neg (Bool.eq_false_iff.1 hwarm)

section
variable {s : State} {roles : Nat} (hup : s.eng.up = true)

include hup

theorem exec_fwImageDataWrite_begins {bytes : Bytes} (had : s.eng.admits Od.FW_IMAGE.data 0 roles = true) (hlen : bytes.length ≤ 1024)
    (hruns : s.eng.slotRuns (s.eng.n Od.FW_IMAGE.slot) = false) (hslot : s.eng.n Od.FW_IMAGE.slot < 2)
    (himages : s.eng.flash.images.length = 2) :
    ∃ t, exec (.fwImageDataWrite 0 bytes roles) s = .next t ∧ s.accepted t ∧
      (t.eng.slotImage (s.eng.n Od.FW_IMAGE.slot)).data = bytes ∧
      t.eng.slotImage (1 - s.eng.n Od.FW_IMAGE.slot) = s.eng.slotImage (1 - s.eng.n Od.FW_IMAGE.slot) := by
  obtain ⟨front, hstage⟩ := fwStage_first (e := s.eng0) s.ctx (s.ctx.st 0) hlen hruns
  obtain ⟨t, ht, h⟩ := lift_writeCmd_answersOk
    (op := fun x e => if partOk imageSize 0 bytes.length then fwStage x 0 bytes (x.st 0) e else (stRange, e)) hup had
    ((if_pos (partOk_image hlen)).trans hstage)
  have himage (j : Nat) : t.eng.slotImage j = (s.eng0.imageBegun bytes).slotImage j := (congrArg (fun e : Eng => e.slotImage j) h.rest :)
  refine ⟨t, ht, h.accepted, ?_, ?_⟩
  · rw [himage]
    exact congrArg Image.data ((Eng.slotImage_setNth ..).trans (if_pos ⟨rfl, himages ▸ hslot⟩))
  · rw [himage]
    exact (Eng.slotImage_setNth ..).trans (if_neg fun hj => by
      have : 1 - s.eng.n Od.FW_IMAGE.slot = s.eng.n Od.FW_IMAGE.slot := hj.1
      omega)

theorem exec_fwImageDataWrite_refused {bytes : Bytes} (had : s.eng.admits Od.FW_IMAGE.data 0 roles = true) (hlen : bytes.length ≤ 1024)
    (hruns : s.eng.slotRuns (s.eng.n Od.FW_IMAGE.slot) = true) :
    ∃ t, exec (.fwImageDataWrite 0 bytes roles) s = .next t ∧ t.eng.resp.status = stInUse ∧ t.eng.flash = s.eng.flash ∧ s.beside t := by
  obtain ⟨t, ht, h⟩ := lift_writeCmd_answersAs
    (op := fun x e => if partOk imageSize 0 bytes.length then fwStage x 0 bytes (x.st 0) e else (stRange, e)) (by decide) (by decide) hup had
    ((if_pos (partOk_image hlen)).trans (fwStage_running (e := s.eng0) s.ctx bytes (s.ctx.st 0) hruns))
  exact ⟨t, ht, h.status, (congrArg Eng.flash h.rest :), h.beside⟩

theorem exec_fwImageCommit_prefers {good : Prop} (had : s.eng.admits Od.FW_IMAGE.commit 1 roles = true)
    (hruns : s.eng.slotRuns (s.eng.n Od.FW_IMAGE.slot) = false)
    (hgood : good ↔ Config.imageField (s.eng.slotImage (s.eng.n Od.FW_IMAGE.slot)).data 7 ≤ slotBytes ∧
      (s.eng.slotImage (s.eng.n Od.FW_IMAGE.slot)).check s.ctx = 1) :
    ∃ t, exec (.fwImageCommit 1 roles) s = .next t ∧ s.beside t ∧
      (good → t.eng.resp.status = stOk ∧ t.eng.flash = { s.eng.flash with preferred := s.eng.n Od.FW_IMAGE.slot }) ∧
      (¬good → t.eng.resp.status = stRange ∧ t.eng.flash = s.eng.flash) := by
  have hcommit := fwCommit_idle (e := s.eng0) s.ctx hruns
  by_cases hg : good
  · obtain ⟨hfits, hcheck⟩ := hgood.1 hg
    obtain ⟨t, ht, h⟩ := lift_writeCmd_answersOk (op := fun x => fwCommit x 1) hup had
      (hcommit.trans (if_neg fun h => h.elim (Nat.not_lt.2 hfits) fun hne => hne hcheck))
    exact ⟨t, ht, h.beside, fun _ => ⟨h.status, (congrArg Eng.flash h.rest :)⟩, fun hn => absurd hg hn⟩
  · have hbad := not_and_or.1 fun h => hg (hgood.2 h)
    obtain ⟨t, ht, h⟩ := lift_writeCmd_answersAs (op := fun x => fwCommit x 1) (by decide) (by decide) hup had
      (hcommit.trans (if_pos (hbad.imp Nat.not_le.1 id)))
    exact ⟨t, ht, h.beside, fun hg' => absurd hg' hg, fun _ => ⟨h.status, (congrArg Eng.flash h.rest :)⟩⟩

theorem exec_fwImageCommit_zero (had : s.eng.admits Od.FW_IMAGE.commit 0 roles = true) :
    ∃ t, exec (.fwImageCommit 0 roles) s = .next t ∧ s.accepted t ∧ t.eng.flash = s.eng.flash := by
  obtain ⟨t, ht, h⟩ := lift_writeCmd_answersOk (op := fun x => fwCommit x 0) hup had (e := s.eng0) rfl
  exact ⟨t, ht, h.accepted, (congrArg Eng.flash h.rest :)⟩

/-- The bits are blown at the end of the command that asks for it. -/
theorem exec_advanceRollback_blows (had : s.eng.admits Od.FUSE.advance_rollback 1 roles = true) (hwarm : s.eng.boot.warmAsked = false)
    (hempty : (s.eng.slotImage (1 - s.eng.boot.slot)).data = []) :
    ∃ t, exec (.advanceRollback 1 roles) s = .next t ∧ t.eng.resp.status = stOk ∧ t.core = s.core ∧
      t.fuses = { s.fuses with rollback := max s.fuses.rollback (min 64 s.eng.image.secVersion) } := by
  obtain ⟨p, hp⟩ := liftSettle_writeCmd (op := fun x => rollbackWrite x 1) hup had (rollbackWrite_raises (e := s.eng0) s.ctx hempty)
  have hboot := Eng.account_boot
    { s.eng0 with boot := { s.eng.boot with rollbackTo := some (max s.fuses.rollback (min 64 s.eng.image.secVersion)) } } s.ctx p stOk
  have hsettle := State.settle_blows (s := s) (congrArg Boot.rollbackTo hboot) ((congrArg Boot.warmAsked hboot).trans hwarm)
  refine ⟨_, ((exec_advanceRollback 1 roles s).trans hp).trans (congrArg Host.Outcome.next hsettle), ?_, rfl, ?_⟩
  · exact congrArg Resp.status (Eng.account_resp ..)
  · exact congrArg (fun v => { s.fuses with rollback := v }) (max_eq_right (le_max_left ..))

end

/-- Settles O26: the staging, the commit and the seal, each by what the write does to the flash or to the fuses. -/
theorem firmwareIsStagedCommittedAndSealed : Obligations.FirmwareIsStagedCommittedAndSealed := by
  rintro s roles _ hup rfl
  exact ⟨fun bytes => exec_fwImageDataWrite_begins hup, fun bytes => exec_fwImageDataWrite_refused hup,
    fun had hruns => exec_fwImageCommit_prefers hup had hruns Iff.rfl, exec_fwImageCommit_zero hup, exec_advanceRollback_blows hup⟩

end Sys2Proof.Machine
end

section
/-! # Resets (R421, R422) -/

namespace Sys2Proof.Machine

/-! ## What a reset leaves -/

/-- The interrupted dump and save are all of the flash that a reset changes. -/
theorem Eng.cut_keeps (e : Eng) : e.dumpCut.saveCut.resp = e.resp ∧ e.dumpCut.saveCut.flash.images = e.flash.images ∧
    e.dumpCut.saveCut.flash.keyValues = e.flash.keyValues ∧ e.dumpCut.saveCut.flash.calValues = e.flash.calValues := by
  have hdump : e.dumpCut.resp = e.resp ∧ e.dumpCut.flash.images = e.flash.images ∧
      e.dumpCut.flash.keyValues = e.flash.keyValues ∧ e.dumpCut.flash.calValues = e.flash.calValues := by
    unfold Eng.dumpCut
    split <;> exact ⟨rfl, rfl, rfl, rfl⟩
  unfold Eng.saveCut
  split
  · exact hdump
  · exact hdump

/-- Everything but the flash, the response and the trip pin reads as at power-on. -/
theorem Eng.wiped_frame (e : Eng) (x : Ctx) (phase : Phase) :
    (e.wiped x phase).resp = e.dumpCut.saveCut.resp ∧ (e.wiped x phase).flash = e.dumpCut.saveCut.flash ∧
    (e.wiped x phase).boot.phase = phase ∧ (e.wiped x phase).sched = [] ∧ (e.wiped x phase).flt.eclipse = false ∧
    (e.wiped x phase).nts.sessions = [] := by
  unfold Eng.wiped
  dsimp only
  split <;> exact ⟨rfl, rfl, rfl, rfl, rfl, rfl⟩

theorem Eng.wiped_i (e : Eng) (x : Ctx) (phase : Phase) {k : Key} (hk : k ≠ Od.THERM_CFG.warn_c) : (e.wiped x phase).i k = odDefault k := by
  unfold Eng.wiped
  dsimp only
  split
  · exact Eng.set_i_other _ _ _ _ hk
  · rfl

theorem Eng.setAll_resp (e : Eng) (vs : List (Key × Int)) : (e.setAll vs).resp = e.resp := by
  rw [Eng.setAll_eq]

/-! ## The warm resets -/

/-- What a WARM reset of cause `cause` leaves of the engines. -/
structure Eng.Warmed (e e' : Eng) (cause : Nat) (phase : Phase) : Prop where
  phase : e'.boot.phase = phase
  cause : e'.i Od.RESET_CTRL.last_cause = cause
  count : e'.n Od.RESET_CTRL.count = (e.n Od.RESET_CTRL.count + 1) % 2 ^ 32
  record : ∀ m : Fin 11, e'.i (odKey 0x70 0x004 (m + 1)) = e.i (odKey 0x70 0x003 (m + 1))
  images : e'.flash.images = e.flash.images
  sched : e'.sched = []
  eclipse : e'.flt.eclipse = false

/-- The objects a WARM reset names itself. -/
def Eng.warmValues (e : Eng) (cause : Nat) : List (Key × Int) :=
  [(Od.FLT_GLOBAL.sticky, 1), (Od.RESET_CTRL.last_cause, (cause : Int)),
    (Od.RESET_CTRL.count, (((e.n Od.RESET_CTRL.count + 1) % 2 ^ 32 : Nat) : Int))]

/-- The Eclipse record as the record of the Eclipse before. -/
def Eng.eclipsePrev (e : Eng) : List (Key × Int) := (List.range 11).map (fun i => (odKey 0x70 0x004 (i + 1), e.i (odKey 0x70 0x003 (i + 1))))

theorem Eng.warm_eq (e : Eng) (x : Ctx) (cause : Nat) (phase : Phase) :
    e.warm x cause phase = ((e.wiped x phase).setAll e.eclipsePrev).setAll (e.warmValues cause) := rfl

theorem Eng.warmValues_nodup (e : Eng) (cause : Nat) : ((e.warmValues cause).map Prod.fst).Nodup :=
  show [Od.FLT_GLOBAL.sticky, Od.RESET_CTRL.last_cause, Od.RESET_CTRL.count].Nodup by decide

theorem Eng.eclipsePrev_nodup (e : Eng) : (e.eclipsePrev.map Prod.fst).Nodup := by
  rw [Eng.eclipsePrev, List.map_map]
  exact show ((List.range 11).map (fun i => odKey 0x70 0x004 (i + 1))).Nodup by decide

theorem Eng.warm_warmed (e : Eng) (x : Ctx) (cause : Nat) (phase : Phase) : e.Warmed (e.warm x cause phase) cause phase := by
  have hrest : (e.wiped x phase).onlyObjects (e.warm x cause phase) :=
    Eng.setAll_onlyObjects (Eng.setAll_onlyObjects (Eng.onlyObjects_refl _) _) _
  obtain ⟨-, hflash, hphase, hsched, hecl, -⟩ := e.wiped_frame x phase
  obtain ⟨-, himages, -, -⟩ := e.cut_keeps
  have hnamed {p : Key × Int} (hp : p ∈ e.warmValues cause) : (e.warm x cause phase).i p.1 = p.2 :=
    Eng.setAll_i_mem _ _ (e.warmValues_nodup cause) p hp
  exact {
    phase := (congrArg (fun e : Eng => e.boot.phase) hrest :).trans hphase
    cause := hnamed (p := (Od.RESET_CTRL.last_cause, (cause : Int))) (by simp [Eng.warmValues])
    count := congrArg Int.toNat (hnamed (p := (Od.RESET_CTRL.count, (((e.n Od.RESET_CTRL.count + 1) % 2 ^ 32 : Nat) : Int)))
      (by simp [Eng.warmValues]))
    record := fun m => by
      have hprev : (odKey 0x70 0x004 (m + 1), e.i (odKey 0x70 0x003 (m + 1))) ∈ e.eclipsePrev :=
        List.mem_map.2 ⟨m, List.mem_range.2 m.isLt, rfl⟩
      have hother : ∀ p ∈ e.warmValues cause, odKey 0x70 0x004 (m + 1) ≠ p.1 := by
        simp only [Eng.warmValues, List.forall_mem_cons, List.not_mem_nil, false_imp_iff, implies_true, and_true]
        exact ⟨odKey_ne (by omega), odKey_ne (by omega), odKey_ne (by omega)⟩
      rw [Eng.warm_eq, Eng.setAll_i_other _ _ _ hother]
      exact Eng.setAll_i_mem _ _ e.eclipsePrev_nodup _ hprev
    images := (congrArg (fun e : Eng => e.flash.images) hrest :).trans ((congrArg Flash.images hflash).trans himages)
    sched := (congrArg Eng.sched hrest :).trans hsched
    eclipse := (congrArg (fun e : Eng => e.flt.eclipse) hrest :).trans hecl }

theorem Eng.warm_resp (e : Eng) (x : Ctx) (cause : Nat) (phase : Phase) : (e.warm x cause phase).resp = e.resp :=
  ((Eng.setAll_resp _ _).trans (Eng.setAll_resp _ _)).trans ((e.wiped_frame x phase).1.trans e.cut_keeps.1)

/-- RST_N low at a running device is one WARM reset that the pin holds. -/
theorem Eng.rstLow_up {e : Eng} (x : Ctx) (hup : e.up = true) : e.rstLow x = e.warm x 2 .held := by
  unfold Eng.rstLow
  rw [beq_iff_eq.1 hup]

/-- A write that asked for a WARM reset restarts the device once its fuses are blown. -/
theorem State.settle_warmed {s : State} (hwarm : s.eng.boot.warmAsked = true) :
    s.settle.core = TimeCore.atReset ∧ s.settle.pending = s.pending ∧ s.settle.eng.resp = s.eng.resp ∧
      s.eng.Warmed s.settle.eng 3 .locking := by
  rw [(s.settle_cases.resolve_left fun h => Bool.false_ne_true (h.1.symm.trans hwarm)).2]
  have hw := s.blow.eng.warm_warmed s.blow.ctx 3 .locking
  have heng {α : Type} {f : Eng → α} (hf : f { s.eng with boot := { s.eng.boot with rollbackTo := none } } = f s.eng) :
      f s.blow.eng = f s.eng := (congrArg f s.blow_eng).trans hf
  refine ⟨rfl, s.blow_pending, (Eng.warm_resp ..).trans (heng (f := Eng.resp) rfl), ?_⟩
  exact { hw with
    count := hw.count.trans (heng (f := fun e => (e.n Od.RESET_CTRL.count + 1) % 2 ^ 32) rfl)
    record := fun m => (hw.record m).trans (heng (f := fun e => e.i (odKey 0x70 0x003 (m + 1))) rfl)
    images := hw.images.trans (heng (f := fun e => e.flash.images) rfl) }

section
variable {s : State} (hup : s.eng.up = true)

include hup

/-- The reset falls at the end of the command that asks for it, over what its accounting wrote. -/
theorem exec_resetCommandWarm_warms {value roles : Nat} (had : s.eng.admits Od.RESET_CTRL.command value roles = true) :
    ∃ t, exec (.resetCommandWarm value roles) s = .next t ∧ t.core = TimeCore.atReset ∧ t.pending = s.pending ∧
      s.eng.Warmed t.eng 3 .locking ∧ t.eng.resp.status = stOk := by
  obtain ⟨p, hp⟩ := liftSettle_writeCmd (op := fun _ => resetWrite) hup had rfl
  have hans := s.answers_account stOk { s.eng0 with boot := { s.eng.boot with warmAsked := true } } p
  have hkept {k : Key} (hk : accounting k = false) := hans.obj k hk
  obtain ⟨hcore, hpending, hresp, hw⟩ := State.settle_warmed (s := { s with eng := _ }) (congrArg (fun e : Eng => e.boot.warmAsked) hans.rest :)
  refine ⟨_, (exec_resetCommandWarm value roles s).trans hp, hcore, hpending, ?_, (congrArg Resp.status hresp).trans hans.status⟩
  exact { hw with
    count := hw.count.trans (congrArg (fun v : Int => (v.toNat + 1) % 2 ^ 32) (hkept (accounting_area (by decide) (by decide))))
    record := fun m => (hw.record m).trans (hkept (accounting_area (by decide) (by omega)))
    images := hw.images.trans (congrArg (fun e : Eng => e.flash.images) hans.rest :) }

end

/-- Settles O24: what is left by POR, and by a WARM reset of each of its three causes. -/
theorem resetsHoldTheDeviceAndKeepTheRecord : Obligations.ResetsHoldTheDeviceAndKeepTheRecord := by
  refine ⟨fun s => ?_, fun s hup => ⟨?_, fun value roles had => ?_, fun hdue => ?_⟩⟩
  · obtain ⟨-, hflash, hphase, hsched, hecl, hsessions⟩ := s.eng0.wiped_frame s.ctx .held
    obtain ⟨-, himages, hkeys, hcals⟩ := s.eng0.cut_keeps
    exact ⟨_, exec_powerOnReset s, rfl, hphase, rfl, rfl, fun k hk => s.eng0.wiped_i s.ctx .held hk,
      (congrArg Flash.images hflash).trans himages, (congrArg Flash.keyValues hflash).trans hkeys,
      (congrArg Flash.calValues hflash).trans hcals, hsched, hecl, hsessions⟩
  · have hw := s.eng0.warm_warmed s.ctx 2 .held
    rw [← Eng.rstLow_up (e := s.eng0) s.ctx hup] at hw
    exact ⟨_, exec_warmReset s, ⟨rfl, hw.phase, rfl, hw.cause, hw.count, hw.record, hw.images, hw.sched, hw.eclipse⟩, rfl⟩
  · obtain ⟨t, ht, hcore, hpending, hw, hok⟩ := exec_resetCommandWarm_warms hup had
    exact ⟨t, ht, ⟨hcore, hw.phase, hpending, hw.cause, hw.count, hw.record, hw.images, hw.sched, hw.eclipse⟩, hok⟩
  · have hw := s.eng0.warm_warmed s.ctx 4 .locking
    exact ⟨_, (exec_autoReset s).trans (if_pos (Bool.and_eq_true_iff.2 ⟨hup, hdue⟩)),
      ⟨rfl, hw.phase, rfl, hw.cause, hw.count, hw.record, hw.images, hw.sched, hw.eclipse⟩, rfl⟩

end Sys2Proof.Machine
end

section
/-! # What faults leave outside the counters' and their own area (R396 to R404) -/

namespace Sys2Proof.Machine

/-- Outside area 70 every object but the counters' sticky bits is as it was. -/
structure Eng.FaultsOwn (e e' : Eng) : Prop where
  obj : ∀ j : Key, j.area ≠ 0x70 → j ≠ Od.CNT_STATUS.sticky → e'.i j = e.i j

namespace Eng.FaultsOwn

variable {a b c e : Eng} {x : Ctx}

theorem refl (e : Eng) : Eng.FaultsOwn e e := ⟨fun _ _ _ => rfl⟩

theorem trans (h : Eng.FaultsOwn a b) (h' : Eng.FaultsOwn b c) : Eng.FaultsOwn a c :=
  ⟨fun j hj hc => (h'.obj j hj hc).trans (h.obj j hj hc)⟩

theorem step (h : Eng.FaultsOwn a b) (ho : c.od = b.od) : Eng.FaultsOwn a c := h.trans ⟨fun j _ _ => congrArg (sget · j) ho⟩

theorem set {i m : Nat} (h : Eng.FaultsOwn a e) (hi : i * 16 + m < 65536) (v : Int) : Eng.FaultsOwn a (e.set (odKey 0x70 i m) v) :=
  h.trans ⟨fun _ hj _ => Eng.set_i_other _ _ _ _ fun heq => hj (heq ▸ odKey_area hi)⟩

theorem count (h : Eng.FaultsOwn a e) (ev : Nat) : Eng.FaultsOwn a (e.count x ev) := h.trans ⟨fun _ _ hc => Eng.count_i _ _ _ _ hc⟩

theorem ite {p : Prop} [Decidable p] (hb : Eng.FaultsOwn a b) (hc : Eng.FaultsOwn a c) : Eng.FaultsOwn a (if p then b else c) := by
  split
  · exact hb
  · exact hc

variable {d : Detection} (hd : d.block < 24)

include hd

theorem fillFirst (h : Eng.FaultsOwn a e) (same extra prior : Nat) : Eng.FaultsOwn a (e.fillFirst x d same extra prior) := by
  have hi {m : Nat} (hm : m < 16) : (0x140 + d.block) * 16 + m < 65536 := by omega
  unfold Eng.fillFirst
  exact (((((((((h.set (hi (by decide)) _).set (hi (by decide)) _).set (hi (by decide)) _).set (hi (by decide)) _).set
    (hi (by decide)) _).set (hi (by decide)) _).set (hi (by decide)) _).set (hi (by decide)) _).set (hi (by decide)) _).set (hi (by decide)) _

theorem recordFirst (h : Eng.FaultsOwn a e) : Eng.FaultsOwn a (e.recordFirst x d) := by
  have h8 : (0x140 + d.block) * 16 + 8 < 65536 := by omega
  have h9 : (0x140 + d.block) * 16 + 9 < 65536 := by omega
  have h11 : (0x140 + d.block) * 16 + 11 < 65536 := by omega
  unfold Eng.recordFirst
  exact .ite (h.fillFirst hd ..) (.ite (.ite (h.fillFirst hd ..) (.ite (h.set h9 _) (h.set h8 _)))
    (.ite ((h.set h11 _).fillFirst hd ..) (h.set h11 _)))

theorem countDetection (h : Eng.FaultsOwn a e) : Eng.FaultsOwn a (e.countDetection x d) := by
  have hi {m : Nat} (hm : m < 16) : (0x100 + d.block) * 16 + m < 65536 := by omega
  have hg {m : Nat} (hm : m < 16) : 0x001 * 16 + m < 65536 := by omega
  unfold Eng.countDetection
  extract_lets e1 e2
  have h1 : Eng.FaultsOwn a e1 := by
    unfold e1
    split
    · exact (h.set (hi (by decide)) _).count _
    · exact (h.set (hi (by decide)) _).count _
    · exact h
  have h2 : Eng.FaultsOwn a e2 := .ite ((h1.set (hi (by decide)) _).set (hg (by decide)) _) h1
  exact .ite ((h2.set (hi (by decide)) _).set (hg (by decide)) _) h2

omit hd in
theorem notify (h : Eng.FaultsOwn a e) (event : Nat) (extra : Bytes) : Eng.FaultsOwn a (e.notify x event extra) := by
  have hseg (s : Segment) : Eng.FaultsOwn a { e with seg := s } := h.step rfl
  unfold Eng.notify Eng.publish
  refine .ite h ?_
  split
  · exact h.count _
  · exact .ite ((hseg _).count _) ((hseg _).count _)

theorem raise (h : Eng.FaultsOwn a e) : Eng.FaultsOwn a (e.raise x d) := by
  have hflt (f : Faults) : Eng.FaultsOwn a { e with flt := f } := h.step rfl
  have hlatch : Eng.FaultsOwn a (e.latchDetection x d) := by
    unfold Eng.latchDetection
    exact (hflt _).set (by omega) _
  have hrecord := (hlatch.countDetection (x := x) hd).recordFirst (x := x) hd
  unfold Eng.raise
  extract_lets e1 e2 had e3 took e4 e5
  have h4 : Eng.FaultsOwn a e4 := .ite hrecord (hrecord.step (Eng.irqPoke_od ..))
  have h5 : Eng.FaultsOwn a e5 := .ite (h4.notify ..) h4
  exact .ite (h5.step ((Eng.endLinger_frame _ _).1.trans (Eng.railChange_frame ..).1)) h5

omit hd in
theorem detect {block : Nat} (hb : block < 24) (h : Eng.FaultsOwn a e) (row inst : Nat) : Eng.FaultsOwn a (e.detect x block row inst) :=
  h.raise hb

omit hd in
theorem condOn {block : Nat} (hb : block < 24) (h : Eng.FaultsOwn a e) (row inst : Nat) : Eng.FaultsOwn a (e.condOn x block row inst) :=
  .ite h (h.raise hb)

omit hd in
theorem condOff {block : Nat} (hb : block < 24) (h : Eng.FaultsOwn a e) (row inst : Nat) : Eng.FaultsOwn a (e.condOff x block row inst) :=
  have hconds (f : Faults) : Eng.FaultsOwn a { e with flt := f } := h.step rfl
  .ite (.ite ((hconds _).set (by omega) _) (hconds _)) h

end Eng.FaultsOwn

/-! ## Conditions of other rows (R400) -/

theorem Eng.condOn_hasCond_other (e : Eng) (x : Ctx) {b row inst row' inst' : Nat} (hrow : row ≠ row') :
    (e.condOn x b row inst).hasCond b row' inst' = e.hasCond b row' inst' := by
  unfold Eng.condOn
  dsimp only
  split
  · rfl
  · rw [Eng.hasCond, Eng.raise_conds, if_pos rfl, List.any_cons]
    have hne : ((row * 256 + inst % 256) / 256 == row') = false := beq_eq_false_iff_ne.2 (by omega)
    simp only [hne, Bool.and_false, Bool.false_and, Bool.false_or]
    rfl

theorem Eng.condOff_hasCond_other (e : Eng) (x : Ctx) {b row inst row' inst' : Nat} (hrow : row ≠ row') :
    (e.condOff x b row inst).hasCond b row' inst' = e.hasCond b row' inst' := by
  have hfilter : (e.flt.conds.filter (fun c => !(c.block == b && c.row == row && c.inst == inst))).any
      (fun c => c.block == b && c.row == row' && c.inst == inst') = e.hasCond b row' inst' := by
    rw [List.any_filter]
    refine congrArg (List.any e.flt.conds) (funext fun c => ?_)
    by_cases hc : c.row = row'
    · have hne : c.row ≠ row := fun h => hrow (h.symm.trans hc)
      rw [beq_eq_false_iff_ne.2 hne, Bool.and_false, Bool.false_and, Bool.not_false, Bool.true_and]
    · rw [beq_eq_false_iff_ne.2 hc, Bool.and_false, Bool.false_and, Bool.and_false]
  unfold Eng.condOff
  split
  · dsimp only
    split <;> exact hfilter
  · rfl

end Sys2Proof.Machine
end

section
/-! # Supplies, temperatures and the core voltage (R418, R419) -/

namespace Sys2Proof.Machine

/-! ## The sample (R418) -/

theorem Eng.condIs_hasCond (e : Eng) (x : Ctx) (row : Nat) (present : Bool) : (e.condIs x row present).hasCond 21 row 0 = present := by
  cases present with
  | true => exact Eng.condOn_hasCond (hinst := by decide) ..
  | false => exact Eng.condOff_hasCond ..

theorem Eng.condIs_hasCond_other (e : Eng) (x : Ctx) {row row' : Nat} (h : row ≠ row') (present : Bool) :
    (e.condIs x row present).hasCond 21 row' 0 = e.hasCond 21 row' 0 := by
  cases present with
  | true => exact Eng.condOn_hasCond_other _ _ h
  | false => exact Eng.condOff_hasCond_other _ _ h

theorem Eng.condIs_own (e : Eng) (x : Ctx) (row : Nat) (present : Bool) : e.FaultsOwn (e.condIs x row present) := by
  cases present with
  | true => exact .condOn (by decide) (.refl e) row 0
  | false => exact .condOff (by decide) (.refl e) row 0

theorem Eng.condIs_mon (e : Eng) (x : Ctx) (row : Nat) (present : Bool) : (e.condIs x row present).mon = e.mon := by
  cases present with
  | true => exact Eng.quiet_mon (Eng.quiet_condOn (Eng.quiet_refl e) ..)
  | false => exact Eng.quiet_mon (Eng.quiet_condOff (Eng.quiet_refl e) ..)

theorem thermNow_eq_iff {i j : Nat} : Od.THERM.now j = Od.THERM.now i ↔ j = i := by
  change 0x78 * 65536 + (0x010 + j) * 16 + 1 = 0x78 * 65536 + (0x010 + i) * 16 + 1 ↔ j = i
  omega

theorem Eng.thermSample_now (e : Eng) (i j : Nat) (t : Int) :
    (e.thermSample i t).i (Od.THERM.now j) = if j = i then t else e.i (Od.THERM.now j) := by
  have hpeak : Od.THERM.now j ≠ Od.THERM.peak i := odKey_ne (by omega)
  have hsticky : Od.THERM.now j ≠ Od.PWR_STATUS.sticky := odKey_ne (by omega)
  have hnow : (e.set (Od.THERM.now i) t).i (Od.THERM.now j) = if j = i then t else e.i (Od.THERM.now j) := by
    rw [Eng.set_i]
    exact if_congr thermNow_eq_iff rfl rfl
  unfold Eng.thermSample
  dsimp only
  split
  · rw [Eng.set_i_other _ _ _ _ hpeak, hnow]
  · split
    · rw [Eng.orb_i, if_neg hsticky, Eng.set_i_other _ _ _ _ hpeak, hnow]
    · exact hnow

/-- Sensors numbered from `k` on each show their own sample. -/
theorem Eng.thermSamples_now (ts : List Int) (k : Nat) (e : Eng) (j : Nat) :
    ((ts.zipIdx k).foldl (fun e p => e.thermSample p.2 p.1) e).i (Od.THERM.now j) =
      if k ≤ j ∧ j < k + ts.length then ts.getD (j - k) 0 else e.i (Od.THERM.now j) := by
  induction ts generalizing k e with
  | nil => rw [if_neg (by simp only [List.length_nil]; omega)]; rfl
  | cons t ts ih =>
    rw [List.zipIdx_cons, List.foldl_cons, ih, Eng.thermSample_now, List.length_cons]
    by_cases hj : j = k
    · rw [if_neg (by omega), if_pos hj, if_pos (by omega), hj, Nat.sub_self]
      rfl
    · rw [if_neg hj]
      by_cases hin : k + 1 ≤ j ∧ j < k + 1 + ts.length
      · rw [if_pos hin, if_pos (by omega), show j - k = j - (k + 1) + 1 by omega]
        rfl
      · rw [if_neg hin, if_neg (by omega)]

theorem Eng.thermSample_rest (e : Eng) (i : Nat) (t : Int) : e.onlyObjects (e.thermSample i t) := by
  unfold Eng.thermSample
  dsimp only
  repeat' split
  all_goals rfl

/-- The engines once the sensors were read: what the sample compares the next one with. -/
def Eng.sampledTemps (e : Eng) (x : Ctx) (rails : List Nat) (temps : List Int) : Eng :=
  let f := temps.zipIdx.foldl (fun e p => e.thermSample p.2 p.1) e
  { f with mon := { f.mon with
    sampled := true, railOut := e.railsOut rails
    hot := (temps.zipIdx.filter (fun p => decide (x.shutdownC < p.1))).map (fun p => p.2), supplyLow := e.railsLow rails
    tempOut := temps.any (fun t => decide (t < x.junction.1) || decide (x.junction.2 < t)) } }

/-- A sample shows the temperatures, may warn, and judges the two conditions of block 21. -/
theorem Eng.monitorSample_eq (e : Eng) (x : Ctx) (rails : List Nat) {temps : List Int} (hlen : temps.length = 16) :
    ∃ e' hot, (e' = e.sampledTemps x (rails.take 8) temps ∨ e' = (e.sampledTemps x (rails.take 8) temps).orb Od.PWR_STATUS.sticky 1) ∧
      e.monitorSample x rails temps =
        (e'.condIs x 1 ((e.railsOut (rails.take 8)).any (fun r => e.mon.railOut.contains r))).condIs x 2 hot := by
  unfold Eng.monitorSample
  rw [List.take_of_length_le hlen.le]
  refine ⟨_, _, ?_, rfl⟩
  split
  · exact .inr rfl
  · exact .inl rfl

/-- What a sample shows. -/
theorem Eng.monitorSample_shows (e : Eng) (x : Ctx) (rails : List Nat) {temps : List Int} (hlen : temps.length = 16) :
    (∀ i : Fin 16, (e.monitorSample x rails temps).i (Od.THERM.now i) = temps.getD i 0) ∧
    (e.monitorSample x rails temps).mon.sampled = true ∧
    (e.monitorSample x rails temps).mon.railOut = e.railsOut (rails.take 8) ∧
    ((∃ r ∈ e.railsOut (rails.take 8), r ∈ e.mon.railOut) ↔ (e.monitorSample x rails temps).hasCond 21 1 0 = true) := by
  obtain ⟨e', hot, he', heq⟩ := e.monitorSample_eq x rails hlen
  have hmon : e'.mon = (e.sampledTemps x (rails.take 8) temps).mon := by
    rcases he' with rfl | rfl <;> rfl
  have hnow (i : Fin 16) : e'.i (Od.THERM.now i) = temps.getD i 0 := by
    have hs : (e.sampledTemps x (rails.take 8) temps).i (Od.THERM.now i) = temps.getD i 0 :=
      (Eng.thermSamples_now temps 0 e i).trans (if_pos ⟨i.val.zero_le, by omega⟩)
    rcases he' with rfl | rfl
    · exact hs
    · exact (Eng.orb_i ..).trans ((if_neg (odKey_ne (by omega))).trans hs)
  have harea (i : Fin 16) : (Od.THERM.now i).area ≠ 0x70 := by
    rw [Od.THERM.now, odKey_area (by omega)]
    decide
  have hfree (i : Fin 16) : Od.THERM.now i ≠ Od.CNT_STATUS.sticky := odKey_ne (by omega)
  rw [heq]
  refine ⟨fun i => ?_, ?_, ?_, ?_⟩
  · rw [(Eng.condIs_own ..).obj _ (harea i) (hfree i), (Eng.condIs_own ..).obj _ (harea i) (hfree i), hnow]
  · rw [Eng.condIs_mon, Eng.condIs_mon, hmon]
    rfl
  · rw [Eng.condIs_mon, Eng.condIs_mon, hmon]
    rfl
  · rw [Eng.condIs_hasCond_other _ _ (by decide), Eng.condIs_hasCond]
    simp only [List.any_eq_true, List.contains_iff_mem]

/-! ## The voltage loop (R419) -/

/-- Block 21's objects of area 78 are not the faults'. -/
theorem detect_pwr (e : Eng) (x : Ctx) (row inst : Nat) {i m : Nat} (hi : i * 16 + m < 65536) :
    (e.detect x 21 row inst).i (odKey 0x78 i m) = e.i (odKey 0x78 i m) :=
  (Eng.FaultsOwn.detect (by decide) (.refl e) row inst).obj _ (by rw [odKey_area hi]; decide) (odKey_ne (by omega))

theorem Eng.avsSend_margin (e : Eng) (mv : Nat) (acknowledged : Bool) :
    (e.avsSend mv acknowledged).i Od.PWR_STATUS.margin = e.i Od.PWR_STATUS.margin := by
  cases acknowledged with
  | true => exact Eng.set_i_other _ _ _ _ (odKey_ne (by decide))
  | false => exact (Eng.set_i_other _ _ _ _ (odKey_ne (by decide))).trans (Eng.set_i_other _ _ _ _ (odKey_ne (by decide)))

/-- A period shows the margin, whatever it does about it. -/
theorem Eng.avsLoop_margin (e : Eng) (x : Ctx) (margins : List Int) (acknowledged : Bool) :
    (e.avsLoop x margins acknowledged).i Od.PWR_STATUS.margin = max (-32768) (min 32767 (slowest margins)) := by
  unfold Eng.avsLoop
  extract_lets m e1
  have h1 : e1.i Od.PWR_STATUS.margin = m := Eng.set_i_same ..
  split
  next => exact h1
  next t _ =>
    extract_lets c e2
    have h2 : e2.i Od.PWR_STATUS.margin = m := by
      unfold e2
      split
      · exact h1
      · exact (detect_pwr _ _ _ _ (by decide)).trans ((Eng.orb_i ..).trans ((if_neg (odKey_ne (by decide))).trans h1))
    split
    · exact h2
    · exact (Eng.avsSend_margin ..).trans h2

theorem Eng.set_margin_vcore (e : Eng) (m : Int) : (e.set Od.PWR_STATUS.margin m).n Od.PWR_STATUS.vcore_mv = e.n Od.PWR_STATUS.vcore_mv :=
  congrArg Int.toNat (Eng.set_i_other _ _ _ _ (odKey_ne (by decide)))

/-- A period that wants another voltage within the fused window asks for it. -/
theorem Eng.avsLoop_asks (e : Eng) (x : Ctx) (margins : List Int) {mv : Nat} (hlow : -32768 ≤ slowest margins) (hhigh : slowest margins ≤ 32767)
    (hwanted : (e.set Od.PWR_STATUS.margin (slowest margins)).avsWanted x (slowest margins) = some mv)
    (hmin : x.fuses.vMin ≤ mv) (hmax : mv ≤ x.fuses.vMax) (hmoved : mv ≠ e.n Od.PWR_STATUS.vcore_mv) :
    e.avsLoop x margins true = (e.set Od.PWR_STATUS.margin (slowest margins)).avsSend mv true := by
  have hmoved' : mv ≠ (e.set Od.PWR_STATUS.margin (slowest margins)).n Od.PWR_STATUS.vcore_mv := by rwa [Eng.set_margin_vcore]
  unfold Eng.avsLoop
  rw [min_eq_right hhigh, max_eq_right hlow]
  dsimp only
  rw [hwanted]
  dsimp only
  rw [min_eq_right hmax, max_eq_right hmin, if_pos rfl, if_neg hmoved']

section
variable {s : State} (hup : s.eng.up = true) (margins : List Int) {mv : Nat}

include hup

theorem exec_avsLoop_moves (hretry : s.eng.mon.avsRetry = none)
    (hwanted : (if slowest margins < s.fuses.avsLow then some (s.eng.n Od.PWR_STATUS.vcore_mv + 5)
      else if s.fuses.avsHigh < slowest margins then some (s.eng.n Od.PWR_STATUS.vcore_mv - 5) else none) = some mv)
    (hlow : -32768 ≤ slowest margins) (hhigh : slowest margins ≤ 32767) (hmoved : mv ≠ s.eng.n Od.PWR_STATUS.vcore_mv)
    (hmin : s.fuses.vMin ≤ mv) (hmax : mv ≤ s.fuses.vMax) :
    ∃ t, exec (.avsLoop margins true) s = .next t ∧ t.eng.n Od.PWR_STATUS.vcore_mv = mv ∧ t.eng.out = [.avs mv] ∧ s.beside t := by
  have hasks : (s.eng0.set Od.PWR_STATUS.margin (slowest margins)).avsWanted s.ctx (slowest margins) = some mv := by
    unfold Eng.avsWanted
    rw [show (s.eng0.set Od.PWR_STATUS.margin (slowest margins)).mon.avsRetry = none from hretry, Eng.set_margin_vcore]
    exact hwanted
  have hloop := s.eng0.avsLoop_asks s.ctx margins hlow hhigh hasks hmin hmax hmoved
  refine ⟨_, (exec_avsLoop margins true s).trans (lift_up hup _), ?_⟩
  dsimp only
  rw [hloop]
  exact ⟨congrArg Int.toNat (Eng.set_i_same ..), rfl, rfl, rfl, rfl⟩

end

/-- Settles O23: the sample, the trip pin, and a period of the loop in its two directions. -/
theorem suppliesAndTemperaturesAreWatched : Obligations.SuppliesAndTemperaturesAreWatched := by
  refine ⟨fun s rails temps hup hlen => ?_, fun s => ⟨⟨_, exec_thermTrip s, rfl⟩, _, exec_thermTripRelease s, rfl⟩,
    fun s margins acknowledged mv hup => ⟨?_, ?_, ?_⟩⟩
  · exact ⟨_, (exec_monitorSample rails temps s).trans (lift_up hup _), ⟨rfl, rfl, rfl⟩, s.eng0.monitorSample_shows s.ctx rails hlen⟩
  · exact ⟨_, (exec_avsLoop margins acknowledged s).trans (lift_up hup _), ⟨rfl, rfl, rfl⟩, s.eng0.avsLoop_margin s.ctx margins acknowledged⟩
  · intro hretry hband hlow hhigh hmv
    exact exec_avsLoop_moves hup margins hretry ((if_pos hband).trans (congrArg some hmv.symm)) hlow hhigh (by omega)
  · intro hretry hband habove hlow hhigh hmv
    have hmv' : s.eng.n Od.PWR_STATUS.vcore_mv - 5 = mv := by omega
    exact exec_avsLoop_moves hup margins hretry
      ((if_neg (not_lt.2 hband)).trans ((if_pos habove).trans (congrArg some hmv'))) hlow hhigh (by omega)

end Sys2Proof.Machine
end

section
/-! # Eclipse's entry over a reservation of no rule (R410) -/

namespace Sys2Proof.Machine

/-- The rails changed at tick 0, and eight ticks have passed. Port 0 holds a reservation made for answer rule 195,843, whose count of
requests dropped, 40.196611/3, has the number of 70.003/3: the detection tick of the Eclipse record. No rule has such a number (Table
6-5), but the statement speaks of every state. -/
def eclipseOverNoRule : State :=
  { State.reset with
    core := { TimeCore.atReset with tick := 8 }
    eng := { State.reset.eng with
      boot := { State.reset.eng.boot with phase := .running }
      flt := { State.reset.eng.flt with rail := some ⟨0, 0, .rail, 0, 0xFF, 0xFF, 0⟩ }
      cals := [{ Calendar.atReset with resv := [⟨0, 0, 0, 0, 0, 0, 0, 0, false, .answer 0 195843 .plain, [], none⟩] }] } }

/-- The entry discards the reservation, and counting it makes the detection tick of the record 1. -/
theorem eclipseOverNoRule_enters :
    ∃ t, exec .eclipseEntry eclipseOverNoRule = .next t ∧ t.eng.n Od.FLT_ECLIPSE.detect_tick = 1 := by
  refine ⟨_, (exec_eclipseEntry eclipseOverNoRule).trans (lift_up (by decide +kernel) _), ?_⟩
  decide +kernel

/-- Refutes O60: the record shows tick 1 for rails that changed at tick 0, where a reservation's rule is 195,843, which the statement
admits. -/
theorem not_eclipseBeginsEightTicksAfterItsRail : ¬ Obligations.EclipseBeginsEightTicksAfterItsRail := by
  intro h
  obtain ⟨-, hentry, -⟩ := h eclipseOverNoRule (by decide +kernel)
  obtain ⟨t, ht, -, -, -, hdetect, -⟩ := hentry ⟨0, 0, .rail, 0, 0xFF, 0xFF, 0⟩ (by decide +kernel) (by decide +kernel) (by decide +kernel)
  obtain ⟨t', ht', htick⟩ := eclipseOverNoRule_enters
  rw [← Host.Outcome.next.inj (ht'.symm.trans ht), htick] at hdetect
  exact absurd hdetect (by decide)

end Sys2Proof.Machine
end

section
/-! # What a detection leaves of the other objects (R400 to R404) -/

namespace Sys2Proof.Machine

section
variable {j : Key} {a e : Eng} (x : Ctx) {d : Detection} (hfirst : ∀ m < 16, j ≠ odKey 0x70 (0x140 + d.block) m)

include hfirst

theorem Eng.Spares.fillFirst_of_ne (h : Eng.Spares j a e) (same extra prior : Nat) : Eng.Spares j a (e.fillFirst x d same extra prior) := by
  unfold Eng.fillFirst
  exact (((((((((h.set (hfirst 1 (by decide)) _).set (hfirst 2 (by decide)) _).set (hfirst 3 (by decide)) _).set
    (hfirst 4 (by decide)) _).set (hfirst 5 (by decide)) _).set (hfirst 6 (by decide)) _).set (hfirst 7 (by decide)) _).set
    (hfirst 8 (by decide)) _).set (hfirst 10 (by decide)) _).set (hfirst 9 (by decide)) _

theorem Eng.Spares.recordFirst_of_ne (h : Eng.Spares j a e) : Eng.Spares j a (e.recordFirst x d) := by
  unfold Eng.recordFirst
  exact .ite (h.fillFirst_of_ne x hfirst ..) (.ite (.ite (h.fillFirst_of_ne x hfirst ..)
    (.ite (h.orb (hfirst 9 (by decide)) _) (h.orb (hfirst 8 (by decide)) _)))
    (.ite ((h.set (hfirst 11 (by decide)) _).fillFirst_of_ne x hfirst ..) (h.inc32 (hfirst 11 (by decide)))))

omit hfirst in
theorem Eng.Spares.notify_of_ne (hcnt : j ≠ Od.CNT_STATUS.sticky) (h : Eng.Spares j a e) (event : Nat) (extra : Bytes) :
    Eng.Spares j a (e.notify x event extra) := by
  have hseg (s : Segment) : Eng.Spares j a { e with seg := s } := h.trans ⟨rfl, rfl⟩
  unfold Eng.notify Eng.publish
  refine .ite h ?_
  split
  · exact h.count hcnt _
  · exact .ite ((hseg _).count hcnt _) ((hseg _).count hcnt _)

/-- But for the first-fault record and the counters' sticky bits, a detection's latch and its counts are all it writes. -/
theorem Eng.raise_i_of_ne (hcnt : j ≠ Od.CNT_STATUS.sticky) (e : Eng) :
    (e.raise x d).i j = ((e.latchDetection x d).countDetection x d).i j := by
  have hrecord := (Eng.Spares.refl j ((e.latchDetection x d).countDetection x d)).recordFirst_of_ne x hfirst
  unfold Eng.raise
  extract_lets e1 e2 had e3 took e4 e5
  have h4 : Eng.Spares j e2 e4 := .ite hrecord (hrecord.irqPoke _)
  have h5 : Eng.Spares j e2 e5 := .ite (h4.notify_of_ne x hcnt ..) h4
  split
  · exact (congrArg (sget · j) ((Eng.endLinger_frame _ _).1.trans (Eng.railChange_frame ..).1)).trans h5.obj
  · exact h5.obj

end

theorem checkerFail_ne_block (b : Nat) {m : Nat} (hm : m < 9) : Od.FLT_BLOCK.checker_fail b ≠ odKey 0x70 (0x100 + b) m := odKey_ne (by omega)

theorem checkerFail_ne_counters (b : Nat) : Od.FLT_BLOCK.checker_fail b ≠ Od.CNT_STATUS.sticky := odKey_ne (by omega)

/-- A detection by a checker is counted as its block's. -/
theorem Eng.raise_checkerFail (e : Eng) (x : Ctx) {d : Detection} (hforced : d.forced = false) (hcause : d.cause / 256 = 0xF0) :
    (e.raise x d).n (Od.FLT_BLOCK.checker_fail d.block) = (e.n (Od.FLT_BLOCK.checker_fail d.block) + 1) % 2 ^ 32 := by
  have hlatched : (e.latchDetection x d).i (Od.FLT_BLOCK.checker_fail d.block) = e.i (Od.FLT_BLOCK.checker_fail d.block) :=
    (Eng.orb_i ..).trans (if_neg (checkerFail_ne_block d.block (by decide)))
  refine (congrArg Int.toNat (Eng.raise_i_of_ne (j := Od.FLT_BLOCK.checker_fail d.block) x (fun m hm => odKey_ne (by omega))
    (checkerFail_ne_counters _) e)).trans ?_
  have hsticky : Od.FLT_BLOCK.checker_fail d.block ≠ Od.FLT_GLOBAL.sticky := odKey_ne (by omega)
  unfold Eng.countDetection
  extract_lets e1 e2
  have h1 : e1.i (Od.FLT_BLOCK.checker_fail d.block) = e.i (Od.FLT_BLOCK.checker_fail d.block) := by
    unfold e1
    split
    · exact (Eng.count_i _ _ _ _ (checkerFail_ne_counters _)).trans
        ((Eng.set_i_other _ _ _ _ (checkerFail_ne_block _ (by decide))).trans hlatched)
    · exact (Eng.count_i _ _ _ _ (checkerFail_ne_counters _)).trans
        ((Eng.set_i_other _ _ _ _ (checkerFail_ne_block _ (by decide))).trans hlatched)
    · exact hlatched
  have h2 : e2 = e1 := if_neg (Bool.eq_false_iff.1 hforced)
  rw [if_pos hcause, Eng.orb_i, if_neg hsticky, h2]
  exact (Eng.inc32_n_same ..).trans (congrArg (fun v : Int => (v.toNat + 1) % 2 ^ 32) h1)

end Sys2Proof.Machine
end

section
/-! # Fault blocks, the test window, self-check and scrubbing (R400 to R407) -/

namespace Sys2Proof.Machine

/-! ## Forcing (R404) -/

/-- The sources of a mask, each raised, are the mask's bits of the latch. -/
theorem foldl_bits_or (src : Nat) (l : List Nat) (m : Nat) :
    l.foldl (fun m s => if bitOf src s then m ||| 2 ^ s else m) m = m ||| l.foldl (fun m s => if bitOf src s then m ||| 2 ^ s else m) 0 := by
  induction l generalizing m with
  | nil => simp
  | cons s l ih =>
    rw [List.foldl_cons, List.foldl_cons, ih, ih (if bitOf src s = true then 0 ||| 2 ^ s else 0)]
    split
    · rw [Nat.zero_or, Nat.or_assoc]
    · rw [Nat.zero_or]

theorem sourcesOf : ∀ src < 16, (List.range 4).foldl (fun m s => if bitOf src s then m ||| 2 ^ s else m) 0 = src := by decide

theorem Eng.forced_latch (x : Ctx) (b cls src : Nat) (l : List Nat) (e : Eng) :
    (l.foldl (fun e s => if bitOf src s then e.raise x ⟨b, s, cls, 0xFF00, false, true⟩ else e) e).n (Od.FLT_BLOCK.latch b) =
      l.foldl (fun m s => if bitOf src s then m ||| 2 ^ s else m) (e.n (Od.FLT_BLOCK.latch b)) := by
  induction l generalizing e with
  | nil => rfl
  | cons s l ih =>
    rw [List.foldl_cons, List.foldl_cons, ih]
    split
    · rw [Eng.raise_latch x ⟨b, s, cls, 0xFF00, false, true⟩ e]
    · rfl

/-- The engines once each source of a mask was forced. -/
def Eng.forced (e : Eng) (x : Ctx) (b cls src : Nat) : Eng :=
  (List.range 4).foldl (fun e s => if bitOf src s then e.raise x ⟨b, s, cls, 0xFF00, false, true⟩ else e) e

theorem forceWrite_forces {x : Ctx} {e : Eng} (b : Nat) {value : Nat} (hopen : value / 16 % 4 = 3 ∨ e.testOpen x = true)
    (hcls : value / 16 % 4 ≠ 0) (hsrc : value % 16 ≠ 0) :
    forceWrite x b value e = (stOk, e.forced x b (value / 16 % 4) (value % 16)) := by
  have hmay : ¬ (value / 16 % 4 ≠ 3 ∧ (!e.testOpen x) = true) := by
    rintro ⟨hne, hshut⟩
    exact hopen.elim hne fun ho => by rw [ho] at hshut; cases hshut
  exact (if_neg (not_or.2 ⟨hcls, hsrc⟩)).trans (if_neg hmay)

theorem forceWrite_shut {x : Ctx} {e : Eng} (b : Nat) {value : Nat} (hcls : value / 16 % 4 = 1 ∨ value / 16 % 4 = 2) (hsrc : value % 16 ≠ 0)
    (hshut : e.testOpen x = false) : forceWrite x b value e = (stMode, e) := by
  have hcls0 : value / 16 % 4 ≠ 0 ∧ value / 16 % 4 ≠ 3 := by omega
  exact (if_neg (not_or.2 ⟨hcls0.1, hsrc⟩)).trans (if_pos ⟨hcls0.2, by rw [hshut]; rfl⟩)

/-! ## The record and the latch (R400, R402) -/

/-- Every member of a block's first-fault record at 0. -/
def firstZeros (b : Nat) : List (Key × Int) := (firstKeys b).map (fun k => (k, 0))

theorem firstZeros_nodup (b : Nat) : ((firstZeros b).map Prod.fst).Nodup := by
  rw [firstZeros, List.map_map, firstKeys]
  exact (List.map_id _).symm ▸ (List.nodup_range.map fun i i' h => by
    have h' : 0x70 * 65536 + (0x140 + b) * 16 + (i + 1) = 0x70 * 65536 + (0x140 + b) * 16 + (i' + 1) := h
    omega)

theorem rearmWrite_empties {x : Ctx} {e : Eng} {b : Nat} (hquiet : ∀ d ∈ e.recent x, d.block ≠ b) :
    rearmWrite x b 1 e = (stOk, e.setAll (firstZeros b)) := by
  have hempty : (e.recent x).filter (fun d => d.block == b) = [] :=
    List.filter_eq_nil_iff.2 fun d hd => by rw [beq_eq_false_iff_ne.2 (hquiet d hd)]; exact Bool.false_ne_true
  have hsets : (firstKeys b).foldl (fun e k => e.set k 0) e = e.setAll (firstZeros b) := 
    (List.foldl_map (f := fun k => (k, (0 : Int))) (g := fun (e : Eng) p => e.set p.1 p.2)).symm
  have hrecent : (e.setAll (firstZeros b)).recent x = e.recent x := by
    rw [Eng.setAll_eq]
    rfl
  unfold rearmWrite
  rw [if_pos rfl]
  dsimp only
  rw [hsets, hrecent, hempty, List.foldl_nil]

theorem foldl_sources_none {b : Nat} (l : List Detection) (h : ∀ d ∈ l, d.block ≠ b) (m : Nat) :
    l.foldl (fun m d => if d.block = b then m ||| 2 ^ d.src else m) m = m := by
  induction l with
  | nil => rfl
  | cons d l ih =>
    obtain ⟨hd, hl⟩ := List.forall_mem_cons.1 h
    rw [List.foldl_cons, if_neg hd, ih hl]

theorem latchClear_quiet {x : Ctx} {e : Eng} {b : Nat} (hquiet : ∀ d ∈ e.recent x, d.block ≠ b) (mask : Nat) :
    latchClear x b mask e = (stOk, e.setAll [(Od.FLT_BLOCK.latch b, (clearBits (e.n (Od.FLT_BLOCK.latch b)) mask : Nat))]) := by
  have hmask : clearBits ((mask : Int).toNat) 0 = mask := by simp [clearBits]
  unfold latchClear
  dsimp only
  rw [foldl_sources_none _ hquiet, hmask]
  rfl

/-! ## The self-check (R406) -/

theorem faultRows_small : ∀ q ∈ faultRows, q.row < 255 := by decide

/-- A checker's failure names its one row, which is one of the block's. -/
theorem Eng.checkerFail_row (e : Eng) (x : Ctx) (block : Fin 24) {row : Nat}
    (hrow : faultRows.any (fun q => q.block == block.val && q.row == row) = true) :
    row < 255 ∧ ∃ cls, e.checkerFail x ⟨block, [row]⟩ = e.raise x ⟨block, (faultRow block row).src, cls, 0xF000 + row, false, false⟩ := by
  obtain ⟨q, hq, hqr⟩ := List.any_eq_true.1 hrow
  have hsmall : row < 255 := beq_iff_eq.1 (Bool.and_eq_true_iff.1 hqr).2 ▸ faultRows_small q hq
  have hlow : lowestRow [row] = row := min_eq_right hsmall.le
  refine ⟨hsmall, if [row].any (fun r => (faultRow block r).cls == 3) then 3 else 2, ?_⟩
  unfold Eng.checkerFail
  rw [show [row].filter (fun r => faultRows.any (fun q => q.block == block.val && q.row == r)) = [row] from
    List.filter_eq_self.2 (List.forall_mem_singleton.2 hrow)]
  dsimp only
  rw [hlow]
  rfl

/-- The overrun of a cycle is row 1 of block 23, whose source is 2. -/
theorem Eng.scrubOverrun_latch (e : Eng) (x : Ctx) (memory : EccMemory) :
    (e.scrubOverrun x memory).n (Od.FLT_BLOCK.latch 23) = e.n (Od.FLT_BLOCK.latch 23) ||| 4 := by
  have hsrc : 2 ^ (faultRow 23 1).src = 4 := by decide
  have hkept (e : Eng) : (e.orb Od.FLT_GLOBAL.sticky 16).n (Od.FLT_BLOCK.latch 23) = e.n (Od.FLT_BLOCK.latch 23) :=
    congrArg Int.toNat ((Eng.orb_i ..).trans (if_neg (latch_ne_global 23)))
  unfold Eng.scrubOverrun
  rw [Eng.detect_latch, hsrc, hkept]
  rfl

/-! ## The commands -/

section
variable {s : State} {roles : Nat} (hup : s.eng.up = true)

include hup

theorem exec_faultForce_sets {block : Fin 24} {value : Nat} (had : s.eng.admits (Od.FLT_BLOCK.force block) value roles = true)
    (hopen : value / 16 % 4 = 3 ∨ s.eng.testOpen s.ctx = true) (hcls : value / 16 % 4 ≠ 0) (hsrc : value % 16 ≠ 0) :
    ∃ t, exec (.faultForce block value roles) s = .next t ∧ s.accepted t ∧
      t.eng.n (Od.FLT_BLOCK.latch block) = s.eng.n (Od.FLT_BLOCK.latch block) ||| value % 16 := by
  obtain ⟨t, ht, hans⟩ := lift_writeCmd_answersOk (op := fun x => forceWrite x block value) hup had
    (forceWrite_forces (e := s.eng0) block hopen hcls hsrc)
  refine ⟨t, (exec_faultForce block value roles s).trans ht, hans.accepted, ?_⟩
  refine (congrArg Int.toNat (hans.obj _ (accounting_area (by decide) (by omega)))).trans ?_
  exact (Eng.forced_latch ..).trans ((foldl_bits_or ..).trans (congrArg _ (sourcesOf _ (Nat.mod_lt _ (by decide)))))

theorem exec_faultForce_shut {block : Fin 24} {value : Nat} (had : s.eng.admits (Od.FLT_BLOCK.force block) value roles = true)
    (hcls : value / 16 % 4 = 1 ∨ value / 16 % 4 = 2) (hsrc : value % 16 ≠ 0) (hshut : s.eng.testOpen s.ctx = false) :
    ∃ t, exec (.faultForce block value roles) s = .next t ∧ t.eng.resp.status = stMode ∧ t.eng.flt = s.eng.flt ∧
      t.eng.i (Od.FLT_BLOCK.latch block) = s.eng.i (Od.FLT_BLOCK.latch block) ∧ s.eng.onlyObjects t.eng ∧ s.beside t := by
  have harea : (Od.FLT_BLOCK.force block).area = 0x70 := odKey_area (by omega)
  obtain ⟨t, ht, hans⟩ := lift_writeCmd_answersAs (op := fun x => forceWrite x block value) (by rw [harea]; decide) (by rw [harea]; decide)
    hup had (forceWrite_shut (e := s.eng0) block hcls hsrc hshut)
  exact ⟨t, (exec_faultForce block value roles s).trans ht, hans.status, (congrArg Eng.flt hans.rest :),
    hans.obj _ (accounting_area (by decide) (by omega)), Eng.onlyObjects_trans s.onlyObjects_eng0 hans.rest, hans.beside⟩

theorem exec_faultRearm_empties {block : Fin 24} (hquiet : ∀ d ∈ s.eng.recent s.ctx, d.block ≠ block.val)
    (had : s.eng.admits (Od.FLT_BLOCK.rearm block) 1 roles = true) :
    ∃ t, exec (.faultRearm block 1 roles) s = .next t ∧ s.accepted t ∧ s.eng.onlyObjects t.eng ∧
      ∀ m : Fin 11, t.eng.i (odKey 0x70 (0x140 + block) (m + 1)) = 0 := by
  obtain ⟨t, ht, hans⟩ := lift_writeCmd_answersOk (op := fun x => rearmWrite x block 1) hup had (rearmWrite_empties (e := s.eng0) hquiet)
  refine ⟨t, (exec_faultRearm block 1 roles s).trans ht, hans.accepted,
    Eng.onlyObjects_trans (Eng.setAll_onlyObjects s.onlyObjects_eng0 _) hans.rest, fun m => ?_⟩
  rw [hans.obj _ (accounting_area (by decide) (by omega))]
  exact Eng.setAll_i_mem _ _ (firstZeros_nodup block) (odKey 0x70 (0x140 + block) (m + 1), 0)
    (List.mem_map.2 ⟨_, List.mem_map.2 ⟨m, List.mem_range.2 m.isLt, rfl⟩, rfl⟩)

theorem exec_faultLatchClear_clears {block : Fin 24} (hquiet : ∀ d ∈ s.eng.recent s.ctx, d.block ≠ block.val) {mask : Nat}
    (had : s.eng.admits (Od.FLT_BLOCK.latch block) mask roles = true) :
    ∃ t, exec (.faultLatchClear block mask roles) s = .next t ∧
      s.wrote t [(Od.FLT_BLOCK.latch block, (clearBits (s.eng.n (Od.FLT_BLOCK.latch block)) mask : Nat))] :=
  lift_writeCmd_wrote (op := fun x => latchClear x block mask) _ hup had (latchClear_quiet (e := s.eng0) hquiet mask)
    (List.nodup_singleton _) (List.forall_mem_singleton.2 (accounting_area (by decide) (by omega)))

theorem exec_testWindowOpen_opens {seconds : Nat} (had : s.eng.admits Od.FLT_TEST.open_s seconds roles = true) :
    ∃ t, exec (.testWindowOpen seconds roles) s = .next t ∧ s.accepted t ∧
      t.eng.flt = { s.eng.flt with testEnd := some ((s.ctx.st 0 + seconds * unitsPerSec) % 2 ^ 64) } := by
  obtain ⟨t, ht, hans⟩ := lift_writeCmd_answersOk (op := fun x => testOpenWrite x seconds) hup had rfl
  exact ⟨t, (exec_testWindowOpen seconds roles s).trans ht, hans.accepted, (congrArg Eng.flt hans.rest :)⟩

theorem exec_testWindowClose_closes (had : s.eng.admits Od.FLT_TEST.close 1 roles = true) :
    ∃ t, exec (.testWindowClose 1 roles) s = .next t ∧ s.accepted t ∧ t.eng.flt = { s.eng.flt with testEnd := none } := by
  obtain ⟨t, ht, hans⟩ := lift_writeCmd_answersOk (op := fun _ => testCloseWrite 1) hup had rfl
  exact ⟨t, (exec_testWindowClose 1 roles s).trans ht, hans.accepted, (congrArg Eng.flt hans.rest :)⟩

theorem exec_selfcheckPass_counts {block : Fin 24} {row : Nat} (hon : s.eng.b Od.FLT_GLOBAL.selfcheck_enable = true)
    (hrow : faultRows.any (fun q => q.block == block.val && q.row == row) = true) :
    ∃ t, exec (.selfcheckPass [⟨block, [row]⟩]) s = .next t ∧ s.beside t ∧
      t.eng.n (Od.FLT_BLOCK.checker_fail block) = (s.eng.n (Od.FLT_BLOCK.checker_fail block) + 1) % 2 ^ 32 ∧
      t.eng.n (Od.FLT_BLOCK.latch block) = s.eng.n (Od.FLT_BLOCK.latch block) ||| 2 ^ (faultRow block row).src := by
  obtain ⟨hsmall, cls, hfail⟩ := s.eng0.checkerFail_row s.ctx block hrow
  have hpass : s.eng0.selfcheck s.ctx [⟨block, [row]⟩] = _ := (if_pos hon).trans hfail
  have hcause : (0xF000 + row) / 256 = 0xF0 := by omega
  refine ⟨_, (exec_selfcheckPass _ s).trans (lift_up hup _), ⟨rfl, rfl, rfl⟩, ?_, ?_⟩
  · exact (congrArg (fun e : Eng => e.n (Od.FLT_BLOCK.checker_fail block)) hpass).trans (Eng.raise_checkerFail _ _ rfl hcause)
  · exact (congrArg (fun e : Eng => e.n (Od.FLT_BLOCK.latch block)) hpass).trans
      (Eng.raise_latch s.ctx ⟨block, (faultRow block row).src, cls, 0xF000 + row, false, false⟩ _)

theorem exec_scrubRead_counts {memory : EccMemory} {c : ScrubCycle} (hon : s.eng.b Od.FLT_GLOBAL.scrub_enable = true)
    (hstate : memory ≠ .state) (hc : tget s.eng.flt.scrubs (eccMemoryCode memory) = some c) (last : Bool) :
    ∃ t, exec (.scrubRead memory last none) s = .next t ∧ s.beside t ∧ t.eng.od = s.eng.od ∧
      tget t.eng.flt.scrubs (eccMemoryCode memory) = some (if last then ScrubCycle.begun s.ctx else { c with words := c.words + 1 }) := by
  have hcycle : tgetD s.eng0.flt.scrubs (eccMemoryCode memory) (ScrubCycle.begun s.ctx) = c := congrArg (Option.getD · _) hc
  refine ⟨_, (exec_scrubRead memory last none s).trans (lift_whenDue (due := fun _ e => e.b Od.FLT_GLOBAL.scrub_enable) hup hon),
    ⟨rfl, rfl, rfl⟩, ?_⟩
  dsimp only
  unfold Eng.scrubRead
  simp only [hcycle, if_neg hstate, if_neg fun h : _ ∧ memory = .state => hstate h.2]
  exact ⟨rfl, tget_tput_same ..⟩

theorem exec_scrubOverrun_latches {memory : EccMemory} (hlate : s.eng.scrubLate s.ctx memory = true) :
    ∃ t, exec (.scrubOverrun memory) s = .next t ∧ s.beside t ∧
      t.eng.n (Od.FLT_BLOCK.latch 23) = s.eng.n (Od.FLT_BLOCK.latch 23) ||| 4 := by
  refine ⟨_, (exec_scrubOverrun memory s).trans (lift_whenDue (due := fun x e => e.scrubLate x memory) hup hlate), ⟨rfl, rfl, rfl⟩, ?_⟩
  dsimp only
  rw [Eng.scrubOverrun_latch, State.eng0_n]

end

/-- Settles O59: each command of area 70 by what it does to the latches, the record, the window or the cycles. -/
theorem faultsAreForcedClearedAndTested : Obligations.FaultsAreForcedClearedAndTested := by
  intro s roles hup
  refine ⟨fun block value had => ⟨exec_faultForce_sets hup had, exec_faultForce_shut hup had⟩,
    fun block hquiet => ⟨exec_faultRearm_empties hup hquiet, fun mask => exec_faultLatchClear_clears hup hquiet⟩,
    fun seconds => exec_testWindowOpen_opens hup, exec_testWindowClose_closes hup, fun hover => ?_,
    fun block row => exec_selfcheckPass_counts hup, fun memory c hon hstate hc => ?_, fun memory => exec_scrubOverrun_latches hup⟩
  · exact ⟨_, (exec_testWindowExpiry s).trans (lift_whenDue (due := fun x e => e.testOver x) hup hover), ⟨rfl, rfl, rfl⟩, rfl⟩
  · exact ⟨exec_scrubRead_counts hup hon hstate hc false, exec_scrubRead_counts hup hon hstate hc true⟩

end Sys2Proof.Machine
end

section
/-! # The management segment (R364 to R367, R376, R377, R380) -/

namespace Sys2Proof.Machine

/-! ## The port's link and the frame under way through faults -/

/-- The link, and the frame on the wire, are as they were. -/
structure Eng.LineKept (e e' : Eng) : Prop where
  link : e'.seg.link = e.seg.link
  sending : e'.seg.sending = e.seg.sending

namespace Eng.LineKept

variable {a b c e : Eng} {x : Ctx}

theorem refl (e : Eng) : Eng.LineKept e e := ⟨rfl, rfl⟩

theorem step (h : Eng.LineKept a b) (hs : c.seg = b.seg) : Eng.LineKept a c :=
  ⟨(congrArg Segment.link hs).trans h.link, (congrArg Segment.sending hs).trans h.sending⟩

theorem ite {p : Prop} [Decidable p] (hb : Eng.LineKept a b) (hc : Eng.LineKept a c) : Eng.LineKept a (if p then b else c) := by
  split
  · exact hb
  · exact hc

theorem recordFirst (h : Eng.LineKept a e) (d : Detection) : Eng.LineKept a (e.recordFirst x d) := by
  unfold Eng.recordFirst
  exact .ite (h.step rfl) (.ite (.ite (h.step rfl) (.ite (h.step rfl) (h.step rfl))) (.ite (h.step rfl) (h.step rfl)))

theorem countDetection (h : Eng.LineKept a e) (d : Detection) : Eng.LineKept a (e.countDetection x d) := by
  unfold Eng.countDetection
  extract_lets e1 e2
  have h1 : Eng.LineKept a e1 := by
    unfold e1
    split
    · exact h.step (Eng.count_seg ..)
    · exact h.step (Eng.count_seg ..)
    · exact h
  have h2 : Eng.LineKept a e2 := .ite (h1.step rfl) h1
  exact .ite (h2.step rfl) h2

theorem publish (h : Eng.LineKept a e) (kind : Nat) (body : Bytes) : Eng.LineKept a (e.publish x kind body) := by
  unfold Eng.publish
  refine .ite h ?_
  split
  · exact h.step (Eng.count_seg ..)
  · exact .ite ⟨(congrArg Segment.link (Eng.count_seg ..)).trans h.link, (congrArg Segment.sending (Eng.count_seg ..)).trans h.sending⟩
      ⟨(congrArg Segment.link (Eng.count_seg ..)).trans h.link, (congrArg Segment.sending (Eng.count_seg ..)).trans h.sending⟩

theorem raise (h : Eng.LineKept a e) (d : Detection) : Eng.LineKept a (e.raise x d) := by
  have hrails (e : Eng) (r : EclReason) (p q s t b : Nat) : ((e.railChange x r p q s t).endLinger b).seg = e.seg := by
    unfold Eng.endLinger Eng.railChange
    repeat' split
    all_goals rfl
  have hrecord := ((h.step (c := e.latchDetection x d) rfl).countDetection (x := x) d).recordFirst (x := x) d
  unfold Eng.raise
  extract_lets e1 e2 had e3 took e4 e5
  have h4 : Eng.LineKept a e4 := .ite hrecord (hrecord.step (Eng.irqPoke_seg ..))
  have h5 : Eng.LineKept a e5 := .ite (h4.publish ..) h4
  exact .ite (h5.step (hrails ..)) h5

theorem condOn (h : Eng.LineKept a e) (b row inst : Nat) : Eng.LineKept a (e.condOn x b row inst) := .ite h (h.raise _)

theorem condOff (h : Eng.LineKept a e) (b row inst : Nat) : Eng.LineKept a (e.condOff x b row inst) :=
  .ite (.ite (h.step rfl) (h.step rfl)) h

end Eng.LineKept

/-! ## Frames and publications received (R366, R367, R377) -/

theorem Eng.count_n {e : Eng} {x : Ctx} {ev : Nat} {k : Key} (hk : k ≠ Od.CNT_STATUS.sticky) : (e.count x ev).n k = e.n k :=
  congrArg Int.toNat (Eng.count_i _ _ _ _ hk)

theorem Eng.arrive_ctr (e : Eng) (x : Ctx) (path : InPath) (bytes : Bytes) : (e.arrive x path bytes).ctr = e.ctr := by
  unfold Eng.arrive
  split <;> rfl

theorem Eng.segRx_counts (e : Eng) (x : Ctx) (frame : Bytes) : (e.segRx x frame).seen 0xB00 = (e.seen 0xB00 + 1) % 2 ^ 48 := by
  unfold Eng.segRx
  dsimp only
  split
  · exact (Eng.seen_of_ctr (Eng.arrive_ctr ..) _).trans (Eng.seen_count_same ..)
  · exact (Eng.seen_count ..).trans ((if_neg (by decide)).trans (Eng.seen_count_same ..))

/-- A frame of another type is counted as such, and goes no further. -/
theorem Eng.segRx_other {e : Eng} {x : Ctx} {frame : Bytes} (htype : beAt frame 12 2 ≠ e.n Od.SEG.ethertype) :
    (e.segRx x frame).seen 0xB06 = (e.seen 0xB06 + 1) % 2 ^ 48 ∧ (e.segRx x frame).inbox = e.inbox := by
  have hrx : e.segRx x frame = (e.count x 0xB00).count x 0xB06 :=
    if_neg fun h => htype (h.2.trans (Eng.count_n (odKey_ne (by decide))))
  rw [hrx]
  refine ⟨(Eng.seen_count_same ..).trans ?_, (Eng.count_inbox ..).trans (Eng.count_inbox ..)⟩
  rw [Eng.seen_count, if_neg (by decide)]

/-- A frame for the port with the segment's type goes to the front. -/
theorem Eng.segRx_mine {e : Eng} {x : Ctx} {frame : Bytes} (htype : beAt frame 12 2 = e.n Od.SEG.ethertype) (hdst : beAt frame 0 6 = x.segMac)
    (hcreds : e.boot.creds = true) :
    ∃ a, (e.segRx x frame).inbox = e.inbox ++ [a] ∧ a.path = .segment (beAt frame 6 6) ∧ a.bytes = frame.drop 14 := by
  have hrx : e.segRx x frame = (e.count x 0xB00).arrive x (.segment (beAt frame 6 6)) (frame.drop 14) :=
    if_pos ⟨.inl hdst, htype.trans (Eng.count_n (odKey_ne (by decide))).symm⟩
  have hcounted : (e.count x 0xB00).boot.creds = true := (congrArg Boot.creds (Eng.count_boot ..)).trans hcreds
  rw [hrx, Eng.arrive, if_pos hcounted]
  exact ⟨_, congrArg (· ++ _) (Eng.count_inbox ..), rfl, rfl⟩

/-- What a publication of another member leaves. -/
theorem Eng.pubRx_takes {e : Eng} {x : Ctx} {a : Arrived} {p : Bytes} {c roles : Nat} {key : Bytes} (hpdu : pduOf a.path a.bytes = some p)
    (hwho : a.who = some (c, roles, key)) (hrole : bitOf roles 2 = true) (htag : tagOk p key = true) (hlen : 56 ≤ p.length)
    (hmember : byteAt p 16 ≠ e.n Od.SEG.member) (hahead : e.pubAhead x (byteAt p 16) (leNat (slice p 12 4)) = true) :
    (e.pubRx x a).inbox = e.inbox ∧
    tget (e.pubRx x a).sibs (byteAt p 16) = some ⟨byteAt p 17, signed 64 (leNat (slice p 24 8)), byteAt p 19, x.st 0⟩ ∧
    (e.pubRx x a).seen 0xB0C = (e.seen 0xB0C + 1) % 2 ^ 48 := by
  unfold Eng.pubRx
  simp only [hpdu, hwho, hrole, htag, if_neg (Nat.not_lt.2 hlen), if_neg hmember, hahead, Bool.not_true, Bool.or_false,
    Bool.false_eq_true, if_false]
  refine ⟨Eng.count_inbox .., ?_, Eng.seen_count_same ..⟩
  rw [Eng.count_sibs]
  exact tget_tput_same ..

theorem Eng.pubRx_malformed {e : Eng} {x : Ctx} {a : Arrived} (hpdu : pduOf a.path a.bytes = none) :
    (e.pubRx x a).inbox = e.inbox ∧ (e.pubRx x a).seen 0xB0A = (e.seen 0xB0A + 1) % 2 ^ 48 := by
  unfold Eng.pubRx
  rw [hpdu]
  exact ⟨Eng.count_inbox .., Eng.seen_count_same ..⟩

/-! ## Publications sent (R376) -/

/-- A publication changes no response that waits. -/
theorem Eng.publish_responses (e : Eng) (x : Ctx) (kind : Nat) (body : Bytes) :
    (e.publish x kind body).seg.pubSecond = e.seg.pubSecond ∧ (e.publish x kind body).seg.tx = e.seg.tx := by
  unfold Eng.publish
  split
  · exact ⟨rfl, rfl⟩
  · split
    · exact ⟨congrArg Segment.pubSecond (Eng.count_seg ..), congrArg Segment.tx (Eng.count_seg ..)⟩
    · dsimp only
      split <;> exact ⟨by rw [Eng.count_seg], by rw [Eng.count_seg]⟩

/-- With a credential and room in the queue it waits ahead of the responses, under the next sequence number. -/
theorem Eng.publish_queues {e : Eng} {x : Ctx} {c : Nat} (kind : Nat) (body : Bytes) (hrecovery : e.boot.recovery = false)
    (hon : e.b Od.SEG.publish = true) (hcred : e.pubCred = some c) (hroom : e.seg.txFirst.length + e.seg.tx.length < 32) :
    (e.publish x kind body).seg.pubSeq = (e.seg.pubSeq + 1) % 2 ^ 32 ∧
    (e.publish x kind body).seen 0xB0B = (e.seen 0xB0B + 1) % 2 ^ 48 ∧
    ∃ p, (e.publish x kind body).seg.txFirst = e.seg.txFirst ++ [p] := by
  unfold Eng.publish
  rw [hrecovery, hon, if_neg (by decide), hcred]
  dsimp only
  rw [if_pos hroom]
  exact ⟨congrArg Segment.pubSeq (Eng.count_seg ..), Eng.seen_count_same .., _, congrArg Segment.txFirst (Eng.count_seg ..)⟩

/-! ## Collisions (R364, R380) -/

theorem Eng.segAgain_sending {e : Eng} (x : Ctx) {since : Nat} {frame : Bytes} (hsend : e.seg.sending = some (since, frame)) :
    e.segAgain x = { e with seg := { e.seg with sending := some (x.tick, frame), backoff := none } } := by
  unfold Eng.segAgain
  rw [hsend]

section
variable {e : Eng} {x : Ctx} {since : Nat} {frame : Bytes} (hsend : e.seg.sending = some (since, frame)) (hback : e.seg.backoff = none)

include hsend hback

theorem Eng.segCollision_waits (hearly : x.tick - since ≤ 51200) (hfew : e.seg.collisions + 1 ≠ 16) :
    (e.segCollision x).seg.collisions = e.seg.collisions + 1 ∧ (e.segCollision x).seen 0xB02 = (e.seen 0xB02 + 1) % 2 ^ 48 ∧
    ∃ at_, (e.segCollision x).seg.backoff = some at_ ∧ x.tick ≤ at_ := by
  unfold Eng.segCollision
  rw [hsend, hback]
  dsimp only
  rw [if_neg (Nat.not_lt.2 hearly), if_neg hfew]
  exact ⟨rfl, Eng.seen_count_same .., _, rfl, Nat.le_add_right ..⟩

theorem Eng.segCollision_late (hlate : 51200 < x.tick - since) :
    (e.segCollision x).seg.sending = none ∧ (e.segCollision x).seen 0xB04 = (e.seen 0xB04 + 1) % 2 ^ 48 := by
  unfold Eng.segCollision
  rw [hsend, hback]
  dsimp only
  rw [if_pos hlate]
  exact ⟨congrArg Segment.sending (Eng.count_seg ..), Eng.seen_count_same ..⟩

end

/-! ## The commands -/

section
variable {s : State} (hup : s.eng.up = true)

include hup

theorem exec_segmentFrameRx_counts (frame : Bytes) (hlink : s.eng.seg.link = true) :
    ∃ t, exec (.segmentFrameRx frame) s = .next t ∧ s.beside t ∧ t.eng.seen 0xB00 = (s.eng.seen 0xB00 + 1) % 2 ^ 48 ∧
      (beAt frame 12 2 ≠ s.eng.n Od.SEG.ethertype → t.eng.seen 0xB06 = (s.eng.seen 0xB06 + 1) % 2 ^ 48 ∧ t.eng.inbox = s.eng.inbox) ∧
      (beAt frame 12 2 = s.eng.n Od.SEG.ethertype → beAt frame 0 6 = s.ctx.segMac → s.eng.boot.creds = true →
        ∃ a, t.eng.inbox = s.eng.inbox ++ [a] ∧ a.path = .segment (beAt frame 6 6) ∧ a.bytes = frame.drop 14) :=
  ⟨_, (exec_segmentFrameRx frame s).trans (lift_whenDue (due := fun _ e => e.seg.link) (f := fun x e => e.segRx x frame) hup hlink),
    ⟨rfl, rfl, rfl⟩, s.eng0.segRx_counts s.ctx frame, Eng.segRx_other (e := s.eng0), Eng.segRx_mine (e := s.eng0)⟩

theorem exec_publishRx_takes {i : Nat} {a : Arrived} (hnext : s.eng.nextPub = some (i, a)) :
    exec .publishRx s = .next { s with eng := { s.eng0 with inbox := s.eng.inbox.eraseIdx i }.pubRx s.ctx a } := by
  have hnext0 : s.eng0.nextPub = some (i, a) := hnext
  rw [exec_publishRx, execPublishRx, lift_up hup, hnext0]
  rfl

theorem exec_collision_acts (hshared : s.eng.b Od.SEG.plca_enable = false) :
    exec .collision s = .next { s with eng := s.eng0.segCollision s.ctx } :=
  (exec_collision s).trans (lift_whenDue (due := fun _ e => !e.b Od.SEG.plca_enable) hup (by rw [State.eng0_b, hshared]; rfl))

theorem exec_backoffEnd_again {at_ since : Nat} {frame : Bytes} (hback : s.eng.seg.backoff = some at_) (hdue : at_ ≤ s.core.tick)
    (hsend : s.eng.seg.sending = some (since, frame)) :
    exec .backoffEnd s = .next { s with eng := { s.eng with
      out := [], seg := { s.eng.seg with sending := some (s.core.tick, frame), backoff := none } } } := by
  rw [exec_backoffEnd, execBackoffEnd, lift_up hup]
  simp only [State.eng0_seg, hback]
  rw [show decide (at_ ≤ s.ctx.tick) = true from decide_eq_true hdue, whenDue_true, Eng.segAgain_sending (e := s.eng0) s.ctx hsend]
  rfl

/-- A transmit opportunity starts the publication that waits. -/
theorem exec_plcaTxOpportunity_starts {p : Bytes} {rest : List Bytes} (hplca : s.eng.b Od.SEG.plca_enable = true)
    (hnode : s.eng.n Od.SEG.plca_node_id < 16) (hlink : s.eng.seg.link = true) (hback : s.eng.seg.backoff = none)
    (hsend : s.eng.seg.sending = none) (hfirst : s.eng.seg.txFirst = p :: rest) :
    ∃ t, exec .plcaTxOpportunity s = .next t ∧ s.beside t ∧ t.eng.seg.txFirst = rest ∧ t.eng.seg.tx = s.eng.seg.tx ∧
      t.eng.seg.sending = some (s.core.tick, s.eng.segFrame s.ctx stationMac p) := by
  have hdue : (s.eng0.b Od.SEG.plca_enable && decide (s.eng0.n Od.SEG.plca_node_id < 16) && s.eng0.seg.link) = true := by
    rw [State.eng0_b, hplca, State.eng0_n, decide_eq_true hnode, State.eng0_seg, hlink]
    rfl
  refine ⟨_, (exec_plcaTxOpportunity s).trans (lift_whenDue
    (due := fun _ e => e.b Od.SEG.plca_enable && decide (e.n Od.SEG.plca_node_id < 16) && e.seg.link) hup hdue), ⟨rfl, rfl, rfl⟩, ?_⟩
  simp only [State.eng0_seg, hback, hlink, hsend, hfirst, Eng.segStart, Eng.segNext, Option.isSome_none, Option.isNone_none]
  exact ⟨rfl, rfl, rfl⟩

end

/-- Settles O58: each command of the segment, by what it does to the port, the inbox and the event counters. -/
theorem theSegmentSendsAndReceives : Obligations.TheSegmentSendsAndReceives := by
  intro s hup
  refine ⟨exec_segmentFrameRx_counts hup, fun i a hnext => ⟨fun hpdu => ?_, ?_⟩, fun hdue => ?_, fun since frame hshared hsend hback => ⟨?_, ?_⟩,
    ?_, fun p rest => exec_plcaTxOpportunity_starts hup, ?_, ?_⟩
  · exact ⟨_, exec_publishRx_takes hup hnext, ⟨rfl, rfl, rfl⟩, Eng.pubRx_malformed (e := { s.eng0 with inbox := s.eng.inbox.eraseIdx i }) hpdu⟩
  · exact fun p c roles key hpdu hwho hrole htag hlen hmember hahead => ⟨_, exec_publishRx_takes hup hnext, ⟨rfl, rfl, rfl⟩,
      Eng.pubRx_takes (e := { s.eng0 with inbox := s.eng.inbox.eraseIdx i }) hpdu hwho hrole htag hlen hmember hahead⟩
  · obtain ⟨hsecond, htx⟩ := Eng.publish_responses { s.eng0 with seg := { s.eng.seg with pubSecond := s.ctx.lin 0 / unitsPerSec } } s.ctx 2
      (s.eng0.pubBody (s.eng0.moon 0).cur)
    refine ⟨_, (exec_publishSend s).trans (lift_whenDue (due := fun x e => e.pubDue x) hup hdue), ⟨rfl, rfl, rfl⟩, hsecond, htx, ?_⟩
    intro c hrecovery hon hcred hroom
    exact Eng.publish_queues (e := { s.eng0 with seg := { s.eng.seg with pubSecond := s.ctx.lin 0 / unitsPerSec } }) 2
      (s.eng0.pubBody (s.eng0.moon 0).cur) hrecovery hon hcred hroom
  · exact fun hearly hfew => ⟨_, exec_collision_acts hup hshared, ⟨rfl, rfl, rfl⟩,
      Eng.segCollision_waits (e := s.eng0) (x := s.ctx) hsend hback hearly hfew⟩
  · exact fun hlate => ⟨_, exec_collision_acts hup hshared, ⟨rfl, rfl, rfl⟩,
      Eng.segCollision_late (e := s.eng0) (x := s.ctx) hsend hback hlate⟩
  · exact fun at_ since frame hback hdue hsend => ⟨_, exec_backoffEnd_again hup hback hdue hsend, ⟨rfl, rfl, rfl⟩, rfl⟩
  · have hline := Eng.LineKept.condOn (x := s.ctx) (.refl { s.eng0.segDrop with seg := { s.eng0.segDrop.seg with link := false } }) 16 2 0
    exact ⟨_, (exec_segmentLinkLoss s).trans (lift_up hup _), ⟨rfl, rfl, rfl⟩, hline.link, hline.sending,
      Eng.condOn_hasCond (hinst := by decide) ..⟩
  · have hline := Eng.LineKept.condOff (x := s.ctx) (.refl { s.eng0 with seg := { s.eng.seg with link := true, excessRun := 0 } }) 16 2 0
    exact ⟨_, (exec_segmentLinkUp s).trans (lift_up hup _), ⟨rfl, rfl, rfl⟩, hline.link, hline.sending, Eng.condOff_hasCond ..⟩

end Sys2Proof.Machine
end

section
/-! # Submissions to the public-key engine (R308 to R311) -/

namespace Sys2Proof.Machine

/-- A command's admitted write of a record outside areas 10 and 14 answers what its chapter does. -/
theorem lift_recCmd_answersAs {s : State} {area item roles st : Nat} {w : RecWrite} {op : Ctx → List (Key × Int) → Eng → WriteRes}
    {e : Eng} (harea : ∀ m < 16, (odKey area item m).area ≠ 0x10 ∧ (odKey area item m).area ≠ 0x14) (hup : s.eng.up = true)
    (had : s.eng.admitsRec area item w roles = true) (ho : op s.ctx (recValues area item w) s.eng0 = (st, e)) :
    ∃ t, lift (fun x e => e.recCmd x area item w roles (op x)) s = .next t ∧ s.Answers st e t := by
  cases w with
  | member m v =>
    obtain ⟨hm, ha⟩ := Bool.and_eq_true_iff.1 had
    obtain ⟨h10, h14⟩ := harea m (of_decide_eq_true hm)
    exact lift_writeCmd_answersAs (op := fun x => op x [(odKey area item m, v)]) h10 h14 hup ha ho
  | whole vs =>
    obtain ⟨hlen, ha⟩ := Bool.and_eq_true_iff.1 had
    obtain ⟨p, hp⟩ := Eng.writeRecCmd_admitted (e := s.eng0) (k := odKey area item 0) s.ctx ha ho
    obtain ⟨h10, h14⟩ := harea 0 (by decide)
    have hrec : s.eng0.recCmd s.ctx area item (.whole vs) roles (op s.ctx) = e.account s.ctx p st :=
      (if_neg (not_not.2 (beq_iff_eq.1 hlen))).trans (hp.trans (by rw [e.refusedHook_elsewhere h10 h14]))
    refine ⟨_, lift_up hup _, ?_⟩
    rw [hrec]
    exact s.answers_account st e p

theorem pkCmdValues_length (op : Nat) (cmd : PkCmd) : (pkCmdValues op cmd).length = 13 := rfl

theorem pkHostKeys_length : (recKeys 0x50 0x020).length = 13 := by decide

/-- The host's record holds the command it names (Table 15-1). -/
theorem pkHostSubmit_eq (x : Ctx) (e : Eng) (op : Nat) {cmd : PkCmd} (hsrc : cmd.src.length = 7) :
    pkHostSubmit x (recValues 0x50 0x020 (.whole (pkCmdValues op cmd))) e = pkSubmit x 3 op cmd e := by
  obtain ⟨tag, dst0, dst1, src, key, len⟩ := cmd
  match src, hsrc with
  | [a, b, c, d, f, g, h], _ => rfl

/-- The engine with a command at the end of its queue. -/
def Eng.pkJoined (e : Eng) (x : Ctx) (q op : Nat) (cmd : PkCmd) : Eng :=
  { e with pk := { e.pk with queues := modNth e.pk.queues q (fun l => l ++ [⟨op, q, e.pk.seq, x.tick, cmd⟩]), seq := e.pk.seq + 1 } }

theorem pkSubmit_joins {x : Ctx} {q op : Nat} {cmd : PkCmd} {e : Eng} (hcheck : e.pkCheck q op cmd = stOk)
    (hroom : e.pk.full q = false) : pkSubmit x q op cmd e = (stOk, e.pkJoined x q op cmd) := by
  unfold pkSubmit
  extract_lets st j
  rw [if_neg (not_not.2 hcheck), if_neg (by rw [hroom]; exact Bool.false_ne_true)]
  rfl

theorem pkSubmit_malformed {x : Ctx} {q op : Nat} {cmd : PkCmd} {e : Eng} (hcheck : e.pkCheck q op cmd ≠ stOk) :
    pkSubmit x q op cmd e = (e.pkCheck q op cmd, e) :=
  if_pos hcheck

theorem pkSubmit_full {x : Ctx} {q op : Nat} {cmd : PkCmd} {e : Eng} (hcheck : e.pkCheck q op cmd = stOk)
    (hfull : e.pk.full q = true) : pkSubmit x q op cmd e = (stFull, e) := by
  unfold pkSubmit
  extract_lets st j
  rw [if_neg (not_not.2 hcheck), if_pos hfull]

/-- A submission through the dictionary or by another queue's owner is answered what R310 and R311 say. -/
theorem pkCommand_answers {s : State} {op : Nat} {queue : Fin 4} {cmd : PkCmd} {roles st : Nat} {e : Eng} (hup : s.eng.up = true)
    (hsrc : cmd.src.length = 7)
    (had : queue = 3 → s.eng.admitsAll (recValues 0x50 0x020 (.whole (pkCmdValues op cmd))) roles = true)
    (hsubmit : pkSubmit s.ctx queue op cmd s.eng0 = (st, e)) :
    ∃ t, pkCommand op queue cmd roles s = .next t ∧ s.Answers st e t := by
  unfold pkCommand
  by_cases hhost : queue = 3
  · have hrec : s.eng.admitsRec 0x50 0x020 (.whole (pkCmdValues op cmd)) roles = true := by
      rw [Eng.admitsRec, pkCmdValues_length, pkHostKeys_length, had hhost]
      rfl
    have hrecord : pkHostSubmit s.ctx (recValues 0x50 0x020 (.whole (pkCmdValues op cmd))) s.eng0 = (st, e) := by
      rw [pkHostSubmit_eq s.ctx s.eng0 op hsrc, ← hsubmit, hhost, show ((3 : Fin 4) : Nat) = 3 from rfl]
    simp only [hhost, if_true]
    exact lift_recCmd_answersAs (op := fun x vs => pkHostSubmit x vs) (by decide) hup hrec hrecord
  · simp only [hhost, if_false]
    refine ⟨_, lift_up hup _, ?_⟩
    rw [hsubmit]
    exact ⟨rfl, fun _ _ => rfl, rfl, rfl, rfl, rfl⟩

/-- Each of the twenty instructions submits its operation. -/
theorem exec_pkOf {c : Instr} {op : Nat} {queue : Fin 4} {cmd : PkCmd} {roles : Nat} (h : pkOf c = some (op, queue, cmd, roles))
    (s : State) : exec c s = pkCommand op queue cmd roles s := by
  cases c <;> cases h <;> rfl

/-- Settles O50: a submission is `pkSubmit` on either way in, and the accounting is all that is added to it. -/
theorem pkSubmissionsJoinTheirQueue : Obligations.PkSubmissionsJoinTheirQueue := by
  intro c s op queue cmd roles hc hup hsrc had
  rw [exec_pkOf hc s]
  refine ⟨fun hcheck hroom => ?_, fun hcheck => ?_, fun hcheck hfull => ?_⟩
  · obtain ⟨t, ht, hans⟩ := pkCommand_answers hup hsrc had (pkSubmit_joins (x := s.ctx) (e := s.eng0) hcheck hroom)
    refine ⟨t, ht, hans.accepted, ?_, (congrArg Eng.pk hans.rest :), hans.obj⟩
    exact (congrArg (fun e : Eng => { e with pk := s.eng.pk }) hans.rest :)
  · obtain ⟨t, ht, hans⟩ := pkCommand_answers hup hsrc had (pkSubmit_malformed (x := s.ctx) (e := s.eng0) hcheck)
    exact ⟨t, ht, hans.status, (congrArg Eng.pk hans.rest :), hans.beside⟩
  · obtain ⟨t, ht, hans⟩ := pkCommand_answers hup hsrc had (pkSubmit_full (x := s.ctx) (e := s.eng0) hcheck hfull)
    exact ⟨t, ht, hans.status, (congrArg Eng.pk hans.rest :), hans.beside⟩

end Sys2Proof.Machine
end

section
/-! # The operand memory and the slots of the public-key engine (R307, R318, R323) -/

namespace Sys2Proof.Machine

/-! ## Words and integers of the operand memory (R307) -/

theorem Pk.word_setWord (p : Pk) (a b v : Nat) : (p.setWord a v).word b = if b = a then v % 2 ^ 64 else p.word b := by
  unfold Pk.setWord Pk.word tgetD
  dsimp only
  by_cases hb : b = a
  · subst hb
    rw [if_pos rfl]
    split
    next hzero => rw [tget_tdel_same, hzero]; rfl
    next => rw [tget_tput_same]; rfl
  · rw [if_neg hb]
    split
    next => rw [tget_tdel_other _ _ _ hb]
    next => rw [tget_tput_other _ _ _ _ hb]

theorem Pk.word_write_below (p : Pk) {a b : Nat} (n v : Nat) (hb : b < a) : (p.write a n v).word b = p.word b := by
  induction n generalizing p a v with
  | zero => rfl
  | succ n ih =>
    rw [Pk.write, ih _ _ (by omega), Pk.word_setWord, if_neg (by omega)]

/-- An integer written into `n` words reads back modulo their size. -/
theorem Pk.read_write (p : Pk) (a n v : Nat) : (p.write a n v).read a n = v % 2 ^ (64 * n) := by
  induction n generalizing p a v with
  | zero => simp [Pk.read, Nat.mod_one]
  | succ n ih =>
    rw [Pk.read, Pk.write, ih, Pk.word_write_below _ _ _ (Nat.lt_succ_self a), Pk.word_setWord, if_pos rfl, ← Nat.mod_mul,
      Nat.mul_succ, Nat.add_comm (64 * n), Nat.pow_add]

theorem Pk.read_of_mem {p p' : Pk} (h : p'.mem = p.mem) (a n : Nat) : p'.read a n = p.read a n := by
  induction n generalizing a with
  | zero => rfl
  | succ n ih => rw [Pk.read, Pk.read, ih, Pk.word, Pk.word, h]

/-- The two objects that place a slot are as they were. -/
def Eng.SlotPlaced (d : Nat) (e e' : Eng) : Prop :=
  e'.i (Od.PK_SLOT.base d) = e.i (Od.PK_SLOT.base d) ∧ e'.i (Od.PK_SLOT.length d) = e.i (Od.PK_SLOT.length d)

theorem Eng.SlotPlaced.pkLen {d : Nat} {e e' : Eng} (h : Eng.SlotPlaced d e e') : e'.pkLen d = e.pkLen d := by
  unfold Eng.pkLen Eng.n
  rw [h.2]

theorem Eng.SlotPlaced.pkBase {d : Nat} {e e' : Eng} (h : Eng.SlotPlaced d e e') : e'.pkBase d = e.pkBase d := by
  unfold Eng.pkBase Eng.n
  rw [h.1]

/-- A slot that stays where it is reads back what was put into it. -/
theorem Eng.pkVal_put {d v : Nat} {e e' : Eng} (hplaced : Eng.SlotPlaced d e e') (hmem : e'.pk.mem = (e.pkPut d v).pk.mem) :
    e'.pkVal d = v % 2 ^ (64 * e.pkLen d) := by
  rw [Eng.pkVal, hplaced.pkBase, hplaced.pkLen, Pk.read_of_mem hmem]
  exact Pk.read_write ..

/-! ## Keys and completions (R318, R323) -/

section
variable {s : State} {roles : Nat} (hup : s.eng.up = true)

include hup

theorem exec_pkPop_pops (had : s.eng.admits Od.PK_HOST_CTRL.pop 1 roles = true) :
    ∃ t, exec (.pkPop 1 roles) s = .next t ∧ s.accepted t ∧ t.eng.pk = { s.eng.pk with done := s.eng.pk.done.drop 1 } := by
  obtain ⟨t, ht, hans⟩ := lift_writeCmd_answersOk (op := fun _ => pkPopWrite 1) hup had rfl
  exact ⟨t, ht, hans.accepted, (congrArg Eng.pk hans.rest :)⟩

theorem exec_erase_answers {handle : Fin 16} {st : Nat} {e : Eng} (had : s.eng.admits (Od.PK_KEY.command handle) 1 roles = true)
    (herase : pkErase s.ctx handle s.eng0 = (st, e)) : ∃ t, exec (.erase handle roles) s = .next t ∧ s.Answers st e t := by
  have harea : (Od.PK_KEY.command handle).area = 0x50 := odKey_area (by omega)
  exact lift_writeCmd_answersAs (op := fun x => pkErase x handle) (by rw [harea]; decide) (by rw [harea]; decide) hup had herase

theorem exec_erase_erases {handle : Fin 16} (had : s.eng.admits (Od.PK_KEY.command handle) 1 roles = true) (hown : 8 ≤ handle.val)
    (hfree : s.eng.pk.jobs.any (fun j => j.cmd.key == handle.val) = false) :
    ∃ t, exec (.erase handle roles) s = .next t ∧ s.stored t [(Od.PK_KEY.type handle, 0), (Od.PK_KEY.public_ handle, 0)] ∧
      t.eng.pk = { s.eng.pk with priv := tdel s.eng.pk.priv handle } ∧ t.eng.keyWait.since.isSome = true := by
  have hfree0 : s.eng0.pk.jobs.any (fun j => j.cmd.key == handle.val) = false := hfree
  have herase : pkErase s.ctx handle s.eng0 = (stOk, ({ s.eng0.setAll [(Od.PK_KEY.type handle, 0), (Od.PK_KEY.public_ handle, 0)] with
      pk := { s.eng.pk with priv := tdel s.eng.pk.priv handle } }).keyTouched s.ctx) := by
    rw [pkErase, if_neg (Nat.not_lt.2 hown), hfree0, if_neg Bool.false_ne_true]
    rfl
  obtain ⟨t, ht, hans⟩ := exec_erase_answers hup had herase
  have hkey {m : Nat} (hm : m < 16) : accounting (odKey 0x50 (0x030 + handle) m) = false := accounting_area (by decide) (by omega)
  have hnodup : ([(Od.PK_KEY.type handle, 0), (Od.PK_KEY.public_ handle, 0)].map (Prod.fst (β := Int))).Nodup := by
    have hne : Od.PK_KEY.type handle ≠ Od.PK_KEY.public_ handle := odKey_ne (by omega)
    simpa using hne
  refine ⟨t, ht, ⟨hans.status, fun p hp => ?_, fun k hk hacc => (hans.obj k hacc).trans (s.eng0.setAll_i_other _ _ hk), hans.beside⟩,
    (congrArg Eng.pk hans.rest :), congrArg (fun e : Eng => e.keyWait.since.isSome) hans.rest⟩
  have hacc : accounting p.1 = false := by
    simp only [List.mem_cons, List.not_mem_nil, or_false] at hp
    obtain rfl | rfl := hp
    · exact hkey (by decide)
    · exact hkey (by decide)
  exact (hans.obj _ hacc).trans (s.eng0.setAll_i_mem _ hnodup p hp)

theorem exec_erase_used {handle : Fin 16} (had : s.eng.admits (Od.PK_KEY.command handle) 1 roles = true) (hown : 8 ≤ handle.val)
    (hused : s.eng.pk.jobs.any (fun j => j.cmd.key == handle.val) = true) :
    ∃ t, exec (.erase handle roles) s = .next t ∧ t.eng.resp.status = stInUse ∧ s.eng.onlyObjects t.eng ∧ s.beside t := by
  have hused0 : s.eng0.pk.jobs.any (fun j => j.cmd.key == handle.val) = true := hused
  obtain ⟨t, ht, hans⟩ := exec_erase_answers (st := stInUse) (e := s.eng0) hup had
    (by rw [pkErase, if_neg (Nat.not_lt.2 hown), if_pos hused0])
  exact ⟨t, ht, hans.status, Eng.onlyObjects_trans s.onlyObjects_eng0 hans.rest, hans.beside⟩

theorem exec_erase_denied {handle : Fin 16} (had : s.eng.admits (Od.PK_KEY.command handle) 1 roles = true) (hown : handle.val < 8) :
    ∃ t, exec (.erase handle roles) s = .next t ∧ t.eng.resp.status = stDenied ∧ s.eng.onlyObjects t.eng ∧ s.beside t := by
  obtain ⟨t, ht, hans⟩ := exec_erase_answers (st := stDenied) (e := s.eng0) hup had (if_pos hown)
  exact ⟨t, ht, hans.status, Eng.onlyObjects_trans s.onlyObjects_eng0 hans.rest, hans.beside⟩

end

/-! ## Slots (R307, R308) -/

/-- The writable members of a record are different objects where its rows are the only ones of the area about its items. -/
theorem recKeys_named {area base top item : Nat}
    (hrows : ∀ r ∈ rowsOf area, r.member < 16 ∧ 0 < r.stride ∧ (r.base = base ∨ r.base + r.count * r.stride ≤ base ∨ top ≤ r.base))
    (hmembers : (((rowsOf area).filter (fun r => r.base == base)).map ObjRow.member).Nodup) (hfrom : base ≤ item) (hto : item < top) :
    (recKeys area item).Nodup ∧ ∀ k ∈ recKeys area item, ∃ m < 16, k = odKey area item m := by
  have hrow {r : ObjRow} (hr : r ∈ rowsAt area item) : r ∈ rowsOf area ∧ r.base = base := by
    obtain ⟨hmem, hinst⟩ := List.mem_filter.1 hr
    obtain ⟨-, hstride, hbase⟩ := hrows r hmem
    have hbounds := ObjRow.instOf_bounds hstride hinst
    exact ⟨hmem, by omega⟩
  constructor
  · have hsub : ((rowsAt area item).filter (fun r => r.access != .ro)).Sublist ((rowsOf area).filter (fun r => r.base == base)) := by
      have hfiltered : (rowsAt area item).filter (fun r => r.base == base) = rowsAt area item :=
        List.filter_eq_self.2 fun r hr => beq_iff_eq.2 (hrow hr).2
      rw [← hfiltered]
      exact List.filter_sublist.trans (List.filter_sublist.filter _)
    have hnodup := odKey_nodup area item (hmembers.sublist (hsub.map ObjRow.member))
    rwa [List.map_map] at hnodup
  · intro k hk
    obtain ⟨r, hr, rfl⟩ := List.mem_map.1 hk
    exact ⟨r.member, (hrows r (hrow (List.mem_filter.1 hr).1).1).1, rfl⟩

/-- The writable members of a slot are different objects of area 50. -/
theorem pkSlotKeys (slot : Fin 1024) :
    (recKeys 0x50 (0x400 + slot)).Nodup ∧ ∀ k ∈ recKeys 0x50 (0x400 + slot), ∃ m < 16, k = odKey 0x50 (0x400 + slot) m :=
  recKeys_named (base := 0x400) (top := 0x800) (by decide) (by decide) (by omega) (by omega)

/-- The owner of a slot is the host where its region is the host's, and the firmware elsewhere (R307). -/
theorem pkSlot_owned {owner : Bool} {region : Nat} : (owner == (region == 1)) = true ↔ ¬(owner ↔ region ≠ 1) := by
  by_cases h : region = 1 <;> cases owner <;> simp [h]

section
variable {owner : Bool} {slot : Nat} {e : Eng}

/-- A definition that its region holds and that no other slot overlaps is stored. -/
theorem pkSlotWrite_stores {vs : List (Key × Int)} (hown : owner = true ↔ (pkRegion slot).2.2 ≠ 1) (hfree : e.pkInUse slot = false)
    (hroom : (e.setAll vs).n (Od.PK_SLOT.base slot) + (e.setAll vs).pkLen slot ≤ (pkRegion slot).2.1)
    (hlen : (e.setAll vs).pkLen slot ≤ 128)
    (hapart : ∀ o ∈ e.pkRegionSlots (pkRegion slot).2.2, o ≠ slot → (e.setAll vs).pkLen slot ≠ 0 →
      e.n (Od.PK_SLOT.base o) + e.pkLen o ≤ (e.setAll vs).n (Od.PK_SLOT.base slot) ∨
      (e.setAll vs).n (Od.PK_SLOT.base slot) + (e.setAll vs).pkLen slot ≤ e.n (Od.PK_SLOT.base o)) :
    pkSlotWrite owner slot vs e = (stOk, e.setAll vs) := by
  unfold pkSlotWrite
  extract_lets f b l rg clash
  have hclash : clash = false := by
    refine List.any_eq_false.2 fun o ho hoverlap => ?_
    simp only [Bool.and_eq_true, bne_iff_ne, decide_eq_true_eq] at hoverlap
    obtain ⟨⟨⟨hother, hlen0⟩, hbelow⟩, habove⟩ := hoverlap
    obtain hleft | hright := hapart o ho hother hlen0
    · exact absurd hbelow (Nat.not_lt.2 hleft)
    · exact absurd habove (Nat.not_lt.2 hright)
  rw [if_neg (fun h => pkSlot_owned.1 h hown), hfree, hclash, if_neg Bool.false_ne_true, if_neg Bool.false_ne_true, if_neg]
  exact not_or.2 ⟨Nat.not_lt.2 hroom, Nat.not_lt.2 hlen⟩

theorem pkDataWrite_puts (v : Int) (hown : owner = true ↔ (pkRegion slot).2.2 ≠ 1) (hfree : e.pkInUse slot = false) :
    pkDataWrite owner slot v e = (stOk, (e.pkPut slot v.toNat).set (Od.PK_SLOT.dirty slot) 0) := by
  rw [pkDataWrite, if_neg (fun h => pkSlot_owned.1 h hown), hfree, if_neg Bool.false_ne_true]

theorem pkDataWrite_denied (v : Int) (hother : ¬(owner = true ↔ (pkRegion slot).2.2 ≠ 1)) :
    pkDataWrite owner slot v e = (stDenied, e) :=
  if_pos (pkSlot_owned.2 hother)

end

section
variable {s : State} {roles : Nat} {owner : Bool} {slot : Fin 1024} (hup : s.eng.up = true)

include hup

/-- A definition comes through the dictionary, or from the region's own owner beside it. -/
theorem exec_pkSlotDefine_leaves {w : RecWrite} {e : Eng} (had : s.eng.admitsRec 0x50 (0x400 + slot) w roles = true)
    (hwrite : pkSlotWrite owner slot (recValues 0x50 (0x400 + slot) w) s.eng0 = (stOk, e)) :
    ∃ t, exec (.pkSlotDefine owner slot w roles) s = .next t ∧ s.beside t ∧ (∀ k, accounting k = false → t.eng.i k = e.i k) ∧
      e.onlyObjects t.eng := by
  rw [exec_pkSlotDefine, execPkSlotDefine]
  cases owner with
  | true =>
    refine ⟨_, lift_up hup _, ⟨rfl, rfl, rfl⟩, ?_⟩
    rw [if_pos rfl, hwrite]
    exact ⟨fun _ _ => rfl, rfl⟩
  | false =>
    simp only [Bool.false_eq_true, if_false]
    obtain ⟨t, ht, hans⟩ := lift_recCmd_answersOk (op := fun _ => pkSlotWrite false slot) hup had hwrite
    exact ⟨t, ht, hans.beside, hans.obj, hans.rest⟩

theorem exec_pkDataWrite_leaves {value st : Nat} {e : Eng} (had : owner = false → s.eng.admits (Od.PK_DATA slot) value roles = true)
    (hwrite : pkDataWrite owner slot value s.eng0 = (st, e)) :
    ∃ t, exec (.pkDataWrite owner slot value roles) s = .next t ∧ s.beside t ∧ (∀ k, accounting k = false → t.eng.i k = e.i k) ∧
      e.onlyObjects t.eng := by
  rw [exec_pkDataWrite, execPkDataWrite]
  cases owner with
  | true =>
    refine ⟨_, lift_up hup _, ⟨rfl, rfl, rfl⟩, ?_⟩
    rw [if_pos rfl, hwrite]
    exact ⟨fun _ _ => rfl, rfl⟩
  | false =>
    simp only [Bool.false_eq_true, if_false]
    have harea : (Od.PK_DATA slot).area = 0x50 := odKey_area (by omega)
    obtain ⟨t, ht, hans⟩ := lift_writeCmd_answersAs (op := fun _ => pkDataWrite false slot value) (by rw [harea]; decide)
      (by rw [harea]; decide) hup (had rfl) hwrite
    exact ⟨t, ht, hans.beside, hans.obj, hans.rest⟩

theorem exec_pkSlotDefine_stores {w : RecWrite} (had : s.eng.admitsRec 0x50 (0x400 + slot) w roles = true)
    (hwrite : pkSlotWrite owner slot (recValues 0x50 (0x400 + slot) w) s.eng0 =
      (stOk, s.eng0.setAll (recValues 0x50 (0x400 + slot) w))) :
    ∃ t, exec (.pkSlotDefine owner slot w roles) s = .next t ∧ s.beside t ∧
      (∀ p ∈ recValues 0x50 (0x400 + slot) w, t.eng.i p.1 = p.2) ∧
      (∀ k, (∀ p ∈ recValues 0x50 (0x400 + slot) w, k ≠ p.1) → accounting k = false → t.eng.i k = s.eng.i k) ∧
      s.eng.onlyObjects t.eng := by
  obtain ⟨hnodup, hnames⟩ := recValues_named (pkSlotKeys slot) had
  obtain ⟨t, ht, hbeside, hobj, hrest⟩ := exec_pkSlotDefine_leaves hup had hwrite
  refine ⟨t, ht, hbeside, fun p hp => ?_, fun k hk hacc => (hobj k hacc).trans (s.eng0.setAll_i_other _ _ hk),
    Eng.onlyObjects_trans (Eng.setAll_onlyObjects s.onlyObjects_eng0 _) hrest⟩
  obtain ⟨m, hm, hpm⟩ := hnames p hp
  have hacc : accounting p.1 = false := by
    rw [hpm]
    exact accounting_area (by decide) (by omega)
  exact (hobj _ hacc).trans (s.eng0.setAll_i_mem _ hnodup p hp)

theorem exec_pkDataWrite_stores {value : Nat} (had : owner = false → s.eng.admits (Od.PK_DATA slot) value roles = true)
    (hown : owner = true ↔ (pkRegion slot).2.2 ≠ 1) (hfree : s.eng.pkInUse slot = false) :
    ∃ t, exec (.pkDataWrite owner slot value roles) s = .next t ∧ s.beside t ∧
      t.eng.pkVal slot = value % 2 ^ (64 * s.eng.pkLen slot) ∧ t.eng.i (Od.PK_SLOT.dirty slot) = 0 := by
  obtain ⟨t, ht, hbeside, hobj, hrest⟩ := exec_pkDataWrite_leaves hup had (pkDataWrite_puts (e := s.eng0) value hown hfree)
  have hslot {m : Nat} (hm : m < 16) : accounting (odKey 0x50 (0x400 + slot) m) = false := accounting_area (by decide) (by omega)
  have hother {m : Nat} (hm : m < 3) : t.eng.i (odKey 0x50 (0x400 + slot) m) = s.eng.i (odKey 0x50 (0x400 + slot) m) :=
    (hobj _ (hslot (by omega))).trans (Eng.set_i_other _ _ _ _ (odKey_ne (by omega)))
  refine ⟨t, ht, hbeside, Eng.pkVal_put (e := s.eng) ⟨hother (by decide), hother (by decide)⟩ ?_, ?_⟩
  · exact (congrArg (fun e : Eng => e.pk.mem) hrest :)
  · exact (hobj _ (hslot (by decide))).trans (Eng.set_i_same ..)

theorem exec_pkDataWrite_denied {value : Nat} (had : owner = false → s.eng.admits (Od.PK_DATA slot) value roles = true)
    (hother : ¬(owner = true ↔ (pkRegion slot).2.2 ≠ 1)) :
    ∃ t, exec (.pkDataWrite owner slot value roles) s = .next t ∧ s.beside t ∧ t.eng.pk = s.eng.pk := by
  obtain ⟨t, ht, hbeside, -, hrest⟩ := exec_pkDataWrite_leaves hup had (pkDataWrite_denied (e := s.eng0) value hother)
  exact ⟨t, ht, hbeside, (congrArg Eng.pk hrest :)⟩

end

/-- Settles O52: what is written is what `pkPopWrite`, `pkErase`, `pkSlotWrite` and `pkDataWrite` leave. -/
theorem pkSlotsAndKeysAreKept : Obligations.PkSlotsAndKeysAreKept := by
  intro s roles hup
  refine ⟨exec_pkPop_pops hup, fun handle had => ⟨exec_erase_erases hup had, exec_erase_used hup had, exec_erase_denied hup had⟩,
    fun owner slot w vs hvs had hown hfree => ?_, fun owner slot value had =>
      ⟨exec_pkDataWrite_stores hup had, exec_pkDataWrite_denied hup had⟩⟩
  subst hvs
  refine fun hroom hlen hapart => exec_pkSlotDefine_stores hup had (pkSlotWrite_stores (e := s.eng0) hown hfree ?_ ?_ ?_)
  all_goals rw [s.eng0_setAll]
  exacts [hroom, hlen, hapart]

end Sys2Proof.Machine
end

section
/-! # The commands of the public-key engine (R312, R316, R317, R319, R322) -/

namespace Sys2Proof.Machine

/-! ## The end of a command (R317, R321) -/

/-- The counter of a queue that a command of this status counts in. -/
def pkTally (status q : Nat) : Key :=
  if status = 9 then Od.PK_Q.aborted q else if (1 ≤ status ∧ status ≤ 5) ∨ status = 8 then Od.PK_Q.refused q else Od.PK_Q.completed q

/-- The public-key engine without the completions that wait for the host. -/
def Pk.beforeDone (p : Pk) : Pk := { p with done := [] }

section
variable (e : Eng) (x : Ctx) (j : PkJob) (status cycles doneTick : Nat)

/-- But for the engine's sticky bits, the queue's counter is the one object that an end writes beside the event. -/
theorem Eng.pkEnded_i {k : Key} (hsticky : k ≠ Od.PK_STATUS.sticky) :
    (e.pkEnded x j status cycles doneTick).i k = ((e.count x 0xB1D).inc64 (pkTally status j.queue)).i k := by
  unfold Eng.pkEnded
  extract_lets e1 e2 e3
  have h2 : e2 = e1.inc64 (pkTally status j.queue) := by
    unfold e2 pkTally
    split
    · rfl
    · split <;> rfl
  have h3 : e3.i k = e2.i k := by
    unfold e3
    split
    · exact Eng.set_i_other _ _ _ _ hsticky
    · exact Eng.set_i_other _ _ _ _ hsticky
    · exact Eng.set_i_other _ _ _ _ hsticky
    · rfl
  rw [← h2, ← h3]
  split
  · exact Eng.irqPoke_i ..
  · rfl

/-- An end leaves all of the engine's own but the host's completions. -/
theorem Eng.pkEnded_pk : (e.pkEnded x j status cycles doneTick).pk.beforeDone = e.pk.beforeDone := by
  unfold Eng.pkEnded
  extract_lets e1 e2 e3
  have h1 : e1.pk = e.pk := Eng.count_pk ..
  have h2 : e2.pk = e1.pk := by
    unfold e2
    split
    · rfl
    · split <;> rfl
  have h3 : e3.pk = e.pk := by
    rw [← h1, ← h2]
    unfold e3
    split <;> rfl
  rw [← h3]
  split
  · exact (congrArg Pk.beforeDone (Eng.irqPoke_keeps (φ := .pk) ..)).trans rfl
  · rfl

end

theorem pkTally_area (status q : Nat) : ∃ m, 3 ≤ m ∧ m < 6 ∧ pkTally status q = odKey 0x50 (0x010 + q) m := by
  unfold pkTally
  split
  · exact ⟨5, by decide, by decide, rfl⟩
  · split
    · exact ⟨4, by decide, by decide, rfl⟩
    · exact ⟨3, by decide, by decide, rfl⟩

/-- Objects that no end of a command writes, whichever its queue and its status. -/
def pkUntold (k : Key) : Prop :=
  k ≠ Od.PK_STATUS.sticky ∧ k ≠ Od.CNT_STATUS.sticky ∧ ∀ q < 4, ∀ m, 3 ≤ m → m < 6 → k ≠ odKey 0x50 (0x010 + q) m

theorem Eng.pkEnded_untold (e : Eng) (x : Ctx) {j : PkJob} (status cycles doneTick : Nat) {k : Key} (hk : pkUntold k)
    (hq : j.queue < 4) : (e.pkEnded x j status cycles doneTick).i k = e.i k := by
  obtain ⟨hsticky, hcnt, htally⟩ := hk
  obtain ⟨m, hm3, hm6, hm⟩ := pkTally_area status _
  rw [Eng.pkEnded_i _ _ _ _ _ _ hsticky, Eng.inc64_i, if_neg (hm ▸ htally _ hq m hm3 hm6), Eng.count_i _ _ _ _ hcnt]

/-- An end counts in its queue's counter. -/
theorem Eng.pkEnded_tally (e : Eng) (x : Ctx) {j : PkJob} (status cycles doneTick : Nat) (hq : j.queue < 4) :
    (e.pkEnded x j status cycles doneTick).n (pkTally status j.queue) = (e.n (pkTally status j.queue) + 1) % 2 ^ 64 := by
  obtain ⟨m, -, hm6, hm⟩ := pkTally_area status _
  have hcount : (e.count x 0xB1D).n (pkTally status j.queue) = e.n (pkTally status j.queue) :=
    congrArg Int.toNat (Eng.count_i _ _ _ _ (hm ▸ odKey_ne (by omega)))
  rw [Eng.n, Eng.pkEnded_i _ _ _ _ _ _ (hm ▸ odKey_ne (by omega)), ← hcount]
  exact congrArg Int.toNat ((Eng.inc64_i ..).trans (if_pos rfl))

theorem Eng.modPkUnit_run (e : Eng) (u : Nat) (f : PkUnit → PkUnit) (hu : ∃ r, e.pkRun u = some r) :
    (e.modPkUnit u f).pkRun u = (f (nth e.pk.units u ⟨none, none, false⟩)).run := by
  obtain ⟨r, hr⟩ := hu
  have hlt : u < e.pk.units.length := by
    by_contra hout
    rw [Eng.pkRun, nth, List.getD_eq_default _ _ (Nat.le_of_not_lt hout)] at hr
    cases hr
  exact congrArg PkUnit.run ((nth_modNth ..).trans (if_pos ⟨rfl, hlt⟩))

theorem Eng.modPkUnit_runs (e : Eng) (u : Nat) {f : PkUnit → PkUnit} (hf : ∀ p, (f p).run = p.run) (v : Nat) :
    (e.modPkUnit u f).pkRun v = e.pkRun v := by
  refine (congrArg PkUnit.run (nth_modNth e.pk.units u v f ⟨none, none, false⟩)).trans ?_
  split
  · exact hf _
  · rfl

theorem Eng.pkRun_of_units {e e' : Eng} (h : e'.pk.units = e.pk.units) (u : Nat) : e'.pkRun u = e.pkRun u :=
  congrArg (fun l => (nth l u ⟨none, none, false⟩).run) h

section
variable (e : Eng) (x : Ctx) (u : Nat) (r : PkRun) (status cycles : Nat)

theorem Eng.pkFinish_mem : (e.pkFinish x u r status cycles).pk.mem = e.pk.mem := by
  exact (congrArg Pk.mem (Eng.pkEnded_pk (e.modPkUnit u (fun p => { p with run := none })) ..) :)

/-- A command that ends leaves its unit free. -/
theorem Eng.pkFinish_free : (e.pkFinish x u r status cycles).pkRun u = none := by
  have hunits : (e.pkFinish x u r status cycles).pk.units = (e.modPkUnit u (fun p => { p with run := none })).pk.units :=
    (congrArg Pk.units (Eng.pkEnded_pk (e.modPkUnit u (fun p => { p with run := none })) ..) :)
  refine (Eng.pkRun_of_units hunits u).trans (congrArg PkUnit.run (nth_modNth ..) |>.trans ?_)
  split
  next => rfl
  next h =>
    rw [nth, List.getD_eq_default]
    exact Nat.le_of_not_lt fun hlt => h ⟨rfl, hlt⟩

variable {r}

theorem Eng.pkFinish_untold {k : Key} (hk : pkUntold k) (hq : r.job.queue < 4) : (e.pkFinish x u r status cycles).i k = e.i k :=
  Eng.pkEnded_untold _ _ _ _ _ hk hq

theorem Eng.pkFinish_tally (hq : r.job.queue < 4) :
    (e.pkFinish x u r status cycles).n (pkTally status r.job.queue) = (e.n (pkTally status r.job.queue) + 1) % 2 ^ 64 :=
  Eng.pkEnded_tally _ _ _ _ _ hq

end

/-! ## Dispatch and validation (R312, R316) -/

section
variable {e : Eng} {x : Ctx} {u : Nat}

/-- The head of the queue moves into the unit. -/
theorem Eng.pkDispatch_takes {q : Nat} {j : PkJob} {rest : List PkJob}
    (hu : e.pk.units.findIdx? (fun u => u.run.isNone && !u.out) = some u) (hq : e.pkTurn = some q) (hj : e.pk.queue q = j :: rest) :
    (e.pkDispatch x).od = e.od ∧ (e.pkDispatch x).pk.queue q = rest ∧
      ∃ executing, (e.pkDispatch x).pkRun u = some ⟨j, x.tick, executing⟩ := by
  have hlt : u < e.pk.units.length := (List.findIdx?_eq_some_iff_getElem.1 hu).1
  have hqlt : q < e.pk.queues.length := by
    by_contra hout
    rw [Pk.queue, nth, List.getD_eq_default _ _ (Nat.le_of_not_lt hout)] at hj
    cases hj
  unfold Eng.pkDispatch
  simp only [hu, hq, hj]
  refine ⟨rfl, (nth_setNth ..).trans (if_pos ⟨rfl, hqlt⟩), ?_⟩
  exact ⟨_, congrArg PkUnit.run ((nth_modNth ..).trans (if_pos ⟨rfl, hlt⟩))⟩

variable {r : PkRun} (hr : e.pkRun u = some r) (hwaits : r.executing = false)
  (hdue : r.at_ + pkTicks (pkV r.job.op (e.pkW r.job.op r.job.cmd)) ≤ x.tick)

include hr hwaits hdue

theorem Eng.pkValidated_executes (hvalid : e.pkValidate r.job.op r.job.cmd = 0) (hdraws : pkDraws r.job.op = false) :
    e.pkValidated x u = e.modPkUnit u (fun p => { p with run := some { r with executing := true } }) := by
  simp [Eng.pkValidated, hr, hwaits, Nat.not_lt.2 hdue, hvalid, hdraws]

theorem Eng.pkValidated_refuses (hinvalid : 1 ≤ e.pkValidate r.job.op r.job.cmd) :
    e.pkValidated x u =
      e.pkFinish x u r (e.pkValidate r.job.op r.job.cmd) (pkV r.job.op (e.pkW r.job.op r.job.cmd)) := by
  have hne : e.pkValidate r.job.op r.job.cmd ≠ 0 := by omega
  simp [Eng.pkValidated, hr, hwaits, Nat.not_lt.2 hdue, hne]

end

/-! ## Completion (R315, R317) -/

section
variable {e : Eng} {x : Ctx} {u : Nat} {r : PkRun} {d v st : Nat}

/-- The object that shows a slot's result as good. -/
theorem pkSlot_untold {d m : Nat} (hd : d < 1024) (hm : m < 16) : pkUntold (odKey 0x50 (0x400 + d) m) :=
  ⟨odKey_ne (by omega), odKey_ne (by omega), fun _ _ _ _ _ => odKey_ne (by omega)⟩

/-- Only a signature's nonce is drawn again (R315). -/
theorem Eng.pkCycles_of_drawless (hdraws : pkDraws r.job.op = false) : e.pkCycles r.job = e.pkT r.job :=
  if_neg fun h => by simp [pkDraws, h.1] at hdraws

/-- A command of one destination ends in its value, a clean slot and its status. -/
theorem Eng.pkEnd_completes (hr : e.pkRun u = some r) (hexec : r.executing = true)
    (hdue : r.at_ + pkTicks (e.pkCycles r.job) ≤ x.tick) (hclear : r.job.op ≠ 32) (hregion : r.job.op ≠ 34)
    (hdraws : pkDraws r.job.op = false) (hdests : e.pkDests r.job = [d]) (hresult : e.pkResult r.job 0 0 = ⟨st, [v], none⟩) :
    e.pkEnd x u .full = ((e.pkPut d v).set (Od.PK_SLOT.dirty d) 0).pkFinish x u r st (e.pkCycles r.job) := by
  have hdrawn : e.pkDrawn r.job.op = (0, 0, e) := by
    rw [Eng.pkDrawn, hdraws, if_neg Bool.false_ne_true]
  simp only [Eng.pkEnd, hr, hexec, hdue, decide_true, Bool.and_true, if_true]
  simp only [Eng.pkComplete, hdrawn, hresult, hdests, hclear, hregion, or_self, if_false, List.zip_cons_cons, List.zip_nil_left,
    List.foldl_cons, List.foldl_nil, Eng.pkDirty]

theorem Eng.pkFinish_result (hq : r.job.queue < 4) (hd : d < 1024) (hst : st = 0 ∨ st = 7) (cycles : Nat) :
    let e' := ((e.pkPut d v).set (Od.PK_SLOT.dirty d) 0).pkFinish x u r st cycles
    e'.pkRun u = none ∧ e'.pkVal d = v % 2 ^ (64 * e.pkLen d) ∧ e'.i (Od.PK_SLOT.dirty d) = 0 ∧
      e'.n (Od.PK_Q.completed r.job.queue) = (e.n (Od.PK_Q.completed r.job.queue) + 1) % 2 ^ 64 := by
  intro e'
  have hplace {m : Nat} (hm : m < 3) : e'.i (odKey 0x50 (0x400 + d) m) = e.i (odKey 0x50 (0x400 + d) m) :=
    (Eng.pkFinish_untold _ _ _ _ _ (pkSlot_untold hd (by omega)) hq).trans (Eng.set_i_other _ _ _ _ (odKey_ne (by omega)))
  refine ⟨Eng.pkFinish_free .., Eng.pkVal_put ⟨hplace (by decide), hplace (by decide)⟩ (Eng.pkFinish_mem ..), ?_, ?_⟩
  · exact (Eng.pkFinish_untold _ _ _ _ _ (pkSlot_untold hd (by decide)) hq).trans (Eng.set_i_same ..)
  · have htally : pkTally st r.job.queue = Od.PK_Q.completed r.job.queue := by
      obtain rfl | rfl := hst <;> rfl
    have hcount := Eng.pkFinish_tally ((e.pkPut d v).set (Od.PK_SLOT.dirty d) 0) x u st cycles hq
    rw [htally] at hcount
    have hother : Od.PK_Q.completed r.job.queue ≠ Od.PK_SLOT.dirty d := odKey_ne (by omega)
    rw [hcount, Eng.n, Eng.set_i_other _ _ _ _ hother]
    rfl

end

/-! ## Faults (R322) -/

/-- The latch of a block is none of the public-key engine's objects. -/
theorem latch_ne_pk (b : Nat) {i m : Nat} (hi : i < 0x800) (hm : m < 16) : Od.FLT_BLOCK.latch b ≠ odKey 0x50 i m := odKey_ne (by omega)

theorem latch_untold (b : Nat) : pkUntold (Od.FLT_BLOCK.latch b) :=
  ⟨latch_ne_pk b (by decide) (by decide), latch_ne_counters b, fun _ _ _ _ _ => latch_ne_pk b (by omega) (by omega)⟩

theorem Eng.pkDirty_i (e : Eng) {ds : List Nat} (v : Int) {k : Key} (hk : ∀ d ∈ ds, k ≠ Od.PK_SLOT.dirty d) :
    (e.pkDirty ds v).i k = e.i k := by
  unfold Eng.pkDirty
  induction ds generalizing e with
  | nil => rfl
  | cons d ds ih =>
    rw [List.foldl_cons, ih _ fun d' hd' => hk d' (List.mem_cons_of_mem _ hd'), Eng.set_i_other _ _ _ _ (hk d List.mem_cons_self)]

theorem Eng.pkPartial_od (e : Eng) (j : PkJob) (cycles : Nat) : (e.pkPartial j cycles).od = e.od := by
  unfold Eng.pkPartial
  induction e.pkDests j generalizing e with
  | nil => rfl
  | cons d ds ih => exact (List.foldl_cons ..).symm ▸ (ih _).trans rfl

/-- What a stop writes in its destinations leaves the objects that are no slot's DIRTY flag and that no end writes. -/
theorem Eng.pkStop_i (e : Eng) (x : Ctx) (u : Nat) {r : PkRun} (status cycles : Nat) {k : Key} (hk : pkUntold k)
    (hdirty : ∀ d ∈ e.pkDests r.job, k ≠ Od.PK_SLOT.dirty d) (hq : r.job.queue < 4) : (e.pkStop x u r status cycles).i k = e.i k := by
  unfold Eng.pkStop
  refine (Eng.pkFinish_untold _ _ _ _ _ hk hq).trans ?_
  split
  · refine (Eng.pkDirty_i _ _ hdirty).trans ?_
    split
    · rfl
    · exact congrArg (sget · k) (e.pkPartial_od r.job cycles)
  · rfl

theorem Eng.pkStop_free (e : Eng) (x : Ctx) (u : Nat) (r : PkRun) (status cycles : Nat) :
    (e.pkStop x u r status cycles).pkRun u = none :=
  Eng.pkFinish_free ..

theorem pkFault_source : 2 ^ (faultRow 14 1).src = 2 := by decide

/-- A unit's fault is source 1 of block 14, and it leaves the unit free. -/
theorem Eng.pkFault_latches (e : Eng) (x : Ctx) (u : Nat) {r : PkRun} (cycles : Nat) (hq : r.job.queue < 4)
    (hdests : ∀ d ∈ e.pkDests r.job, d < 1024) :
    (e.pkFault x u r cycles).pkRun u = none ∧
      (e.pkFault x u r cycles).n (Od.FLT_BLOCK.latch 14) = e.n (Od.FLT_BLOCK.latch 14) ||| 2 := by
  unfold Eng.pkFault
  extract_lets again e1 e2
  have hdirty : ∀ d ∈ e.pkDests r.job, Od.FLT_BLOCK.latch 14 ≠ Od.PK_SLOT.dirty d := fun d hd => by
    have := hdests d hd
    exact latch_ne_pk 14 (by omega) (by decide)
  have hlatch : e2.n (Od.FLT_BLOCK.latch 14) = e.n (Od.FLT_BLOCK.latch 14) ||| 2 := by
    refine (Eng.detect_latch _ x 14 1 u).trans ?_
    rw [pkFault_source, Eng.n, Eng.pkStop_i e x u 11 cycles (latch_untold 14) hdirty hq]
    rfl
  have hfree : e2.pkRun u = none := by
    have hstopped : e1.pkRun u = none :=
      (Eng.pkRun_of_units (congrArg Pk.units (Eng.detect_keeps (φ := .pk) ..)) u).trans (Eng.pkStop_free e x u r 11 cycles)
    exact (Eng.modPkUnit_runs e1 u (f := fun p => { p with faultAt := some x.tick, out := p.out || again }) (fun _ => rfl) u).trans hstopped
  have hother {m : Nat} (hm : m < 16) (e : Eng) (v : Int) :
      (e.set (odKey 0x50 0x001 m) v).n (Od.FLT_BLOCK.latch 14) = e.n (Od.FLT_BLOCK.latch 14) :=
    congrArg Int.toNat (Eng.set_i_other _ _ _ _ (latch_ne_pk 14 (by decide) hm))
  split
  · exact ⟨hfree, ((hother (by decide) ..).trans (hother (by decide) ..)).trans hlatch⟩
  · exact ⟨hfree, hlatch⟩

/-! ## Aborts (R319) -/

section
variable {e : Eng} {x : Ctx} {q tag : Nat}

theorem Eng.pkAbort_misses (hnone : e.pk.jobs.filter (fun j => j.queue == q && j.cmd.tag == tag) = []) :
    e.pkAbort x q tag = e.pkMissed q := by
  simp only [Eng.pkAbort, hnone, List.foldl_nil]

theorem Eng.pkMissed_counts (e : Eng) (q : Nat) (hq : q < 4) :
    (e.pkMissed q).n (Od.PK_Q.abort_missed q) = (e.n (Od.PK_Q.abort_missed q) + 1) % 2 ^ 32 := by
  have hne : Od.PK_Q.abort_missed q ≠ Od.PK_STATUS.sticky := odKey_ne (by omega)
  exact (congrArg Int.toNat (Eng.set_i_other _ _ _ _ hne)).trans (Eng.inc32_n_same ..)

/-- A command still waiting is taken out of its queue. -/
theorem Eng.pkAbort_waiting {j : PkJob} (hone : e.pk.jobs.filter (fun j => j.queue == q && j.cmd.tag == tag) = [j])
    (hwaits : ∀ p ∈ e.pk.units, ∀ r, p.run = some r → r.job.seq ≠ j.seq) :
    e.pkAbort x q tag =
      ({ e with pk := { e.pk with queues := modNth e.pk.queues q (fun l => l.filter (fun k => k.seq != j.seq)) } }).pkEnded
        x j 9 0 x.tick := by
  simp only [Eng.pkAbort, hone, List.foldl_cons, List.foldl_nil]
  split
  next => rfl
  next u hu =>
    obtain ⟨hlt, hhit, -⟩ := List.findIdx?_eq_some_iff_getElem.1 hu
    split at hhit
    next r hr => exact absurd (beq_iff_eq.1 hhit) (hwaits _ (List.getElem_mem hlt) r hr)
    next => cases hhit

theorem pkJob_queue_of_hit {j : PkJob} (hone : e.pk.jobs.filter (fun j => j.queue == q && j.cmd.tag == tag) = [j]) : j.queue = q := by
  have hj : j ∈ e.pk.jobs.filter (fun j => j.queue == q && j.cmd.tag == tag) := hone ▸ List.mem_singleton_self j
  exact beq_iff_eq.1 (Bool.and_eq_true_iff.1 (List.mem_filter.1 hj).2).1

end

/-! ## The commands -/

section
variable {s : State} (hup : s.eng.up = true)

include hup

/-- An abort by the host's write or by a queue's own user leaves what `Eng.pkAbort` does. -/
theorem exec_pkAbort_leaves {queue : Fin 4} {tag roles : Nat}
    (had : queue = 3 → s.eng.admits Od.PK_HOST_CTRL.abort tag roles = true) :
    ∃ t, exec (.pkAbort queue tag roles) s = .next t ∧ s.beside t ∧ t.eng.pk = (s.eng0.pkAbort s.ctx queue tag).pk ∧
      ∀ k, accounting k = false → t.eng.i k = (s.eng0.pkAbort s.ctx queue tag).i k := by
  rw [exec_pkAbort, execPkAbort]
  by_cases hhost : queue = 3
  · simp only [hhost, if_true]
    obtain ⟨t, ht, hans⟩ := lift_writeCmd_answersOk (op := fun x e => (stOk, e.pkAbort x 3 tag)) hup (had hhost) rfl
    exact ⟨t, ht, hans.beside, (congrArg Eng.pk hans.rest :), hans.obj⟩
  · simp only [hhost, if_false]
    exact ⟨_, lift_up hup _, ⟨rfl, rfl, rfl⟩, rfl, fun _ _ => rfl⟩

theorem exec_pkAbort_misses {queue : Fin 4} {tag roles : Nat}
    (had : queue = 3 → s.eng.admits Od.PK_HOST_CTRL.abort tag roles = true)
    (hnone : s.eng.pk.jobs.filter (fun j => j.queue == queue.val && j.cmd.tag == tag) = []) :
    ∃ t, exec (.pkAbort queue tag roles) s = .next t ∧ s.beside t ∧ t.eng.pk = s.eng.pk ∧
      t.eng.n (Od.PK_Q.abort_missed queue) = (s.eng.n (Od.PK_Q.abort_missed queue) + 1) % 2 ^ 32 := by
  obtain ⟨t, ht, hbeside, hpk, hobj⟩ := exec_pkAbort_leaves hup had
  have hmiss : s.eng0.pkAbort s.ctx queue tag = s.eng0.pkMissed queue := Eng.pkAbort_misses (e := s.eng0) hnone
  rw [hmiss] at hpk hobj
  refine ⟨t, ht, hbeside, hpk, ?_⟩
  have hacc : accounting (Od.PK_Q.abort_missed queue) = false := accounting_area (by decide) (by omega)
  exact (congrArg Int.toNat (hobj _ hacc)).trans (s.eng0.pkMissed_counts queue queue.isLt)

theorem exec_pkAbort_takesOut {queue : Fin 4} {tag roles : Nat} {j : PkJob}
    (had : queue = 3 → s.eng.admits Od.PK_HOST_CTRL.abort tag roles = true)
    (hone : s.eng.pk.jobs.filter (fun j => j.queue == queue.val && j.cmd.tag == tag) = [j])
    (hwaits : ∀ p ∈ s.eng.pk.units, ∀ r, p.run = some r → r.job.seq ≠ j.seq) :
    ∃ t, exec (.pkAbort queue tag roles) s = .next t ∧ s.beside t ∧
      t.eng.pk.queues = modNth s.eng.pk.queues queue (fun l => l.filter (fun k => k.seq != j.seq)) ∧
      t.eng.n (Od.PK_Q.aborted queue) = (s.eng.n (Od.PK_Q.aborted queue) + 1) % 2 ^ 64 := by
  obtain ⟨t, ht, hbeside, hpk, hobj⟩ := exec_pkAbort_leaves hup had
  rw [Eng.pkAbort_waiting (e := s.eng0) hone hwaits] at hpk hobj
  have hq : j.queue = queue := pkJob_queue_of_hit hone
  refine ⟨t, ht, hbeside, ?_, ?_⟩
  · rw [hpk]
    exact (congrArg Pk.queues (Eng.pkEnded_pk ..) :)
  · have hacc : accounting (Od.PK_Q.aborted queue) = false := accounting_area (by decide) (by omega)
    rw [Eng.n, hobj _ hacc, ← hq]
    exact Eng.pkEnded_tally _ s.ctx 9 0 s.ctx.tick (hq ▸ queue.isLt)

end

/-- Settles O51: each command ends where the lemmas above say it does. -/
theorem pkCommandsRunToTheirEnd : Obligations.PkCommandsRunToTheirEnd := by
  intro s hup
  refine ⟨fun u q j rest hu hq hj => ?_, fun unit_ r hr hqueue => ⟨fun hwaits hdue => ⟨fun hvalid hdraws => ?_, fun hlow hhigh => ?_⟩,
    fun d v st hexec hdue hclear hregion _ hdraws hdests hd hresult hst => ?_, fun cycles hdests => ?_⟩,
    fun queue tag roles had => ⟨exec_pkAbort_misses hup had, fun j => exec_pkAbort_takesOut hup had⟩⟩
  · exact ⟨_, (exec_pkDispatch s).trans (lift_up hup _), ⟨rfl, rfl, rfl⟩, Eng.pkDispatch_takes (e := s.eng0) (x := s.ctx) hu hq hj⟩
  · refine ⟨_, (exec_pkValidationEnd unit_ s).trans (lift_up hup _), ⟨rfl, rfl, rfl⟩, ?_⟩
    rw [Eng.pkValidated_executes (e := s.eng0) (x := s.ctx) hr hwaits hdue hvalid hdraws]
    exact ⟨rfl, Eng.modPkUnit_run _ _ _ ⟨r, hr⟩⟩
  · refine ⟨_, (exec_pkValidationEnd unit_ s).trans (lift_up hup _), ⟨rfl, rfl, rfl⟩, ?_⟩
    rw [Eng.pkValidated_refuses (e := s.eng0) (x := s.ctx) hr hwaits hdue hlow]
    have htally : pkTally (s.eng.pkValidate r.job.op r.job.cmd) r.job.queue = Od.PK_Q.refused r.job.queue :=
      (if_neg (by omega)).trans (if_pos (.inl ⟨hlow, hhigh⟩))
    have hcount := Eng.pkFinish_tally s.eng0 s.ctx unit_ (s.eng.pkValidate r.job.op r.job.cmd)
      (pkV r.job.op (s.eng.pkW r.job.op r.job.cmd)) hqueue
    rw [htally] at hcount
    exact ⟨Eng.pkFinish_free .., hcount⟩
  · refine ⟨_, (exec_pkComplete unit_ .full s).trans (lift_up hup _), ⟨rfl, rfl, rfl⟩, ?_⟩
    have hcycles : s.eng0.pkCycles r.job = s.eng.pkCycles r.job := by
      rw [Eng.pkCycles_of_drawless hdraws, Eng.pkCycles_of_drawless hdraws]
      rfl
    rw [Eng.pkEnd_completes (e := s.eng0) (x := s.ctx) hr hexec (hcycles ▸ hdue) hclear hregion hdraws hdests hresult]
    exact Eng.pkFinish_result (e := s.eng0) hqueue hd hst _
  · refine ⟨_, (exec_pkComplete unit_ (.fault cycles) s).trans (lift_up hup _), ⟨rfl, rfl, rfl⟩, ?_⟩
    have hend : s.eng0.pkEnd s.ctx unit_ (.fault cycles) = s.eng0.pkFault s.ctx unit_ r (min cycles (s.eng0.pkT r.job)) := by
      rw [Eng.pkEnd, show s.eng0.pkRun unit_ = some r from hr]
    rw [hend]
    exact Eng.pkFault_latches s.eng0 s.ctx unit_ _ hqueue hdests

end Sys2Proof.Machine
end

section
/-! # Captures of counter pages and user views (R340, R385, R392) -/

namespace Sys2Proof.Machine

/-! ## What a count leaves -/

/-- The captured pages and the captured user views. -/
def Eng.captures (e : Eng) : Tbl PageSnap × Tbl PageSnap := (e.ctr.pages, e.ctr.views)

theorem Eng.wrapBit_captures (e : Eng) (page i : Nat) : (e.wrapBit page i).captures = e.captures := rfl

theorem Eng.countWindows_captures (e : Eng) (t ev n : Nat) : (e.countWindows t ev n).captures = e.captures := by
  unfold Eng.countWindows
  generalize e.ctr.active.filter _ = l
  induction l generalizing e with
  | nil => rfl
  | cons p l ih =>
    rw [List.foldl_cons, ih]
    dsimp only
    split
    · rfl
    · exact Eng.wrapBit_captures ..

theorem Eng.count_captures (e : Eng) (x : Ctx) (ev : Nat) : (e.count x ev).captures = e.captures := by
  unfold Eng.count Eng.countN
  refine (Eng.countWindows_captures ..).trans ?_
  dsimp only
  split
  · rfl
  · exact Eng.wrapBit_captures ..

/-- The accounting of a write leaves the captures. -/
theorem Eng.account_captures (e : Eng) (x : Ctx) (p : Bool) (st : Nat) : (e.account x p st).captures = e.captures := by
  unfold Eng.account
  extract_lets e1
  have hcount (f : Eng) (ev : Nat) (hf : f.captures = e.captures) : (f.count x ev).captures = e.captures :=
    (f.count_captures x ev).trans hf
  split
  · split
    · exact hcount _ _ rfl
    · exact hcount _ _ rfl
  · split
    · rfl
    · split
      · exact hcount _ _ rfl
      · rfl

theorem overLink_up {s : State} (hup : s.eng.up = true) (hlink : s.eng.irq.link = true) (f : Ctx → Eng → Eng) :
    overLink f s = .next { s with eng := f s.ctx s.eng0 } :=
  (lift_up hup _).trans (congrArg (fun e => Host.Outcome.next { s with eng := e }) (if_pos (c := s.eng0.irq.link = true) hlink))

/-- A command's admitted write that its chapter accepts is accounted for after what the chapter does. -/
theorem lift_writeCmd_accounts {s : State} {k : Key} {v : Int} {roles : Nat} {op : Ctx → Eng → WriteRes} {e : Eng}
    (hup : s.eng.up = true) (had : s.eng.admits k v roles = true) (ho : op s.ctx s.eng0 = (stOk, e)) :
    ∃ p, lift (fun x e => e.writeCmd x k v roles (op x)) s = .next { s with eng := e.account s.ctx p stOk } := by
  obtain ⟨p, hp⟩ := Eng.writeCmd_ok (e := s.eng0) (k := k) (v := v) (roles := roles) s.ctx had ho
  exact ⟨p, (lift_up hup _).trans (congrArg (fun e => Host.Outcome.next { s with eng := e }) hp)⟩

/-! ## Captures (R340, R385) -/

section
variable (e : Eng) (x : Ctx)

theorem Eng.snapPage_eq {g : Nat} (hg : g ≤ 50) :
    (e.snapPage x g).ctr = { e.ctr with pages := tput e.ctr.pages g (e.capture x g (tgetD e.ctr.pages g PageSnap.zero)) } ∧
    (e.snapPage x g).n Od.CNT_CTRL.last_snap_tick = x.tick ∧
    (e.snapPage x g).irq.latched = e.irq.latched ||| 2 ^ 227 := by
  rw [Eng.snapPage, if_neg (Nat.not_lt.2 hg)]
  refine ⟨(congrArg Eng.ctr (Eng.irqLatch_frame ..) :), ?_, Eng.irqLatch_latched ..⟩
  exact congrArg Int.toNat ((Eng.irqLatch_i ..).trans (Eng.set_i_same ..))

/-- Page `g` was captured at this tick, after the capture it held in `e`. -/
def Eng.Captured (g : Nat) (e' : Eng) : Prop :=
  (tgetD e'.ctr.pages g PageSnap.zero).tick = x.tick ∧
  (tgetD e'.ctr.pages g PageSnap.zero).sequence = ((tgetD e.ctr.pages g PageSnap.zero).sequence + 1) % 2 ^ 32

theorem Eng.snapPage_captured {g : Nat} (hg : g ≤ 50) : e.Captured x g (e.snapPage x g) := by
  unfold Eng.Captured
  rw [(e.snapPage_eq x hg).1, tgetD, tget_tput_same]
  exact ⟨rfl, rfl⟩

theorem Eng.snapPage_other {g h : Nat} (hne : h ≠ g) : tget (e.snapPage x g).ctr.pages h = tget e.ctr.pages h := by
  by_cases hg : g ≤ 50
  · rw [(e.snapPage_eq x hg).1]
    exact tget_tput_other _ _ _ _ hne
  · rw [Eng.snapPage, if_pos (Nat.not_le.1 hg)]

/-- A mask's pages are captured, each once. -/
theorem Eng.snapPages_captured (mask n : Nat) (hn : n ≤ 51) (g : Nat) :
    let e' := (List.range n).foldl (fun e g => if bitOf mask g then e.snapPage x g else e) e
    (n ≤ g → tget e'.ctr.pages g = tget e.ctr.pages g) ∧ (g < n → bitOf mask g = true → e.Captured x g e') := by
  induction n with
  | zero => exact ⟨fun _ => rfl, fun h => absurd h (Nat.not_lt_zero g)⟩
  | succ n ih =>
    obtain ⟨hlater, hbefore⟩ := ih (by omega)
    rw [List.range_succ, List.foldl_append, List.foldl_cons, List.foldl_nil]
    generalize (List.range n).foldl _ e = e1 at hlater hbefore
    by_cases hgn : g = n
    · subst hgn
      refine ⟨fun h => absurd h (by omega), fun _ hbit => ?_⟩
      obtain ⟨htick, hseq⟩ := e1.snapPage_captured x (g := g) (by omega)
      rw [if_pos hbit]
      exact ⟨htick, hseq.trans (by rw [tgetD, tgetD, hlater (le_refl g)])⟩
    · have hkept : tget (if bitOf mask n then e1.snapPage x n else e1).ctr.pages g = tget e1.ctr.pages g := by
        split
        · exact e1.snapPage_other x hgn
        · rfl
      refine ⟨fun h => hkept.trans (hlater (by omega)), fun h hbit => ?_⟩
      have hcaptured := hbefore (by omega) hbit
      unfold Eng.Captured tgetD at hcaptured ⊢
      rwa [hkept]

end

/-! ## Wrap bits (R340, R382) -/

/-- A number gathered from the bits that a test chooses. -/
theorem bitOf_gathered (f : Nat → Bool) (n : Nat) :
    (List.range n).foldl (fun m i => if f i then m + 2 ^ i else m) 0 < 2 ^ n ∧
    ∀ i, bitOf ((List.range n).foldl (fun m i => if f i then m + 2 ^ i else m) 0) i = (f i && decide (i < n)) := by
  induction n with
  | zero => exact ⟨Nat.one_pos, fun i => by simp [bitOf]⟩
  | succ n ih =>
    rw [List.range_succ, List.foldl_append, List.foldl_cons, List.foldl_nil]
    generalize (List.range n).foldl (fun m i => if f i then m + 2 ^ i else m) 0 = m at ih
    obtain ⟨hlt, hbits⟩ := ih
    cases hf : f n with
    | false =>
      rw [if_neg Bool.false_ne_true]
      refine ⟨hlt.trans (Nat.pow_lt_pow_right (by decide) (Nat.lt_succ_self n)), fun i => ?_⟩
      rw [hbits]
      by_cases hi : i = n
      · rw [hi, hf, Bool.false_and, Bool.false_and]
      · rw [decide_eq_decide.2 (show i < n ↔ i < n + 1 by omega)]
    | true =>
      rw [if_pos rfl]
      refine ⟨by rw [Nat.pow_succ]; omega, fun i => ?_⟩
      have hor : m + 2 ^ n = 2 ^ n ||| m := by
        rw [Nat.add_comm]
        simpa using Nat.two_pow_add_eq_or_of_lt hlt 1
      rw [hor, bitOf, Nat.testBit_or, Nat.testBit_two_pow]
      have hi : m.testBit i = (f i && decide (i < n)) := hbits i
      rw [hi]
      by_cases hin : i = n
      · simp [hin, hf]
      · rw [decide_eq_false (show ¬ n = i from fun h => hin h.symm), Bool.false_or,
          decide_eq_decide.2 (show i < n ↔ i < n + 1 by omega)]

/-- The wrap bits of a page that a write of wrap_clear leaves. -/
def Eng.wrapsLeft (e : Eng) (x : Ctx) (g mask : Nat) : Nat :=
  (List.range 64).foldl (fun m i =>
    if bitOf (tgetD e.ctr.wrap g 0) i && (!bitOf mask i || e.wrapsNow x.tick g i) then m + 2 ^ i else m) 0

theorem Eng.wrapClear_eq (e : Eng) (x : Ctx) {g : Nat} (mask : Nat) (hg : g ≤ 50) (hg49 : g ≠ 49) :
    e.wrapClear x g mask = { e with ctr := { e.ctr with
      wrap := if e.wrapsLeft x g mask = 0 then tdel e.ctr.wrap g else tput e.ctr.wrap g (e.wrapsLeft x g mask) } } :=
  if_neg (by omega)

theorem Eng.wrapsLeft_bits (e : Eng) (x : Ctx) (g mask : Nat) (i : Fin 64) :
    bitOf (e.wrapsLeft x g mask) i = (bitOf (tgetD e.ctr.wrap g 0) i && (!bitOf mask i || e.wrapsNow x.tick g i)) := by
  have hbits := (bitOf_gathered (fun i => bitOf (tgetD e.ctr.wrap g 0) i && (!bitOf mask i || e.wrapsNow x.tick g i)) 64).2 i
  rw [decide_eq_true i.isLt, Bool.and_true] at hbits
  exact hbits

/-- A page shows the wrap bits that are left. -/
theorem Eng.wrapClear_shows (e : Eng) (x : Ctx) {g : Nat} (mask : Nat) (hg : g ≤ 50) (hg49 : g ≠ 49) :
    (e.wrapClear x g mask).pageWrap g = e.wrapsLeft x g mask := by
  rw [Eng.pageWrap, if_neg hg49, e.wrapClear_eq x mask hg hg49, tgetD]
  dsimp only
  split
  next hzero => rw [tget_tdel_same, hzero]; rfl
  next => rw [tget_tput_same]; rfl

theorem Eng.wrapClear_od (e : Eng) (x : Ctx) (g mask : Nat) : (e.wrapClear x g mask).od = e.od := by
  unfold Eng.wrapClear
  split <;> rfl

/-! ## User views (R392) -/

theorem tget_map_values {α : Type} (t : Tbl α) (f : Nat → α → α) (k : Nat) :
    tget (t.map (fun p => (p.1, f p.1 p.2))) k = (tget t k).map (f k) := by
  induction t with
  | nil => rfl
  | cons p t ih =>
    obtain ⟨a, v⟩ := p
    rw [List.map_cons, tget, tget, ih]
    split
    next h => rw [h]; rfl
    next => rfl

/-- The view of a page that the mask no longer shows. -/
def viewTaken (old new g : Nat) (p : PageSnap) : PageSnap :=
  if bitOf old g && !bitOf new g then { p with tick := 0, wrap := 0, values := [] } else p

/-- The views that a mask leaves. -/
def Eng.viewsMasked (e : Eng) (mask : Nat) : Tbl PageSnap :=
  e.ctr.views.map (fun p => (p.1, viewTaken (e.n Od.CNT_USER.mask) mask p.1 p.2))

/-- The engine with the views that a mask leaves, and the mask. -/
def Eng.userMasked (e : Eng) (mask : Nat) : Eng :=
  ({ e with ctr := { e.ctr with views := e.viewsMasked mask } }).set Od.CNT_USER.mask mask

theorem cntUserWrite_eq (mask : Nat) (e : Eng) : cntUserWrite mask e = (stOk, e.userMasked mask) := by
  have hmap : e.ctr.views.map (fun p =>
      if bitOf (e.n Od.CNT_USER.mask) p.1 && !bitOf (mask : Int).toNat p.1 then
        (p.1, { p.2 with tick := 0, wrap := 0, values := [] }) else p) = e.viewsMasked mask := by
    refine List.map_congr_left fun p _ => ?_
    rw [Int.toNat_natCast]
    unfold viewTaken
    split <;> rfl
  unfold cntUserWrite Eng.userMasked
  extract_lets old views
  rw [← hmap]

theorem Eng.userMasked_view (e : Eng) (mask g : Nat) :
    tget (e.userMasked mask).ctr.views g = (tget e.ctr.views g).map (viewTaken (e.n Od.CNT_USER.mask) mask g) :=
  tget_map_values e.ctr.views (fun g => viewTaken (e.n Od.CNT_USER.mask) mask g) g

theorem viewTaken_empty {old new g : Nat} (hold : bitOf old g = true) (hnew : bitOf new g = false) (v : Option PageSnap) :
    ((v.map (viewTaken old new g)).getD PageSnap.zero).values = [] := by
  cases v with
  | none => rfl
  | some p =>
    rw [Option.map_some, Option.getD_some, viewTaken, hold, hnew]
    rfl

end Sys2Proof.Machine
end

section
/-! # Window and occupancy counters, and the commands of the counters (R386 to R388) -/

namespace Sys2Proof.Machine

/-- Of the accounting's objects, area 68 holds the counters' sticky bits alone. -/
theorem accounting_counter {i m : Nat} (hm : m < 16) (hi : i ≠ 0x003 ∧ i < 4096) : accounting (odKey 0x68 i m) = false := by
  have ne {a' i' m' : Nat} (h : a' ≠ 0x68 ∨ i' = 0x003) (hm' : m' < 16) (hi' : i' < 4096) : (odKey 0x68 i m == odKey a' i' m') = false :=
    beq_eq_false_iff_ne.2 (odKey_ne (by omega))
  simp only [accounting, Od.DICT_STATUS.accepted, Od.DICT_STATUS.refused, Od.DICT_STATUS.busy, Od.DICT_STATUS.denied,
    Od.DICT_STATUS.sticky, Od.STORE.unsaved, Od.CNT_STATUS.sticky]
  simp [ne]

/-! ## Window counters (R386, R387) -/

/-- PENDING_EVENT shows an event that is not yet active (R393). -/
def Eng.markPending (e : Eng) : Eng := if e.pendingEvent then e.orb Od.CNT_STATUS.sticky 4 else e

theorem Eng.markPending_i (e : Eng) {k : Key} (hk : k ≠ Od.CNT_STATUS.sticky) : e.markPending.i k = e.i k := by
  unfold Eng.markPending
  split
  · exact Eng.set_i_other _ _ _ _ hk
  · rfl

theorem Eng.onlyObjects_markPending {a e : Eng} (h : a.onlyObjects e) : a.onlyObjects e.markPending := by
  unfold Eng.markPending
  split
  · exact Eng.onlyObjects_trans h rfl
  · exact h

section
variable {e : Eng} {x : Ctx} {w : Nat}

theorem cntWinWrite_closes :
    cntWinWrite x w [(Od.CNT_WIN.close w, 1)] e = (stOk, e.markPending.closeWindow x w) := by
  have hne : Od.CNT_WIN.close w ≠ Od.CNT_WIN.event w := odKey_ne (by omega)
  simp [cntWinWrite, hne, Eng.markPending]

theorem cntWinWrite_event {value : Nat} (hevent : value ≤ 0xBFF ∨ value = 0xFFFF) :
    cntWinWrite x w [(Od.CNT_WIN.event w, (value : Int))] e = (stOk, (e.set (Od.CNT_WIN.event w) value).markPending) := by
  have hne : Od.CNT_WIN.event w ≠ Od.CNT_WIN.close w := odKey_ne (by omega)
  have hin : ¬ (0xBFF < value ∧ ¬ (value : Int) = 0xFFFF) := by omega
  unfold cntWinWrite
  rw [if_neg (by simpa using hin)]
  simp [hne, Eng.markPending]

theorem cntWinWrite_noEvent {value : Nat} (hhigh : 0xBFF < value) (hnone : value ≠ 0xFFFF) :
    cntWinWrite x w [(Od.CNT_WIN.event w, (value : Int))] e = (stRange, e) := by
  have hout : ¬ ((value : Int) ≤ 0xBFF ∨ (value : Int) = 0xFFFF) := by omega
  exact if_pos (by simpa using hout)

/-- A window that closes shows its count and its ticks, and is counted. -/
theorem Eng.closeWindow_shows (hopen : e.n (Od.CNT_WIN.windows w) = 0 ∨ e.n (Od.CNT_WIN.close_tick w) ≠ x.tick) :
    (∀ p ∈ e.windowValues x w, (e.closeWindow x w).i p.1 = p.2) ∧
      (e.closeWindow x w).n (Od.CNT_WIN.windows w) = (e.n (Od.CNT_WIN.windows w) + 1) % 2 ^ 32 := by
  have hafter (j : Key) : (e.closeWindow x w).i j = ((e.setAll (e.windowValues x w)).inc32 (Od.CNT_WIN.windows w)).i j := by
    unfold Eng.closeWindow
    rw [if_neg (by omega)]
    rfl
  have hne : ∀ p ∈ e.windowValues x w, Od.CNT_WIN.windows w ≠ p.1 := by
    simp only [Eng.windowValues, List.forall_mem_cons]
    exact ⟨odKey_ne (by omega), odKey_ne (by omega), odKey_ne (by omega), odKey_ne (by omega), fun _ h => by cases h⟩
  refine ⟨fun p hp => ?_, ?_⟩
  · rw [hafter, Eng.inc32_i, if_neg (hne p hp).symm]
    exact Eng.setAll_i_mem e (e.windowValues x w) (odKey_nodup 0x68 (0x100 + w) (ms := [4, 5, 7, 6]) (by decide)) p hp
  · rw [Eng.n, hafter]
    exact (Eng.inc32_n_same ..).trans (by rw [Eng.n, Eng.setAll_i_other _ _ _ hne]; rfl)

end

/-! ## Occupancy counters (R388) -/

/-- The store of one value of an occupancy counter's record: 1 to peak_clear clears the peak. -/
def Eng.occStore (o : Nat) (e : Eng) (p : Key × Int) : Eng :=
  if p.1 = Od.CNT_OCC.peak_clear o then (if p.2 = 1 then e.set (Od.CNT_OCC.peak o) 0 else e) else e.set p.1 p.2

section
variable {o : Nat}

theorem Eng.occStore_other (e : Eng) (p : Key × Int) {k : Key} (hpeak : k ≠ Od.CNT_OCC.peak o) (hk : k ≠ p.1) :
    (e.occStore o p).i k = e.i k := by
  unfold Eng.occStore
  split
  · split
    · exact Eng.set_i_other _ _ _ _ hpeak
    · rfl
  · exact Eng.set_i_other _ _ _ _ hk

theorem Eng.occStores_other (e : Eng) (vs : List (Key × Int)) {k : Key} (hpeak : k ≠ Od.CNT_OCC.peak o) (hk : ∀ p ∈ vs, k ≠ p.1) :
    (vs.foldl (fun e p => e.occStore o p) e).i k = e.i k := by
  induction vs generalizing e with
  | nil => rfl
  | cons p vs ih =>
    obtain ⟨hp, hvs⟩ := List.forall_mem_cons.1 hk
    rw [List.foldl_cons, ih _ hvs, Eng.occStore_other _ _ hpeak hp]

/-- Each value but the command to clear the peak is stored. -/
theorem Eng.occStores_mem (e : Eng) {vs : List (Key × Int)} (hnodup : (vs.map Prod.fst).Nodup)
    (hpeak : ∀ p ∈ vs, p.1 ≠ Od.CNT_OCC.peak o) {p : Key × Int} (hp : p ∈ vs) (hclear : p.1 ≠ Od.CNT_OCC.peak_clear o) :
    (vs.foldl (fun e p => e.occStore o p) e).i p.1 = p.2 := by
  induction vs generalizing e with
  | nil => cases hp
  | cons q vs ih =>
    obtain ⟨hq, hrest⟩ := List.nodup_cons.1 hnodup
    rw [List.foldl_cons]
    obtain rfl | hmem := List.mem_cons.1 hp
    · rw [Eng.occStores_other _ _ (hpeak _ List.mem_cons_self) fun r hr heq => hq (List.mem_map.2 ⟨r, hr, heq.symm⟩),
        Eng.occStore, if_neg hclear, Eng.set_i_same]
    · exact ih _ hrest (fun r hr => hpeak r (List.mem_cons_of_mem _ hr)) hmem

theorem Eng.setAll_od (e : Eng) (vs : List (Key × Int)) : (e.setAll vs).od = vs.foldl (fun s p => sset s p.1 p.2) e.od := by
  induction vs generalizing e with
  | nil => rfl
  | cons p vs ih => exact ih (e.set p.1 p.2)

/-- A record that Table 19-4 allows is stored. -/
theorem cntOccWrite_stores {e : Eng} {vs : List (Key × Int)} {r : Nat × Nat}
    (hrange : occRange ((e.setAll vs).n (Od.CNT_OCC.source o)) = some r) (hinst : (e.setAll vs).n (Od.CNT_OCC.instance_ o) < r.1)
    (hlow : 1 ≤ (e.setAll vs).n (Od.CNT_OCC.threshold o)) (hhigh : (e.setAll vs).n (Od.CNT_OCC.threshold o) ≤ r.2) :
    ∃ e', cntOccWrite o vs e = (stOk, e') ∧ ∀ k, e'.i k = (vs.foldl (fun e p => e.occStore o p) e).i k := by
  unfold cntOccWrite
  rw [← Eng.setAll_od]
  extract_lets s n ok touched
  have hn (k : Key) : n k = (e.setAll vs).n k := rfl
  have hok : ok = true := by
    unfold ok
    rw [hn, hn, hn, hrange]
    simp [hinst, hlow, hhigh]
  rw [hok, Bool.not_true, Bool.and_false, if_neg Bool.false_ne_true]
  refine ⟨_, rfl, fun k => ?_⟩
  split <;> rfl

/-- A clear of the peak is all that its write stores. -/
theorem cntOccWrite_clears (e : Eng) :
    cntOccWrite o [(Od.CNT_OCC.peak_clear o, 1)] e = (stOk, e.setAll [(Od.CNT_OCC.peak o, 0)]) := by
  have hsource : Od.CNT_OCC.peak_clear o ≠ Od.CNT_OCC.source o := odKey_ne (by omega)
  have hinst : Od.CNT_OCC.peak_clear o ≠ Od.CNT_OCC.instance_ o := odKey_ne (by omega)
  have hthreshold : Od.CNT_OCC.peak_clear o ≠ Od.CNT_OCC.threshold o := odKey_ne (by omega)
  simp [cntOccWrite, names, hsource, hinst, hthreshold, Eng.setAll]

end

/-- The writable members of an occupancy counter are different objects of area 68. -/
theorem occKeys (o : Fin 16) :
    (recKeys 0x68 (0x140 + o)).Nodup ∧ ∀ k ∈ recKeys 0x68 (0x140 + o), ∃ m < 16, k = odKey 0x68 (0x140 + o) m :=
  recKeys_named (base := 0x140) (top := 0x150) (by decide) (by decide) (by omega) (by omega)

/-- A peak is read only. -/
theorem peak_readOnly : ∀ o : Fin 16, Od.CNT_OCC.peak o ∉ recKeys 0x68 (0x140 + o) ∧
    ∀ r, rowOf (Od.CNT_OCC.peak o) = some r → r.writable (Od.CNT_OCC.peak o) = false := by
  decide +kernel

theorem Eng.admits_writable {e : Eng} {k : Key} {v : Int} {roles : Nat} (had : e.admits k v roles = true) :
    ∃ r, rowOf k = some r ∧ r.writable k = true := by
  unfold Eng.admits at had
  split at had
  next => cases had
  next r hr =>
    refine ⟨r, hr, Decidable.byContradiction fun hro => ?_⟩
    have hjudge := beq_iff_eq.1 (Bool.and_eq_true_iff.1 had).1
    unfold Eng.judge at hjudge
    rw [Bool.eq_false_iff.2 hro] at hjudge
    split at hjudge <;> cases hjudge

/-- No admitted write of an occupancy counter's record names its peak. -/
theorem occValues_noPeak {e : Eng} {o : Fin 16} {w : RecWrite} {roles : Nat} (had : e.admitsRec 0x68 (0x140 + o) w roles = true) :
    ∀ p ∈ recValues 0x68 (0x140 + o) w, p.1 ≠ Od.CNT_OCC.peak o := by
  obtain ⟨hkeys, hrow⟩ := peak_readOnly o
  intro p hp hpeak
  cases w with
  | member m v =>
    obtain ⟨r, hr, hwritable⟩ := Eng.admits_writable (Bool.and_eq_true_iff.1 had).2
    rw [List.mem_singleton.1 hp] at hpeak
    dsimp only at hpeak
    rw [hpeak] at hr hwritable
    rw [hrow r hr] at hwritable
    cases hwritable
  | whole vs => exact hkeys (hpeak ▸ (List.of_mem_zip hp).1)

/-! ## The commands -/

section
variable {s : State} {roles : Nat} (hup : s.eng.up = true)

include hup

theorem exec_counterPageSnap_captures {page : Fin 64} (hlink : s.eng.irq.link = true) (hpage : page.val ≤ 50) :
    ∃ t, exec (.counterPageSnap page) s = .next t ∧ s.beside t ∧
      tget t.eng.ctr.pages page = some (s.eng.capture s.ctx page (tgetD s.eng.ctr.pages page PageSnap.zero)) ∧
      t.eng.n Od.CNT_CTRL.last_snap_tick = s.core.tick ∧ t.eng.irq.latched = s.eng.irq.latched ||| 2 ^ 227 := by
  obtain ⟨hctr, htick, hlatched⟩ := s.eng0.snapPage_eq s.ctx hpage
  refine ⟨_, (exec_counterPageSnap page s).trans (overLink_up hup hlink _), ⟨rfl, rfl, rfl⟩, ?_, htick, hlatched⟩
  exact (congrArg (fun c : Counters => tget c.pages page) hctr).trans (tget_tput_same ..)

theorem exec_wrapClear_clears {page : Fin 64} (mask : Nat) (hlink : s.eng.irq.link = true) (hpage : page.val ≤ 50)
    (hpage49 : page.val ≠ 49) :
    ∃ t, exec (.wrapClear page mask) s = .next t ∧ s.beside t ∧ t.eng.od = s.eng.od ∧
      ∀ i : Fin 64, bitOf (t.eng.pageWrap page) i =
        (bitOf (s.eng.pageWrap page) i && (!bitOf mask i || s.eng.wrapsNow s.core.tick page i)) := by
  refine ⟨_, (exec_wrapClear page mask s).trans (overLink_up hup hlink _), ⟨rfl, rfl, rfl⟩, Eng.wrapClear_od .., fun i => ?_⟩
  dsimp only
  rw [s.eng0.wrapClear_shows s.ctx mask hpage hpage49, Eng.wrapsLeft_bits, Eng.pageWrap, if_neg hpage49]
  rfl

theorem exec_snapMaskWrite_captures {mask : Nat} (had : s.eng.admits Od.CNT_CTRL.snap_mask mask roles = true) :
    ∃ t, exec (.snapMaskWrite mask roles) s = .next t ∧ s.accepted t ∧
      ∀ page : Fin 51, bitOf mask page = true → s.eng.Captured s.ctx page t.eng := by
  obtain ⟨p, hp⟩ := lift_writeCmd_accounts (op := fun x => snapMaskWrite x mask) hup had rfl
  refine ⟨_, (exec_snapMaskWrite mask roles s).trans hp, (s.answers_account stOk _ p).accepted, fun page hbit => ?_⟩
  have hpages := congrArg Prod.fst (Eng.account_captures (s.eng0.snapMask s.ctx mask) s.ctx p stOk)
  have hcaptured := (s.eng0.snapPages_captured s.ctx mask 51 (le_refl 51) page).2 page.isLt hbit
  unfold Eng.Captured at hcaptured ⊢
  exact (congrArg (fun t : Tbl PageSnap => (tgetD t page PageSnap.zero).tick = s.core.tick ∧ (tgetD t page PageSnap.zero).sequence =
    ((tgetD s.eng.ctr.pages page PageSnap.zero).sequence + 1) % 2 ^ 32) hpages).mpr hcaptured

theorem exec_cntWinClose_closes {window : Fin 64} (had : s.eng.admits (Od.CNT_WIN.close window) 1 roles = true)
    (hopen : s.eng.n (Od.CNT_WIN.windows window) = 0 ∨ s.eng.n (Od.CNT_WIN.close_tick window) ≠ s.core.tick) :
    ∃ t, exec (.cntWinClose window 1 roles) s = .next t ∧ s.accepted t ∧
      t.eng.n (Od.CNT_WIN.last window) = (s.eng.winCtr window).value s.core.tick ∧
      t.eng.n (Od.CNT_WIN.close_tick window) = s.core.tick ∧ t.eng.n (Od.CNT_WIN.open_tick window) = s.core.tick ∧
      t.eng.i (Od.CNT_WIN.last_open window) = s.eng.i (Od.CNT_WIN.open_tick window) ∧
      t.eng.n (Od.CNT_WIN.windows window) = (s.eng.n (Od.CNT_WIN.windows window) + 1) % 2 ^ 32 := by
  obtain ⟨t, ht, hans⟩ := lift_writeCmd_answersOk
    (op := fun x => cntWinWrite x window [(Od.CNT_WIN.close window, ((1 : Nat) : Int))]) hup had cntWinWrite_closes
  have hmarked (m : Nat) (hm : m < 16) : s.eng0.markPending.i (odKey 0x68 (0x100 + window) m) = s.eng.i (odKey 0x68 (0x100 + window) m) :=
    s.eng0.markPending_i (odKey_ne (by omega))
  have hwin : s.eng0.markPending.winCtr window = s.eng.winCtr window := by
    unfold Eng.markPending
    split <;> rfl
  have hwindows : s.eng0.markPending.n (Od.CNT_WIN.windows window) = s.eng.n (Od.CNT_WIN.windows window) :=
    congrArg Int.toNat (hmarked 8 (by decide))
  have htick : s.eng0.markPending.n (Od.CNT_WIN.close_tick window) = s.eng.n (Od.CNT_WIN.close_tick window) :=
    congrArg Int.toNat (hmarked 7 (by decide))
  have hstays : s.eng0.markPending.n (Od.CNT_WIN.windows window) = 0 ∨
      s.eng0.markPending.n (Od.CNT_WIN.close_tick window) ≠ s.ctx.tick := by
    rw [hwindows, htick]
    exact hopen
  obtain ⟨hshows, hcount⟩ := Eng.closeWindow_shows hstays
  have hkept {m : Nat} (hm : m < 16) := hans.obj (odKey 0x68 (0x100 + window) m) (accounting_counter hm (by omega))
  have hshown {m v : Nat} (hm : m < 16)
      (hv : (odKey 0x68 (0x100 + window) m, (v : Int)) ∈ s.eng0.markPending.windowValues s.ctx window) :
      t.eng.n (odKey 0x68 (0x100 + window) m) = v := by
    rw [Eng.n, hkept hm, hshows _ hv, Int.toNat_natCast]
  refine ⟨t, (exec_cntWinClose window 1 roles s).trans ht, hans.accepted, ?_, ?_, ?_, ?_, ?_⟩
  · rw [← hwin]
    exact hshown (m := 4) (by decide) List.mem_cons_self
  · exact hshown (m := 7) (by decide) (List.mem_cons_of_mem _ (List.mem_cons_of_mem _ List.mem_cons_self))
  · exact hshown (m := 6) (by decide)
      (List.mem_cons_of_mem _ (List.mem_cons_of_mem _ (List.mem_cons_of_mem _ List.mem_cons_self)))
  · have hlast := (hkept (m := 5) (by decide)).trans (hshows _ (List.mem_cons_of_mem _ List.mem_cons_self))
    exact hlast.trans (hmarked 6 (by decide))
  · have hn : t.eng.n (Od.CNT_WIN.windows window) = (s.eng0.markPending.closeWindow s.ctx window).n (Od.CNT_WIN.windows window) :=
      congrArg Int.toNat (hkept (m := 8) (by decide))
    rw [hn, hcount, hwindows]

theorem exec_cntWinEventWrite_stores {window : Fin 64} {value : Nat} (had : s.eng.admits (Od.CNT_WIN.event window) value roles = true)
    (hevent : value ≤ 0xBFF ∨ value = 0xFFFF) :
    ∃ t, exec (.cntWinEventWrite window value roles) s = .next t ∧ s.stored t [(Od.CNT_WIN.event window, value)] ∧
      s.eng.onlyObjects t.eng := by
  obtain ⟨t, ht, hans⟩ := lift_writeCmd_answersOk
    (op := fun x => cntWinWrite x window [(Od.CNT_WIN.event window, (value : Int))]) hup had (cntWinWrite_event hevent)
  have hacc : accounting (Od.CNT_WIN.event window) = false := accounting_counter (by decide) (by omega)
  refine ⟨t, (exec_cntWinEventWrite window value roles s).trans ht, ⟨hans.status, ?_, fun k hk hfree => ?_, hans.beside⟩, ?_⟩
  · refine List.forall_mem_singleton.2 ((hans.obj _ hacc).trans ?_)
    exact ((s.eng0.set _ _).markPending_i (odKey_ne (by omega))).trans (Eng.set_i_same ..)
  · have hsticky : k ≠ Od.CNT_STATUS.sticky := fun h => by
      rw [h] at hfree
      exact absurd hfree (by decide)
    exact (hans.obj k hfree).trans (((s.eng0.set _ _).markPending_i hsticky).trans
      (Eng.set_i_other _ _ _ _ (hk _ (List.mem_singleton_self _))))
  · exact Eng.onlyObjects_trans (Eng.onlyObjects_markPending
      (Eng.setAll_onlyObjects s.onlyObjects_eng0 [(Od.CNT_WIN.event window, (value : Int))])) hans.rest

theorem exec_cntWinEventWrite_refuses {window : Fin 64} {value : Nat} (had : s.eng.admits (Od.CNT_WIN.event window) value roles = true)
    (hhigh : 0xBFF < value) (hnone : value ≠ 0xFFFF) :
    ∃ t, exec (.cntWinEventWrite window value roles) s = .next t ∧ t.eng.resp.status = stRange ∧
      t.eng.i (Od.CNT_WIN.event window) = s.eng.i (Od.CNT_WIN.event window) ∧ s.eng.onlyObjects t.eng ∧ s.beside t := by
  have harea : (Od.CNT_WIN.event window).area = 0x68 := odKey_area (by omega)
  obtain ⟨t, ht, hans⟩ := lift_writeCmd_answersAs
    (op := fun x => cntWinWrite x window [(Od.CNT_WIN.event window, (value : Int))]) (by rw [harea]; decide) (by rw [harea]; decide)
    hup had (cntWinWrite_noEvent hhigh hnone)
  exact ⟨t, (exec_cntWinEventWrite window value roles s).trans ht, hans.status,
    hans.obj _ (accounting_counter (by decide) (by omega)), Eng.onlyObjects_trans s.onlyObjects_eng0 hans.rest, hans.beside⟩

theorem exec_cntOccWrite_stores {occ : Fin 16} {w : RecWrite} (had : s.eng.admitsRec 0x68 (0x140 + occ) w roles = true) {e : Eng}
    (hwrite : cntOccWrite occ (recValues 0x68 (0x140 + occ) w) s.eng0 = (stOk, e))
    (hstores : ∀ k, e.i k = ((recValues 0x68 (0x140 + occ) w).foldl (fun e p => e.occStore occ p) s.eng0).i k) :
    ∃ t, exec (.cntOccWrite occ w roles) s = .next t ∧ s.accepted t ∧
      (∀ p ∈ recValues 0x68 (0x140 + occ) w, p.1 ≠ Od.CNT_OCC.peak_clear occ → t.eng.i p.1 = p.2) := by
  obtain ⟨hnodup, hnames⟩ := recValues_named (occKeys occ) had
  obtain ⟨t, ht, hans⟩ := lift_recCmd_answersOk (op := fun _ => cntOccWrite occ) hup had hwrite
  refine ⟨t, (exec_cntOccWrite occ w roles s).trans ht, hans.accepted, fun p hp hclear => ?_⟩
  obtain ⟨m, hm, hpm⟩ := hnames p hp
  have hacc : accounting p.1 = false := hpm ▸ accounting_counter hm (by omega)
  rw [hans.obj _ hacc, hstores]
  exact s.eng0.occStores_mem hnodup (occValues_noPeak had) hp hclear

theorem exec_peakClear_clears {occ : Fin 16} (had : s.eng.admits (Od.CNT_OCC.peak_clear occ) 1 roles = true) :
    ∃ t, exec (.peakClear occ 1 roles) s = .next t ∧ s.wrote t [(Od.CNT_OCC.peak occ, 0)] :=
  lift_writeCmd_wrote (op := fun _ => cntOccWrite occ [(Od.CNT_OCC.peak_clear occ, ((1 : Nat) : Int))]) _ hup had
    (cntOccWrite_clears s.eng0) (List.nodup_singleton _)
    (List.forall_mem_singleton.2 (accounting_counter (by decide) (by omega)))

theorem exec_userViewSnap_captures {page : Fin 50} (hlink : s.eng.irq.link = true)
    (hmask : bitOf (s.eng.n Od.CNT_USER.mask) page = true) :
    ∃ t, exec (.userViewSnap page) s = .next t ∧ s.beside t ∧ t.eng.od = s.eng.od ∧
      tget t.eng.ctr.views page = some (s.eng.capture s.ctx page (tgetD s.eng.ctr.views page PageSnap.zero)) := by
  refine ⟨_, (exec_userViewSnap page s).trans (overLink_up hup hlink _), ⟨rfl, rfl, rfl⟩, ?_⟩
  have hshown : (decide (page.val < 50) && bitOf (s.eng0.n Od.CNT_USER.mask) page) = true :=
    Bool.and_eq_true_iff.2 ⟨decide_eq_true page.isLt, hmask⟩
  dsimp only
  rw [Eng.snapView, if_pos hshown]
  exact ⟨rfl, tget_tput_same ..⟩

theorem exec_cntUserMaskWrite_empties {mask : Nat} (had : s.eng.admits Od.CNT_USER.mask mask roles = true) :
    ∃ t, exec (.cntUserMaskWrite mask roles) s = .next t ∧ s.stored t [(Od.CNT_USER.mask, mask)] ∧
      ∀ page : Fin 50, bitOf (s.eng.n Od.CNT_USER.mask) page = true → bitOf mask page = false →
        (tgetD t.eng.ctr.views page PageSnap.zero).values = [] := by
  obtain ⟨p, hp⟩ := lift_writeCmd_accounts (op := fun _ => cntUserWrite mask) hup had (cntUserWrite_eq mask s.eng0)
  refine ⟨_, (exec_cntUserMaskWrite mask roles s).trans hp, ?_, fun page hold hnew => ?_⟩
  · have hans := s.answers_account stOk (s.eng0.userMasked mask) p
    have hacc : accounting Od.CNT_USER.mask = false := accounting_counter (by decide) (by decide)
    exact ⟨hans.status, List.forall_mem_singleton.2 ((hans.obj _ hacc).trans (Eng.set_i_same ..)),
      fun k hk hfree => (hans.obj k hfree).trans (Eng.set_i_other _ _ _ _ (hk _ (List.mem_singleton_self _))), hans.beside⟩
  · have hviews := congrArg Prod.snd (Eng.account_captures (s.eng0.userMasked mask) s.ctx p stOk)
    have hview := (congrArg (tget · page.val) hviews).trans (s.eng0.userMasked_view mask page)
    refine (congrArg (fun v : Option PageSnap => (v.getD PageSnap.zero).values) hview).trans ?_
    exact viewTaken_empty hold hnew _

end

/-- Settles O55: each command leaves what its lemma above says. -/
theorem countersAreCapturedAndWindowed : Obligations.CountersAreCapturedAndWindowed := by
  intro s roles hup
  refine ⟨fun page => exec_counterPageSnap_captures hup, fun page mask => exec_wrapClear_clears hup mask,
    fun mask => exec_snapMaskWrite_captures hup, fun window => exec_cntWinClose_closes hup,
    fun window value had => ⟨exec_cntWinEventWrite_stores hup had, exec_cntWinEventWrite_refuses hup had⟩,
    fun occ w vs r hvs had hrange hinst hlow hhigh => ?_, fun occ => exec_peakClear_clears hup,
    fun page => exec_userViewSnap_captures hup, fun mask => exec_cntUserMaskWrite_empties hup⟩
  subst hvs
  obtain ⟨e, hwrite, hstores⟩ := cntOccWrite_stores (o := occ.val) (e := s.eng0) (vs := recValues 0x68 (0x140 + occ) w) (r := r)
    (by rw [s.eng0_setAll]; exact hrange) (by rw [s.eng0_setAll]; exact hinst) (by rw [s.eng0_setAll]; exact hlow)
    (by rw [s.eng0_setAll]; exact hhigh)
  exact exec_cntOccWrite_stores hup had hwrite hstores

end Sys2Proof.Machine
end

section
/-! # What the operations of the rings leave (R326 to R330, R342) -/

namespace Sys2Proof.Machine

/-! ## The PCI Express link through interrupts and faults -/

section
variable (e : Eng) (x : Ctx)

theorem Eng.vecPoke_frame (v : Nat) : e.vecPoke x v = { e with out := (e.vecPoke x v).out, irq := (e.vecPoke x v).irq } := by
  unfold Eng.vecPoke
  split
  · split <;> rfl
  · rfl

theorem Eng.vecPoke_link (v : Nat) : (e.vecPoke x v).irq.link = e.irq.link := by
  unfold Eng.vecPoke
  split
  · split <;> rfl
  · rfl

theorem Eng.irqPoke_link (src : Nat) : (e.irqPoke x src).irq.link = e.irq.link := by
  unfold Eng.irqPoke
  dsimp only
  split
  · exact Eng.vecPoke_link ..
  · rfl

theorem Eng.irqLatch_link (src : Nat) : (e.irqLatch x src).irq.link = e.irq.link := Eng.irqPoke_link ..

theorem Eng.recordFirst_irq (d : Detection) : (e.recordFirst x d).irq = e.irq := by
  unfold Eng.recordFirst
  dsimp only
  repeat' split
  all_goals rfl

theorem Eng.countDetection_irq (d : Detection) : (e.countDetection x d).irq = e.irq := by
  unfold Eng.countDetection
  extract_lets e1 e2
  have h1 : e1.irq = e.irq := by
    unfold e1
    split
    · exact Eng.count_irq ..
    · exact Eng.count_irq ..
    · rfl
  have h2 : e2.irq = e.irq := (apply_ite Eng.irq _ _ _).trans (ite_eq_iff'.2 ⟨fun _ => h1, fun _ => h1⟩)
  exact (apply_ite Eng.irq _ _ _).trans (ite_eq_iff'.2 ⟨fun _ => h2, fun _ => h2⟩)

theorem Eng.notify_irq (event : Nat) (extra : Bytes) : (e.notify x event extra).irq = e.irq := by
  unfold Eng.notify Eng.publish
  split
  · rfl
  · split
    · exact Eng.count_irq ..
    · dsimp only
      split
      · exact Eng.count_irq ..
      · exact Eng.count_irq ..

theorem Eng.rails_irq (r : EclReason) (p q s t b : Nat) : ((e.railChange x r p q s t).endLinger b).irq = e.irq := by
  unfold Eng.endLinger Eng.railChange
  repeat' split
  all_goals rfl

/-- A detection pokes vectors; it does not move the link. -/
theorem Eng.raise_link (d : Detection) : (e.raise x d).irq.link = e.irq.link := by
  unfold Eng.raise
  extract_lets e1 e2 had e3 took e4 e5
  have h3 : e3.irq.link = e.irq.link :=
    congrArg Irq.link ((Eng.recordFirst_irq e2 x d).trans (Eng.countDetection_irq e1 x d))
  have h4 : e4.irq.link = e.irq.link := by
    unfold e4
    split
    · exact h3
    · exact (Eng.irqPoke_link ..).trans h3
  have h5 : e5.irq.link = e.irq.link := by
    unfold e5
    split
    · exact (congrArg Irq.link (Eng.notify_irq ..)).trans h4
    · exact h4
  split
  · exact (congrArg Irq.link (Eng.rails_irq ..)).trans h5
  · exact h5

theorem Eng.condOn_link (b row inst : Nat) : (e.condOn x b row inst).irq.link = e.irq.link := by
  unfold Eng.condOn
  dsimp only
  split
  · rfl
  · exact Eng.raise_link ..

theorem Eng.condOff_link (b row inst : Nat) : (e.condOff x b row inst).irq.link = e.irq.link := by
  unfold Eng.condOff
  dsimp only
  repeat' split
  all_goals rfl

end

/-! ## The objects of the rings' status -/

/-- An object of the status of some ring. -/
def ringStatus (j : Key) : Prop := ∃ r < 128, ∃ m < 16, j = odKey 0x58 (0x380 + r) m ∨ j = odKey 0x58 (0x480 + r) m

/-- The objects before the receive rings' status, between both and after the transmit rings'. -/
theorem not_ringStatus {a i m : Nat} (hm : m < 16) (h : a ≠ 0x58 ∧ i < 4096 ∨ i < 0x380 ∨ (0x400 ≤ i ∧ i < 0x480)) :
    ¬ ringStatus (odKey a i m) := by
  rintro ⟨r, hr, m', hm', heq | heq⟩
  · exact odKey_ne (by omega) heq
  · exact odKey_ne (by omega) heq

/-- What work on the rings leaves: the objects beside the rings' status, and the link. -/
structure Eng.RingWork (e e' : Eng) : Prop where
  obj : ∀ j, ¬ ringStatus j → e'.i j = e.i j
  link : e'.irq.link = e.irq.link

namespace Eng.RingWork

variable {a b c e : Eng} {x : Ctx}

theorem refl (e : Eng) : Eng.RingWork e e := ⟨fun _ _ => rfl, rfl⟩

theorem trans (h : Eng.RingWork a b) (h' : Eng.RingWork b c) : Eng.RingWork a c :=
  ⟨fun j hj => (h'.obj j hj).trans (h.obj j hj), h'.link.trans h.link⟩

/-- A change that leaves the objects and the interrupt logic. -/
theorem step (h : Eng.RingWork a b) (ho : c.od = b.od) (hi : c.irq = b.irq) : Eng.RingWork a c :=
  h.trans ⟨fun j _ => congrArg (sget · j) ho, congrArg Irq.link hi⟩

theorem setTx {r m : Nat} (h : Eng.RingWork a e) (hr : r < 128) (hm : m < 16) (v : Int) :
    Eng.RingWork a (e.set (odKey 0x58 (0x480 + r) m) v) :=
  h.trans ⟨fun _ hj => Eng.set_i_other _ _ _ _ fun heq => hj ⟨r, hr, m, hm, .inr heq⟩, rfl⟩

theorem setRx {r m : Nat} (h : Eng.RingWork a e) (hr : r < 128) (hm : m < 16) (v : Int) :
    Eng.RingWork a (e.set (odKey 0x58 (0x380 + r) m) v) :=
  h.trans ⟨fun _ hj => Eng.set_i_other _ _ _ _ fun heq => hj ⟨r, hr, m, hm, .inl heq⟩, rfl⟩

theorem irqPoke (h : Eng.RingWork a e) (n : Nat) : Eng.RingWork a (e.irqPoke x n) :=
  h.trans ⟨fun _ _ => Eng.irqPoke_i .., Eng.irqPoke_link ..⟩

theorem irqLatch (h : Eng.RingWork a e) (n : Nat) : Eng.RingWork a (e.irqLatch x n) :=
  h.trans ⟨fun _ _ => Eng.irqLatch_i .., Eng.irqLatch_link ..⟩

theorem ite {p : Prop} [Decidable p] (hb : Eng.RingWork a b) (hc : Eng.RingWork a c) : Eng.RingWork a (if p then b else c) := by
  split
  · exact hb
  · exact hc

theorem foldl {β : Type} {f : Eng → β → Eng} {l : List β} (hf : ∀ e, ∀ b ∈ l, Eng.RingWork e (f e b)) (e : Eng) :
    Eng.RingWork e (l.foldl f e) := by
  induction l generalizing e with
  | nil => exact refl e
  | cons b l ih => exact (hf e b List.mem_cons_self).trans (ih (fun e b hb => hf e b (List.mem_cons_of_mem _ hb)) _)

/-- The firmware's ring is named by objects of NTS-KE. -/
theorem fwRing (h : Eng.RingWork a e) (r : Nat) : e.fwRing r = a.fwRing r := by
  have henable := h.obj Od.NTS_KE.enable (not_ringStatus (by decide) (.inl (by decide)))
  have hring := h.obj Od.NTS_KE.ring (not_ringStatus (by decide) (.inl (by decide)))
  unfold Eng.fwRing Eng.b Eng.n
  rw [henable, hring]

end Eng.RingWork

/-! ## The rings of the engines -/

section
variable (e : Eng) (x : Ctx)

theorem Eng.modTx_txRing (r : Nat) (f : TxRing → TxRing) (q : Nat) :
    (e.modTx r f).txRing q = if q = r then f (e.txRing r) else e.txRing q := by
  unfold Eng.modTx Eng.txRing tgetD
  split
  next h => rw [h, tget_tput_same]; rfl
  next h => rw [tget_tput_other _ _ _ _ h]

theorem Eng.modRx_rxRing (r : Nat) (f : RxRing → RxRing) (q : Nat) :
    (e.modRx r f).rxRing q = if q = r then f (e.rxRing r) else e.rxRing q := by
  unfold Eng.modRx Eng.rxRing tgetD
  split
  next h => rw [h, tget_tput_same]; rfl
  next h => rw [tget_tput_other _ _ _ _ h]

variable {e} in
theorem Eng.txRing_of {e' : Eng} (h : Facet.txRings.of e' = Facet.txRings.of e) (q : Nat) : e'.txRing q = e.txRing q :=
  congrArg (fun t : Tbl TxRing => tgetD t q TxRing.atReset) h

variable {e} in
theorem Eng.rxRing_of {e' : Eng} (h : Facet.rxRings.of e' = Facet.rxRings.of e) (q : Nat) : e'.rxRing q = e.rxRing q :=
  congrArg (fun t : Tbl RxRing => tgetD t q RxRing.atReset) h

/-- A step over the rings in turn brings each to where it puts one and leaves the others. -/
theorem Eng.foldl_rings {P : Eng → Nat → Prop} {f : Eng → Nat → Eng} {n : Nat} (hdo : ∀ e, ∀ r < n, P (f e r) r)
    (hkeep : ∀ e, ∀ r < n, ∀ q, q ≠ r → P e q → P (f e r) q) {q : Nat} (hq : q < n) : P ((List.range n).foldl f e) q := by
  have hupTo (m : Nat) (hm : m ≤ n) (hqm : q < m) : P ((List.range m).foldl f e) q := by
    induction m with
    | zero => cases hqm
    | succ m ih =>
      rw [List.range_succ, List.foldl_append, List.foldl_cons, List.foldl_nil]
      by_cases hlast : q = m
      · exact hlast ▸ hdo _ q hq
      · exact hkeep _ m hm q hlast (ih (by omega) (by omega))
  exact hupTo n (le_refl n) hq

/-! ## Stopping (R326, R342) -/

theorem Eng.stopTx_txRing (r err q : Nat) :
    (e.stopTx x r err).txRing q = if q = r then { e.txRing r with state := .stopped, err := err } else e.txRing q :=
  (Eng.txRing_of (Eng.irqLatch_keeps (φ := .txRings) ..) q).trans
    (e.modTx_txRing r (fun g => { g with state := .stopped, err := err }) q)

theorem Eng.stopRx_rxRing (r err q : Nat) :
    (e.stopRx x r err).rxRing q = if q = r then { e.rxRing r with state := .stopped, err := err } else e.rxRing q :=
  (Eng.rxRing_of (Eng.irqLatch_keeps (φ := .rxRings) ..) q).trans
    (e.modRx_rxRing r (fun g => { g with state := .stopped, err := err }) q)

variable {e}

theorem Eng.stopTx_work {r : Nat} (hr : r < 128) (err : Nat) : Eng.RingWork e (e.stopTx x r err) := by
  have hmod := (Eng.RingWork.refl e).step (c := e.modTx r (fun g => { g with state := .stopped, err := err })) rfl rfl
  exact (hmod.setTx hr (by decide) _).irqLatch _

theorem Eng.stopRx_work {r : Nat} (hr : r < 128) (err : Nat) : Eng.RingWork e (e.stopRx x r err) := by
  have hmod := (Eng.RingWork.refl e).step (c := e.modRx r (fun g => { g with state := .stopped, err := err })) rfl rfl
  exact (hmod.setRx hr (by decide) _).irqLatch _

/-! ## Frames that are done (R329, R330, R343) -/

/-- What the end of a frame leaves: the objects beside the rings' status, the link, and the state of each ring. -/
structure Eng.TxWork (e e' : Eng) : Prop extends Eng.RingWork e e' where
  states : ∀ q, (e'.txRing q).state = (e.txRing q).state

theorem Eng.TxWork.refl (e : Eng) : Eng.TxWork e e := ⟨.refl e, fun _ => rfl⟩

theorem Eng.TxWork.trans {a b c : Eng} (h : Eng.TxWork a b) (h' : Eng.TxWork b c) : Eng.TxWork a c :=
  ⟨h.toRingWork.trans h'.toRingWork, fun q => (h'.states q).trans (h.states q)⟩

theorem Eng.TxWork.modTx (e : Eng) (r : Nat) {f : TxRing → TxRing} (hf : ∀ g, (f g).state = g.state) : Eng.TxWork e (e.modTx r f) := by
  refine ⟨(Eng.RingWork.refl e).step rfl rfl, fun q => ?_⟩
  rw [e.modTx_txRing]
  split
  next h => rw [hf, h]
  next => rfl

/-- Work that leaves the rings themselves. -/
theorem Eng.TxWork.of_rings {e' : Eng} (h : Eng.RingWork e e') (hrings : e'.txRings = e.txRings) : Eng.TxWork e e' :=
  ⟨h, fun q => congrArg TxRing.state (Eng.txRing_of hrings q)⟩

theorem Eng.TxWork.withDraws (e : Eng) (v : Nat) : Eng.TxWork e { e with draws := v } :=
  .of_rings ((Eng.RingWork.refl e).step rfl rfl) rfl

theorem Eng.TxWork.addTx (e : Eng) {r m : Nat} (hr : r < 128) (hm : m < 16) (w n : Nat) :
    Eng.TxWork e (e.add w (odKey 0x58 (0x480 + r) m) n) :=
  .of_rings ((Eng.RingWork.refl e).setTx hr hm _) rfl

theorem Eng.countTxDone_work {r : Nat} (hr : r < 128) (status : Nat) : Eng.TxWork e (e.countTxDone r status) := by
  refine .of_rings ?_ (Eng.countTxDone_keeps (φ := .txRings) ..)
  unfold Eng.countTxDone
  extract_lets e1 e2 e3 e4
  have h0 := Eng.RingWork.refl e
  have h1 : Eng.RingWork e e1 := .ite (h0.setTx hr (by decide) _) h0
  have h2 : Eng.RingWork e e2 := .ite (h1.setTx hr (by decide) _) h1
  have h3 : Eng.RingWork e e3 := .ite (h2.setTx hr (by decide) _) h2
  have h4 : Eng.RingWork e e4 := .ite (h3.setTx hr (by decide) _) h3
  exact .ite (h4.setTx hr (by decide) _) h4

/-- The write-back of one frame: what leaves the pins, the ring's counts, and its interrupt. -/
theorem Eng.TxWork.writesBack (e : Eng) (x : Ctx) (out : List Output) (r n : Nat) {f : TxRing → TxRing} (hf : ∀ g, (f g).state = g.state) :
    Eng.TxWork e (({ e with out := out }.modTx r f).irqPoke x n) := by
  have hout : Eng.TxWork e { e with out := out } := .of_rings ((Eng.RingWork.refl e).step rfl rfl) rfl
  exact (hout.trans (.modTx _ r hf)).trans (.of_rings ((Eng.RingWork.refl _).irqPoke n) (Eng.irqPoke_keeps (φ := .txRings) ..))

theorem Eng.txWriteBack_work (r n : Nat) (e : Eng) : Eng.TxWork e (e.txWriteBack x r n) := by
  induction n generalizing e with
  | zero => exact .refl e
  | succ n ih =>
    unfold Eng.txWriteBack
    dsimp only
    split
    · exact .refl e
    · split
      · exact .refl e
      · split
        · exact .refl e
        · refine Eng.TxWork.trans ?_ (ih _)
          exact .writesBack e x _ r _ fun _ => rfl

theorem Eng.txFinish_work {r : Nat} (hr : r < 128) (first status : Nat) : Eng.TxWork e (e.txFinish x r first status) := by
  unfold Eng.txFinish
  extract_lets g e1
  have h1 : Eng.TxWork e e1 := .modTx e r (fun _ => rfl)
  exact (h1.trans (Eng.countTxDone_work hr status)).trans (Eng.txWriteBack_work ..)

theorem Eng.TxWork.foldl {β : Type} {f : Eng → β → Eng} (hf : ∀ e b, Eng.TxWork e (f e b)) (l : List β) (e : Eng) :
    Eng.TxWork e (l.foldl f e) := by
  induction l generalizing e with
  | nil => exact .refl e
  | cons b l ih => exact (hf e b).trans (ih _)

/-! ## Disabling (R330) -/

/-- A disabled transmit ring; what it had taken completes, which leaves every ring's state. -/
theorem Eng.disableTx_work {r : Nat} (hr : r < 128) (posted : List Nat) :
    Eng.RingWork e (e.disableTx x r posted) ∧
      ∀ q, ((e.disableTx x r posted).txRing q).state = if q = r then .disabled else (e.txRing q).state := by
  unfold Eng.disableTx
  extract_lets g n ws frames e1 e2 e3 e4 e5
  have h1 : Eng.TxWork e e1 := .withDraws e _
  have h2 : Eng.RingWork e e2 := h1.toRingWork.trans ((Eng.RingWork.refl e1).step rfl rfl)
  have hstate (q : Nat) : (e2.txRing q).state = if q = r then .disabled else (e.txRing q).state := by
    rw [← h1.states q]
    refine (congrArg TxRing.state (e1.modTx_txRing r _ q)).trans ?_
    split <;> rfl
  have h3 : Eng.TxWork e2 e3 := by
    unfold e3
    split
    · exact Eng.txFinish_work x hr _ _
    · exact .refl e2
  have hwaiting (e : Eng) (w : Nat × Nat × UntimedFrame) : Eng.TxWork e (e.txFinish x r w.2.1 4) := Eng.txFinish_work x hr w.2.1 4
  have h4 : Eng.TxWork e2 e4 := h3.trans (.foldl hwaiting g.waiting e3)
  have h5 : Eng.TxWork e4 e5 := .modTx e4 r fun _ => rfl
  have hflushed : Eng.TxWork e5 (e5.add 64 (Od.TX_RING_STATUS.flushed r) frames) := .addTx e5 hr (by decide) 64 frames
  have hall : Eng.TxWork e2 (if n = 0 then e4 else (e5.add 64 (Od.TX_RING_STATUS.flushed r) frames).txWriteBack x r (g.flight.length + 2)) := by
    split
    · exact h4
    · exact ((h4.trans h5).trans hflushed).trans (Eng.txWriteBack_work ..)
  exact ⟨h2.trans hall.toRingWork, fun q => (hall.states q).trans (hstate q)⟩

theorem Eng.disableRx_work (r : Nat) : Eng.RingWork e (e.disableRx r) := (Eng.RingWork.refl e).step rfl rfl

theorem Eng.disableRx_rxRing (r q : Nat) :
    (e.disableRx r).rxRing q = if q = r then { e.rxRing r with state := .disabled } else e.rxRing q :=
  e.modRx_rxRing ..

end

end Sys2Proof.Machine
end

section
/-! # The host's link, its resets, interrupts and windows (R324, R326, R335, R336, R339, R341) -/

namespace Sys2Proof.Machine

/-! ## The rings through a loss of the link and a function reset (R326) -/

section
variable (e : Eng) (x : Ctx)

/-- The host's receive rings stopped with LINK. -/
def Eng.rxStopped : Eng := (List.range 128).foldl (fun e r => if e.fwRing r then e else e.stopRx x r 3) e

/-- The transmit rings stopped with LINK. -/
def Eng.txStopped : Eng := (List.range 128).foldl (fun e r => e.stopTx x r 3) e

/-- The host's receive rings disabled. -/
def Eng.rxDisabled : Eng := (List.range 128).foldl (fun e r => if e.fwRing r then e else e.disableRx r) e

/-- The transmit rings disabled; `posted` is what host memory holds of the descriptors not yet taken. -/
def Eng.txDisabled (posted : List (Nat × List Nat)) : Eng :=
  (List.range 128).foldl (fun e r => e.disableTx x r (((posted.find? (fun p => p.1 == r)).map (fun p => p.2)).getD [])) e

theorem Eng.rxStopped_work : Eng.RingWork e (e.rxStopped x) :=
  .foldl (fun e _ hr => .ite (.refl e) (Eng.stopRx_work x (List.mem_range.1 hr) 3)) e

theorem Eng.txStopped_work : Eng.RingWork e (e.txStopped x) :=
  .foldl (fun _ _ hr => Eng.stopTx_work x (List.mem_range.1 hr) 3) e

theorem Eng.rxDisabled_work : Eng.RingWork e e.rxDisabled :=
  .foldl (fun e r _ => .ite (.refl e) (Eng.disableRx_work r)) e

theorem Eng.txDisabled_work (posted : List (Nat × List Nat)) : Eng.RingWork e (e.txDisabled x posted) :=
  .foldl (fun _ _ hr => (Eng.disableTx_work x (List.mem_range.1 hr) _).1) e

/-- A step over the host's receive rings puts each into its state. -/
theorem Eng.hostRings_state {f : Eng → Nat → Eng} {st : RingState} (hwork : ∀ e, ∀ r < 128, Eng.RingWork e (f e r))
    (hstate : ∀ e r q, ((f e r).rxRing q).state = if q = r then st else (e.rxRing q).state) {r : Nat} (hr : r < 128)
    (hhost : e.fwRing r = false) :
    (((List.range 128).foldl (fun e r => if e.fwRing r then e else f e r) e).rxRing r).state = st := by
  have hstep (e : Eng) (r : Nat) (hr : r < 128) : Eng.RingWork e (if e.fwRing r then e else f e r) := .ite (.refl e) (hwork e r hr)
  refine Eng.foldl_rings e (P := fun e q => e.fwRing q = false → (e.rxRing q).state = st) (fun e r hr hfw => ?_)
    (fun e r hr q hqr hq hfw => ?_) hr ?_
  · rw [(hstep e r hr).fwRing r] at hfw
    rw [hfw, if_neg Bool.false_ne_true, hstate, if_pos rfl]
  · rw [(hstep e r hr).fwRing q] at hfw
    split
    · exact hq hfw
    · rw [hstate, if_neg hqr]
      exact hq hfw
  · exact ((Eng.RingWork.foldl (fun e r hr => hstep e r (List.mem_range.1 hr)) e).fwRing r).trans hhost

theorem Eng.rxStopped_state {r : Nat} (hr : r < 128) (hhost : e.fwRing r = false) : ((e.rxStopped x).rxRing r).state = .stopped := by
  refine e.hostRings_state (fun e r hr => Eng.stopRx_work x hr 3) (fun e r q => ?_) hr hhost
  rw [Eng.stopRx_rxRing]
  split <;> rfl

theorem Eng.rxDisabled_state {r : Nat} (hr : r < 128) (hhost : e.fwRing r = false) : (e.rxDisabled.rxRing r).state = .disabled := by
  refine e.hostRings_state (fun e r _ => Eng.disableRx_work r) (fun e r q => ?_) hr hhost
  rw [Eng.disableRx_rxRing]
  split <;> rfl

theorem Eng.txStopped_state {r : Nat} (hr : r < 128) : ((e.txStopped x).txRing r).state = .stopped := by
  refine Eng.foldl_rings e (P := fun e q => (e.txRing q).state = .stopped) (fun e r _ => ?_) (fun e r _ q hqr hq => ?_) hr
  · rw [Eng.stopTx_txRing, if_pos rfl]
  · rw [Eng.stopTx_txRing, if_neg hqr]
    exact hq

theorem Eng.txDisabled_state (posted : List (Nat × List Nat)) {r : Nat} (hr : r < 128) :
    ((e.txDisabled x posted).txRing r).state = .disabled := by
  refine Eng.foldl_rings e (P := fun e q => (e.txRing q).state = .disabled) (fun e r hr => ?_) (fun e r hr q hqr hq => ?_) hr
  · rw [(Eng.disableTx_work x hr _).2, if_pos rfl]
  · rw [(Eng.disableTx_work x hr _).2, if_neg hqr]
    exact hq

theorem Eng.txStopped_rx (r : Nat) : (e.txStopped x).rxRing r = e.rxRing r :=
  Eng.rxRing_of (Eng.foldl_same Facet.rxRings.of (fun _ _ => Eng.stopTx_keeps (φ := .rxRings) _ _ _ _ (by decide)) _ _) r

theorem Eng.txDisabled_rx (posted : List (Nat × List Nat)) (r : Nat) : (e.txDisabled x posted).rxRing r = e.rxRing r :=
  Eng.rxRing_of (Eng.foldl_same Facet.rxRings.of (fun _ _ => Eng.disableTx_keeps (φ := .rxRings) _ _ _ _ (by decide)) _ _) r

/-! ## The loss of the link and a function reset (R326) -/

/-- The host's queues emptied and the link shown as down. -/
def Eng.linkless : Eng :=
  (({ e.hostEmpty with irq := { e.irq with link := false } }.set Od.HOST_STATUS.link_width 0).set Od.HOST_STATUS.link_rate_gts 0).orb
    Od.HOST_STATUS.sticky 1

variable {e} in
theorem Eng.pcieDown_eq (hlink : e.irq.link = true) : e.pcieDown x = ((e.rxStopped x).txStopped x).linkless.condOn x 15 6 0 := by
  rw [Eng.pcieDown, hlink]
  rfl

/-- Every vector armed and masked, and none pending. -/
def Irq.atFunctionReset (q : Irq) : Irq := { q with armed := 2 ^ 64 - 1, masked := 2 ^ 64 - 1, pba := 0, lastMsg := [] }

/-- What a function reset does beside the rings; `q` is the interrupt logic it leaves. -/
def Eng.hostReset (q : Irq) : Eng :=
  ({ e.hostEmpty with irq := q }.inc32 Od.HOST_STATUS.flr_count).orb Od.HOST_STATUS.sticky 2

theorem Eng.hostReset_leaves (q : Irq) : (e.hostReset q).irq = q ∧ (e.hostReset q).wins = List.replicate 8 WinCtx.atReset ∧
    (e.hostReset q).txRings = e.txRings ∧ (e.hostReset q).rxRings = e.rxRings ∧ (e.hostReset q).tails = e.hostEmpty.tails :=
  ⟨rfl, rfl, rfl, rfl, rfl⟩

theorem Eng.hostReset_counts (q : Irq) :
    (e.hostReset q).n Od.HOST_STATUS.flr_count = (e.n Od.HOST_STATUS.flr_count + 1) % 2 ^ 32 := by
  have hne : Od.HOST_STATUS.flr_count ≠ Od.HOST_STATUS.sticky := odKey_ne (by decide)
  rw [Eng.n, Eng.hostReset, Eng.orb_i, if_neg hne]
  exact Eng.inc32_n_same ..

theorem Eng.functionReset_eq (posted : List (Nat × List Nat)) :
    e.functionReset x posted =
      (e.rxDisabled.txDisabled x posted).hostReset (e.rxDisabled.txDisabled x posted).hostEmpty.irq.atFunctionReset := by
  simp only [Eng.functionReset, Eng.hostReset, Irq.atFunctionReset, Eng.txDisabled, Eng.rxDisabled]

theorem Eng.hostEmpty_tail (p : Nat) : (e.hostEmpty.tail p).entries = [] := by
  unfold Eng.hostEmpty Eng.tail nth
  rw [List.getD_eq_getElem?_getD, List.getElem?_map]
  cases e.tails[p]? with
  | none => rfl
  | some q => rfl

/-- An object of HOST_STATUS is none of the rings' status. -/
theorem hostStatus_notRing {m : Nat} (hm : m < 16) : ¬ ringStatus (odKey 0x58 0x001 m) := not_ringStatus hm (.inr (.inl (by decide)))

variable {e} in
theorem Eng.pcieDown_shows (hlink : e.irq.link = true) :
    (e.pcieDown x).irq.link = false ∧ (e.pcieDown x).hasCond 15 6 0 = true ∧ (e.pcieDown x).i Od.HOST_STATUS.link_width = 0 ∧
      (e.pcieDown x).n Od.HOST_STATUS.sticky = e.n Od.HOST_STATUS.sticky ||| 1 ∧
      ∀ r < 128, ((e.pcieDown x).txRing r).state = .stopped ∧ (e.fwRing r = false → ((e.pcieDown x).rxRing r).state = .stopped) := by
  have hwork := (e.rxStopped_work x).trans ((e.rxStopped x).txStopped_work x)
  have htx {r : Nat} (hr : r < 128) := (e.rxStopped x).txStopped_state x hr
  have hrx {r : Nat} (hr : r < 128) (hhost : e.fwRing r = false) := (congrArg RxRing.state ((e.rxStopped x).txStopped_rx x r)).trans
    (e.rxStopped_state x hr hhost)
  rw [Eng.pcieDown_eq x hlink]
  generalize (e.rxStopped x).txStopped x = e1 at hwork htx hrx
  have hfaults := (Eng.FaultsAlone.refl e1.linkless).condOn (x := x) 15 6 0
  have hwidth : e1.linkless.i Od.HOST_STATUS.link_width = 0 := by
    have h1 : Od.HOST_STATUS.link_width ≠ Od.HOST_STATUS.sticky := odKey_ne (by decide)
    have h2 : Od.HOST_STATUS.link_width ≠ Od.HOST_STATUS.link_rate_gts := odKey_ne (by decide)
    rw [Eng.linkless, Eng.orb_i, if_neg h1, Eng.set_i_other _ _ _ _ h2, Eng.set_i_same]
  have hsticky : e1.linkless.n Od.HOST_STATUS.sticky = e.n Od.HOST_STATUS.sticky ||| 1 := by
    have h1 : Od.HOST_STATUS.sticky ≠ Od.HOST_STATUS.link_width := odKey_ne (by decide)
    have h2 : Od.HOST_STATUS.sticky ≠ Od.HOST_STATUS.link_rate_gts := odKey_ne (by decide)
    rw [Eng.n, Eng.linkless, Eng.orb_i, if_pos rfl, Int.toNat_natCast, Eng.n, Eng.set_i_other _ _ _ _ h2, Eng.set_i_other _ _ _ _ h1]
    exact congrArg (fun v : Int => v.toNat ||| 1) (hwork.obj _ (hostStatus_notRing (by decide)))
  refine ⟨Eng.condOn_link .., Eng.condOn_hasCond (hinst := by decide) .., (hfaults.obj _ (by decide)).trans hwidth,
    (congrArg Int.toNat (hfaults.obj _ (by decide))).trans hsticky, fun r hr => ⟨?_, fun hhost => ?_⟩⟩
  · exact (congrArg TxRing.state (Eng.txRing_of (Eng.condOn_keeps (φ := .txRings) ..) r)).trans (htx hr)
  · exact (congrArg RxRing.state (Eng.rxRing_of (Eng.condOn_keeps (φ := .rxRings) ..) r)).trans (hrx hr hhost)

theorem Irq.atFunctionReset_arms (q : Irq) :
    q.atFunctionReset.armed = 2 ^ 64 - 1 ∧ q.atFunctionReset.masked = 2 ^ 64 - 1 ∧ q.atFunctionReset.pba = 0 :=
  ⟨rfl, rfl, rfl⟩

theorem Eng.functionReset_shows (posted : List (Nat × List Nat)) :
    ((e.functionReset x posted).irq.armed = 2 ^ 64 - 1 ∧ (e.functionReset x posted).irq.masked = 2 ^ 64 - 1 ∧
      (e.functionReset x posted).irq.pba = 0) ∧
    (e.functionReset x posted).wins = List.replicate 8 WinCtx.atReset ∧
    (e.functionReset x posted).n Od.HOST_STATUS.flr_count = (e.n Od.HOST_STATUS.flr_count + 1) % 2 ^ 32 ∧
    (∀ r < 128, ((e.functionReset x posted).txRing r).state = .disabled ∧
      (e.fwRing r = false → ((e.functionReset x posted).rxRing r).state = .disabled)) ∧
    ∀ p, ((e.functionReset x posted).tail p).entries = [] := by
  have hwork := e.rxDisabled_work.trans (e.rxDisabled.txDisabled_work x posted)
  have htx {r : Nat} (hr : r < 128) := e.rxDisabled.txDisabled_state x posted hr
  have hrx {r : Nat} (hr : r < 128) (hhost : e.fwRing r = false) := (congrArg RxRing.state (e.rxDisabled.txDisabled_rx x posted r)).trans
    (e.rxDisabled_state hr hhost)
  rw [Eng.functionReset_eq]
  generalize e.rxDisabled.txDisabled x posted = e1 at hwork htx hrx
  generalize hq : e1.hostEmpty.irq.atFunctionReset = q
  obtain ⟨hirq, hwins, htxRings, hrxRings, htails⟩ := e1.hostReset_leaves q
  have hcount : e1.n Od.HOST_STATUS.flr_count = e.n Od.HOST_STATUS.flr_count :=
    congrArg Int.toNat (hwork.obj _ (hostStatus_notRing (by decide)))
  refine ⟨?_, hwins, (e1.hostReset_counts q).trans (by rw [hcount]), fun r hr => ⟨?_, fun hhost => ?_⟩, fun p => ?_⟩
  · rw [hirq, ← hq]
    exact Irq.atFunctionReset_arms _
  · exact (congrArg (fun t : Tbl TxRing => (tgetD t r TxRing.atReset).state) htxRings).trans (htx hr)
  · exact (congrArg (fun t : Tbl RxRing => (tgetD t r RxRing.atReset).state) hrxRings).trans (hrx hr hhost)
  · exact (congrArg (fun t : List Tail => (nth t p Tail.atReset).entries) htails).trans (e1.hostEmpty_tail p)

/-! ## The link comes up (R324) -/

theorem Eng.vecScan_frame (v : Nat) : e.vecScan x v = { e with out := (e.vecScan x v).out, irq := (e.vecScan x v).irq } := by
  unfold Eng.vecScan
  split
  · exact Eng.vecPoke_frame ..
  · rfl

theorem Eng.vecScan_link (v : Nat) : (e.vecScan x v).irq.link = e.irq.link := by
  unfold Eng.vecScan
  split
  · exact Eng.vecPoke_link ..
  · rfl

/-- What a pass over the vectors leaves: what is neither the pins nor the interrupt logic, and the link. -/
theorem Eng.vecScans_leave (n : Nat) :
    let e' := (List.range n).foldl (fun e v => e.vecScan x v) e
    e'.od = e.od ∧ e'.flt = e.flt ∧ e'.irq.link = e.irq.link :=
  ⟨Eng.foldl_same Eng.od (fun e v => (congrArg Eng.od (e.vecScan_frame x v) :)) _ e,
    Eng.foldl_same Eng.flt (fun e v => (congrArg Eng.flt (e.vecScan_frame x v) :)) _ e,
    Eng.foldl_same (fun e => e.irq.link) (fun e v => e.vecScan_link x v) _ e⟩

/-- The link shown as up with its width and rate. -/
def Eng.linked (width rate : Nat) : Eng :=
  { (e.set Od.HOST_STATUS.link_width (min width 8 : Nat)).set Od.HOST_STATUS.link_rate_gts (min rate 32 : Nat) with
    irq := { e.irq with link := true } }

theorem Eng.pcieUp_eq (width rate : Nat) :
    e.pcieUp x width rate = (List.range 64).foldl (fun e v => e.vecScan x v) ((e.linked width rate).condOff x 15 6 0) := by
  unfold Eng.pcieUp Eng.linked
  rfl

theorem Eng.pcieUp_shows (width rate : Nat) :
    (e.pcieUp x width rate).irq.link = true ∧ (e.pcieUp x width rate).hasCond 15 6 0 = false ∧
      (e.pcieUp x width rate).n Od.HOST_STATUS.link_width = min width 8 ∧
      (e.pcieUp x width rate).n Od.HOST_STATUS.link_rate_gts = min rate 32 := by
  obtain ⟨hod, hflt, hlink⟩ := ((e.linked width rate).condOff x 15 6 0).vecScans_leave x 64
  rw [← e.pcieUp_eq x] at hod hflt hlink
  have hfaults := (Eng.FaultsAlone.refl (e.linked width rate)).condOff (x := x) 15 6 0
  have hn {k : Key} (hk : k < 0x68 * 65536) : (e.pcieUp x width rate).n k = (e.linked width rate).n k :=
    congrArg Int.toNat ((congrArg (sget · k) hod).trans (hfaults.obj k hk))
  have hne : Od.HOST_STATUS.link_width ≠ Od.HOST_STATUS.link_rate_gts := odKey_ne (by decide)
  refine ⟨hlink.trans (Eng.condOff_link ..), ?_, ?_, ?_⟩
  · exact (congrArg (fun f : Faults => f.conds.any (fun c => c.block == 15 && c.row == 6 && c.inst == 0)) hflt).trans
      (Eng.condOff_hasCond ..)
  · refine (hn (by decide)).trans ((congrArg Int.toNat ?_).trans (Int.toNat_natCast _))
    exact (Eng.set_i_other _ _ _ _ hne).trans (Eng.set_i_same ..)
  · exact (hn (by decide)).trans ((congrArg Int.toNat (Eng.set_i_same ..)).trans (Int.toNat_natCast _))

end

end Sys2Proof.Machine
end

section
/-! # The commands of the host's link, interrupts and windows (R324, R326, R335, R336, R339, R341) -/

namespace Sys2Proof.Machine

/-! ## Interrupts (R335, R336) -/

section
variable (e : Eng) (x : Ctx)

/-- The engine with the vectors of a mask armed. -/
def Eng.armedBy (mask : Nat) : Eng := { e with irq := { e.irq with armed := e.irq.armed ||| mask % 2 ^ 64 } }

theorem Eng.fresh_armedBy (mask : Nat) :
    e.fresh.armedBy mask = { e with out := [], irq := { e.irq with armed := e.irq.armed ||| mask % 2 ^ 64 } } := by
  unfold Eng.armedBy Eng.fresh
  rfl

/-- Arming finds nothing to send where no vector's source waits. -/
theorem Eng.vecArm_idle (mask : Nat) (hidle : ∀ v : Fin 64, e.vecPending v = false) : e.vecArm x mask = e.armedBy mask := by
  have hscan : ∀ v < 64, (e.armedBy mask).vecScan x v = e.armedBy mask := fun v hv =>
    if_neg (Bool.eq_false_iff.1 (show (e.armedBy mask).vecPending v = false from hidle ⟨v, hv⟩))
  have hfold (n : Nat) (hn : n ≤ 64) :
      (List.range n).foldl (fun e v => if bitOf mask v then e.vecScan x v else e) (e.armedBy mask) = e.armedBy mask := by
    induction n with
    | zero => rfl
    | succ n ih =>
      rw [List.range_succ, List.foldl_append, List.foldl_cons, List.foldl_nil, ih (by omega), hscan n (by omega), ite_self]
  exact hfold 64 (le_refl 64)

variable {e x} {v : Nat}

theorem Eng.vecScan_ready (hpending : e.vecPending v = true) (hready : e.vecReady x v = true) :
    e.vecScan x v = if bitOf e.irq.masked v then { e with irq := { e.irq with pba := e.irq.pba ||| 2 ^ v } }
      else { e with irq := { e.irq with
          armed := clearBits e.irq.armed (2 ^ v), pba := clearBits e.irq.pba (2 ^ v),
          lastMsg := tput e.irq.lastMsg v (x.st 0) } }.emit (.msix v) := by
  rw [Eng.vecScan, if_pos hpending, Eng.vecPoke, if_pos hready]

theorem bitOf_clearBits_self (n v : Nat) : bitOf (clearBits n (2 ^ v)) v = false := by
  rw [bitOf_clearBits, show bitOf (2 ^ v) v = true from Nat.testBit_two_pow_self, Bool.not_true, Bool.and_false]

theorem Eng.vecPoke_masked : (e.vecPoke x v).irq.masked = e.irq.masked := by
  unfold Eng.vecPoke
  split
  · split <;> rfl
  · rfl

/-- A mask bit reads as it was written, and no object changes. -/
theorem Eng.vecMask_shows (masked : Bool) : bitOf (e.vecMask x v masked).irq.masked v = masked ∧ (e.vecMask x v masked).od = e.od := by
  cases masked with
  | true => exact ⟨bitOf_or_two_pow _ _, rfl⟩
  | false =>
    have hclear := bitOf_clearBits_self e.irq.masked v
    unfold Eng.vecMask
    rw [if_neg Bool.false_ne_true]
    dsimp only
    split
    · exact ⟨(congrArg (bitOf · v) Eng.vecPoke_masked).trans hclear, (congrArg Eng.od (Eng.vecPoke_frame ..) :)⟩
    · exact ⟨hclear, rfl⟩

/-- Where no event falls in this tick the bits of a clear are all cleared. -/
theorem irqClear_clears (mask : Nat) (hquiet : ∀ p ∈ e.irq.latchTick, p.2 ≠ x.tick) :
    irqClear x mask e = (stOk, { e with irq := { e.irq with latched := clearBits e.irq.latched mask } }) := by
  have hkeep : e.irq.latchTick.foldl (fun m p => if p.2 = x.tick then m ||| 2 ^ p.1 else m) 0 = 0 := by
    generalize e.irq.latchTick = l at hquiet
    induction l with
    | nil => rfl
    | cons p l ih =>
      obtain ⟨hp, hl⟩ := List.forall_mem_cons.1 hquiet
      rw [List.foldl_cons, if_neg hp, ih hl]
  have hmask : clearBits (mask : Int).toNat 0 = mask := by simp [clearBits]
  unfold irqClear
  dsimp only
  rw [hkeep, hmask]

/-! ## Tail queues and window contexts (R339, R341) -/

theorem Eng.tail_modNth (p : Nat) (f : Tail → Tail) :
    ({ e with tails := modNth e.tails p f } : Eng).tail p = if p < e.tails.length then f (e.tail p) else Tail.atReset := by
  refine (nth_modNth ..).trans ?_
  by_cases hp : p < e.tails.length
  · rw [if_pos ⟨rfl, hp⟩, if_pos hp]
    rfl
  · rw [if_neg fun h => hp h.2, if_neg hp, nth, List.getD_eq_default _ _ (Nat.le_of_not_lt hp)]

theorem Eng.tail_outside {p : Nat} (hp : ¬ p < e.tails.length) : e.tail p = Tail.atReset :=
  List.getD_eq_default _ _ (Nat.le_of_not_lt hp)

theorem Eng.tailPop_entries (p n : Nat) : ((e.tailPop p n).tail p).entries = (e.tail p).entries.drop n := by
  rw [Eng.tailPop, Eng.tail_modNth]
  by_cases hp : p < e.tails.length
  · rw [if_pos hp]
  · rw [if_neg hp, Eng.tail_outside hp]
    exact List.drop_nil.symm

theorem Eng.tailClear_clears {p : Nat} (hquiet : (e.tail p).overflowTick ≠ x.tick) :
    ((e.tailClear x p).tail p).overflow = false ∧ ((e.tailClear x p).tail p).entries = (e.tail p).entries := by
  rw [Eng.tailClear, Eng.tail_modNth]
  by_cases hp : p < e.tails.length
  · rw [if_pos hp, if_neg hquiet]
    exact ⟨rfl, rfl⟩
  · rw [if_neg hp, Eng.tail_outside hp]
    exact ⟨rfl, rfl⟩

theorem Eng.modWin_win {c : Nat} (hc : c < e.wins.length) (f : WinCtx → WinCtx) : (e.modWin c f).win c = f (e.win c) :=
  (nth_modNth ..).trans (if_pos ⟨rfl, hc⟩)

theorem Eng.winWrite_length {c : Nat} (hc : c < e.wins.length) (hidle : (e.win c).state ≠ 1) (n : Nat) :
    (e.winWrite c (.reqLen n)).win c = { e.win c with reqLen := n % 65536 } := by
  rw [Eng.winWrite, if_neg hidle]
  exact Eng.modWin_win hc _

theorem Eng.winWrite_pending {c : Nat} (hbusy : (e.win c).state = 1) (w : WindowWrite) :
    (e.winWrite c w).wins = e.wins ∧ (e.winWrite c w).n Od.HOST_STATUS.window_err = (e.n Od.HOST_STATUS.window_err + 1) % 2 ^ 32 := by
  have hne : Od.HOST_STATUS.window_err ≠ Od.HOST_STATUS.sticky := odKey_ne (by decide)
  unfold Eng.winWrite
  rw [if_pos hbusy]
  refine ⟨rfl, ?_⟩
  rw [Eng.n, Eng.orb_i, if_neg hne]
  exact Eng.inc32_n_same ..

theorem Eng.winSubmit_disabled {c : Nat} (hc : c < e.wins.length) (hoff : e.b Od.HOST_DICT.enable = false) (hidle : (e.win c).state ≠ 1) :
    ((e.winSubmit x c).win c).state = 3 ∧ ((e.winSubmit x c).win c).cause = 6 := by
  rw [Eng.winSubmit]
  dsimp only
  rw [if_neg hidle, hoff, Bool.not_false, if_pos rfl, Eng.winError, Eng.modWin_win hc]
  exact ⟨rfl, rfl⟩

/-- A request of the right length goes to the front. -/
theorem Eng.winSubmit_submits {c : Nat} (hc : c < e.wins.length) (hon : e.b Od.HOST_DICT.enable = true) (hidle : (e.win c).state ≠ 1)
    (hlow : 1 ≤ (e.win c).reqLen) (hhigh : (e.win c).reqLen ≤ 1452) (hcreds : e.boot.creds = true) :
    ((e.winSubmit x c).win c).state = 1 ∧ (e.winSubmit x c).od = e.od ∧
      ∃ a, (e.winSubmit x c).inbox = e.inbox ++ [a] ∧ a.path = .window c ∧ a.tick = x.tick ∧
        a.bytes = (padTo 1536 (e.win c).request).take (e.win c).reqLen := by
  have hsubmit : e.winSubmit x c =
      (e.modWin c (fun w => { w with state := 1, cause := 0 })).arrive x (.window c) ((padTo 1536 (e.win c).request).take (e.win c).reqLen) := by
    rw [Eng.winSubmit]
    dsimp only
    rw [if_neg hidle, hon, Bool.not_true, if_neg Bool.false_ne_true, if_neg (by omega)]
  rw [hsubmit, Eng.arrive, if_pos (c := (e.modWin c _).boot.creds = true) hcreds]
  exact ⟨congrArg WinCtx.state (Eng.modWin_win hc _), rfl, _, rfl, rfl, rfl, rfl⟩

end

/-! ## The commands -/

section
variable {s : State} (hup : s.eng.up = true)

include hup

theorem exec_pcieLinkDown_stops (hlink : s.eng.irq.link = true) :
    ∃ t, exec .pcieLinkDown s = .next t ∧ s.beside t ∧ t.eng.irq.link = false ∧ t.eng.hasCond 15 6 0 = true ∧
      t.eng.i Od.HOST_STATUS.link_width = 0 ∧ t.eng.n Od.HOST_STATUS.sticky = s.eng.n Od.HOST_STATUS.sticky ||| 1 ∧
      ∀ r : Fin 128, (t.eng.txRing r).state = .stopped ∧ (s.eng.fwRing r = false → (t.eng.rxRing r).state = .stopped) := by
  obtain ⟨hdown, hcond, hwidth, hsticky, hrings⟩ := Eng.pcieDown_shows (e := s.eng0) s.ctx hlink
  exact ⟨_, (exec_pcieLinkDown s).trans (lift_up hup _), ⟨rfl, rfl, rfl⟩, hdown, hcond, hwidth, hsticky, fun r => hrings r r.isLt⟩

theorem exec_functionLevelReset_disables (hlink : s.eng.irq.link = true) (posted : List (Nat × List Nat)) :
    ∃ t, exec (.functionLevelReset posted) s = .next t ∧ s.beside t ∧
      t.eng.irq.armed = 2 ^ 64 - 1 ∧ t.eng.irq.masked = 2 ^ 64 - 1 ∧ t.eng.irq.pba = 0 ∧ t.eng.wins = List.replicate 8 WinCtx.atReset ∧
      t.eng.n Od.HOST_STATUS.flr_count = (s.eng.n Od.HOST_STATUS.flr_count + 1) % 2 ^ 32 ∧
      (∀ r : Fin 128, (t.eng.txRing r).state = .disabled ∧ (s.eng.fwRing r = false → (t.eng.rxRing r).state = .disabled)) ∧
      ∀ p : Fin 32, (t.eng.tail p).entries = [] := by
  obtain ⟨⟨harmed, hmasked, hpba⟩, hwins, hcount, hrings, htails⟩ := s.eng0.functionReset_shows s.ctx posted
  exact ⟨_, (exec_functionLevelReset posted s).trans (overLink_up hup hlink _), ⟨rfl, rfl, rfl⟩, harmed, hmasked, hpba, hwins, hcount,
    fun r => hrings r r.isLt, fun p => htails p⟩

theorem exec_vecHoldoffEnd_sends {vector : Fin 64} (hpending : s.eng.vecPending vector = true)
    (hready : s.eng.vecReady s.ctx vector = true) (hmask : bitOf s.eng.irq.masked vector = false) :
    ∃ t, exec (.vecHoldoffEnd vector) s = .next t ∧ s.beside t ∧ t.eng.out = [.msix vector] ∧ bitOf t.eng.irq.armed vector = false ∧
      t.eng.od = s.eng.od := by
  refine ⟨_, (exec_vecHoldoffEnd vector s).trans (lift_up hup _), ⟨rfl, rfl, rfl⟩, ?_⟩
  dsimp only
  rw [Eng.vecScan_ready (e := s.eng0) hpending hready, if_neg (c := bitOf s.eng0.irq.masked vector = true) (Bool.eq_false_iff.1 hmask)]
  exact ⟨rfl, bitOf_clearBits_self .., rfl⟩

theorem exec_vecHoldoffEnd_keepsPending {vector : Fin 64} (hpending : s.eng.vecPending vector = true)
    (hready : s.eng.vecReady s.ctx vector = true) (hmask : bitOf s.eng.irq.masked vector = true) :
    ∃ t, exec (.vecHoldoffEnd vector) s = .next t ∧ s.beside t ∧ t.eng.out = [] ∧ bitOf t.eng.irq.pba vector = true ∧
      t.eng.od = s.eng.od := by
  refine ⟨_, (exec_vecHoldoffEnd vector s).trans (lift_up hup _), ⟨rfl, rfl, rfl⟩, ?_⟩
  dsimp only
  rw [Eng.vecScan_ready (e := s.eng0) hpending hready, if_pos (c := bitOf s.eng0.irq.masked vector = true) hmask]
  exact ⟨rfl, bitOf_or_two_pow _ _, rfl⟩

theorem exec_irqPendingClear_clears {mask roles : Nat} (had : s.eng.admits Od.HOST_IRQ_PENDING mask roles = true)
    (hquiet : ∀ p ∈ s.eng.irq.latchTick, p.2 ≠ s.core.tick) :
    ∃ t, exec (.irqPendingClear mask roles) s = .next t ∧ s.accepted t ∧
      t.eng.irq = { s.eng.irq with latched := clearBits s.eng.irq.latched mask } := by
  obtain ⟨t, ht, hans⟩ := lift_writeCmd_answersOk (op := fun x => irqClear x mask) hup had
    (irqClear_clears (e := s.eng0) (x := s.ctx) mask hquiet)
  exact ⟨t, (exec_irqPendingClear mask roles s).trans ht, hans.accepted, (congrArg Eng.irq hans.rest :)⟩

end

/-- Settles O54: each command leaves what its lemma above says. -/
theorem hostLinkInterruptsTailsAndWindows : Obligations.HostLinkInterruptsTailsAndWindows := by
  intro s hup
  refine ⟨fun hlink => ⟨exec_pcieLinkDown_stops hup hlink, exec_functionLevelReset_disables hup hlink⟩, fun width rate => ?_,
    fun mask hlink hidle => ?_, fun vector hpending hready => ⟨exec_vecHoldoffEnd_sends hup hpending hready,
      exec_vecHoldoffEnd_keepsPending hup hpending hready⟩, fun vector masked hlink => ?_,
    fun mask roles had => exec_irqPendingClear_clears hup had, fun port value hlink => ⟨?_, fun hquiet => ?_⟩,
    fun ctx hlink hlen => ?_⟩
  · have hlift := lift_up hup (fun x e => e.pcieUp x width rate)
    refine ⟨_, hlift, lift_beside hlift, ?_⟩
    dsimp only
    exact s.eng0.pcieUp_shows s.ctx width rate
  · have harm : s.eng0.vecArm s.ctx mask = s.eng0.armedBy mask := Eng.vecArm_idle _ _ mask hidle
    refine ⟨_, (exec_vecArmWrite mask s).trans (overLink_up hup hlink _), ⟨rfl, rfl, rfl⟩, ?_⟩
    exact harm.trans (Eng.fresh_armedBy ..)
  · exact ⟨_, (exec_msixMaskWrite vector masked s).trans (overLink_up hup hlink _), ⟨rfl, rfl, rfl⟩, Eng.vecMask_shows masked⟩
  · exact ⟨_, (exec_tailPop port value s).trans (overLink_up hup hlink _), ⟨rfl, rfl, rfl⟩, rfl, Eng.tailPop_entries ..⟩
  · exact ⟨_, (exec_tailOverflowClear port s).trans (overLink_up hup hlink _), ⟨rfl, rfl, rfl⟩, rfl,
      Eng.tailClear_clears (e := s.eng0) (x := s.ctx) hquiet⟩
  · have hctx : ctx.val < s.eng0.wins.length := ctx.isLt.trans_eq hlen.symm
    have hdoorbell := (exec_windowDoorbell ctx 1 s).trans (overLink_up hup hlink _)
    refine ⟨fun n hidle => ?_, fun w hbusy => ?_, fun hon hidle hlow hhigh hcreds => ?_, fun hoff hidle => ?_⟩
    · exact ⟨_, (exec_windowRequestWrite ctx _ s).trans (overLink_up hup hlink _), ⟨rfl, rfl, rfl⟩,
        Eng.winWrite_length (e := s.eng0) hctx hidle n⟩
    · exact ⟨_, (exec_windowRequestWrite ctx w s).trans (overLink_up hup hlink _), ⟨rfl, rfl, rfl⟩,
        Eng.winWrite_pending (e := s.eng0) hbusy w⟩
    · exact ⟨_, hdoorbell, ⟨rfl, rfl, rfl⟩, Eng.winSubmit_submits (e := s.eng0) (x := s.ctx) hctx hon hidle hlow hhigh hcreds⟩
    · exact ⟨_, hdoorbell, ⟨rfl, rfl, rfl⟩, Eng.winSubmit_disabled (e := s.eng0) (x := s.ctx) hctx hoff hidle⟩

end Sys2Proof.Machine
end

section
/-! # The commands of the rings (R328, R330, R332, R334, R335, R342) -/

namespace Sys2Proof.Machine

/-! ## Enabling and disabling (R330) -/

theorem Eng.fwRing_of_od {e e' : Eng} (hod : e'.od = e.od) (r : Nat) : e'.fwRing r = e.fwRing r := by
  unfold Eng.fwRing Eng.b Eng.n Eng.i
  rw [hod]

theorem Eng.ringOk_of_od {e e' : Eng} (hod : e'.od = e.od) (tx : Bool) (r : Nat) : e'.ringOk tx r = e.ringOk tx r := by
  unfold Eng.ringOk Eng.n Eng.i
  rw [hod]

/-- Enables are members of the rings' configuration, which no configuration check reads. -/
theorem Eng.ringOk_enabled (e : Eng) (tx : Bool) (r : Nat) (v : Int) :
    (e.setAll [(if tx then Od.TX_RING_CFG.enable r else Od.RX_RING_CFG.enable r, v)]).ringOk tx r = e.ringOk tx r := by
  have hother {i m : Nat} (hm : m < 16) (hm1 : m ≠ 1) : (e.set (odKey 0x58 i 1) v).i (odKey 0x58 i m) = e.i (odKey 0x58 i m) :=
    Eng.set_i_other _ _ _ _ (odKey_ne (by omega))
  cases tx with
  | true => exact congrArg (fun n : Int => n.toNat % 4096 == 0) (hother (by decide) (by decide))
  | false =>
    exact congrArg₂ (fun n m : Int => n.toNat % 4096 == 0 && m.toNat % 64 == 0) (hother (by decide) (by decide))
      (hother (by decide) (by decide))

section
variable {e : Eng} {x : Ctx} {r : Nat}

theorem ringWrite_startsTx (hstate : (e.txRing r).state = .disabled) (hok : e.ringOk true r = true) (posted : List Nat) :
    ringWrite x true r posted [(Od.TX_RING_CFG.enable r, 1)] e = (stOk, (e.setAll [(Od.TX_RING_CFG.enable r, 1)]).startTx r) := by
  have hok' := (e.ringOk_enabled true r 1).trans hok
  simp only [if_true] at hok'
  simp [ringWrite, hstate, hok']

theorem ringWrite_startsRx (hfw : e.fwRing r = false) (hstate : (e.rxRing r).state = .disabled) (hok : e.ringOk false r = true)
    (posted : List Nat) :
    ringWrite x false r posted [(Od.RX_RING_CFG.enable r, 1)] e = (stOk, (e.setAll [(Od.RX_RING_CFG.enable r, 1)]).startRx r) := by
  have hok' := (e.ringOk_enabled false r 1).trans hok
  simp only [Bool.false_eq_true, if_false] at hok'
  simp [ringWrite, hstate, hok', hfw]

theorem ringWrite_endsTx (posted : List Nat) :
    ringWrite x true r posted [(Od.TX_RING_CFG.enable r, 0)] e =
      (stOk, (e.setAll [(Od.TX_RING_CFG.enable r, 0)]).disableTx x r posted) := by
  simp [ringWrite]

theorem ringWrite_endsRx (hfw : e.fwRing r = false) (posted : List Nat) :
    ringWrite x false r posted [(Od.RX_RING_CFG.enable r, 0)] e = (stOk, (e.setAll [(Od.RX_RING_CFG.enable r, 0)]).disableRx r) := by
  simp [ringWrite, hfw]

theorem Eng.startTx_od : (e.startTx r).od = e.od := rfl

theorem Eng.startRx_od : (e.startRx r).od = e.od := rfl

theorem Eng.startTx_state : ((e.startTx r).txRing r).state = .running :=
  congrArg TxRing.state ((e.modTx_txRing ..).trans (if_pos rfl))

theorem Eng.startRx_state : ((e.startRx r).rxRing r).state = .running :=
  congrArg RxRing.state ((e.modRx_rxRing ..).trans (if_pos rfl))

end

/-- An answered write of one member of a ring's configuration stored that member and no other object. -/
theorem State.Answers.ringStored {s t : State} {i m : Nat} {v : Int} {e : Eng} (h : s.Answers stOk e t) (hkey : i * 16 + m < 65536)
    (hod : e.od = (s.eng0.setAll [(odKey 0x58 i m, v)]).od) : s.stored t [(odKey 0x58 i m, v)] := by
  have hobj (j : Key) (hj : accounting j = false) : t.eng.i j = (s.eng0.set (odKey 0x58 i m) v).i j :=
    (h.obj j hj).trans (congrArg (sget · j) hod)
  refine ⟨h.status, List.forall_mem_singleton.2 ?_, fun k hk hacc => ?_, h.beside⟩
  · exact (hobj _ (accounting_area (by decide) hkey)).trans (Eng.set_i_same ..)
  · exact (hobj k hacc).trans (Eng.set_i_other _ _ _ _ (hk _ (List.mem_singleton_self _)))

theorem State.Answers.txRing {s t : State} {st : Nat} {e : Eng} (h : s.Answers st e t) (r : Nat) : t.eng.txRing r = e.txRing r :=
  congrArg (fun l : Tbl TxRing => tgetD l r TxRing.atReset) (congrArg Eng.txRings h.rest :)

theorem State.Answers.rxRing {s t : State} {st : Nat} {e : Eng} (h : s.Answers st e t) (r : Nat) : t.eng.rxRing r = e.rxRing r :=
  congrArg (fun l : Tbl RxRing => tgetD l r RxRing.atReset) (congrArg Eng.rxRings h.rest :)

section
variable {s : State} {ring : Fin 128} (hup : s.eng.up = true)

include hup

theorem exec_ringEnable_startsTx {roles : Nat} (had : s.eng.admits (Od.TX_RING_CFG.enable ring) 1 roles = true)
    (hstate : (s.eng.txRing ring).state = .disabled) (hok : s.eng.ringOk true ring = true) :
    ∃ t, exec (.ringEnable true ring roles) s = .next t ∧ s.stored t [(Od.TX_RING_CFG.enable ring, 1)] ∧
      (t.eng.txRing ring).state = .running := by
  have hok' : s.eng0.ringOk true ring = true := (Eng.ringOk_of_od rfl ..).trans hok
  obtain ⟨t, ht, hans⟩ := lift_writeCmd_answersOk (op := fun x => ringWrite x true ring [] [(Od.TX_RING_CFG.enable ring, 1)]) hup had
    (ringWrite_startsTx (e := s.eng0) (x := s.ctx) hstate hok' [])
  exact ⟨t, (exec_ringEnable true ring roles s).trans ht, hans.ringStored (by omega) Eng.startTx_od,
    (congrArg TxRing.state (hans.txRing ring)).trans Eng.startTx_state⟩

theorem exec_ringEnable_startsRx {roles : Nat} (hfw : s.eng.fwRing ring = false)
    (had : s.eng.admits (Od.RX_RING_CFG.enable ring) 1 roles = true)
    (hstate : (s.eng.rxRing ring).state = .disabled) (hok : s.eng.ringOk false ring = true) :
    ∃ t, exec (.ringEnable false ring roles) s = .next t ∧ s.stored t [(Od.RX_RING_CFG.enable ring, 1)] ∧
      (t.eng.rxRing ring).state = .running := by
  have hfw' : s.eng0.fwRing ring = false := (Eng.fwRing_of_od rfl _).trans hfw
  have hok' : s.eng0.ringOk false ring = true := (Eng.ringOk_of_od rfl ..).trans hok
  obtain ⟨t, ht, hans⟩ := lift_writeCmd_answersOk (op := fun x => ringWrite x false ring [] [(Od.RX_RING_CFG.enable ring, 1)]) hup had
    (ringWrite_startsRx (e := s.eng0) (x := s.ctx) hfw' hstate hok' [])
  exact ⟨t, (exec_ringEnable false ring roles s).trans ht, hans.ringStored (by omega) Eng.startRx_od,
    (congrArg RxRing.state (hans.rxRing ring)).trans Eng.startRx_state⟩

theorem exec_ringDisable_endsTx {roles : Nat} (posted : List Nat) (had : s.eng.admits (Od.TX_RING_CFG.enable ring) 0 roles = true) :
    ∃ t, exec (.ringDisable true ring posted roles) s = .next t ∧ s.accepted t ∧ t.eng.i (Od.TX_RING_CFG.enable ring) = 0 ∧
      (t.eng.txRing ring).state = .disabled := by
  obtain ⟨t, ht, hans⟩ := lift_writeCmd_answersOk (op := fun x => ringWrite x true ring posted [(Od.TX_RING_CFG.enable ring, 0)]) hup had
    (ringWrite_endsTx (e := s.eng0) (x := s.ctx) posted)
  obtain ⟨hwork, hstates⟩ := Eng.disableTx_work (e := s.eng0.setAll [(Od.TX_RING_CFG.enable ring, 0)]) s.ctx ring.isLt posted
  refine ⟨t, (exec_ringDisable true ring posted roles s).trans ht, hans.accepted, ?_, ?_⟩
  · refine (hans.obj _ (accounting_area (by decide) (by omega))).trans ?_
    refine (hwork.obj _ (not_ringStatus (by decide) (.inr (.inr ⟨by omega, by omega⟩)))).trans ?_
    exact Eng.set_i_same ..
  · exact (congrArg TxRing.state (hans.txRing ring)).trans ((hstates ring).trans (if_pos rfl))

theorem exec_ringDisable_endsRx {roles : Nat} (posted : List Nat) (hfw : s.eng.fwRing ring = false)
    (had : s.eng.admits (Od.RX_RING_CFG.enable ring) 0 roles = true) :
    ∃ t, exec (.ringDisable false ring posted roles) s = .next t ∧ s.accepted t ∧ t.eng.i (Od.RX_RING_CFG.enable ring) = 0 ∧
      (t.eng.rxRing ring).state = .disabled := by
  have hfw' : s.eng0.fwRing ring = false := (Eng.fwRing_of_od rfl _).trans hfw
  obtain ⟨t, ht, hans⟩ := lift_writeCmd_answersOk (op := fun x => ringWrite x false ring posted [(Od.RX_RING_CFG.enable ring, 0)]) hup had
    (ringWrite_endsRx (e := s.eng0) (x := s.ctx) hfw' posted)
  refine ⟨t, (exec_ringDisable false ring posted roles s).trans ht, hans.accepted, ?_, ?_⟩
  · exact (hans.obj _ (accounting_area (by decide) (by omega))).trans (Eng.set_i_same ..)
  · exact (congrArg RxRing.state (hans.rxRing ring)).trans
      (congrArg RxRing.state ((Eng.disableRx_rxRing ..).trans (if_pos rfl)))

end

/-! ## Doorbells (R328, R335) -/

section
variable {e : Eng} {x : Ctx} {r v : Nat}

theorem Eng.doorTx_moves (hok : prodOk (2 ^ e.n (Od.TX_RING_CFG.size_log2 r)) (e.txRing r).prod (e.txRing r).cons v = true) :
    (e.doorTx r v).od = e.od ∧ (e.doorTx r v).txRing r = { e.txRing r with prod := v } := by
  rw [Eng.doorTx, if_pos hok]
  exact ⟨rfl, (e.modTx_txRing ..).trans (if_pos rfl)⟩

theorem Eng.doorTx_wrong (hbad : prodOk (2 ^ e.n (Od.TX_RING_CFG.size_log2 r)) (e.txRing r).prod (e.txRing r).cons v = false) :
    (e.doorTx r v).txRing r = e.txRing r ∧
      (e.doorTx r v).n (Od.TX_RING_STATUS.doorbell_err r) = (e.n (Od.TX_RING_STATUS.doorbell_err r) + 1) % 2 ^ 32 := by
  have hne : Od.TX_RING_STATUS.doorbell_err r ≠ Od.TX_RING_STATUS.sticky r := odKey_ne (by omega)
  rw [Eng.doorTx, if_neg (Bool.eq_false_iff.1 hbad)]
  refine ⟨rfl, (congrArg Int.toNat ((Eng.orb_i ..).trans (if_neg hne))).trans ?_⟩
  exact Eng.inc32_n_same ..

theorem Eng.doorRx_moves (hfw : e.fwRing r = false)
    (hok : prodOk (2 ^ e.n (Od.RX_RING_CFG.size_log2 r)) (e.rxRing r).prod (e.rxRing r).cons v = true) :
    (e.doorRx r v).od = e.od ∧ (e.doorRx r v).rxRing r = { e.rxRing r with prod := v } := by
  rw [Eng.doorRx, if_neg (Bool.eq_false_iff.1 hfw), if_pos hok]
  exact ⟨rfl, (e.modRx_rxRing ..).trans (if_pos rfl)⟩

theorem Eng.doorRx_wrong (hfw : e.fwRing r = false)
    (hbad : prodOk (2 ^ e.n (Od.RX_RING_CFG.size_log2 r)) (e.rxRing r).prod (e.rxRing r).cons v = false) :
    (e.doorRx r v).rxRing r = e.rxRing r ∧
      (e.doorRx r v).n (Od.RX_RING_STATUS.doorbell_err r) = (e.n (Od.RX_RING_STATUS.doorbell_err r) + 1) % 2 ^ 32 := by
  have hne : Od.RX_RING_STATUS.doorbell_err r ≠ Od.RX_RING_STATUS.sticky r := odKey_ne (by omega)
  rw [Eng.doorRx, if_neg (Bool.eq_false_iff.1 hfw), if_neg (Bool.eq_false_iff.1 hbad)]
  refine ⟨rfl, (congrArg Int.toNat ((Eng.orb_i ..).trans (if_neg hne))).trans ?_⟩
  exact Eng.inc32_n_same ..

theorem Eng.doorAck_movesTx : (e.doorAck x true r v).od = e.od ∧ (e.doorAck x true r v).txRing r = { e.txRing r with ack := v } := by
  have hring : (e.modTx r (fun g => { g with ack := v })).txRing r = { e.txRing r with ack := v } :=
    (e.modTx_txRing ..).trans (if_pos rfl)
  rw [Eng.doorAck, if_pos rfl]
  dsimp only
  split
  · exact ⟨rfl, hring⟩
  · exact ⟨Eng.irqPoke_od .., (Eng.txRing_of (Eng.irqPoke_keeps (φ := .txRings) ..) r).trans hring⟩

theorem Eng.doorAck_movesRx (hfw : e.fwRing r = false) :
    (e.doorAck x false r v).od = e.od ∧ (e.doorAck x false r v).rxRing r = { e.rxRing r with ack := v } := by
  have hring : (e.modRx r (fun g => { g with ack := v })).rxRing r = { e.rxRing r with ack := v } :=
    (e.modRx_rxRing ..).trans (if_pos rfl)
  rw [Eng.doorAck, if_neg Bool.false_ne_true, if_neg (Bool.eq_false_iff.1 hfw)]
  dsimp only
  split
  · exact ⟨rfl, hring⟩
  · exact ⟨Eng.irqPoke_od .., (Eng.rxRing_of (Eng.irqPoke_keeps (φ := .rxRings) ..) r).trans hring⟩

end

end Sys2Proof.Machine
end

section
/-! # Deliveries, takes and time-outs of the rings (R332, R334, R342) -/

namespace Sys2Proof.Machine

/-! ## A delivery (R332) -/

section
variable {e : Eng} {x : Ctx} {h : HeldFrame} {bufs : List Nat} {n : Nat}

/-- What a frame cut short counts in its ring. -/
def Eng.rxTruncated (e : Eng) (r lost : Nat) : Eng :=
  ((e.inc64 (Od.RX_RING_STATUS.trunc_frames r)).add 64 (Od.RX_RING_STATUS.trunc_bytes r) lost).orb (Od.RX_RING_STATUS.sticky r) 4

/-- A frame written into `n` buffers of its ring and counted. -/
def Eng.rxTaken (e : Eng) (r n : Nat) (ws : List Output) : Eng :=
  ({ e with out := e.out ++ ws }.modRx r (fun g => { g with cons := (g.cons + n) % 2 ^ 32 })).inc64 (Od.RX_RING_STATUS.frames r)

theorem Eng.rxTruncated_frames (e : Eng) (r lost : Nat) :
    (e.rxTruncated r lost).i (Od.RX_RING_STATUS.frames r) = e.i (Od.RX_RING_STATUS.frames r) := by
  have hsticky : Od.RX_RING_STATUS.frames r ≠ Od.RX_RING_STATUS.sticky r := odKey_ne (by omega)
  have hbytes : Od.RX_RING_STATUS.frames r ≠ Od.RX_RING_STATUS.trunc_bytes r := odKey_ne (by omega)
  have hcount : Od.RX_RING_STATUS.frames r ≠ Od.RX_RING_STATUS.trunc_frames r := odKey_ne (by omega)
  rw [Eng.rxTruncated, Eng.orb_i, if_neg hsticky, Eng.add_i, if_neg hbytes, Eng.inc64_i, if_neg hcount]

theorem Eng.rxTaken_rxRing (e : Eng) (r n : Nat) (ws : List Output) :
    (e.rxTaken r n ws).rxRing r = { e.rxRing r with cons := ((e.rxRing r).cons + n) % 2 ^ 32 } :=
  ({ e with out := e.out ++ ws }.modRx_rxRing r (fun g => { g with cons := (g.cons + n) % 2 ^ 32 }) r).trans (if_pos rfl)

theorem Eng.rxTaken_frames (e : Eng) (r n : Nat) (ws : List Output) :
    (e.rxTaken r n ws).n (Od.RX_RING_STATUS.frames r) = (e.n (Od.RX_RING_STATUS.frames r) + 1) % 2 ^ 64 := Eng.inc64_n_same ..

/-- A frame written into `n` buffers moves its ring's consumer index past them and is counted. -/
theorem Eng.rxWrite_delivers (p : Nat) (hrun : (e.rxRing h.ring).state = .running)
    (hn : n = min (max 1 (ceilDiv h.bytes.length (e.n (Od.RX_RING_CFG.buf_size h.ring))))
      (((e.rxRing h.ring).prod + 2 ^ 32 - (e.rxRing h.ring).cons) % 2 ^ 32))
    (hn0 : n ≠ 0) (haligned : ∀ a ∈ bufs.take n, a % 64 = 0) :
    ((e.rxWrite x p h bufs).rxRing h.ring).cons = ((e.rxRing h.ring).cons + n) % 2 ^ 32 ∧
      (e.rxWrite x p h bufs).n (Od.RX_RING_STATUS.frames h.ring) = (e.n (Od.RX_RING_STATUS.frames h.ring) + 1) % 2 ^ 64 := by
  have hready : ¬ ((e.rxRing h.ring).state ≠ .running ∨
      ((e.rxRing h.ring).prod + 2 ^ 32 - (e.rxRing h.ring).cons) % 2 ^ 32 = 0) :=
    not_or.2 ⟨not_not.2 hrun, fun hnone => hn0 (hn.trans (by rw [hnone, Nat.min_zero]))⟩
  have hany : (bufs.take n).any (fun a => a % 64 != 0) = false :=
    List.any_eq_false.2 fun a ha => Bool.eq_false_iff.1 (bne_eq_false_iff_eq.2 (haligned a ha))
  obtain ⟨ws, lost, trunc, hwrite⟩ : ∃ ws lost, ∃ trunc : Bool, e.rxWrite x p h bufs =
      (if trunc = true then (e.rxTaken h.ring n ws).rxTruncated h.ring lost else e.rxTaken h.ring n ws).irqPoke x (160 + h.ring / 4) := by
    unfold Eng.rxWrite
    dsimp only
    rw [if_neg hready, ← hn, if_neg (Bool.eq_false_iff.1 hany)]
    exact ⟨_, _, _, rfl⟩
  have hrings (e : Eng) : (if trunc = true then e.rxTruncated h.ring lost else e).rxRings = e.rxRings := by
    split <;> rfl
  have hframes (e : Eng) : (if trunc = true then e.rxTruncated h.ring lost else e).i (Od.RX_RING_STATUS.frames h.ring) =
      e.i (Od.RX_RING_STATUS.frames h.ring) := by
    split
    · exact Eng.rxTruncated_frames ..
    · rfl
  rw [hwrite]
  constructor
  · refine (congrArg RxRing.cons ((Eng.rxRing_of (Eng.irqPoke_keeps (φ := .rxRings) ..) _).trans (Eng.rxRing_of (hrings _) _))).trans ?_
    exact congrArg RxRing.cons (e.rxTaken_rxRing ..)
  · exact (congrArg Int.toNat ((Eng.irqPoke_i ..).trans (hframes _))).trans (e.rxTaken_frames ..)

theorem Eng.port_of_ports {e e' : Eng} (hports : e'.ports = e.ports) (p : Nat) : e'.port p = e.port p :=
  congrArg (fun l : List Port => nth l p Port.atReset) hports

/-- What a pause frame counts. -/
def Eng.pauseCounted (e : Eng) (x : Ctx) (p off : Nat) : Eng := ((e.portCount x p 16).countN x (32 * p + 17) 64).portCount x p off

theorem Eng.pauseCounted_ports (e : Eng) (p off : Nat) : (e.pauseCounted x p off).ports = e.ports :=
  (Eng.count_ports ..).trans ((Eng.countN_ports ..).trans (Eng.count_ports ..))

theorem Eng.pauseCounted_i (e : Eng) (p off : Nat) {k : Key} (hk : k ≠ Od.CNT_STATUS.sticky) : (e.pauseCounted x p off).i k = e.i k :=
  (Eng.count_i _ _ _ _ hk).trans ((Eng.countN_i _ _ _ _ _ hk).trans (Eng.count_i _ _ _ _ hk))

/-- A pause emits and counts a frame or none, and moves its port's XOFF. -/
theorem Eng.sendPause_shape (e : Eng) (p quanta : Nat) : ∃ v, e.sendPause x p quanta = e.modPort p (fun q => { q with xoff := v }) ∨
    ∃ o off, e.sendPause x p quanta = ((e.emit o).pauseCounted x p off).modPort p (fun q => { q with xoff := v }) := by
  unfold Eng.sendPause
  split
  · exact ⟨_, .inr ⟨_, _, rfl⟩⟩
  · exact ⟨_, .inl rfl⟩

/-- A pause leaves the frames its port holds. -/
theorem Eng.sendPause_rxHeld (p quanta : Nat) (e : Eng) : ((e.sendPause x p quanta).port p).rxHeld = (e.port p).rxHeld := by
  have hmod (e : Eng) (v : Option Nat) : ((e.modPort p (fun q => { q with xoff := v })).port p).rxHeld = (e.port p).rxHeld := by
    rw [Eng.modPort_port]
    split <;> rfl
  obtain ⟨v, h | ⟨o, off, h⟩⟩ := e.sendPause_shape (x := x) p quanta
  · rw [h, hmod]
  · rw [h, hmod]
    exact congrArg Port.rxHeld (Eng.port_of_ports (Eng.pauseCounted_ports ..) p)

theorem Eng.modPort_i (e : Eng) (p : Nat) (f : Port → Port) (k : Key) : (e.modPort p f).i k = e.i k := rfl

theorem Eng.sendPause_i (p quanta : Nat) (e : Eng) {k : Key} (hk : k ≠ Od.CNT_STATUS.sticky) : (e.sendPause x p quanta).i k = e.i k := by
  obtain ⟨v, h | ⟨o, off, h⟩⟩ := e.sendPause_shape (x := x) p quanta
  · rw [h, Eng.modPort_i]
  · rw [h, Eng.modPort_i, Eng.pauseCounted_i _ _ _ hk]
    rfl

/-- What a delivery leaves: the held frames but the oldest, its ring's index, and the ring's count. -/
theorem Eng.rxDeliver_delivers {p : Nat} {rest : List HeldFrame} (hheld : (e.port p).rxHeld = h :: rest) (hfw : e.fwRing h.ring = false)
    (hrun : (e.rxRing h.ring).state = .running)
    (hn : n = min (max 1 (ceilDiv h.bytes.length (e.n (Od.RX_RING_CFG.buf_size h.ring))))
      (((e.rxRing h.ring).prod + 2 ^ 32 - (e.rxRing h.ring).cons) % 2 ^ 32))
    (hn0 : n ≠ 0) (haligned : ∀ a ∈ bufs.take n, a % 64 = 0) :
    ((e.rxDeliver x p bufs).port p).rxHeld = rest ∧
      ((e.rxDeliver x p bufs).rxRing h.ring).cons = ((e.rxRing h.ring).cons + n) % 2 ^ 32 ∧
      (e.rxDeliver x p bufs).n (Od.RX_RING_STATUS.frames h.ring) = (e.n (Od.RX_RING_STATUS.frames h.ring) + 1) % 2 ^ 64 := by
  have hport : p < e.ports.length := by
    by_contra hout
    rw [Eng.port, nth, List.getD_eq_default _ _ (Nat.le_of_not_lt hout)] at hheld
    cases hheld
  have hsticky : Od.RX_RING_STATUS.frames h.ring ≠ Od.CNT_STATUS.sticky := odKey_ne (by omega)
  unfold Eng.rxDeliver
  rw [hheld]
  dsimp only
  generalize he1 : e.modPort p (fun q => { q with rxHeld := rest }) = e1
  have hheld1 : (e1.port p).rxHeld = rest := by
    rw [← he1, Eng.modPort_port, if_pos ⟨rfl, hport⟩]
  have hod : e1.od = e.od := he1 ▸ rfl
  have hring : e1.rxRing h.ring = e.rxRing h.ring := he1 ▸ rfl
  have hbuf : e1.n (Od.RX_RING_CFG.buf_size h.ring) = e.n (Od.RX_RING_CFG.buf_size h.ring) := congrArg (fun o => (sget o _).toNat) hod
  have hframes : e1.n (Od.RX_RING_STATUS.frames h.ring) = e.n (Od.RX_RING_STATUS.frames h.ring) := congrArg (fun o => (sget o _).toNat) hod
  obtain ⟨hcons, hcount⟩ := Eng.rxWrite_delivers (x := x) (e := e1) p (hring ▸ hrun) (hring ▸ hbuf ▸ hn) hn0 haligned
  rw [if_neg (Bool.eq_false_iff.1 ((Eng.fwRing_of_od hod _).trans hfw))]
  have hwritten : ((e1.rxWrite x p h bufs).port p).rxHeld = rest :=
    (congrArg Port.rxHeld (Eng.port_of_ports (Eng.rxWrite_keeps (φ := .ports) (hφ := by decide) ..) p)).trans hheld1
  rw [hring] at hcons
  rw [hframes] at hcount
  split
  · refine ⟨(Eng.sendPause_rxHeld ..).trans hwritten, ?_, (congrArg Int.toNat (Eng.sendPause_i _ _ _ hsticky)).trans hcount⟩
    exact (congrArg RxRing.cons (Eng.rxRing_of (Eng.sendPause_keeps (φ := .rxRings) (hφ := by decide) ..) _)).trans hcons
  · exact ⟨hwritten, hcons, hcount⟩

end

/-! ## A take (R334) -/

theorem ringFault_source : 2 ^ (faultRow 15 5).src = 4 := by decide

theorem not_ringStatus_latch (b : Nat) (hb : b < 64) : ¬ ringStatus (Od.FLT_BLOCK.latch b) :=
  not_ringStatus (by decide) (.inl ⟨by decide, by omega⟩)

section
variable {e : Eng} {x : Ctx} {r : Nat}

/-- A transmit ring that stops on an error of its reads. -/
theorem Eng.txFails_stops (hr : r < 128) :
    let e' := ((e.countTxDone r 5).stopTx x r 1).detect x 15 5 r
    (e'.txRing r).state = .stopped ∧ (e'.txRing r).err = 1 ∧ e'.n (Od.FLT_BLOCK.latch 15) = e.n (Od.FLT_BLOCK.latch 15) ||| 4 := by
  have hwork : Eng.RingWork e ((e.countTxDone r 5).stopTx x r 1) :=
    (Eng.countTxDone_work hr 5).toRingWork.trans (Eng.stopTx_work x hr 1)
  have hring := (Eng.txRing_of (Eng.detect_keeps (x := x) (e := (e.countTxDone r 5).stopTx x r 1) (φ := .txRings) 15 5 r) r).trans
    ((Eng.stopTx_txRing (e.countTxDone r 5) x r 1 r).trans (if_pos rfl))
  refine ⟨congrArg TxRing.state hring, congrArg TxRing.err hring, (Eng.detect_latch ..).trans ?_⟩
  rw [ringFault_source, Eng.n, hwork.obj _ (not_ringStatus_latch 15 (by decide))]
  rfl

theorem Eng.rxFails_stops (hr : r < 128) :
    let e' := (e.stopRx x r 1).detect x 15 5 r
    (e'.rxRing r).state = .stopped ∧ (e'.rxRing r).err = 1 ∧ e'.n (Od.FLT_BLOCK.latch 15) = e.n (Od.FLT_BLOCK.latch 15) ||| 4 := by
  have hring := (Eng.rxRing_of (Eng.detect_keeps (x := x) (e := e.stopRx x r 1) (φ := .rxRings) 15 5 r) r).trans
    ((Eng.stopRx_rxRing e x r 1 r).trans (if_pos rfl))
  refine ⟨congrArg RxRing.state hring, congrArg RxRing.err hring, (Eng.detect_latch ..).trans ?_⟩
  rw [ringFault_source, Eng.n, (Eng.stopRx_work x hr 1).obj _ (not_ringStatus_latch 15 (by decide))]
  rfl

/-- The descriptors of a frame may be taken: the ring runs, its link is up, no launch waits, and the frame is whole and posted. -/
structure Eng.TxReady (e : Eng) (r : Nat) (ds : List TxDesc) : Prop where
  running : (e.txRing r).state = .running
  link : e.irq.link = true
  free : (e.txRing r).launch = none
  posted : ds.length ≤ ((e.txRing r).prod + 2 ^ 32 - (e.txRing r).taken) % 2 ^ 32
  ends : ∃ l, ds.getLast? = some l ∧ l.word3 % 2 = 1

/-- The engine with the descriptors of a frame taken. -/
def Eng.txTaken (e : Eng) (r : Nat) (ds : List TxDesc) : Eng :=
  e.modTx r (fun h => { h with
    taken := (h.taken + ds.length) % 2 ^ 32, flight := h.flight ++ [⟨h.taken, ds.map (fun d => d.word3), none⟩] })

theorem Eng.txTaken_txRing (ds : List TxDesc) :
    (e.txTaken r ds).txRing r = { e.txRing r with
      taken := ((e.txRing r).taken + ds.length) % 2 ^ 32,
      flight := (e.txRing r).flight ++ [⟨(e.txRing r).taken, ds.map (fun d => d.word3), none⟩] } :=
  (e.modTx_txRing ..).trans (if_pos rfl)

variable {descs more : List TxDesc} {d : TxDesc}

/-- What a frame that is ready comes to. -/
theorem Eng.txTake_ready (hds : txFrameOf descs = d :: more) (hready : e.TxReady r (d :: more)) (fail : Bool) :
    e.txTake x r descs fail = if fail = true then ((e.countTxDone r 5).stopTx x r 1).detect x 15 5 r else
      match e.txReject (d :: more) (d.word3 / 2 ^ 24 % 256) (bitOf d.word3 1) (txBytes (d :: more)) with
      | some st => (if st = 1 then (e.txTaken r (d :: more)).portCount x (d.word3 / 2 ^ 24 % 256) 20
          else e.txTaken r (d :: more)).txFinish x r (e.txRing r).taken st
      | none =>
        if bitOf d.word3 1 = true then
          (e.txTaken r (d :: more)).modTx r (fun h => { h with
            launch := some ⟨d.word3 / 2 ^ 24 % 256, txBytes (d :: more), d.lt % 2 ^ 64, d.slack, d.tag, (e.txRing r).taken, none⟩ })
        else
          (e.txTaken r (d :: more)).modTx r (fun h => { h with
            waiting := h.waiting ++ [(d.word3 / 2 ^ 24 % 256, (e.txRing r).taken, ⟨some r, txBytes (d :: more),
              (e.txTaken r (d :: more)).prioOf (d.word3 / 2 ^ 24 % 256)
                (parseFrame (e.txTaken r (d :: more)).isTpid (txBytes (d :: more))).tags, false⟩)] }) := by
  obtain ⟨hrun, hlink, hfree, hposted, l, hlast, hend⟩ := hready
  unfold Eng.txTake
  dsimp only
  rw [hds]
  refine (if_neg ?_).trans rfl
  rw [hlast, hrun, hlink, hfree]
  simpa [hend] using hposted

/-- A frame that is not turned away waits at its ring's head for its launch, or for the wire. -/
theorem Eng.txTake_takes (hds : txFrameOf descs = d :: more) (hready : e.TxReady r (d :: more))
    (hok : e.txReject (d :: more) (d.word3 / 2 ^ 24 % 256) (bitOf d.word3 1) (txBytes (d :: more)) = none) :
    let e' := e.txTake x r descs false
    let first := (e.txRing r).taken
    e'.od = e.od ∧ (e'.txRing r).taken = (first + (d :: more).length) % 2 ^ 32 ∧
      (bitOf d.word3 1 = true → (e'.txRing r).launch =
        some ⟨d.word3 / 2 ^ 24 % 256, txBytes (d :: more), d.lt % 2 ^ 64, d.slack, d.tag, first, none⟩) ∧
      (bitOf d.word3 1 = false → ∃ prio, (e'.txRing r).waiting =
        (e.txRing r).waiting ++ [(d.word3 / 2 ^ 24 % 256, first, ⟨some r, txBytes (d :: more), prio, false⟩)]) := by
  have htaken := e.txTaken_txRing (r := r) (d :: more)
  dsimp only
  rw [Eng.txTake_ready hds hready, if_neg Bool.false_ne_true, hok]
  dsimp only
  split
  next hlaunch =>
    rw [Eng.modTx_txRing, if_pos rfl, htaken]
    exact ⟨rfl, rfl, fun _ => rfl, fun hno => absurd (hlaunch.symm.trans hno) (by decide)⟩
  next hno =>
    rw [Eng.modTx_txRing, if_pos rfl, htaken]
    exact ⟨rfl, rfl, fun hlaunch => absurd hlaunch hno, fun _ => ⟨_, rfl⟩⟩

end

/-! ## A time-out (R342) -/

section
variable {e : Eng} {x : Ctx} {r : Nat} (hlink : e.irq.link = true)

include hlink

theorem Eng.dmaTimeout_tx (hrun : (e.txRing r).state = .running) (hmore : (e.txRing r).prod ≠ (e.txRing r).taken) :
    e.dmaTimeout x true r = ((e.countTxDone r 5).stopTx x r 1).detect x 15 5 r := by
  rw [Eng.dmaTimeout, hlink, Bool.not_true, if_neg Bool.false_ne_true, if_pos rfl]
  exact if_pos ⟨hrun, hmore⟩

theorem Eng.dmaTimeout_rx (hfw : e.fwRing r = false) (hrun : (e.rxRing r).state = .running)
    (hmore : (e.rxRing r).prod ≠ (e.rxRing r).cons) : e.dmaTimeout x false r = (e.stopRx x r 1).detect x 15 5 r := by
  rw [Eng.dmaTimeout, hlink, Bool.not_true, if_neg Bool.false_ne_true, if_neg Bool.false_ne_true, hfw, Bool.not_false]
  exact if_pos ⟨hrun, hmore, rfl⟩

end

/-! ## The commands -/

theorem Eng.txReject_of_od {e e' : Eng} (hod : e'.od = e.od) (ds : List TxDesc) (port : Nat) (launch : Bool) (bytes : Bytes) :
    e'.txReject ds port launch bytes = e.txReject ds port launch bytes := by
  unfold Eng.txReject Eng.isPort Eng.portLanes Eng.portMode Eng.b Eng.n Eng.i
  rw [hod]

section
variable {s : State} {ring : Fin 128} (hup : s.eng.up = true)

include hup

section
variable (value : Nat) (hlink : s.eng.irq.link = true)

include hlink

theorem exec_doorbellProd_tx :
    exec (.doorbellProd true ring value) s = .next { s with eng := s.eng0.doorTx ring (value % 2 ^ 32) } :=
  (exec_doorbellProd true ring value s).trans ((overLink_up hup hlink _).trans
    (congrArg (fun e : Eng => Host.Outcome.next { s with eng := e }) (if_pos (c := true = true) rfl)))

theorem exec_doorbellProd_rx :
    exec (.doorbellProd false ring value) s = .next { s with eng := s.eng0.doorRx ring (value % 2 ^ 32) } :=
  (exec_doorbellProd false ring value s).trans ((overLink_up hup hlink _).trans
    (congrArg (fun e : Eng => Host.Outcome.next { s with eng := e }) (if_neg (c := false = true) Bool.false_ne_true)))

theorem exec_doorbellAck_moves (tx : Bool) :
    exec (.doorbellAck tx ring value) s = .next { s with eng := s.eng0.doorAck s.ctx tx ring (value % 2 ^ 32) } :=
  (exec_doorbellAck tx ring value s).trans (overLink_up hup hlink _)

end

theorem exec_rxFrameDeliver_delivers {port : Fin 32} {bufs : List Nat} {f : HeldFrame} {rest : List HeldFrame} {n : Nat}
    (hheld : (s.eng.port port).rxHeld = f :: rest) (hfw : s.eng.fwRing f.ring = false) (hrun : (s.eng.rxRing f.ring).state = .running)
    (hn : n = min (max 1 (ceilDiv f.bytes.length (s.eng.n (Od.RX_RING_CFG.buf_size f.ring))))
      (((s.eng.rxRing f.ring).prod + 2 ^ 32 - (s.eng.rxRing f.ring).cons) % 2 ^ 32))
    (hn0 : n ≠ 0) (haligned : ∀ a ∈ bufs.take n, a % 64 = 0) :
    ∃ t, exec (.rxFrameDeliver port bufs) s = .next t ∧ s.beside t ∧ (t.eng.port port).rxHeld = rest ∧
      (t.eng.rxRing f.ring).cons = ((s.eng.rxRing f.ring).cons + n) % 2 ^ 32 ∧
      t.eng.n (Od.RX_RING_STATUS.frames f.ring) = (s.eng.n (Od.RX_RING_STATUS.frames f.ring) + 1) % 2 ^ 64 := by
  have hfw0 : s.eng0.fwRing f.ring = false := (Eng.fwRing_of_od rfl _).trans hfw
  exact ⟨_, (exec_rxFrameDeliver port bufs s).trans (lift_up hup _), ⟨rfl, rfl, rfl⟩,
    Eng.rxDeliver_delivers (e := s.eng0) hheld hfw0 hrun hn hn0 haligned⟩

theorem exec_txDescTake_takes {descs more : List TxDesc} {d : TxDesc} (hds : txFrameOf descs = d :: more)
    (hready : s.eng0.TxReady ring (d :: more))
    (hok : s.eng.txReject (d :: more) (d.word3 / 2 ^ 24 % 256) (bitOf d.word3 1) (txBytes (d :: more)) = none) :
    ∃ t, exec (.txDescTake ring descs false) s = .next t ∧ s.beside t ∧ t.eng.od = s.eng.od ∧
      (t.eng.txRing ring).taken = ((s.eng.txRing ring).taken + (d :: more).length) % 2 ^ 32 ∧
      (bitOf d.word3 1 = true → (t.eng.txRing ring).launch =
        some ⟨d.word3 / 2 ^ 24 % 256, txBytes (d :: more), d.lt % 2 ^ 64, d.slack, d.tag, (s.eng.txRing ring).taken, none⟩) ∧
      (bitOf d.word3 1 = false → ∃ prio, (t.eng.txRing ring).waiting = (s.eng.txRing ring).waiting ++
        [(d.word3 / 2 ^ 24 % 256, (s.eng.txRing ring).taken, ⟨some ring.val, txBytes (d :: more), prio, false⟩)]) :=
  ⟨_, (exec_txDescTake ring descs false s).trans (lift_up hup _), ⟨rfl, rfl, rfl⟩,
    Eng.txTake_takes hds hready ((Eng.txReject_of_od rfl ..).trans hok)⟩

/-- Where a transmit ring of the device fails it stops, and block 15 holds the source. -/
theorem lift_txFails {op : Ctx → Eng → Eng} (hop : op s.ctx s.eng0 = ((s.eng0.countTxDone ring 5).stopTx s.ctx ring 1).detect s.ctx 15 5 ring) :
    ∃ t, lift op s = .next t ∧ s.beside t ∧ (t.eng.txRing ring).state = .stopped ∧ (t.eng.txRing ring).err = 1 ∧
      t.eng.n (Od.FLT_BLOCK.latch 15) = s.eng.n (Od.FLT_BLOCK.latch 15) ||| 4 :=
  ⟨_, lift_up hup _, ⟨rfl, rfl, rfl⟩, hop.symm ▸ Eng.txFails_stops (e := s.eng0) ring.isLt⟩

theorem lift_rxFails {op : Ctx → Eng → Eng} (hop : op s.ctx s.eng0 = (s.eng0.stopRx s.ctx ring 1).detect s.ctx 15 5 ring) :
    ∃ t, lift op s = .next t ∧ s.beside t ∧ (t.eng.rxRing ring).state = .stopped ∧ (t.eng.rxRing ring).err = 1 ∧
      t.eng.n (Od.FLT_BLOCK.latch 15) = s.eng.n (Od.FLT_BLOCK.latch 15) ||| 4 :=
  ⟨_, lift_up hup _, ⟨rfl, rfl, rfl⟩, hop.symm ▸ Eng.rxFails_stops (e := s.eng0) ring.isLt⟩

theorem exec_txDescTake_fails {descs more : List TxDesc} {d : TxDesc} (hds : txFrameOf descs = d :: more)
    (hready : s.eng0.TxReady ring (d :: more)) :
    ∃ t, exec (.txDescTake ring descs true) s = .next t ∧ s.beside t ∧ (t.eng.txRing ring).state = .stopped ∧
      t.eng.n (Od.FLT_BLOCK.latch 15) = s.eng.n (Od.FLT_BLOCK.latch 15) ||| 4 := by
  obtain ⟨t, ht, hbeside, hstate, -, hlatch⟩ := lift_txFails (op := fun x e => e.txTake x ring descs true) hup
    ((Eng.txTake_ready hds hready true).trans (if_pos rfl))
  exact ⟨t, (exec_txDescTake ring descs true s).trans ht, hbeside, hstate, hlatch⟩

theorem exec_dmaTimeout_stopsTx (hlink : s.eng.irq.link = true) (hrun : (s.eng.txRing ring).state = .running)
    (hmore : (s.eng.txRing ring).prod ≠ (s.eng.txRing ring).taken) :
    ∃ t, exec (.dmaTimeout true ring) s = .next t ∧ s.beside t ∧ (t.eng.txRing ring).state = .stopped ∧ (t.eng.txRing ring).err = 1 ∧
      t.eng.n (Od.FLT_BLOCK.latch 15) = s.eng.n (Od.FLT_BLOCK.latch 15) ||| 4 := by
  obtain ⟨t, ht, hstops⟩ := lift_txFails (op := fun x e => e.dmaTimeout x true ring) hup (Eng.dmaTimeout_tx hlink hrun hmore)
  exact ⟨t, (exec_dmaTimeout true ring s).trans ht, hstops⟩

theorem exec_dmaTimeout_stopsRx (hlink : s.eng.irq.link = true) (hfw : s.eng.fwRing ring = false)
    (hrun : (s.eng.rxRing ring).state = .running) (hmore : (s.eng.rxRing ring).prod ≠ (s.eng.rxRing ring).cons) :
    ∃ t, exec (.dmaTimeout false ring) s = .next t ∧ s.beside t ∧ (t.eng.rxRing ring).state = .stopped ∧ (t.eng.rxRing ring).err = 1 ∧
      t.eng.n (Od.FLT_BLOCK.latch 15) = s.eng.n (Od.FLT_BLOCK.latch 15) ||| 4 := by
  have hfw0 : s.eng0.fwRing ring = false := (Eng.fwRing_of_od rfl _).trans hfw
  obtain ⟨t, ht, hstops⟩ := lift_rxFails (op := fun x e => e.dmaTimeout x false ring) hup (Eng.dmaTimeout_rx hlink hfw0 hrun hmore)
  exact ⟨t, (exec_dmaTimeout false ring s).trans ht, hstops⟩

end

/-- Settles O53: each command leaves what its lemma says. -/
theorem ringsStartMoveAndStop : Obligations.RingsStartMoveAndStop := by
  intro s ring hup
  refine ⟨fun tx roles k hk hfw => ?_, fun value hlink => ?_, fun port bufs f rest n hheld hring hfw hrun hn hn0 haligned => ?_,
    fun descs ds more d l hds hcons hlast hend hrun hlink hfree hposted => ?_, exec_dmaTimeout_stopsTx hup, exec_dmaTimeout_stopsRx hup⟩
  · subst hk
    cases tx with
    | true => exact ⟨exec_ringEnable_startsTx hup, fun posted => exec_ringDisable_endsTx hup posted⟩
    | false => exact ⟨exec_ringEnable_startsRx hup (hfw rfl), fun posted => exec_ringDisable_endsRx hup posted (hfw rfl)⟩
  · have hprodTx := exec_doorbellProd_tx (ring := ring) hup value hlink
    have hprodRx := exec_doorbellProd_rx (ring := ring) hup value hlink
    have hack := exec_doorbellAck_moves (ring := ring) hup value hlink
    have hfw0 (hfw : s.eng.fwRing ring = false) : s.eng0.fwRing ring = false := (Eng.fwRing_of_od rfl _).trans hfw
    exact ⟨fun hok => ⟨_, hprodTx, ⟨rfl, rfl, rfl⟩, Eng.doorTx_moves (e := s.eng0) hok⟩,
      fun hbad => ⟨_, hprodTx, ⟨rfl, rfl, rfl⟩, Eng.doorTx_wrong (e := s.eng0) hbad⟩,
      fun hfw hok => ⟨_, hprodRx, ⟨rfl, rfl, rfl⟩, Eng.doorRx_moves (e := s.eng0) (hfw0 hfw) hok⟩,
      fun hfw hbad => ⟨_, hprodRx, ⟨rfl, rfl, rfl⟩, Eng.doorRx_wrong (e := s.eng0) (hfw0 hfw) hbad⟩,
      ⟨_, hack true, ⟨rfl, rfl, rfl⟩, Eng.doorAck_movesTx (e := s.eng0)⟩,
      fun hfw => ⟨_, hack false, ⟨rfl, rfl, rfl⟩, Eng.doorAck_movesRx (e := s.eng0) (hfw0 hfw)⟩⟩
  · rw [← hring] at hfw hrun hn ⊢
    exact exec_rxFrameDeliver_delivers hup hheld hfw hrun hn hn0 haligned
  · subst hds
    rw [hcons] at hlast hposted ⊢
    have hready : s.eng0.TxReady ring (d :: more) := ⟨hrun, hlink, hfree, hposted, l, hlast, hend⟩
    exact ⟨exec_txDescTake_takes hup hcons hready, exec_txDescTake_fails hup hcons hready⟩

end Sys2Proof.Machine
end

section
/-! # Steering and the outputs (R278, R279, R285, R293, R297, R300 to R306) -/

namespace Sys2Proof.Machine

/-! ## Steering (R278, R279, R285, R293) -/

theorem Eng.follows_of_od {e e' : Eng} (hod : e'.od = e.od) (k : Nat) : e'.follows k = e.follows k := by
  unfold Eng.follows Eng.n Eng.i
  rw [hod]

section
variable {e : Eng} {x : Ctx} {k : Nat}

/-- The mode is not among the limits of a lock that a write compares. -/
theorem steerMoonWrite_mode (v : Int) (hown : e.follows k = false) :
    steerMoonWrite k [(Od.STEER_MOON.mode k, v)] e = (stOk, e.setAll [(Od.STEER_MOON.mode k, v)]) := by
  have hne {m : Nat} (hm : m < 16) (hm1 : m ≠ 1) : Od.STEER_MOON.mode k ≠ odKey 0x2C (0x100 + k) m := odKey_ne (by omega)
  have hnames : names [(Od.STEER_MOON.mode k, v)] [Od.STEER_MOON.unlock_phase k, Od.STEER_MOON.lock_phase k] = false := by
    simpa [names] using ⟨hne (by decide) (by decide), hne (by decide) (by decide)⟩
  rw [steerMoonWrite, if_neg (Bool.eq_false_iff.1 hown), hnames]
  exact if_neg Bool.false_ne_true

theorem steerMoonWrite_follower (vs : List (Key × Int)) (hfollows : e.follows k = true) : steerMoonWrite k vs e = (stMode, e) := if_pos hfollows

theorem steerCmd_own (hown : e.follows k = false) : steerCmd k e = (stOk, e.modUnit k (fun u => { u with restart := true })) :=
  if_neg (Bool.eq_false_iff.1 hown)

theorem steerCmd_follower (hfollows : e.follows k = true) : steerCmd k e = (stMode, e) := if_pos hfollows

theorem Eng.modUnit_unit (f : SteerUnit → SteerUnit) (hk : k < e.steer.length) : (e.modUnit k f).unit k = f (e.unit k) :=
  (nth_modNth ..).trans (if_pos ⟨rfl, hk⟩)

/-- The model looks once in a second, takes up what it summed, and learns nothing of no measurement. -/
theorem Eng.observe_shows (hsec : e.model.second < x.lin 0 / unitsPerSec) :
    (e.observe x).model.second = x.lin 0 / unitsPerSec ∧ (e.observe x).model.sum = Mean.zero ∧
      (e.model.sum.n = 0 → (e.observe x).od = e.od ∧ (e.observe x).model.coef = e.model.coef) := by
  have hshown (e : Eng) : e.showModel.model = e.model := Eng.showModel_keeps (φ := .model) e
  unfold Eng.observe
  dsimp only
  rw [if_neg (Nat.not_le.2 hsec)]
  split
  · exact ⟨rfl, rfl, fun _ => ⟨rfl, rfl⟩⟩
  next hlearns =>
    have hsome : e.model.sum.n ≠ 0 := fun hnone => hlearns (by simp [hnone])
    rw [hshown]
    repeat' split
    all_goals exact ⟨rfl, rfl, fun hnone => absurd hnone hsome⟩

end

section
variable {s : State} {moon : Fin 32} {value roles : Nat} (hup : s.eng.up = true)

include hup

theorem exec_steerModeWrite_stores (had : s.eng.admits (Od.STEER_MOON.mode moon) value roles = true) (hown : s.eng.follows moon = false) :
    ∃ t, exec (.steerModeWrite moon value roles) s = .next t ∧ s.wrote t [(Od.STEER_MOON.mode moon, value)] := by
  have hown0 : s.eng0.follows moon = false := (Eng.follows_of_od rfl _).trans hown
  obtain ⟨t, ht, hwrote⟩ := lift_writeCmd_wrote (op := fun _ => steerMoonWrite moon [(Od.STEER_MOON.mode moon, value)])
    [(Od.STEER_MOON.mode moon, (value : Int))] hup had (steerMoonWrite_mode value hown0) (List.nodup_singleton _)
    (List.forall_mem_singleton.2 (accounting_area (by decide) (by omega)))
  exact ⟨t, (exec_steerModeWrite moon value roles s).trans ht, hwrote⟩

theorem exec_steerModeWrite_refused (had : s.eng.admits (Od.STEER_MOON.mode moon) value roles = true) (hfollows : s.eng.follows moon = true) :
    ∃ t, exec (.steerModeWrite moon value roles) s = .next t ∧ t.eng.resp.status = stMode ∧ s.eng.onlyObjects t.eng ∧
      t.eng.i (Od.STEER_MOON.mode moon) = s.eng.i (Od.STEER_MOON.mode moon) ∧ s.beside t := by
  have hfollows0 : s.eng0.follows moon = true := (Eng.follows_of_od rfl _).trans hfollows
  have harea : (Od.STEER_MOON.mode moon).area = 0x2C := odKey_area (by omega)
  obtain ⟨t, ht, hans⟩ := lift_writeCmd_answersAs (op := fun _ => steerMoonWrite moon [(Od.STEER_MOON.mode moon, value)])
    (by rw [harea]; decide) (by rw [harea]; decide) hup had (steerMoonWrite_follower _ hfollows0)
  exact ⟨t, (exec_steerModeWrite moon value roles s).trans ht, hans.status, Eng.onlyObjects_trans s.onlyObjects_eng0 hans.rest,
    hans.obj _ (accounting_area (by decide) (by omega)), hans.beside⟩

theorem exec_restart_restarts (had : s.eng.admits (Od.STEER_CMD moon) value roles = true) (hown : s.eng.follows moon = false)
    (hlen : s.eng.steer.length = 32) :
    ∃ t, exec (.restart moon value roles) s = .next t ∧ s.accepted t ∧ t.eng.unit moon = { s.eng.unit moon with restart := true } := by
  have hown0 : s.eng0.follows moon = false := (Eng.follows_of_od rfl _).trans hown
  obtain ⟨t, ht, hans⟩ := lift_writeCmd_answersOk (op := fun _ => steerCmd moon) hup had (steerCmd_own hown0)
  have hsteer := (congrArg Eng.steer hans.rest :)
  exact ⟨t, (exec_restart moon value roles s).trans ht, hans.accepted,
    (congrArg (fun l : List SteerUnit => nth l moon SteerUnit.atReset) hsteer).trans
      (Eng.modUnit_unit (e := s.eng0) _ (moon.isLt.trans_eq hlen.symm))⟩

theorem exec_restart_refused (had : s.eng.admits (Od.STEER_CMD moon) value roles = true) (hfollows : s.eng.follows moon = true) :
    ∃ t, exec (.restart moon value roles) s = .next t ∧ t.eng.resp.status = stMode ∧ s.eng.onlyObjects t.eng ∧ s.beside t := by
  have hfollows0 : s.eng0.follows moon = true := (Eng.follows_of_od rfl _).trans hfollows
  have harea : (Od.STEER_CMD moon).area = 0x2C := odKey_area (by omega)
  obtain ⟨t, ht, hans⟩ := lift_writeCmd_answersAs (op := fun _ => steerCmd moon) (by rw [harea]; decide) (by rw [harea]; decide) hup had
    (steerCmd_follower hfollows0)
  exact ⟨t, (exec_restart moon value roles s).trans ht, hans.status, Eng.onlyObjects_trans s.onlyObjects_eng0 hans.rest, hans.beside⟩

theorem exec_restartModel_restarts (had : s.eng.admits Od.STEER_OSC.command value roles = true) :
    ∃ t, exec (.restartModel value roles) s = .next t ∧ s.accepted t ∧ t.eng.model = { s.eng.model with restart := true } := by
  obtain ⟨t, ht, hans⟩ := lift_writeCmd_answersOk (op := fun _ => modelCmd) hup had rfl
  exact ⟨t, (exec_restartModel value roles s).trans ht, hans.accepted, (congrArg Eng.model hans.rest :)⟩

theorem exec_modelObservation_looks (hsec : s.eng.model.second < s.ctx.lin 0 / unitsPerSec) :
    ∃ t, exec .modelObservation s = .next t ∧ s.beside t ∧ t.eng.model.second = s.ctx.lin 0 / unitsPerSec ∧
      t.eng.model.sum = Mean.zero ∧ (s.eng.model.sum.n = 0 → t.eng.od = s.eng.od ∧ t.eng.model.coef = s.eng.model.coef) :=
  ⟨_, (exec_modelObservation s).trans (lift_up hup _), ⟨rfl, rfl, rfl⟩, Eng.observe_shows (e := s.eng0) hsec⟩

end

/-! ## Synthesizers (R297, R306) -/

/-- An object of an area before the counters'. -/
theorem odKey_lt_counters {a i m : Nat} (ha : a < 0x68) (h : i * 16 + m < 65536) : odKey a i m < 0x68 * 65536 := by
  change a * 65536 + i * 16 + m < 0x68 * 65536
  omega

section
variable {e : Eng} {x : Ctx} {y : Nat}

/-- A lock shows in its object and releases outputs. -/
theorem Eng.synthLock_od (hon : e.outCfg (Od.SYNTH.enable y) ≠ 0) : (e.synthLock x y).od = (e.set (Od.SYNTH.locked y) 1).od := by
  rw [Eng.synthLock, if_neg hon]
  refine Eng.foldl_same Eng.od (fun e i => ?_) _ _
  unfold Eng.clkRelease
  split <;> rfl

theorem Eng.synthHold_od : (e.synthHold y).od = (e.set (Od.SYNTH.locked y) 0).od :=
  Eng.foldl_same Eng.od (f := fun e i => e.clkHold (3 * y + i)) (fun _ _ => rfl) _ _

theorem synthFault_source : 2 ^ (faultRow 13 2).src = 4 := by decide

/-- A loss of lock ends the lock that was shown and is found by block 13. -/
theorem Eng.synthUnlock_shows (hy : y < 4) (hlocked : e.b (Od.SYNTH.locked y) = true) :
    (e.synthUnlock x y).i (Od.SYNTH.locked y) = 0 ∧
      (e.synthUnlock x y).n (Od.FLT_BLOCK.latch 13) = e.n (Od.FLT_BLOCK.latch 13) ||| 4 := by
  have hshown : Od.SYNTH.locked y ≠ Od.OUT_STATUS.sticky := odKey_ne (by omega)
  have hlatchSticky : Od.FLT_BLOCK.latch 13 ≠ Od.OUT_STATUS.sticky := odKey_ne (by omega)
  have hlatchShown : Od.FLT_BLOCK.latch 13 ≠ Od.SYNTH.locked y := odKey_ne (by omega)
  have hheld (j : Key) (hj : j ≠ Od.OUT_STATUS.sticky) :
      ((e.synthHold y).orb Od.OUT_STATUS.sticky 8).i j = (e.set (Od.SYNTH.locked y) 0).i j :=
    ((Eng.orb_i ..).trans (if_neg hj)).trans (congrArg (sget · j) Eng.synthHold_od)
  rw [Eng.synthUnlock, if_pos hlocked]
  constructor
  · refine (((Eng.FaultsAlone.refl _).detect 13 2 y).obj _ ?_).trans ((hheld _ hshown).trans (Eng.set_i_same ..))
    exact odKey_lt_counters (by decide) (by omega)
  · refine (Eng.detect_latch ..).trans ?_
    rw [synthFault_source, Eng.n, hheld _ hlatchSticky, Eng.set_i_other _ _ _ _ hlatchShown]
    rfl

end

end Sys2Proof.Machine
end

section
/-! # Pulse edges, the time-of-day line and the outputs' records (R300 to R306) -/

namespace Sys2Proof.Machine

/-! ## What left the pins stays behind a detection -/

section
variable (e : Eng) (x : Ctx)

theorem Eng.irqPoke_out (n : Nat) : e.out <+: (e.irqPoke x n).out := by
  unfold Eng.irqPoke Eng.vecPoke
  dsimp only
  repeat' split
  · exact List.prefix_rfl
  · exact List.prefix_append _ _
  · exact List.prefix_rfl
  · exact List.prefix_rfl

theorem Eng.recordFirst_out (d : Detection) : (e.recordFirst x d).out = e.out := by
  unfold Eng.recordFirst
  dsimp only
  repeat' split
  all_goals rfl

theorem Eng.countDetection_out (d : Detection) : (e.countDetection x d).out = e.out := by
  unfold Eng.countDetection
  extract_lets e1 e2
  have h1 : e1.out = e.out := by
    unfold e1
    split
    · exact Eng.count_out ..
    · exact Eng.count_out ..
    · rfl
  have h2 : e2.out = e.out := (apply_ite Eng.out _ _ _).trans (ite_eq_iff'.2 ⟨fun _ => h1, fun _ => h1⟩)
  exact (apply_ite Eng.out _ _ _).trans (ite_eq_iff'.2 ⟨fun _ => h2, fun _ => h2⟩)

theorem Eng.notify_out (event : Nat) (extra : Bytes) : (e.notify x event extra).out = e.out := by
  unfold Eng.notify Eng.publish
  split
  · rfl
  · split
    · exact Eng.count_out ..
    · dsimp only
      split
      · exact Eng.count_out ..
      · exact Eng.count_out ..

theorem Eng.rails_out (r : EclReason) (p q s t b : Nat) : ((e.railChange x r p q s t).endLinger b).out = e.out := by
  unfold Eng.endLinger Eng.railChange
  repeat' split
  all_goals rfl

/-- A detection sends messages after what has left the pins. -/
theorem Eng.raise_out (d : Detection) : e.out <+: (e.raise x d).out := by
  unfold Eng.raise
  extract_lets e1 e2 had e3 took e4 e5
  have h3 : e3.out = e.out := (Eng.recordFirst_out e2 x d).trans (Eng.countDetection_out e1 x d)
  have h4 : e.out <+: e4.out := by
    unfold e4
    split
    · exact h3 ▸ List.prefix_rfl
    · exact h3 ▸ Eng.irqPoke_out ..
  have h5 : e.out <+: e5.out := by
    unfold e5
    split
    · exact (Eng.notify_out ..).symm ▸ h4
    · exact h4
  split
  · exact (Eng.rails_out ..).symm ▸ h5
  · exact h5

end

/-! ## A pulse output (R301, R302) -/

theorem Eng.modPps_pps (e : Eng) (n : Nat) (f : PpsUnit → PpsUnit) (hn : n < e.outs.pps.length) : (e.modPps n f).pps n = f (e.pps n) :=
  (nth_modNth ..).trans (if_pos ⟨rfl, hn⟩)

/-- What a step after the drive of output `n` leaves: its edges and its level, its two objects, and what has left the pins. -/
structure Eng.PulseKept (n : Nat) (e e' : Eng) : Prop where
  edges : (e'.pps n).edges = (e.pps n).edges
  level : (e'.pps n).level = (e.pps n).level
  out : e.out <+: e'.out
  count : e'.i (Od.PPSOUT.edges n) = e.i (Od.PPSOUT.edges n)
  echo : e'.i (Od.PPSOUT.echo_last n) = e.i (Od.PPSOUT.echo_last n)

namespace Eng.PulseKept

variable {a b c e : Eng} {x : Ctx} {n : Nat}

theorem refl (n : Nat) (e : Eng) : Eng.PulseKept n e e := ⟨rfl, rfl, List.prefix_rfl, rfl, rfl⟩

theorem trans (h : Eng.PulseKept n a b) (h' : Eng.PulseKept n b c) : Eng.PulseKept n a c :=
  ⟨h'.edges.trans h.edges, h'.level.trans h.level, h.out.trans h'.out, h'.count.trans h.count, h'.echo.trans h.echo⟩

theorem ite {p : Prop} [Decidable p] (hb : Eng.PulseKept n a b) (hc : Eng.PulseKept n a c) : Eng.PulseKept n a (if p then b else c) := by
  split
  · exact hb
  · exact hc

/-- The output engine's sticky bits. -/
theorem sticky (h : Eng.PulseKept n a e) (mask : Nat) : Eng.PulseKept n a (e.orb Od.OUT_STATUS.sticky mask) := by
  have hcount : Od.PPSOUT.edges n ≠ Od.OUT_STATUS.sticky := odKey_ne (by omega)
  have hecho : Od.PPSOUT.echo_last n ≠ Od.OUT_STATUS.sticky := odKey_ne (by omega)
  exact h.trans ⟨rfl, rfl, List.prefix_rfl, Eng.set_i_other _ _ _ _ hcount, Eng.set_i_other _ _ _ _ hecho⟩

/-- A change of the comparator's part of the output. -/
theorem modPps (h : Eng.PulseKept n a e) {f : PpsUnit → PpsUnit} (hedges : ∀ u, (f u).edges = u.edges)
    (hlevel : ∀ u, (f u).level = u.level) : Eng.PulseKept n a (e.modPps n f) := by
  have hunit : (e.modPps n f).pps n = f (e.pps n) ∨ (e.modPps n f).pps n = e.pps n := by
    refine (em (n = n ∧ n < e.outs.pps.length)).imp (fun hn => ?_) (fun hn => ?_)
    · exact (nth_modNth ..).trans (if_pos hn)
    · exact (nth_modNth ..).trans (if_neg hn)
  refine h.trans ⟨?_, ?_, List.prefix_rfl, rfl, rfl⟩
  · rcases hunit with hunit | hunit
    · rw [hunit, hedges]
    · rw [hunit]
  · rcases hunit with hunit | hunit
    · rw [hunit, hlevel]
    · rw [hunit]

theorem detect (h : Eng.PulseKept n a e) (hn : n < 4) (b row inst : Nat) : Eng.PulseKept n a (e.detect x b row inst) := by
  have houts : (e.detect x b row inst).outs = e.outs := Eng.detect_keeps (φ := .outs) ..
  have hpps : (e.detect x b row inst).pps n = e.pps n := congrArg (fun o : Outs => nth o.pps n ⟨[], false, none, 0, false, false⟩) houts
  have hfaults := (Eng.FaultsAlone.refl e).detect (x := x) b row inst
  exact h.trans ⟨congrArg PpsUnit.edges hpps, congrArg PpsUnit.level hpps, Eng.raise_out ..,
    hfaults.obj _ (odKey_lt_counters (by decide) (by omega)), hfaults.obj _ (odKey_lt_counters (by decide) (by omega))⟩

/-- The time-of-day line notes an edge of its output. -/
theorem todMark (h : Eng.PulseKept n a e) (v : Nat) : Eng.PulseKept n a (e.todMark n v) := by
  have hmark (e : Eng) (t : Option (Nat × Bytes × Bool)) : Eng.PulseKept n e { e with outs := { e.outs with tod := t } } :=
    ⟨rfl, rfl, List.prefix_rfl, rfl, rfl⟩
  have hdrawn : Eng.PulseKept n e e.drawn := ⟨rfl, rfl, List.prefix_rfl, rfl, rfl⟩
  unfold Eng.todMark
  refine .ite h (h.trans ?_)
  dsimp only
  split
  · exact hdrawn.trans (hmark _ _)
  · exact hmark _ _

end Eng.PulseKept

section
variable {e : Eng} {x : Ctx} {n : Nat}

/-- The comparator's finding is counted and shown, and the output stays as it was driven. -/
theorem Eng.edgeEcho_shows (hn : n < 4) (error : Int) :
    Eng.PulseKept n ((e.inc32 (Od.PPSOUT.edges n)).set (Od.PPSOUT.echo_last n) error) (e.edgeEcho x n error) := by
  unfold Eng.edgeEcho
  extract_lets e1 beyond bad e2 e3
  have h3 : Eng.PulseKept n e1 e3 :=
    (Eng.PulseKept.ite ((Eng.PulseKept.refl n e1).sticky 2) (.refl n e1)).modPps (fun _ => rfl) (fun _ => rfl)
  have htripped := h3.modPps (f := fun u => { u with tripped := true }) (fun _ => rfl) (fun _ => rfl)
  exact .ite ((htripped.sticky 4).detect hn 13 1 n) h3

/-- The engine with the first edge of output `n` driven. -/
def Eng.edgeDriven (e : Eng) (n : Nat) (rest : List (Nat × Bool)) (rising : Bool) (p : Nat × Nat) : Eng :=
  ((e.modPps n (fun u => { u with edges := rest })).modPps n (fun u => { u with level := rising, lastTick := some p.1 })).emit
    (.pulse n p.1 p.2 rising)

/-- An edge whose launch point has come, far enough from the last one and to the other level, is driven. -/
theorem Eng.launchEdge_drives {v : Nat} {rising : Bool} {rest : List (Nat × Bool)} (hlen : n < e.outs.pps.length)
    (hedges : (e.pps n).edges = (v, rising) :: rest) (hcome : (e.placeAt (e.launchOf x n v)).1 ≤ x.tick)
    (hfar : ∀ last, (e.pps n).lastTick = some last → last + 4 ≤ (e.placeAt (e.launchOf x n v)).1) (hlevel : (e.pps n).level ≠ rising)
    (error : Int) :
    e.launchEdge x n error =
      let e' := (e.edgeDriven n rest rising (e.placeAt (e.launchOf x n v))).edgeEcho x n error
      if rising then e'.todMark n v else e' := by
  have hunit := e.modPps_pps n (fun u => { u with edges := rest }) hlen
  have hgo : ¬ (((match (e.pps n).lastTick with
      | some t => decide ((e.placeAt (e.launchOf x n v)).1 < t + 4) | none => false) || (e.pps n).level == rising) = true) := by
    have hclose : (match (e.pps n).lastTick with
        | some t => decide ((e.placeAt (e.launchOf x n v)).1 < t + 4) | none => false) = false := by
      split
      next t ht => exact decide_eq_false (Nat.not_lt.2 (hfar t ht))
      next => rfl
    rw [hclose, beq_eq_false_iff_ne.2 hlevel]
    decide
  unfold Eng.launchEdge
  rw [hedges]
  dsimp only
  rw [if_neg (Nat.not_lt.2 hcome), hunit]
  exact if_neg hgo

theorem Eng.launchEdge_shows {v : Nat} {rising : Bool} {rest : List (Nat × Bool)} (hn : n < 4)
    (hedges : (e.pps n).edges = (v, rising) :: rest) (hcome : (e.placeAt (e.launchOf x n v)).1 ≤ x.tick)
    (hfar : ∀ last, (e.pps n).lastTick = some last → last + 4 ≤ (e.placeAt (e.launchOf x n v)).1) (hlevel : (e.pps n).level ≠ rising)
    (error : Int) :
    let p := e.placeAt (e.launchOf x n v)
    let e' := e.launchEdge x n error
    (e'.pps n).edges = rest ∧ (e'.pps n).level = rising ∧ .pulse n p.1 p.2 rising ∈ e'.out ∧
      e'.n (Od.PPSOUT.edges n) = (e.n (Od.PPSOUT.edges n) + 1) % 2 ^ 32 ∧ e'.i (Od.PPSOUT.echo_last n) = error := by
  have hlen : n < e.outs.pps.length := by
    by_contra hout
    rw [Eng.pps, nth, List.getD_eq_default _ _ (Nat.le_of_not_lt hout)] at hedges
    cases hedges
  dsimp only
  rw [Eng.launchEdge_drives hlen hedges hcome hfar hlevel]
  generalize e.placeAt (e.launchOf x n v) = p
  generalize hd : e.edgeDriven n rest rising p = d
  have hunit : d.pps n = { e.pps n with edges := rest, level := rising, lastTick := some p.1 } := by
    subst hd
    refine (Eng.modPps_pps (e.modPps n (fun u => { u with edges := rest })) n _ ?_).trans
      (congrArg (fun u : PpsUnit => { u with level := rising, lastTick := some p.1 }) (e.modPps_pps n _ hlen))
    exact hlen.trans_eq (List.length_modify ..).symm
  have hout : .pulse n p.1 p.2 rising ∈ d.out := hd ▸ List.mem_append_right _ (List.mem_singleton_self _)
  have hod : d.od = e.od := hd ▸ rfl
  have hecho := Eng.edgeEcho_shows (e := d) (x := x) hn error
  have hkept : Eng.PulseKept n ((d.inc32 (Od.PPSOUT.edges n)).set (Od.PPSOUT.echo_last n) error)
      (if rising then (d.edgeEcho x n error).todMark n v else d.edgeEcho x n error) := .ite (hecho.todMark v) hecho
  have hne : Od.PPSOUT.edges n ≠ Od.PPSOUT.echo_last n := odKey_ne (by omega)
  refine ⟨hkept.edges.trans (congrArg PpsUnit.edges hunit), hkept.level.trans (congrArg PpsUnit.level hunit), hkept.out.subset hout, ?_,
    hkept.echo.trans (Eng.set_i_same ..)⟩
  have hcount : d.n (Od.PPSOUT.edges n) = e.n (Od.PPSOUT.edges n) := congrArg (fun o => (sget o _).toNat) hod
  rw [Eng.n, hkept.count, Eng.set_i_other _ _ _ _ hne, ← hcount]
  exact d.inc32_n_same _

end

end Sys2Proof.Machine
end

section
/-! # The commands of steering and the outputs (R279, R285, R293, R297, R300 to R306) -/

namespace Sys2Proof.Machine

section
variable {e : Eng} {x : Ctx} {n : Nat}

/-- A message whose start has come is sent once, and counted. -/
theorem Eng.todSend_sends {at_ : Nat} {bytes : Bytes} {bad : Bool} (hwaits : e.outs.tod = some (at_, bytes, bad)) (hdue : at_ ≤ x.lin 0)
    (hopen : e.ppsSquelched (e.outNat Od.TOD_OUT.ppsout) = false) :
    (e.todSend x).out = e.out ++ [.tod bytes] ∧ (e.todSend x).outs = { e.outs with tod := none } ∧
      (e.todSend x).n Od.TOD_OUT_STATUS.sent = (e.n Od.TOD_OUT_STATUS.sent + 1) % 2 ^ 32 := by
  have hinvalid : Od.TOD_OUT_STATUS.sent ≠ Od.TOD_OUT_STATUS.invalid := odKey_ne (by decide)
  have hsticky : Od.TOD_OUT_STATUS.sent ≠ Od.OUT_STATUS.sticky := odKey_ne (by decide)
  generalize hsent : ({ e with outs := { e.outs with tod := none } }.inc32 Od.TOD_OUT_STATUS.sent).emit (.tod bytes) = sent
  have hsend : e.todSend x = if bad = true then (sent.inc32 Od.TOD_OUT_STATUS.invalid).orb Od.OUT_STATUS.sticky 32 else sent := by
    rw [Eng.todSend, hwaits]
    dsimp only
    rw [if_neg (Nat.not_lt.2 hdue), ← hsent]
    exact if_neg (Bool.eq_false_iff.1 hopen)
  have hout : sent.out = e.out ++ [.tod bytes] := hsent ▸ rfl
  have houts : sent.outs = { e.outs with tod := none } := hsent ▸ rfl
  have hcount : sent.n Od.TOD_OUT_STATUS.sent = (e.n Od.TOD_OUT_STATUS.sent + 1) % 2 ^ 32 :=
    hsent ▸ Eng.inc32_n_same { e with outs := { e.outs with tod := none } } _
  rw [hsend]
  split
  · refine ⟨hout, houts, Eq.trans ?_ hcount⟩
    rw [Eng.n, Eng.orb_i, if_neg hsticky, Eng.inc32_i, if_neg hinvalid]
    rfl
  · exact ⟨hout, houts, hcount⟩

/-- A record whose period holds its phase and its width is stored, and its entry is built again. -/
theorem ppsoutWrite_stores {vs : List (Key × Int)} (hfrom : 0 ≤ (e.setAll vs).i (Od.PPSOUT.phase n))
    (hphase : (e.setAll vs).i (Od.PPSOUT.phase n) < (e.setAll vs).i (Od.PPSOUT.period n))
    (hleast : 6553600 ≤ (e.setAll vs).i (Od.PPSOUT.width n))
    (hmost : (e.setAll vs).i (Od.PPSOUT.width n) ≤ (e.setAll vs).i (Od.PPSOUT.period n) - 6553600) :
    ppsoutWrite n vs e = (stOk, (e.setAll vs).modPps n (fun u => { u with rebuild := true })) := by
  rw [ppsoutWrite]
  simp [hfrom, hphase, hleast, hmost]

end

theorem Eng.onlyObjects_withOuts {a b c : Eng} {o : Outs} (h : a.onlyObjects b) (hc : ({ b with outs := o } : Eng).onlyObjects c) :
    a.onlyObjects { c with outs := a.outs } := by
  unfold Eng.onlyObjects at h hc
  rw [h] at hc
  rw [hc]
  rfl

/-- The writable members of a pulse output's record are different objects of area 18. -/
theorem ppsoutKeys (output : Fin 4) :
    (recKeys 0x18 (0x40 + output)).Nodup ∧ ∀ k ∈ recKeys 0x18 (0x40 + output), ∃ m < 16, k = odKey 0x18 (0x40 + output) m :=
  recKeys_named (base := 0x40) (top := 0x44) (by decide) (by decide) (by omega) (by omega)

section
variable {s : State} (hup : s.eng.up = true)

include hup

theorem exec_synthLock_shows {synth : Fin 4} (hon : s.eng.outCfg (Od.SYNTH.enable synth) ≠ 0) :
    ∃ t, exec (.synthLock synth) s = .next t ∧ s.beside t ∧ t.eng.i (Od.SYNTH.locked synth) = 1 ∧
      ∀ k, k ≠ Od.SYNTH.locked synth → t.eng.i k = s.eng.i k := by
  have hod := Eng.synthLock_od (e := s.eng0) (x := s.ctx) hon
  exact ⟨_, (exec_synthLock synth s).trans (lift_up hup _), ⟨rfl, rfl, rfl⟩, (congrArg (sget · _) hod).trans (Eng.set_i_same ..),
    fun k hk => (congrArg (sget · k) hod).trans (Eng.set_i_other _ _ _ _ hk)⟩

theorem exec_ppsoutEdge_drives {output : Fin 4} (error : Int) {v : Nat} {rising : Bool} {rest : List (Nat × Bool)}
    (hedges : (s.eng.pps output).edges = (v, rising) :: rest)
    (hcome : (s.eng.placeAt (s.eng.launchOf s.ctx output v)).1 ≤ s.core.tick)
    (hfar : ∀ last, (s.eng.pps output).lastTick = some last → last + 4 ≤ (s.eng.placeAt (s.eng.launchOf s.ctx output v)).1)
    (hlevel : (s.eng.pps output).level ≠ rising) :
    let p := s.eng.placeAt (s.eng.launchOf s.ctx output v)
    ∃ t, exec (.ppsoutEdge output error) s = .next t ∧ s.beside t ∧ (t.eng.pps output).edges = rest ∧
      (t.eng.pps output).level = rising ∧ .pulse output p.1 p.2 rising ∈ t.eng.out ∧
      t.eng.n (Od.PPSOUT.edges output) = (s.eng.n (Od.PPSOUT.edges output) + 1) % 2 ^ 32 ∧
      t.eng.i (Od.PPSOUT.echo_last output) = error :=
  ⟨_, (exec_ppsoutEdge output error s).trans (lift_up hup _), ⟨rfl, rfl, rfl⟩,
    Eng.launchEdge_shows (e := s.eng0) output.isLt hedges hcome hfar hlevel error⟩

theorem exec_todOutMessage_sends {at_ : Nat} {bytes : Bytes} {bad : Bool} (hwaits : s.eng.outs.tod = some (at_, bytes, bad))
    (hdue : at_ ≤ s.ctx.lin 0) (hopen : s.eng.ppsSquelched (s.eng.outNat Od.TOD_OUT.ppsout) = false) :
    ∃ t, exec .todOutMessage s = .next t ∧ s.beside t ∧ t.eng.out = [.tod bytes] ∧ t.eng.outs = { s.eng.outs with tod := none } ∧
      t.eng.n Od.TOD_OUT_STATUS.sent = (s.eng.n Od.TOD_OUT_STATUS.sent + 1) % 2 ^ 32 :=
  ⟨_, (exec_todOutMessage s).trans (lift_up hup _), ⟨rfl, rfl, rfl⟩, Eng.todSend_sends (e := s.eng0) hwaits hdue hopen⟩

theorem exec_ppsoutConfigWrite_stores {output : Fin 4} {w : RecWrite} {roles : Nat} {vs : List (Key × Int)}
    (hvs : vs = recValues 0x18 (0x40 + output) w) (had : s.eng.admitsRec 0x18 (0x40 + output) w roles = true)
    (hfrom : 0 ≤ (s.eng.setAll vs).i (Od.PPSOUT.phase output))
    (hphase : (s.eng.setAll vs).i (Od.PPSOUT.phase output) < (s.eng.setAll vs).i (Od.PPSOUT.period output))
    (hleast : 6553600 ≤ (s.eng.setAll vs).i (Od.PPSOUT.width output))
    (hmost : (s.eng.setAll vs).i (Od.PPSOUT.width output) ≤ (s.eng.setAll vs).i (Od.PPSOUT.period output) - 6553600)
    (hlen : s.eng.outs.pps.length = 4) :
    ∃ t, exec (.ppsoutConfigWrite output w roles) s = .next t ∧ s.stored t vs ∧ (t.eng.pps output).rebuild = true ∧
      s.eng.onlyObjects { t.eng with outs := s.eng.outs } := by
  subst hvs
  have hset (k : Key) : (s.eng0.setAll (recValues 0x18 (0x40 + output) w)).i k = (s.eng.setAll (recValues 0x18 (0x40 + output) w)).i k :=
    (congrArg (fun e : Eng => e.i k) (s.eng0_setAll _)).trans rfl
  have hwrite := ppsoutWrite_stores (e := s.eng0) (n := output) (vs := recValues 0x18 (0x40 + output) w) (by rw [hset]; exact hfrom)
    (by rw [hset, hset]; exact hphase) (by rw [hset]; exact hleast) (by rw [hset, hset]; exact hmost)
  obtain ⟨hnodup, hmem⟩ := recValues_named (ppsoutKeys output) had
  obtain ⟨t, ht, hans⟩ := lift_recCmd_answersOk (op := fun _ => ppsoutWrite output) hup had hwrite
  have honly := Eng.setAll_onlyObjects s.onlyObjects_eng0 (recValues 0x18 (0x40 + output) w)
  have hlen0 : (s.eng0.setAll (recValues 0x18 (0x40 + output) w)).outs.pps.length = 4 :=
    (congrArg (fun e : Eng => e.outs.pps.length) honly :).trans hlen
  refine ⟨t, (exec_ppsoutConfigWrite output w roles s).trans ht, ⟨hans.status, fun p hp => ?_, fun k hk hacc => ?_, hans.beside⟩, ?_, ?_⟩
  · obtain ⟨m, hm, hpm⟩ := hmem p hp
    rw [hans.obj _ (by rw [hpm]; exact accounting_area (by decide) (by omega))]
    exact s.eng0.setAll_i_mem _ hnodup p hp
  · exact (hans.obj k hacc).trans (s.eng0.setAll_i_other _ k hk)
  · have houts := (congrArg Eng.outs hans.rest :)
    exact (congrArg (fun o : Outs => (nth o.pps output ⟨[], false, none, 0, false, false⟩).rebuild) houts).trans
      (congrArg PpsUnit.rebuild (Eng.modPps_pps _ output _ (output.isLt.trans_eq hlen0.symm)))
  · exact Eng.onlyObjects_withOuts honly hans.rest

end

/-- Settles O49: each command leaves what its lemma says. -/
theorem steeringAndOutputsAreDriven : Obligations.SteeringAndOutputsAreDriven := by
  refine ⟨fun s roles hup => ⟨fun moon value had => ⟨exec_steerModeWrite_stores hup had, exec_steerModeWrite_refused hup had⟩,
      fun moon value had => ⟨exec_restart_restarts hup had, exec_restart_refused hup had⟩,
      fun value => exec_restartModel_restarts hup, exec_modelObservation_looks hup⟩, fun s hup => ⟨fun synth =>
      ⟨exec_synthLock_shows hup, fun hlocked => ?_⟩, fun output error v rising rest => exec_ppsoutEdge_drives hup error,
      fun at_ bytes bad => exec_todOutMessage_sends hup, fun output w roles vs => exec_ppsoutConfigWrite_stores hup⟩⟩
  exact ⟨_, (exec_synthUnlock synth s).trans (lift_up hup _), ⟨rfl, rfl, rfl⟩, Eng.synthUnlock_shows (e := s.eng0) synth.isLt hlocked⟩

end Sys2Proof.Machine
end

section
/-! # A drained write of no credential (R353, R362) -/

namespace Sys2Proof.Machine

theorem liftSettle_of_up {s : State} (hup : s.eng.up = true) (f : Ctx → Eng → Eng) :
    liftSettle f s = .next (State.settle { s with eng := f s.ctx s.eng0 }) := if_pos hup

/-- A write that waits at the queue's head: the erasure of the firmware's key 0, which is denied. It names credential 65,523, whose
count of denied operations, 60.65539/6, has the number of 70.003/6, the blocks of the Eclipse record. No credential has such a number
(R348), but the statement speaks of every state. -/
def eraseOfNoCredential : QueuedWrite := ⟨none, Od.PK_KEY.command 0, 0, [1], 15, some 65523, 0⟩

/-- A device whose firmware serves its write queue, with that write at the head. -/
def drainOfNoCredential : State :=
  { State.reset with
    eng := { State.reset.eng with
      boot := { State.reset.eng.boot with phase := .running, fw := true, restored := true }
      front := { State.reset.eng.front with queue := [eraseOfNoCredential] } } }

/-- The engines once the write is applied. -/
def drainApplied : WriteRes :=
  (drainOfNoCredential.eng0.popWrite drainOfNoCredential.ctx []).applyQueued drainOfNoCredential.ctx eraseOfNoCredential

/-- The drain counts the denied operation in an object of the Eclipse record, which the write leaves at 0. -/
theorem drainOfNoCredential_counts :
    (∃ t, exec .writeQueueDrain drainOfNoCredential = .next t ∧ t.eng.i Od.FLT_ECLIPSE.blocks = 1) ∧
      drainApplied.2.i Od.FLT_ECLIPSE.blocks = 0 := by
  refine ⟨⟨_, (exec_writeQueueDrain drainOfNoCredential).trans (liftSettle_of_up (by decide +kernel) _), ?_⟩, ?_⟩
  · decide +kernel
  · decide +kernel

/-- Refutes O56: the drain writes 70.003/6 beside what the write at the head does, where that write's credential is 65,523, which the
statement admits. -/
theorem not_requestsAreTakenQueuedAndDrained : ¬ Obligations.RequestsAreTakenQueuedAndDrained := by
  intro h
  obtain ⟨-, -, -, hdrain, -⟩ := h drainOfNoCredential (by decide +kernel)
  obtain ⟨t, ht, -, -, -, hkept⟩ :=
    hdrain eraseOfNoCredential [] drainApplied (by decide +kernel) (by decide +kernel) rfl (by decide +kernel) (by decide +kernel)
  obtain ⟨⟨t', ht', hcounted⟩, hbefore⟩ := drainOfNoCredential_counts
  have hobj := hkept Od.FLT_ECLIPSE.blocks (by decide) (by decide)
  rw [← Host.Outcome.next.inj (ht'.symm.trans ht), hcounted, hbefore] at hobj
  exact absurd hobj (by decide)

end Sys2Proof.Machine
end
